-- ==== Sys2Proof/Word.lean ====
section
/-!
DEFINITION. The word types of the model and nothing else: bytes, 32-bit core elements, and the linear microtick count.
-/
namespace Sys2Proof

/-- One byte (R7). -/
abbrev Byte := BitVec 8

/-- One 32-bit element of a Gragil stack (R400). -/
abbrev Word := BitVec 32

/-- A string of bytes: a STR or DOM value, a frame body, a message (R500). -/
abbrev Bytes := List Byte

/-- An instant of Turath time in linear microticks, as R27 linearises a TT64 value. -/
abbrev Instant := Nat

end Sys2Proof
end

