-- ==== Sys2Proof/Syntax.lean ====
section
/-!
DEFINITION. The commands of the block: one constructor per row of spec/opcode_table.json, in the table's order. The
operands are what the rule of the row names and what the environment supplies at that instant (log 4).
-/
namespace Sys2Proof

/-- Who writes, stages or commits: a core, a SOP session, or the debug channel (R498). -/
inductive Writer where
  | core (c : Fin 8) | session (s : Fin 8) | debug
  deriving DecidableEq, Repr

/-- What a listener decodes at its qualifier point: the 38 header bits of LOFDM (R129), or a standard PHR, bit i the i-th bit
sent (R122, log 206): 8 bits of O-QPSK; 16 of SUN FSK, behind so many preamble octets and the SFD of a set; 30 of SUN OFDM. -/
inductive RxHead where
  | lofdm (bits : Nat)
  | oqpsk (phr : Nat)
  | fsk (phr pre sfd : Nat)
  | ofdm (phr : Nat)
  deriving DecidableEq, Repr

/-- A panel's level as its input is sampled (R53): the panel, whether it is low (pressed), and since when. -/
structure PanelLevel where
  pad : Fin 4
  low : Bool
  since : Nat
  deriving DecidableEq, Repr

/-- What a listener measures over a frame (R108): RSSI, SNR (0.25 dB) and CFO (10 Hz). -/
structure RxMeas where
  rssi : Int
  snr : Int
  cfo : Int
  deriving DecidableEq, Repr

/-- A request that waits at the DRAM controller (R440): requester ID, address, the bytes to write (a read has none), the
bytes to read, and the error a read meets: 0 none, 1 one bit, 2 two bits of one word. -/
structure DramReq where
  req : Nat
  addr : Nat
  data : Option Bytes
  len : Nat
  err : Nat
  deriving DecidableEq, Repr

/-- A step of a job that rewrites a sector (R474, R477): whether it writes its mapping record, and the wrong bits that its copy meets,
by window address. -/
structure SectorStep where
  record : Bool
  met : List (Nat × Nat)
  deriving DecidableEq, Repr

/-- A computation of a loading map (R152, R153): asked for or periodic, and for a downlink map the DN_SNR reported and the powers
of the burst's channels in 0.5 dBm. -/
structure MapAsk where
  asked : Bool
  dn : Option (Bytes × List Int)
  deriving DecidableEq, Repr

/-- A command of the block. -/
inductive Instr where
  /-- R33. At each frame boundary the device takes the snapshot, applies observed RWT commits and starts the new frame program or the fallback frame; age is the reading of the ageing oscillators at a superframe boundary. -/
  | tickBoundary (age : Nat)
  /-- R31. At each slot start the listen set of the slot applies, temperature is updated and pending calibration may start in a QUIET slot; with the readings of the slot. -/
  | slotBoundary (vin v5 : Nat) (tj : Int) (slack : Nat) (temps : List Int)
  /-- R37. Core who writes v to the miss counter of class cls, of the anchor or of one slice. -/
  | missCounterClear (who : Fin 8) (slice : Option (Fin 4)) (cls : Nat) (v : Nat)
  /-- R28. Core who reads the low word of the 64-bit object k (index times 256 plus subindex). -/
  | wideReadLowLatch (who : Fin 8) (k : Nat)
  /-- R28. Core who writes the low word of the 64-bit object k. -/
  | wideWriteLow (who : Fin 8) (k v : Nat)
  /-- R28. Core who writes the high word of the 64-bit object k. -/
  | wideWriteHigh (who : Fin 8) (k v : Nat)
  /-- R40. After each 100 consecutive fallback frames a slice raises FALLBACK_STALL. -/
  | fallbackStall (n : Fin 4)
  /-- R44. The source event selected for counter n occurs. -/
  | counterSourceEvent (n : Fin 16)
  /-- R47. The capture event selected for counter n occurs. -/
  | counterCapture (n : Fin 16)
  /-- R41. Core who writes RUN of counter n. -/
  | tcRun (who : Fin 8) (n : Fin 16) (run : Bool)
  /-- R41. Core who writes CLEAR of counter n. -/
  | tcClear (who : Fin 8) (n : Fin 16)
  /-- R41. Core who writes SWCAP of counter n. -/
  | tcSwcap (who : Fin 8) (n : Fin 16)
  /-- R44. Core who writes v to COUNT of counter n; a source event in that cycle is lost. -/
  | tcCountWrite (who : Fin 8) (n : Fin 16) (v : Nat)
  /-- R46. COUNT of counter n is read. -/
  | tcCountRead (n : Fin 16)
  /-- R48. CAP of counter n is read, with or without a capture event in the same cycle. -/
  | tcCapRead (n : Fin 16) (capture : Bool)
  /-- R41. v is written to FLAGS of counter n. -/
  | tcFlagsClear (n : Fin 16) (v : Nat)
  /-- R53. The sampled level of a panel has been the same since an instant for the debounce time. -/
  | panelDebounceExpiry (k : PanelLevel)
  /-- R53. The press of panel k has lasted HOLD ms. -/
  | panelHoldExpiry (k : Fin 4)
  /-- R54. Panel k starts a measurement. -/
  | touchScanStart (k : Fin 4)
  /-- R56. Rising edge TOUCH_N of panel k, whose pad has cap femtofarads. -/
  | touchMeasurementDone (k : Fin 4) (cap : Nat)
  /-- R56. No oscillator edge of panel k within one scan interval. -/
  | touchFault (k : Fin 4)
  /-- R62. 1 is written to SLCn_SYN_CMD. -/
  | synCmdCalibrate (n : Fin 4)
  /-- R62. The slot boundary at which slice n forces a calibration. -/
  | calForced (n : Fin 4)
  /-- R61. A calibration of slice n ends, with or without lock. -/
  | synthCalDone (n : Fin 4) (lock : Bool)
  /-- R61. Settling of slice n reaches LOCK. -/
  | synthSettleDone (n : Fin 4)
  /-- R61. The settle time of slice n passes without lock. -/
  | synthSettleTimeout (n : Fin 4)
  /-- R65. The lock detector of slice n finds a loss of lock. -/
  | unlock (n : Fin 4)
  /-- R177. S − 384 µt of the next entry of slice n. -/
  | entryPrepare (n : Fin 4)
  /-- R76. The ramp start of the next transmission of slice n. -/
  | txRampStart (n : Fin 4)
  /-- R63. S + tol − 96 µt of the next transmission of slice n. -/
  | txStartDeadline (n : Fin 4)
  /-- R76. The last sample of the transmission of slice n ends. -/
  | txEnd (n : Fin 4)
  /-- R76. The PA of slice n turns off; rl is the return loss measured in 0.1 dB, fwd the forward power in 0.25 dBm. -/
  | txPaOff (n : Fin 4) (rl : Nat) (fwd : Int)
  /-- R76. The blanking of the last transmission of slice n ends. -/
  | blankingEnd (n : Fin 4)
  /-- R68. The switch time of slice n ends. -/
  | aerialSwitchSettled (n : Fin 4)
  /-- R69. Slice n prepares a probe of port p, which will find the return loss rl. -/
  | probe (n : Fin 4) (p : Fin 2) (rl : Nat)
  /-- R71. Slice n searches the tuner; rls holds the return loss of each of the 64 codes. -/
  | tunerSearch (n : Fin 4) (rls : List Nat)
  /-- R92. A clip detection on slice n. -/
  | gainStepDown (n : Fin 4)
  /-- R91. A window of 960 µt ends with that RMS in 0.25 dBFS units. -/
  | gainWindowEnd (n : Fin 4) (rms : Int)
  /-- R93. The pending step up of slice n has waited SLCn_GAIN_HOLD. -/
  | gainForcedUp (n : Fin 4)
  /-- R103. Listener k detects the preamble of a frame whose first sample lies at first. -/
  | preambleDetected (n : Fin 4) (k : Fin 48) (first : Instant)
  /-- R106. Listener k reaches its decision point with these energies on ports A and B. -/
  | aerialDecision (n : Fin 4) (k : Fin 48) (ea eb : Nat)
  /-- R105. Listener k reaches the qualifier point with this header. -/
  | qualifier (n : Fin 4) (k : Fin 48) (h : RxHead)
  /-- R103. The sync limit of listener k passes. -/
  | syncTimeout (n : Fin 4) (k : Fin 48)
  /-- R144. The lead block of listener k decodes to this link address and lead check. -/
  | mapResolve (n : Fin 4) (k : Fin 48) (addr check : Nat)
  /-- R103. The last sample of the frame that ends at endAt reaches listener k. -/
  | frameLastSample (n : Fin 4) (k : Fin 48) (endAt : Instant)
  /-- R105. Listener k finishes DRAIN with its measurements, the 48 subcarrier codes and the bytes decoded: of LOFDM the payload block, still scrambled; of a standard PHY the PSDU with its FCS. -/
  | drainDone (n : Fin 4) (k : Fin 48) (raw : Bytes) (m : RxMeas) (sc : List Nat)
  /-- R89. The outputs of a bank become valid after a grid change. -/
  | gridOutputsValid (n : Fin 4) (bank : Fin 2)
  /-- R110. The hold of a block that began at start ends; p holds its 48 powers in 10^-18 mW. -/
  | mapperBlockAdmit (n : Fin 4) (chan : Fin 32) (start : Instant) (p : List Nat)
  /-- R115. Core who writes 1 to SLCn_CAP_CMD. -/
  | captureArm (who : Fin 8) (n : Fin 4)
  /-- R115. 2 is written to SLCn_CAP_CMD. -/
  | captureTriggerNow (n : Fin 4)
  /-- R115. 3 is written to SLCn_CAP_CMD; data are the samples taken since the ring was last written, as far as they are known. -/
  | captureStop (n : Fin 4) (data : List Nat)
  /-- R115. CAP_AT of slice n is reached. -/
  | captureAtExpiry (n : Fin 4)
  /-- R115. The bytes after the trigger are written. -/
  | captureDone (n : Fin 4) (data : List Nat)
  /-- R444. A capture word of slice n finds its FIFO full. -/
  | captureOverrun (n : Fin 4) (data : List Nat)
  /-- R172. Core who writes an address to SLCn_FP_COMMIT. -/
  | fpCommit (who : Fin 8) (n : Fin 4) (addr : Nat)
  /-- R171. The checks of the committed program of slice n end. -/
  | fpCheckDone (n : Fin 4)
  /-- R172. T + 336,000 µt of slice n's frame. -/
  | commitDeadline (n : Fin 4)
  /-- R172. Core who writes 1 to SLCn_FP_CMD. -/
  | withdraw (who : Fin 8) (n : Fin 4)
  /-- R175. Core who writes 2 to SLCn_FP_CMD. -/
  | stop (who : Fin 8) (n : Fin 4)
  /-- R175. Core who writes 3 to SLCn_FP_CMD. -/
  | park (who : Fin 8) (n : Fin 4)
  /-- R159. W of the next uplink window of slice n. -/
  | uplinkWindowClose (n : Fin 4)
  /-- R184. V of the next uplink window of slice n. -/
  | ackVerdictCutoff (n : Fin 4)
  /-- R241. An assessment of slice n ends; pw holds the mean power of each channel in 0.25 dBm. -/
  | ccaAssess (n : Fin 4) (pw : List Int)
  /-- R227. At a superframe or epoch boundary the oldest bin of each account drops out and a new bin starts. -/
  | airtimeBinTurnover
  /-- R183. The cipher engine of slice n ends the frame that holds this element. -/
  | micVerifyDone (n : Fin 4) (slot : Nat)
  /-- R218. The sequence engine judges the next frame whose MIC state is known. -/
  | seqJudge
  /-- R219. The cold lookup for the frame that holds this element ends. -/
  | coldLookupDone (n : Fin 4) (slot : Nat)
  /-- R213. The oldest reserved element of slice n is published. -/
  | rxqPublish (n : Fin 4)
  /-- R211. Core who writes v to MAC_RXQn_CONS. -/
  | rxqConsWrite (who : Fin 8) (n : Fin 4) (v : Nat)
  /-- R220. Core who writes h to MAC_HOT_PIN. -/
  | hotPin (who : Fin 8) (h : Nat)
  /-- R220. Core who writes h + 0x8000 to MAC_HOT_PIN. -/
  | hotUnpin (who : Fin 8) (h : Nat)
  /-- R190. The rendezvous of a tag in the superframe that holds the TT64 sf, with its drift and the time since it last heard the fabric. -/
  | cipherSchedBlock (tag sf drift tsync : Nat)
  /-- R151. An accepted report of tag addr carries this uplink map. -/
  | reportMapInstall (addr : Nat) (map : Bytes)
  /-- R152. The map of tag addr is computed at slice n: the uplink map, or the downlink map from a reported DN_SNR, for a burst of channels that request these powers in 0.5 dBm; on request, or when its period is over (R153). -/
  | mapCompute (n : Fin 4) (addr : Nat) (q : MapAsk)
  /-- R247. The flooding engine takes the next flood message that arrived. -/
  | floodTake
  /-- R255. The oldest wired flood step of port p has a credit. -/
  | floodWiredSend (p : Fin 2)
  /-- R255. The deadline of the wired step of job t on port p. -/
  | floodWiredDeadline (t : Nat) (p : Fin 2)
  /-- R256. E of job t. -/
  | floodJitterEnd (t : Nat)
  /-- R258. Core who writes i to FLD_RQn_BIND. -/
  | relayBind (who : Fin 8) (n : Fin 4) (i : Nat)
  /-- R258. X of descriptor i of slice n's relay queue. -/
  | relayDeadline (n : Fin 4) (i : Nat)
  /-- R259. BIND_AT − 384 µt of descriptor i of slice n's relay queue. -/
  | relayBoundSettle (n : Fin 4) (i : Nat)
  /-- R253. Core who writes v to FLD_DQ_CONS. -/
  | fldDqConsWrite (who : Fin 8) (v : Nat)
  /-- R269. Link-up of port p, or frame 0 of a superframe. -/
  | helloSend (p : Fin 2)
  /-- R265-R267. A UDP datagram for port 47211 arrives on port p with a hop limit and a checksum verdict. -/
  | fabricDatagramRx (p : Fin 2) (hop : Nat) (sumOk : Bool) (payload : Bytes)
  /-- R269. The next accepted HELLO of port p is taken. -/
  | helloRx (p : Fin 2)
  /-- R269. The third superframe boundary in a row without a HELLO from the peer of port p. -/
  | peerLost (p : Fin 2)
  /-- R271. The beacon in element i of slice n's receive ring. -/
  | radioNeighbourUpdate (n : Fin 4) (i : Nat)
  /-- R273. FAB_LISTEN superframes have passed, or an address was lost: a candidate is picked and claimed. -/
  | addrListenEnd
  /-- R273. FAB_CLAIM_WAIT superframes have passed without a loss. -/
  | addrClaimWaitEnd
  /-- R275. The CLAIM or CONFLICT in element i of the flood delivery ring. -/
  | claimRx (i : Nat)
  /-- R275. The delay of the next CONFLICT ends. -/
  | conflictOriginate
  /-- R276. FAB_CONFLICT_WAIT superframes have passed in CONFLICT. -/
  | conflictWaitEnd
  /-- R279. A LINKSTATE is originated when one is due. -/
  | lsaOriginate
  /-- R280. The LINKSTATE in element i of the flood delivery ring. -/
  | lsdbUpdate (i : Nat)
  /-- R280. The record of address a reaches 3 × FAB_LSA_PERIOD superframes. -/
  | lsdbRecordExpire (a : Nat)
  /-- R281. The tick's share of a route run. -/
  | spfRun
  /-- R282. Core who writes v to FAB_TRAIL_COMMIT. -/
  | fabTrailCommit (who : Fin 8) (v : Nat)
  /-- R284. The fabric engine takes the next UNICAST that arrived. -/
  | unicastTake
  /-- R284. The oldest wired forward step of port p has a credit. -/
  | unicastWiredSend (p : Fin 2)
  /-- R285. Core who writes i to FAB_FQn_BIND. -/
  | forwardBind (who : Fin 8) (n : Fin 4) (i : Nat)
  /-- R285. X of descriptor i of slice n's forward queue. -/
  | forwardDeadline (n : Fin 4) (i : Nat)
  /-- R285. BIND_AT − 384 µt of descriptor i of slice n's forward queue. -/
  | forwardBoundSettle (n : Fin 4) (i : Nat)
  /-- R287. Core who writes v to FAB_UQ_CONS. -/
  | fabUqConsWrite (who : Fin 8) (v : Nat)
  /-- R294. The child on port p sends TIME_REQ. -/
  | timeReqSend (p : Fin 2)
  /-- R294. The next accepted TIME_REQ of port p is taken. -/
  | timeReqRx (p : Fin 2)
  /-- R294. T3 of the request taken on port p. -/
  | timeRspSend (p : Fin 2)
  /-- R294. The next accepted TIME_RSP of port p is taken. -/
  | timeRspRx (p : Fin 2)
  /-- R294. 384,000 µt after t1 on port p without a valid TIME_RSP. -/
  | timeExchangeMiss (p : Fin 2)
  /-- R295. The beacon in element i of slice n's receive ring, when it came from the radio parent. -/
  | beaconTimeMeasure (n : Fin 4) (i : Nat)
  /-- R296. The misses of a superframe are counted. -/
  | timingSuperframeCheck
  /-- R292. The superframe's choice among the timing candidates. -/
  | parentSwitch
  /-- R291. The end of LISTEN, or FAB_ROOT_WAIT superframes in HOLDOVER or FREE_RUN. -/
  | referenceTake
  /-- R298. Core who writes the TT64 v to FAB_TIME_SET. -/
  | fabTimeSet (who : Fin 8) (v : Nat)
  /-- R304. A superframe boundary at the base firmware. -/
  | rosterCheck
  /-- R306. The NOTICE in element i of the flood delivery ring. -/
  | rosterRx (i : Nat)
  /-- R306. A tick at which a roster is pending or stale. -/
  | rosterAdopt
  /-- R313. The HANDOVER in element i of the unicast ring. -/
  | handoverRx (i : Nat)
  /-- R313. SVC_HANDOVER_WAIT ticks have passed for a waiting shard and question. -/
  | handoverTimeout (shard q : Nat)
  /-- R311. The tag frame in element i of slice n's receive ring. -/
  | tagfwdSend (n : Fin 4) (i : Nat)
  /-- R312. The TAGFWD in element i of the unicast ring. -/
  | tagfwdRx (i : Nat)
  /-- R318. The first tick after valid presses reached this holder. -/
  | pressCount
  /-- R319. A tick of the tally. -/
  | rollupSend
  /-- R319. The ROLLUP in element i of the unicast ring. -/
  | rollupRx (i : Nat)
  /-- R320. The report of the superframe just ended is formed, now. -/
  | hcReport
  /-- R315. Core who writes 1 to SVC_Qq_CMD. -/
  | qOpen (who : Fin 8) (q : Fin 16)
  /-- R315. Core who writes 2 to SVC_Qq_CMD. -/
  | qCancel (who : Fin 8) (q : Fin 16)
  /-- R315. An epoch start or a roster adoption at the root. -/
  | questionReflood
  /-- R316. The QUESTION in element i of the flood delivery ring. -/
  | questionRx (i : Nat)
  /-- R316. OPEN_AT of question q. -/
  | questionOpenAt (q : Fin 16)
  /-- R316. CLOSE_AT of question q. -/
  | questionCloseAt (q : Fin 16)
  /-- R316. The tick at CLOSE_AT + 2 superframes of question q. -/
  | questionFinal (q : Fin 16)
  /-- R322. Core who writes 1 to SVC_LTN_CMD. -/
  | ltnSend (who : Fin 8)
  /-- R323. The CUE in element i of the flood delivery ring. -/
  | cueRx (i : Nat)
  /-- R323. FIRE_AT of the earliest pending cue. -/
  | cueFire
  /-- R325. Core who writes 1 to SVC_HMP_CMD. -/
  | hmpStart (who : Fin 8)
  /-- R325. Core who writes 2 to SVC_HMP_CMD. -/
  | hmpStop (who : Fin 8)
  /-- R325. An epoch start at the root. -/
  | catalogReflood
  /-- R326. A piece's turn in the seeding pass. -/
  | pieceSeed
  /-- R326. The PIECE in element i of the flood delivery ring, or the PIECE_RSP in element i of the unicast ring. -/
  | pieceRx (flood : Bool) (i : Nat)
  /-- R326. The superframe's request of an anchor that lacks pieces. -/
  | pieceReqSend
  /-- R326. The PIECE_REQ in element i of the unicast ring. -/
  | pieceReqRx (i : Nat)
  /-- R327. The rendezvous of a tag with listen exponent k. -/
  | tagPieceSend (tag k : Nat)
  /-- R329. The second tick after the tick of END of that frame. -/
  | homeDecide (tag fcnt : Nat)
  /-- R329. The HOME in element i of the unicast ring. -/
  | homeRx (i : Nat)
  /-- R329. SVC_HOME_AGE epochs since the home last heard the tag. -/
  | homeLapse (tag : Nat)
  /-- R330. The BSK_UP in element i of the unicast ring. -/
  | bskUpRx (i : Nat)
  /-- R331. The root's next Basket record. -/
  | bskRecordSend
  /-- R331. Core who writes v to SVC_BSK_ACKED. -/
  | bskAckedWrite (who : Fin 8) (v : Nat)
  /-- R331. The BSK_STATUS of the superframe is formed, now. -/
  | bskStatusSend
  /-- R332. Core who writes 1 to SVC_BSK_DN_CMD. -/
  | bskDnSend (who : Fin 8)
  /-- R332. The PAGE in element i of the flood delivery ring, or the BSK_DOWN or BSK_STATUS in element i of the unicast ring. -/
  | bskDownRx (page : Bool) (i : Nat)
  /-- R332. A rendezvous of the tag of a request served here; the frame carries counter fcnt. -/
  | bskDownTx (req fcnt : Nat)
  /-- R332. The DATA frame in element i of slice n's receive ring. -/
  | dnAckRx (n : Fin 4) (i : Nat)
  /-- R332. EXPIRE + 2 superframes of an open request. -/
  | bskDnExpire (req : Nat)
  /-- R346. Who writes the code of GENERATE to SHL_CMD. -/
  | shlGenerate (who : Writer)
  /-- R348. Who writes the code of IMPORT to SHL_CMD. -/
  | shlImport (who : Writer)
  /-- R346. Who writes the code of EXPORT to SHL_CMD. -/
  | shlExport (who : Writer)
  /-- R346. Who writes the code of AGREE to SHL_CMD. -/
  | shlAgree (who : Writer)
  /-- R346. Who writes the code of DERIVE to SHL_CMD. -/
  | shlDerive (who : Writer)
  /-- R346. Who writes the code of ERASE to SHL_CMD. -/
  | shlErase (who : Writer)
  /-- R345. Who writes the code of RESTRICT to SHL_CMD. -/
  | shlRestrict (who : Writer)
  /-- R356. Who writes the code of CTR_SYNC to SHL_CMD. -/
  | shlCtrSync (who : Writer)
  /-- R357. Who writes the code of PERMIT to SHL_CMD. -/
  | shlPermit (who : Writer)
  /-- R368. Who writes the code of ATTEST to SHL_CMD. -/
  | shlAttest (who : Writer)
  /-- R346. Who writes the code of PUBKEY to SHL_CMD. -/
  | shlPubkey (who : Writer)
  /-- R346. Who writes the code of SIGN to SHL_CMD. -/
  | shlSign (who : Writer)
  /-- R346. Who writes the code of VERIFY to SHL_CMD. -/
  | shlVerify (who : Writer)
  /-- R369. Who writes the code of SET_OWNER to SHL_CMD. -/
  | shlSetOwner (who : Writer)
  /-- R350. A Shell command ends with its status and raises SHELL_CMD. -/
  | shellCmd
  /-- R373. After reset slots 0 and 1 are rebuilt and SHL_STATE becomes READY. -/
  | shellReady
  /-- R359. After 2^16 requests the DRBG is reseeded from conditioned noise. -/
  | drbgReseed
  /-- R360. A failed health test sets SHL_RNG_STATE FAIL and raises RNG_FAIL. -/
  | rngFail
  /-- R360. That many consecutive windows have passed, and the DRBG is reseeded. -/
  | rngRecover (windows : Nat)
  /-- R361. Source (1-7) enters its alarm condition; for CGLITCH and KMON, whether because the clock stopped. -/
  | alarmSourceDetect (src : Nat) (stopped : Bool)
  /-- R363. The source stayed in its alarm condition to the end of its filter time. -/
  | alarmLatch (src : Nat)
  /-- R364. For each bulk cipher job that runs: its ticket, its units done, and whether the next unit had begun. -/
  | keyBusClose (cuts : List (Nat × Nat × Bool))
  /-- R363. The oldest closed alarm zeroises the slots at D + 1 µs. -/
  | slotZeroise
  /-- R363. The oldest PURGE burns the next fuse at D + 20 µs. -/
  | fusePurge
  /-- R367. Who writes v to SHL_MEASi. -/
  | measExtend (who : Writer) (i : Fin 4) (v : Bytes)
  /-- R370. SHL_DBG_CHAL is read over the debug channel. -/
  | debugChallenge
  /-- R371. SHL_DBG_RESP is written over the debug channel. -/
  | debugResponse (b : Bytes)
  /-- R372. The time of SHL_DBG_UNTIL has come. -/
  | debugUnlockEnd
  /-- R374. Core who writes the address a of a COPY descriptor to JOB_SUBMIT. -/
  | jobCopy (who : Fin 8) (a : Nat)
  /-- R376. Core who writes the address a of a FILL descriptor to JOB_SUBMIT. -/
  | jobFill (who : Fin 8) (a : Nat)
  /-- R376. Core who writes the address a of a CIPHER descriptor to JOB_SUBMIT. -/
  | jobCipher (who : Fin 8) (a : Nat)
  /-- R374. Core who writes the address a of a HASH descriptor to JOB_SUBMIT. -/
  | jobHash (who : Fin 8) (a : Nat)
  /-- R394. Core who submits a CRC descriptor of CMODE FEED at a. -/
  | jobCrcFeed (who : Fin 8) (a : Nat)
  /-- R394. Core who submits a CRC descriptor of CMODE APPEND at a. -/
  | jobCrcAppend (who : Fin 8) (a : Nat)
  /-- R394. Core who submits a CRC descriptor of CMODE STRIP at a. -/
  | jobCrcStrip (who : Fin 8) (a : Nat)
  /-- R260. Core who submits the FLOOD descriptor at a. -/
  | jobFlood (who : Fin 8) (a : Nat)
  /-- R286. Core who submits the SEND descriptor at a. -/
  | jobSend (who : Fin 8) (a : Nat)
  /-- R378. A free channel takes the next queued core job. -/
  | jobStart
  /-- R383. The running job of ticket t ends; units and begun say where a fault met it; the flash lines it read with the corrected bits of each (3 = uncorrectable). -/
  | jobEnd (t units : Nat) (begun : Bool) (lines : List (Nat × Nat))
  /-- R378. START_BY of the queued job of ticket t passes. -/
  | jobDeadline (t : Nat)
  /-- R385. At the first tick after a reset, QUEUED and RUNNING records end with cause RESET. -/
  | jobRecovery
  /-- R380. Core who writes v to JOB_LED_CONS. -/
  | jobLedConsWrite (who : Fin 8) (v : Nat)
  /-- R391. The snapshot copy is written and JOB_SNAP_CUR flips. -/
  | snapshotPublish
  /-- R389. Core who writes cell c to JOB_POOLn_FREE_CMD of pool p. -/
  | poolFree (who : Fin 8) (p : Fin 5) (c : Nat)
  /-- R392. Core who stores width bytes of v to JOB_CRCu_DATA. -/
  | crcDataFeed (who : Fin 8) (u : Fin 2) (width : Nat) (v : Nat)
  /-- R393. Core who writes 1 to JOB_CRCu_CMD. -/
  | crcStart (who : Fin 8) (u : Fin 2)
  /-- R397. v is written to JOB_CRCu_FLAGS. -/
  | crcFlagsClear (u : Fin 2) (v : Nat)
  /-- R405. Core c executes NOP. -/
  | nop (c : Fin 8)
  /-- R405. Core c executes DUP. -/
  | dup (c : Fin 8)
  /-- R405. Core c executes DROP. -/
  | drop (c : Fin 8)
  /-- R405. Core c executes SWAP. -/
  | swap (c : Fin 8)
  /-- R405. Core c executes OVER. -/
  | overElem (c : Fin 8)
  /-- R405. Core c executes ROT. -/
  | rot (c : Fin 8)
  /-- R405. Core c executes NIP. -/
  | nip (c : Fin 8)
  /-- R405. Core c executes PICK. -/
  | pick (c : Fin 8)
  /-- R405. Core c executes DEPTH. -/
  | depth (c : Fin 8)
  /-- R405. Core c executes TOR. -/
  | tor (c : Fin 8)
  /-- R405. Core c executes FROMR. -/
  | fromr (c : Fin 8)
  /-- R405. Core c executes RFETCH. -/
  | rfetch (c : Fin 8)
  /-- R405. Core c executes LIT8 with the immediate i. -/
  | lit8 (c : Fin 8) (i : Nat)
  /-- R405. Core c executes LIT16 with the immediate i. -/
  | lit16 (c : Fin 8) (i : Nat)
  /-- R405. Core c executes LIT32 with the immediate i. -/
  | lit32 (c : Fin 8) (i : Nat)
  /-- R405. Core c executes LIT0 to LIT15. -/
  | litn (c : Fin 8) (n : Fin 16)
  /-- R405. Core c executes ADD. -/
  | add (c : Fin 8)
  /-- R405. Core c executes SUB. -/
  | sub (c : Fin 8)
  /-- R405. Core c executes NEG. -/
  | neg (c : Fin 8)
  /-- R405. Core c executes MUL. -/
  | mul (c : Fin 8)
  /-- R405. Core c executes MULL. -/
  | mull (c : Fin 8)
  /-- R405. Core c executes MULLU. -/
  | mullu (c : Fin 8)
  /-- R405. Core c executes DIVS. -/
  | divs (c : Fin 8)
  /-- R405. Core c executes DIVU. -/
  | divu (c : Fin 8)
  /-- R405. Core c executes AND. -/
  | and (c : Fin 8)
  /-- R405. Core c executes OR. -/
  | or (c : Fin 8)
  /-- R405. Core c executes XOR. -/
  | xor (c : Fin 8)
  /-- R405. Core c executes NOT. -/
  | not (c : Fin 8)
  /-- R405. Core c executes SHL. -/
  | shl (c : Fin 8)
  /-- R405. Core c executes SHR. -/
  | shr (c : Fin 8)
  /-- R405. Core c executes SAR. -/
  | sar (c : Fin 8)
  /-- R405. Core c executes ROL. -/
  | rol (c : Fin 8)
  /-- R405. Core c executes ROR. -/
  | ror (c : Fin 8)
  /-- R405. Core c executes EQ. -/
  | eq (c : Fin 8)
  /-- R405. Core c executes NE. -/
  | ne (c : Fin 8)
  /-- R405. Core c executes LT. -/
  | lt (c : Fin 8)
  /-- R405. Core c executes LTU. -/
  | ltu (c : Fin 8)
  /-- R405. Core c executes GT. -/
  | gt (c : Fin 8)
  /-- R405. Core c executes GTU. -/
  | gtu (c : Fin 8)
  /-- R405. Core c executes EQZ. -/
  | eqz (c : Fin 8)
  /-- R405. Core c executes LDW; cb: the corrected bits of the flash line it may read. -/
  | ldw (c : Fin 8) (cb : Nat)
  /-- R405. Core c executes LDH. -/
  | ldh (c : Fin 8) (cb : Nat)
  /-- R405. Core c executes LDHS. -/
  | ldhs (c : Fin 8) (cb : Nat)
  /-- R405. Core c executes LDB. -/
  | ldb (c : Fin 8) (cb : Nat)
  /-- R405. Core c executes LDBS. -/
  | ldbs (c : Fin 8) (cb : Nat)
  /-- R405. Core c executes STW. -/
  | stw (c : Fin 8)
  /-- R405. Core c executes STH. -/
  | sth (c : Fin 8)
  /-- R405. Core c executes STB. -/
  | stb (c : Fin 8)
  /-- R413. Core c executes LDD; cb0 and cb1: the corrected bits of the flash lines of its words. -/
  | ldd (c : Fin 8) (cb0 cb1 : Nat)
  /-- R405. Core c executes STD. -/
  | std (c : Fin 8)
  /-- R405. Core c executes SWP. -/
  | swp (c : Fin 8)
  /-- R405. Core c executes CAS. -/
  | cas (c : Fin 8)
  /-- R405. Core c executes JMP with the 16-bit offset off. -/
  | jmp (c : Fin 8) (off : Nat)
  /-- R405. Core c executes JZ. -/
  | jz (c : Fin 8) (off : Nat)
  /-- R405. Core c executes JNZ. -/
  | jnz (c : Fin 8) (off : Nat)
  /-- R405. Core c executes CALL. -/
  | call (c : Fin 8) (off : Nat)
  /-- R405. Core c executes JMP8 with the 8-bit offset off. -/
  | jmp8 (c : Fin 8) (off : Nat)
  /-- R405. Core c executes JZ8. -/
  | jz8 (c : Fin 8) (off : Nat)
  /-- R405. Core c executes JNZ8. -/
  | jnz8 (c : Fin 8) (off : Nat)
  /-- R405. Core c executes RET. -/
  | ret (c : Fin 8)
  /-- R405. Core c executes JMPI. -/
  | jmpi (c : Fin 8)
  /-- R405. Core c executes CALLI. -/
  | calli (c : Fin 8)
  /-- R415. Core c executes TRAP n. -/
  | trap (c : Fin 8) (n : Nat)
  /-- R405. Core c executes RETT. -/
  | rett (c : Fin 8)
  /-- R405. Core c executes WAIT. -/
  | wait (c : Fin 8)
  /-- R405. Core c executes EVGET. -/
  | evget (c : Fin 8)
  /-- R405. Core c executes EVPOST. -/
  | evpost (c : Fin 8)
  /-- R402. Core c executes RDSR n. -/
  | rdsr (c : Fin 8) (n : Nat)
  /-- R402. Core c executes WRSR n. -/
  | wrsr (c : Fin 8) (n : Nat)
  /-- R405. Core c executes BRK. -/
  | brk (c : Fin 8)
  /-- R427. Core c executes XLDW. -/
  | xldw (c : Fin 8) (cb : Nat)
  /-- R405. Core c executes XSTW. -/
  | xstw (c : Fin 8)
  /-- R405. Core c executes GROW. -/
  | grow (c : Fin 8)
  /-- R418. An event reaches core c. -/
  | eventArrive (c : Fin 8) (code src arg : Nat)
  /-- R430. 1 is written to COR_c_CTRL of core c. -/
  | corRestart (who : Writer) (c : Fin 8)
  /-- R430. 2 is written to COR_c_CTRL of core c. -/
  | corHold (who : Writer) (c : Fin 8)
  /-- R430. v is written to COR_RELEASE. -/
  | corRelease (who : Writer) (v : Nat)
  /-- R441. Channel c serves a request; the requests that have arrived in the meantime, in their order, each with the error its read meets. -/
  | dramRequest (c : Fin 2) (arrived : List DramReq)
  /-- R436. Whether a clean unit is filled instead, and the error the read meets: 0 none, 1 one bit, 2 two bits. -/
  | scrubRead (fill : Bool) (err : Nat)
  /-- R439. Training begins after a reset or a HIBERNATE wake. -/
  | dramInit
  /-- R439. Training ends. -/
  | dramReady
  /-- R443. FIFO level of port n, and whether a map read has waited 960 µt. -/
  | dramPanic (n : Fin 4) (level : Nat) (waited : Bool)
  /-- R446. The oldest row due has its neighbours refreshed. -/
  | rhVictimRefresh
  /-- R445. A refresh window starts. -/
  | rhWindowStart
  /-- R447. A per-bank refresh, and the interval in ns that the temperature reading calls for. -/
  | dramRefresh (c : Fin 2) (bank : Fin 8) (base : Nat)
  /-- R449. The tick gap: the eye found by the step in 1/64 UI, and the temperatures of channel 0 and of channel 1 in °C. -/
  | dramRetrainPause (eye : Option Nat) (temp0 temp1 : Int)
  /-- R451. A superframe boundary. -/
  | dramFenceCheck
  /-- R451. T of a fence of channel c. -/
  | dramFenced (c : Fin 2)
  /-- R459. Core who writes v to DRM_RTn_MAXLEVEL. -/
  | drmRtnMaxlevelReset (who : Fin 8) (n : Fin 4) (v : Nat)
  /-- R470. Core c calls the routine: ( src faddr len -- ticket status ). -/
  | flProgram (c : Fin 8)
  /-- R474. Core c calls the routine: ( lsector area -- ticket status ). -/
  | flErase (c : Fin 8)
  /-- R477. Core c calls the routine: ( lsector area skip skiplen -- ticket status ). -/
  | flRelocate (c : Fin 8)
  /-- R473. Core c calls the routine: ( value faddr -- status ). -/
  | flCtrword (c : Fin 8)
  /-- R468. Core c calls the routine: ( faddr len -- n status ). -/
  | flBlank (c : Fin 8)
  /-- R468. Core c calls the routine: ( src dst len -- cb status ); the corrected bits of each line read, 3 = uncorrectable. -/
  | flReadchk (c : Fin 8) (cbs : List Nat)
  /-- R468. Core c calls the routine: ( lsector area -- phys erases flags status ). -/
  | flSector (c : Fin 8)
  /-- R470. The job of ticket t programs the next lines of its page: the pulses each line took, 9 where it did not verify. -/
  | flashPageProgram (t : Nat) (pulses : List Nat)
  /-- R474. The job of ticket t begins its sector operation, or writes its mapping record. -/
  | flashMappingRecord (t : Nat) (q : SectorStep)
  /-- R474. The oldest dirty sector of bank b begins to be erased. -/
  | backgroundErase (b : Fin 5)
  /-- R474. The background erase of bank b ends. -/
  | backgroundEraseDone (b : Fin 5)
  /-- R465. A read meets bank b busy. -/
  | flashReadSuspend (b : Fin 5)
  /-- R465. The read of bank b is served. -/
  | flashResume (b : Fin 5)
  /-- R486. A core writes v to FLS_LOCK, by an instruction fetched from the boot ROM or not. -/
  | flsLockWrite (who : Fin 8) (v : Nat) (rom : Bool)
  /-- R482. A core writes v to FLS_INDET_ACK. -/
  | flsIndetAck (who : Fin 8) (v : Nat)
  /-- R490. Port p receives an Ethernet frame, given without its FCS. -/
  | ethFrameRx (p : Fin 2) (frame : Bytes) (fcsOk : Bool)
  /-- R491. The oldest ICMPv6 packet of port p is a Neighbor Solicitation. -/
  | neighborSolicitationRx (p : Fin 2)
  /-- R491. The oldest ICMPv6 packet of port p is an echo request. -/
  | echoRequestRx (p : Fin 2)
  /-- R493. The link of port p comes up or changes: 1 at 1.0 Vpp, 2 at 2.4 Vpp; its signal quality and pair polarity. -/
  | linkUp (p : Fin 2) (level : Nat) (sqi : Nat) (reversed : Bool)
  /-- R493. The link of port p is lost. -/
  | linkDown (p : Fin 2)
  /-- R496. The host reads STATUS while the device is ready to accept a message or not. -/
  | hspiStatus (ready : Bool)
  /-- R497. The host writes a datagram and its CRC-32; whether HSPI_CS_N rose early, and whether the device was ready. -/
  | hspiWrite (data : Bytes) (crc : Nat) (cut ready : Bool)
  /-- R496. The host reads the next datagram, or cuts the read short. -/
  | hspiRead (cut : Bool)
  /-- R498. The host writes a debug message, as HSPI_WRITE. -/
  | hspiDbgWrite (data : Bytes) (crc : Nat) (cut ready : Bool)
  /-- R496. The host reads the next debug message. -/
  | hspiDbgRead (cut : Bool)
  /-- R498. A debug MEM_READ reads memory under an unlock. -/
  | memRead
  /-- R498. A debug MEM_WRITE writes memory under an unlock. -/
  | memWrite
  /-- R498. A debug STEP runs one instruction of a HALTED core. -/
  | step
  /-- R512. An OPEN_REQ takes a session, agrees a key, attests and answers OPEN_RSP. -/
  | openReq
  /-- R513. An OPEN_FIN is verified, granting a level with READY or freeing the session. -/
  | openFin
  /-- R513. 2 s have passed since OPEN_RSP of session x without its OPEN_FIN. -/
  | sessionOpenTimeout (x : Fin 8)
  /-- R514. A SECURED datagram is judged in the session window and its MIC checked. -/
  | securedRx
  /-- R516. SOP READ returns an object value or part of it. -/
  | read
  /-- R516. SOP WRITE writes or stages an object value. -/
  | write
  /-- R517. SOP BLOCK_READ returns a run of subindexes. -/
  | blockRead
  /-- R517. SOP BLOCK_WRITE writes entries in order up to the first failure. -/
  | blockWrite
  /-- R518. SOP COMMIT judges the session's staging set. -/
  | commit
  /-- R519. SOP SUBSCRIBE sets an event or object subscription. -/
  | subscribe
  /-- R519. SOP UNSUBSCRIBE removes a subscription. -/
  | unsubscribe
  /-- R514. SOP CLOSE closes the session, erasing its key. -/
  | close
  /-- R520. SOP PING returns TMB_NOW. -/
  | ping
  /-- R519. At each tick a watched object is compared or its period reached and NOTIFY queued. -/
  | notify
  /-- R514. Session x has had no accepted message for COM_IDLE_LIMIT superframes. -/
  | sessionIdleTimeout (x : Fin 8)
  /-- R514. 1 is written to COM_Ss_CLOSE of session x. -/
  | comSsClose (x : Fin 8)
  /-- R522. Core who writes the number of an answered handler slot. -/
  | comHndDone (who : Fin 8) (slot : Nat)
  /-- R522. A request unanswered for 100 ms ends with abort HANDLER. -/
  | handlerTimeout
  /-- R506. A whole value is written to the RWT object k: v, or b for a STR or DOM object. -/
  | stageWrite (who : Writer) (k v : Nat) (b : Bytes)
  /-- R507. Core who writes COM_COMMIT. -/
  | comCommit (who : Fin 8) (v : Nat)
  /-- R509. Core who writes COM_DOM_SEL. -/
  | comDomSel (who : Fin 8) (v : Nat)
  /-- R509. Core who writes COM_DOM_LEN. -/
  | comDomLen (who : Fin 8) (v : Nat)
  /-- R509. Core who writes COM_DOM_DATA. -/
  | comDomDataWrite (who : Fin 8) (v : Nat)
  /-- R509. Core who reads COM_DOM_DATA. -/
  | comDomDataRead (who : Fin 8)
  /-- R504. Core who writes COM_FW_VAL. -/
  | comFwVal (who : Fin 8) (v : Nat)
  /-- R502. A whole value is written to the object k: v, or b for a STR or DOM object. -/
  | registerWrite (who : Writer) (k v : Nat) (b : Bytes)
  /-- R525. The bytes b are written to EVT_POST. -/
  | evtPost (who : Writer) (b : Bytes)
  /-- R528. v is written to EVT_LOG_CLEAR. -/
  | evtLogClear (who : Writer) (v : Nat)
  /-- R528. v is written to EVT_ROUTE_RESET. -/
  | evtRouteReset (who : Writer) (v : Nat)
  /-- R528. v is written to EVT_DROP_CLEAR. -/
  | evtDropClear (who : Writer) (v : Nat)
  /-- R535. The level of pin p changes. -/
  | gpioEdge (p : Fin 16) (level : Bool)
  /-- R536. A core writes v to GIO_SET. -/
  | gioSet (who : Fin 8) (v : Nat)
  /-- R536. A core writes v to GIO_CLR. -/
  | gioClr (who : Fin 8) (v : Nat)
  /-- R536. A core writes v to GIO_TOGGLE. -/
  | gioToggle (who : Fin 8) (v : Nat)
  /-- R535. A core writes the TT64 v to GIO_p_AT. -/
  | gioAtWrite (who : Fin 8) (p : Fin 16) (v : Nat)
  /-- R535. The instant of GIO_p_AT. -/
  | gpioTimedDrive (p : Fin 16)
  /-- R537. VIN (10 mV) and EN meet the start conditions. -/
  | buckStart (vin : Nat)
  /-- R539. The next step of the power-up sequence. -/
  | powerUpSequence
  /-- R539. E0 + 5.0 ms with every rail in range; whether RESET_N is high. -/
  | pgGood (resetN : Bool)
  /-- R540. 1 VIN fell through 8.0 V, 2 EN went low, 3 VIN rose above 62 V; VIN in 10 mV. -/
  | powerFail (cause : Nat) (vin : Nat)
  /-- R540. 100 µs after the removal of PG_N. -/
  | buckStop
  /-- R541. The rail of that bit (the rails of R538 in order) lay out of range for 10 µs. -/
  | railFault (rail : Nat)
  /-- R541. 100 ms after a rail fault. -/
  | railFaultRestart
  /-- R597. The power-die sensor reaches 122 °C. -/
  | thermalShutdown
  /-- R597. The power-die sensor reads below 100 °C and 100 ms have passed. -/
  | thermalRestart
  /-- R542. A classification at that VIN (10 mV) succeeds or fails. -/
  | sccp (vin : Nat) (ok : Bool)
  /-- R542. A core writes v to PWR_SCCP_CLASS. -/
  | sccpClassWrite (who : Fin 8) (v : Nat)
  /-- R424. The tick of an accepted entry to RUN or TRIM, or to the state in force. -/
  | pstate
  /-- R546. Tn of an accepted entry to DOZE. -/
  | dozeEntry
  /-- R546. Tn of an accepted entry to HIBERNATE. -/
  | hibernateEntry
  /-- R549. The condition of wake source c holds. -/
  | wakeSource (c : Nat)
  /-- R550. The wake from DOZE begins. -/
  | dozeWake
  /-- R550. The wake from HIBERNATE after that many SLPCLK cycles counted. -/
  | hibernateWake (cycles : Nat)
  /-- R545. A core writes these bytes to PWR_TABLE. -/
  | pwrTableWrite (who : Fin 8) (b : Bytes)
  /-- R552. The end of a slot whose slack lies below the floor. -/
  | marginGuard
  /-- R553. A core writes v to PWR_CPS_CMD. -/
  | pwrCpsSurveyCmd (who : Fin 8) (v : Nat)
  /-- R553. A tick at which a survey is due. -/
  | compassSurvey
  /-- R556. The base firmware computes and commits the Compass plan; the lines of the scanned sectors that read with corrected bits, with their counts, 3 when uncorrectable. -/
  | compassPlan (lines : List (Nat × Nat))
  /-- R554. A superframe boundary with lowering steps left. -/
  | vcoreLowerStep
  /-- R589. A low pulse of RESET_N of that many ns ends. -/
  | pinReset (width : Nat)
  /-- R584. A core writes v to COR_RESET_CMD. -/
  | corResetCmd (who : Fin 8) (v : Nat)
  /-- R569. The ROM boots with MODE1:MODE0 as sampled and reaches G after that many tenths of a ms. -/
  | romBoot (mode : Nat) (time : Nat)
  /-- R569. The base firmware releases cores, extends measurements, re-imports keys and replays configuration. -/
  | baseFirmwareStart
  /-- R570. The host sends REC_STATUS. -/
  | recStatus
  /-- R570. The host sends REC_WRITE. -/
  | recWrite (off : Nat) (data : Bytes) (crc : Nat)
  /-- R570. The host sends REC_DONE; the tenths of a ms to G. -/
  | recDone (total : Nat) (time : Nat)
  /-- R572. Core c calls the routine: ( slot -- status ). -/
  | imCheck (c : Fin 8)
  /-- R572. Core c calls IM_SWITCH with mode 0: ( slot mode -- status ). -/
  | imSwitchRoll (c : Fin 8)
  /-- R572. Core c calls IM_SWITCH with mode 1: ( slot mode -- status ). -/
  | imSwitchReset (c : Fin 8)
  /-- R572. Core c calls the routine: ( -- status ). -/
  | imConfirm (c : Fin 8)
  /-- R572. Core c calls the routine: ( -- status ). -/
  | imAbandon (c : Fin 8)
  /-- R574. The host of session x writes these bytes to NBF_UPD_PIECE. -/
  | updPieceWrite (x : Fin 8) (b : Bytes)
  /-- R575. The supervisor finds every piece held. -/
  | bundleComplete
  /-- R577. The host of session x writes the TT64 v to NBF_UPD_ACT_AT. -/
  | updActAtWrite (x : Fin 8) (v : Nat)
  /-- R584. The host of session x writes 1 to NBF_UPD_CMD. -/
  | updCheck (x : Fin 8)
  /-- R584. The host of session x writes 2 to NBF_UPD_CMD. -/
  | updCancel (x : Fin 8)
  /-- R584. The host of session x writes 3 to NBF_UPD_CMD. -/
  | updAbandon (x : Fin 8)
  /-- R584. The host of session x writes 4 to NBF_UPD_CMD. -/
  | updClear (x : Fin 8)
  /-- R578. E is reached. -/
  | updateActivate
  /-- R579. The warden's next look at the roll; whether the first SOFT event of the service core restarted has come. -/
  | rollStep (soft : Bool)
  /-- R580. A superframe boundary of a trial. -/
  | healthCheck
  /-- R581. COR_IMG_HEALTH_AT is reached. -/
  | healthDeadline
  /-- R24. The sample clock of slice n loses lock. -/
  | sampleClockLockLost (n : Fin 4)
  /-- R24. The sample clock of slice n regains lock. -/
  | sampleClockLockReturn (n : Fin 4)
  /-- R593. The 32.768 kHz oscillator has started. -/
  | xo32kStart
  /-- R537. After an overvoltage stop VIN lies below 61 V. -/
  | buckRestart (vin : Nat)
  /-- R406. Core c executes an opcode that the table does not list. -/
  | reservedOpcode (c : Fin 8)
  /-- R544. The running ramp reaches its target. -/
  | vcoreRampDone
  deriving DecidableEq, Repr

end Sys2Proof
end

