-- ==== Sys2Proof/Decode.lean ====
section
/-!
DEFINITION. Commands as words of the table. No row of spec/opcode_table.json gives a command bits, so no word spells one (log
2).
-/
namespace Sys2Proof

/-- The command that a word of the table spells: none. -/
def decodeTableWord (_nbits _w : Nat) : Option Instr := none

end Sys2Proof
end

