-- ==== Sys2Proof/Config.lean ====
section
/-!
DEFINITION. What one device fixes and what the spec leaves open. Every constant here is opaque: it has no body, so no
proof can lean on a value of it. Free values are drawn by a counter of the state (State.draws, log 5); constants of one
device are arguments-free or indexed by their object (log 9); the primitives of the named standards are functions of
their inputs (log 10).
-/
namespace Sys2Proof.Config

/-- The d-th free value: a value the spec leaves open (a random draw, an undefined byte, an unstated result). -/
opaque freeNat : Nat → Nat

/-- The numeric value of a CONST object that the spec gives "per device" or "per ROM", by its key. -/
opaque deviceConst : Nat → Nat

/-- The bytes of a STR or DOM object that the spec gives "per device", by its key. -/
opaque deviceBytes : Nat → Bytes

/-- Byte a of the boot ROM (R409): its contents are not given. -/
opaque romByte : Nat → Byte

/-- The 256-bit device secret of OTP (R349). -/
opaque deviceSecret : Bytes

/-- The private key of slot 0 (R341). -/
opaque deviceKey : Bytes

/-- The SHA-256 of Nirlith image public key k, held in the boot ROM (R564). -/
opaque imageKeyHash : Nat → Bytes

/-- The vendor debug hash of OTP (R369). -/
opaque vendorHash : Bytes

/-- The check field of a SUN OFDM PHR over its 22 bits (IEEE 802.15.4, R122). -/
opaque ofdmHcs : Nat → Nat

/-- The time in µt of a SUN OFDM PSDU with its FCS (IEEE 802.15.4): mode, MCS, bytes. -/
opaque ofdmTime : Nat → Nat → Nat → Nat

/-- SHA-256 (FIPS 180-4), named by R346 and others. -/
opaque sha256 : Bytes → Bytes

/-- AES of one 16-byte block: key (16 or 32 bytes), block (FIPS 197). -/
opaque aesBlock : Bytes → Bytes → Bytes

/-- The inverse of aesBlock: key, block. -/
opaque aesUnblock : Bytes → Bytes → Bytes

/-- CCM* encryption: key, nonce, authenticated bytes, plaintext, MIC length; the ciphertext followed by the MIC. -/
opaque ccmSeal : Bytes → Bytes → Bytes → Bytes → Nat → Bytes

/-- CCM* decryption: key, nonce, authenticated bytes, ciphertext, MIC; none when the MIC fails. -/
opaque ccmOpen : Bytes → Bytes → Bytes → Bytes → Bytes → Option Bytes

/-- AES-CMAC: key, message (RFC 4493). -/
opaque cmac : Bytes → Bytes → Bytes

/-- HMAC-SHA-256: key, message. -/
opaque hmac : Bytes → Bytes → Bytes

/-- HKDF-SHA-256: secret, salt, info, length (RFC 5869). -/
opaque hkdf : Bytes → Bytes → Bytes → Nat → Bytes

/-- AES Key Wrap (RFC 3394): key, input. -/
opaque keyWrap : Bytes → Bytes → Bytes

/-- AES Key Unwrap: key, wrapped; none when the integrity check fails. -/
opaque keyUnwrap : Bytes → Bytes → Option Bytes

/-- The P-256 public key of a private key, 64 bytes (R347). -/
opaque p256Public : Bytes → Bytes

/-- ECDSA P-256 with the deterministic k of RFC 6979 (R358): private key, 32-byte digest; 64 bytes (R347). -/
opaque ecdsaSign : Bytes → Bytes → Bytes

/-- ECDSA P-256: public key, digest, signature. -/
opaque ecdsaVerify : Bytes → Bytes → Bytes → Bool

/-- ECDH P-256: private key, public key; none when the public key is not valid. -/
opaque ecdh : Bytes → Bytes → Option Bytes

/-- The FCS of IEEE 802.15.4-2020 over a PSDU: its length in bytes (2 or 4), the bytes (R119). -/
opaque stdFcs : Nat → Bytes → Bytes

/-- SHR and PHR octets of SUN FSK and SUN OFDM (IEEE 802.15.4-2020): mode, SFD set, PHR length and FCS length (R121). -/
opaque stdHead : Nat → Nat → Nat → Nat → Bytes

/-- Duration in µt of a frame of a standard PHY (IEEE 802.15.4-2020), by mode and PSDU bytes with FCS: the standard gives it,
not the spec (R177). -/
opaque airTime : Nat → Nat → Nat

end Sys2Proof.Config
end

