-- ==== Sys2Proof/Machine/State.lean ====
section
/-!
DEFINITION. The state of the TRA4816 as plain data. Every dictionary object has its home in objs (numbers) or blobs
(STR and DOM values); memory is one list of bytes; every other piece of state the spec names stands in the structure of
its chapter. State.reset is the machine right after a power-on reset. Fields marked MODEL are the model's own.
-/
namespace Sys2Proof.Machine

/-! ## The object dictionary (17_object_dictionary.md) -/

/-- An object: index × 256 + subindex. -/
abbrev Key := Nat

/-- The types of R500. -/
inductive ObjType where
  | bool | u8 | u16 | u32 | u64 | i8 | i16 | i32 | i64 | f32 | tt64 | str | dom
  deriving DecidableEq, Repr

/-- The access classes of R502. -/
inductive Access where
  | ro | rw | rwt | wo | const
  deriving DecidableEq, Repr

/-- The levels of R503, lowest first. -/
inductive Level where
  | view | operate | install | vendor
  deriving DecidableEq, Repr

/-- The default of a card: a constant, a + b × (position of the index), or a rule of its own. -/
inductive Dflt where
  | c (v : Nat) | lin (a b : Nat) | own
  deriving DecidableEq, Repr

/-- The range a card states for written values. -/
inductive ObjChk where
  | any | rng (lo hi : Int) | oneOf (l : List Int)
  deriving DecidableEq, Repr

/-- One row of an object table: nsub consecutive subindexes from sub. -/
structure ObjRow where
  sub : Nat
  nsub : Nat
  ty : ObjType
  acc : Access
  lev : Level
  dflt : Dflt
  chk : ObjChk
  deriving DecidableEq, Repr

/-- One object table: index base + stride × i + j for i below count and j below inner. -/
structure ObjGroup where
  base : Nat
  count : Nat
  stride : Nat
  inner : Nat
  rows : List ObjRow
  deriving DecidableEq, Repr

/-- A value of an object. -/
inductive Val where
  | num (v : Nat) | bytes (b : Bytes)
  deriving DecidableEq, Repr

/-- A commit accepted for the next tick (R507), with the instant at which it was observed (R33). -/
structure Accepted where
  seen : Instant
  sets : List (Key × Val)
  deriving DecidableEq, Repr

/-- An event raised (R523-R525). -/
structure Event where
  code : Nat
  src : Nat
  arg : Nat
  at_ : Instant
  data : Bytes := []
  deriving DecidableEq, Repr

/-- An entry of a core's event queue (R418). -/
structure CoreEvent where
  code : Nat
  src : Nat
  arg : Nat
  deriving DecidableEq, Repr

/-- Misses of one class and source in the running tick (R38). -/
structure MissGroup where
  cls : Nat
  src : Nat
  count : Nat
  earliest : Instant
  deriving DecidableEq, Repr

/-- A message of R515 waiting for a host: TYPE, TAG and the payload. -/
structure SopMsg where
  ty : Nat
  tag : Nat
  payload : Bytes
  deriving DecidableEq, Repr

/-- A subscription of R519. -/
inductive Sub where
  | events (lo hi : Nat)
  | object (k : Key) (mode period count last : Nat)
  deriving DecidableEq, Repr

/-- A STR or DOM value being written piece by piece over SOP (R516). -/
structure DomWrite where
  key : Key
  total : Nat
  got : Bytes
  deriving DecidableEq, Repr

/-- One SOP session beyond its objects (R512-R520). -/
structure SessSt where
  openReq : Bytes := []          -- body of OPEN_REQ
  openRsp : Bytes := []          -- body of OPEN_RSP
  wantLevel : Nat := 0
  hauth : Bytes := []
  finBy : Instant := 0           -- 2 s after OPEN_RSP (R513)
  winH : Nat := 0                -- highest host FCNT accepted (R514)
  winBits : Nat := 0             -- the 64 below it
  winAny : Bool := false
  seen : Instant := 0            -- instant of the last accepted message
  stage : List (Key × Val) := []
  subs : List (Nat × Sub) := []
  queue : List SopMsg := []      -- at most 64 (R520)
  lost : Nat := 0                -- dropped since the last one delivered
  dom : Option DomWrite := none
  deriving DecidableEq, Repr

/-- A BLOCK_READ or BLOCK_WRITE of firmware-backed objects under way (R517): its header, the entries done, the bytes of the
response so far and the entries still to write. -/
structure BlockRun where
  read : Bool
  index : Nat
  first : Nat
  count : Nat
  done : Nat := 0
  out : Bytes := []
  todo : List (Nat × Bytes) := []
  deriving DecidableEq, Repr

/-- A request in a handler slot (R522): who waits for the answer, the whole value that it writes or stages, and the block that
it belongs to. -/
structure HandlerReq where
  slot : Nat
  who : Writer
  tag : Nat
  op : Nat
  key : Key
  by_ : Instant
  value : Option Bytes := none
  block : Option BlockRun := none
  deriving DecidableEq, Repr

/-- A packet sent by a T1L port: a UDP datagram or an ICMPv6 message, with its IPv6 destination. -/
inductive WireOut where
  | udp (dst : Bytes) (port : Nat) (payload : Bytes)
  | icmp (dst : Bytes) (msg : Bytes)
  deriving DecidableEq, Repr

/-- A T1L port beyond its objects. -/
structure PortSt where
  held : List Bytes := []        -- frames held in DOZE until the wake (R549 c = 6), at most 2
  out : List WireOut := []       -- packets sent, oldest first (the wire)
  after : List WireOut := []     -- fabric datagrams that wait for the TIME_RSP of the port, oldest first (R294)
  icmp : List Bytes := []        -- IPv6 packets with ICMPv6 that wait for the port (R491)
  nbrs : List (Bytes × Bytes) := []   -- neighbours resolved: IPv6 address and MAC address
  tentative : Instant := 0       -- end of duplicate address detection
  deriving DecidableEq, Repr

/-- An SOP datagram that waits for the engine (R492, R496): its port (0 T1L0, 1 T1L1, 2 HSPI), its endpoint in the form of
COM_Ss_PEER, and its bytes. -/
structure SopIn where
  port : Nat
  peer : Bytes
  data : Bytes
  cells : List Nat := []     -- its cell of pool 4 (R388, R390)
  deriving DecidableEq, Repr

/-- A request that waits to be served (R498, R515): from a session or from the debug channel. -/
structure SopReq where
  who : Writer
  msg : SopMsg
  deriving DecidableEq, Repr

/-- The communication block (R490-R522). -/
structure ComSt where
  inbox : List SopIn := []                 -- oldest first
  requests : List SopReq := []             -- oldest first
  sessions : Vector SessSt 8 := Vector.replicate 8 {}
  accepted : List Accepted := []           -- commits accepted for the next tick, in order (R508)
  debugStage : List (Key × Val) := []      -- RWT values staged over the debug channel
  debugDom : Option DomWrite := none
  notified : Nat := 0                      -- tickMark up to which watched objects have been compared (MODEL)
  handlers : List HandlerReq := []
  ports : Vector PortSt 2 := Vector.replicate 2 {}
  hspiOut : List Bytes := []               -- SOP messages waiting, at most 4 (R497)
  hspiDbg : List Bytes := []               -- debug messages waiting, at most 4
  irqPulses : Nat := 0                     -- HOST_IRQ_N pulses given in pulse mode (R497)
  log : List Event := []                   -- the fault log by slot, at most 64 (R526)
  dropRaised : Bool := false               -- WRITE_DROPPED raised in this tick (R524)
  deriving DecidableEq, Repr

/-! ## Timebase, counters and panel (02_turath_time.md) -/

/-- Counter n beyond its objects. -/
structure TcSt where
  countLatch : Option Nat := none    -- R46
  capLatch : Option Nat := none
  matched : Bool := false            -- a compare match under CMPCLR not yet followed by a source event (R44)
  deriving DecidableEq, Repr

/-- Panel input k beyond its objects. -/
structure PanelSt where
  pressedAt : Instant := 0      -- R53
  changedAt : Instant := 0      -- the debounced state last changed (R53)
  measuring : Bool := false     -- R54
  startedAt : Instant := 0
  scanned : Bool := false       -- a measurement has begun since TOUCH mode was entered (R54)
  first : Bool := true          -- the next measurement becomes the baseline (R56)
  streak : Nat := 0             -- consecutive measurements toward a change (R56)
  deriving DecidableEq, Repr

/-- The timebase beyond its objects. -/
structure TimeSt where
  tickMark : Nat := 0           -- frames whose tick boundary has run (MODEL: frame number + 1)
  slotMark : Nat := 0           -- slots whose boundary has run (MODEL: slot number + 1)
  slotCycles : Nat := 48000     -- REFCLK cycles of the slot that runs (R29, R296)
  refAt : Nat := 0              -- REFCLK cycles up to its start
  shift : Int := 0              -- MODEL: microticks that steps of the count took back (log 186)
  shiftSf : Int := 0            -- MODEL: superframes that steps of the count took back (log 186)
  tcs : Vector TcSt 16 := Vector.replicate 16 {}
  panels : Vector PanelSt 4 := Vector.replicate 4 {}
  misses : List MissGroup := [] -- R38
  readLatch : List (Key × Nat) := []    -- high words latched by low reads (R28)
  writeLatch : List (Key × Nat) := []   -- low words held (R28)
  deriving DecidableEq, Repr

/-! ## Gragil cores (14_gragil_cores.md) -/

/-- The states of a core (R432). -/
inductive CoreRun where
  | held | run | wait | faulted | halted
  deriving DecidableEq, Repr

/-- One Gragil core (R400-R432) with its port into the dictionary engine (R509). -/
structure CoreSt where
  mode : CoreRun := .held
  pc : Word := 0
  ov : Bool := false
  c : Bool := false
  tm : Bool := false
  sprout : Bool := false
  dsp : Word := 0
  dsLo : Word := 0
  dsHi : Word := 0
  rsp : Word := 0
  sds : Nat := 0xFF00                   -- data stack pointer of Sprout mode (R425)
  srs : Nat := 0x10000                  -- return stack pointer of Sprout mode
  rsLo : Word := 0
  rsHi : Word := 0
  vbase : Word := 0x100
  tcause : Nat := 0
  taddr : Word := 0
  tpc : Word := 0
  tst : Word := 0
  cycle : Nat := 0                      -- SYSCLK cycles from leaving HELD to cycleAt, in twelfths (R403)
  busy : Nat := 0                       -- those outside WAIT
  cycleAt : Instant := 0                -- instant up to which they are counted
  cycleLatch : Option Nat := none
  queue : List CoreEvent := []
  lostSince : Nat := 0                  -- events dropped since the last LOST (R419)
  lastAt : Instant := 0              -- instant of the last hardware event queued, and how many of the newest entries
  lastN : Nat := 0                   -- arrived at it (R418)
  stage : List (Key × Val) := []        -- staging set (R506)
  commitResult : Nat := 0               -- COM_COMMIT_RESULT of this core (R507)
  domSel : Nat := 0                     -- R509
  domPos : Nat := 0
  domNew : Option (Nat × Bytes) := none -- length and bytes of a value being written
  fwSel : Nat := 0                      -- R504
  fwLow : Nat := 0                      -- low word of FAB_HELD_SINCE
  ticket : Nat := 0                     -- JOB_TICKET of this core
  deriving DecidableEq, Repr

/-- Core c at reset: the default stacks of R401; core 4 in Sprout mode at 0, the others HELD (R430). -/
def CoreSt.reset (c : Nat) : CoreSt :=
  let lo : Word := BitVec.ofNat 32 (0x20010000 + 0x2000 * c)
  { mode := if c = 4 then .run else .held
    sprout := c == 4
    dsLo := lo, dsHi := lo + 0x1000, rsLo := lo + 0x1000, rsHi := lo + 0x2000
    dsp := lo + 0x1000, rsp := lo + 0x2000 }

/-! ## Slices: radio, listeners, frame programs, received frames (03 to 07) -/

/-- One channel of a transmission. -/
structure TxChan where
  chan : Nat
  bank : Nat
  mode : Nat
  lo : Int              -- occupied band in Hz (R225)
  hi : Int
  dur : Nat             -- µt of its frame
  power : Int           -- power sent, in 0.125 dB units (R75)
  psdu : Bytes          -- the frame as sent (R188, R201)
  head : Nat := 0           -- LOFDM: the 38 header bits (R129); a standard PHY: the PHR length with FCS (R121)
  loads : List Nat := []    -- LOFDM: the load code of each data subcarrier (R139)
  fcs : Bytes := []         -- a standard PHY: the FCS formed (R121)
  sfd : Nat := 0            -- SUN FSK: the SFD set (R119)
  deriving DecidableEq, Repr

/-- A transmission from its preparation to its PA-off instant (R76). -/
structure TxSt where
  kind : Nat            -- 0x10 ENTRY, 0x11 BURST, 0x12 GANG_ACK, 0x13 PROBE
  led : Nat             -- record of the slice ledger: half × 272 + index (R386)
  start : Instant       -- S as scheduled
  tol : Nat
  dur : Nat             -- D
  lbt : Bool
  be : Nat              -- next backoff exponent (R241)
  at_ : Instant         -- instant of the next ramp or assessment
  ramp : Option Instant -- ramp start
  ended : Bool          -- the last sample has ended
  cut : Option Instant  -- instant of an early PA ramp-down (R65)
  port : Nat
  charge : Nat          -- R of R225
  bkts : List Nat       -- buckets charged
  cells : List (Nat × Nat)   -- tracker and cell charged
  chans : List TxChan
  sel : Nat             -- SEL of its record
  codes : List Nat := []    -- a tuner search: the return loss of each code (R71)
  deriving DecidableEq, Repr

/-- One listener beyond its objects (R102-R108). -/
structure LsnSt where
  deferred : Option Nat := none     -- assignment kept until SEARCH or IDLE (R103)
  since : Instant := 0              -- entry into its state
  lastSync : Option Instant := none -- last entry to SYNC
  survey : Option Nat := none       -- position surveyed in this slot (R111)
  first : Instant := 0              -- F, first sample of the packet at the port
  port : Nat := 0
  decided : Bool := false           -- the port was chosen, in DIV mode (R106)
  agc : Option Nat := none          -- level at which the digital AGC stands frozen; none while it tracks (R95)
  rssi : Int := 0                   -- 0.25 dBm at the chosen port
  len : Nat := 0
  mapId : Nat := 0
  rate : Nat := 0
  seed : Nat := 0
  fcs : Nat := 0                    -- FCS bytes of a standard PHY
  resolved : Bool := false          -- map resolved, or none needed
  addr : Nat := 0                   -- link address of the lead block
  upslot : Option (Nat × Nat) := none   -- hot entry and uplink slot used (R144)
  endAt : Option Instant := none    -- last sample at the port, once known
  cells : List Nat := []
  deriving DecidableEq, Repr

/-- A received frame that holds a queue element (R213). -/
structure RxElem where
  slot : Nat                 -- element of the ring
  listener : Nat
  chan : Nat
  freq : Int                 -- channel frequency in Hz
  legacy : Bool
  rcd : Bytes                -- the receive record of R108, MIC state still 0
  psdu : Bytes               -- PSDU as received; decrypted once the MIC is good
  raw : Bytes := []          -- PSDU as received, whatever the MIC (R181)
  endAt : Instant
  cells : List Nat
  pre : Option Nat := none   -- the cause of checks 1 to 3 of R214, made at the end of DRAIN
  mic : Option Nat := none   -- MIC state of R183
  key : Option Bytes := none -- the key its verification was issued with; none when RX was not permitted (R351)
  micAt : Instant := 0
  verdict : Option Nat := none    -- R215
  cause : Nat := 0
  hot : Nat := 0xFFFF
  first : Bool := false
  promoted : Bool := false
  keyroll : Bool := false
  cold : Bool := false       -- waits for the cold table (R219)
  verdictAt : Instant := 0
  window : Option Instant := none  -- U of the run whose window holds END (R160)
  winV : Instant := 0        -- its V
  acked : Bool := false
  up : Option (Nat × Nat) := none  -- hot entry and uplink slot that decoded it (R144)
  deriving DecidableEq, Repr

/-- A frame program in the link controller's own store (R163, R171). -/
structure Prog where
  header : Bytes
  entries : List Bytes
  lsets : List Bytes
  deriving DecidableEq, Repr

/-- An entry of the frame in force. -/
structure EntryRun where
  index : Nat
  body : Bytes
  start : Instant          -- S
  tol : Nat
  past : Bool := false     -- past S − 384 µt, or ended
  deriving DecidableEq, Repr

/-- An uplink window of the frame in force (R159). -/
structure UpWin where
  slot : Nat               -- slot that starts the run
  u : Instant
  w : Instant
  closed : Bool := false
  fixed : Bool := false    -- past V
  deriving DecidableEq, Repr

/-- Blocks admitted for one channel in this superframe (R110): linear powers in 10^-18 mW. -/
structure MapAcc where
  chan : Nat
  count : Nat
  sums : List Nat
  peaks : List Nat
  deriving DecidableEq, Repr

/-- One slice beyond its objects. -/
structure SliceSt where
  gated : Bool := false
  clock : Bool := true                 -- the slice sample clock is locked (R24)
  heard : Bool := false                -- has transmitted since reset (R29)
  -- synthesizer (R61-R63)
  retries : Nat := 0
  settle : Nat := 7680                 -- duration of the settling that runs or ran last
  readyAt : Instant := 0               -- when the running settle or calibration ends
  covers : Nat := 0                    -- requests pending when the calibration began
  oldest : Option Instant := none      -- oldest pending request
  raised : Nat := 0                    -- requests raised while the calibration runs
  oldestNew : Option Instant := none   -- the oldest of them
  calAgain : Bool := false             -- calibration retried at the next slot boundary
  lostSlot : Option Instant := none    -- start of the slot lost to a forced calibration
  -- aerials (R68-R71)
  meas : Vector (Option Nat) 2 := Vector.replicate 2 none    -- category of the last measurement
  idle : Vector Nat 2 := Vector.replicate 2 0                -- superframes without a transmission
  used : Vector Bool 2 := Vector.replicate 2 false           -- transmitted in this superframe
  switchEnd : Option Instant := none   -- end of the switch time of R68
  tunerDue : Bool := true
  -- transmissions and blanking (R76-R80)
  txs : List TxSt := []
  lastTx : Option TxSt := none         -- MODEL: the last transmission that left the air
  blanks : List Nat := []              -- 0-3 a transmission of that slice, 8 an aerial switch
  blanked : Bool := true
  spans : List (Instant × Option Instant) := [(0, none)]     -- recent blanked times
  otherSince : Option Instant := none  -- blanked by other slices since
  otherUt : Nat := 0                   -- µt blanked by other slices
  -- gain (R90-R94)
  upPending : Option Instant := none
  steps : List (Instant × Nat) := []   -- recent analog steps, newest first, with the gain index before each
  -- listeners, mapper, capture
  lsn : Vector LsnSt 48 := Vector.replicate 48 {}
  invalid : Vector (Option Instant) 2 := Vector.replicate 2 none   -- outputs of the bank invalid until (R89)
  validFrom : Vector Instant 2 := Vector.replicate 2 0             -- outputs of the bank valid since (R89)
  acc : List MapAcc := []
  accFrom : Instant := 0               -- accumulation restarted here (R112)
  lastMeans : List (Nat × Nat × Nat) := []   -- last published map: channel, Σ of means, blocks
  accRestart : Bool := false
  accWhole : Bool := true
  capAt : Instant := 0                 -- the source has been written into the ring up to here (R115)
  capFill : Nat := 0                   -- bytes written since arming
  capLeft : Nat := 0                   -- bytes still to write after the trigger
  -- frame programs (R157-R178)
  checking : Option (Prog × Nat × Nat × Nat) := none   -- program with outcome code, slot and entry of its check
  pend : Option Prog := none
  ready : Option Prog := none
  prog : Option Prog := none           -- in force
  tick : Instant := 0                  -- T of the frame that runs
  runs : List EntryRun := []
  wins : List UpWin := []
  late : Bool := false
  park : Bool := false
  fbRun : Nat := 0                     -- consecutive fallback frames in FALLBACK
  stallDue : Bool := false             -- FALLBACK_STALL owed (R40)
  ungated : Bool := false              -- the first frame after HALTED
  -- received frames (R211-R221)
  rx : List RxElem := []
  outside : List (Int × Bytes × Instant) := []   -- frames counted outside a window of late: frequency, PSDU, END (R181)
  deriving DecidableEq, Repr

/-! ## Airtime accountant (08_regulatory.md) -/

/-- A dwell cell with history or a held charge (R227, R231). -/
structure CellAcc where
  t : Nat
  c : Nat
  bins : List Nat          -- current bin first
  held : Nat
  deriving DecidableEq, Repr

/-- The accountant beyond its objects. -/
structure AirSt where
  bins : Vector (List Nat) 16 := Vector.replicate 16 [0]     -- current bin first
  cells : List CellAcc := []
  supers : Nat := 0        -- superframes whose turnover has run
  epochs : Nat := 0
  deriving DecidableEq, Repr

/-! ## Jobs, pools and CRC units (13_jobs_ledger.md) -/

/-- A core job QUEUED or RUNNING (R375-R378). -/
structure JobSt where
  ticket : Nat
  core : Fin 8
  desc : Bytes
  running : Bool := false
  seen : Option Bytes := none          -- its source as it was when the source lost its clock or power (R382, R385)
  clash : List (Nat × Nat) := []       -- ranges that jobs ended meanwhile wrote (R378)
  deriving DecidableEq, Repr

/-- A pool of cells: chains in TRANSIT and HELD (R389). -/
structure PoolSt where
  transit : List (List Nat) := []
  held : List (List Nat) := []
  credit : List (Nat × Nat) := []      -- pool 4: first cell and port of a credit-spending datagram (R390)
  lowRaised : Bool := false            -- POOL_LOW raised in this tick
  deriving DecidableEq, Repr

/-- A CRC unit beyond its objects (R392). -/
structure CrcSt where
  reg : Nat := 0           -- shift register, before XOROUT
  owner : Option Nat := none           -- ticket of the job that owns it
  deriving DecidableEq, Repr

/-- The job engine beyond its objects. -/
structure JobsSt where
  queue : List JobSt := []
  lastCore : Nat := 7                  -- core last served
  pools : Vector PoolSt 5 := Vector.replicate 5 {}
  crcs : Vector CrcSt 2 := Vector.replicate 2 {}
  snap : Option Bytes := none          -- snapshot latched at the tick, not yet published (R391)
  seq : Nat := 0                       -- snapshots taken since reset
  recover : Bool := false              -- records to end with RESET at the first tick (R385)
  deriving DecidableEq, Repr

/-! ## Sequence engine (07_air_frames.md R216-R221) -/

/-- A map write of the base firmware between steps 1 and 3 of R146. -/
structure MapDue where
  h : Nat
  slot : Nat             -- 0 UPA, 1 UPB, 2 DNA, 3 DNB
  tag : Nat
  map : Bytes
  send : Bool            -- MAP_SET follows
  deriving DecidableEq, Repr

/-- What a tag's latest PRESS or REPORT says of its rendezvous (R191, R192, R203, R204). -/
structure TagReport where
  tag : Nat
  k : Nat                -- listen exponent
  drift : Nat            -- 0.1 ppm
  age : Nat              -- sync age in ms
  endAt : Instant        -- END of the frame
  deriving DecidableEq, Repr

/-- A beacon of the base firmware and the fields that R166 and R205 fix in its entry. -/
structure Beacon where
  psdu : Bytes := []
  mode : Nat := 1
  mapsel : Nat := 1
  rate : Nat := 0
  tol : Nat := 0
  tsoff : Nat := 11
  deriving DecidableEq, Repr

/-- The sequence engine beyond its tables. -/
structure MacSt where
  victims : List (Nat × Nat) := []     -- hot set and the way of its last victim (R219)
  elemBad : Nat := 0                   -- NBF_ELEM_BAD (R209)
  upNew : List (Nat × Nat) := []       -- hot entry and uplink slot installed and not yet seen (R149)
  dnClear : List (Nat × Nat) := []     -- hot entry and downlink slot that the next tick clears (R149)
  mapDue : List MapDue := []           -- map writes that wait for the next tick (R146)
  mapSets : List (Nat × Bytes) := []   -- MAP_SET elements on their way to a tag (R149)
  mapAt : List (Nat × Bool × Nat) := []   -- tag, downlink, superframe of a link's last computation (R153)
  reports : List TagReport := []       -- what each tag reported last (R191, R192)
  dnTries : List (Nat × Nat) := []     -- tag and unacknowledged downlinks on its per-link map (R151)
  dnFixed : List Nat := []             -- tags whose downlinks stay on fixed maps (R151)
  rollAt : Instant := 0                -- a key roll began, or the last frame under the old slot was accepted (R224)
  beacons : Vector Beacon 4 := Vector.replicate 4 {}   -- what the base firmware gives a slice's beacon in this frame (R205, R271)
  deriving DecidableEq, Repr

/-! ## Flooding and fabric jobs (09, 10) -/

/-- A relay, origination or forward job with its steps (R254, R261, R284). -/
structure StepJob where
  ticket : Nat
  fabric : Bool                    -- forward or SEND of the fabric engine; else the flooding engine
  owner : Option (Fin 8 × Bytes)   -- submitting core and descriptor of a FLOOD or SEND job
  sel : Nat                        -- steps selected
  done : Nat := 0
  past : Nat := 0                  -- steps ended
  causes : List (Nat × Nat) := []  -- step and cause of those that ended otherwise than DONE
  arrival : Instant := 0
  e : Instant := 0                 -- end of the jitter (R256)
  x : Instant := 0
  jitter : Bool := false           -- radio steps wait for E
  heard : Nat := 0                 -- DUPs heard from radio before E
  cls : Nat := 0
  msg : Bytes := []                -- the copy to send
  next : Nat := 0                  -- NEXT of a radio forward
  due : Nat := 0                   -- DUE of a UNICAST, TT64
  spend : Bool := true             -- the wired copy spends a link credit
  deriving DecidableEq, Repr

/-- A BOUND descriptor of a relay or forward queue (R258, R285). -/
structure BindSt where
  fabric : Bool
  slice : Fin 4
  desc : Nat
  ticket : Nat
  step : Nat
  at_ : Instant                    -- BIND_AT
  follows : Option Nat := none     -- record of the slice ledger that the step follows
  deriving DecidableEq, Repr

/-- The jobs of the flooding and fabric engines. -/
structure StepsSt where
  jobs : List StepJob := []
  binds : List BindSt := []
  ring : Bool := false             -- a delivery element was published in this tick (R253)
  orig : Nat := 0                  -- originations in this superframe (R260)
  deriving DecidableEq, Repr

/-! ## The fabric (10_fabric.md) -/

/-- A fabric message that waits for its engine: from radio at publication, or from an accepted datagram (R246, R284). -/
structure InMsg where
  src : Nat                -- 0-3 slice, 4 and 5 T1L port 0 and 1
  at_ : Instant            -- arrival
  msg : Bytes
  cells : List Nat         -- chain that holds it
  off : Nat                -- its first byte within the chain
  uid : Nat := 0           -- UID, SRC and GRANT of a datagram
  sender : Nat := 0
  grant : Nat := 0
  deriving DecidableEq, Repr

/-- The timing advert of a neighbour (R270, R292). -/
structure Advert where
  since : Nat := 0
  parent : Nat := 0
  tref : Nat := 0
  trank : Nat := 255
  hops : Nat := 0
  sync : Nat := 0
  err : Nat := 0
  cost : Nat := 0
  deriving DecidableEq, Repr

/-- A T1L port's fabric side beyond its objects. -/
structure WireSt where
  heard : Bool := false            -- a HELLO from the peer in this superframe
  quiet : Nat := 0                 -- superframe boundaries in a row without one (R269)
  fcnts : List (Nat × Nat) := []   -- UID and highest FCNT accepted since the peer was found (R267)
  advert : Option Advert := none
  next : Nat := 0                  -- next LSEQ (R289)
  grant : Nat := 0                 -- last GRANT received
  peerTotal : Nat := 0             -- TOTAL of the peer, its GRANT when it was found (R288)
  exp : Nat := 0                   -- EXP
  total : Nat := 0                 -- FAB_Wp_CR_TOTAL as it stood when the peer was found (R288)
  delays : List Nat := []          -- last 8 delays, newest first (R294)
  theta : Option Int := none       -- first measured θ
  tseq : Nat := 0
  t1 : Option Instant := none      -- exchange that waits for its TIME_RSP
  reqHeld : Bool := false          -- a TIME_REQ waits behind a TIME_RSP of the port
  rsp : Option (Nat × Instant) := none   -- TSEQ and t2 of a request to answer
  deriving DecidableEq, Repr

/-- A radio neighbour beyond the table of R271. -/
structure RadioNb where
  addr : Nat
  heard : Nat := 0                 -- bit k: a beacon in superframe now − k
  masks : List Nat := []           -- slices by superframe, newest first
  snrs : List Int := []            -- last 8, newest first
  last : Instant := 0
  advert : Advert := {}
  theta : Option Int := none       -- first measured θ
  deriving DecidableEq, Repr

/-- A CLAIM taken (R273, R275): address, UID, SINCE, superframe. -/
structure Claim where
  addr : Nat
  uid : Nat
  since : Nat
  sf : Nat
  deriving DecidableEq, Repr

/-- A CONFLICT that a third party will originate (R275): the payload and its instant. -/
structure ConflictDue where
  at_ : Instant
  body : Bytes
  deriving DecidableEq, Repr

/-- The fabric beyond its objects. -/
structure FabSt where
  inbox : List InMsg := []
  wires : Vector WireSt 2 := Vector.replicate 2 {}
  nbs : List RadioNb := []
  attempt : Nat := 0                     -- of the hash sequence of R273
  prevAddr : Nat := 0                    -- the address held before the last reset, in a parameter sector
  stateSf : Nat := 0                     -- superframe in which the address state was entered
  lostAddr : List Nat := []              -- addresses lost in a conflict (R276)
  claims : List Claim := []
  due : List ConflictDue := []
  sent : List (Bytes × Nat) := []        -- CONFLICT pairs originated, with their superframe
  settled : List (Bytes × Nat) := []     -- pairs of conflicts counted as a party, with their superframe (R276)
  lsaSf : Option Nat := none             -- superframe of the last LINKSTATE originated
  lsaAt : Instant := 0                   -- its instant (R279)
  lsaBody : Bytes := []                  -- its payload
  spfGen : Nat := 0                      -- FAB_LSDB_GEN when the last route run began
  spf : Option (List (Nat × Bytes)) := none   -- entries of the run still to settle (R281)
  spfTick : Option Nat := none           -- frame whose share of a run is done (R281)
  trailNext : Option Nat := none         -- FAB_TRAIL_COMMIT for the next tick (R282)
  acquired : Bool := false               -- first acquisition done (R298)
  goodRun : Nat := 0                     -- measurements in a row within bound (R296)
  err0 : Nat := 0                        -- ERR at the last good measurement (R297)
  lastGood : Instant := 0
  measured : Bool := false               -- a measurement from the parent in this superframe
  missed : Bool := false                 -- a miss already counted in this superframe
  holdTemps : List Int := []             -- slice temperatures at FAB_HOLD_SINCE
  holdMove : Nat := 0                    -- largest change since, in eighths of a °C
  holdSf : Nat := 0                      -- superframe of entry to HOLDOVER, or to FREE_RUN from another state
  switchTest : Bool := false             -- the parent was taken at the third miss and is not yet measured (R296)
  splitEpoch : Option Nat := none        -- epoch of the last TIME_SPLIT (R293)
  steer : Int := 0                       -- r of R296 in 1/256 µt per superframe
  deriving DecidableEq, Repr

/-! ## Hosted services (11_services.md): the tables of the base firmware -/

/-- A ROSTER payload (R305). -/
structure Roster where
  root : Nat
  gen : Nat
  eff : Nat               -- EFFECTIVE, TT64
  count : Nat
  digest : Bytes
  deriving DecidableEq, Repr

/-- A question as held (R314, R316), with what this holder has counted (R318). -/
structure Quest where
  nopt : Nat := 0
  openAt : Nat := 0       -- TT64
  closeAt : Nat := 0      -- TT64
  lo : Nat := 0
  span : Nat := 0
  counts : List (Nat × List Nat) := []   -- shard and its eight counts
  bits : List Nat := []                  -- TAG − TAG_LO of each tag counted
  reported : Bool := false               -- in a report since it became FINAL or CANCELLED (R320)
  deriving DecidableEq, Repr

/-- A shard that waits for a handover of one question (R313). -/
structure WaitShard where
  shard : Nat
  q : Nat
  since : Nat             -- tick of adoption
  held : List (Bytes × Nat) := []        -- TAGFWD payloads and their senders, in arrival order
  deriving DecidableEq, Repr

/-- The latest ROLLUP of a child (R319). -/
structure Child where
  addr : Nat
  nodes : Nat
  recs : List (Nat × Nat × Nat × List Nat)   -- Q, STATE, ROUND, totals
  sf : Nat                -- superframe of its arrival
  deriving DecidableEq, Repr

/-- A hearer's copy of a frame at the owner (R329). -/
structure Offer where
  fcnt : Nat
  hearer : Nat
  rssi : Int
  endAt : Instant
  deriving DecidableEq, Repr

/-- The whereabouts of a tag at its owner (R329). -/
structure Home where
  tag : Nat
  home : Nat := 0         -- 0 none
  rssi : Int := 0
  heard : Instant := 0
  offers : List Offer := []
  deriving DecidableEq, Repr

/-- A downlink request (R332): REQ, TAG, EXPIRE (TT64), data; at the serving anchor the counters of its frames, and whether a PAGE
brought it. -/
structure DnReq where
  req : Nat
  tag : Nat
  expire : Nat
  data : Bytes
  sent : List Nat := []
  paged : Bool := false
  deriving DecidableEq, Repr

/-- A Hamper campaign (R325, R326). -/
structure Campaign where
  desc : Bytes                           -- the 40-byte descriptor
  image : Bytes := []                    -- the KIND 1 image that its root seeds
  root : Bool := false                   -- this anchor started it
  next : Nat := 0                        -- next index to seed
  pieces : List (Nat × Bytes) := []      -- pieces held
  seedSf : Option Nat := none            -- superframe of the last seeding
  reqSf : Option Nat := none             -- superframe of the last PIECE_REQ
  ansSf : Nat := 0                       -- superframe of the last PIECE_RSP
  answered : Nat := 0                    -- PIECE_RSPs sent in it
  deriving DecidableEq, Repr

/-- An HC_REPORT formed and not sent yet (R20, R320). -/
structure Report where
  formed : Instant        -- the end of frame 99
  empty : Bool            -- it shows RFLAGS[1]
  nodes : Nat
  totals : List (Fin 16 × List Nat)      -- the questions it shows and their totals
  ended : List (Fin 16)   -- those of them that are FINAL or CANCELLED
  body : Bytes
  deriving DecidableEq, Repr

/-- The services beyond their objects. -/
structure SvcSt where
  cur : Option Roster := none            -- the roster in force
  members : List Nat := []               -- its member set, ascending
  pend : Option Roster := none           -- PENDING or STALE
  published : Bool := false              -- this anchor has published a roster itself
  settle : Nat := 0
  settleSet : List Nat := []
  adoptedSf : Option Nat := none         -- superframe of the last adoption
  empty : Bool := false                  -- a shard started empty since the last report
  quests : Vector Quest 16 := Vector.replicate 16 {}
  waits : List WaitShard := []
  presses : List (Nat × Bytes) := []     -- valid TAGFWDs of PRESS until the next tick, with the frame of their arrival
  report : Option Report := none         -- the report of the superframe just ended
  children : List Child := []
  lastTotals : List Nat := []            -- the totals of the last ROLLUP sent
  cues : List Bytes := []                -- pending CUE payloads
  homes : List Home := []
  homesHere : List Nat := []             -- tags whose home is this anchor
  dedup : List (Bytes × Instant) := []   -- TAG, KEY, FCNT taken and when (R330)
  records : List (Nat × Bytes) := []     -- Basket records not acknowledged, by SEQ
  recNext : Nat := 0                     -- next SEQ to send
  runDue : Bool := false                 -- a run waits for the random source (R330, R360)
  fullSf : Option Nat := none            -- superframe of the last BSK_FULL
  opens : List DnReq := []               -- requests open at the root
  serves : List DnReq := []              -- requests this anchor serves
  camp : Option Campaign := none
  deriving DecidableEq, Repr

/-! ## Shell (12_shell.md) -/

/-- An alarm whose sequence of R363 runs. -/
structure AlarmRun where
  src : Nat            -- source c of R361
  act : Nat            -- 2 ERASE, 3 PURGE
  d : Instant          -- D
  closed : Bool := false     -- the key bus has closed
  zeroised : Bool := false   -- every slot is zeroised
  unlock : Option Nat := none  -- a VENDOR unlock of this duration follows the purge (R372)
  deriving DecidableEq, Repr

/-- The Shell beyond its objects (R340-R373). -/
structure ShellSt where
  keys : List (Nat × Bytes) := []          -- key material by slot, none for an EMPTY slot
  marks : List (Nat × Nat) := []           -- mark M found at the last load or CTR_SYNC (R356)
  running : Option (Nat × Nat) := none     -- command that runs and the status it ends with (R346, R350)
  asked : Option (Writer × Nat) := none    -- the SOP WRITE, with its tag, that its response waits for (R350)
  ownerHash : Option Bytes := none         -- owner debug authority hash of OTP (R369)
  permit : Nat := 0                        -- erase permits of the counter copies (R357)
  sources : List (Nat × Instant) := []     -- sources in their alarm condition, with the end of the filter time
  alarms : List AlarmRun := []
  challenge : Option Bytes := none         -- outstanding debug challenge (R370)
  drbgReq : Nat := 0                       -- requests since the last reseed (R359)
  persistTick : List Nat := []             -- slots whose CTR_PERSIST event was raised in this tick (R356)
  deriving DecidableEq, Repr

/-! ## DRAM (15_dram.md) -/

/-- A row whose count reached a multiple of DRM_RH_THRESH (R446): bank of a channel (8 × channel + bank), row, requester. -/
structure Victim where
  bank : Nat
  row : Nat
  req : Nat
  deriving DecidableEq, Repr

/-- A requester throttled in a bank, with the instant of its last activate there (R446). -/
structure Throttle where
  bank : Nat
  req : Nat
  last : Instant
  deriving DecidableEq, Repr

/-- The DRAM controller beyond its objects. Row units are numbered 2 u + channel, or u once a channel is fenced. -/
structure DramSt where
  dirty : List Nat := []               -- row units written since the last initialisation (R439)
  fill : Nat := 0                      -- units below this one have been filled by the scrubber
  bad : List Nat := []                 -- addresses of blocks with an uncorrectable error (R435)
  openRow : Vector (Option Nat) 16 := Vector.replicate 16 none
  hits : Vector Nat 16 := Vector.replicate 16 0          -- consecutive hits on the open row (R441)
  ptr : Vector Nat 2 := Vector.replicate 2 0             -- rotating pointer
  rows : Vector (List (Nat × Nat)) 16 := Vector.replicate 16 []    -- row and count, at most 32 (R445)
  due : List Victim := []
  throttled : List Throttle := []
  rhRaised : List Nat := []            -- requesters with an RH_THROTTLE in this window
  panic : Vector Bool 4 := Vector.replicate 4 false
  ceRun : Vector Nat 2 := Vector.replicate 2 0           -- corrected errors in the running superframe
  ceRaised : Vector Bool 2 := Vector.replicate 2 false   -- DRAM_CE raised in it
  tempInt : Vector Nat 2 := Vector.replicate 2 488       -- interval the temperature reading calls for, ns (R447)
  round : Vector (Option Nat) 2 := Vector.replicate 2 none   -- next step of the round that runs (R448)
  roundBad : Vector Bool 2 := Vector.replicate 2 false   -- a step of it failed
  began : Vector Nat 2 := Vector.replicate 2 0           -- superframe in which the last round began
  wakeDue : Vector Bool 2 := Vector.replicate 2 false    -- a wake from DOZE asks for a round (R449)
  lastRound : Nat := 1                 -- channel of the last round begun
  queue : List DramReq := []           -- reads waiting in the bank queues, in order of arrival (R441)
  wbuf : List DramReq := []            -- writes in the write buffers
  gapAt : Option Instant := none       -- start of the last pause (R449)
  temp : Vector (Option Int) 2 := Vector.replicate 2 none   -- temperature when the last round began, °C
  scrub : Nat := 0                     -- next block of the patrol (R436)
  fenceDue : List (Nat × Instant) := []   -- channels to fence, with T (R451)
  deriving DecidableEq, Repr

/-! ## Flash (16_flash.md) -/

/-- A flash bank (R461): physical sectors are numbered from 0 in their bank. -/
structure BankSt where
  used : List Nat                  -- physical sector of each logical sector of the bank, in order
  clean : List Nat                 -- clean pool sectors, oldest first
  dirty : List Nat := []           -- dirty pool sectors, oldest first
  retired : List Nat := []
  wear : List (Nat × Nat) := []    -- erase count of each physical sector that has one
  erasing : Bool := false          -- the background erase of the oldest dirty sector runs
  warnCb : List Nat := []          -- physical sectors with the corrected-bit warning (R478)
  warnPulse : List Nat := []       -- with the pulse warning (R479)
  warnAt : List (Nat × Nat) := []  -- physical sector and epoch of its last FLASH_WARN
  suspended : Bool := false        -- the operation of the bank is suspended (R465)
  resumedAt : Instant := 0
  emptyRaised : Bool := false      -- FLASH_POOL_EMPTY raised (R475)
  deriving DecidableEq, Repr

/-- Bank b as manufactured: the mapping is the identity (log 51). -/
def BankSt.fresh (b : Nat) : BankSt :=
  if b < 4 then { used := List.range 60, clean := [60, 61, 62, 63] }
  else { used := List.range 16, clean := (List.range 16).map (· + 16) }

/-- A FLASH job (R470, R474, R477): op 0 PROGRAM, 1 ERASE, 2 RELOCATE. -/
structure FlashJob where
  ticket : Nat
  core : Fin 8
  op : Nat
  area : Nat
  sector : Nat
  src : Nat := 0
  addr : Nat := 0
  len : Nat := 0               -- PROGRAM: bytes; RELOCATE: bytes of the skip range
  skip : Nat := 0
  running : Bool := false
  done : Nat := 0              -- bytes programmed and verified
  deriving DecidableEq, Repr

/-- An open intent of the journal (R482), in the terms of R483. -/
structure Intent where
  op : Nat
  area : Nat
  sector : Nat
  addr : Nat
  len : Nat
  ticket : Nat
  old : Bool := false          -- left open by a reset, and reported
  deriving DecidableEq, Repr

/-- A counter word that FL_CTRWORD programs, with what it held and the instant of the call (R473). -/
structure CtrWord where
  addr : Nat
  old : Nat
  new : Nat
  at_ : Instant
  deriving DecidableEq, Repr

/-- The flash controller beyond its objects and the bytes of the window. -/
structure FlashSt where
  banks : Vector BankSt 5 := #v[BankSt.fresh 0, BankSt.fresh 1, BankSt.fresh 2, BankSt.fresh 3, BankSt.fresh 4]
  jobs : List FlashJob := []       -- in ticket order
  intents : List Intent := []      -- open intents
  ue : List Nat := []              -- window addresses of lines that read as uncorrectable, ascending (R463)
  met : List (Nat × Nat) := []     -- lines and words that read with wrong bits, with their number, ascending (log 225)
  word : Option CtrWord := none    -- the counter word programmed last (R473)
  lockWritten : Bool := false      -- FLS_LOCK has been accepted since reset (R486)
  deriving DecidableEq, Repr

/-! ## Power die, clocks and pins (18_power_compass.md, 20_balls_electrical.md) -/

/-- A ramp of VCORE or body bias that still runs (R541, R544). -/
structure Ramp where
  vcore : Nat          -- target, mV
  bias : Int           -- target, mV
  by_ : Instant := 0   -- end of the ramp at the slews of the power table (R545)
  deriving DecidableEq, Repr

/-- An accepted entry into a power state (R423, R546). -/
structure Entry where
  target : Nat
  accepted : Instant
  at_ : Instant        -- Tn, the first tick boundary after acceptance
  deriving DecidableEq, Repr

/-- The power die and the power states beyond their objects (R537-R556, R587-R597). -/
structure PowerSt where
  vin : Nat := 2400                    -- VIN in 10 mV
  en : Bool := true                    -- EN ball
  buck : Bool := true                  -- the buck runs
  pgGood : Bool := true                -- PG_N driven low
  e0 : Instant := 0                    -- instant at which the buck may start (R539)
  rails : Nat := 6                     -- steps of the sequence of R539 done, 0-6
  failAt : Option Instant := none      -- F of R540
  restartAt : Option Instant := none   -- 100 ms after a rail fault (R541, R597)
  thermal : Bool := false              -- stopped by a thermal shutdown (R597)
  railFaultReport : Bool := false      -- RAIL_FAULT owed at the next start (R541)
  past : Bool := false                 -- stopped by an overvoltage (R537)
  porDue : Bool := false               -- power-on reset owed at the release of RESET_N (R589)
  sccpDone : Bool := false             -- an SCCP exchange ended since VIN was last absent (R542)
  sccpReport : Bool := false           -- SCCP event owed at the next start
  ramp : Option Ramp := none
  entry : Option Entry := none
  wakes : List Nat := []               -- wake sources pending (R546, R549)
  wakeAt : Option Instant := none      -- W of a wake in progress
  ungateAt : Option Instant := none    -- W + 40 µs of a DOZE wake whose slices still wait (R550)
  xo32k : Bool := false                -- the 32.768 kHz oscillator runs (R593)
  slpCycles : Nat := 0                 -- SLPCLK cycles counted in HIBERNATE (R548)
  mode : Nat := 0                      -- MODE1:MODE0 as sampled (R566)
  vinLow : Bool := false               -- VIN_LOW raised in this superframe (R537)
  guardRaised : Bool := false          -- MARGIN_GUARD raised in this superframe (R552)
  lostRaised : Bool := false           -- MARGIN_LOST raised in this superframe
  warnRaised : Bool := false           -- THERMAL_WARN raised in this superframe
  keptBefore : Nat := 0xFFFFFFFF       -- banks that kept their bytes through the last state (R606)
  slackRun : Nat := 63                 -- live minima since the last survey (R551, R553)
  slackTrim : Nat := 63
  tjSum : Int := 0
  tjCount : Nat := 0
  driftSum : Int := 0
  driftTj : Int := 0                   -- sum of FAB_FREQ × PWR_TJ
  driftTjSum : Int := 0
  driftTj2 : Int := 0
  driftCount : Nat := 0
  driftLast : Int := 0                 -- mean drift of the survey before (R556)
  paHigh : Vector (Int × Nat) 4 := Vector.replicate 4 (0, 0)
  paLow : Vector (Int × Nat) 4 := Vector.replicate 4 (0, 0)
  eyeMin : Vector Nat 2 := Vector.replicate 2 64
  ceSum : Vector Nat 2 := Vector.replicate 2 0
  eyeSurvey : Vector Nat 2 := Vector.replicate 2 64     -- the survey results frozen (R553)
  ceSurvey : Vector Nat 2 := Vector.replicate 2 0
  surveySpan : Nat := 0                -- µt from the survey before to this one
  cleanSurveys : Nat := 0              -- surveys in a row without a corrected error (R556)
  scanNext : Nat := 0                  -- next main sector of the FL_READCHK rotation (R556)
  surveyAsked : Option Instant := none -- instant of the write of PWR_CPS_CMD (R553)
  stepSf : Option Nat := none          -- superframe of the last lowering step of VCORE, or of its plan (R554)
  guardDone : Bool := false            -- the margin guard has acted on the last slot (R552)
  resetsDue : List Nat := []           -- reset causes due at the next tick boundary (R572, R584)
  deriving DecidableEq, Repr

/-! ## Start-up and update (19_boot_update.md) -/

/-- A roll of the cores under way (R579): the core whose turn it is, and the tick at which its step began. -/
structure Roll where
  core : Nat
  began : Option Instant := none
  deriving DecidableEq, Repr

/-- The boot ROM and the update supervisor beyond their objects. -/
structure BootSt where
  recovery : Bool := false               -- the ROM stays in recovery (R570)
  recStatus : Nat := 0                   -- status of the last REC_WRITE
  recTop : Nat := 0                      -- highest byte written plus 1
  config : List (Nat × Val) := []        -- configuration records in parameter sectors 0-7, newest value of each object (R571)
  keyBlobs : List (Nat × Bytes) := []    -- arguments of the IMPORTs of persistent keys, by slot (R365, R569)
  catalog : Bytes := []                  -- the KIND 0 CATALOG last taken, in parameter sectors 8-9 (R575)
  size : Nat := 0                        -- SIZE of the image collected
  rejected : Option Nat := none          -- IMAGE whose pieces are refused (R576)
  roll : Option Roll := none
  progAll : Bool := true                 -- every clocked slice was in PROGRAM so far in this superframe (R580)
  healthRun : Nat := 0                   -- superframes in a row that met the criteria
  faults : Nat := 0                      -- COR_DBL_FAULTS and EVT_CORE_LOST when the trial began
  lost : Nat := 0
  deriving DecidableEq, Repr

/-! ## The whole machine -/

/-- The state of the TRA4816. -/
structure State where
  now : Instant := 0                        -- TMB_NOW in linear microticks (R26, R29)
  draws : Nat := 0                          -- MODEL: free values drawn so far (log 5)
  rdata : Nat := 0                          -- MODEL: the value the last read command answered (log 11)
  rbytes : Bytes := []                      -- MODEL: the bytes the last read command answered (log 11)
  objs : List (Nat × Nat) := []             -- every numeric object, by key
  blobs : List (Nat × Bytes) := []          -- every STR and DOM object, by key
  mem : List Host.Cell := []                -- the whole address map of R409
  time : TimeSt := {}
  com : ComSt := {}
  cores : Vector CoreSt 8 := #v[CoreSt.reset 0, CoreSt.reset 1, CoreSt.reset 2, CoreSt.reset 3,
                                CoreSt.reset 4, CoreSt.reset 5, CoreSt.reset 6, CoreSt.reset 7]
  slices : Vector SliceSt 4 := Vector.replicate 4 {}
  air : AirSt := {}
  jobs : JobsSt := {}
  mac : MacSt := {}
  steps : StepsSt := {}
  fab : FabSt := {}
  svc : SvcSt := {}
  shell : ShellSt := {}
  dram : DramSt := {}
  flash : FlashSt := {}
  power : PowerSt := {}
  boot : BootSt := {}
  pending : List Instr := []                -- the commands that wait, first in first out
  deriving DecidableEq, Repr

/-- Why the machine stops. No command of the block ends in one: every rule of the spec gives its command an effect
(log 1). -/
inductive Fault where
  /-- Raised by no meaning: kept so that the type has a value. Safe. -/
  | none
  deriving DecidableEq, Repr

/-- Why a command has no meaning. -/
inductive Refusal where
  /-- Raised by the dispatcher for a command that is not modelled yet. Safe. -/
  | notModelled (mnemonic : String)
  deriving DecidableEq, Repr

/-- The machine right after a power-on reset: every object at the default of its card, memory with nothing listed, every
structure as its chapter leaves it. -/
def State.reset : State := {}

end Sys2Proof.Machine
end

