-- ==== Sys2Proof/Machine/Bits.lean ====
section
/-!
DEFINITION. Bit fields, two's complement and byte order (R7), shared by every family.
-/
namespace Sys2Proof.Machine

/-- Field [hi:lo] of v. -/
def fld (v hi lo : Nat) : Nat := v / 2 ^ lo % 2 ^ (hi + 1 - lo)

/-- Bit b of v. -/
def bitOf (v b : Nat) : Bool := v / 2 ^ b % 2 == 1

/-- v with bit b set to x. -/
def setBit (v b : Nat) (x : Bool) : Nat :=
  if bitOf v b == x then v else if x then v + 2 ^ b else v - 2 ^ b

/-- v with field [hi:lo] replaced by x. -/
def setFld (v hi lo x : Nat) : Nat :=
  v - fld v hi lo * 2 ^ lo + (x % 2 ^ (hi + 1 - lo)) * 2 ^ lo

/-- 1 or 0. -/
def b2n (b : Bool) : Nat := if b then 1 else 0

/-- The signed value of the low w bits. -/
def toI (w v : Nat) : Int :=
  let u := v % 2 ^ w
  if 2 * u < 2 ^ w then (u : Int) else (u : Int) - (2 ^ w : Nat)

/-- The two's complement of x in w bits. -/
def ofI (w : Nat) (x : Int) : Nat := (x % ((2 ^ w : Nat) : Int)).toNat

/-- The n low bytes of v, least significant first. -/
def leBytes : Nat → Nat → Bytes
  | 0, _ => []
  | n + 1, v => BitVec.ofNat 8 v :: leBytes n (v / 256)

/-- The number that bytes spell, least significant first. -/
def leNat : Bytes → Nat
  | [] => 0
  | b :: r => b.toNat + 256 * leNat r

/-- n bytes of l from offset o, bytes beyond the end reading 0. -/
def sliceB (l : Bytes) (o n : Nat) : Bytes :=
  let x := (l.drop o).take n
  x ++ List.replicate (n - x.length) 0

/-- The unsigned field of n bytes at offset o. -/
def fieldN (l : Bytes) (o n : Nat) : Nat := leNat (sliceB l o n)

/-- The number of set bits among the low n bits. -/
def popCount : Nat → Nat → Nat
  | 0, _ => 0
  | n + 1, v => v % 2 + popCount n (v / 2)

/-- The quotient rounded up. -/
def ceilDiv (a b : Nat) : Nat := (a + b - 1) / b

/-- x held between lo and hi. -/
def clampI (lo hi x : Int) : Int := if x < lo then lo else if hi < x then hi else x

/-- Bitwise and, or, exclusive or of Nat, under short names. -/
def natAnd (a b : Nat) : Nat := a &&& b
/-- Bitwise or. -/
def natOr (a b : Nat) : Nat := a ||| b

/-- Bytes of an ASCII string. -/
def ascii (s : String) : Bytes := s.toList.map (fun c => BitVec.ofNat 8 c.toNat)

/-- Element i of a list, or d. -/
def nth {α : Type} (l : List α) (i : Nat) (d : α) : α := l.getD i d

/-- Change element i of a list. -/
def modAt {α : Type} (l : List α) (i : Nat) (f : α → α) : List α :=
  match l, i with
  | [], _ => []
  | x :: r, 0 => f x :: r
  | x :: r, i + 1 => x :: modAt r i f

/-- Sum of a list. -/
def sumL (l : List Nat) : Nat := l.foldl (· + ·) 0

/-- 0 and 1. -/
def fin2 : List (Fin 2) := [0, 1]
/-- 0 to 3. -/
def fin4 : List (Fin 4) := [0, 1, 2, 3]
/-- 0 to 4. -/
def fin5 : List (Fin 5) := [0, 1, 2, 3, 4]
/-- 0 to 7. -/
def fin8 : List (Fin 8) := [0, 1, 2, 3, 4, 5, 6, 7]
/-- 0 to 15. -/
def fin16 : List (Fin 16) := [0, 1, 2, 3, 4, 5, 6, 7, 8, 9, 10, 11, 12, 13, 14, 15]
/-- The Fin of n elements that a Nat names modulo n. -/
def asFin (n : Nat) [NeZero n] (x : Nat) : Fin n := Fin.ofNat n x

/-- Change one element of a vector. -/
def vmod {α : Type} {n : Nat} (v : Vector α n) (i : Fin n) (f : α → α) : Vector α n :=
  v.set i.val (f v[i]) i.isLt

end Sys2Proof.Machine
end

