-- ==== Sys2Proof/Machine/Time.lean ====
section
/-!
DEFINITION. The Turath timebase (02_turath_time.md R23-R31): the levels, the TT64 value and the boundaries of slots, frames,
superframes and epochs, over linear microticks.
-/
namespace Sys2Proof.Machine

/-- Microticks of a slot (R23). -/
abbrev slotT : Nat := 48000
/-- Microticks of a frame, the tick (R23). -/
abbrev frameT : Nat := 384000
/-- Microticks of a superframe (R23). -/
abbrev superT : Nat := 38400000
/-- Microticks of an epoch (R23). -/
abbrev epochT : Nat := 2304000000
/-- The TT64 range in linear microticks, after which the count wraps to 0 (R27). -/
abbrev ttRange : Nat := 2 ^ 32 * epochT

/-- The TT64 value of a linear instant (R26). -/
def tt64 (t : Instant) : Nat :=
  let e := t / epochT % 2 ^ 32
  let sf := t / superT % 60
  let fr := t / frameT % 100
  let sl := t / slotT % 8
  e * 2 ^ 32 + sf * 2 ^ 26 + fr * 2 ^ 19 + sl * 2 ^ 16 + t % slotT

/-- The linear instant of a TT64 value (R27). -/
def linear (v : Nat) : Instant :=
  ((((fld v 63 32 * 60 + fld v 31 26) * 100 + fld v 25 19) * 8 + fld v 18 16) * 48000) + fld v 15 0

/-- A TT64 value is malformed when a field lies outside its valid range (R27). -/
def ttValid (v : Nat) : Bool :=
  decide (v < 2 ^ 64) && decide (fld v 31 26 ≤ 59) && decide (fld v 25 19 ≤ 99) && decide (fld v 15 0 ≤ 47999)

/-- Start of the frame that holds t. -/
def frameStart (t : Instant) : Instant := t / frameT * frameT
/-- Start of the slot that holds t. -/
def slotStart (t : Instant) : Instant := t / slotT * slotT
/-- Start of the superframe that holds t. -/
def superStart (t : Instant) : Instant := t / superT * superT
/-- Start of the frame after the one that holds t. -/
def nextFrame (t : Instant) : Instant := (t / frameT + 1) * frameT
/-- Frame of its superframe, 0-99. -/
def frameOf (t : Instant) : Nat := t / frameT % 100
/-- Slot of its frame, 0-7. -/
def slotOf (t : Instant) : Nat := t / slotT % 8
/-- The first boundary of period p at or after t. -/
def boundaryAt (p t : Nat) : Nat := (t + p - 1) / p * p

end Sys2Proof.Machine
end

