-- ==== Sys2Proof/Machine/Objects.lean ====
section
/-!
DEFINITION. The object dictionary of the spec as data: one row per object of every object table
(17_object_dictionary.md R500-R503 and the tables of each chapter), with index, subindex, type, access class, level,
default and the range its card allows, and one key per object under the manual's own name (the placeholder letters n,
k, c, p, q, s, t, u, b of a name are the arguments, in the order in which they stand in the index).
-/
namespace Sys2Proof.Machine

/-- The key of object index:sub in the store. -/
abbrev okey (index sub : Nat) : Key := index * 256 + sub

/-- One row of an object table. -/
def r (sub n : Nat) (ty : ObjType) (acc : Access) (lev : Level) (d : Dflt) (c : ObjChk) : ObjRow :=
  ⟨sub, n, ty, acc, lev, d, c⟩

namespace Obj
/-- R4. Vendor name: STR CONST. -/
abbrev ID_VENDOR : Key := okey (0x0) (1)

/-- R4. Part number: STR CONST. -/
abbrev ID_PART : Key := okey (0x0) (2)

/-- R4. Main-die revision: U16 CONST. -/
abbrev ID_DIE_REV : Key := okey (0x0) (3)

/-- R4. 64-bit unique ID: U64 CONST. -/
abbrev ID_UID : Key := okey (0x0) (4)

/-- R532. Family: STR CONST. -/
abbrev ID_FAMILY : Key := okey (0x0) (6)

/-- R532. Power-die revision, coded as ID_DIE_REV: U16 CONST. -/
abbrev ID_PWR_REV : Key := okey (0x0) (7)

/-- R532. DRAM-die revision, likewise: U16 CONST. -/
abbrev ID_DRAM_REV : Key := okey (0x0) (8)

/-- R532. [31:16] major: U32 CONST. -/
abbrev ID_ROM_VER : Key := okey (0x0) (9)

/-- R532. Ordering code of R2: STR CONST. -/
abbrev ID_ORDER : Key := okey (0x0) (10)

/-- R532. [15:8] year − 2000: U16 CONST. -/
abbrev ID_DATE : Key := okey (0x0) (11)

/-- R532. Lot, 8 characters: STR CONST. -/
abbrev ID_LOT : Key := okey (0x0) (12)

/-- R532. [7:0] wafer: U32 CONST. -/
abbrev ID_WAFER : Key := okey (0x0) (13)

/-- R532. Dictionary layout: [15:8] major: U16 CONST. -/
abbrev ID_DICT_VER : Key := okey (0x0) (14)

/-- R532. Production test program: U32 CONST. -/
abbrev ID_TEST_VER : Key := okey (0x0) (15)

/-- R532. Test site: U8 CONST. -/
abbrev ID_MFG_SITE : Key := okey (0x0) (16)

/-- R532. row i of the area directory: U32 CONST. -/
abbrev ID_AREA (i : Nat) : Key := okey (0x1) (i)

/-- R532. Receive gain correction, sub-GHz, 0.01 dB: I16 CONST. -/
abbrev ID_CALn_RXG_SG (n : Nat) : Key := okey (0x10 + n) (1)

/-- R532. Likewise, 2.4 GHz: I16 CONST. -/
abbrev ID_CALn_RXG_24 (n : Nat) : Key := okey (0x10 + n) (2)

/-- R532. Transmit power correction, sub-GHz, 0.01 dB: I16 CONST. -/
abbrev ID_CALn_TXP_SG (n : Nat) : Key := okey (0x10 + n) (3)

/-- R532. Likewise, 2.4 GHz: I16 CONST. -/
abbrev ID_CALn_TXP_24 (n : Nat) : Key := okey (0x10 + n) (4)

/-- R532. [15:0] I/Q gain trim: U32 CONST. -/
abbrev ID_CALn_IQ (n : Nat) : Key := okey (0x10 + n) (5)

/-- R532. Temperature sensor offset, 1/8 °C: I16 CONST. -/
abbrev ID_CALn_TEMP (n : Nat) : Key := okey (0x10 + n) (6)

/-- R532. DC offset trims, chains A and B: U32 CONST. -/
abbrev ID_CALn_DCO (n : Nat) : Key := okey (0x10 + n) (7)

/-- R533. SOP UDP port: U16 CONST. -/
abbrev COM_SOP_PORT : Key := okey (0x100) (1)

/-- R533. Sessions open, 0–8: U8 RO. -/
abbrev COM_SESS_OPEN : Key := okey (0x100) (2)

/-- R533. Superframes, 10–3,600: U16 RWT. -/
abbrev COM_IDLE_LIMIT : Key := okey (0x100) (3)

/-- R533. Under R513: BOOL RWT. -/
abbrev COM_VIEW_OPEN : Key := okey (0x100) (4)

/-- R533. Authority hash: DOM RW. -/
abbrev COM_AUTH_OPERATE : Key := okey (0x100) (5)

/-- R533. Authority hash: DOM RW. -/
abbrev COM_AUTH_INSTALL : Key := okey (0x100) (6)

/-- R533. SECURED messages accepted: U32 RO. -/
abbrev COM_RX_MSG : Key := okey (0x100) (7)

/-- R533. SECURED messages sent: U32 RO. -/
abbrev COM_TX_MSG : Key := okey (0x100) (8)

/-- R533. Datagrams dropped under R511 and R514: U32 RO. -/
abbrev COM_RX_DROP : Key := okey (0x100) (9)

/-- R533. Opens refused under R513: U32 RO. -/
abbrev COM_AUTH_FAILS : Key := okey (0x100) (10)

/-- R533. Handler ring: U32 CONST. -/
abbrev COM_HND_ADDR : Key := okey (0x100) (11)

/-- R533. Slot answered, 0–31: U8 WO. -/
abbrev COM_HND_DONE : Key := okey (0x100) (12)

/-- R533. 1 commits the writing core's set: U8 WO. -/
abbrev COM_COMMIT : Key := okey (0x101) (1)

/-- R533. [7:0] 0 none, 1 ACCEPTED, 2 REFUSED, 3 EMPTY: U32 RO. -/
abbrev COM_COMMIT_RESULT : Key := okey (0x101) (2)

/-- R533. Under R509: U32 RW. -/
abbrev COM_DOM_SEL : Key := okey (0x101) (3)

/-- R533. Under R509: U16 RW. -/
abbrev COM_DOM_LEN : Key := okey (0x101) (4)

/-- R533. Under R509: U32 RW. -/
abbrev COM_DOM_DATA : Key := okey (0x101) (5)

/-- R533. Cursor: U16 RO. -/
abbrev COM_DOM_POS : Key := okey (0x101) (6)

/-- R533. Under R504: U32 RW. -/
abbrev COM_FW_SEL : Key := okey (0x101) (7)

/-- R533. Under R504: U32 WO. -/
abbrev COM_FW_VAL : Key := okey (0x101) (8)

/-- R494. 0 = PHY off, link DOWN: BOOL RWT. -/
abbrev COM_Tp_ENABLE (p : Nat) : Key := okey (0x110 + p) (1)

/-- R494. 0 negotiate: U8 RWT. -/
abbrev COM_Tp_AMPL (p : Nat) : Key := okey (0x110 + p) (2)

/-- R494. [0] advertise 1.0 Vpp: U8 RWT. -/
abbrev COM_Tp_ADVERT (p : Nat) : Key := okey (0x110 + p) (3)

/-- R494. 0 DOWN: U8 RO. -/
abbrev COM_Tp_LINK (p : Nat) : Key := okey (0x110 + p) (4)

/-- R494. [47:0] MAC address: U64 CONST. -/
abbrev COM_Tp_MAC (p : Nat) : Key := okey (0x110 + p) (5)

/-- R494. Link-local address, 16 bytes: DOM RO. -/
abbrev COM_Tp_LL_ADDR (p : Nat) : Key := okey (0x110 + p) (7)

/-- R494. Static address: DOM RWT. -/
abbrev COM_Tp_STATIC (p : Nat) : Key := okey (0x110 + p) (8)

/-- R494. 1–128: U8 RWT. -/
abbrev COM_Tp_PREFIX (p : Nat) : Key := okey (0x110 + p) (9)

/-- R494. Link-local address of the router: DOM RWT. -/
abbrev COM_Tp_GATEWAY (p : Nat) : Key := okey (0x110 + p) (10)

/-- R494. [0] link-local failed: U8 RO. -/
abbrev COM_Tp_DAD (p : Nat) : Key := okey (0x110 + p) (11)

/-- R494. Signal quality 0–7: U8 RO. -/
abbrev COM_Tp_SQI (p : Nat) : Key := okey (0x110 + p) (12)

/-- R494. 1 = pair reversed and corrected: BOOL RO. -/
abbrev COM_Tp_POL (p : Nat) : Key := okey (0x110 + p) (13)

/-- R494. Link-ups: U32 RO. -/
abbrev COM_Tp_UPS (p : Nat) : Key := okey (0x110 + p) (14)

/-- R494. Link losses: U32 RO. -/
abbrev COM_Tp_DOWNS (p : Nat) : Key := okey (0x110 + p) (15)

/-- R494. Last link-up: TT64 RO. -/
abbrev COM_Tp_UP_SINCE (p : Nat) : Key := okey (0x110 + p) (16)

/-- R494. Frames received: U32 RO. -/
abbrev COM_Tp_RX_FRAMES (p : Nat) : Key := okey (0x110 + p) (18)

/-- R494. Frames sent: U32 RO. -/
abbrev COM_Tp_TX_FRAMES (p : Nat) : Key := okey (0x110 + p) (19)

/-- R494. Frames with a bad FCS: U32 RO. -/
abbrev COM_Tp_RX_FCS (p : Nat) : Key := okey (0x110 + p) (20)

/-- R494. Frames and datagrams dropped under R490–R492: U32 RO. -/
abbrev COM_Tp_RX_DROP (p : Nat) : Key := okey (0x110 + p) (21)

/-- R494. Datagrams not sent for want of a neighbour entry or buffer: U32 RO. -/
abbrev COM_Tp_TX_DROP (p : Nat) : Key := okey (0x110 + p) (22)

/-- R494. Neighbor Discovery messages received: U32 RO. -/
abbrev COM_Tp_ND_RX (p : Nat) : Key := okey (0x110 + p) (23)

/-- R494. Neighbor Discovery messages sent: U32 RO. -/
abbrev COM_Tp_ND_TX (p : Nat) : Key := okey (0x110 + p) (24)

/-- R494. 0 = SOP datagrams dropped on this port: BOOL RWT. -/
abbrev COM_Tp_SOP_ALLOW (p : Nat) : Key := okey (0x110 + p) (25)

/-- R494. 1 = echo requests answered: BOOL RWT. -/
abbrev COM_Tp_ECHO (p : Nat) : Key := okey (0x110 + p) (26)

/-- R499. 0 = HSPI ignores every transaction except on the debug channel: BOOL RWT. -/
abbrev COM_H_ENABLE : Key := okey (0x120) (1)

/-- R499. 1, 2 or 4: U8 RWT. -/
abbrev COM_H_LANES : Key := okey (0x120) (2)

/-- R499. 0 or 3: U8 RWT. -/
abbrev COM_H_SPIMODE : Key := okey (0x120) (3)

/-- R499. 0 level: U8 RWT. -/
abbrev COM_H_IRQ : Key := okey (0x120) (4)

/-- R499. Highest HSPI_SCK rate: U32 CONST. -/
abbrev COM_H_MAX_HZ : Key := okey (0x120) (5)

/-- R499. STATUS[15:0]: U16 RO. -/
abbrev COM_H_WAITING : Key := okey (0x120) (6)

/-- R499. Messages taken: U32 RO. -/
abbrev COM_H_RX_MSG : Key := okey (0x120) (7)

/-- R499. Messages read by the host: U32 RO. -/
abbrev COM_H_TX_MSG : Key := okey (0x120) (8)

/-- R499. Writes with a bad CRC: U32 RO. -/
abbrev COM_H_CRC_ERR : Key := okey (0x120) (9)

/-- R499. Writes cut by HSPI_CS_N: U32 RO. -/
abbrev COM_H_ABORTED : Key := okey (0x120) (10)

/-- R499. Writes while not ready: U32 RO. -/
abbrev COM_H_OVERRUN : Key := okey (0x120) (11)

/-- R499. Debug messages taken: U32 RO. -/
abbrev COM_H_DBG_MSG : Key := okey (0x120) (12)

/-- R534. 0 FREE: U8 RO. -/
abbrev COM_Ss_STATE (s : Nat) : Key := okey (0x140 + s) (1)

/-- R534. 1 VIEW: U8 RO. -/
abbrev COM_Ss_LEVEL (s : Nat) : Key := okey (0x140 + s) (2)

/-- R534. 0 T1L0: U8 RO. -/
abbrev COM_Ss_PORT (s : Nat) : Key := okey (0x140 + s) (3)

/-- R534. Host endpoint taken from the OPEN_REQ, in OPENING and OPEN: 18 bytes, the 16-byte IPv6 add: DOM RO. -/
abbrev COM_Ss_PEER (s : Nat) : Key := okey (0x140 + s) (4)

/-- R534. Window words 05 and 06: TT64 RO. -/
abbrev COM_Ss_OPENED (s : Nat) : Key := okey (0x140 + s) (5)

/-- R534. 248 + s while OPEN: U8 RO. -/
abbrev COM_Ss_KEY (s : Nat) : Key := okey (0x140 + s) (7)

/-- R534. Messages accepted: U32 RO. -/
abbrev COM_Ss_RX (s : Nat) : Key := okey (0x140 + s) (8)

/-- R534. Messages sent: U32 RO. -/
abbrev COM_Ss_TX (s : Nat) : Key := okey (0x140 + s) (9)

/-- R534. Under R520: U32 RO. -/
abbrev COM_Ss_EVLOST (s : Nat) : Key := okey (0x140 + s) (10)

/-- R534. 1 closes the session: U8 WO. -/
abbrev COM_Ss_CLOSE (s : Nat) : Key := okey (0x140 + s) (11)

/-- R521. aborts with code i: U32 RO. -/
abbrev COM_ABORT (i : Nat) : Key := okey (0x150) (i)

/-- R528. Post under R525, 8–908 bytes: DOM WO. -/
abbrev EVT_POST : Key := okey (0x200) (1)

/-- R528. Events raised: U32 RO. -/
abbrev EVT_RAISED : Key := okey (0x200) (2)

/-- R528. Sum of every COR_c_EVLOST: U32 RO. -/
abbrev EVT_CORE_LOST : Key := okey (0x200) (3)

/-- R528. EVENT and NOTIFY messages queued to sessions: U32 RO. -/
abbrev EVT_SOP_SENT : Key := okey (0x200) (4)

/-- R528. Sum of every COM_Ss_EVLOST: U32 RO. -/
abbrev EVT_SOP_LOST : Key := okey (0x200) (5)

/-- R528. The 1,024-byte log of R526: DOM RO. -/
abbrev EVT_LOG : Key := okey (0x200) (6)

/-- R528. Entries taken since power-on reset, stopping at 65,535: U16 RO. -/
abbrev EVT_LOG_N : Key := okey (0x200) (7)

/-- R528. 1 empties the log: U8 WO. -/
abbrev EVT_LOG_CLEAR : Key := okey (0x200) (8)

/-- R528. AT of the newest entry: TT64 RO. -/
abbrev EVT_LOG_LAST : Key := okey (0x200) (9)

/-- R528. Posts refused: U32 RO. -/
abbrev EVT_POST_REFUSED : Key := okey (0x200) (11)

/-- R528. 1 restores every route to its default: U8 WO. -/
abbrev EVT_ROUTE_RESET : Key := okey (0x200) (12)

/-- R528. Under R526: BOOL RWT. -/
abbrev EVT_LOG_FREEZE : Key := okey (0x200) (13)

/-- R528. Entry written next, 0–63: U8 RO. -/
abbrev EVT_LOG_NEXT : Key := okey (0x200) (14)

/-- R528. Entries overwritten or refused: U32 RO. -/
abbrev EVT_LOG_LOST : Key := okey (0x200) (15)

/-- R528. Writes dropped: U32 RO. -/
abbrev EVT_DROP_COUNT : Key := okey (0x201) (1)

/-- R528. Address of the last one: U32 RO. -/
abbrev EVT_DROP_ADDR : Key := okey (0x201) (2)

/-- R528. Its value, low 32 bits: U32 RO. -/
abbrev EVT_DROP_DATA : Key := okey (0x201) (3)

/-- R528. 0–7 core: U8 RO. -/
abbrev EVT_DROP_CORE : Key := okey (0x201) (4)

/-- R528. Under R527: U8 RO. -/
abbrev EVT_DROP_CAUSE : Key := okey (0x201) (5)

/-- R528. Window words 06 and 07: TT64 RO. -/
abbrev EVT_DROP_AT : Key := okey (0x201) (6)

/-- R528. First address dropped since the last clear: U32 RO. -/
abbrev EVT_DROP_FIRST : Key := okey (0x201) (8)

/-- R528. 1 clears EVT_DROP_COUNT and EVT_DROP_FIRST: U8 WO. -/
abbrev EVT_DROP_CLEAR : Key := okey (0x201) (9)

/-- R524. route of event code c: U16 RW. -/
abbrev EVT_ROUTE (c : Nat) : Key := okey (0x210 + (c - 0x100) / 16) (c % 16 + 1)

/-- R30. Current Turath time: TT64 RO. -/
abbrev TMB_NOW : Key := okey (0x300) (1)

/-- R30. TAI seconds at TT64 zero: U64 RW. -/
abbrev TMB_ORIGIN_TAI : Key := okey (0x300) (3)

/-- R30. Timing state of this anchor: U8 RO. -/
abbrev TMB_SYNC_STATE : Key := okey (0x300) (5)

/-- R30. Length of the tick gap in µt: U16 CONST. -/
abbrev TMB_TICK_GAP : Key := okey (0x300) (6)

/-- R30. Class code of the most recent deadline miss: U8 RO. -/
abbrev TMB_LAST_MISS_CLASS : Key := okey (0x300) (7)

/-- R30. Deadline instant of that miss, as the column "Deadline instant" of R36 sets it for its cla: TT64 RO. -/
abbrev TMB_LAST_MISS_AT : Key := okey (0x300) (8)

/-- R37. miss counter of class i: U32 RW. -/
abbrev TMB_MISS (i : Nat) : Key := okey (0x301) (i)

/-- R41. Source, capture and event selection: U32 RWT. -/
abbrev TMB_TCn_CFG (n : Nat) : Key := okey (0x320 + n) (1)

/-- R41. [0] RUN: U8 RW. -/
abbrev TMB_TCn_CTRL (n : Nat) : Key := okey (0x320 + n) (2)

/-- R41. Live count, or the latched value when a latch is pending: U32 RW. -/
abbrev TMB_TCn_COUNT (n : Nat) : Key := okey (0x320 + n) (3)

/-- R41. Capture register: U32 RO. -/
abbrev TMB_TCn_CAP (n : Nat) : Key := okey (0x320 + n) (4)

/-- R41. Compare value: U32 RWT. -/
abbrev TMB_TCn_CMP (n : Nat) : Key := okey (0x320 + n) (5)

/-- R41. [0] CAPF: U8 RW. -/
abbrev TMB_TCn_FLAGS (n : Nat) : Key := okey (0x320 + n) (6)

/-- R51. 0 OFF: U8 RWT. -/
abbrev TMB_PNLk_MODE (k : Nat) : Key := okey (0x340 + k) (1)

/-- R51. BUTTON: debounce time in ms, 0–255: U8 RWT. -/
abbrev TMB_PNLk_DEBOUNCE (k : Nat) : Key := okey (0x340 + k) (2)

/-- R51. BUTTON: hold time in ms before a HOLD event: U16 RWT. -/
abbrev TMB_PNLk_HOLD (k : Nat) : Key := okey (0x340 + k) (3)

/-- R51. [0] pressed or touched: U8 RO. -/
abbrev TMB_PNLk_STATE (k : Nat) : Key := okey (0x340 + k) (4)

/-- R51. TOUCH: charge current 1–8 µA: U8 RWT. -/
abbrev TMB_PNLk_TOUCH_I (k : Nat) : Key := okey (0x340 + k) (5)

/-- R51. TOUCH: oscillator cycles per measurement: U8 RWT. -/
abbrev TMB_PNLk_TOUCH_N (k : Nat) : Key := okey (0x340 + k) (6)

/-- R51. TOUCH: scan interval in ms, 5–255: U8 RWT. -/
abbrev TMB_PNLk_SCAN (k : Nat) : Key := okey (0x340 + k) (7)

/-- R51. TOUCH: touch threshold in µt above baseline: U32 RWT. -/
abbrev TMB_PNLk_THRESH (k : Nat) : Key := okey (0x340 + k) (8)

/-- R51. TOUCH: hysteresis in µt: U32 RWT. -/
abbrev TMB_PNLk_HYST (k : Nat) : Key := okey (0x340 + k) (9)

/-- R51. TOUCH: baseline in µt: U32 RO. -/
abbrev TMB_PNLk_BASE (k : Nat) : Key := okey (0x340 + k) (10)

/-- R51. TOUCH: latest measurement in µt: U32 RO. -/
abbrev TMB_PNLk_MEAS (k : Nat) : Key := okey (0x340 + k) (11)

/-- R557. 1 RUN: U8 RO. -/
abbrev PWR_STATE : Key := okey (0x400) (1)

/-- R557. VIN in 10 mV, updated every slot: U16 RO. -/
abbrev PWR_VIN : Key := okey (0x400) (2)

/-- R557. V5 in mV: U16 RO. -/
abbrev PWR_V5 : Key := okey (0x400) (3)

/-- R557. VCORE in mV: U16 RO. -/
abbrev PWR_VCORE_NOW : Key := okey (0x400) (4)

/-- R557. Body bias in mV: I16 RO. -/
abbrev PWR_BB_NOW : Key := okey (0x400) (5)

/-- R557. Hottest die sensor, 1/8 °C: I16 RO. -/
abbrev PWR_TJ : Key := okey (0x400) (6)

/-- R557. °C, 80–115: U8 RWT. -/
abbrev PWR_TJ_WARN : Key := okey (0x400) (7)

/-- R557. Bit per rail of R538 in table order, under R541: U16 RO. -/
abbrev PWR_RAIL_FAULT : Key := okey (0x400) (8)

/-- R557. 10–15: U8 RW. -/
abbrev PWR_SCCP_CLASS : Key := okey (0x400) (9)

/-- R557. 0 NONE: U8 RO. -/
abbrev PWR_SCCP_STATE : Key := okey (0x400) (10)

/-- R557. Writes remaining: U16 RO. -/
abbrev PWR_SCCP_WRITES : Key := okey (0x400) (11)

/-- R557. 8 bytes under R545: DOM RW. -/
abbrev PWR_TABLE : Key := okey (0x400) (12)

/-- R558. [3:0] slices gated in TRIM: U8 RW. -/
abbrev PWR_TRIM_GATE : Key := okey (0x401) (1)

/-- R558. Bit b: Thermos bank b kept in DOZE: U32 RW. -/
abbrev PWR_KEEP_DOZE : Key := okey (0x401) (2)

/-- R558. Bit b: kept in HIBERNATE: U32 RW. -/
abbrev PWR_KEEP_HIB : Key := okey (0x401) (3)

/-- R558. Wake mask under R549: U16 RW. -/
abbrev PWR_WAKE_DOZE : Key := okey (0x401) (4)

/-- R558. Wake mask under R549: U16 RW. -/
abbrev PWR_WAKE_HIB : Key := okey (0x401) (5)

/-- R558. Assignment word of R98: U32 RW. -/
abbrev PWR_DOZE_WATCH : Key := okey (0x401) (6)

/-- R558. State after a DOZE wake: U8 RO. -/
abbrev PWR_RESUME : Key := okey (0x401) (7)

/-- R558. Sources pending at the last wake: U16 RO. -/
abbrev PWR_WAKE_SRC : Key := okey (0x401) (8)

/-- R558. W of the last wake: TT64 RO. -/
abbrev PWR_WAKE_AT : Key := okey (0x401) (9)

/-- R558. Reason of R544: U8 RO. -/
abbrev PWR_STATE_REFUSE : Key := okey (0x401) (11)

/-- R558. DOZE entries: U32 RO. -/
abbrev PWR_DOZES : Key := okey (0x401) (12)

/-- R558. HIBERNATE entries, kept across the wake reset: U32 RO. -/
abbrev PWR_HIBS : Key := okey (0x401) (13)

/-- R559. 1 SURVEY: U8 WO. -/
abbrev PWR_CPS_CMD : Key := okey (0x410) (1)

/-- R559. Epochs, 60–10,080: U16 RWT. -/
abbrev PWR_CPS_PERIOD : Key := okey (0x410) (2)

/-- R559. Last survey: TT64 RO. -/
abbrev PWR_CPS_LAST : Key := okey (0x410) (3)

/-- R559. Surveys: U32 RO. -/
abbrev PWR_CPS_SURVEYS : Key := okey (0x410) (5)

/-- R559. RUN slack minimum, 1/64 period: U8 RO. -/
abbrev PWR_CPS_SLACK_RUN : Key := okey (0x410) (6)

/-- R559. TRIM slack minimum: U8 RO. -/
abbrev PWR_CPS_SLACK_TRIM : Key := okey (0x410) (7)

/-- R559. Last slot, live: U8 RO. -/
abbrev PWR_CPS_SLACK_NOW : Key := okey (0x410) (8)

/-- R559. Guard floor of R552: U8 CONST. -/
abbrev PWR_CPS_SLACK_FLOOR : Key := okey (0x410) (9)

/-- R559. Slowdown, 0.01 %: U16 RO. -/
abbrev PWR_CPS_AGE : Key := okey (0x410) (10)

/-- R559. Guard raise in force, mV: U8 RO. -/
abbrev PWR_CPS_GUARD_MV : Key := okey (0x410) (11)

/-- R559. Guard raises: U32 RO. -/
abbrev PWR_CPS_GUARD_UPS : Key := okey (0x410) (12)

/-- R559. 1/8 °C: I16 RO. -/
abbrev PWR_CPS_TJ_MEAN : Key := okey (0x410) (13)

/-- R559. Mean FAB_FREQ: I32 RO. -/
abbrev PWR_CPS_DRIFT_MEAN : Key := okey (0x410) (14)

/-- R559. FAB_FREQ per °C: I16 RO. -/
abbrev PWR_CPS_DRIFT_SLOPE : Key := okey (0x410) (15)

/-- R559. Values held under R555: U32 RO. -/
abbrev PWR_CPS_CLAMPS : Key := okey (0x410) (16)

/-- R559. Compression of slice n, 0.1 dB: I16 RO. -/
abbrev PWR_CPS_PACOMP (i : Nat) : Key := okey (0x410) (17 + i)

/-- R559. mV: U16 RWT. -/
abbrev PWR_PLAN_VCORE_RUN : Key := okey (0x420) (1)

/-- R559. mV: U16 RWT. -/
abbrev PWR_PLAN_VCORE_TRIM : Key := okey (0x420) (2)

/-- R559. mV: U16 RWT. -/
abbrev PWR_PLAN_VCORE_DOZE : Key := okey (0x420) (3)

/-- R559. mV: I16 RWT. -/
abbrev PWR_PLAN_BB_RUN : Key := okey (0x420) (4)

/-- R559. mV: I16 RWT. -/
abbrev PWR_PLAN_BB_DOZE : Key := okey (0x420) (5)

/-- R559. Lowering steps remain under R554: BOOL RO. -/
abbrev PWR_PLAN_STEP : Key := okey (0x420) (6)

/-- R530. Slice number: U8 CONST. -/
abbrev SLCn_NUMBER (n : Nat) : Key := okey (0x800 + 0x200 * n) (1)

/-- R530. 0 none: U8 RO. -/
abbrev SLCn_BAND (n : Nat) : Key := okey (0x800 + 0x200 * n) (2)

/-- R530. 0 while gated in TRIM: BOOL RO. -/
abbrev SLCn_CLOCKED (n : Nat) : Key := okey (0x800 + 0x200 * n) (3)

/-- R530. Slice SRAM: U32 CONST. -/
abbrev SLCn_SRAM_ADDR (n : Nat) : Key := okey (0x800 + 0x200 * n) (4)

/-- R530. Transmissions whose ramp began: U32 RO. -/
abbrev SLCn_TX_STARTS (n : Nat) : Key := okey (0x800 + 0x200 * n) (5)

/-- R530. On-air time in µt, ramps included: U64 RO. -/
abbrev SLCn_TX_AIR (n : Nat) : Key := okey (0x800 + 0x200 * n) (6)

/-- R530. Frames run in PROGRAM: U32 RO. -/
abbrev SLCn_PROGRAM_FRAMES (n : Nat) : Key := okey (0x800 + 0x200 * n) (8)

/-- R530. Frames run in PARKED: U32 RO. -/
abbrev SLCn_PARKED_FRAMES (n : Nat) : Key := okey (0x800 + 0x200 * n) (9)

/-- R530. Highest SLCn_TEMP since reset: I16 RO. -/
abbrev SLCn_TEMP_MAX (n : Nat) : Key := okey (0x800 + 0x200 * n) (10)

/-- R530. Frames in which the slice was clocked: U32 RO. -/
abbrev SLCn_CLOCKED_FRAMES (n : Nat) : Key := okey (0x800 + 0x200 * n) (11)

/-- R58. Span centre in Hz: U32 RWT. -/
abbrev SLCn_CENTRE_HZ (n : Nat) : Key := okey (0x810 + 0x200 * n) (1)

/-- R58. 0 OFF: U8 RO. -/
abbrev SLCn_SYN_STATE (n : Nat) : Key := okey (0x810 + 0x200 * n) (2)

/-- R58. Write 1 to raise a calibration request: U8 WO. -/
abbrev SLCn_SYN_CMD (n : Nat) : Key := okey (0x810 + 0x200 * n) (3)

/-- R58. Default start tolerance in µt (8 µs), 0–3,840: U16 RWT. -/
abbrev SLCn_TX_TOL (n : Nat) : Key := okey (0x810 + 0x200 * n) (4)

/-- R58. Temperature change in °C that raises a calibration request: U8 CONST. -/
abbrev SLCn_CAL_DT (n : Nat) : Key := okey (0x810 + 0x200 * n) (5)

/-- R58. Slice temperature in units of 1/8 °C, updated at every slot boundary: I16 RO. -/
abbrev SLCn_TEMP (n : Nat) : Key := okey (0x810 + 0x200 * n) (6)

/-- R58. SLCn_TEMP at the end of the last calibration: I16 RO. -/
abbrev SLCn_CAL_TEMP (n : Nat) : Key := okey (0x810 + 0x200 * n) (7)

/-- R58. End of the last calibration: TT64 RO. -/
abbrev SLCn_CAL_AT (n : Nat) : Key := okey (0x810 + 0x200 * n) (8)

/-- R58. [0] command request: U8 RO. -/
abbrev SLCn_CAL_PENDING (n : Nat) : Key := okey (0x810 + 0x200 * n) (10)

/-- R58. Calibrations forced after one superframe without a QUIET slot: U32 RO. -/
abbrev SLCn_CAL_FORCED (n : Nat) : Key := okey (0x810 + 0x200 * n) (11)

/-- R58. Lock losses in LOCK, counted under R61 whether or not a transmission runs: U32 RO. -/
abbrev SLCn_UNLOCK_COUNT (n : Nat) : Key := okey (0x810 + 0x200 * n) (12)

/-- R58. Entries dropped with SYNTH_BUSY: U32 RO. -/
abbrev SLCn_SYNBUSY_COUNT (n : Nat) : Key := okey (0x810 + 0x200 * n) (13)

/-- R66. 0 DIV: U8 RWT. -/
abbrev SLCn_AERIAL_MODE (n : Nat) : Key := okey (0x811 + 0x200 * n) (1)

/-- R66. 0 port A: U8 RWT. -/
abbrev SLCn_TX_PORT (n : Nat) : Key := okey (0x811 + 0x200 * n) (2)

/-- R66. 0 UNKNOWN: U8 RO. -/
abbrev SLCn_PORTA_STATE (n : Nat) : Key := okey (0x811 + 0x200 * n) (3)

/-- R66. As PORTA_STATE: U8 RO. -/
abbrev SLCn_PORTB_STATE (n : Nat) : Key := okey (0x811 + 0x200 * n) (4)

/-- R66. Last measured return loss of port A in 0.1 dB: U16 RO. -/
abbrev SLCn_PORTA_RL (n : Nat) : Key := okey (0x811 + 0x200 * n) (5)

/-- R66. As PORTA_RL, port B: U16 RO. -/
abbrev SLCn_PORTB_RL (n : Nat) : Key := okey (0x811 + 0x200 * n) (6)

/-- R66. Tuner code 0–63: U8 RWT. -/
abbrev SLCn_TUNER_SET (n : Nat) : Key := okey (0x811 + 0x200 * n) (7)

/-- R66. Tuner code in use: U8 RO. -/
abbrev SLCn_TUNER_NOW (n : Nat) : Key := okey (0x811 + 0x200 * n) (8)

/-- R66. Return loss below which a port is MISMATCH, in 0.1 dB: U16 RWT. -/
abbrev SLCn_MISMATCH_RL (n : Nat) : Key := okey (0x811 + 0x200 * n) (9)

/-- R66. Superframes between probes of a port that has not transmitted: U8 RWT. -/
abbrev SLCn_PROBE_INT (n : Nat) : Key := okey (0x811 + 0x200 * n) (10)

/-- R66. TUNE: forward power at the tuned port during the last transmission, 0.25 dBm units: I16 RO. -/
abbrev SLCn_MON_FWD (n : Nat) : Key := okey (0x811 + 0x200 * n) (11)

/-- R72. Total port power limit in 0.5 dBm units, −40 to 40: I8 RWT. -/
abbrev SLCn_TX_LIMIT (n : Nat) : Key := okey (0x812 + 0x200 * n) (1)

/-- R72. Ageing backoff set by Compass, 0.25 dB units: U8 RWT. -/
abbrev SLCn_PA_BACKOFF_AGE (n : Nat) : Key := okey (0x812 + 0x200 * n) (2)

/-- R72. Transmissions reduced by the clamp of R75: U32 RO. -/
abbrev SLCn_TX_CLAMP_COUNT (n : Nat) : Key := okey (0x812 + 0x200 * n) (3)

/-- R72. Largest channel count in one transmission: U8 CONST. -/
abbrev SLCn_BURST_MAXCH (n : Nat) : Key := okey (0x812 + 0x200 * n) (4)

/-- R78. [3:0] bit m = 1: slice m is blanked while slice n transmits: U8 RWT. -/
abbrev SLCn_BLANKET (n : Nat) : Key := okey (0x813 + 0x200 * n) (1)

/-- R78. Packets of this slice abandoned under R80 because the slice was blanked for any reason: a : U32 RO. -/
abbrev SLCn_BLANK_LOST (n : Nat) : Key := okey (0x813 + 0x200 * n) (2)

/-- R78. Time this slice has spent blanked by other slices, in µs, stopping at 0xFFFF_FFFF: U32 RO. -/
abbrev SLCn_BLANK_US (n : Nat) : Key := okey (0x813 + 0x200 * n) (3)

/-- R90. Analog gain index in use, 0–10: U8 RO. -/
abbrev SLCn_GAIN_NOW (n : Nat) : Key := okey (0x814 + 0x200 * n) (1)

/-- R90. Longest wait of a pending step up, in µt, 0–384,000: U32 RWT. -/
abbrev SLCn_GAIN_HOLD (n : Nat) : Key := okey (0x814 + 0x200 * n) (2)

/-- R90. 0xFF = automatic: U8 RWT. -/
abbrev SLCn_GAIN_FIX (n : Nat) : Key := okey (0x814 + 0x200 * n) (3)

/-- R90. Analog steps down: U32 RO. -/
abbrev SLCn_GAIN_DN_COUNT (n : Nat) : Key := okey (0x814 + 0x200 * n) (4)

/-- R90. Analog steps up: U32 RO. -/
abbrev SLCn_GAIN_UP_COUNT (n : Nat) : Key := okey (0x814 + 0x200 * n) (5)

/-- R90. Steps up taken when SLCn_GAIN_HOLD expired: U32 RO. -/
abbrev SLCn_GAIN_FORCED_UP (n : Nat) : Key := okey (0x814 + 0x200 * n) (6)

/-- R90. Clip detections at gain index 0, where no step down remains: U32 RO. -/
abbrev SLCn_CLIP_COUNT (n : Nat) : Key := okey (0x814 + 0x200 * n) (7)

/-- R90. RMS level of the last completed window, 0.25 dBFS units: I16 RO. -/
abbrev SLCn_WB_RMS (n : Nat) : Key := okey (0x814 + 0x200 * n) (8)

/-- R86. 0 OFF: U8 RWT. -/
abbrev SLCn_BANK0_GRID (n : Nat) : Key := okey (0x815 + 0x200 * n) (1)

/-- R86. As BANK0_GRID: U8 RWT. -/
abbrev SLCn_BANK1_GRID (n : Nat) : Key := okey (0x815 + 0x200 * n) (2)

/-- R86. Channel count N of bank 0 under its grid: U8 RO. -/
abbrev SLCn_BANK0_COUNT (n : Nat) : Key := okey (0x815 + 0x200 * n) (3)

/-- R86. As BANK0_COUNT, bank 1: U8 RO. -/
abbrev SLCn_BANK1_COUNT (n : Nat) : Key := okey (0x815 + 0x200 * n) (4)

/-- R86. Packets abandoned because a grid change applied: U32 RO. -/
abbrev SLCn_GRID_LOST (n : Nat) : Key := okey (0x815 + 0x200 * n) (5)

/-- R96. Bit k = 1: listener k is not IDLE: U64 RO. -/
abbrev SLCn_LSN_ACTIVE (n : Nat) : Key := okey (0x816 + 0x200 * n) (1)

/-- R96. Bit k = 1: listener k holds a packet: U64 RO. -/
abbrev SLCn_LSN_HOLDING (n : Nat) : Key := okey (0x816 + 0x200 * n) (3)

/-- R96. Frames delivered: U32 RO. -/
abbrev SLCn_RX_FRAMES (n : Nat) : Key := okey (0x816 + 0x200 * n) (5)

/-- R96. Header checks failed at the qualifier: U32 RO. -/
abbrev SLCn_RX_QFAIL (n : Nat) : Key := okey (0x816 + 0x200 * n) (6)

/-- R96. Frames dropped for want of a receive cell: U32 RO. -/
abbrev SLCn_RX_NOCELL (n : Nat) : Key := okey (0x816 + 0x200 * n) (7)

/-- R96. Sync limits passed without a qualifier: U32 RO. -/
abbrev SLCn_RX_SYNC_TO (n : Nat) : Key := okey (0x816 + 0x200 * n) (8)

/-- R96. Frames ended with a failed CRC or FCS: U32 RO. -/
abbrev SLCn_RX_BADCRC (n : Nat) : Key := okey (0x816 + 0x200 * n) (9)

/-- R96. 1 = IDLE listeners survey for the noise mapper: BOOL RWT. -/
abbrev SLCn_SURVEY (n : Nat) : Key := okey (0x816 + 0x200 * n) (10)

/-- R109. 1 = mapper runs: BOOL RWT. -/
abbrev SLCn_MAP_ENABLE (n : Nat) : Key := okey (0x817 + 0x200 * n) (1)

/-- R109. Buffer holding the last published map, 0 or 1: U8 RO. -/
abbrev SLCn_MAP_BUF (n : Nat) : Key := okey (0x817 + 0x200 * n) (2)

/-- R109. Start of the superframe that map covers: TT64 RO. -/
abbrev SLCn_MAP_AT (n : Nat) : Key := okey (0x817 + 0x200 * n) (3)

/-- R109. Blocks admitted into that map: U32 RO. -/
abbrev SLCn_MAP_BLOCKS (n : Nat) : Key := okey (0x817 + 0x200 * n) (5)

/-- R109. Address of buffer 0: U32 CONST. -/
abbrev SLCn_MAP_ADDR (n : Nat) : Key := okey (0x817 + 0x200 * n) (6)

/-- R114. 1 arm: U8 WO. -/
abbrev SLCn_CAP_CMD (n : Nat) : Key := okey (0x818 + 0x200 * n) (1)

/-- R114. 0 chain A wideband: U8 RWT. -/
abbrev SLCn_CAP_SRC (n : Nat) : Key := okey (0x818 + 0x200 * n) (2)

/-- R114. Listener 0–47: U8 RWT. -/
abbrev SLCn_CAP_LSN (n : Nat) : Key := okey (0x818 + 0x200 * n) (3)

/-- R114. DRAM address of the ring, 4 KiB aligned: U32 RWT. -/
abbrev SLCn_CAP_BASE (n : Nat) : Key := okey (0x818 + 0x200 * n) (4)

/-- R114. Ring size in bytes, a multiple of 4,096, from 4,096 to 0x0400_0000: U32 RWT. -/
abbrev SLCn_CAP_LEN (n : Nat) : Key := okey (0x818 + 0x200 * n) (5)

/-- R114. 0 command only: U8 RWT. -/
abbrev SLCn_CAP_TRIG (n : Nat) : Key := okey (0x818 + 0x200 * n) (6)

/-- R114. Part of the ring kept before the trigger, in sixteenths, 0–15: U8 RWT. -/
abbrev SLCn_CAP_PRE (n : Nat) : Key := okey (0x818 + 0x200 * n) (7)

/-- R114. Trigger instant for CAP_TRIG 1: TT64 RWT. -/
abbrev SLCn_CAP_AT (n : Nat) : Key := okey (0x818 + 0x200 * n) (8)

/-- R114. 0 IDLE: U8 RO. -/
abbrev SLCn_CAP_STATE (n : Nat) : Key := okey (0x818 + 0x200 * n) (10)

/-- R114. Instant of the trigger sample at the port: TT64 RO. -/
abbrev SLCn_CAP_TRIG_AT (n : Nat) : Key := okey (0x818 + 0x200 * n) (11)

/-- R114. Byte offset from CAP_BASE of the oldest sample kept: U32 RO. -/
abbrev SLCn_CAP_OLDEST (n : Nat) : Key := okey (0x818 + 0x200 * n) (13)

/-- R154. LOFDM lead checks failed: U32 RO. -/
abbrev SLCn_PHY_LCSFAIL (n : Nat) : Key := okey (0x819 + 0x200 * n) (1)

/-- R154. LOFDM frames with unresolved maps: U32 RO. -/
abbrev SLCn_PHY_MAPMISS (n : Nat) : Key := okey (0x819 + 0x200 * n) (2)

/-- R154. LOFDM frames abandoned for exceeding 160 symbols: U32 RO. -/
abbrev SLCn_PHY_TOOLONG (n : Nat) : Key := okey (0x819 + 0x200 * n) (3)

/-- R154. Legacy frames delivered: U32 RO. -/
abbrev SLCn_PHY_LEGACY (n : Nat) : Key := okey (0x819 + 0x200 * n) (4)

/-- R154. SUN FSK mode-switch PHRs discarded: U32 RO. -/
abbrev SLCn_PHY_MODESW (n : Nat) : Key := okey (0x819 + 0x200 * n) (5)

/-- R154. SUN FSK SFD set, 0 or 1: U8 RWT. -/
abbrev SLCn_FSK_SFD (n : Nat) : Key := okey (0x819 + 0x200 * n) (6)

/-- R154. Longest SUN FSK preamble in octets, 4–1,000: U16 RWT. -/
abbrev SLCn_FSK_PRE_MAX (n : Nat) : Key := okey (0x819 + 0x200 * n) (7)

/-- R154. SUN OFDM FCS length in bytes, 2 or 4: U8 RWT. -/
abbrev SLCn_SUNOFDM_FCS (n : Nat) : Key := okey (0x819 + 0x200 * n) (8)

/-- R168. Write the slice SRAM address of a program to commit it: U32 WO. -/
abbrev SLCn_FP_COMMIT (n : Nat) : Key := okey (0x81A + 0x200 * n) (1)

/-- R168. 1 WITHDRAW: U8 WO. -/
abbrev SLCn_FP_CMD (n : Nat) : Key := okey (0x81A + 0x200 * n) (2)

/-- R168. 0 HALTED: U8 RO. -/
abbrev SLCn_LC_STATE (n : Nat) : Key := okey (0x81A + 0x200 * n) (3)

/-- R168. 0 EMPTY: U8 RO. -/
abbrev SLCn_FP_PIPE (n : Nat) : Key := okey (0x81A + 0x200 * n) (4)

/-- R168. [7:0] outcome code of R169: U32 RO. -/
abbrev SLCn_FP_STATUS (n : Nat) : Key := okey (0x81A + 0x200 * n) (5)

/-- R168. FRAME of the program in force: TT64 RO. -/
abbrev SLCn_FP_FRAME (n : Nat) : Key := okey (0x81A + 0x200 * n) (6)

/-- R168. Commits refused by the checks of R169: U32 RO. -/
abbrev SLCn_FP_REFUSED (n : Nat) : Key := okey (0x81A + 0x200 * n) (8)

/-- R168. Fallback frames run in FALLBACK: U32 RO. -/
abbrev SLCn_FB_FRAMES (n : Nat) : Key := okey (0x81A + 0x200 * n) (9)

/-- R168. Per-slice FP_COMMIT misses: U32 RW. -/
abbrev SLCn_MISS_FP_COMMIT (n : Nat) : Key := okey (0x81A + 0x200 * n) (10)

/-- R168. Per-slice ACK_INSTANT misses: U32 RW. -/
abbrev SLCn_MISS_ACK_INSTANT (n : Nat) : Key := okey (0x81A + 0x200 * n) (11)

/-- R168. Per-slice TX_START misses: U32 RW. -/
abbrev SLCn_MISS_TX_START (n : Nat) : Key := okey (0x81A + 0x200 * n) (12)

/-- R168. Per-slice CAL_OVERDUE misses: U32 RW. -/
abbrev SLCn_MISS_CAL_OVERDUE (n : Nat) : Key := okey (0x81A + 0x200 * n) (13)

/-- R168. Entries ended DONE: U32 RO. -/
abbrev SLCn_ENTRIES_DONE (n : Nat) : Key := okey (0x81A + 0x200 * n) (14)

/-- R168. Entries ended ABANDONED or PARTIAL: U32 RO. -/
abbrev SLCn_ENTRIES_DROPPED (n : Nat) : Key := okey (0x81A + 0x200 * n) (15)

/-- R186. 0 = no gang ACKs: BOOL RWT. -/
abbrev SLCn_ACK_ENABLE (n : Nat) : Key := okey (0x81B + 0x200 * n) (1)

/-- R186. Requested power per ACK channel, 0.5 dBm units, −40 to 40: I8 RWT. -/
abbrev SLCn_ACK_POWER (n : Nat) : Key := okey (0x81B + 0x200 * n) (2)

/-- R186. Gang ACKs sent to their last sample: U32 RO. -/
abbrev SLCn_ACK_BURSTS (n : Nat) : Key := okey (0x81B + 0x200 * n) (3)

/-- R186. Acknowledgements in bursts sent to their last sample, summed over channels: U32 RO. -/
abbrev SLCn_ACK_CHANNELS (n : Nat) : Key := okey (0x81B + 0x200 * n) (4)

/-- R186. Bursts withheld or cut under R185: U32 RO. -/
abbrev SLCn_ACK_WITHHELD (n : Nat) : Key := okey (0x81B + 0x200 * n) (5)

/-- R186. Frames left out under R182: U32 RO. -/
abbrev SLCn_ACK_LATEVERDICT (n : Nat) : Key := okey (0x81B + 0x200 * n) (6)

/-- R186. Frames left out under R181: U32 RO. -/
abbrev SLCn_ACK_CROWDED (n : Nat) : Key := okey (0x81B + 0x200 * n) (7)

/-- R186. Secured LOFDM frames asking for acknowledgement that ended outside any window: U32 RO. -/
abbrev SLCn_ACK_OUTSIDE (n : Nat) : Key := okey (0x81B + 0x200 * n) (8)

/-- R186. Channels in the last gang ACK sent to its last sample: U8 RO. -/
abbrev SLCn_ACK_LAST_N (n : Nat) : Key := okey (0x81B + 0x200 * n) (9)

/-- R531. records ended with cause i: U32 RO. -/
abbrev SLCn_CAUSE (n i : Nat) : Key := okey (0x81C + 0x200 * n) (i)

/-- R97. Assignment in the default listen set: U32 RWT. -/
abbrev SLCn_LSNk_DEF (n k : Nat) : Key := okey (0x820 + 0x200 * n + k) (1)

/-- R97. Assignment in force, same layout: U32 RO. -/
abbrev SLCn_LSNk_NOW (n k : Nat) : Key := okey (0x820 + 0x200 * n + k) (2)

/-- R97. 0 IDLE: U8 RO. -/
abbrev SLCn_LSNk_STATE (n k : Nat) : Key := okey (0x820 + 0x200 * n + k) (3)

/-- R97. Frames delivered: U32 RO. -/
abbrev SLCn_LSNk_FRAMES (n k : Nat) : Key := okey (0x820 + 0x200 * n + k) (4)

/-- R97. Header checks failed: U32 RO. -/
abbrev SLCn_LSNk_QFAIL (n k : Nat) : Key := okey (0x820 + 0x200 * n + k) (5)

/-- R97. Packets abandoned by blanking, lock loss or grid change: U32 RO. -/
abbrev SLCn_LSNk_LOST (n k : Nat) : Key := okey (0x820 + 0x200 * n + k) (6)

/-- R97. RSSI of the last delivered frame, 0.25 dBm units: I16 RO. -/
abbrev SLCn_LSNk_RSSI (n k : Nat) : Key := okey (0x820 + 0x200 * n + k) (7)

/-- R97. Frames for which the listener chose port B: U32 RO. -/
abbrev SLCn_LSNk_PORTB (n k : Nat) : Key := okey (0x820 + 0x200 * n + k) (8)

/-- R228. Region preset under R236: 0 NONE: U8 RWT. -/
abbrev AIR_REGION : Key := okey (0x1000) (1)

/-- R228. End of the region-change hold of R238: TT64 RO. -/
abbrev AIR_HOLD_UNTIL : Key := okey (0x1000) (2)

/-- R228. Clear-channel threshold in dBm for 750–960 MHz, −110 to −40: I8 RWT. -/
abbrev AIR_CCA_THRESH_SG : Key := okey (0x1000) (4)

/-- R228. Clear-channel threshold in dBm for 2400–2500 MHz, −110 to −40: I8 RWT. -/
abbrev AIR_CCA_THRESH_24 : Key := okey (0x1000) (5)

/-- R228. First backoff exponent, 0–5: U8 RWT. -/
abbrev AIR_BE_MIN : Key := okey (0x1000) (6)

/-- R228. Largest backoff exponent: U8 CONST. -/
abbrev AIR_BE_MAX : Key := okey (0x1000) (7)

/-- R228. Assessment window in µt, about 128 µs: U16 CONST. -/
abbrev AIR_CCA_WIN : Key := okey (0x1000) (8)

/-- R228. Backoff unit in µt, about 64 µs: U16 CONST. -/
abbrev AIR_BACKOFF_UNIT : Key := okey (0x1000) (9)

/-- R228. Reservations granted: U32 RO. -/
abbrev AIR_GRANTS : Key := okey (0x1000) (10)

/-- R228. Reservations refused: U32 RO. -/
abbrev AIR_REFUSALS : Key := okey (0x1000) (11)

/-- R228. [7:0] code of R235: U16 RO. -/
abbrev AIR_LAST_REFUSAL : Key := okey (0x1000) (12)

/-- R228. Assessments found not clear: U32 RO. -/
abbrev AIR_CCA_BUSY : Key := okey (0x1000) (13)

/-- R228. Assessments with no measuring listener, under R242: U32 RO. -/
abbrev AIR_CCA_NOMEAS : Key := okey (0x1000) (14)

/-- R229. 1 = bucket in force: BOOL RWT. -/
abbrev AIR_BKTk_ENABLE (k : Nat) : Key := okey (0x1010 + k) (1)

/-- R229. Lower edge of the range: U32 RWT. -/
abbrev AIR_BKTk_LO_HZ (k : Nat) : Key := okey (0x1010 + k) (2)

/-- R229. Upper edge, above LO_HZ: U32 RWT. -/
abbrev AIR_BKTk_HI_HZ (k : Nat) : Key := okey (0x1010 + k) (3)

/-- R229. 0 superframe: U8 RWT. -/
abbrev AIR_BKTk_BIN (k : Nat) : Key := okey (0x1010 + k) (4)

/-- R229. W, 1–60: U8 RWT. -/
abbrev AIR_BKTk_WIN (k : Nat) : Key := okey (0x1010 + k) (5)

/-- R229. Greatest window sum plus held charges: U64 RWT. -/
abbrev AIR_BKTk_LIMIT (k : Nat) : Key := okey (0x1010 + k) (6)

/-- R229. Ceiling of the region preset: U64 RO. -/
abbrev AIR_BKTk_CEIL (k : Nat) : Key := okey (0x1010 + k) (8)

/-- R229. Part of LIMIT that only gang ACKs may use: U64 RWT. -/
abbrev AIR_BKTk_ACK_RES (k : Nat) : Key := okey (0x1010 + k) (10)

/-- R229. Window sum: U64 RO. -/
abbrev AIR_BKTk_SUM (k : Nat) : Key := okey (0x1010 + k) (12)

/-- R229. Charges reserved and not yet settled: U64 RO. -/
abbrev AIR_BKTk_HELD (k : Nat) : Key := okey (0x1010 + k) (14)

/-- R229. Sum of every R granted since power-on reset: U64 RO. -/
abbrev AIR_BKTk_GRANTED (k : Nat) : Key := okey (0x1010 + k) (16)

/-- R229. Sum of every R settled since power-on reset: U64 RO. -/
abbrev AIR_BKTk_SETTLED (k : Nat) : Key := okey (0x1010 + k) (18)

/-- R229. Sum of every on-time added to bins since power-on reset: U64 RO. -/
abbrev AIR_BKTk_CHARGED (k : Nat) : Key := okey (0x1010 + k) (20)

/-- R229. Refusals caused by this bucket: U32 RO. -/
abbrev AIR_BKTk_REFUSED (k : Nat) : Key := okey (0x1010 + k) (22)

/-- R230. 1 = tracker in force: BOOL RWT. -/
abbrev AIR_DWLt_ENABLE (t : Nat) : Key := okey (0x1030 + t) (1)

/-- R230. Lower edge of cell 0: U32 RWT. -/
abbrev AIR_DWLt_LO_HZ (t : Nat) : Key := okey (0x1030 + t) (2)

/-- R230. Cell width, 25,000–2,000,000: U32 RWT. -/
abbrev AIR_DWLt_STEP_HZ (t : Nat) : Key := okey (0x1030 + t) (3)

/-- R230. Cells, 1–256: U16 RWT. -/
abbrev AIR_DWLt_CELLS (t : Nat) : Key := okey (0x1030 + t) (4)

/-- R230. As AIR_BKTk_BIN: U8 RWT. -/
abbrev AIR_DWLt_BIN (t : Nat) : Key := okey (0x1030 + t) (5)

/-- R230. W, 1–60: U8 RWT. -/
abbrev AIR_DWLt_WIN (t : Nat) : Key := okey (0x1030 + t) (6)

/-- R230. Greatest window sum plus held charges per cell: U32 RWT. -/
abbrev AIR_DWLt_LIMIT (t : Nat) : Key := okey (0x1030 + t) (7)

/-- R230. Ceiling of the region preset: U32 RO. -/
abbrev AIR_DWLt_CEIL (t : Nat) : Key := okey (0x1030 + t) (8)

/-- R230. Refusals caused by this tracker: U32 RO. -/
abbrev AIR_DWLt_REFUSED (t : Nat) : Key := okey (0x1030 + t) (9)

/-- R230. Cell with the highest window sum plus held charges at the last tick: U16 RO. -/
abbrev AIR_DWLt_MAXCELL (t : Nat) : Key := okey (0x1030 + t) (10)

/-- R230. That cell's window sum plus held charges: U32 RO. -/
abbrev AIR_DWLt_MAXSUM (t : Nat) : Key := okey (0x1030 + t) (11)

/-- R230. Cell to inspect: U16 RW. -/
abbrev AIR_DWLt_PROBE (t : Nat) : Key := okey (0x1030 + t) (12)

/-- R230. Window sum plus held charges of the cell named by PROBE, current when read: U32 RO. -/
abbrev AIR_DWLt_PROBE_SUM (t : Nat) : Key := okey (0x1030 + t) (13)

/-- R223. 1 = unsecured DATA and REPORT frames are kept: BOOL RWT. -/
abbrev MAC_RX_UNSECURED : Key := okey (0x1100) (1)

/-- R223. 1 = legacy frames are kept: BOOL RWT. -/
abbrev MAC_RX_LEGACY : Key := okey (0x1100) (2)

/-- R223. 1 = bare frames are kept: BOOL RWT. -/
abbrev MAC_RX_BARE : Key := okey (0x1100) (3)

/-- R223. Key slot being retired: U8 RWT. -/
abbrev MAC_SEQ_ROLL_FROM : Key := okey (0x1100) (4)

/-- R223. Key slot replacing it: U8 RWT. -/
abbrev MAC_SEQ_ROLL_TO : Key := okey (0x1100) (5)

/-- R223. NEW and UNSECURED verdicts: U32 RO. -/
abbrev MAC_RX_NEW : Key := okey (0x1100) (6)

/-- R223. DUPLICATE verdicts: U32 RO. -/
abbrev MAC_RX_DUP : Key := okey (0x1100) (7)

/-- R223. REPLAY verdicts: U32 RO. -/
abbrev MAC_RX_REPLAY : Key := okey (0x1100) (8)

/-- R223. REJECT verdicts: U32 RO. -/
abbrev MAC_RX_REJECT : Key := okey (0x1100) (9)

/-- R223. IGNORED verdicts: U32 RO. -/
abbrev MAC_RX_ACK_HEARD : Key := okey (0x1100) (10)

/-- R223. Verdicts with VFLAGS[2] set: U32 RO. -/
abbrev MAC_RX_FIRST : Key := okey (0x1100) (11)

/-- R223. Bare frames received: U32 RO. -/
abbrev MAC_RX_BARE_COUNT : Key := okey (0x1100) (12)

/-- R223. CAUSE of the most recent REJECT: U8 RO. -/
abbrev MAC_RX_LAST_CAUSE : Key := okey (0x1100) (13)

/-- R211. Address of element 0: U32 CONST. -/
abbrev MAC_RXQn_ADDR (n : Nat) : Key := okey (0x1110 + n) (1)

/-- R211. Elements published, modulo 65,536: U16 RO. -/
abbrev MAC_RXQn_PROD (n : Nat) : Key := okey (0x1110 + n) (2)

/-- R211. Elements consumed, written by firmware: U16 RW. -/
abbrev MAC_RXQn_CONS (n : Nat) : Key := okey (0x1110 + n) (3)

/-- R211. Frames dropped because no element was free: U32 RO. -/
abbrev MAC_RXQn_FULL (n : Nat) : Key := okey (0x1110 + n) (4)

/-- R224. Address of hot entry 0: U32 CONST. -/
abbrev MAC_HOT_ADDR : Key := okey (0x1120) (1)

/-- R224. Cold table address: U32 RWT. -/
abbrev MAC_COLD_BASE : Key := okey (0x1120) (2)

/-- R224. VALID hot entries: U16 RO. -/
abbrev MAC_HOT_USED : Key := okey (0x1120) (3)

/-- R224. Hot entries moved to the cold table: U32 RO. -/
abbrev MAC_HOT_EVICT : Key := okey (0x1120) (4)

/-- R224. Cold entries in use: U32 RO. -/
abbrev MAC_COLD_USED : Key := okey (0x1120) (5)

/-- R224. Cold entries overwritten: U32 RO. -/
abbrev MAC_COLD_EVICT : Key := okey (0x1120) (6)

/-- R224. Pin or unpin under R220: U16 WO. -/
abbrev MAC_HOT_PIN : Key := okey (0x1120) (7)

/-- R142. DRAM address of the store: U32 RWT. -/
abbrev MAC_MAP_BASE : Key := okey (0x1130) (1)

/-- R142. 0 = per-link maps never resolve: BOOL RWT. -/
abbrev MAC_MAP_ENABLE : Key := okey (0x1130) (2)

/-- R142. Per-link lookups made by all slices: U32 RO. -/
abbrev MAC_MAP_LOOKUPS : Key := okey (0x1130) (3)

/-- R142. Lookups that resolved no map: U32 RO. -/
abbrev MAC_MAP_MISS : Key := okey (0x1130) (4)

/-- R142. Invalid maps met on receive or transmit: U32 RO. -/
abbrev MAC_MAP_INVALID : Key := okey (0x1130) (5)

/-- R189. Key slot holding the fabric schedule key, 0–255: U8 RWT. -/
abbrev MAC_RDV_KEY : Key := okey (0x1140) (1)

/-- R189. Bit k = 1: slot k of every frame is a rendezvous slot: U8 RWT. -/
abbrev MAC_RDV_SLOTS : Key := okey (0x1140) (2)

/-- R189. Centre of rendezvous channel 0: U32 RWT. -/
abbrev MAC_RDV_BASE_HZ : Key := okey (0x1140) (3)

/-- R189. Rendezvous channels, 1–32, 1 MHz apart: U8 RWT. -/
abbrev MAC_RDV_NCH : Key := okey (0x1140) (4)

/-- R189. Base guard in µt, 0–3,840: U16 RWT. -/
abbrev MAC_RDV_G0 : Key := okey (0x1140) (5)

/-- R189. Largest guard served, in µt, up to 384,000: U32 RWT. -/
abbrev MAC_RDV_GMAX : Key := okey (0x1140) (6)

/-- R262. 0 = the engine takes, relays and originates nothing: BOOL RWT. -/
abbrev FLD_ENABLE : Key := okey (0x1200) (1)

/-- R262. Husk lifetime in s, 1–255: U8 RWT. -/
abbrev FLD_HUSK_LIFE : Key := okey (0x1200) (2)

/-- R262. Greatest message age in s, 1–254: U8 RWT. -/
abbrev FLD_MAX_AGE : Key := okey (0x1200) (3)

/-- R262. X − E in µt, 384,000–3,840,000: U32 RWT. -/
abbrev FLD_RELAY_WIN : Key := okey (0x1200) (4)

/-- R262. Next FSEQ: U16 RO. -/
abbrev FLD_ORIG_SEQ : Key := okey (0x1200) (5)

/-- R262. Address of entry (0, 0): U32 CONST. -/
abbrev FLD_HUSK_ADDR : Key := okey (0x1200) (6)

/-- R262. VALID entries: U32 RO. -/
abbrev FLD_HUSK_USED : Key := okey (0x1200) (7)

/-- R262. Unexpired entries overwritten: U32 RO. -/
abbrev FLD_HUSK_EARLY : Key := okey (0x1200) (8)

/-- R262. Last emptying under R252: TT64 RO. -/
abbrev FLD_HUSK_EMPTY_AT : Key := okey (0x1200) (9)

/-- R262. Delivery ring element 0, in Thermos bank 19: U32 CONST. -/
abbrev FLD_DQ_ADDR : Key := okey (0x1200) (11)

/-- R262. Elements published, modulo 65,536: U16 RO. -/
abbrev FLD_DQ_PROD : Key := okey (0x1200) (12)

/-- R262. Elements consumed: U16 RW. -/
abbrev FLD_DQ_CONS : Key := okey (0x1200) (13)

/-- R262. Messages dropped with code FULL: U32 RO. -/
abbrev FLD_DQ_FULL : Key := okey (0x1200) (14)

/-- R262. Husk hits: U32 RO. -/
abbrev FLD_RX_DUP : Key := okey (0x1200) (15)

/-- R262. Other drops under R247: U32 RO. -/
abbrev FLD_RX_DROP : Key := okey (0x1200) (16)

/-- R262. Code of the last drop under checks 1–6 and 8 of R247: U8 RO. -/
abbrev FLD_LAST_DROP : Key := okey (0x1200) (17)

/-- R262. Relay steps ended DONE: U32 RO. -/
abbrev FLD_RELAY_SENT : Key := okey (0x1200) (18)

/-- R262. Jobs whose radio steps were suppressed: U32 RO. -/
abbrev FLD_RELAY_SUPP : Key := okey (0x1200) (19)

/-- R262. Originations refused: U32 RO. -/
abbrev FLD_ORIG_REFUSED : Key := okey (0x1200) (20)

/-- R263. [0] ENABLE: U8 RWT. -/
abbrev FLD_Cc_CFG (c : Nat) : Key := okey (0x1210 + c) (1)

/-- R263. Largest jitter in µt, 0–384,000: U32 RWT. -/
abbrev FLD_Cc_JITTER (c : Nat) : Key := okey (0x1210 + c) (2)

/-- R263. Hear count that suppresses radio relay, 0–15: U8 RWT. -/
abbrev FLD_Cc_SUPPRESS (c : Nat) : Key := okey (0x1210 + c) (3)

/-- R263. NEW messages of the class: U32 RO. -/
abbrev FLD_Cc_NEW (c : Nat) : Key := okey (0x1210 + c) (4)

/-- R264. Descriptor 0: U32 CONST. -/
abbrev FLD_RQn_ADDR (n : Nat) : Key := okey (0x1220 + n) (1)

/-- R264. Descriptor to bind, 0–15: U8 WO. -/
abbrev FLD_RQn_BIND (n : Nat) : Key := okey (0x1220 + n) (2)

/-- R264. Binds refused: U32 RO. -/
abbrev FLD_RQn_BINDERR (n : Nat) : Key := okey (0x1220 + n) (3)

/-- R264. Bit i = 1: descriptor i is READY: U16 RO. -/
abbrev FLD_RQn_READY (n : Nat) : Key := okey (0x1220 + n) (4)

/-- R299. Address held under R272: U16 RO. -/
abbrev FAB_ADDR : Key := okey (0x1300) (1)

/-- R299. 0 NONE: U8 RO. -/
abbrev FAB_ADDR_STATE : Key := okey (0x1300) (2)

/-- R299. 0x001–0xFFE: U16 RW. -/
abbrev FAB_ADDR_PREF : Key := okey (0x1300) (3)

/-- R299. SINCE of the current claim: TT64 RO. -/
abbrev FAB_HELD_SINCE : Key := okey (0x1300) (4)

/-- R299. Fabric key slot: U8 RWT. -/
abbrev FAB_KEY : Key := okey (0x1300) (6)

/-- R299. Superframes, 1–255: U8 RWT. -/
abbrev FAB_LISTEN : Key := okey (0x1300) (7)

/-- R299. Superframes, 2–60: U8 RWT. -/
abbrev FAB_CLAIM_WAIT : Key := okey (0x1300) (8)

/-- R299. Superframes, 2–60: U8 RWT. -/
abbrev FAB_CONFLICT_WAIT : Key := okey (0x1300) (9)

/-- R299. Conflicts won or lost: U32 RO. -/
abbrev FAB_CONFLICTS : Key := okey (0x1300) (10)

/-- R299. Superframes, 5–60: U8 RWT. -/
abbrev FAB_LSA_PERIOD : Key := okey (0x1300) (11)

/-- R299. 1 MiB aligned, within 0x8000_0000–0xB7FF_FFFF: U32 RWT. -/
abbrev FAB_LSDB_BASE : Key := okey (0x1300) (12)

/-- R299. LSDB changes: U32 RO. -/
abbrev FAB_LSDB_GEN : Key := okey (0x1300) (13)

/-- R299. Destinations per tick, 64–4,096: U16 RW. -/
abbrev FAB_SPF_BUDGET : Key := okey (0x1300) (14)

/-- R299. Trail copy 0: U32 CONST. -/
abbrev FAB_TRAIL_ADDR : Key := okey (0x1300) (15)

/-- R299. Copy in force: U8 RO. -/
abbrev FAB_TRAIL_CUR : Key := okey (0x1300) (16)

/-- R299. 0 or 1: U8 WO. -/
abbrev FAB_TRAIL_COMMIT : Key := okey (0x1300) (17)

/-- R299. Radio neighbour table: U32 CONST. -/
abbrev FAB_RNB_ADDR : Key := okey (0x1300) (18)

/-- R299. dB, 0–30: I8 RWT. -/
abbrev FAB_RADIO_SNR_MIN : Key := okey (0x1300) (19)

/-- R299. µt, 384,000–3,840,000: U32 RWT. -/
abbrev FAB_FWD_WIN : Key := okey (0x1300) (20)

/-- R299. Unicast ring element 0: U32 CONST. -/
abbrev FAB_UQ_ADDR : Key := okey (0x1300) (21)

/-- R299. Elements published, modulo 65,536: U16 RO. -/
abbrev FAB_UQ_PROD : Key := okey (0x1300) (22)

/-- R299. Elements consumed: U16 RW. -/
abbrev FAB_UQ_CONS : Key := okey (0x1300) (23)

/-- R299. Dropped, ring full: U32 RO. -/
abbrev FAB_UQ_FULL : Key := okey (0x1300) (24)

/-- R299. Forward steps DONE: U32 RO. -/
abbrev FAB_FWD_SENT : Key := okey (0x1300) (25)

/-- R299. Dropped under step 5 of R284: U32 RO. -/
abbrev FAB_FWD_NOROUTE : Key := okey (0x1300) (26)

/-- R299. Dropped under step 4: U32 RO. -/
abbrev FAB_FWD_TTL : Key := okey (0x1300) (27)

/-- R299. Forward steps not DONE: U32 RO. -/
abbrev FAB_FWD_DROP : Key := okey (0x1300) (28)

/-- R299. Dropped under step 1: U32 RO. -/
abbrev FAB_FWD_BAD : Key := okey (0x1300) (29)

/-- R299. Dropped under R268: U32 RO. -/
abbrev FAB_RX_BADKIND : Key := okey (0x1300) (30)

/-- R300. 0 best: U8 RWT. -/
abbrev FAB_TIME_RANK : Key := okey (0x1301) (1)

/-- R300. 0 = none: U16 RO. -/
abbrev FAB_PARENT : Key := okey (0x1301) (2)

/-- R300. 0 port 0: U8 RO. -/
abbrev FAB_PARENT_VIA : Key := okey (0x1301) (3)

/-- R300. Time reference address: U16 RO. -/
abbrev FAB_TREF : Key := okey (0x1301) (4)

/-- R300. Timing hops to TREF: U8 RO. -/
abbrev FAB_HOPS : Key := okey (0x1301) (5)

/-- R300. Error estimate in µt: U16 RO. -/
abbrev FAB_ERR : Key := okey (0x1301) (6)

/-- R300. Last θ in µt: I32 RO. -/
abbrev FAB_THETA : Key := okey (0x1301) (7)

/-- R300. f in 1/256 µt per superframe: I32 RO. -/
abbrev FAB_FREQ : Key := okey (0x1301) (8)

/-- R300. Consecutive misses: U8 RO. -/
abbrev FAB_MISSES : Key := okey (0x1301) (9)

/-- R300. Entry to HOLDOVER: TT64 RO. -/
abbrev FAB_HOLD_SINCE : Key := okey (0x1301) (10)

/-- R300. 0.01 ppm, 1–1,000: U16 RWT. -/
abbrev FAB_HOLD_U : Key := okey (0x1301) (12)

/-- R300. 0.01 ppm per °C, 0–100: U16 RWT. -/
abbrev FAB_HOLD_TC : Key := okey (0x1301) (13)

/-- R300. µt, 0–3,840: U16 RWT. -/
abbrev FAB_PARENT_HYST : Key := okey (0x1301) (14)

/-- R300. Superframes, 1–255: U8 RWT. -/
abbrev FAB_ROOT_WAIT : Key := okey (0x1301) (15)

/-- R300. µt, 1–384: U16 RWT. -/
abbrev FAB_SPREAD_MAX : Key := okey (0x1301) (16)

/-- R300. µt, 3,840–38,400,000: U32 RWT. -/
abbrev FAB_MERGE_LIMIT : Key := okey (0x1301) (17)

/-- R300. Step under R298: TT64 WO. -/
abbrev FAB_TIME_SET : Key := okey (0x1301) (18)

/-- R300. Parent switches: U32 RO. -/
abbrev FAB_SWITCHES : Key := okey (0x1301) (20)

/-- R300. TIME_SPLIT refusals: U32 RO. -/
abbrev FAB_SPLITS : Key := okey (0x1301) (21)

/-- R301. 0 DOWN: U8 RO. -/
abbrev FAB_Wp_STATE (p : Nat) : Key := okey (0x1310 + p) (1)

/-- R301. Peer SRC: U16 RO. -/
abbrev FAB_Wp_PEER (p : Nat) : Key := okey (0x1310 + p) (2)

/-- R301. Window words 03 and 04: U64 RO. -/
abbrev FAB_Wp_PEER_UID (p : Nat) : Key := okey (0x1310 + p) (3)

/-- R301. 1–65,535: U16 RWT. -/
abbrev FAB_Wp_COST (p : Nat) : Key := okey (0x1310 + p) (5)

/-- R301. 1–64: U8 RWT. -/
abbrev FAB_Wp_CR_TOTAL (p : Nat) : Key := okey (0x1310 + p) (6)

/-- R301. AVAIL: U8 RO. -/
abbrev FAB_Wp_CR_AVAIL (p : Nat) : Key := okey (0x1310 + p) (7)

/-- R301. OUT: U8 RO. -/
abbrev FAB_Wp_CR_OUT (p : Nat) : Key := okey (0x1310 + p) (8)

/-- R301. HELD: U8 RO. -/
abbrev FAB_Wp_RX_HELD (p : Nat) : Key := okey (0x1310 + p) (9)

/-- R301. Path delay in µt: U32 RO. -/
abbrev FAB_Wp_DELAY (p : Nat) : Key := okey (0x1310 + p) (10)

/-- R301. µt: U16 RO. -/
abbrev FAB_Wp_SPREAD (p : Nat) : Key := okey (0x1310 + p) (11)

/-- R301. HELLOs from non-peers: U32 RO. -/
abbrev FAB_Wp_EXTRA (p : Nat) : Key := okey (0x1310 + p) (12)

/-- R301. Datagrams dropped: U32 RO. -/
abbrev FAB_Wp_RXDROP (p : Nat) : Key := okey (0x1310 + p) (13)

/-- R302. Descriptor 0: U32 CONST. -/
abbrev FAB_FQn_ADDR (n : Nat) : Key := okey (0x1340 + n) (1)

/-- R302. Descriptor to bind, 0–15: U8 WO. -/
abbrev FAB_FQn_BIND (n : Nat) : Key := okey (0x1340 + n) (2)

/-- R302. Binds refused: U32 RO. -/
abbrev FAB_FQn_BINDERR (n : Nat) : Key := okey (0x1340 + n) (3)

/-- R302. Bit i = 1: descriptor i READY: U16 RO. -/
abbrev FAB_FQn_READY (n : Nat) : Key := okey (0x1340 + n) (4)

/-- R333. [0] Headcount: U8 RWT. -/
abbrev SVC_ENABLE : Key := okey (0x1400) (1)

/-- R333. 0 NONE: U8 RO. -/
abbrev SVC_ROSTER_STATE : Key := okey (0x1400) (2)

/-- R333. GEN in force: U32 RO. -/
abbrev SVC_ROSTER_GEN : Key := okey (0x1400) (3)

/-- R333. COUNT in force: U16 RO. -/
abbrev SVC_ROSTER_N : Key := okey (0x1400) (4)

/-- R333. Service root in force: U16 RO. -/
abbrev SVC_ROOT : Key := okey (0x1400) (5)

/-- R333. Tally level 0–4: U8 RO. -/
abbrev SVC_LEVEL : Key := okey (0x1400) (6)

/-- R333. Tally parent: U16 RO. -/
abbrev SVC_TALLY_PARENT : Key := okey (0x1400) (7)

/-- R333. Superframes, 1–60: U8 RWT. -/
abbrev SVC_ROSTER_SETTLE : Key := okey (0x1400) (8)

/-- R333. Superframes, 2–60: U8 RWT. -/
abbrev SVC_ROSTER_LEAD : Key := okey (0x1400) (9)

/-- R333. Shard table copy 0: U32 CONST. -/
abbrev SVC_SHARD_ADDR : Key := okey (0x1400) (10)

/-- R333. Copy in force: U8 RO. -/
abbrev SVC_SHARD_CUR : Key := okey (0x1400) (11)

/-- R333. 128 MiB aligned, within 0x8000_0000–0xB7FF_FFFF: U32 RWT. -/
abbrev SVC_DRAM_BASE : Key := okey (0x1400) (12)

/-- R333. Ticks, 10–1,000: U16 RWT. -/
abbrev SVC_HANDOVER_WAIT : Key := okey (0x1400) (13)

/-- R333. Epochs, 1–255: U8 RWT. -/
abbrev SVC_HOME_AGE : Key := okey (0x1400) (14)

/-- R333. TAGFWDs redirected: U32 RO. -/
abbrev SVC_REDIRECT : Key := okey (0x1400) (15)

/-- R333. Redirected TAGFWDs dropped: U32 RO. -/
abbrev SVC_MISROUTED : Key := okey (0x1400) (16)

/-- R333. Shards started empty: U32 RO. -/
abbrev SVC_SHARDS_LOST : Key := okey (0x1400) (17)

/-- R333. UNICASTs with a reserved SVC: U32 RO. -/
abbrev SVC_BAD_CODE : Key := okey (0x1400) (18)

/-- R334. 1 OPEN: U8 WO. -/
abbrev SVC_Qq_CMD (q : Nat) : Key := okey (0x1410 + q) (1)

/-- R334. Staged NOPT: U8 RW. -/
abbrev SVC_Qq_NOPT (q : Nat) : Key := okey (0x1410 + q) (2)

/-- R334. Staged: TT64 RW. -/
abbrev SVC_Qq_OPEN_AT (q : Nat) : Key := okey (0x1410 + q) (3)

/-- R334. Staged: TT64 RW. -/
abbrev SVC_Qq_CLOSE_AT (q : Nat) : Key := okey (0x1410 + q) (5)

/-- R334. Staged: U32 RW. -/
abbrev SVC_Qq_TAG_LO (q : Nat) : Key := okey (0x1410 + q) (7)

/-- R334. Staged: U32 RW. -/
abbrev SVC_Qq_SPAN (q : Nat) : Key := okey (0x1410 + q) (8)

/-- R334. 0 IDLE: U8 RO. -/
abbrev SVC_Qq_STATE (q : Nat) : Key := okey (0x1410 + q) (9)

/-- R334. Round held: U16 RO. -/
abbrev SVC_Qq_ROUND (q : Nat) : Key := okey (0x1410 + q) (10)

/-- R334. Root: totals last reported: U32 RO. -/
abbrev SVC_Qq_TOTAL (q i : Nat) : Key := okey (0x1410 + q) (11 + i)

/-- R334. NODES behind those totals: U16 RO. -/
abbrev SVC_Qq_NODES (q : Nat) : Key := okey (0x1410 + q) (19)

/-- R335. PRESS TAGFWDs sent: U32 RO. -/
abbrev SVC_HC_FWD : Key := okey (0x1420) (1)

/-- R335. Presses counted: U32 RO. -/
abbrev SVC_HC_COUNTED : Key := okey (0x1420) (2)

/-- R335. Presses discarded by the bitmap: U32 RO. -/
abbrev SVC_HC_DUP : Key := okey (0x1420) (3)

/-- R335. Presses failing R317: U32 RO. -/
abbrev SVC_HC_INVALID : Key := okey (0x1420) (4)

/-- R335. Presses held in a WAITING shard: U32 RO. -/
abbrev SVC_HC_HELD : Key := okey (0x1420) (5)

/-- R335. ROLLUPs ignored: U32 RO. -/
abbrev SVC_HC_ROLLUP_STALE : Key := okey (0x1420) (6)

/-- R335. HC_REPORTs sent: U32 RO. -/
abbrev SVC_HC_REPORTS : Key := okey (0x1420) (7)

/-- R336. Staged CUE payload, 24–40 bytes: DOM RW. -/
abbrev SVC_LTN_STAGE : Key := okey (0x1430) (1)

/-- R336. 1 SEND: U8 WO. -/
abbrev SVC_LTN_CMD : Key := okey (0x1430) (2)

/-- R336. µt, 384,000–2,304,000,000: U32 RWT. -/
abbrev SVC_LTN_MIN_LEAD : Key := okey (0x1430) (3)

/-- R336. CUE elements per beacon, 1–8: U8 RWT. -/
abbrev SVC_LTN_PER_BEACON : Key := okey (0x1430) (4)

/-- R336. Pending cues: U8 RO. -/
abbrev SVC_LTN_PENDING : Key := okey (0x1430) (5)

/-- R336. Local actions done: U32 RO. -/
abbrev SVC_LTN_FIRED : Key := okey (0x1430) (6)

/-- R336. Cues taken too late: U32 RO. -/
abbrev SVC_LTN_LATE : Key := okey (0x1430) (7)

/-- R336. Cues dropped, table full: U32 RO. -/
abbrev SVC_LTN_DROPPED : Key := okey (0x1430) (8)

/-- R337. Staged descriptor, 40 bytes: DOM RW. -/
abbrev SVC_HMP_STAGE : Key := okey (0x1440) (1)

/-- R337. KIND 1 image, up to 1 MiB: DOM WO. -/
abbrev SVC_HMP_IMAGE : Key := okey (0x1440) (2)

/-- R337. 1 START: U8 WO. -/
abbrev SVC_HMP_CMD : Key := okey (0x1440) (3)

/-- R337. Pieces per superframe, 1–64: U8 RWT. -/
abbrev SVC_HMP_RATE : Key := okey (0x1440) (4)

/-- R337. 0 IDLE: U8 RO. -/
abbrev SVC_HMP_STATE : Key := okey (0x1440) (5)

/-- R337. IMAGE of the campaign: U16 RO. -/
abbrev SVC_HMP_ID : Key := okey (0x1440) (6)

/-- R337. Pieces held: U16 RO. -/
abbrev SVC_HMP_HAVE : Key := okey (0x1440) (7)

/-- R337. COUNT: U16 RO. -/
abbrev SVC_HMP_COUNT : Key := okey (0x1440) (8)

/-- R337. PIECE_REQs sent: U32 RO. -/
abbrev SVC_HMP_REQ : Key := okey (0x1440) (9)

/-- R337. Tag pieces sent: U32 RO. -/
abbrev SVC_HMP_TAG_SENT : Key := okey (0x1440) (10)

/-- R337. Rendezvous skipped: U32 RO. -/
abbrev SVC_HMP_TAG_SKIP : Key := okey (0x1440) (11)

/-- R338. RUN: U32 RO. -/
abbrev SVC_BSK_RUN : Key := okey (0x1450) (1)

/-- R338. Next SEQ to assign: U32 RO. -/
abbrev SVC_BSK_NEXT : Key := okey (0x1450) (2)

/-- R338. Next SEQ not yet taken by the host: U32 RW. -/
abbrev SVC_BSK_ACKED : Key := okey (0x1450) (3)

/-- R338. Records, 1–4,096: U16 RWT. -/
abbrev SVC_BSK_WINDOW : Key := okey (0x1450) (4)

/-- R338. Records, 256–16,384: U16 RWT. -/
abbrev SVC_BSK_QLEN : Key := okey (0x1450) (5)

/-- R338. Seconds, 1–60: U8 RWT. -/
abbrev SVC_BSK_DEDUP : Key := okey (0x1450) (6)

/-- R338. BSK_UPs dropped, queue full: U32 RO. -/
abbrev SVC_BSK_DROPPED : Key := okey (0x1450) (7)

/-- R338. DATA bodies too long to forward: U32 RO. -/
abbrev SVC_BSK_TOOBIG : Key := okey (0x1450) (8)

/-- R338. Staged request, 20–220 bytes: DOM RW. -/
abbrev SVC_BSK_DN_STAGE : Key := okey (0x1450) (9)

/-- R338. 1 SEND: U8 WO. -/
abbrev SVC_BSK_DN_CMD : Key := okey (0x1450) (10)

/-- R338. Requests awaiting an outcome: U16 RO. -/
abbrev SVC_BSK_DN_OPEN : Key := okey (0x1450) (11)

/-- R373. 0 STARTING: U8 RO. -/
abbrev SHL_STATE : Key := okey (0x1800) (1)

/-- R373. Bit c − 1 = source c latched since power-on reset: U8 RO. -/
abbrev SHL_ALARM_SRC : Key := okey (0x1800) (2)

/-- R373. D of the last alarm of action LOG or above, under R363: TT64 RO. -/
abbrev SHL_ALARM_AT : Key := okey (0x1800) (3)

/-- R373. Alarms of any action above OFF since power-on reset: U32 RO. -/
abbrev SHL_ALARM_TOTAL : Key := okey (0x1800) (5)

/-- R373. Fuses burnt, 0–32: U8 RO. -/
abbrev SHL_WRAP_GEN : Key := okey (0x1800) (6)

/-- R373. LOADED and EXHAUSTED slots: U16 RO. -/
abbrev SHL_SLOTS_LOADED : Key := okey (0x1800) (7)

/-- R373. 0 OK: U8 RO. -/
abbrev SHL_RNG_STATE : Key := okey (0x1800) (8)

/-- R373. Health-test failures: U32 RO. -/
abbrev SHL_RNG_FAILS : Key := okey (0x1800) (9)

/-- R373. Command code of R346: U8 WO. -/
abbrev SHL_CMD : Key := okey (0x1800) (10)

/-- R373. Target slot: U8 RW. -/
abbrev SHL_CMD_SLOT : Key := okey (0x1800) (11)

/-- R373. Argument, at most 256 bytes: DOM RW. -/
abbrev SHL_CMD_ARG : Key := okey (0x1800) (12)

/-- R373. Status of R350: U8 RO. -/
abbrev SHL_CMD_STATUS : Key := okey (0x1800) (13)

/-- R373. Output of the last command: DOM RO. -/
abbrev SHL_CMD_OUT : Key := okey (0x1800) (14)

/-- R373. Copy 0 of slot 0's counter block: U32 CONST. -/
abbrev SHL_CTR_BASE : Key := okey (0x1800) (15)

/-- R373. Bit k = persistence requested for slot k: U64 RO. -/
abbrev SHL_CTR_PERSIST : Key := okey (0x1800) (16)

/-- R367. measurement register i: DOM RW. -/
abbrev SHL_MEAS (i : Nat) : Key := okey (0x1801) (1 + i)

/-- R361. : U8 RWT. -/
abbrev SHL_ALM_VGLITCH_ACT : Key := okey (0x1802) (1)

/-- R361. : U8 RWT. -/
abbrev SHL_ALM_CGLITCH_ACT : Key := okey (0x1802) (2)

/-- R361. : U8 RWT. -/
abbrev SHL_ALM_KMON_ACT : Key := okey (0x1802) (3)

/-- R361. : U8 RWT. -/
abbrev SHL_ALM_TEMP_ACT : Key := okey (0x1802) (4)

/-- R361. : U8 RWT. -/
abbrev SHL_ALM_TAMP0_ACT : Key := okey (0x1802) (5)

/-- R361. : U8 RWT. -/
abbrev SHL_ALM_TAMP1_ACT : Key := okey (0x1802) (6)

/-- R361. : U8 RWT. -/
abbrev SHL_ALM_POWER_ACT : Key := okey (0x1802) (7)

/-- R362. : U8 RWT. -/
abbrev SHL_TAMPp_MODE (i : Nat) : Key := okey (0x1802) (8 + i)

/-- R362. : U8 RWT. -/
abbrev SHL_TAMPp_FILT (i : Nat) : Key := okey (0x1802) (10 + i)

/-- R366. 64-byte public key of slot 0, under R347: DOM CONST. -/
abbrev SHL_ID_PUB : Key := okey (0x1803) (1)

/-- R366. Certificate, at most 1,024 bytes: DOM CONST. -/
abbrev SHL_ID_CERT : Key := okey (0x1803) (2)

/-- R366. Nonce for the next report: DOM RW. -/
abbrev SHL_ATT_NONCE : Key := okey (0x1803) (3)

/-- R366. Last report formed, 256 bytes: DOM RO. -/
abbrev SHL_ATT_REPORT : Key := okey (0x1803) (4)

/-- R373. Challenge of R370: DOM RO. -/
abbrev SHL_DBG_CHAL : Key := okey (0x1804) (1)

/-- R373. Response of R371: DOM WO. -/
abbrev SHL_DBG_RESP : Key := okey (0x1804) (2)

/-- R373. 0 CLOSED: U8 RO. -/
abbrev SHL_DBG_STATE : Key := okey (0x1804) (3)

/-- R373. Refusals since reset: U8 RO. -/
abbrev SHL_DBG_FAILS : Key := okey (0x1804) (4)

/-- R373. End of the unlock: TT64 RO. -/
abbrev SHL_DBG_UNTIL : Key := okey (0x1804) (5)

/-- R342. Index 0x1840 + (k >> 7): U32 RO. -/
abbrev SHL_SLOTk_ATTR (k : Nat) : Key := okey (0x1840 + k / 128) (k % 128 + 1)

/-- R342. Index 0x1842 + (k >> 7): U32 RO. -/
abbrev SHL_SLOTk_CTR (k : Nat) : Key := okey (0x1842 + k / 128) (k % 128 + 1)

/-- R342. Index 0x1844 + (k >> 7): U32 RO. -/
abbrev SHL_SLOTk_LIMIT (k : Nat) : Key := okey (0x1844 + k / 128) (k % 128 + 1)

/-- R395. Descriptor address under R375: U32 WO. -/
abbrev JOB_SUBMIT : Key := okey (0x1900) (1)

/-- R395. Reading core's last ticket: U32 RO. -/
abbrev JOB_TICKET : Key := okey (0x1900) (2)

/-- R395. Main ledger: U32 CONST. -/
abbrev JOB_LED_ADDR : Key := okey (0x1900) (3)

/-- R395. Next ticket: U32 RO. -/
abbrev JOB_LED_PROD : Key := okey (0x1900) (4)

/-- R395. Oldest ticket whose record firmware still needs: U32 RW. -/
abbrev JOB_LED_CONS : Key := okey (0x1900) (5)

/-- R395. Refusals and uncreated jobs under R380: U32 RO. -/
abbrev JOB_LED_FULL : Key := okey (0x1900) (6)

/-- R395. Core jobs RUNNING, 0–4: U8 RO. -/
abbrev JOB_RUNNING : Key := okey (0x1900) (7)

/-- R395. Records final: U32 RO. -/
abbrev JOB_ENDED : Key := okey (0x1900) (8)

/-- R395. Records PARTIAL or ABANDONED: U32 RO. -/
abbrev JOB_FAILED : Key := okey (0x1900) (9)

/-- R395. Records ended at the last reset: U16 RO. -/
abbrev JOB_RECOVERED : Key := okey (0x1900) (10)

/-- R395. Snapshot copy last written: U8 RO. -/
abbrev JOB_SNAP_CUR : Key := okey (0x1900) (11)

/-- R395. SEQ of that copy: U32 RO. -/
abbrev JOB_SNAP_SEQ : Key := okey (0x1900) (12)

/-- R396. Cell 0: U32 CONST. -/
abbrev JOB_POOLn_ADDR (n : Nat) : Key := okey (0x1910 + n) (1)

/-- R396. Link table: U32 CONST. -/
abbrev JOB_POOLn_LINK (n : Nat) : Key := okey (0x1910 + n) (2)

/-- R396. Cells: U16 CONST. -/
abbrev JOB_POOLn_TOTAL (n : Nat) : Key := okey (0x1910 + n) (3)

/-- R396. [10:0] FREE: U64 RO. -/
abbrev JOB_POOLn_LIVE (n : Nat) : Key := okey (0x1910 + n) (4)

/-- R396. First cell of a chain to release: U16 WO. -/
abbrev JOB_POOLn_FREE_CMD (n : Nat) : Key := okey (0x1910 + n) (6)

/-- R396. POOL_LOW threshold: U16 RWT. -/
abbrev JOB_POOLn_LOW (n : Nat) : Key := okey (0x1910 + n) (7)

/-- R396. Takes refused: U32 RO. -/
abbrev JOB_POOLn_EMPTY (n : Nat) : Key := okey (0x1910 + n) (8)

/-- R396. Releases refused: U32 RO. -/
abbrev JOB_POOLn_BADFREE (n : Nat) : Key := okey (0x1910 + n) (9)

/-- R396. Slice ledger: U32 CONST. -/
abbrev JOB_SLEDn_ADDR (n : Nat) : Key := okey (0x1910 + n) (10)

/-- R397. Fields of R393: U8 RW. -/
abbrev JOB_CRCu_CFG (u : Nat) : Key := okey (0x1920 + u) (1)

/-- R397. Loaded by START: U32 RW. -/
abbrev JOB_CRCu_INIT (u : Nat) : Key := okey (0x1920 + u) (2)

/-- R397. Feed under R392: U32 WO. -/
abbrev JOB_CRCu_DATA (u : Nat) : Key := okey (0x1920 + u) (3)

/-- R397. CRC of bytes absorbed, CFG applied: U32 RO. -/
abbrev JOB_CRCu_RESULT (u : Nat) : Key := okey (0x1920 + u) (4)

/-- R397. Compared value: U32 RW. -/
abbrev JOB_CRCu_EXPECT (u : Nat) : Key := okey (0x1920 + u) (5)

/-- R397. Bytes before the compare: U32 RW. -/
abbrev JOB_CRCu_LEN (u : Nat) : Key := okey (0x1920 + u) (6)

/-- R397. 1 START: U8 WO. -/
abbrev JOB_CRCu_CMD (u : Nat) : Key := okey (0x1920 + u) (7)

/-- R397. Bytes absorbed: U32 RO. -/
abbrev JOB_CRCu_COUNT (u : Nat) : Key := okey (0x1920 + u) (8)

/-- R397. [0] MATCH: U8 RW. -/
abbrev JOB_CRCu_FLAGS (u : Nat) : Key := okey (0x1920 + u) (9)

/-- R397. Mismatches: U32 RO. -/
abbrev JOB_CRCu_MISMATCHES (u : Nat) : Key := okey (0x1920 + u) (10)

/-- R457. 0 OFF: U8 RO. -/
abbrev DRM_STATE : Key := okey (0x1A00) (1)

/-- R457. Grain code 0–6 under R438: U8 RW. -/
abbrev DRM_GRAIN : Key := okey (0x1A00) (2)

/-- R457. Grain code in force: U8 RO. -/
abbrev DRM_GRAIN_NOW : Key := okey (0x1A00) (3)

/-- R457. Usable bytes: U32 RO. -/
abbrev DRM_SIZE : Key := okey (0x1A00) (4)

/-- R457. Row units still marked clean: U32 RO. -/
abbrev DRM_CLEAN : Key := okey (0x1A00) (5)

/-- R457. Seconds per patrol, 600–65,535: U16 RWT. -/
abbrev DRM_SCRUB_PERIOD : Key := okey (0x1A00) (6)

/-- R457. Superframes, 1–60: U8 RWT. -/
abbrev DRM_RETRAIN_PERIOD : Key := okey (0x1A00) (7)

/-- R457. °C, 2–20: U8 RWT. -/
abbrev DRM_RETRAIN_DT : Key := okey (0x1A00) (8)

/-- R457. Activates, 512–8,192: U16 RWT. -/
abbrev DRM_RH_THRESH : Key := okey (0x1A00) (9)

/-- R457. Victim distance, 1 or 2: U8 RWT. -/
abbrev DRM_RH_REACH : Key := okey (0x1A00) (10)

/-- R457. µt between throttled activates, 8–3,840: U16 RWT. -/
abbrev DRM_RH_THROTTLE : Key := okey (0x1A00) (11)

/-- R457. Requester ID of R440 last throttled: U8 RO. -/
abbrev DRM_RH_LAST_REQ : Key := okey (0x1A00) (12)

/-- R457. Refresh interval in eighths, 2–8: U8 RWT. -/
abbrev DRM_REF_SCALE : Key := okey (0x1A00) (13)

/-- R457. Added MCLK cycles, 0–7: U8 RWT. -/
abbrev DRM_TIMING_ADD : Key := okey (0x1A00) (14)

/-- R458. 0 OK: U8 RO. -/
abbrev DRM_CHc_STATE (c : Nat) : Key := okey (0x1A10 + c) (1)

/-- R458. Corrected errors: U32 RO. -/
abbrev DRM_CHc_CE (c : Nat) : Key := okey (0x1A10 + c) (2)

/-- R458. Uncorrectable errors: U32 RO. -/
abbrev DRM_CHc_UE (c : Nat) : Key := okey (0x1A10 + c) (3)

/-- R458. Corrected errors in the last complete superframe: U16 RO. -/
abbrev DRM_CHc_CE_SF (c : Nat) : Key := okey (0x1A10 + c) (4)

/-- R458. Fence threshold per superframe, 1–4,096: U16 RWT. -/
abbrev DRM_CHc_FENCE_CE (c : Nat) : Key := okey (0x1A10 + c) (5)

/-- R458. Address of the last uncorrectable block: U32 RO. -/
abbrev DRM_CHc_LAST_ERR (c : Nat) : Key := okey (0x1A10 + c) (6)

/-- R458. Narrowest adopted eye in the last round, 1/64 UI: U16 RO. -/
abbrev DRM_CHc_EYE (c : Nat) : Key := okey (0x1A10 + c) (7)

/-- R458. End of the last round: TT64 RO. -/
abbrev DRM_CHc_TRAINED_AT (c : Nat) : Key := okey (0x1A10 + c) (8)

/-- R458. Steps with no working setting: U32 RO. -/
abbrev DRM_CHc_RETRAIN_FAIL (c : Nat) : Key := okey (0x1A10 + c) (10)

/-- R458. Pauses taken: U32 RO. -/
abbrev DRM_CHc_PAUSES (c : Nat) : Key := okey (0x1A10 + c) (11)

/-- R458. Steps moved to a later gap: U32 RO. -/
abbrev DRM_CHc_PAUSE_MOVED (c : Nat) : Key := okey (0x1A10 + c) (12)

/-- R458. Victim refreshes: U32 RO. -/
abbrev DRM_CHc_RH_VICTIM (c : Nat) : Key := okey (0x1A10 + c) (13)

/-- R458. Throttles imposed: U32 RO. -/
abbrev DRM_CHc_RH_THROTTLED (c : Nat) : Key := okey (0x1A10 + c) (14)

/-- R458. Per-bank refresh interval in force, ns: U16 RO. -/
abbrev DRM_CHc_REF_INT (c : Nat) : Key := okey (0x1A10 + c) (15)

/-- R459. FIFO bytes: U16 RO. -/
abbrev DRM_RTn_LEVEL (n : Nat) : Key := okey (0x1A20 + n) (1)

/-- R459. Panic level, 1,024–3,584: U16 RWT. -/
abbrev DRM_RTn_PANIC (n : Nat) : Key := okey (0x1A20 + n) (2)

/-- R459. Entries into panic: U32 RO. -/
abbrev DRM_RTn_PANICS (n : Nat) : Key := okey (0x1A20 + n) (3)

/-- R459. Capture words lost: U32 RO. -/
abbrev DRM_RTn_OVERFLOW (n : Nat) : Key := okey (0x1A20 + n) (4)

/-- R459. Highest level since written 0: U16 RW. -/
abbrev DRM_RTn_MAXLEVEL (n : Nat) : Key := okey (0x1A20 + n) (5)

/-- R487. Main sector 0: U32 CONST. -/
abbrev FLS_MAIN_ADDR : Key := okey (0x1B00) (1)

/-- R487. Parameter sector 0: U32 CONST. -/
abbrev FLS_PAR_ADDR : Key := okey (0x1B00) (2)

/-- R487. Warning threshold in corrected bits per read, 1–2: U8 RWT. -/
abbrev FLS_CB_WARN : Key := okey (0x1B00) (3)

/-- R487. Pulses above which a line warns, 2–7: U8 RWT. -/
abbrev FLS_PULSE_WARN : Key := okey (0x1B00) (4)

/-- R487. Lock range under R486: U32 RW. -/
abbrev FLS_LOCK : Key := okey (0x1B00) (5)

/-- R487. Corrected bits since reset: U32 RO. -/
abbrev FLS_CB_TOTAL : Key := okey (0x1B00) (6)

/-- R487. Uncorrectable lines met: U32 RO. -/
abbrev FLS_UE : Key := okey (0x1B00) (7)

/-- R487. Address of the last one: U32 RO. -/
abbrev FLS_LAST_UE : Key := okey (0x1B00) (8)

/-- R487. Warnings set: U32 RO. -/
abbrev FLS_WARN_COUNT : Key := okey (0x1B00) (9)

/-- R487. Physical sectors retired, all banks: U16 RO. -/
abbrev FLS_RETIRED : Key := okey (0x1B00) (10)

/-- R487. Entries in FLS_INDET_LIST, 0–8: U8 RO. -/
abbrev FLS_INDET_N : Key := okey (0x1B00) (11)

/-- R487. Up to 8 entries of R483: DOM RO. -/
abbrev FLS_INDET_LIST : Key := okey (0x1B00) (12)

/-- R487. Entry index to remove: U8 WO. -/
abbrev FLS_INDET_ACK : Key := okey (0x1B00) (13)

/-- R487. Ticket of the last job with a code of 0x20 or above: U32 RO. -/
abbrev FLS_LAST_FAIL : Key := okey (0x1B00) (14)

/-- R487. Its code under R469: U8 RO. -/
abbrev FLS_LAST_FAIL_CODE : Key := okey (0x1B00) (15)

/-- R487. Line concerned: U32 RO. -/
abbrev FLS_LAST_FAIL_ADDR : Key := okey (0x1B00) (16)

/-- R487. Bit b = 1: bank b programming or erasing: U8 RO. -/
abbrev FLS_BUSY : Key := okey (0x1B00) (17)

/-- R487. Records written to the record area since manufacture: U32 RO. -/
abbrev FLS_RECORDS : Key := okey (0x1B00) (18)

/-- R488. Clean pool sectors: U8 RO. -/
abbrev FLS_BKb_CLEAN (b : Nat) : Key := okey (0x1B10 + b) (1)

/-- R488. Dirty pool sectors: U8 RO. -/
abbrev FLS_BKb_DIRTY (b : Nat) : Key := okey (0x1B10 + b) (2)

/-- R488. Retired sectors: U8 RO. -/
abbrev FLS_BKb_RETIRED (b : Nat) : Key := okey (0x1B10 + b) (3)

/-- R488. Physical erases since manufacture: U32 RO. -/
abbrev FLS_BKb_ERASES (b : Nat) : Key := okey (0x1B10 + b) (4)

/-- R488. Highest erase count of a physical sector: U32 RO. -/
abbrev FLS_BKb_MAXWEAR (b : Nat) : Key := okey (0x1B10 + b) (5)

/-- R488. Suspensions under R465: U32 RO. -/
abbrev FLS_BKb_SUSPENDS (b : Nat) : Key := okey (0x1B10 + b) (6)

/-- R431. 0 none: U8 RW. -/
abbrev COR_ENTRY_REQ : Key := okey (0x1C00) (1)

/-- R431. 0 none: U8 RO. -/
abbrev COR_ENTRY_RESULT : Key := okey (0x1C00) (2)

/-- R431. Bit c = 1: core c was running at the last NOT_IDLE: U8 RO. -/
abbrev COR_ENTRY_BUSY : Key := okey (0x1C00) (3)

/-- R431. Entries accepted: U32 RO. -/
abbrev COR_ENTRIES : Key := okey (0x1C00) (4)

/-- R431. NOT_IDLE outcomes: U32 RO. -/
abbrev COR_ENTRY_REFUSED : Key := okey (0x1C00) (5)

/-- R431. Bit c = 1: core c released from HELD: U8 RW. -/
abbrev COR_RELEASE : Key := okey (0x1C00) (6)

/-- R431. Bit c = 1: core c in Sprout mode: U8 RO. -/
abbrev COR_SPROUT : Key := okey (0x1C00) (7)

/-- R431. Bit c = 1: core c in WAIT: U8 RO. -/
abbrev COR_WAITING : Key := okey (0x1C00) (8)

/-- R431. Double faults: U32 RO. -/
abbrev COR_DBL_FAULTS : Key := okey (0x1C00) (9)

/-- R432. 0 HELD: U8 RO. -/
abbrev COR_c_STATE (c : Nat) : Key := okey (0x1C10 + c) (1)

/-- R432. 1 RESTART: U8 WO. -/
abbrev COR_c_CTRL (c : Nat) : Key := okey (0x1C10 + c) (2)

/-- R432. Start address for release and restart: U32 RW. -/
abbrev COR_c_START (c : Nat) : Key := okey (0x1C10 + c) (3)

/-- R432. PC sampled at the read: U32 RO. -/
abbrev COR_c_PC (c : Nat) : Key := okey (0x1C10 + c) (4)

/-- R432. TCAUSE of the last trap: U8 RO. -/
abbrev COR_c_TCAUSE (c : Nat) : Key := okey (0x1C10 + c) (5)

/-- R432. TPC of the last trap: U32 RO. -/
abbrev COR_c_TPC (c : Nat) : Key := okey (0x1C10 + c) (6)

/-- R432. Traps taken: U32 RO. -/
abbrev COR_c_TRAPS (c : Nat) : Key := okey (0x1C10 + c) (7)

/-- R432. Events queued: U8 RO. -/
abbrev COR_c_EVDEPTH (c : Nat) : Key := okey (0x1C10 + c) (8)

/-- R432. Events dropped under R419: U32 RO. -/
abbrev COR_c_EVLOST (c : Nat) : Key := okey (0x1C10 + c) (9)

/-- R432. SYSCLK cycles outside WAIT since leaving HELD: U64 RO. -/
abbrev COR_c_BUSY (c : Nat) : Key := okey (0x1C10 + c) (10)

/-- R584. 1 POWER_ON: U8 RO. -/
abbrev COR_RESET_CAUSE : Key := okey (0x1C20) (1)

/-- R584. 1 resets the main die with cause SOFT at the next tick boundary: U8 WO. -/
abbrev COR_RESET_CMD : Key := okey (0x1C20) (2)

/-- R584. Slot whose BASE runs: U8 RO. -/
abbrev COR_IMG_RUN : Key := okey (0x1C20) (3)

/-- R584. Window base of that slot: U32 RO. -/
abbrev COR_IMG_RUN_BASE : Key := okey (0x1C20) (4)

/-- R584. Slot booted by the ROM and locked: U8 RO. -/
abbrev COR_IMG_BOOT : Key := okey (0x1C20) (5)

/-- R584. STATE of the newest boot record: U8 RO. -/
abbrev COR_IMG_STATE : Key := okey (0x1C20) (6)

/-- R584. Its TRIES: U8 RO. -/
abbrev COR_IMG_TRIES : Key := okey (0x1C20) (7)

/-- R584. BUNDLE_VER running: U32 RO. -/
abbrev COR_IMG_VER : Key := okey (0x1C20) (8)

/-- R584. Security floor, 0–256: U16 RO. -/
abbrev COR_IMG_FLOOR : Key := okey (0x1C20) (9)

/-- R584. Health deadline: TT64 RO. -/
abbrev COR_IMG_HEALTH_AT : Key := okey (0x1C20) (10)

/-- R584. Last check status of slot A: U8 RO. -/
abbrev COR_IMG_CHECK_A : Key := okey (0x1C20) (12)

/-- R584. Last check status of slot B: U8 RO. -/
abbrev COR_IMG_CHECK_B : Key := okey (0x1C20) (13)

/-- R584. SEQ of the newest boot record: U32 RO. -/
abbrev COR_IMG_SEQ : Key := okey (0x1C20) (14)

/-- R584. FAB_VER running: U16 RO. -/
abbrev COR_IMG_FAB_VER : Key := okey (0x1C20) (15)

/-- R584. STATE_VER running: U16 RO. -/
abbrev COR_IMG_STATE_VER : Key := okey (0x1C20) (16)

/-- R584. [3:0] fuse k burnt: U8 RO. -/
abbrev COR_IMG_REVOKED : Key := okey (0x1C20) (17)

/-- R584. R to G of the last start, 0.1 ms: U16 RO. -/
abbrev COR_IMG_ROM_TIME : Key := okey (0x1C20) (18)

/-- R536. Bit p = level of pin p: U16 RO. -/
abbrev GIO_IN : Key := okey (0x1D00) (1)

/-- R536. Output latches: U16 RW. -/
abbrev GIO_OUT : Key := okey (0x1D00) (2)

/-- R536. 1 bits set latches: U16 WO. -/
abbrev GIO_SET : Key := okey (0x1D00) (3)

/-- R536. 1 bits clear latches: U16 WO. -/
abbrev GIO_CLR : Key := okey (0x1D00) (4)

/-- R536. 1 bits invert latches: U16 WO. -/
abbrev GIO_TOGGLE : Key := okey (0x1D00) (5)

/-- R536. GPIO_EDGE events raised: U32 RO. -/
abbrev GIO_EDGES : Key := okey (0x1D00) (6)

/-- R536. Timed drives served: U32 RO. -/
abbrev GIO_TIMED_DONE : Key := okey (0x1D00) (7)

/-- R536. Timed drives not served: U32 RO. -/
abbrev GIO_TIMED_LATE : Key := okey (0x1D00) (8)

/-- R536. Pin supply in 0.1 V: U8 CONST. -/
abbrev GIO_IO_VOLT : Key := okey (0x1D00) (9)

/-- R536. 0 4 mA: U8 RWT. -/
abbrev GIO_DRIVE : Key := okey (0x1D00) (10)

/-- R536. Under R535: U8 RWT. -/
abbrev GIO_p_CFG (p : Nat) : Key := okey (0x1D10 + p) (1)

/-- R536. Bit p of GIO_OUT: BOOL RW. -/
abbrev GIO_p_OUT (p : Nat) : Key := okey (0x1D10 + p) (2)

/-- R536. Bit p of GIO_IN: BOOL RO. -/
abbrev GIO_p_IN (p : Nat) : Key := okey (0x1D10 + p) (3)

/-- R536. Timed drive: TT64 RW. -/
abbrev GIO_p_AT (p : Nat) : Key := okey (0x1D10 + p) (4)

/-- R536. Level of the timed drive: BOOL RW. -/
abbrev GIO_p_AT_LEVEL (p : Nat) : Key := okey (0x1D10 + p) (6)

/-- R153. Margin in 0.5 dB units, 0–40: U8 RW. -/
abbrev NBF_LOAD_MARGIN : Key := okey (0x2040) (1)

/-- R153. Weight w of pen[d] in sixteenths, 0–16: U8 RW. -/
abbrev NBF_LOAD_PEAK_W : Key := okey (0x2040) (2)

/-- R153. Receive records averaged, 1–16: U8 RW. -/
abbrev NBF_LOAD_FRAMES : Key := okey (0x2040) (3)

/-- R153. Superframes between recomputations of one link: U16 RW. -/
abbrev NBF_LOAD_PERIOD : Key := okey (0x2040) (4)

/-- R153. Percent gain in info needed to replace a map, 0–100: U8 RW. -/
abbrev NBF_LOAD_MIN_GAIN : Key := okey (0x2040) (5)

/-- R153. [0] rate 1/2, [1] rate 2/3, [2] rate 3/4 allowed: U8 RW. -/
abbrev NBF_LOAD_RATES : Key := okey (0x2040) (6)

/-- R153. Unacknowledged downlinks before falling back to map 0x01, 1–15: U8 RW. -/
abbrev NBF_MAP_FALLBACK_TRIES : Key := okey (0x2040) (7)

/-- R559. Slack target, 5–32: U8 RW. -/
abbrev NBF_CPS_SLACK_TGT : Key := okey (0x2041) (1)

/-- R559. Relocations per survey, 0–32: U8 RW. -/
abbrev NBF_CPS_FL_MAX : Key := okey (0x2041) (2)

/-- R584. 0 IDLE: U8 RO. -/
abbrev NBF_UPD_STATE : Key := okey (0x2050) (1)

/-- R584. IMAGE collected: U16 RO. -/
abbrev NBF_UPD_IMAGE : Key := okey (0x2050) (2)

/-- R584. Pieces held: U16 RO. -/
abbrev NBF_UPD_HAVE : Key := okey (0x2050) (3)

/-- R584. COUNT, at most 9,984: U16 RO. -/
abbrev NBF_UPD_COUNT : Key := okey (0x2050) (4)

/-- R584. IMAGE, INDEX, COUNT (2 bytes each), 2 reserved bytes, SIZE (4) and the piece: DOM WO. -/
abbrev NBF_UPD_PIECE : Key := okey (0x2050) (5)

/-- R584. E under R577: TT64 RW. -/
abbrev NBF_UPD_ACT_AT : Key := okey (0x2050) (6)

/-- R584. Mode chosen at E: 0 ROLL: U8 RO. -/
abbrev NBF_UPD_MODE : Key := okey (0x2050) (7)

/-- R584. 1 CHECK: U8 WO. -/
abbrev NBF_UPD_CMD : Key := okey (0x2050) (8)

/-- R584. R580: U8 RW. -/
abbrev NBF_UPD_HEALTH_MASK : Key := okey (0x2050) (9)

/-- R584. Superframes, 5–255: U8 RW. -/
abbrev NBF_UPD_HEALTH_HOLD : Key := okey (0x2050) (10)

/-- R584. Criteria met in the last superframe: U8 RO. -/
abbrev NBF_UPD_HEALTH_NOW : Key := okey (0x2050) (11)

/-- R584. Last status of R573: U8 RO. -/
abbrev NBF_UPD_LAST_FAIL : Key := okey (0x2050) (12)

end Obj

def g000 : ObjGroup :=
  ⟨0x0, 1, 0x0, 1, [
    r 1 1 .str .const .view .own .any,
    r 2 1 .str .const .view .own .any,
    r 3 1 .u16 .const .view (.c 16944) .any,
    r 4 1 .u64 .const .view .own .any,
    r 6 1 .str .const .view .own .any,
    r 7 1 .u16 .const .view .own .any,
    r 8 1 .u16 .const .view .own .any,
    r 9 1 .u32 .const .view .own .any,
    r 10 1 .str .const .view .own .any,
    r 11 1 .u16 .const .view .own .any,
    r 12 1 .str .const .view .own .any,
    r 13 1 .u32 .const .view .own .any,
    r 14 1 .u16 .const .view (.c 256) .any,
    r 15 1 .u32 .const .view .own .any,
    r 16 1 .u8 .const .view .own .any]⟩

def g001 : ObjGroup :=
  ⟨0x1, 1, 0x0, 1, [
    r 1 22 .u32 .const .view .own .any]⟩

def g002 : ObjGroup :=
  ⟨0x10, 4, 0x1, 1, [
    r 1 1 .i16 .const .view .own .any,
    r 2 1 .i16 .const .view .own .any,
    r 3 1 .i16 .const .view .own .any,
    r 4 1 .i16 .const .view .own .any,
    r 5 1 .u32 .const .view .own .any,
    r 6 1 .i16 .const .view .own .any,
    r 7 1 .u32 .const .view .own .any]⟩

def g003 : ObjGroup :=
  ⟨0x100, 1, 0x0, 1, [
    r 1 1 .u16 .const .view (.c 47210) .any,
    r 2 1 .u8 .ro .view (.c 0) .any,
    r 3 1 .u16 .rwt .install (.c 60) (.rng 10 3600),
    r 4 1 .bool .rwt .install (.c 0) (.rng 0 1),
    r 5 1 .dom .rw .install .own .any,
    r 6 1 .dom .rw .install .own .any,
    r 7 1 .u32 .ro .view (.c 0) .any,
    r 8 1 .u32 .ro .view (.c 0) .any,
    r 9 1 .u32 .ro .view (.c 0) .any,
    r 10 1 .u32 .ro .view (.c 0) .any,
    r 11 1 .u32 .const .view (.c 0x200c0000) .any,
    r 12 1 .u8 .wo .operate (.c 0) (.rng 0 31)]⟩

def g004 : ObjGroup :=
  ⟨0x101, 1, 0x0, 1, [
    r 1 1 .u8 .wo .operate (.c 0) (.oneOf [1]),
    r 2 1 .u32 .ro .view (.c 0) .any,
    r 3 1 .u32 .rw .operate (.c 0) .any,
    r 4 1 .u16 .rw .operate (.c 0) .any,
    r 5 1 .u32 .rw .operate (.c 0) .any,
    r 6 1 .u16 .ro .view (.c 0) .any,
    r 7 1 .u32 .rw .vendor (.c 0) .any,
    r 8 1 .u32 .wo .vendor (.c 0) .any]⟩

def g005 : ObjGroup :=
  ⟨0x110, 2, 0x1, 1, [
    r 1 1 .bool .rwt .install (.c 1) (.rng 0 1),
    r 2 1 .u8 .rwt .install (.c 0) (.rng 0 2),
    r 3 1 .u8 .rwt .install (.c 3) (.rng 1 3),
    r 4 1 .u8 .ro .view (.c 0) .any,
    r 5 1 .u64 .const .view .own .any,
    r 7 1 .dom .ro .view .own .any,
    r 8 1 .dom .rwt .install .own .any,
    r 9 1 .u8 .rwt .install (.c 64) (.rng 1 128),
    r 10 1 .dom .rwt .install .own .any,
    r 11 1 .u8 .ro .view (.c 0) .any,
    r 12 1 .u8 .ro .view (.c 0) .any,
    r 13 1 .bool .ro .view (.c 0) (.rng 0 1),
    r 14 1 .u32 .ro .view (.c 0) .any,
    r 15 1 .u32 .ro .view (.c 0) .any,
    r 16 1 .tt64 .ro .view (.c 0) .any,
    r 18 1 .u32 .ro .view (.c 0) .any,
    r 19 1 .u32 .ro .view (.c 0) .any,
    r 20 1 .u32 .ro .view (.c 0) .any,
    r 21 1 .u32 .ro .view (.c 0) .any,
    r 22 1 .u32 .ro .view (.c 0) .any,
    r 23 1 .u32 .ro .view (.c 0) .any,
    r 24 1 .u32 .ro .view (.c 0) .any,
    r 25 1 .bool .rwt .install (.c 1) (.rng 0 1),
    r 26 1 .bool .rwt .install (.c 1) (.rng 0 1)]⟩

def g006 : ObjGroup :=
  ⟨0x120, 1, 0x0, 1, [
    r 1 1 .bool .rwt .install (.c 1) (.rng 0 1),
    r 2 1 .u8 .rwt .install (.c 1) (.oneOf [1, 2, 4]),
    r 3 1 .u8 .rwt .install (.c 0) (.oneOf [0, 3]),
    r 4 1 .u8 .rwt .install (.c 0) (.rng 0 1),
    r 5 1 .u32 .const .view (.c 0x2faf080) .any,
    r 6 1 .u16 .ro .view (.c 0) .any,
    r 7 1 .u32 .ro .view (.c 0) .any,
    r 8 1 .u32 .ro .view (.c 0) .any,
    r 9 1 .u32 .ro .view (.c 0) .any,
    r 10 1 .u32 .ro .view (.c 0) .any,
    r 11 1 .u32 .ro .view (.c 0) .any,
    r 12 1 .u32 .ro .view (.c 0) .any]⟩

def g007 : ObjGroup :=
  ⟨0x140, 8, 0x1, 1, [
    r 1 1 .u8 .ro .view (.c 0) .any,
    r 2 1 .u8 .ro .view (.c 0) .any,
    r 3 1 .u8 .ro .view (.c 0) .any,
    r 4 1 .dom .ro .view .own .any,
    r 5 1 .tt64 .ro .view (.c 0) .any,
    r 7 1 .u8 .ro .view (.c 0) .any,
    r 8 1 .u32 .ro .view (.c 0) .any,
    r 9 1 .u32 .ro .view (.c 0) .any,
    r 10 1 .u32 .ro .view (.c 0) .any,
    r 11 1 .u8 .wo .install (.c 0) (.oneOf [1])]⟩

def g008 : ObjGroup :=
  ⟨0x150, 1, 0x0, 1, [
    r 1 20 .u32 .ro .view (.c 0) .any]⟩

def g009 : ObjGroup :=
  ⟨0x200, 1, 0x0, 1, [
    r 1 1 .dom .wo .operate .own .any,
    r 2 1 .u32 .ro .view (.c 0) .any,
    r 3 1 .u32 .ro .view (.c 0) .any,
    r 4 1 .u32 .ro .view (.c 0) .any,
    r 5 1 .u32 .ro .view (.c 0) .any,
    r 6 1 .dom .ro .view .own .any,
    r 7 1 .u16 .ro .view (.c 0) .any,
    r 8 1 .u8 .wo .install (.c 0) (.oneOf [1]),
    r 9 1 .tt64 .ro .view (.c 0) .any,
    r 11 1 .u32 .ro .view (.c 0) .any,
    r 12 1 .u8 .wo .install (.c 0) (.oneOf [1]),
    r 13 1 .bool .rwt .install (.c 0) (.rng 0 1),
    r 14 1 .u8 .ro .view (.c 0) .any,
    r 15 1 .u32 .ro .view (.c 0) .any]⟩

def g010 : ObjGroup :=
  ⟨0x201, 1, 0x0, 1, [
    r 1 1 .u32 .ro .view (.c 0) .any,
    r 2 1 .u32 .ro .view (.c 0) .any,
    r 3 1 .u32 .ro .view (.c 0) .any,
    r 4 1 .u8 .ro .view (.c 0) .any,
    r 5 1 .u8 .ro .view (.c 0) .any,
    r 6 1 .tt64 .ro .view (.c 0) .any,
    r 8 1 .u32 .ro .view (.c 0) .any,
    r 9 1 .u8 .wo .operate (.c 0) (.oneOf [1])]⟩

def g011 : ObjGroup :=
  ⟨0x210, 8, 0x1, 1, [
    r 1 16 .u16 .rw .install .own .any]⟩

def g012 : ObjGroup :=
  ⟨0x300, 1, 0x0, 1, [
    r 1 1 .tt64 .ro .view (.c 0) .any,
    r 3 1 .u64 .rw .install (.c 0) .any,
    r 5 1 .u8 .ro .view (.c 0) .any,
    r 6 1 .u16 .const .view (.c 80) .any,
    r 7 1 .u8 .ro .view (.c 0) .any,
    r 8 1 .tt64 .ro .view (.c 0) .any]⟩

def g013 : ObjGroup :=
  ⟨0x301, 1, 0x0, 1, [
    r 1 12 .u32 .rw .operate (.c 0) (.oneOf [0])]⟩

def g014 : ObjGroup :=
  ⟨0x320, 16, 0x1, 1, [
    r 1 1 .u32 .rwt .operate (.c 0) .any,
    r 2 1 .u8 .rw .operate (.c 0) .any,
    r 3 1 .u32 .rw .operate (.c 0) .any,
    r 4 1 .u32 .ro .operate (.c 0) .any,
    r 5 1 .u32 .rwt .operate (.c 0xffffffff) .any,
    r 6 1 .u8 .rw .operate (.c 0) .any]⟩

def g015 : ObjGroup :=
  ⟨0x340, 4, 0x1, 1, [
    r 1 1 .u8 .rwt .install (.c 0) (.rng 0 2),
    r 2 1 .u8 .rwt .install (.c 20) .any,
    r 3 1 .u16 .rwt .install (.c 0) .any,
    r 4 1 .u8 .ro .view (.c 0) .any,
    r 5 1 .u8 .rwt .install (.c 4) (.rng 1 8),
    r 6 1 .u8 .rwt .install (.c 64) (.oneOf [16, 32, 64, 128]),
    r 7 1 .u8 .rwt .install (.c 20) (.rng 5 255),
    r 8 1 .u32 .rwt .install (.c 1000) .any,
    r 9 1 .u32 .rwt .install (.c 250) .any,
    r 10 1 .u32 .ro .view (.c 0) .any,
    r 11 1 .u32 .ro .view (.c 0) .any]⟩

def g016 : ObjGroup :=
  ⟨0x400, 1, 0x0, 1, [
    r 1 1 .u8 .ro .view (.c 1) .any,
    r 2 1 .u16 .ro .view (.c 0) .any,
    r 3 1 .u16 .ro .view (.c 0) .any,
    r 4 1 .u16 .ro .view (.c 800) .any,
    r 5 1 .i16 .ro .view (.c 0) .any,
    r 6 1 .i16 .ro .view (.c 0) .any,
    r 7 1 .u8 .rwt .install (.c 105) (.rng 80 115),
    r 8 1 .u16 .ro .view (.c 0) .any,
    r 9 1 .u8 .rw .install (.c 12) (.rng 10 15),
    r 10 1 .u8 .ro .view (.c 0) .any,
    r 11 1 .u16 .ro .view (.c 1000) .any,
    r 12 1 .dom .rw .vendor .own .any]⟩

def g017 : ObjGroup :=
  ⟨0x401, 1, 0x0, 1, [
    r 1 1 .u8 .rw .vendor (.c 0) .any,
    r 2 1 .u32 .rw .vendor (.c 0xffffffff) .any,
    r 3 1 .u32 .rw .vendor (.c 0xf0008000) .any,
    r 4 1 .u16 .rw .vendor (.c 511) .any,
    r 5 1 .u16 .rw .vendor (.c 461) .any,
    r 6 1 .u32 .rw .vendor (.c 0) .any,
    r 7 1 .u8 .ro .view (.c 1) .any,
    r 8 1 .u16 .ro .view (.c 0) .any,
    r 9 1 .tt64 .ro .view (.c 0) .any,
    r 11 1 .u8 .ro .view (.c 0) .any,
    r 12 1 .u32 .ro .view (.c 0) .any,
    r 13 1 .u32 .ro .view (.c 0) .any]⟩

def g018 : ObjGroup :=
  ⟨0x410, 1, 0x0, 1, [
    r 1 1 .u8 .wo .operate (.c 0) (.oneOf [1]),
    r 2 1 .u16 .rwt .install (.c 1440) (.rng 60 10080),
    r 3 1 .tt64 .ro .view (.c 0) .any,
    r 5 1 .u32 .ro .view (.c 0) .any,
    r 6 1 .u8 .ro .view (.c 63) .any,
    r 7 1 .u8 .ro .view (.c 63) .any,
    r 8 1 .u8 .ro .view (.c 63) .any,
    r 9 1 .u8 .const .view (.c 4) .any,
    r 10 1 .u16 .ro .view (.c 0) .any,
    r 11 1 .u8 .ro .view (.c 0) .any,
    r 12 1 .u32 .ro .view (.c 0) .any,
    r 13 1 .i16 .ro .view (.c 0) .any,
    r 14 1 .i32 .ro .view (.c 0) .any,
    r 15 1 .i16 .ro .view (.c 0) .any,
    r 16 1 .u32 .ro .view (.c 0) .any,
    r 17 4 .i16 .ro .view (.c 0) .any]⟩

def g019 : ObjGroup :=
  ⟨0x420, 1, 0x0, 1, [
    r 1 1 .u16 .rwt .vendor (.c 800) .any,
    r 2 1 .u16 .rwt .vendor (.c 850) .any,
    r 3 1 .u16 .rwt .vendor (.c 650) .any,
    r 4 1 .i16 .rwt .vendor (.c 300) .any,
    r 5 1 .i16 .rwt .vendor (.c 64936) .any,
    r 6 1 .bool .ro .view (.c 0) (.rng 0 1)]⟩

def g020 : ObjGroup :=
  ⟨0x800, 4, 0x200, 1, [
    r 1 1 .u8 .const .view (.lin 0 1) .any,
    r 2 1 .u8 .ro .view (.c 0) .any,
    r 3 1 .bool .ro .view (.c 1) (.rng 0 1),
    r 4 1 .u32 .const .view (.lin 0x24000000 0x80000) .any,
    r 5 1 .u32 .ro .view (.c 0) .any,
    r 6 1 .u64 .ro .view (.c 0) .any,
    r 8 1 .u32 .ro .view (.c 0) .any,
    r 9 1 .u32 .ro .view (.c 0) .any,
    r 10 1 .i16 .ro .view (.c 0) .any,
    r 11 1 .u32 .ro .view (.c 0) .any]⟩

/-- R58. CAL_PENDING starts at 8: a reset sets the start-up calibration bit (R61, log 147). -/
def g021 : ObjGroup :=
  ⟨0x810, 4, 0x200, 1, [
    r 1 1 .u32 .rwt .install (.c 0) .any,
    r 2 1 .u8 .ro .view (.c 0) .any,
    r 3 1 .u8 .wo .operate (.c 0) (.oneOf [1]),
    r 4 1 .u16 .rwt .operate (.c 307) (.rng 0 3840),
    r 5 1 .u8 .const .view (.c 8) .any,
    r 6 1 .i16 .ro .view (.c 0) .any,
    r 7 1 .i16 .ro .view (.c 0) .any,
    r 8 1 .tt64 .ro .view (.c 0) .any,
    r 10 1 .u8 .ro .view (.c 8) .any,
    r 11 1 .u32 .ro .view (.c 0) .any,
    r 12 1 .u32 .ro .view (.c 0) .any,
    r 13 1 .u32 .ro .view (.c 0) .any]⟩

def g022 : ObjGroup :=
  ⟨0x811, 4, 0x200, 1, [
    r 1 1 .u8 .rwt .install (.c 0) (.rng 0 1),
    r 2 1 .u8 .rwt .install (.c 0) (.rng 0 1),
    r 3 1 .u8 .ro .view (.c 0) .any,
    r 4 1 .u8 .ro .view (.c 0) .any,
    r 5 1 .u16 .ro .view (.c 0) .any,
    r 6 1 .u16 .ro .view (.c 0) .any,
    r 7 1 .u8 .rwt .install (.c 255) .any,
    r 8 1 .u8 .ro .view (.c 0) .any,
    r 9 1 .u16 .rwt .install (.c 100) (.rng 30 200),
    r 10 1 .u8 .rwt .install (.c 10) .any,
    r 11 1 .i16 .ro .view (.c 0) .any]⟩

def g023 : ObjGroup :=
  ⟨0x812, 4, 0x200, 1, [
    r 1 1 .i8 .rwt .install (.c 40) (.rng (-40) 40),
    r 2 1 .u8 .rwt .vendor (.c 0) .any,
    r 3 1 .u32 .ro .view (.c 0) .any,
    r 4 1 .u8 .const .view (.c 48) .any]⟩

def g024 : ObjGroup :=
  ⟨0x813, 4, 0x200, 1, [
    r 1 1 .u8 .rwt .install (.c 15) .any,
    r 2 1 .u32 .ro .view (.c 0) .any,
    r 3 1 .u32 .ro .view (.c 0) .any]⟩

def g025 : ObjGroup :=
  ⟨0x814, 4, 0x200, 1, [
    r 1 1 .u8 .ro .view (.c 10) .any,
    r 2 1 .u32 .rwt .install (.c 0x17700) (.rng 0 384000),
    r 3 1 .u8 .rwt .install (.c 255) .any,
    r 4 1 .u32 .ro .view (.c 0) .any,
    r 5 1 .u32 .ro .view (.c 0) .any,
    r 6 1 .u32 .ro .view (.c 0) .any,
    r 7 1 .u32 .ro .view (.c 0) .any,
    r 8 1 .i16 .ro .view (.c 0) .any]⟩

def g026 : ObjGroup :=
  ⟨0x815, 4, 0x200, 1, [
    r 1 1 .u8 .rwt .install (.c 3) (.rng 0 4),
    r 2 1 .u8 .rwt .install (.c 0) (.rng 0 4),
    r 3 1 .u8 .ro .view (.c 32) .any,
    r 4 1 .u8 .ro .view (.c 0) .any,
    r 5 1 .u32 .ro .view (.c 0) .any]⟩

def g027 : ObjGroup :=
  ⟨0x816, 4, 0x200, 1, [
    r 1 1 .u64 .ro .view (.c 0) .any,
    r 3 1 .u64 .ro .view (.c 0) .any,
    r 5 1 .u32 .ro .view (.c 0) .any,
    r 6 1 .u32 .ro .view (.c 0) .any,
    r 7 1 .u32 .ro .view (.c 0) .any,
    r 8 1 .u32 .ro .view (.c 0) .any,
    r 9 1 .u32 .ro .view (.c 0) .any,
    r 10 1 .bool .rwt .install (.c 1) (.rng 0 1)]⟩

def g028 : ObjGroup :=
  ⟨0x817, 4, 0x200, 1, [
    r 1 1 .bool .rwt .install (.c 1) (.rng 0 1),
    r 2 1 .u8 .ro .view (.c 0) .any,
    r 3 1 .tt64 .ro .view (.c 0) .any,
    r 5 1 .u32 .ro .view (.c 0) .any,
    r 6 1 .u32 .const .view (.lin 0x2407C000 0x80000) .any]⟩

def g029 : ObjGroup :=
  ⟨0x818, 4, 0x200, 1, [
    r 1 1 .u8 .wo .operate (.c 0) (.rng 1 3),
    r 2 1 .u8 .rwt .operate (.c 0) (.rng 0 3),
    r 3 1 .u8 .rwt .operate (.c 0) (.rng 0 47),
    r 4 1 .u32 .rwt .operate (.c 0x80000000) .any,
    r 5 1 .u32 .rwt .operate (.c 0x100000) .any,
    r 6 1 .u8 .rwt .operate (.c 0) (.rng 0 4),
    r 7 1 .u8 .rwt .operate (.c 8) (.rng 0 15),
    r 8 1 .tt64 .rwt .operate (.c 0) .any,
    r 10 1 .u8 .ro .view (.c 0) .any,
    r 11 1 .tt64 .ro .view (.c 0) .any,
    r 13 1 .u32 .ro .view (.c 0) .any]⟩

def g030 : ObjGroup :=
  ⟨0x819, 4, 0x200, 1, [
    r 1 1 .u32 .ro .view (.c 0) .any,
    r 2 1 .u32 .ro .view (.c 0) .any,
    r 3 1 .u32 .ro .view (.c 0) .any,
    r 4 1 .u32 .ro .view (.c 0) .any,
    r 5 1 .u32 .ro .view (.c 0) .any,
    r 6 1 .u8 .rwt .install (.c 0) (.rng 0 1),
    r 7 1 .u16 .rwt .install (.c 8) (.rng 4 1000),
    r 8 1 .u8 .rwt .install (.c 4) (.oneOf [2, 4])]⟩

def g031 : ObjGroup :=
  ⟨0x81A, 4, 0x200, 1, [
    r 1 1 .u32 .wo .operate (.c 0) .any,
    r 2 1 .u8 .wo .operate (.c 0) (.rng 1 3),
    r 3 1 .u8 .ro .view (.c 0) .any,
    r 4 1 .u8 .ro .view (.c 0) .any,
    r 5 1 .u32 .ro .view (.c 0) .any,
    r 6 1 .tt64 .ro .view (.c 0) .any,
    r 8 1 .u32 .ro .view (.c 0) .any,
    r 9 1 .u32 .ro .view (.c 0) .any,
    r 10 1 .u32 .rw .operate (.c 0) (.oneOf [0]),
    r 11 1 .u32 .rw .operate (.c 0) (.oneOf [0]),
    r 12 1 .u32 .rw .operate (.c 0) (.oneOf [0]),
    r 13 1 .u32 .rw .operate (.c 0) (.oneOf [0]),
    r 14 1 .u32 .ro .view (.c 0) .any,
    r 15 1 .u32 .ro .view (.c 0) .any]⟩

def g032 : ObjGroup :=
  ⟨0x81B, 4, 0x200, 1, [
    r 1 1 .bool .rwt .install (.c 1) (.rng 0 1),
    r 2 1 .i8 .rwt .operate (.c 20) (.rng (-40) 40),
    r 3 1 .u32 .ro .view (.c 0) .any,
    r 4 1 .u32 .ro .view (.c 0) .any,
    r 5 1 .u32 .ro .view (.c 0) .any,
    r 6 1 .u32 .ro .view (.c 0) .any,
    r 7 1 .u32 .ro .view (.c 0) .any,
    r 8 1 .u32 .ro .view (.c 0) .any,
    r 9 1 .u8 .ro .view (.c 0) .any]⟩

def g033 : ObjGroup :=
  ⟨0x81C, 4, 0x200, 1, [
    r 1 28 .u32 .ro .view (.c 0) .any]⟩

def g034 : ObjGroup :=
  ⟨0x820, 4, 0x200, 48, [
    r 1 1 .u32 .rwt .operate .own .any,
    r 2 1 .u32 .ro .view (.c 0) .any,
    r 3 1 .u8 .ro .view (.c 0) .any,
    r 4 1 .u32 .ro .view (.c 0) .any,
    r 5 1 .u32 .ro .view (.c 0) .any,
    r 6 1 .u32 .ro .view (.c 0) .any,
    r 7 1 .i16 .ro .view (.c 0) .any,
    r 8 1 .u32 .ro .view (.c 0) .any]⟩

def g035 : ObjGroup :=
  ⟨0x1000, 1, 0x0, 1, [
    r 1 1 .u8 .rwt .install (.c 0) (.oneOf [0, 1, 2, 3, 15]),
    r 2 1 .tt64 .ro .view (.c 0) .any,
    r 4 1 .i8 .rwt .operate (.c 171) (.rng (-110) (-40)),
    r 5 1 .i8 .rwt .operate (.c 181) (.rng (-110) (-40)),
    r 6 1 .u8 .rwt .operate (.c 2) (.rng 0 5),
    r 7 1 .u8 .const .view (.c 5) .any,
    r 8 1 .u16 .const .view (.c 4915) .any,
    r 9 1 .u16 .const .view (.c 2458) .any,
    r 10 1 .u32 .ro .view (.c 0) .any,
    r 11 1 .u32 .ro .view (.c 0) .any,
    r 12 1 .u16 .ro .view (.c 0) .any,
    r 13 1 .u32 .ro .view (.c 0) .any,
    r 14 1 .u32 .ro .view (.c 0) .any]⟩

def g036 : ObjGroup :=
  ⟨0x1010, 16, 0x1, 1, [
    r 1 1 .bool .rwt .install (.c 0) (.rng 0 1),
    r 2 1 .u32 .rwt .vendor (.c 0) .any,
    r 3 1 .u32 .rwt .vendor (.c 0) .any,
    r 4 1 .u8 .rwt .vendor (.c 0) (.rng 0 1),
    r 5 1 .u8 .rwt .vendor (.c 0) (.rng 1 60),
    r 6 1 .u64 .rwt .install (.c 0) .any,
    r 8 1 .u64 .ro .view (.c 0) .any,
    r 10 1 .u64 .rwt .install (.c 0) .any,
    r 12 1 .u64 .ro .view (.c 0) .any,
    r 14 1 .u64 .ro .view (.c 0) .any,
    r 16 1 .u64 .ro .view (.c 0) .any,
    r 18 1 .u64 .ro .view (.c 0) .any,
    r 20 1 .u64 .ro .view (.c 0) .any,
    r 22 1 .u32 .ro .view (.c 0) .any]⟩

def g037 : ObjGroup :=
  ⟨0x1030, 2, 0x1, 1, [
    r 1 1 .bool .rwt .install (.c 0) (.rng 0 1),
    r 2 1 .u32 .rwt .vendor (.c 0) .any,
    r 3 1 .u32 .rwt .vendor (.c 0) (.rng 25000 2000000),
    r 4 1 .u16 .rwt .vendor (.c 0) (.rng 1 256),
    r 5 1 .u8 .rwt .vendor (.c 0) (.rng 0 1),
    r 6 1 .u8 .rwt .vendor (.c 0) (.rng 1 60),
    r 7 1 .u32 .rwt .install (.c 0) .any,
    r 8 1 .u32 .ro .view (.c 0) .any,
    r 9 1 .u32 .ro .view (.c 0) .any,
    r 10 1 .u16 .ro .view (.c 0) .any,
    r 11 1 .u32 .ro .view (.c 0) .any,
    r 12 1 .u16 .rw .operate (.c 0) .any,
    r 13 1 .u32 .ro .view (.c 0) .any]⟩

def g038 : ObjGroup :=
  ⟨0x1100, 1, 0x0, 1, [
    r 1 1 .bool .rwt .install (.c 0) (.rng 0 1),
    r 2 1 .bool .rwt .install (.c 1) (.rng 0 1),
    r 3 1 .bool .rwt .install (.c 0) (.rng 0 1),
    r 4 1 .u8 .rwt .install (.c 0) .any,
    r 5 1 .u8 .rwt .install (.c 0) .any,
    r 6 1 .u32 .ro .view (.c 0) .any,
    r 7 1 .u32 .ro .view (.c 0) .any,
    r 8 1 .u32 .ro .view (.c 0) .any,
    r 9 1 .u32 .ro .view (.c 0) .any,
    r 10 1 .u32 .ro .view (.c 0) .any,
    r 11 1 .u32 .ro .view (.c 0) .any,
    r 12 1 .u32 .ro .view (.c 0) .any,
    r 13 1 .u8 .ro .view (.c 0) .any]⟩

def g039 : ObjGroup :=
  ⟨0x1110, 4, 0x1, 1, [
    r 1 1 .u32 .const .view (.lin 0x24078000 0x80000) .any,
    r 2 1 .u16 .ro .view (.c 0) .any,
    r 3 1 .u16 .rw .operate (.c 0) .any,
    r 4 1 .u32 .ro .view (.c 0) .any]⟩

def g040 : ObjGroup :=
  ⟨0x1120, 1, 0x0, 1, [
    r 1 1 .u32 .const .view (.c 0x201c0000) .any,
    r 2 1 .u32 .rwt .install (.c 0x82000000) .any,
    r 3 1 .u16 .ro .view (.c 0) .any,
    r 4 1 .u32 .ro .view (.c 0) .any,
    r 5 1 .u32 .ro .view (.c 0) .any,
    r 6 1 .u32 .ro .view (.c 0) .any,
    r 7 1 .u16 .wo .operate (.c 0) .any]⟩

def g041 : ObjGroup :=
  ⟨0x1130, 1, 0x0, 1, [
    r 1 1 .u32 .rwt .install (.c 0x80100000) .any,
    r 2 1 .bool .rwt .install (.c 1) (.rng 0 1),
    r 3 1 .u32 .ro .view (.c 0) .any,
    r 4 1 .u32 .ro .view (.c 0) .any,
    r 5 1 .u32 .ro .view (.c 0) .any]⟩

def g042 : ObjGroup :=
  ⟨0x1140, 1, 0x0, 1, [
    r 1 1 .u8 .rwt .install (.c 0) .any,
    r 2 1 .u8 .rwt .install (.c 4) .any,
    r 3 1 .u32 .rwt .install (.c 0) .any,
    r 4 1 .u8 .rwt .install (.c 8) (.rng 1 32),
    r 5 1 .u16 .rwt .install (.c 192) (.rng 0 3840),
    r 6 1 .u32 .rwt .install (.c 0x12c00) (.rng 0 384000)]⟩

def g043 : ObjGroup :=
  ⟨0x1200, 1, 0x0, 1, [
    r 1 1 .bool .rwt .install (.c 1) (.rng 0 1),
    r 2 1 .u8 .rwt .install (.c 30) (.rng 1 255),
    r 3 1 .u8 .rwt .install (.c 25) (.rng 1 254),
    r 4 1 .u32 .rwt .install (.c 0xbb800) (.rng 384000 3840000),
    r 5 1 .u16 .ro .view (.c 0) .any,
    r 6 1 .u32 .const .view (.c 0x20140000) .any,
    r 7 1 .u32 .ro .view (.c 0) .any,
    r 8 1 .u32 .ro .view (.c 0) .any,
    r 9 1 .tt64 .ro .view (.c 0) .any,
    r 11 1 .u32 .const .view (.c 0x20130000) .any,
    r 12 1 .u16 .ro .view (.c 0) .any,
    r 13 1 .u16 .rw .operate (.c 0) .any,
    r 14 1 .u32 .ro .view (.c 0) .any,
    r 15 1 .u32 .ro .view (.c 0) .any,
    r 16 1 .u32 .ro .view (.c 0) .any,
    r 17 1 .u8 .ro .view (.c 0) .any,
    r 18 1 .u32 .ro .view (.c 0) .any,
    r 19 1 .u32 .ro .view (.c 0) .any,
    r 20 1 .u32 .ro .view (.c 0) .any]⟩

def g044 : ObjGroup :=
  ⟨0x1210, 8, 0x1, 1, [
    r 1 1 .u8 .rwt .install .own .any,
    r 2 1 .u32 .rwt .install .own (.rng 0 384000),
    r 3 1 .u8 .rwt .install .own (.rng 0 15),
    r 4 1 .u32 .ro .view (.c 0) .any]⟩

def g045 : ObjGroup :=
  ⟨0x1220, 4, 0x1, 1, [
    r 1 1 .u32 .const .view (.lin 0x24074000 0x80000) .any,
    r 2 1 .u8 .wo .operate (.c 0) (.rng 0 15),
    r 3 1 .u32 .ro .view (.c 0) .any,
    r 4 1 .u16 .ro .view (.c 0) .any]⟩

def g046 : ObjGroup :=
  ⟨0x1300, 1, 0x0, 1, [
    r 1 1 .u16 .ro .view (.c 0) .any,
    r 2 1 .u8 .ro .view (.c 0) .any,
    r 3 1 .u16 .rw .install (.c 0) (.rng 0 4094),
    r 4 1 .tt64 .ro .view (.c 0) .any,
    r 6 1 .u8 .rwt .install (.c 0) .any,
    r 7 1 .u8 .rwt .install (.c 25) (.rng 1 255),
    r 8 1 .u8 .rwt .install (.c 3) (.rng 2 60),
    r 9 1 .u8 .rwt .install (.c 5) (.rng 2 60),
    r 10 1 .u32 .ro .view (.c 0) .any,
    r 11 1 .u8 .rwt .install (.c 20) (.rng 5 60),
    r 12 1 .u32 .rwt .install (.c 0x80300000) .any,
    r 13 1 .u32 .ro .view (.c 0) .any,
    r 14 1 .u16 .rw .install (.c 512) (.rng 64 4096),
    r 15 1 .u32 .const .view (.c 0x20120000) .any,
    r 16 1 .u8 .ro .view (.c 0) .any,
    r 17 1 .u8 .wo .operate (.c 0) (.rng 0 1),
    r 18 1 .u32 .const .view (.c 0x20111000) .any,
    r 19 1 .i8 .rwt .install (.c 6) (.rng 0 30),
    r 20 1 .u32 .rwt .install (.c 0xbb800) (.rng 384000 3840000),
    r 21 1 .u32 .const .view (.c 0x20110000) .any,
    r 22 1 .u16 .ro .view (.c 0) .any,
    r 23 1 .u16 .rw .operate (.c 0) .any,
    r 24 1 .u32 .ro .view (.c 0) .any,
    r 25 1 .u32 .ro .view (.c 0) .any,
    r 26 1 .u32 .ro .view (.c 0) .any,
    r 27 1 .u32 .ro .view (.c 0) .any,
    r 28 1 .u32 .ro .view (.c 0) .any,
    r 29 1 .u32 .ro .view (.c 0) .any,
    r 30 1 .u32 .ro .view (.c 0) .any]⟩

def g047 : ObjGroup :=
  ⟨0x1301, 1, 0x0, 1, [
    r 1 1 .u8 .rwt .install (.c 128) .any,
    r 2 1 .u16 .ro .view (.c 0) .any,
    r 3 1 .u8 .ro .view (.c 255) .any,
    r 4 1 .u16 .ro .view (.c 0) .any,
    r 5 1 .u8 .ro .view (.c 0) .any,
    r 6 1 .u16 .ro .view (.c 0) .any,
    r 7 1 .i32 .ro .view (.c 0) .any,
    r 8 1 .i32 .ro .view (.c 0) .any,
    r 9 1 .u8 .ro .view (.c 0) .any,
    r 10 1 .tt64 .ro .view (.c 0) .any,
    r 12 1 .u16 .rwt .install (.c 10) (.rng 1 1000),
    r 13 1 .u16 .rwt .install (.c 2) (.rng 0 100),
    r 14 1 .u16 .rwt .install (.c 77) (.rng 0 3840),
    r 15 1 .u8 .rwt .install (.c 10) (.rng 1 255),
    r 16 1 .u16 .rwt .install (.c 8) (.rng 1 384),
    r 17 1 .u32 .rwt .install (.c 0x5dc00) (.rng 3840 38400000),
    r 18 1 .tt64 .wo .install (.c 0) .any,
    r 20 1 .u32 .ro .view (.c 0) .any,
    r 21 1 .u32 .ro .view (.c 0) .any]⟩

def g048 : ObjGroup :=
  ⟨0x1310, 2, 0x1, 1, [
    r 1 1 .u8 .ro .view (.c 0) .any,
    r 2 1 .u16 .ro .view (.c 0) .any,
    r 3 1 .u64 .ro .view (.c 0) .any,
    r 5 1 .u16 .rwt .install (.c 10) (.rng 1 65535),
    r 6 1 .u8 .rwt .install (.c 16) (.rng 1 64),
    r 7 1 .u8 .ro .view (.c 0) .any,
    r 8 1 .u8 .ro .view (.c 0) .any,
    r 9 1 .u8 .ro .view (.c 0) .any,
    r 10 1 .u32 .ro .view (.c 0) .any,
    r 11 1 .u16 .ro .view (.c 0) .any,
    r 12 1 .u32 .ro .view (.c 0) .any,
    r 13 1 .u32 .ro .view (.c 0) .any]⟩

def g049 : ObjGroup :=
  ⟨0x1340, 4, 0x1, 1, [
    r 1 1 .u32 .const .view (.lin 0x24070000 0x80000) .any,
    r 2 1 .u8 .wo .operate (.c 0) (.rng 0 15),
    r 3 1 .u32 .ro .view (.c 0) .any,
    r 4 1 .u16 .ro .view (.c 0) .any]⟩

def g050 : ObjGroup :=
  ⟨0x1400, 1, 0x0, 1, [
    r 1 1 .u8 .rwt .install (.c 15) .any,
    r 2 1 .u8 .ro .view (.c 0) .any,
    r 3 1 .u32 .ro .view (.c 0) .any,
    r 4 1 .u16 .ro .view (.c 0) .any,
    r 5 1 .u16 .ro .view (.c 0) .any,
    r 6 1 .u8 .ro .view (.c 255) .any,
    r 7 1 .u16 .ro .view (.c 0) .any,
    r 8 1 .u8 .rwt .install (.c 3) (.rng 1 60),
    r 9 1 .u8 .rwt .install (.c 5) (.rng 2 60),
    r 10 1 .u32 .const .view (.c 0x20100000) .any,
    r 11 1 .u8 .ro .view (.c 0) .any,
    r 12 1 .u32 .rwt .install (.c 0x88000000) .any,
    r 13 1 .u16 .rwt .install (.c 100) (.rng 10 1000),
    r 14 1 .u8 .rwt .install (.c 10) (.rng 1 255),
    r 15 1 .u32 .ro .view (.c 0) .any,
    r 16 1 .u32 .ro .view (.c 0) .any,
    r 17 1 .u32 .ro .view (.c 0) .any,
    r 18 1 .u32 .ro .view (.c 0) .any]⟩

def g051 : ObjGroup :=
  ⟨0x1410, 16, 0x1, 1, [
    r 1 1 .u8 .wo .operate (.c 0) (.rng 1 2),
    r 2 1 .u8 .rw .operate (.c 2) .any,
    r 3 1 .tt64 .rw .operate (.c 0) .any,
    r 5 1 .tt64 .rw .operate (.c 0) .any,
    r 7 1 .u32 .rw .operate (.c 1) .any,
    r 8 1 .u32 .rw .operate (.c 0x1000000) .any,
    r 9 1 .u8 .ro .view (.c 0) .any,
    r 10 1 .u16 .ro .view (.c 0) .any,
    r 11 8 .u32 .ro .view (.c 0) .any,
    r 19 1 .u16 .ro .view (.c 0) .any]⟩

def g052 : ObjGroup :=
  ⟨0x1420, 1, 0x0, 1, [
    r 1 1 .u32 .ro .view (.c 0) .any,
    r 2 1 .u32 .ro .view (.c 0) .any,
    r 3 1 .u32 .ro .view (.c 0) .any,
    r 4 1 .u32 .ro .view (.c 0) .any,
    r 5 1 .u32 .ro .view (.c 0) .any,
    r 6 1 .u32 .ro .view (.c 0) .any,
    r 7 1 .u32 .ro .view (.c 0) .any]⟩

def g053 : ObjGroup :=
  ⟨0x1430, 1, 0x0, 1, [
    r 1 1 .dom .rw .operate .own .any,
    r 2 1 .u8 .wo .operate (.c 0) (.oneOf [1]),
    r 3 1 .u32 .rwt .install (.c 0x249f000) (.rng 384000 2304000000),
    r 4 1 .u8 .rwt .install (.c 4) (.rng 1 8),
    r 5 1 .u8 .ro .view (.c 0) .any,
    r 6 1 .u32 .ro .view (.c 0) .any,
    r 7 1 .u32 .ro .view (.c 0) .any,
    r 8 1 .u32 .ro .view (.c 0) .any]⟩

def g054 : ObjGroup :=
  ⟨0x1440, 1, 0x0, 1, [
    r 1 1 .dom .rw .operate .own .any,
    r 2 1 .dom .wo .operate .own .any,
    r 3 1 .u8 .wo .operate (.c 0) (.rng 1 2),
    r 4 1 .u8 .rwt .install (.c 8) (.rng 1 64),
    r 5 1 .u8 .ro .view (.c 0) .any,
    r 6 1 .u16 .ro .view (.c 0) .any,
    r 7 1 .u16 .ro .view (.c 0) .any,
    r 8 1 .u16 .ro .view (.c 0) .any,
    r 9 1 .u32 .ro .view (.c 0) .any,
    r 10 1 .u32 .ro .view (.c 0) .any,
    r 11 1 .u32 .ro .view (.c 0) .any]⟩

def g055 : ObjGroup :=
  ⟨0x1450, 1, 0x0, 1, [
    r 1 1 .u32 .ro .view (.c 0) .any,
    r 2 1 .u32 .ro .view (.c 0) .any,
    r 3 1 .u32 .rw .operate (.c 0) .any,
    r 4 1 .u16 .rwt .operate (.c 256) (.rng 1 4096),
    r 5 1 .u16 .rwt .install (.c 8192) (.rng 256 16384),
    r 6 1 .u8 .rwt .install (.c 10) (.rng 1 60),
    r 7 1 .u32 .ro .view (.c 0) .any,
    r 8 1 .u32 .ro .view (.c 0) .any,
    r 9 1 .dom .rw .operate .own .any,
    r 10 1 .u8 .wo .operate (.c 0) (.oneOf [1]),
    r 11 1 .u16 .ro .view (.c 0) .any]⟩

def g056 : ObjGroup :=
  ⟨0x1800, 1, 0x0, 1, [
    r 1 1 .u8 .ro .view (.c 0) .any,
    r 2 1 .u8 .ro .view (.c 0) .any,
    r 3 1 .tt64 .ro .view (.c 0) .any,
    r 5 1 .u32 .ro .view (.c 0) .any,
    r 6 1 .u8 .ro .view (.c 0) .any,
    r 7 1 .u16 .ro .view (.c 2) .any,
    r 8 1 .u8 .ro .view (.c 0) .any,
    r 9 1 .u32 .ro .view (.c 0) .any,
    r 10 1 .u8 .wo .operate (.c 0) .any,
    r 11 1 .u8 .rw .operate (.c 0) .any,
    r 12 1 .dom .rw .operate .own .any,
    r 13 1 .u8 .ro .view (.c 0) .any,
    r 14 1 .dom .ro .view .own .any,
    r 15 1 .u32 .const .view (.c 0x08F0E000) .any,
    r 16 1 .u64 .ro .view (.c 0) .any]⟩

def g057 : ObjGroup :=
  ⟨0x1801, 1, 0x0, 1, [
    r 1 4 .dom .rw .vendor .own .any]⟩

def g058 : ObjGroup :=
  ⟨0x1802, 1, 0x0, 1, [
    r 1 1 .u8 .rwt .install (.c 2) (.rng 2 3),
    r 2 1 .u8 .rwt .install (.c 2) (.rng 2 3),
    r 3 1 .u8 .rwt .install (.c 2) (.rng 2 3),
    r 4 1 .u8 .rwt .install (.c 2) (.rng 1 3),
    r 5 1 .u8 .rwt .install (.c 0) (.rng 0 3),
    r 6 1 .u8 .rwt .install (.c 0) (.rng 0 3),
    r 7 1 .u8 .rwt .install (.c 2) (.rng 2 3),
    r 8 2 .u8 .rwt .install (.c 0) (.rng 0 2),
    r 10 2 .u8 .rwt .install (.c 10) (.rng 1 255)]⟩

def g059 : ObjGroup :=
  ⟨0x1803, 1, 0x0, 1, [
    r 1 1 .dom .const .view .own .any,
    r 2 1 .dom .const .view .own .any,
    r 3 1 .dom .rw .view .own .any,
    r 4 1 .dom .ro .view .own .any]⟩

def g060 : ObjGroup :=
  ⟨0x1804, 1, 0x0, 1, [
    r 1 1 .dom .ro .view .own .any,
    r 2 1 .dom .wo .view .own .any,
    r 3 1 .u8 .ro .view (.c 0) .any,
    r 4 1 .u8 .ro .view (.c 0) .any,
    r 5 1 .tt64 .ro .view (.c 0) .any]⟩

def g061 : ObjGroup :=
  ⟨0x1840, 2, 0x1, 1, [
    r 1 128 .u32 .ro .view (.c 0) .any]⟩

def g062 : ObjGroup :=
  ⟨0x1842, 2, 0x1, 1, [
    r 1 128 .u32 .ro .view (.c 0) .any]⟩

def g063 : ObjGroup :=
  ⟨0x1844, 2, 0x1, 1, [
    r 1 128 .u32 .ro .view (.c 0) .any]⟩

def g064 : ObjGroup :=
  ⟨0x1900, 1, 0x0, 1, [
    r 1 1 .u32 .wo .operate (.c 0) .any,
    r 2 1 .u32 .ro .view (.c 0) .any,
    r 3 1 .u32 .const .view (.c 0x200f0000) .any,
    r 4 1 .u32 .ro .view (.c 1) .any,
    r 5 1 .u32 .rw .operate (.c 1) .any,
    r 6 1 .u32 .ro .view (.c 0) .any,
    r 7 1 .u8 .ro .view (.c 0) .any,
    r 8 1 .u32 .ro .view (.c 0) .any,
    r 9 1 .u32 .ro .view (.c 0) .any,
    r 10 1 .u16 .ro .view (.c 0) .any,
    r 11 1 .u8 .ro .view (.c 0) .any,
    r 12 1 .u32 .ro .view (.c 0) .any]⟩

def g065 : ObjGroup :=
  ⟨0x1910, 5, 0x1, 1, [
    r 1 1 .u32 .const .view .own .any,
    r 2 1 .u32 .const .view .own .any,
    r 3 1 .u16 .const .view .own .any,
    r 4 1 .u64 .ro .view .own .any,
    r 6 1 .u16 .wo .operate (.c 0) .any,
    r 7 1 .u16 .rwt .install .own .any,
    r 8 1 .u32 .ro .view (.c 0) .any,
    r 9 1 .u32 .ro .view (.c 0) .any,
    r 10 1 .u32 .const .view .own .any]⟩

def g066 : ObjGroup :=
  ⟨0x1920, 2, 0x1, 1, [
    r 1 1 .u8 .rw .operate (.c 20) .any,
    r 2 1 .u32 .rw .operate (.c 0xffffffff) .any,
    r 3 1 .u32 .wo .operate (.c 0) .any,
    r 4 1 .u32 .ro .operate (.c 0) .any,
    r 5 1 .u32 .rw .operate (.c 0) .any,
    r 6 1 .u32 .rw .operate (.c 0) .any,
    r 7 1 .u8 .wo .operate (.c 0) (.oneOf [1]),
    r 8 1 .u32 .ro .operate (.c 0) .any,
    r 9 1 .u8 .rw .operate (.c 0) .any,
    r 10 1 .u32 .ro .view (.c 0) .any]⟩

def g067 : ObjGroup :=
  ⟨0x1A00, 1, 0x0, 1, [
    r 1 1 .u8 .ro .view (.c 0) .any,
    r 2 1 .u8 .rw .install (.c 4) (.rng 0 6),
    r 3 1 .u8 .ro .view (.c 4) .any,
    r 4 1 .u32 .ro .view (.c 0x38000000) .any,
    r 5 1 .u32 .ro .view (.c 0) .any,
    r 6 1 .u16 .rwt .install (.c 3600) (.rng 600 65535),
    r 7 1 .u8 .rwt .install (.c 10) (.rng 1 60),
    r 8 1 .u8 .rwt .install (.c 5) (.rng 2 20),
    r 9 1 .u16 .rwt .install (.c 4096) (.rng 512 8192),
    r 10 1 .u8 .rwt .install (.c 1) (.rng 1 2),
    r 11 1 .u16 .rwt .install (.c 96) (.rng 8 3840),
    r 12 1 .u8 .ro .view (.c 255) .any,
    r 13 1 .u8 .rwt .vendor (.c 8) (.rng 2 255),
    r 14 1 .u8 .rwt .vendor (.c 0) .any]⟩

def g068 : ObjGroup :=
  ⟨0x1A10, 2, 0x1, 1, [
    r 1 1 .u8 .ro .view (.c 0) .any,
    r 2 1 .u32 .ro .view (.c 0) .any,
    r 3 1 .u32 .ro .view (.c 0) .any,
    r 4 1 .u16 .ro .view (.c 0) .any,
    r 5 1 .u16 .rwt .install (.c 64) (.rng 1 4096),
    r 6 1 .u32 .ro .view (.c 0) .any,
    r 7 1 .u16 .ro .view (.c 0) .any,
    r 8 1 .tt64 .ro .view (.c 0) .any,
    r 10 1 .u32 .ro .view (.c 0) .any,
    r 11 1 .u32 .ro .view (.c 0) .any,
    r 12 1 .u32 .ro .view (.c 0) .any,
    r 13 1 .u32 .ro .view (.c 0) .any,
    r 14 1 .u32 .ro .view (.c 0) .any,
    r 15 1 .u16 .ro .view (.c 488) .any]⟩

def g069 : ObjGroup :=
  ⟨0x1A20, 4, 0x1, 1, [
    r 1 1 .u16 .ro .view (.c 0) .any,
    r 2 1 .u16 .rwt .install (.c 3072) (.rng 1024 3584),
    r 3 1 .u32 .ro .view (.c 0) .any,
    r 4 1 .u32 .ro .view (.c 0) .any,
    r 5 1 .u16 .rw .operate (.c 0) (.oneOf [0])]⟩

def g070 : ObjGroup :=
  ⟨0x1B00, 1, 0x0, 1, [
    r 1 1 .u32 .const .view (.c 0x8000000) .any,
    r 2 1 .u32 .const .view (.c 0x8f00000) .any,
    r 3 1 .u8 .rwt .install (.c 2) (.rng 1 2),
    r 4 1 .u8 .rwt .install (.c 4) (.rng 2 7),
    r 5 1 .u32 .rw .vendor (.c 0) .any,
    r 6 1 .u32 .ro .view (.c 0) .any,
    r 7 1 .u32 .ro .view (.c 0) .any,
    r 8 1 .u32 .ro .view (.c 0) .any,
    r 9 1 .u32 .ro .view (.c 0) .any,
    r 10 1 .u16 .ro .view (.c 0) .any,
    r 11 1 .u8 .ro .view (.c 0) .any,
    r 12 1 .dom .ro .view .own .any,
    r 13 1 .u8 .wo .operate (.c 0) .any,
    r 14 1 .u32 .ro .view (.c 0) .any,
    r 15 1 .u8 .ro .view (.c 0) .any,
    r 16 1 .u32 .ro .view (.c 0) .any,
    r 17 1 .u8 .ro .view (.c 0) .any,
    r 18 1 .u32 .ro .view (.c 0) .any]⟩

def g071 : ObjGroup :=
  ⟨0x1B10, 5, 0x1, 1, [
    r 1 1 .u8 .ro .view .own .any,
    r 2 1 .u8 .ro .view (.c 0) .any,
    r 3 1 .u8 .ro .view (.c 0) .any,
    r 4 1 .u32 .ro .view (.c 0) .any,
    r 5 1 .u32 .ro .view (.c 0) .any,
    r 6 1 .u32 .ro .view (.c 0) .any]⟩

def g072 : ObjGroup :=
  ⟨0x1C00, 1, 0x0, 1, [
    r 1 1 .u8 .rw .vendor (.c 0) (.rng 0 4),
    r 2 1 .u8 .ro .view (.c 0) .any,
    r 3 1 .u8 .ro .view (.c 0) .any,
    r 4 1 .u32 .ro .view (.c 0) .any,
    r 5 1 .u32 .ro .view (.c 0) .any,
    r 6 1 .u8 .rw .vendor (.c 16) .any,
    r 7 1 .u8 .ro .view (.c 16) .any,
    r 8 1 .u8 .ro .view (.c 0) .any,
    r 9 1 .u32 .ro .view (.c 0) .any]⟩

def g073 : ObjGroup :=
  ⟨0x1C10, 8, 0x1, 1, [
    r 1 1 .u8 .ro .view .own .any,
    r 2 1 .u8 .wo .vendor (.c 0) (.rng 1 2),
    r 3 1 .u32 .rw .vendor (.c 0) .any,
    r 4 1 .u32 .ro .view (.c 0) .any,
    r 5 1 .u8 .ro .view (.c 0) .any,
    r 6 1 .u32 .ro .view (.c 0) .any,
    r 7 1 .u32 .ro .view (.c 0) .any,
    r 8 1 .u8 .ro .view (.c 0) .any,
    r 9 1 .u32 .ro .view (.c 0) .any,
    r 10 1 .u64 .ro .view (.c 0) .any]⟩

def g074 : ObjGroup :=
  ⟨0x1C20, 1, 0x0, 1, [
    r 1 1 .u8 .ro .view (.c 1) .any,
    r 2 1 .u8 .wo .vendor (.c 0) (.oneOf [1]),
    r 3 1 .u8 .ro .view (.c 0) .any,
    r 4 1 .u32 .ro .view (.c 0x8000000) .any,
    r 5 1 .u8 .ro .view (.c 0) .any,
    r 6 1 .u8 .ro .view (.c 0) .any,
    r 7 1 .u8 .ro .view (.c 0) .any,
    r 8 1 .u32 .ro .view (.c 0) .any,
    r 9 1 .u16 .ro .view (.c 0) .any,
    r 10 1 .tt64 .ro .view (.c 0) .any,
    r 12 1 .u8 .ro .view (.c 0) .any,
    r 13 1 .u8 .ro .view (.c 0) .any,
    r 14 1 .u32 .ro .view (.c 0) .any,
    r 15 1 .u16 .ro .view (.c 0) .any,
    r 16 1 .u16 .ro .view (.c 0) .any,
    r 17 1 .u8 .ro .view (.c 0) .any,
    r 18 1 .u16 .ro .view (.c 0) .any]⟩

def g075 : ObjGroup :=
  ⟨0x1D00, 1, 0x0, 1, [
    r 1 1 .u16 .ro .view (.c 0) .any,
    r 2 1 .u16 .rw .operate (.c 0) .any,
    r 3 1 .u16 .wo .operate (.c 0) .any,
    r 4 1 .u16 .wo .operate (.c 0) .any,
    r 5 1 .u16 .wo .operate (.c 0) .any,
    r 6 1 .u32 .ro .view (.c 0) .any,
    r 7 1 .u32 .ro .view (.c 0) .any,
    r 8 1 .u32 .ro .view (.c 0) .any,
    r 9 1 .u8 .const .view (.c 33) .any,
    r 10 1 .u8 .rwt .install (.c 1) (.rng 0 2)]⟩

def g076 : ObjGroup :=
  ⟨0x1D10, 16, 0x1, 1, [
    r 1 1 .u8 .rwt .install (.c 0) .any,
    r 2 1 .bool .rw .operate (.c 0) (.rng 0 1),
    r 3 1 .bool .ro .view (.c 0) (.rng 0 1),
    r 4 1 .tt64 .rw .operate (.c 0) .any,
    r 6 1 .bool .rw .operate (.c 0) (.rng 0 1)]⟩

def g077 : ObjGroup :=
  ⟨0x2040, 1, 0x0, 1, [
    r 1 1 .u8 .rw .install (.c 6) (.rng 0 40),
    r 2 1 .u8 .rw .install (.c 8) (.rng 0 16),
    r 3 1 .u8 .rw .install (.c 4) (.rng 1 16),
    r 4 1 .u16 .rw .install (.c 60) .any,
    r 5 1 .u8 .rw .install (.c 10) (.rng 0 100),
    r 6 1 .u8 .rw .install (.c 7) (.rng 1 7),
    r 7 1 .u8 .rw .install (.c 2) (.rng 1 15)]⟩

def g078 : ObjGroup :=
  ⟨0x2041, 1, 0x0, 1, [
    r 1 1 .u8 .rw .vendor (.c 8) (.rng 5 32),
    r 2 1 .u8 .rw .install (.c 8) (.rng 0 32)]⟩

def g079 : ObjGroup :=
  ⟨0x2050, 1, 0x0, 1, [
    r 1 1 .u8 .ro .view (.c 0) .any,
    r 2 1 .u16 .ro .view (.c 0) .any,
    r 3 1 .u16 .ro .view (.c 0) .any,
    r 4 1 .u16 .ro .view (.c 0) .any,
    r 5 1 .dom .wo .install .own .any,
    r 6 1 .tt64 .rw .install (.c 0) .any,
    r 7 1 .u8 .ro .view (.c 0) .any,
    r 8 1 .u8 .wo .install (.c 0) (.rng 1 4),
    r 9 1 .u8 .rw .install (.c 31) .any,
    r 10 1 .u8 .rw .install (.c 30) (.rng 5 255),
    r 11 1 .u8 .ro .view (.c 0) .any,
    r 12 1 .u8 .ro .view (.c 0) .any]⟩

/-- Every object table of the spec. -/
def objGroups : List ObjGroup :=
  [g000, g001, g002, g003, g004, g005, g006, g007, g008, g009, g010, g011, g012, g013, g014, g015, g016, g017, g018, g019] ++
  [g020, g021, g022, g023, g024, g025, g026, g027, g028, g029, g030, g031, g032, g033, g034, g035, g036, g037, g038, g039] ++
  [g040, g041, g042, g043, g044, g045, g046, g047, g048, g049, g050, g051, g052, g053, g054, g055, g056, g057, g058, g059] ++
  [g060, g061, g062, g063, g064, g065, g066, g067, g068, g069, g070, g071, g072, g073, g074, g075, g076, g077, g078, g079]

/-- The row of index:sub in one group: its row with the two position numbers of the index. -/
def ObjGroup.find (g : ObjGroup) (index sub : Nat) : Option (ObjRow × Nat × Nat) :=
  if index < g.base then none else
  let d := index - g.base
  let i := if g.stride = 0 then 0 else d / g.stride
  let j := if g.stride = 0 then d else d % g.stride
  if i < g.count && j < g.inner then
    (g.rows.find? (fun x => decide (x.sub ≤ sub) && decide (sub < x.sub + x.nsub))).map (fun x => (x, i, j))
  else none

/-- The row of object index:sub with its two position numbers, none where no object lies there. -/
def objFind (k : Key) : Option (ObjRow × Nat × Nat) :=
  (objGroups.findSome? (fun g => g.find (k / 256) (k % 256)))

/-- The default route of event code c (R524). -/
def routeDefault (c : Nat) : Nat :=
  if (0x100 ≤ c && c ≤ 0x102) || (0x110 ≤ c && c ≤ 0x115) then 0x700
  else if 0x104 ≤ c && c ≤ 0x109 then 0x240
  else if (0x120 ≤ c && c ≤ 0x125) || (0x140 ≤ c && c ≤ 0x144) || (0x148 ≤ c && c ≤ 0x14D)
       || (0x160 ≤ c && c ≤ 0x169) || (0x170 ≤ c && c ≤ 0x174) then 0x610
  else if 0x130 ≤ c && c ≤ 0x137 then 0x220
  else if 0x150 ≤ c && c ≤ 0x157 then 0x680
  else 0

/-- Row k of the area directory (R532): the first and last index of row k of R510, slices as four rows. -/
def areaRow (k : Nat) : Nat :=
  let rows : List (Nat × Nat) :=
    [(0x0000, 0x00FF), (0x0100, 0x01FF), (0x0200, 0x02FF), (0x0300, 0x03FF), (0x0400, 0x07FF), (0x0800, 0x09FF),
     (0x0A00, 0x0BFF), (0x0C00, 0x0DFF), (0x0E00, 0x0FFF), (0x1000, 0x10FF), (0x1100, 0x11FF), (0x1200, 0x12FF),
     (0x1300, 0x13FF), (0x1400, 0x17FF), (0x1800, 0x18FF), (0x1900, 0x19FF), (0x1A00, 0x1AFF), (0x1B00, 0x1BFF),
     (0x1C00, 0x1CFF), (0x1D00, 0x1DFF), (0x2000, 0x2FFF), (0x3000, 0x5FFF)]
  let x := nth rows (k - 1) (0, 0)
  x.1 + x.2 * 65536

/-- CFG, JITTER and SUPPRESS of flood class c (R245). -/
def floodDefault (c : Nat) : Nat × Nat × Nat :=
  nth [(0x3F, 96000, 0), (0x3F, 96000, 0), (0x3F, 192000, 3), (0x3F, 192000, 3), (0x3F, 192000, 2), (0x03, 0, 0),
       (0x3F, 384000, 3), (0x00, 0, 0)] c (0, 0, 0)

/-- The defaults that the cards give by a rule of their own. -/
def ownDefault (k : Key) (i j : Nat) : Nat :=
  let index := k / 256
  let sub := k % 256
  if index < 0x20 then
    if index = 1 then areaRow sub else Config.deviceConst k
  else if 0x110 ≤ index && index ≤ 0x111 then Config.deviceConst k
  else if 0x210 ≤ index && index ≤ 0x217 then routeDefault (0x100 + (index - 0x210) * 16 + (sub - 1))
  else if 0x800 ≤ index && index ≤ 0xFFF then (if j ≤ 31 then 0x200 + j else 0)
  else if 0x1210 ≤ index && index ≤ 0x1217 then
    let d := floodDefault i
    if sub = 1 then d.1 else if sub = 2 then d.2.1 else d.2.2
  else if 0x1910 ≤ index && index ≤ 0x1914 then
    if sub = 1 then (if i = 4 then 0x20080000 else 0x24040000 + 0x80000 * i)
    else if sub = 2 then (if i = 4 then 0x200E0000 else 0x24060000 + 0x80000 * i)
    else if sub = 3 || sub = 4 then (if i = 4 then 256 else 1024)
    else if sub = 7 then (if i = 4 then 16 else 64)
    else (if i = 4 then 0 else 0x24061000 + 0x80000 * i)
  else if 0x1B10 ≤ index && index ≤ 0x1B14 then (if i = 4 then 16 else 4)
  else if index = 0x1C14 then 1
  else 0

/-- The value an object takes at reset (its card's default, R505). -/
def objDefault (k : Key) : Nat :=
  match objFind k with
  | none => 0
  | some (x, i, j) =>
    match x.dflt with
    | .c v => v
    | .lin a b => a + b * i
    | .own => ownDefault k i j

/-- The value a STR or DOM object takes at reset. -/
def blobDefault (k : Key) : Bytes :=
  if k = Obj.ID_VENDOR then ascii "Nirlith"
  else if k = Obj.ID_PART then ascii "TRA4816"
  else if k = Obj.ID_FAMILY then ascii "Turath"
  else if k = Obj.ID_ORDER || k = Obj.ID_LOT || k = Obj.SHL_ID_CERT then Config.deviceBytes k
  else if k = Obj.SHL_ID_PUB then sliceB (Config.p256Public Config.deviceKey) 0 64
  else if k = Obj.COM_AUTH_OPERATE || k = Obj.COM_AUTH_INSTALL then List.replicate 32 0
  else if k / 256 = 0x1801 then List.replicate 32 0
  else if k = Obj.SHL_ATT_NONCE then List.replicate 16 0
  else if k = Obj.COM_Tp_STATIC 0 || k = Obj.COM_Tp_STATIC 1 || k = Obj.COM_Tp_GATEWAY 0 || k = Obj.COM_Tp_GATEWAY 1 then
    List.replicate 16 0
  else if k = Obj.PWR_TABLE then [1, 10, 60, 4, 0xE8, 3, 0, 0]
  else []

/-- The longest value the card of a STR or DOM object allows. -/
def blobMax (k : Key) : Nat :=
  if k = Obj.SVC_LTN_STAGE || k = Obj.SVC_HMP_STAGE then 40
  else if k = Obj.SVC_HMP_IMAGE then 1048576
  else if k = Obj.SVC_BSK_DN_STAGE then 220
  else if k / 256 = 0x1801 || k = Obj.COM_AUTH_OPERATE || k = Obj.COM_AUTH_INSTALL then 32
  else if k = Obj.SHL_CMD_ARG || k = Obj.SHL_ATT_REPORT then 256
  else if k = Obj.SHL_DBG_RESP then 160
  else if k = Obj.EVT_POST then 908
  else if k = Obj.PWR_TABLE then 8
  else if k = Obj.NBF_UPD_PIECE then 780
  else if k = Obj.SHL_ID_CERT || k = Obj.EVT_LOG then 1024
  else if k = Obj.SHL_ID_PUB then 64
  else if k / 256 < 0x100 then 64
  else if 0x110 ≤ k / 256 && k / 256 ≤ 0x111 then 16
  else 256

/-- The width of a type in bits (R500); STR and DOM read their length. -/
def ObjType.width : ObjType → Nat
  | .bool => 1
  | .u8 | .i8 => 8
  | .u16 | .i16 => 16
  | .u32 | .i32 | .f32 => 32
  | .u64 | .i64 | .tt64 => 64
  | .str | .dom => 16

/-- The bytes of a type in SOP (R500). -/
def ObjType.size : ObjType → Nat
  | .bool | .u8 | .i8 => 1
  | .u16 | .i16 => 2
  | .u32 | .i32 | .f32 => 4
  | .u64 | .i64 | .tt64 => 8
  | .str | .dom => 0

/-- The code of a type (R501). -/
def ObjType.code : ObjType → Nat
  | .bool => 0 | .u8 => 1 | .u16 => 2 | .u32 => 3 | .u64 => 4 | .i8 => 5 | .i16 => 6 | .i32 => 7 | .i64 => 8
  | .f32 => 9 | .tt64 => 10 | .str => 11 | .dom => 12

/-- A type whose values are two's complement (R500). -/
def ObjType.signed : ObjType → Bool
  | .i8 | .i16 | .i32 | .i64 => true
  | _ => false

/-- A 64-bit object, two words of the window (R28). -/
def ObjType.wide (t : ObjType) : Bool := t == .u64 || t == .i64 || t == .tt64

/-- A STR or DOM object. -/
def ObjType.blob (t : ObjType) : Bool := t == .str || t == .dom

/-- The rank of a level (R503). -/
def Level.rank : Level → Nat
  | .view => 1 | .operate => 2 | .install => 3 | .vendor => 4

/-- The areas whose objects are firmware-backed (R504). -/
def firmwareBacked (k : Key) : Bool :=
  let i := k / 256
  (0x1400 ≤ i && i ≤ 0x17FF) || (0x2000 ≤ i && i ≤ 0x5FFF)

/-- A value within the range its card states; signed types by their signed value, TT64 well formed (R27, R500). -/
def ObjRow.inRange (x : ObjRow) (v : Nat) : Bool :=
  let i : Int := if x.ty.signed then toI x.ty.width v else v
  decide (v < 2 ^ x.ty.width) &&
  (if x.ty == .tt64 then ttValid v else true) &&
  (match x.chk with
   | .any => true
   | .rng a b => decide (a ≤ i) && decide (i ≤ b)
   | .oneOf l => l.any (fun a => decide (a = i)))

end Sys2Proof.Machine
end

