-- ==== Sys2Proof/Machine/Sparse.lean ====
section
/-!
DEFINITION. A sparse map from Nat in ONE canonical form: keys strictly rising, and no entry equal to what an unlisted key
reads as (the function d). Memory (byte by byte) and the object store are two such maps.
-/
namespace Sys2Proof.Machine

/-- What key k reads as. -/
def Sparse.get {α : Type} (d : Nat → α) (m : List (Nat × α)) (k : Nat) : α :=
  match m with
  | [] => d k
  | e :: r => if e.1 = k then e.2 else Sparse.get d r k

/-- Put (k, v) before the first larger key. -/
def Sparse.place {α : Type} (m : List (Nat × α)) (k : Nat) (v : α) : List (Nat × α) :=
  match m with
  | [] => [(k, v)]
  | e :: r => if k < e.1 then (k, v) :: e :: r else e :: Sparse.place r k v

/-- Take every entry of k out. -/
def Sparse.drop {α : Type} (m : List (Nat × α)) (k : Nat) : List (Nat × α) :=
  match m with
  | [] => []
  | e :: r => if e.1 = k then Sparse.drop r k else e :: Sparse.drop r k

/-- Write v at k, keeping the canonical form. -/
def Sparse.set {α : Type} [DecidableEq α] (d : Nat → α) (m : List (Nat × α)) (k : Nat) (v : α) : List (Nat × α) :=
  if v = d k then Sparse.drop m k else Sparse.place (Sparse.drop m k) k v

/-- The canonical form, above a bound: keys strictly rising from lo, none at its unlisted value. -/
def Sparse.wfFrom {α : Type} [DecidableEq α] (d : Nat → α) (lo : Nat) (m : List (Nat × α)) : Bool :=
  match m with
  | [] => true
  | e :: r => decide (lo ≤ e.1) && !(decide (e.2 = d e.1)) && Sparse.wfFrom d (e.1 + 1) r

/-- The canonical form. -/
def Sparse.wf {α : Type} [DecidableEq α] (d : Nat → α) (m : List (Nat × α)) : Bool := Sparse.wfFrom d 0 m

end Sys2Proof.Machine
end

