-- ==== Sys2Proof/Machine/Ops.lean ====
section
/-!
DEFINITION. The named operations over the state that every family shares: objects, memory, free values, events and their
routes (R523-R526), deadline misses (R37, R38) and the drop record (R527).
-/
namespace Sys2Proof.Machine

/-- What a meaning answers. -/
abbrev Out := Host.Outcome State Fault Refusal

/-! ## Objects -/

/-- The stored value of an object. -/
def State.o (s : State) (k : Key) : Nat := Sparse.get objDefault s.objs k

/-- The stored value of a signed object of w bits. -/
def State.oi (s : State) (w : Nat) (k : Key) : Int := toI w (s.o k)

/-- A BOOL object. -/
def State.ob (s : State) (k : Key) : Bool := s.o k != 0

/-- Put a value into an object. -/
def State.setO (s : State) (k : Key) (v : Nat) : State :=
  { s with objs := Sparse.set objDefault s.objs k v }

/-- Put a signed value into an object of w bits. -/
def State.setI (s : State) (w : Nat) (k : Key) (v : Int) : State := s.setO k (ofI w v)

/-- Add d to a counter object of w bits, modulo its width (log 12). -/
def State.addO (s : State) (w : Nat) (k : Key) (d : Nat) : State := s.setO k ((s.o k + d) % 2 ^ w)

/-- Count one in a U32 counter object. -/
def State.inc (s : State) (k : Key) : State := s.addO 32 k 1

/-- The value of a STR or DOM object. -/
def State.blob (s : State) (k : Key) : Bytes := Sparse.get blobDefault s.blobs k

/-- Put the value of a STR or DOM object. -/
def State.setBlob (s : State) (k : Key) (b : Bytes) : State :=
  { s with blobs := Sparse.set blobDefault s.blobs k b }

/-! ## Memory (R409) -/

/-- What an unlisted byte of memory reads as: the boot ROM's byte, erased flash, or 0 (log 6). -/
def memDefault (a : Nat) : Byte :=
  if a < 0x20000 then Config.romByte a
  else if 0x08000000 ≤ a ∧ a < 0x09000000 then 0xFF
  else 0

/-- Read one byte. -/
def State.rb (s : State) (a : Nat) : Byte := Sparse.get memDefault s.mem a

/-- The place of a DRAM address (R437, R452): channel, bank, row, row unit, block of the row, row offset of the byte, and the row
offset of its check byte. -/
structure DramAt where
  ch : Nat
  bank : Nat
  row : Nat
  unit : Nat
  block : Nat
  off : Nat
  check : Nat
  deriving DecidableEq, Repr

/-- The map of R437 for grain G = 2^g, or that of R452 once a channel is fenced. -/
def dramMap (g : Nat) (only : Option Nat) (p : Nat) : DramAt :=
  let ch := match only with | none => p / 2 ^ g % 2 | some c => c
  let q := match only with | none => p / 2 ^ (g + 1) * 2 ^ g + p % 2 ^ g | some _ => p
  let u := q / 1792
  let o := q % 1792
  ⟨ch, (u ^^^ (u / 8)) % 8, u / 8, u, o / 64, o, 1792 + 8 * (o / 64) + o % 64 / 8⟩

/-- The surviving channel once one is fenced (R452). -/
def State.dramOnly (s : State) : Option Nat :=
  if s.o (Obj.DRM_CHc_STATE 0) = 2 then some 1 else if s.o (Obj.DRM_CHc_STATE 1) = 2 then some 0 else none

/-- Where a DRAM address lies. -/
def State.dramAt (s : State) (a : Nat) : DramAt := dramMap (8 + s.o Obj.DRM_GRAIN_NOW) s.dramOnly (a - 0x80000000)

/-- The number of the row unit that holds a DRAM address: 2 u + channel, or u once a channel is fenced. -/
def State.dramUnit (s : State) (a : Nat) : Nat :=
  let d := s.dramAt a
  match s.dramOnly with | none => 2 * d.unit + d.ch | some _ => d.unit

/-- A DRAM address. -/
def inDram (a : Nat) : Bool := decide (0x80000000 ≤ a) && decide (a < 0xB8000000)

/-- A block of n bytes from a holds an uncorrectable error (R435). -/
def State.badIn (s : State) (a n : Nat) : Bool := s.dram.bad.any (fun b => decide (b < a + n) && decide (a < b + 64))

/-- The units that a write to address a leaves written (R439). -/
def State.dirtied (s : State) (a : Nat) : List Nat :=
  if inDram a then
    let u := s.dramUnit a
    if s.dram.dirty.contains u then s.dram.dirty else u :: s.dram.dirty
  else s.dram.dirty

/-- Write one byte. -/
def State.wb (s : State) (a : Nat) (b : Byte) : State :=
  { s with mem := Sparse.set memDefault s.mem a b, dram := { s.dram with dirty := s.dirtied a } }

/-- Read n bytes. -/
def State.rbs (s : State) (a : Nat) : Nat → Bytes
  | 0 => []
  | n + 1 => s.rb a :: State.rbs s (a + 1) n

/-- Write bytes. -/
def State.wbs (s : State) (a : Nat) : Bytes → State
  | [] => s
  | b :: r => State.wbs (s.wb a b) (a + 1) r

/-- Read a little-endian number of n bytes. -/
def State.rn (s : State) (a n : Nat) : Nat := leNat (s.rbs a n)

/-- Write a little-endian number of n bytes. -/
def State.wn (s : State) (a n v : Nat) : State := s.wbs a (leBytes n v)

/-- Memory in canonical form. -/
abbrev Memory.wf (m : List Host.Cell) : Bool := Sparse.wf memDefault m

/-- Address a lies in a stack region of the core: in Sprout mode the fixed one of R425. -/
def CoreSt.ownsStack (x : CoreSt) (a : Nat) : Bool :=
  if x.sprout then decide (0x20003E00 ≤ a) && decide (a < 0x20004000)
  else (decide (x.dsLo.toNat ≤ a) && decide (a < x.dsHi.toNat)) || (decide (x.rsLo.toNat ≤ a) && decide (a < x.rsHi.toNat))

/-- Address a lies in a stack region of a running core other than `who` (R401). -/
def State.privateTo (s : State) (who a : Nat) : Bool :=
  fin8.any (fun (c : Fin 8) =>
    let x := s.cores[c]
    c.val != who && (x.mode == .run || x.mode == .wait) && x.ownsStack a)

/-- n bytes from a as `who` (a core, or 8 for any other reader) reads them: a byte of another running core's stack is not
defined, a free value (R401). -/
def State.seenBytes (s : State) (who a : Nat) : Nat → Bytes
  | 0 => []
  | n + 1 =>
    (if s.privateTo who a then BitVec.ofNat 8 (Config.freeNat (s.draws + n)) else s.rb a) :: State.seenBytes s who (a + 1) n

/-- The free values that such a read drew are used up. -/
def State.sawBytes (s : State) (who a n : Nat) : State :=
  if (List.range n).any (fun i => s.privateTo who (a + i)) then { s with draws := s.draws + n } else s

/-- Write bytes as `who`: a byte written to another running core's stack may be lost, by a free value (R401). -/
def State.putBytes (s : State) (who a : Nat) : Bytes → State
  | [] => s
  | b :: r =>
    if s.privateTo who a then
      let s' := { s with draws := s.draws + 1 }
      State.putBytes (if Config.freeNat s.draws % 2 = 0 then s'.wb a b else s') who (a + 1) r
    else State.putBytes (s.wb a b) who (a + 1) r

/-! ## Free values (log 5) -/

/-- The next free value below n (n above 0), drawn by the counter of the state. -/
def State.freeBelow (s : State) (n : Nat) : Nat := Config.freeNat s.draws % n

/-- Advance the counter of free values. -/
def State.drawn (s : State) : State := { s with draws := s.draws + 1 }

/-- A timing draw is taken from the Shell's random source: a request of the DRBG (R241, R256, R359). -/
def State.drawnReq (s : State) : State := { s.drawn with shell := { s.shell with drbgReq := s.shell.drbgReq + 1 } }

/-- n free bytes. -/
def freeBytes (d : Nat) : Nat → Bytes
  | 0 => []
  | n + 1 => BitVec.ofNat 8 (Config.freeNat (d + n)) :: freeBytes d n

/-- Put free bytes into n bytes of memory from a (undefined contents, R606). -/
def State.scramble (s : State) (a n : Nat) : State :=
  { s.wbs a (freeBytes s.draws n) with draws := s.draws + n }

/-- A memory whose n bytes from lo are free bytes (undefined contents, R606): d is the first draw used. -/
def spoilMem (d lo n : Nat) (m : List Host.Cell) : List Host.Cell :=
  m.filter (fun c => decide (c.1 < lo)) ++
  (List.range n).filterMap (fun i =>
    let b : Byte := BitVec.ofNat 8 (Config.freeNat (d + i))
    if b = memDefault (lo + i) then none else some (lo + i, b)) ++
  m.filter (fun c => decide (lo + n ≤ c.1))

/-- A whole region of memory loses its contents (R606). -/
def State.spoil (s : State) (lo n : Nat) : State := { s with mem := spoilMem s.draws lo n s.mem, draws := s.draws + n }

/-! ## Power -/

/-- PWR_STATE (R557): 1 RUN, 2 TRIM, 3 DOZE, 4 HIBERNATE. -/
def State.pwr (s : State) : Nat := s.o Obj.PWR_STATE

/-- SYSCLK runs (R591). -/
def State.sysclk (s : State) : Bool := s.pwr ≤ 2

/-- The wake mask of a state. -/
def State.wakeMask (s : State) (st : Nat) : Nat := s.o (if st = 3 then Obj.PWR_WAKE_DOZE else Obj.PWR_WAKE_HIB)

/-- A state can use wake source c (R549). -/
def wakeUsable (st c : Nat) : Bool :=
  if st = 3 then decide (1 ≤ c) && decide (c ≤ 9) else c == 1 || c == 3 || c == 4 || c == 7 || c == 8 || c == 9

/-- The state whose wake mask is in force: the state reached, or the one an accepted entry leads to. -/
def State.sleepState (s : State) : Nat :=
  if 3 ≤ s.pwr then s.pwr
  else match s.power.entry with | some e => if 3 ≤ e.target then e.target else 0 | none => 0

/-- Wake source c arrives (R546, R549): enabled, it is pending, with W now when the state is reached already. -/
def State.wakeBy (s : State) (c : Nat) : State :=
  let st := s.sleepState
  if st ≠ 0 && wakeUsable st c && bitOf (s.wakeMask st) (c - 1) then
    { s with power := { s.power with
        wakes := if s.power.wakes.contains c then s.power.wakes else s.power.wakes ++ [c]
        wakeAt := if 3 ≤ s.pwr then some (s.power.wakeAt.getD s.now) else s.power.wakeAt } }
  else s

/-! ## Events -/

/-- Count the cycles of a core up to an instant (R403, R432): 125 twelfths of a SYSCLK cycle per µt while SYSCLK runs and the
core is not HELD; those outside WAIT are busy. -/
def CoreSt.sync (c : CoreSt) (now : Instant) (running : Bool) : CoreSt :=
  let d := if running && c.mode != .held then 125 * (now - c.cycleAt) else 0
  { c with cycle := c.cycle + d, busy := if c.mode = .wait then c.busy else c.busy + d, cycleAt := now }

/-- Put an event before the first of greater CODE. -/
def putCode (e : CoreEvent) : List CoreEvent → List CoreEvent
  | [] => [e]
  | x :: r => if e.code < x.code then e :: x :: r else x :: putCode e r

/-- Queue an event (R418): hardware events of one instant count as of one cycle and stand in ascending CODE; a SOFT event, which an
instruction posts, stands last (log 230). -/
def CoreSt.enqueue (c : CoreSt) (e : CoreEvent) (now : Instant) : CoreSt :=
  if e.code = 2 then { c with queue := c.queue ++ [e], lastN := 0 }
  else if c.lastAt = now then
    let k := c.queue.length - c.lastN
    { c with queue := c.queue.take k ++ putCode e (c.queue.drop k), lastN := c.lastN + 1 }
  else { c with queue := c.queue ++ [e], lastAt := now, lastN := 1 }

/-- Take an event into a core's queue and wake the core from WAIT, or count it dropped (R418, R419, R421). -/
def CoreSt.take (c : CoreSt) (e : CoreEvent) (now : Instant) (running : Bool) : CoreSt :=
  if c.queue.length < 32 then
    { c.enqueue e now with mode := if c.mode = .wait ∧ running then .run else c.mode }
  else { c with lostSince := c.lostSince + 1 }

/-- An event wakes a core from WAIT now: SYSCLK runs, and no accepted entry into DOZE or HIBERNATE is under way (R424). -/
def State.wakesCores (s : State) : Bool :=
  s.sysclk && (match s.power.entry with | some e => decide (e.target < 3) | none => true)

/-- Queue an event at core c (R418), counting it in COR_c_EVLOST when the queue is full (R419). -/
def State.toCore (s : State) (c : Fin 8) (e : CoreEvent) : State :=
  let full := s.cores[c].queue.length ≥ 32
  let s := { s with cores := vmod s.cores c (fun x => (x.sync s.now s.sysclk).take e s.now s.wakesCores) }
  if full then (s.inc (Obj.COR_c_EVLOST c)).inc Obj.EVT_CORE_LOST else s

/-- Queue a message for session x, or count it lost (R520). -/
def State.toSession (s : State) (x : Fin 8) (m : SopMsg) : State :=
  let q := s.com.sessions[x]
  if q.queue.length < 64 then
    { s with com := { s.com with sessions := vmod s.com.sessions x (fun q => { q with queue := q.queue ++ [m] }) } }
  else
    let s := { s with com := { s.com with sessions := vmod s.com.sessions x (fun q => { q with lost := q.lost + 1 }) } }
    (s.inc (Obj.COM_Ss_EVLOST x)).inc Obj.EVT_SOP_LOST

/-- The EVENT payload of R520; LOST is the number dropped since the last message delivered. -/
def Event.payload (e : Event) (lost : Nat) : Bytes :=
  leBytes 2 e.code ++ leBytes 2 e.src ++ leBytes 4 e.arg ++ leBytes 8 (tt64 e.at_) ++ leBytes 2 lost ++
    leBytes 2 e.data.length ++ e.data

/-- Session x subscribes to event code c (R519 KIND 0). -/
def SessSt.covers (q : SessSt) (c : Nat) : Bool :=
  q.subs.any (fun p => match p.2 with | .events lo hi => decide (lo ≤ c) && decide (c ≤ hi) | .object .. => false)

/-- Give an event to every open session whose subscriptions cover it (R524, R525). -/
def State.toSessions (s : State) (e : Event) : State :=
  fin8.foldl (fun (s : State) (x : Fin 8) =>
    let q := s.com.sessions[x]
    if s.o (Obj.COM_Ss_STATE x) = 2 && q.covers e.code then
      if q.queue.length < 64 then
        let s := (s.toSession x ⟨8, 0, e.payload q.lost⟩).inc Obj.EVT_SOP_SENT
        { s with com := { s.com with sessions := vmod s.com.sessions x (fun q => { q with lost := 0 }) } }
      else s.toSession x ⟨8, 0, e.payload q.lost⟩
    else s) s

/-- Write slot i of the fault log. -/
def logPut (l : List Event) (i : Nat) (e : Event) : List Event :=
  if i < l.length then l.set i e else l ++ [e]

/-- Take an entry into the fault log (R526). -/
def State.logEvent (s : State) (e : Event) : State :=
  if s.ob Obj.EVT_LOG_FREEZE && s.com.log.length ≥ 64 then s.inc Obj.EVT_LOG_LOST
  else
    let i := s.o Obj.EVT_LOG_NEXT
    let full := s.com.log.length ≥ 64
    let s := { s with com := { s.com with log := logPut s.com.log i e } }
    let s := s.setO Obj.EVT_LOG_NEXT ((i + 1) % 64)
    let s := s.setO Obj.EVT_LOG_N (min 65535 (s.o Obj.EVT_LOG_N + 1))
    let s := s.setO Obj.EVT_LOG_LAST (tt64 e.at_)
    if full then s.inc Obj.EVT_LOG_LOST else s

/-- Core c is named by a route for an event with this SRC (R524). -/
def routeCore (route src : Nat) (c : Fin 8) : Bool :=
  bitOf route c || (bitOf route 8 && decide (src ≤ 3) && decide (c.val = src))

/-- Raise an event with data: to the cores, sessions and fault log that its route names (R524). -/
def State.raiseE (s : State) (e : Event) : State :=
  let route := s.o (Obj.EVT_ROUTE e.code)
  let s := s.inc Obj.EVT_RAISED
  let s := fin8.foldl (fun (s : State) (c : Fin 8) =>
    if routeCore route e.src c then s.toCore c ⟨e.code, e.src % 65536, e.arg % 2 ^ 32⟩ else s) s
  let s := if bitOf route 9 then s.toSessions e else s
  if bitOf route 10 then s.logEvent e else s

/-- Raise an event at this instant. -/
def State.raise (s : State) (code src arg : Nat) : State := s.raiseE ⟨code, src, arg, s.now, []⟩

/-- Raise a firmware or policy event (codes 0x0800-0xFFFF): to subscribed sessions only (R525). -/
def State.raiseFw (s : State) (code src arg : Nat) (data : Bytes) : State :=
  (s.inc Obj.EVT_RAISED).toSessions ⟨code, src, arg, s.now, data⟩

/-! ## Deadline misses -/

/-- Add a miss to its class and source in the running tick (R38). -/
def addMiss (l : List MissGroup) (cls src : Nat) (t : Instant) : List MissGroup :=
  match l with
  | [] => [⟨cls, src, 1, t⟩]
  | g :: r =>
    if g.cls = cls ∧ g.src = src then { g with count := min 255 (g.count + 1), earliest := min g.earliest t } :: r
    else g :: addMiss r cls src t

/-- Count a miss of a class (1-12) from a source block with its deadline instant (R36-R38). -/
def State.miss (s : State) (cls src : Nat) (t : Instant) : State :=
  let k := Obj.TMB_MISS cls
  let s := s.setO k (min 0xFFFFFFFF (s.o k + 1))
  let s := s.setO Obj.TMB_LAST_MISS_CLASS cls
  let s := s.setO Obj.TMB_LAST_MISS_AT (tt64 t)
  { s with time := { s.time with misses := addMiss s.time.misses cls src t } }

/-- The per-slice miss counter of classes 1-4 (R168). -/
def sliceMissKey (n cls : Nat) : Key :=
  if cls = 1 then Obj.SLCn_MISS_FP_COMMIT n else if cls = 2 then Obj.SLCn_MISS_ACK_INSTANT n
  else if cls = 3 then Obj.SLCn_MISS_TX_START n else Obj.SLCn_MISS_CAL_OVERDUE n

/-- A miss of class 1-4 on slice n. -/
def State.missSlice (s : State) (n : Fin 4) (cls : Nat) (t : Instant) : State :=
  let s := s.miss cls n t
  let k := sliceMissKey n cls
  s.setO k (min 0xFFFFFFFF (s.o k + 1))

/-! ## Dropped writes (R527) -/

/-- The window address of an object (R411). -/
def windowAddr (k : Key) : Nat := 0x40000000 + k / 256 * 0x400 + k % 256 * 4

/-- The record of a dropped write (R527): the first address since cleared, the count, address, value, writer and cause. -/
def State.dropRecord (s : State) (addr value who cause : Nat) : State :=
  let n := s.o Obj.EVT_DROP_COUNT
  let s := if n = 0 then s.setO Obj.EVT_DROP_FIRST addr else s
  let s := s.inc Obj.EVT_DROP_COUNT
  let s := ((s.setO Obj.EVT_DROP_ADDR addr).setO Obj.EVT_DROP_DATA (value % 2 ^ 32)).setO Obj.EVT_DROP_CORE who
  (s.setO Obj.EVT_DROP_CAUSE cause).setO Obj.EVT_DROP_AT (tt64 s.now)

/-- The event of the tick's first dropped write is raised now (R527). -/
def State.dropMark (s : State) : State := { s with com := { s.com with dropRaised := true } }

/-- Record a dropped write: address, value, writing core (8 = job engine) and cause (R527). -/
def State.dropped (s : State) (addr value who cause : Nat) : State :=
  let t := s.dropRecord addr value who cause
  if s.com.dropRaised then t else t.dropMark.raise 0x157 who addr

/-! ## Time -/

/-- The count moves forward to t when t lies ahead (log 3). -/
def State.upTo (s : State) (t : Instant) : State := { s with now := max s.now t }

/-! ## Sub-structures -/

/-- Change counter n. -/
def State.modTc (s : State) (n : Fin 16) (f : TcSt → TcSt) : State :=
  { s with time := { s.time with tcs := vmod s.time.tcs n f } }

/-- Change panel k. -/
def State.modPanel (s : State) (k : Fin 4) (f : PanelSt → PanelSt) : State :=
  { s with time := { s.time with panels := vmod s.time.panels k f } }

/-- Change core c. -/
def State.modCore (s : State) (c : Fin 8) (f : CoreSt → CoreSt) : State :=
  { s with cores := vmod s.cores c f }

/-- Change session x. -/
def State.modSess (s : State) (x : Fin 8) (f : SessSt → SessSt) : State :=
  { s with com := { s.com with sessions := vmod s.com.sessions x f } }

/-- Microticks run, whatever steps the count has taken (R29, log 186). -/
def State.run (s : State) : Nat := ((s.now : Int) + s.time.shift).toNat

/-- Superframe boundaries run, whatever steps the count has taken (R29, log 186). -/
def State.runSf (s : State) : Nat := (((s.now / superT : Nat) : Int) + s.time.shiftSf).toNat

/-- Superframes since the count began. -/
def State.sf (s : State) : Nat := s.now / superT

end Sys2Proof.Machine
end

