-- ==== Sys2Proof/Machine/Shell.lean ====
section
/-!
DEFINITION. The Shell's key slots, commands, frame counters and random source (12_shell.md R340-R360, R366-R369, R373).
-/
namespace Sys2Proof.Machine

/-! ## Slots (R340-R345) -/

/-- The level of a writer: cores are bound by none (R411), a session by its own (R503), debug by SHL_DBG_STATE (R498). -/
def State.rankOf (s : State) : Writer → Nat
  | .core _ => 4
  | .session x => s.o (Obj.COM_Ss_LEVEL x)
  | .debug => if s.o Obj.SHL_DBG_STATE = 2 then 4 else 3

/-- SHL_SLOTk_ATTR. -/
def State.slotAttr (s : State) (k : Nat) : Nat := s.o (Obj.SHL_SLOTk_ATTR k)

/-- STATE of slot k: 0 EMPTY, 1 LOADED, 2 EXHAUSTED (R343). -/
def State.slotState (s : State) (k : Nat) : Nat := fld (s.slotAttr k) 1 0

/-- TYPE of slot k. -/
def State.slotType (s : State) (k : Nat) : Nat := fld (s.slotAttr k) 3 2

/-- The key material of slot k. -/
def State.keyOf (s : State) (k : Nat) : Bytes := Sparse.get (fun _ => []) s.shell.keys k

/-- The uses a key type allows, as a bit set (R344). -/
def usesAllowed (ty : Nat) : Nat :=
  if ty = 0 then 0xBF else if ty = 1 then 0x4FF else if ty = 2 then 0x300 else 0

/-- The slot is LOADED and may serve the use (R344), and no alarm has closed the key bus (R364). -/
def State.permits (s : State) (k use : Nat) : Bool :=
  decide (s.slotState k = 1) && bitOf (s.slotAttr k) (16 + use) && bitOf (usesAllowed (s.slotType k)) use &&
  !(s.shell.alarms.any (fun a => a.closed))

/-- A counter is assignable (R354). -/
def State.ctrReady (s : State) (k use : Nat) : Bool := s.permits k use && !(bitOf (s.slotAttr k) 8)

/-- A slot whose counter is persisted (R356). -/
def State.persisted (s : State) (k : Nat) : Bool :=
  decide (2 ≤ k) && decide (k ≤ 63) && bitOf (s.slotAttr k) 4

/-- The key check value (R348). -/
def kcvOf (ty : Nat) (key : Bytes) : Bytes :=
  if ty ≤ 1 then sliceB (Config.aesBlock key (List.replicate 16 0)) 0 4 else List.replicate 4 0

/-- A slot that holds a key. -/
def State.slotHolds (s : State) (k : Nat) : Bool := s.slotState k != 0

/-- SHL_SLOTS_LOADED counts LOADED and EXHAUSTED slots. -/
def State.countSlots (s : State) : State :=
  s.setO Obj.SHL_SLOTS_LOADED (((List.range 256).filter (fun k => s.slotHolds k)).length)

/-- The mark M last found for slot k (R356). -/
def State.markOf (s : State) (k : Nat) : Option Nat := (s.shell.marks.find? (fun p => p.1 == k)).map (·.2)

/-- Remember the mark found for slot k, or that none was found. -/
def State.setMark (s : State) (k : Nat) (m : Option Nat) : State :=
  let rest := s.shell.marks.filter (fun p => p.1 != k)
  { s with shell := { s.shell with marks := match m with | none => rest | some v => (k, v) :: rest } }

/-- Set or clear bits WARN and STALL of ATTR from the counter and LIMIT (R343), with KEY_WARN when WARN rises (R354), and bit k of SHL_CTR_PERSIST with its
event when the bit rises (R356). -/
def State.judgeCtr (s : State) (k : Nat) : State :=
  let ctr := s.o (Obj.SHL_SLOTk_CTR k)
  let lim := s.o (Obj.SHL_SLOTk_LIMIT k)
  let a := setBit (s.slotAttr k) 7 (decide (0xFFFF0000 ≤ ctr))
  let a := setBit a 8 (decide (ctr = lim) && decide (lim ≠ 0xFFFFFFFF))
  let due := s.persisted k && (match s.markOf k with | none => false | some m => decide (m + 32768 ≤ ctr))
  let was := bitOf (s.o Obj.SHL_CTR_PERSIST) k
  let warned := bitOf (s.slotAttr k) 7
  let s := s.setO (Obj.SHL_SLOTk_ATTR k) a
  let s := if !warned && decide (0xFFFF0000 ≤ ctr) then s.raise 0x122 k ctr else s
  let s := s.setO Obj.SHL_CTR_PERSIST (setBit (s.o Obj.SHL_CTR_PERSIST) k due)
  if due && !was && !(s.shell.persistTick.contains k) then
    { s with shell := { s.shell with persistTick := k :: s.shell.persistTick } }.raise 0x123 k ctr
  else s

/-- Assign the next counter of slot k under a use (R354); none when the assignment is refused. -/
def State.assignCtr (s : State) (k use : Nat) : Option (Nat × State) :=
  if s.ctrReady k use then
    let c := s.o (Obj.SHL_SLOTk_CTR k)
    if c = 0xFFFFFFFF then some (c, s.setO (Obj.SHL_SLOTk_ATTR k) (setFld (s.slotAttr k) 1 0 2))
    else
      some (c, (s.setO (Obj.SHL_SLOTk_CTR k) (c + 1)).judgeCtr k)
  else none

/-- Empty slot k and drop its key (R346 ERASE, R363). -/
def State.emptySlot (s : State) (k : Nat) : State :=
  let s := ((s.setO (Obj.SHL_SLOTk_ATTR k) 0).setO (Obj.SHL_SLOTk_CTR k) 0).setO (Obj.SHL_SLOTk_LIMIT k) 0
  let s := if k < 64 then s.setO Obj.SHL_CTR_PERSIST (setBit (s.o Obj.SHL_CTR_PERSIST) k false) else s
  let s := s.setMark k none
  { s with shell := { s.shell with keys := Sparse.set (fun _ => []) s.shell.keys k [] } }

/-! ## Counter blocks (R355-R357) -/

/-- Flash address of the counter block of slot j, copy c. -/
def ctrBlock (j c : Nat) : Nat := 0x08F0E000 + 0x1000 * c + 64 * j

/-- The mark of a block when it is valid for a key check value (R355). -/
def State.blockMark (s : State) (kcv : Bytes) (j c : Nat) : Option Nat :=
  let a := ctrBlock j c
  let w0 := s.rn a 4
  let w1 := s.rn (a + 4) 4
  if (w0 = 0xFFFFFFFF && w1 = 0xFFFFFFFF) || w1 ≠ leNat kcv then none
  else some (w0 + 65536 * (448 - popCount 448 (s.rn (a + 8) 56)))

/-- The larger of two marks. -/
def maxMark : Option Nat → Option Nat → Option Nat
  | none, b => b
  | a, none => a
  | some a, some b => some (max a b)

/-- The highest mark among the valid blocks of a copy. -/
def State.copyMark (s : State) (kcv : Bytes) (c : Nat) : Option Nat :=
  (List.range 62).foldl (fun m i => maxMark m (s.blockMark kcv (i + 2) c)) none

/-- M of R356: the highest mark in both copies. -/
def State.findMark (s : State) (kcv : Bytes) : Option Nat := maxMark (s.copyMark kcv 0) (s.copyMark kcv 1)

/-- Load a key (R343, R354, R356): type, uses, FLAGS of R346, origin, key. -/
def State.loadSlot (s : State) (k ty uses flags origin : Nat) (key : Bytes) : State :=
  let a := 1 + ty * 4 + (flags % 4) * 16 + b2n (decide (k ≤ 1)) * 64 + origin * 512 + uses * 65536
  let s := { s with shell := { s.shell with keys := Sparse.set (fun _ => []) s.shell.keys k key } }
  let s := s.setO (Obj.SHL_SLOTk_ATTR k) a
  let m := if s.persisted k && origin = 1 then s.findMark (kcvOf ty key) else none
  let s := s.setMark k m
  let s :=
    if s.persisted k then
      match m with
      | none => (s.setO (Obj.SHL_SLOTk_CTR k) 0).setO (Obj.SHL_SLOTk_LIMIT k) 0
      | some v =>
        let c := v + 65536
        let s := (s.setO (Obj.SHL_SLOTk_CTR k) (min c 0xFFFFFFFF)).setO (Obj.SHL_SLOTk_LIMIT k) (min c 0xFFFFFFFF)
        if 0xFFFFFFFF < c then s.setO (Obj.SHL_SLOTk_ATTR k) (setFld a 1 0 2) else s
    else (s.setO (Obj.SHL_SLOTk_CTR k) 0).setO (Obj.SHL_SLOTk_LIMIT k) 0xFFFFFFFF
  (s.judgeCtr k).countSlots

/-! ## The command machine (R346, R350) -/

/-- n bytes from the DRBG (R359): free values, and one request. -/
def State.drbg (s : State) (n : Nat) : Bytes × State :=
  (freeBytes s.draws n, { s with draws := s.draws + n, shell := { s.shell with drbgReq := s.shell.drbgReq + 1 } })

/-- Begin a command: BUSY ends it at once and changes nothing else; ALARM and LEVEL come before the command's own checks
(R350). -/
def State.shellCmd (s : State) (who : Writer) (code level : Nat) (body : State → Nat × State) : State :=
  if s.shell.running.isSome || s.o Obj.SHL_STATE = 0 then
    (s.setO Obj.SHL_CMD_STATUS 1).raise 0x120 0 (code + 256 * 1)
  else
    let (st, s) :=
      if s.o Obj.SHL_STATE = 2 then (0x0A, s)
      else if s.rankOf who < level then (0x0B, s)
      else body (s.setBlob Obj.SHL_CMD_OUT [])
    { s with shell := { s.shell with running := some (code, st) } }

/-- The target of a command. -/
def State.tgt (s : State) : Nat := s.o Obj.SHL_CMD_SLOT

/-- The argument of a command. -/
def State.arg (s : State) : Bytes := s.blob Obj.SHL_CMD_ARG

/-- An argument's TYPE, USES and FLAGS are in range, with no reserved bit and no use the type does not allow. -/
def keyArgOk (ty uses flags : Nat) : Bool :=
  decide (ty ≤ 2) && decide (natAnd uses (0xFFFF - usesAllowed ty) = 0) && decide (flags < 4)

/-- Another LOADED slot with TX, WIRE or SESSION holds the same key (R345). -/
def State.duplicate (s : State) (k ty uses : Nat) (key : Bytes) : Bool :=
  decide (natAnd uses 0x92 ≠ 0) &&
  (List.range 256).any (fun j => j != k && decide (s.slotState j = 1) && decide (s.slotType j = ty) &&
    decide (natAnd (fld (s.slotAttr j) 31 16) 0x92 ≠ 0) && decide (kcvOf ty (s.keyOf j) = kcvOf ty key))

/-- Load a key into the target, or DUPLICATE. -/
def State.loadChecked (s : State) (ty uses flags origin : Nat) (key : Bytes) : Nat × State :=
  if s.duplicate s.tgt ty uses key then (7, s) else (0, s.loadSlot s.tgt ty uses flags origin key)

/-- The bytes of a key of a type. -/
def keyLen (ty : Nat) : Nat := if ty = 0 then 16 else 32

/-- What GENERATE does: its status and the state (R346). -/
def State.generateBody (s : State) : Nat × State :=
  let ty := fieldN s.arg 0 1; let uses := fieldN s.arg 1 2; let fl := fieldN s.arg 3 1
  if s.tgt ≤ 1 then (2, s)
  else if s.slotState s.tgt ≠ 0 then (2, s)
  else if s.arg.length < 4 || !(keyArgOk ty uses fl) then (3, s)
  else if s.o Obj.SHL_RNG_STATE = 1 then (8, s)
  else
    let (key, s) := s.drbg (keyLen ty)
    let s := if ty = 2 then s.setBlob Obj.SHL_CMD_OUT (Config.p256Public key) else s
    s.loadChecked ty uses fl 0 key

/-- GENERATE (R346). -/
def State.shlGenerate (s : State) (who : Writer) : State := s.shellCmd who 1 3 State.generateBody

/-- The base firmware keeps the argument of an IMPORT of a persistent key under slot 1, and gives it up with an ERASE (R365, R569). -/
def State.keepBlob (s : State) (k : Nat) (arg : Option Bytes) : State :=
  let l := s.boot.keyBlobs.filter (fun e => e.1 != k)
  { s with boot := { s.boot with keyBlobs := match arg with | some a => l ++ [(k, a)] | none => l } }

/-- What IMPORT does: its status and the state (R346, R348). -/
def State.importBody (s : State) : Nat × State :=
  let w := fieldN s.arg 0 1; let mask := fieldN s.arg 1 2; let blob := sliceB s.arg 3 64
  let ty := fieldN blob 1 1; let uses := natAnd (fieldN blob 2 2) mask; let fl := fieldN blob 4 1
  if s.tgt ≤ 1 || w = 0 then (2, s)
  else if s.slotState s.tgt ≠ 0 then (2, s)
  else if s.arg.length < 67 || natAnd mask 0xF800 ≠ 0 then (3, s)
  else if w = 1 && s.o Obj.SHL_WRAP_GEN = 32 then (6, s)
  else if !(s.permits w 6) then (4, s)
  else if w = 1 && fieldN blob 5 1 ≠ s.o Obj.SHL_WRAP_GEN then (6, s)
  else match Config.keyUnwrap (s.keyOf w) (sliceB blob 8 48) with
    | none => (5, s)
    | some plain =>
      let key := sliceB plain 8 (keyLen ty)
      if plain.take 8 ≠ blob.take 8 || sliceB blob 56 4 ≠ kcvOf ty key || fieldN blob 0 1 ≠ 1
         || !(keyArgOk ty uses fl)
         || (natAnd uses 0x12 ≠ 0 && !(decide (s.tgt ≤ 63) && bitOf fl 0)) then (5, s)
      else
        let (st, t) := s.loadChecked ty uses fl 1 key
        (st, if st = 0 && w = 1 && t.persisted s.tgt then t.keepBlob s.tgt (some s.arg) else t)

/-- IMPORT (R346, R348). -/
def State.shlImport (s : State) (who : Writer) : State := s.shellCmd who 2 3 State.importBody

/-- What EXPORT does: its status and the state (R346, R348). -/
def State.exportBody (s : State) : Nat × State :=
  let w := fieldN s.arg 0 1; let k := s.tgt; let a := s.slotAttr k
  if k ≤ 1 || w = 0 then (2, s)
  else if s.slotState k ≠ 1 then (2, s)
  else if s.arg.length < 1 then (3, s)
  else if !(bitOf a (if w = 1 then 4 else 5)) then (4, s)
  else if w = 1 && s.o Obj.SHL_WRAP_GEN = 32 then (6, s)
  else if !(s.permits w 6) then (4, s)
  else
    let ty := s.slotType k; let key := s.keyOf k
    let head := leBytes 1 1 ++ leBytes 1 ty ++ leBytes 2 (fld a 31 16) ++ leBytes 1 (fld a 5 4) ++
      leBytes 1 (if w = 1 then s.o Obj.SHL_WRAP_GEN else 0xFF) ++ leBytes 2 0
    let wrapped := Config.keyWrap (s.keyOf w) (head ++ sliceB key 0 32)
    (0, s.setBlob Obj.SHL_CMD_OUT (head ++ sliceB wrapped 0 48 ++ kcvOf ty key ++ leBytes 4 0))

/-- EXPORT (R346, R348). -/
def State.shlExport (s : State) (who : Writer) : State := s.shellCmd who 3 3 State.exportBody

/-- A public key is a point of P-256 (R347). -/
def onCurve (pub : Bytes) : Bool := (Config.ecdh (leBytes 32 1) pub).isSome

/-- What AGREE does: its status and the state (R346). -/
def State.agreeBody (s : State) : Nat × State :=
  let p := fieldN s.arg 0 1; let ty := fieldN s.arg 1 1; let uses := fieldN s.arg 2 2; let fl := fieldN s.arg 4 1
  let il := fieldN s.arg 5 1
  if s.tgt ≤ 1 || p = 0 then (2, s)
  else if s.slotState s.tgt ≠ 0 then (2, s)
  else if s.arg.length < 70 + il || 64 < il || !(keyArgOk ty uses fl) || !(onCurve (sliceB s.arg 6 64)) then (3, s)
  else if !(s.permits p 9) then (4, s)
  else match Config.ecdh (s.keyOf p) (sliceB s.arg 6 64) with
    | none => (3, s)
    | some z => s.loadChecked ty uses fl 2 (Config.hkdf z [] (sliceB s.arg 70 il) (keyLen ty))

/-- AGREE (R346). -/
def State.shlAgree (s : State) (who : Writer) : State := s.shellCmd who 4 3 State.agreeBody

/-- What DERIVE does: its status and the state (R346). -/
def State.deriveBody (s : State) : Nat × State :=
  let p := fieldN s.arg 0 1; let ty := fieldN s.arg 1 1; let uses := fieldN s.arg 2 2; let fl := fieldN s.arg 4 1
  let il := fieldN s.arg 5 1
  if s.tgt ≤ 1 || p = 0 then (2, s)
  else if s.slotState s.tgt ≠ 0 then (2, s)
  else if s.arg.length < 6 + il || !(keyArgOk ty uses fl) then (3, s)
  else if !(s.permits p 10) then (4, s)
  else s.loadChecked ty uses fl 2 (Config.hkdf (s.keyOf p) [] (sliceB s.arg 6 il) (keyLen ty))

/-- DERIVE (R346). -/
def State.shlDerive (s : State) (who : Writer) : State := s.shellCmd who 5 3 State.deriveBody

/-- What ERASE does: its status and the state (R346). -/
def State.eraseBody (s : State) : Nat × State :=
  if s.tgt ≤ 1 then (2, s) else (0, ((s.emptySlot s.tgt).countSlots).keepBlob s.tgt none)

/-- ERASE (R346). -/
def State.shlErase (s : State) (who : Writer) : State := s.shellCmd who 6 3 State.eraseBody

/-- What RESTRICT does: its status and the state (R345, R346): uses are removed, never added. -/
def State.restrictBody (s : State) : Nat × State :=
  let k := s.tgt; let mask := fieldN s.arg 0 2
  if k ≤ 1 then (2, s)
  else if s.slotState k ≠ 1 then (2, s)
  else if s.arg.length < 2 || natAnd mask 0xF800 ≠ 0 then (3, s)
  else
    let a := s.slotAttr k
    (0, s.setO (Obj.SHL_SLOTk_ATTR k) (setFld a 31 16 (natAnd (fld a 31 16) (0xFFFF - mask))))

/-- RESTRICT (R345, R346): uses are removed, never added. -/
def State.shlRestrict (s : State) (who : Writer) : State := s.shellCmd who 7 3 State.restrictBody

/-- What CTR_SYNC does: its status and the state (R356). -/
def State.ctrSyncBody (s : State) : Nat × State :=
  let k := s.tgt
  if k ≤ 1 || 63 < k then (2, s)
  else if s.slotState k = 0 || !(s.persisted k) then (0, s)
  else
    let m := s.findMark (kcvOf (s.slotType k) (s.keyOf k))
    let s := s.setMark k m
    match m with
    | none => (0, s.judgeCtr k)
    | some v =>
      let lim := max (s.o (Obj.SHL_SLOTk_LIMIT k)) (min (v + 65536) 0xFFFFFFFF)
      (0, (s.setO (Obj.SHL_SLOTk_LIMIT k) lim).judgeCtr k)

/-- CTR_SYNC (R356). -/
def State.shlCtrSync (s : State) (who : Writer) : State := s.shellCmd who 8 2 State.ctrSyncBody

/-- Every LOADED persistent slot has, in the other copy, a valid block whose mark covers its counter (R357). -/
def State.coveredBy (s : State) (c : Nat) : Bool :=
  (List.range 62).all (fun i =>
    let k := i + 2
    !(decide (s.slotState k = 1) && s.persisted k) ||
    (match s.copyMark (kcvOf (s.slotType k) (s.keyOf k)) c with
     | none => false
     | some m => decide (s.o (Obj.SHL_SLOTk_CTR k) ≤ m)))

/-- What PERMIT does: its status and the state (R357). -/
def State.permitBody (s : State) : Nat × State :=
  let c := fieldN s.arg 0 1
  if s.arg.length < 1 || 1 < c then (3, s)
  else if !(s.coveredBy (1 - c)) then (4, s)
  else (0, { s with shell := { s.shell with permit := setBit s.shell.permit c true } })

/-- PERMIT (R357). -/
def State.shlPermit (s : State) (who : Writer) : State := s.shellCmd who 9 2 State.permitBody

/-- Bytes 0-191 of the attestation report (R368). -/
def State.reportBody (s : State) : Bytes :=
  leBytes 4 0x31544154 ++ leBytes 2 1 ++ leBytes 2 256 ++ leBytes 8 (s.o Obj.ID_UID) ++ leBytes 2 (s.o Obj.ID_DIE_REV) ++
  leBytes 1 (s.o Obj.SHL_STATE) ++ leBytes 1 (s.o Obj.SHL_DBG_STATE) ++ leBytes 1 (s.o Obj.SHL_WRAP_GEN) ++
  leBytes 1 (s.o Obj.SHL_ALARM_SRC) ++ leBytes 2 (s.o Obj.SHL_SLOTS_LOADED) ++ leBytes 4 (s.o Obj.SHL_ALARM_TOTAL) ++
  leBytes 4 0 ++ leBytes 8 (tt64 s.now) ++ leBytes 2 (s.o Obj.FAB_ADDR) ++ leBytes 6 0 ++
  sliceB (s.blob Obj.SHL_ATT_NONCE) 0 16 ++ sliceB (s.blob (Obj.SHL_MEAS 0)) 0 32 ++ sliceB (s.blob (Obj.SHL_MEAS 1)) 0 32 ++
  sliceB (s.blob (Obj.SHL_MEAS 2)) 0 32 ++ sliceB (s.blob (Obj.SHL_MEAS 3)) 0 32

/-- The signed report (R368). -/
def State.report (s : State) : Bytes :=
  let b := s.reportBody
  b ++ sliceB (Config.ecdsaSign (s.keyOf 0) (Config.sha256 b)) 0 64

/-- What ATTEST does: its status and the state (R346, R368). -/
def State.attestBody (s : State) : Nat × State :=
  (0, s.setBlob Obj.SHL_ATT_REPORT s.report)

/-- ATTEST (R346, R368). -/
def State.shlAttest (s : State) (who : Writer) : State := s.shellCmd who 10 1 State.attestBody

/-- What PUBKEY does: its status and the state (R346). -/
def State.pubkeyBody (s : State) : Nat × State :=
  if s.tgt ≤ 1 || s.slotState s.tgt ≠ 1 then (2, s)
  else if s.slotType s.tgt ≠ 2 then (3, s)
  else (0, s.setBlob Obj.SHL_CMD_OUT (Config.p256Public (s.keyOf s.tgt)))

/-- PUBKEY (R346). -/
def State.shlPubkey (s : State) (who : Writer) : State := s.shellCmd who 11 1 State.pubkeyBody

/-- What SIGN does: its status and the state (R346). -/
def State.signBody (s : State) : Nat × State :=
  if s.tgt ≤ 1 || s.slotState s.tgt ≠ 1 then (2, s)
  else if s.slotType s.tgt ≠ 2 || s.arg.length ≠ 32 then (3, s)
  else if !(s.permits s.tgt 8) then (4, s)
  else (0, s.setBlob Obj.SHL_CMD_OUT (Config.ecdsaSign (s.keyOf s.tgt) s.arg))

/-- SIGN (R346). -/
def State.shlSign (s : State) (who : Writer) : State := s.shellCmd who 12 2 State.signBody

/-- What VERIFY does: its status and the state (R346); a public key that is not a point of P-256 ends with ARG (R347). -/
def State.verifyBody (s : State) : Nat × State :=
  let pub := sliceB s.arg 0 64
  if s.arg.length ≠ 160 || !(onCurve pub) then (3, s)
  else if Config.ecdsaVerify pub (sliceB s.arg 64 32) (sliceB s.arg 96 64) then (0, s) else (9, s)

/-- VERIFY (R346); a public key that is not a point of P-256 ends with ARG (R347). -/
def State.shlVerify (s : State) (who : Writer) : State := s.shellCmd who 13 1 State.verifyBody

/-- What SET_OWNER does: its status and the state (R346, R369): the owner hash is burnt once. -/
def State.setOwnerBody (s : State) : Nat × State :=
  if s.arg.length ≠ 32 || s.shell.ownerHash.isSome then (3, s)
  else (0, { s with shell := { s.shell with ownerHash := some s.arg } })

/-- SET_OWNER (R346, R369): the owner hash is burnt once. -/
def State.shlSetOwner (s : State) (who : Writer) : State := s.shellCmd who 14 3 State.setOwnerBody

/-- SHL_GENERATE (R346). -/
def execShlGenerate (who : Writer) (s : State) : Out := .next (s.shlGenerate who)
/-- SHL_IMPORT (R348). -/
def execShlImport (who : Writer) (s : State) : Out := .next (s.shlImport who)
/-- SHL_EXPORT (R346). -/
def execShlExport (who : Writer) (s : State) : Out := .next (s.shlExport who)
/-- SHL_AGREE (R346). -/
def execShlAgree (who : Writer) (s : State) : Out := .next (s.shlAgree who)
/-- SHL_DERIVE (R346). -/
def execShlDerive (who : Writer) (s : State) : Out := .next (s.shlDerive who)
/-- SHL_ERASE (R346). -/
def execShlErase (who : Writer) (s : State) : Out := .next (s.shlErase who)
/-- SHL_RESTRICT (R345). -/
def execShlRestrict (who : Writer) (s : State) : Out := .next (s.shlRestrict who)
/-- SHL_CTR_SYNC (R356). -/
def execShlCtrSync (who : Writer) (s : State) : Out := .next (s.shlCtrSync who)
/-- SHL_PERMIT (R357). -/
def execShlPermit (who : Writer) (s : State) : Out := .next (s.shlPermit who)
/-- SHL_ATTEST (R368). -/
def execShlAttest (who : Writer) (s : State) : Out := .next (s.shlAttest who)
/-- SHL_PUBKEY (R346). -/
def execShlPubkey (who : Writer) (s : State) : Out := .next (s.shlPubkey who)
/-- SHL_SIGN (R346). -/
def execShlSign (who : Writer) (s : State) : Out := .next (s.shlSign who)
/-- SHL_VERIFY (R346). -/
def execShlVerify (who : Writer) (s : State) : Out := .next (s.shlVerify who)
/-- SHL_SET_OWNER (R369). -/
def execShlSetOwner (who : Writer) (s : State) : Out := .next (s.shlSetOwner who)

/-- A write of SHL_CMD (R346); other values are refused by the card's range. -/
def State.shlCommand (s : State) (who : Writer) (code : Nat) : State :=
  match code with
  | 1 => s.shlGenerate who | 2 => s.shlImport who | 3 => s.shlExport who | 4 => s.shlAgree who
  | 5 => s.shlDerive who | 6 => s.shlErase who | 7 => s.shlRestrict who | 8 => s.shlCtrSync who
  | 9 => s.shlPermit who | 10 => s.shlAttest who | 11 => s.shlPubkey who | 12 => s.shlSign who
  | 13 => s.shlVerify who | 14 => s.shlSetOwner who | _ => s

/-- The command that runs ends with its status and one SHELL_CMD event (R350). -/
def State.shellEnd (s : State) : State :=
  match s.shell.running with
  | none => s
  | some (code, st) =>
    ({ s with shell := { s.shell with running := none } }.setO Obj.SHL_CMD_STATUS st).raise 0x120 0 (code + 256 * st)

/-- The wrap key of the generation in force (R349). -/
def wrapKey (g : Nat) : Bytes := Config.hkdf Config.deviceSecret [] (leBytes 1 g) 32

/-- SHELL_READY (R341, R349, R373): slots 0 and 1 are rebuilt from OTP, slot 1 only while a fuse is left. -/
def execShellReady (s : State) : Out :=
  if s.o Obj.SHL_STATE = 0 then
    let s := s.loadSlot 0 2 0 0 3 Config.deviceKey
    let g := s.o Obj.SHL_WRAP_GEN
    let s := if g < 32 then s.loadSlot 1 1 0x40 0 3 (wrapKey g) else (s.emptySlot 1).countSlots
    .next (s.setO Obj.SHL_STATE 1)
  else .next s

/-! ## The random source (R359, R360) -/

/-- DRBG_RESEED (R359): after 2^16 requests, and not while the source has failed. -/
def execDrbgReseed (s : State) : Out :=
  if 65536 ≤ s.shell.drbgReq && s.o Obj.SHL_RNG_STATE = 0 then
    .next { s with shell := { s.shell with drbgReq := 0 } }
  else .next s

/-- RNG_FAIL (R360). -/
def execRngFail (s : State) : Out :=
  let s := (s.setO Obj.SHL_RNG_STATE 1).inc Obj.SHL_RNG_FAILS
  .next (s.raise 0x124 0 (s.o Obj.SHL_RNG_FAILS))

/-- RNG_RECOVER (R360): after 4 consecutive passing windows and a reseed. -/
def execRngRecover (windows : Nat) (s : State) : Out :=
  if s.o Obj.SHL_RNG_STATE = 1 && 4 ≤ windows then
    .next { s.setO Obj.SHL_RNG_STATE 0 with shell := { s.shell with drbgReq := 0 } }
  else .next s

/-! ## Measurements (R367) -/

/-- A write of 32 bytes extends measurement register i; other lengths, and SOP, are refused. -/
def State.measExtend (s : State) (i : Nat) (v : Bytes) : State :=
  s.setBlob (Obj.SHL_MEAS i) (Config.sha256 (sliceB (s.blob (Obj.SHL_MEAS i)) 0 32 ++ v))

/-- MEAS_EXTEND (R367). -/
def execMeasExtend (who : Writer) (i : Fin 4) (v : Bytes) (s : State) : Out :=
  match who with
  | .session _ => .next s
  | _ => if v.length = 32 then .next (s.measExtend i v) else .next s

end Sys2Proof.Machine
end

