-- ==== Sys2Proof/Machine/Ledger.lean ====
section
/-!
DEFINITION. Powered blocks (R412), the cell pools (13_jobs_ledger.md R387-R390) and the ledger records (R380-R386).
-/
namespace Sys2Proof.Machine

/-- Change slice n. -/
def State.modSlice (s : State) (n : Fin 4) (f : SliceSt → SliceSt) : State :=
  { s with slices := vmod s.slices n f }

/-- Change the job engine. -/
def State.modJobs (s : State) (f : JobsSt → JobsSt) : State := { s with jobs := f s.jobs }

/-! ## The memory map (R409, R412) -/

/-- The DRAM serves no request: off, in training or in self-refresh (R439, R454, R456). -/
def State.dramSleeps (s : State) : Bool := s.o Obj.DRM_STATE != 2 && s.o Obj.DRM_STATE != 4

/-- The DRAM beyond DRM_SIZE holds no memory (R452). -/
def State.noDram (s : State) (a : Nat) : Bool :=
  inDram a && !s.dramSleeps && decide (0x80000000 + s.o Obj.DRM_SIZE ≤ a)

/-- The start and end of the memory region of R409 that holds address a: ROM, flash, system SRAM, one slice SRAM, DRAM. -/
def regionOf (a : Nat) : Option (Nat × Nat) :=
  if a < 0x20000 then some (0, 0x20000)
  else if 0x08000000 ≤ a && a < 0x08F10000 then some (0x08000000, 0x08F10000)
  else if 0x20000000 ≤ a && a < 0x20200000 then some (0x20000000, 0x20200000)
  else if 0x24000000 ≤ a && a < 0x24200000 then
    let b := 0x24000000 + (a - 0x24000000) / 0x80000 * 0x80000
    some (b, b + 0x80000)
  else if 0x80000000 ≤ a && a < 0xB8000000 then some (0x80000000, 0xB8000000)
  else none

/-- n bytes from a lie inside one memory region. -/
def inRegion (a n : Nat) : Bool :=
  match regionOf a with
  | none => false
  | some (_, e) => decide (a + n ≤ e)

/-- A memory that jobs may write: system SRAM, slice SRAM or DRAM. -/
def writableMem (a : Nat) : Bool := decide (0x20000000 ≤ a) && (regionOf a).isSome

/-- The block that holds address a has its clock and power (R412, R546). -/
def State.powered (s : State) (a : Nat) : Bool :=
  if 0x24000000 ≤ a && a < 0x24200000 then
    !(s.slices[asFin 4 ((a - 0x24000000) / 0x80000)].gated)
  else if inDram a then !s.dramSleeps && decide (a < 0x80000000 + s.o Obj.DRM_SIZE)
  else if 0x20000000 ≤ a && a < 0x20200000 then
    if s.pwr ≤ 2 then true
    else if s.pwr = 3 then bitOf (s.o Obj.PWR_KEEP_DOZE) ((a - 0x20000000) / 0x10000)
    else false
  else if 0x08000000 ≤ a && a < 0x09000000 then decide (s.pwr ≤ 2)
  else true

/-- Slice SRAM of slice n. -/
def slcBase (n : Nat) : Nat := 0x24000000 + 0x80000 * n

/-- n bytes from a lie wholly inside the SRAM of slice i. -/
def inSlice (i a n : Nat) : Bool := decide (slcBase i ≤ a) && decide (a + n ≤ slcBase i + 0x80000)

/-! ## Pools (R387-R390) -/

/-- Cells of pool p. -/
def poolTotal (p : Nat) : Nat := if p = 4 then 256 else 1024
/-- Bytes of a cell. -/
def cellSize (p : Nat) : Nat := if p = 4 then 1024 else 128
/-- Address of cell c. -/
def cellAddr (p c : Nat) : Nat := if p = 4 then 0x20080000 + 1024 * c else 0x24040000 + 0x80000 * p + 128 * c
/-- Address of the link-table entry of cell c. -/
def linkAddr (p c : Nat) : Nat := if p = 4 then 0x200E0000 + 2 * c else 0x24060000 + 0x80000 * p + 2 * c

/-- Cells in chains. -/
def chainCells (l : List (List Nat)) : Nat := (l.map List.length).foldl (· + ·) 0

/-- FREE of a pool. -/
def State.poolFree (s : State) (p : Fin 5) : Nat :=
  poolTotal p - (chainCells s.jobs.pools[p].transit + chainCells s.jobs.pools[p].held)

/-- The value of JOB_POOLn_LIVE (R396). -/
def State.poolLive (s : State) (p : Fin 5) : Nat :=
  s.poolFree p + chainCells s.jobs.pools[p].transit * 0x10000 + chainCells s.jobs.pools[p].held * 0x100000000

/-- Change pool p. -/
def State.modPool (s : State) (p : Fin 5) (f : PoolSt → PoolSt) : State :=
  s.modJobs (fun j => { j with pools := vmod j.pools p f })

/-- Cell c lies in a chain. -/
def PoolSt.uses (p : PoolSt) (c : Nat) : Bool :=
  p.transit.any (fun l => l.contains c) || p.held.any (fun l => l.contains c)

/-- The first free cell at or after c, counting round. -/
def PoolSt.freeFrom (p : PoolSt) (total : Nat) : Nat → Nat → Nat
  | 0, c => c % total
  | f + 1, c => if p.uses (c % total) then PoolSt.freeFrom p total f (c + 1) else c % total

/-- n free cells, each a free choice among the free ones (log 14): the cells and the draws left. -/
def pickCells (p : PoolSt) (total d : Nat) : Nat → List Nat
  | 0 => []
  | n + 1 =>
    let c := p.freeFrom total total (Config.freeNat d % total)
    c :: pickCells { p with transit := [c] :: p.transit } total (d + 1) n

/-- Write the link table of a chain (R388). -/
def State.linkChain (s : State) (p : Nat) : List Nat → State
  | [] => s
  | [c] => s.wn (linkAddr p c) 2 0xFFFF
  | c :: d :: r => State.linkChain (s.wn (linkAddr p c) 2 d) p (d :: r)

/-- Take n cells of pool p into TRANSIT, leaving `keep` free cells to their reservation (R388-R390); none counts EMPTY. -/
def State.takeCells (s : State) (p : Fin 5) (n keep : Nat) : Option (List Nat) × State :=
  if n = 0 then (some [], s)
  else if s.poolFree p < n + keep then (none, s.inc (Obj.JOB_POOLn_EMPTY p))
  else
    let cs := pickCells s.jobs.pools[p] (poolTotal p) s.draws n
    let s := { s with draws := s.draws + n }
    let s := s.modPool p (fun q => { q with transit := q.transit ++ [cs] })
    let s := s.linkChain p cs
    let lim := s.o (Obj.JOB_POOLn_LOW p)
    let low := s.poolFree p < lim && decide (lim ≤ s.poolFree p + n) && !s.jobs.pools[p].lowRaised
    let s := if low then (s.modPool p (fun q => { q with lowRaised := true })).raise 0x131 p (s.poolFree p) else s
    (some cs, s)

/-- Take out the chain that begins with cell c. -/
def dropChain (l : List (List Nat)) (c : Nat) : List (List Nat) := l.filter (fun x => x.head? != some c)

/-- FAB_Wp_RX_HELD of both ports: the credit-spending datagrams whose cells are not released (R289). -/
def State.syncHeld (s : State) : State :=
  fin2.foldl (fun (s : State) (p : Fin 2) =>
    s.setO (Obj.FAB_Wp_RX_HELD p) ((s.jobs.pools[(4 : Fin 5)].credit.filter (fun x => x.2 == p.val)).length % 256)) s

/-- A chain in TRANSIT returns to FREE (R389). -/
def State.returnCells (s : State) (p : Fin 5) (cs : List Nat) : State :=
  match cs with
  | [] => s
  | c :: _ =>
    let s := s.modPool p (fun q => { q with transit := dropChain q.transit c, credit := q.credit.filter (fun x => x.1 != c) })
    if p = 4 then s.syncHeld else s

/-- A chain in TRANSIT becomes HELD (R389). -/
def State.holdCells (s : State) (p : Fin 5) (cs : List Nat) : State :=
  match cs with
  | [] => s
  | c :: _ => s.modPool p (fun q => { q with transit := dropChain q.transit c, held := q.held ++ [cs] })

/-- Fill the cells of a chain with bytes (R388). -/
def State.fillCells (s : State) (p : Fin 5) : List Nat → Bytes → State
  | [], _ => s
  | c :: r, b => State.fillCells (s.wbs (cellAddr p c) (b.take (cellSize p))) p r (b.drop (cellSize p))

/-! ## Ledger records (R380-R386) -/

/-- Address of the main-ledger record of ticket t. -/
def ledAddr (t : Nat) : Nat := 0x200F0000 + 32 * (t % 2048)

/-- Address of record i of slice n's ledger, i counted over both halves (R386). -/
def sledAddr (n i : Nat) : Nat := 0x24061000 + 0x80000 * n + 32 * i

/-- Write a fresh record (R381); STATE goes last. -/
def State.writeRecord (s : State) (a ticket st kind cause origin sel done flags ref tag : Nat) : State :=
  (s.wbs a (leBytes 4 ticket ++ leBytes 1 0 ++ leBytes 1 kind ++ leBytes 1 cause ++ leBytes 1 origin ++
    leBytes 4 sel ++ leBytes 4 done ++ leBytes 1 flags ++ leBytes 1 0 ++ leBytes 2 ref ++ leBytes 4 tag ++
    leBytes 8 (tt64 s.now))).wn (a + 4) 1 st

/-- Move a record to a state that is not final. -/
def State.recordState (s : State) (a st : Nat) : State :=
  (s.wn (a + 24) 8 (tt64 s.now)).wn (a + 4) 1 st

/-- The outcome of R382: DONE, PARTIAL or ABANDONED. -/
def outcomeOf (sel done : Nat) : Nat := if done = sel then 3 else if done = 0 then 5 else 4

/-- Bring a record to a final state and count it (R383). -/
def State.recordEnd (s : State) (a st cause done flags : Nat) : State :=
  let s := ((s.wn (a + 6) 1 (if st = 3 then 0 else cause)).wn (a + 12) 4 done).wn (a + 16) 1 flags
  let s := (s.recordState a st).inc Obj.JOB_ENDED
  if st = 3 then s else s.inc Obj.JOB_FAILED

/-- The main ledger has room (R380). -/
def State.ledRoom (s : State) : Bool :=
  decide ((s.o Obj.JOB_LED_PROD + 2 ^ 32 - s.o Obj.JOB_LED_CONS) % 2 ^ 32 < 2048)

/-- Issue the next ticket with its record (R380); none when the ledger is full. -/
def State.newRecord (s : State) (st kind origin sel ref tag : Nat) : Option Nat × State :=
  if s.ledRoom then
    let t := s.o Obj.JOB_LED_PROD
    let s := s.writeRecord (ledAddr t) t st kind 0 origin sel 0 0 ref tag
    (some t, s.setO Obj.JOB_LED_PROD ((t + 1) % 2 ^ 32))
  else (none, s.inc Obj.JOB_LED_FULL)

/-- STATE of a record. -/
def State.recState (s : State) (a : Nat) : Nat := s.rn (a + 4) 1

end Sys2Proof.Machine
end

