-- ==== Sys2Proof/Machine/Air.lean ====
section
/-!
DEFINITION. The airtime accountant (08_regulatory.md R225-R239): coverage, reservation, settlement, bins and regions.
-/
namespace Sys2Proof.Machine

/-- Change the accountant. -/
def State.modAir (s : State) (f : AirSt → AirSt) : State := { s with air := f s.air }

/-- A band of frequencies in Hz. -/
abbrev Band := Int × Int

/-- Two closed ranges share an interval of positive width (R226). -/
def bandMeets (a b : Band) : Bool := decide (max a.1 b.1 < min a.2 b.2)

/-- The range of bucket k. -/
def State.bktBand (s : State) (k : Nat) : Band := ((s.o (Obj.AIR_BKTk_LO_HZ k) : Int), (s.o (Obj.AIR_BKTk_HI_HZ k) : Int))

/-- Bucket k is in force. -/
def State.bktOn (s : State) (k : Nat) : Bool := s.ob (Obj.AIR_BKTk_ENABLE k)

/-- Buckets in force. -/
def State.bktsOn (s : State) : List Nat := (List.range 16).filter (fun k => s.bktOn k)

/-- Walk from lo to hi inside the union of closed ranges (R226). -/
def coverFrom (rs : List Band) : Nat → Int → Int → Bool
  | 0, lo, hi => decide (hi ≤ lo)
  | f + 1, lo, hi =>
    if hi ≤ lo then true
    else match rs.find? (fun r => decide (r.1 ≤ lo) && decide (lo < r.2)) with
      | none => false
      | some r => coverFrom rs f r.2 hi

/-- Every frequency of the band lies in some bucket in force (R226). -/
def State.covered (s : State) (b : Band) : Bool :=
  coverFrom (s.bktsOn.map (fun k => s.bktBand k)) 17 b.1 b.2

/-- The band of frequencies that dwell tracker t serves. -/
def trackerBand (t : Nat) : Band := if t = 0 then (750000000, 960000000) else (2400000000, 2500000000)

/-- Tracker t is in force. -/
def State.dwlOn (s : State) (t : Nat) : Bool := s.ob (Obj.AIR_DWLt_ENABLE t)

/-- The edges of tracker t's cells. -/
def State.dwlSpan (s : State) (t : Nat) : Band :=
  let lo := s.o (Obj.AIR_DWLt_LO_HZ t)
  ((lo : Int), ((lo + s.o (Obj.AIR_DWLt_CELLS t) * s.o (Obj.AIR_DWLt_STEP_HZ t) : Nat) : Int))

/-- The band of cell c of tracker t (R230). -/
def State.cellBand (s : State) (t c : Nat) : Band :=
  let lo := s.o (Obj.AIR_DWLt_LO_HZ t)
  let st := s.o (Obj.AIR_DWLt_STEP_HZ t)
  (((lo + c * st : Nat) : Int), ((lo + (c + 1) * st : Nat) : Int))

/-- Some part of the band lies outside the cells of an enabled tracker that it overlaps (R226 NO_CELL). -/
def State.uncelled (s : State) (t : Nat) (b : Band) : Bool :=
  s.dwlOn t && bandMeets b (trackerBand t) && s.bktsOn.any (fun k => bandMeets b (s.bktBand k)) &&
  (decide (b.1 < (s.dwlSpan t).1) || decide ((s.dwlSpan t).2 < b.2))

/-- Buckets that some band overlaps. -/
def State.bktsHit (s : State) (bs : List Band) : List Nat :=
  s.bktsOn.filter (fun k => bs.any (fun b => bandMeets b (s.bktBand k)))

/-- Cells of enabled trackers that some band overlaps. -/
def State.cellsHit (s : State) (bs : List Band) : List (Nat × Nat) :=
  [0, 1].flatMap (fun t => if s.dwlOn t then
    ((List.range (min 256 (s.o (Obj.AIR_DWLt_CELLS t)))).filter (fun c => bs.any (fun b => bandMeets b (s.cellBand t c)))).map (fun c => (t, c))
    else [])

/-- The books of a cell. -/
def State.cellAcc (s : State) (t c : Nat) : CellAcc :=
  (s.air.cells.find? (fun x => x.t == t && x.c == c)).getD ⟨t, c, [], 0⟩

/-- Window sum: the current bin and the W before it (R227). -/
def winSum (w : Nat) (bins : List Nat) : Nat := sumL (bins.take (w + 1))

/-- Window sum plus held charges of a cell. -/
def State.cellLoad (s : State) (t c : Nat) : Nat :=
  let x := s.cellAcc t c
  winSum (s.o (Obj.AIR_DWLt_WIN t)) x.bins + x.held

/-- Put back the books of a cell, keeping only cells with history or a charge. -/
def State.putCell (s : State) (x : CellAcc) : State :=
  s.modAir (fun a =>
    let rest := a.cells.filter (fun y => !(y.t == x.t && y.c == x.c))
    { a with cells := if x.held = 0 && sumL x.bins = 0 then rest else x :: rest })

/-- Recompute AIR_BKTk_SUM (R229). -/
def State.bktSum (s : State) (k : Fin 16) : State :=
  s.setO (Obj.AIR_BKTk_SUM k) (winSum (s.o (Obj.AIR_BKTk_WIN k)) s.air.bins[k])

/-- The first refusal of R231: code, and the account it concerns (16 + t a tracker, 63 none). -/
def State.airRefusal (s : State) (bs : List Band) (r : Nat) (ack : Bool) : Option (Nat × Nat) :=
  if s.o Obj.AIR_REGION = 0 then some (1, 63)
  else if s.now < linear (s.o Obj.AIR_HOLD_UNTIL) then some (2, 63)
  else if bs.any (fun b => !(s.covered b)) then some (3, 63)
  else match [0, 1].find? (fun t => bs.any (fun b => s.uncelled t b)) with
    | some t => some (6, 16 + t)
    | none =>
      match (s.bktsHit bs).find? (fun k =>
          let room := s.o (Obj.AIR_BKTk_LIMIT k) - (if ack then 0 else s.o (Obj.AIR_BKTk_ACK_RES k))
          decide (room < s.o (Obj.AIR_BKTk_SUM k) + s.o (Obj.AIR_BKTk_HELD k) + r)) with
      | some k => some (4, k)
      | none =>
        match (s.cellsHit bs).find? (fun x => decide (s.o (Obj.AIR_DWLt_LIMIT x.1) < s.cellLoad x.1 x.2 + r)) with
        | some x => some (5, 16 + x.1)
        | none => none

/-- A refusal counts and changes no account (R231). -/
def State.airRefuse (s : State) (n : Fin 4) (code acct : Nat) : State :=
  let s := (s.inc Obj.AIR_REFUSALS).setO Obj.AIR_LAST_REFUSAL (code + n.val * 256 + acct * 1024)
  if acct < 16 then s.inc (Obj.AIR_BKTk_REFUSED acct)
  else if acct < 18 then s.inc (Obj.AIR_DWLt_REFUSED (acct - 16))
  else s

/-- Reserve R on every account of the bands (R231): the accounts charged, or none with the refusal counted. -/
def State.airReserve (s : State) (n : Fin 4) (bs : List Band) (r : Nat) (ack : Bool) :
    Option (List Nat × List (Nat × Nat)) × State :=
  match s.airRefusal bs r ack with
  | some (code, acct) => (none, s.airRefuse n code acct)
  | none =>
    let ks := s.bktsHit bs
    let cs := s.cellsHit bs
    let s := ks.foldl (fun s k => (s.addO 64 (Obj.AIR_BKTk_HELD k) r).addO 64 (Obj.AIR_BKTk_GRANTED k) r) s
    let s := cs.foldl (fun (s : State) x => let y := s.cellAcc x.1 x.2; s.putCell { y with held := y.held + r }) s
    (some (ks, cs), s.inc Obj.AIR_GRANTS)

/-- Add to the current bin; no cap is put on what four slices settle in one bin (R227, log 212). -/
def binAdd (a : Nat) : List Nat → List Nat
  | [] => [a]
  | b :: r => (b + a) :: r

/-- Settle one bucket (R233). -/
def State.settleBkt (s : State) (k : Fin 16) (r a : Nat) : State :=
  let s := s.setO (Obj.AIR_BKTk_HELD k) (s.o (Obj.AIR_BKTk_HELD k) - r)
  let s := (s.addO 64 (Obj.AIR_BKTk_SETTLED k) r).addO 64 (Obj.AIR_BKTk_CHARGED k) a
  (s.modAir (fun x => { x with bins := vmod x.bins k (binAdd a) })).bktSum k

/-- Settle a reservation with the on-time a (R233). -/
def State.airSettle (s : State) (ks : List Nat) (cs : List (Nat × Nat)) (r a : Nat) : State :=
  let a := min a r
  let s := ks.foldl (fun s k => s.settleBkt (asFin 16 k) r a) s
  cs.foldl (fun (s : State) x =>
    let y := s.cellAcc x.1 x.2
    s.putCell { y with held := y.held - r, bins := binAdd a y.bins }) s

/-! ## Bins (R227) -/

/-- Turn over m bins: the oldest drop out, new ones start at 0. -/
def turnBins (w m : Nat) (l : List Nat) : List Nat := (List.replicate (min m (w + 1)) 0 ++ l).take (w + 1)

/-- Turn over m bins of every account whose bin is a superframe (epoch = false) or an epoch. -/
def State.turnAccounts (s : State) (epoch : Bool) (m : Nat) : State :=
  if m = 0 then s else
  let s := fin16.foldl (fun (s : State) (k : Fin 16) =>
    if (s.o (Obj.AIR_BKTk_BIN k) = 1) = (epoch = true) then
      (s.modAir (fun x => { x with bins := vmod x.bins k (turnBins (s.o (Obj.AIR_BKTk_WIN k)) m) })).bktSum k
    else s) s
  s.air.cells.foldl (fun (s : State) x =>
    if (s.o (Obj.AIR_DWLt_BIN x.t) = 1) = (epoch = true) then
      s.putCell { x with bins := turnBins (s.o (Obj.AIR_DWLt_WIN x.t)) m x.bins }
    else s) s

/-- The bins of every superframe and epoch boundary passed and not yet turned over (R227). -/
def State.airTurn (s : State) : State :=
  let sf := s.now / superT
  let ep := s.now / epochT
  let s := s.turnAccounts false (sf - s.air.supers)
  let s := s.turnAccounts true (ep - s.air.epochs)
  s.modAir (fun a => { a with supers := sf, epochs := ep })

/-- AIRTIME_BIN_TURNOVER (R227): at a superframe or epoch boundary, after the snapshot of the tick. -/
def execAirtimeBinTurnover (s : State) : Out := .next s.airTurn

/-- AIR_DWLt_MAXCELL and MAXSUM at a tick (R230): the lowest cell with the highest load. -/
def State.dwlMax (s : State) (t : Nat) : State :=
  let m := s.air.cells.foldl (fun (m : Nat × Nat) x =>
    if x.t = t then
      let v := s.cellLoad t x.c
      if m.2 < v || (m.2 = v && x.c < m.1 && 0 < v) then (x.c, v) else m
    else m) (0, 0)
  (s.setO (Obj.AIR_DWLt_MAXCELL t) m.1).setO (Obj.AIR_DWLt_MAXSUM t) m.2

/-! ## Regions (R236-R238) -/

/-- A bucket of a preset: LO, HI, BIN, W, LIMIT, ACK_RES. -/
structure BktPreset where
  k : Nat
  lo : Nat
  hi : Nat
  bin : Nat
  w : Nat
  limit : Nat
  res : Nat
  deriving DecidableEq, Repr

/-- A tracker of a preset. -/
structure DwlPreset where
  t : Nat
  lo : Nat
  step : Nat
  cells : Nat
  bin : Nat
  w : Nat
  limit : Nat
  deriving DecidableEq, Repr

/-- Buckets of a region (R236). -/
def bktPresets (region : Nat) : List BktPreset :=
  if region = 1 then
    [⟨0, 863000000, 865000000, 1, 60, 138240000, 13824000⟩, ⟨1, 865000000, 868000000, 1, 60, 1382400000, 138240000⟩,
     ⟨2, 868000000, 868600000, 1, 60, 1382400000, 138240000⟩, ⟨3, 868700000, 869200000, 1, 60, 138240000, 13824000⟩,
     ⟨4, 869400000, 869650000, 1, 60, 13824000000, 1382400000⟩, ⟨5, 869700000, 870000000, 1, 60, 1382400000, 138240000⟩,
     ⟨6, 2400000000, 2483500000, 1, 60, 13824000000, 1382400000⟩]
  else if region = 2 || region = 3 then
    [⟨0, 902000000, 928000000, 1, 1, 4608000000, 0⟩, ⟨1, 2400000000, 2483500000, 1, 1, 4608000000, 0⟩]
  else []

/-- Trackers of a region (R236). -/
def dwlPresets (region : Nat) : List DwlPreset :=
  if region = 2 then
    [⟨0, 902000000, 500000, 52, 0, 10, 15360000⟩, ⟨1, 2400000000, 1000000, 83, 0, 30, 15360000⟩]
  else if region = 3 then
    [⟨0, 902000000, 250000, 104, 0, 20, 15360000⟩, ⟨1, 2400000000, 1000000, 83, 0, 30, 15360000⟩]
  else []

/-- Load the preset of a region (R236); TEST loads none. An account that the region does not name is disabled and keeps its other
fields (log 137). -/
def State.loadRegion (s : State) (region : Nat) : State :=
  if region = 0xF then s else
  let s := (List.range 16).foldl (fun s k => s.setO (Obj.AIR_BKTk_ENABLE k) 0) s
  let s := [0, 1].foldl (fun s t => s.setO (Obj.AIR_DWLt_ENABLE t) 0) s
  let s := (bktPresets region).foldl (fun s p =>
    let s := ((s.setO (Obj.AIR_BKTk_ENABLE p.k) 1).setO (Obj.AIR_BKTk_LO_HZ p.k) p.lo).setO (Obj.AIR_BKTk_HI_HZ p.k) p.hi
    let s := ((s.setO (Obj.AIR_BKTk_BIN p.k) p.bin).setO (Obj.AIR_BKTk_WIN p.k) p.w).setO (Obj.AIR_BKTk_LIMIT p.k) p.limit
    (s.setO (Obj.AIR_BKTk_CEIL p.k) p.limit).setO (Obj.AIR_BKTk_ACK_RES p.k) p.res) s
  (dwlPresets region).foldl (fun s p =>
    let s := ((s.setO (Obj.AIR_DWLt_ENABLE p.t) 1).setO (Obj.AIR_DWLt_LO_HZ p.t) p.lo).setO (Obj.AIR_DWLt_STEP_HZ p.t) p.step
    let s := ((s.setO (Obj.AIR_DWLt_CELLS p.t) p.cells).setO (Obj.AIR_DWLt_BIN p.t) p.bin).setO (Obj.AIR_DWLt_WIN p.t) p.w
    (s.setO (Obj.AIR_DWLt_LIMIT p.t) p.limit).setO (Obj.AIR_DWLt_CEIL p.t) p.limit) s

/-- Some bin or HELD is not 0 (R238). -/
def State.airUsed (s : State) : Bool :=
  fin16.any (fun (k : Fin 16) => sumL s.air.bins[k] != 0 || s.o (Obj.AIR_BKTk_HELD k) != 0) || !s.air.cells.isEmpty

/-- Length of a bin. -/
def binLen (b : Nat) : Nat := if b = 1 then epochT else superT

/-- The longest W × bin length among the accounts in force. -/
def State.longestWin (s : State) : Nat :=
  let a := s.bktsOn.foldl (fun m k => max m (s.o (Obj.AIR_BKTk_WIN k) * binLen (s.o (Obj.AIR_BKTk_BIN k)))) 0
  [0, 1].foldl (fun m t => if s.dwlOn t then max m (s.o (Obj.AIR_DWLt_WIN t) * binLen (s.o (Obj.AIR_DWLt_BIN t))) else m) a

/-- Clear every bin (R238); HELD stays. -/
def State.clearBins (s : State) : State :=
  let s := s.modAir (fun a => { a with
    bins := Vector.replicate 16 [0]
    cells := (a.cells.map (fun x => { x with bins := [] })).filter (fun x => x.held != 0) })
  (List.range 16).foldl (fun s k => s.setO (Obj.AIR_BKTk_SUM k) 0) s

/-- The keys of R237 that a commit may write over the preset. -/
def airOverlay (k : Key) : Bool :=
  let i := k / 256
  (0x1010 ≤ i && i ≤ 0x101F) || i = 0x1030 || i = 0x1031

/-- A change of AIR_REGION at a tick (R238): bins cleared and the preset loaded, before the other values of the same commit
are laid over it. -/
def State.regionChange (s : State) (region : Nat) : State :=
  if region = s.o Obj.AIR_REGION then s else ((s.clearBins).setO Obj.AIR_REGION region).loadRegion region

/-- The hold of R238, once the values of the commit stand, when an account was in use before the change. -/
def State.regionHold (s : State) (used : Bool) : State :=
  if used then
    s.setO Obj.AIR_HOLD_UNTIL (tt64 (max (linear (s.o Obj.AIR_HOLD_UNTIL)) (s.now + s.longestWin)))
  else s

/-- In TEST, CEIL follows the written LIMIT (R237). -/
def State.airTestCeil (s : State) (k : Key) : State :=
  if s.o Obj.AIR_REGION = 0xF then
    let i := k / 256
    if 0x1010 ≤ i && i ≤ 0x101F && k % 256 = 6 then s.setO (okey i 8) (s.o k)
    else if (i = 0x1030 || i = 0x1031) && k % 256 = 7 then s.setO (okey i 8) (s.o k)
    else s
  else s

end Sys2Proof.Machine
end

