-- ==== Sys2Proof/Machine/Ecc.lean ====
section
/-!
DEFINITION. DRAM blocks as they are read and written under the inline code (15_dram.md R434, R435, R439). The check bytes have no
core address and no reader but the controller: what a block holds wrong is its place in `dram.bad` and the error count with which
a read meets it.
-/
namespace Sys2Proof.Machine

/-- Change the DRAM controller's own state. -/
def State.modDram (s : State) (f : DramSt → DramSt) : State := { s with dram := f s.dram }

/-- The unit of a DRAM address is marked clean. -/
def State.unitClean (s : State) (a : Nat) : Bool :=
  let u := s.dramUnit a
  decide (s.dram.fill ≤ u) && !(s.dram.dirty.contains u)

/-- Put an address into an ascending list. -/
def putAsc (u : Nat) : List Nat → List Nat
  | [] => [u]
  | e :: r => if u < e then u :: e :: r else if u = e then e :: r else e :: putAsc u r

/-- A corrected error of channel c. -/
def State.dramCe (s : State) (c : Fin 2) : State :=
  let s := s.inc (Obj.DRM_CHc_CE c)
  let s := { s with power := { s.power with ceSum := vmod s.power.ceSum c (· + 1) } }
  let raised := s.dram.ceRaised[c]
  let s := s.modDram (fun d => { d with ceRun := vmod d.ceRun c (· + 1), ceRaised := vmod d.ceRaised c (fun _ => true) })
  if raised then s else s.raise 0x140 c (s.o (Obj.DRM_CHc_CE_SF c))

/-- An uncorrectable error of channel c in the block of address a. -/
def State.dramUe (s : State) (c : Fin 2) (a : Nat) : State :=
  let b := a / 64 * 64
  let s := (s.inc (Obj.DRM_CHc_UE c)).setO (Obj.DRM_CHc_LAST_ERR c) b
  let s := s.modDram (fun d => { d with bad := putAsc b d.bad })
  s.raise 0x141 c b

/-- A read of the block of address a meets an error (0 none, 1 one bit, 2 two bits); answers whether the data is lost. -/
def State.dramCheck (s : State) (c : Fin 2) (a err : Nat) : Bool × State :=
  if s.dram.bad.contains (a / 64 * 64) || err = 2 then (true, s.dramUe c a)
  else if err = 1 then (false, s.dramCe c)
  else (false, s)

/-- The channel of a DRAM address. -/
def State.dramChan (s : State) (a : Nat) : Fin 2 := asFin 2 (s.dramAt a).ch

/-- The first uncorrectable block of n bytes from a. -/
def State.badBlock (s : State) (a n : Nat) : Option Nat :=
  s.dram.bad.find? (fun b => decide (b < a + n) && decide (a < b + 64))

/-- A read of n bytes from a ends at its first uncorrectable block, which is reported (R435). -/
def State.dramLook (s : State) (a n : Nat) : State :=
  match s.badBlock a n with
  | some b => s.dramUe (s.dramChan b) b
  | none => s

/-- Whole blocks that a write replaces lose their errors. -/
def State.dramHeal (s : State) (a n : Nat) : State :=
  s.modDram (fun d => { d with bad := d.bad.filter (fun b => !(decide (a ≤ b) && decide (b + 64 ≤ a + n))) })

/-- The read of the read-modify-write of the block of address a; a clean unit has nothing to read. -/
def State.dramPart (s : State) (a : Nat) : State :=
  if inDram a && !(s.unitClean a) then (s.dramCheck (s.dramChan a) a 0).2 else s

/-- The blocks that a write of n bytes from a covers in part are read first (R434). -/
def State.dramEdges (s : State) (a n : Nat) : State :=
  if n = 0 || !(inDram a) then s
  else
    let e := a + n
    let s := if a % 64 = 0 then s else s.dramPart a
    if e % 64 = 0 || (a % 64 ≠ 0 && e / 64 = a / 64) then s else s.dramPart (e - 1)

/-- n bytes from a can be read by the hardware: memory, its clock and power, and no error (R412, R435, R452). -/
def State.hwHas (s : State) (a n : Nat) : Bool := s.powered a && s.powered (a + n - 1) && !(s.badIn a n)

/-- The hardware writes bytes to DRAM; a write without clock, power or memory is dropped (R412, R434, R452). -/
def State.hwWrite (s : State) (a : Nat) (b : Bytes) : State :=
  if s.powered a && s.powered (a + b.length - 1) then ((s.dramEdges a b.length).wbs a b).dramHeal a b.length else s

end Sys2Proof.Machine
end

