-- ==== Sys2Proof/Machine/Array.lean ====
section
/-!
DEFINITION. The flash array as it is read (16_flash.md R460-R463, R478, R488): areas, banks, physical sectors, lines and the
early warnings.
-/
namespace Sys2Proof.Machine

/-- Change the flash controller's own state. -/
def State.modFlash (s : State) (f : FlashSt → FlashSt) : State := { s with flash := f s.flash }

/-- Change bank b. -/
def State.modBank (s : State) (b : Fin 5) (f : BankSt → BankSt) : State :=
  s.modFlash (fun x => { x with banks := vmod x.banks b f })

/-- n bytes from a lie in the flash windows. -/
def inFlash (a n : Nat) : Bool := decide (0x08000000 ≤ a) && decide (a + n ≤ 0x08F10000)

/-- Area of a window address: 0 main, 1 parameter (R460). -/
def areaOf (a : Nat) : Nat := if a < 0x08F00000 then 0 else 1

/-- Logical sector of a window address. -/
def sectorOf (a : Nat) : Nat := if a < 0x08F00000 then (a - 0x08000000) / 0x10000 else (a - 0x08F00000) / 0x1000

/-- A logical sector exists. -/
def sectorOk (area l : Nat) : Bool := (area == 0 && decide (l < 240)) || (area == 1 && decide (l < 16))

/-- Bytes of a sector of an area. -/
def sectorLen (area : Nat) : Nat := if area = 0 then 0x10000 else 0x1000

/-- Window address of a logical sector. -/
def sectorBase (area l : Nat) : Nat := if area = 0 then 0x08000000 + 0x10000 * l else 0x08F00000 + 0x1000 * l

/-- Bank of a logical sector (R461). -/
def bankOf (area l : Nat) : Fin 5 := if area = 0 then asFin 5 (l / 60 % 4) else 4

/-- Place of a logical sector in its bank. -/
def placeOf (area l : Nat) : Nat := if area = 0 then l % 60 else l

/-- Word-mode sectors (R462). -/
def wordMode (area l : Nat) : Bool := area == 1 && decide (12 ≤ l)

/-- Physical sector in use of a logical sector. -/
def State.physOf (s : State) (area l : Nat) : Nat := nth s.flash.banks[bankOf area l].used (placeOf area l) 0

/-- Erase count of a physical sector. -/
def BankSt.wearOf (b : BankSt) (p : Nat) : Nat := ((b.wear.find? (fun e => e.1 == p)).map (·.2)).getD 0

/-- Raise FLASH_WARN for a logical sector, at most once per physical sector and epoch (R478). -/
def State.flashWarn (s : State) (area l : Nat) : State :=
  let b := bankOf area l
  let p := s.physOf area l
  let ep := s.now / epochT
  if s.flash.banks[b].warnAt.contains (p, ep) then s
  else (s.modBank b (fun x => { x with warnAt := (p, ep) :: x.warnAt.filter (fun e => e.1 != p) })).raise 0x149 area l

/-- The unit of a read that holds address a: a word of a word-mode sector, else a line (R462, R463). -/
def readUnit (a : Nat) : Nat := if wordMode (areaOf a) (sectorOf a) then a / 4 * 4 else a / 16 * 16

/-- The wrong bits that the last read of a unit met, and that a read without a count of its own meets again (log 225). -/
def State.metAt (s : State) (u : Nat) : Nat := ((s.flash.met.find? (fun e => e.1 == u)).map (·.2)).getD 0

/-- Put an entry into a list of ascending addresses. -/
def putMet (u n : Nat) : List (Nat × Nat) → List (Nat × Nat)
  | [] => [(u, n)]
  | e :: r => if u < e.1 then (u, n) :: e :: r else e :: putMet u n r

/-- Note the wrong bits that a read of a unit meets. -/
def FlashSt.note (x : FlashSt) (u cb : Nat) : FlashSt :=
  let m := x.met.filter (fun e => e.1 != u)
  { x with met := if cb = 0 then m else putMet u cb m }

/-- A read meets the unit of address a with cb wrong bits: a line with three or more is uncorrectable from then on, a word is
always its bitwise majority (R462, R463). -/
def State.meetUnit (s : State) (a cb : Nat) : State :=
  let u := readUnit a
  if s.flash.ue.contains u then s
  else if 3 ≤ cb && !(wordMode (areaOf u) (sectorOf u)) then s.modFlash (fun x => { x.note u 0 with ue := putAsc u x.ue })
  else s.modFlash (fun x => x.note u cb)

/-- A read of unit u as it stands noted (R463, R478); answers whether it is lost. -/
def State.readNoted (s : State) (u : Nat) : Bool × State :=
  let area := areaOf u
  let l := sectorOf u
  let cb := s.metAt u
  if s.flash.ue.contains u then (true, ((s.inc Obj.FLS_UE).setO Obj.FLS_LAST_UE u).raise 0x148 0 u)
  else
    let s := s.addO 32 Obj.FLS_CB_TOTAL cb
    if cb ≠ 0 && s.o Obj.FLS_CB_WARN ≤ cb then
      let b := bankOf area l
      let p := s.physOf area l
      let s := if s.flash.banks[b].warnCb.contains p then s
        else (s.modBank b (fun x => { x with warnCb := p :: x.warnCb })).inc Obj.FLS_WARN_COUNT
      (false, s.flashWarn area l)
    else (false, s)

/-- A line or word read with cb wrong bits; answers whether it is lost. -/
def State.flashRead (s : State) (a cb : Nat) : Bool × State := (s.meetUnit a cb).readNoted (readUnit a)

/-- A read of the bytes from a to e, unit by unit, that stops at the first lost line: that line, and the state after it. Units
of which nothing is noted read without an error. -/
def State.readOver (s : State) (a e : Nat) : Option Nat × State :=
  let lost := s.flash.ue.find? (fun u => decide (readUnit a ≤ u) && decide (u < e))
  let stop := lost.getD e
  let s := (s.flash.met.filter (fun m => decide (readUnit a ≤ m.1) && decide (m.1 < stop))).foldl
    (fun (s : State) m => (s.readNoted m.1).2) s
  match lost with
  | some u => (some u, (s.readNoted u).2)
  | none => (none, s)

/-- Nothing is noted of the units of the bytes from a to e: a read of them changes nothing. -/
def State.cleanUnits (s : State) (a e : Nat) : Bool :=
  s.flash.ue.all (fun u => decide (u < readUnit a) || decide (e ≤ u)) &&
  s.flash.met.all (fun m => decide (m.1 < readUnit a) || decide (e ≤ m.1))

/-- What is noted of the units from a up to e goes: they have been programmed or erased anew. -/
def State.unitsNew (s : State) (a e : Nat) : State :=
  s.modFlash (fun x => {
    x with
    ue := x.ue.filter (fun u => !(decide (a ≤ u) && decide (u < e)))
    met := x.met.filter (fun m => !(decide (a ≤ m.1) && decide (m.1 < e))) })

/-- The flash objects that show the state of the banks (R487, R488). -/
def State.flashShow (s : State) : State :=
  let busy := (fin5.map (fun (b : Fin 5) => if s.flash.banks[b].erasing ||
    s.flash.jobs.any (fun j => j.running && bankOf j.area j.sector == b) then 2 ^ b.val else 0))
  let s := fin5.foldl (fun (s : State) (b : Fin 5) =>
    let x := s.flash.banks[b]
    ((s.setO (Obj.FLS_BKb_CLEAN b) x.clean.length).setO (Obj.FLS_BKb_DIRTY b) x.dirty.length).setO
      (Obj.FLS_BKb_RETIRED b) x.retired.length) s
  s.setO Obj.FLS_BUSY (sumL busy)

/-- A physical erase of sector p of bank b (R488). -/
def State.wearOne (s : State) (b : Fin 5) (p : Nat) : State :=
  let n := s.flash.banks[b].wearOf p + 1
  let s := s.modBank b (fun x => {
    x with
    wear := (p, n) :: x.wear.filter (fun e => e.1 != p), warnCb := x.warnCb.filter (fun e => e != p)
    warnPulse := x.warnPulse.filter (fun e => e != p) })
  (s.inc (Obj.FLS_BKb_ERASES b)).setO (Obj.FLS_BKb_MAXWEAR b) (max n (s.o (Obj.FLS_BKb_MAXWEAR b)))

/-- The window bytes of a logical sector are blank. -/
def State.blankSector (s : State) (area l : Nat) : State :=
  let a := sectorBase area l
  let e := a + sectorLen area
  { s with mem := s.mem.filter (fun c => !(decide (a ≤ c.1) && decide (c.1 < e))) }.unitsNew a e

end Sys2Proof.Machine
end

