-- ==== Sys2Proof/Machine/Jobs.lean ====
section
/-!
DEFINITION. The job engine, the tick snapshot and the CRC units (13_jobs_ledger.md R374-R394).
-/
namespace Sys2Proof.Machine

/-! ## CRC units (R392-R394) -/

/-- Fields of JOB_CRCu_CFG (R393). -/
def crcPoly (cfg : Nat) : Nat := if bitOf cfg 0 then 0x1EDC6F41 else 0x04C11DB7

/-- The bit-reversed polynomial. -/
def crcPolyR (cfg : Nat) : Nat := if bitOf cfg 0 then 0x82F63B78 else 0xEDB88320

/-- One bit of the division, without and with reflection. -/
def crcBit (cfg r : Nat) : Nat :=
  if bitOf cfg 1 then
    (if bitOf r 31 then (r * 2 % 2 ^ 32) ^^^ crcPoly cfg else r * 2 % 2 ^ 32)
  else if bitOf r 0 then (r / 2) ^^^ crcPolyR cfg else r / 2

/-- n bits. -/
def crcBits (cfg : Nat) : Nat → Nat → Nat
  | 0, r => r
  | n + 1, r => crcBits cfg n (crcBit cfg r)

/-- One byte. -/
def crcByte (cfg r : Nat) (b : Byte) : Nat :=
  crcBits cfg 8 (if bitOf cfg 1 then r ^^^ (b.toNat * 2 ^ 24) else r ^^^ b.toNat)

/-- RESULT of a register (R393 XOROUT). -/
def crcResult (cfg r : Nat) : Nat := if bitOf cfg 2 then r ^^^ 0xFFFFFFFF else r

/-- The CRC-32 of R132. -/
def crc32 (b : Bytes) : Nat := crcResult 4 (b.foldl (crcByte 4) 0xFFFFFFFF)

/-- Change CRC unit u. -/
def State.modCrc (s : State) (u : Fin 2) (f : CrcSt → CrcSt) : State :=
  s.modJobs (fun j => { j with crcs := vmod j.crcs u f })

/-- Set flag bit b of unit u. -/
def State.crcFlag (s : State) (u : Fin 2) (b : Nat) (x : Bool) : State :=
  let k := Obj.JOB_CRCu_FLAGS u
  s.setO k (setBit (s.o k) b x)

/-- RESULT shows the register through XOROUT (R393, R397). -/
def State.crcShow (s : State) (u : Fin 2) : State :=
  s.setO (Obj.JOB_CRCu_RESULT u) (crcResult (s.o (Obj.JOB_CRCu_CFG u)) s.jobs.crcs[u].reg)

/-- Set the register and RESULT. -/
def State.crcSet (s : State) (u : Fin 2) (r : Nat) : State := (s.modCrc u (fun c => { c with reg := r })).crcShow u

/-- A job owns unit u and feeds it, or no longer does: OWNED and BUSY (R394, R397). -/
def State.crcOwn (s : State) (u : Fin 2) (t : Option Nat) : State :=
  ((s.modCrc u (fun c => { c with owner := t })).crcFlag u 3 t.isSome).crcFlag u 4 t.isSome

/-- Set MATCH or MISMATCH (R393). -/
def State.crcJudge (s : State) (u : Fin 2) (expect : Nat) : State :=
  let v := s.o (Obj.JOB_CRCu_RESULT u)
  if v = expect then s.crcFlag u 0 true
  else ((s.crcFlag u 1 true).inc (Obj.JOB_CRCu_MISMATCHES u)).raise 0x130 u v

/-- Compare with EXPECT when COMPARE is set and COUNT has reached LEN. -/
def State.crcCompare (s : State) (u : Fin 2) : State :=
  if bitOf (s.o (Obj.JOB_CRCu_CFG u)) 4 && s.o (Obj.JOB_CRCu_COUNT u) = s.o (Obj.JOB_CRCu_LEN u) then
    s.crcJudge u (s.o (Obj.JOB_CRCu_EXPECT u))
  else s

/-- START (R393). -/
def State.crcStart (s : State) (u : Fin 2) : State :=
  let s := (s.crcSet u (s.o (Obj.JOB_CRCu_INIT u))).setO (Obj.JOB_CRCu_COUNT u) 0
  (((s.crcFlag u 0 false).crcFlag u 1 false).crcFlag u 2 false).crcCompare u

/-- Absorb one byte (R392, R393). -/
def State.crcFeed1 (s : State) (u : Fin 2) (b : Byte) : State :=
  let cfg := s.o (Obj.JOB_CRCu_CFG u)
  let n := s.o (Obj.JOB_CRCu_COUNT u)
  if bitOf cfg 4 && s.o (Obj.JOB_CRCu_LEN u) ≤ n then s.crcFlag u 2 true
  else
    let s := s.crcSet u (crcByte cfg s.jobs.crcs[u].reg b)
    (s.setO (Obj.JOB_CRCu_COUNT u) (min 0xFFFFFFFF (n + 1))).crcCompare u

/-- Absorb bytes, lowest address first. -/
def State.crcFeed (s : State) (u : Fin 2) (l : Bytes) : State := l.foldl (fun s b => s.crcFeed1 u b) s

/-- Absorb bytes without COMPARE, EXPECT and LEN (R394 STRIP). -/
def State.crcFeedPlain (s : State) (u : Fin 2) (l : Bytes) : State :=
  l.foldl (fun s b =>
    let s := s.crcSet u (crcByte (s.o (Obj.JOB_CRCu_CFG u)) s.jobs.crcs[u].reg b)
    s.setO (Obj.JOB_CRCu_COUNT u) (min 0xFFFFFFFF (s.o (Obj.JOB_CRCu_COUNT u) + 1))) s

/-- CRC_DATA_FEED (R392): a core's store of 1, 2 or 4 bytes; dropped while a job owns the unit (R394). -/
def State.crcData (s : State) (who : Fin 8) (u : Fin 2) (width v : Nat) : State :=
  if s.jobs.crcs[u].owner.isSome then s.dropped (windowAddr (Obj.JOB_CRCu_DATA u)) v who 4
  else s.crcFeed u (leBytes width v)

/-- CRC_DATA_FEED (R392). -/
def execCrcDataFeed (who : Fin 8) (u : Fin 2) (width : Nat) (v : Nat) (s : State) : Out :=
  .next (s.crcData who u (if width = 1 || width = 2 then width else 4) v)

/-- A write of JOB_CRCu_CMD 1 (R393); refused while a job owns the unit (R394). -/
def State.crcCmd (s : State) (u : Fin 2) : Option State :=
  if s.jobs.crcs[u].owner.isSome then none else some (s.crcStart u)

/-- CRC_START (R393). -/
def execCrcStart (who : Fin 8) (u : Fin 2) (s : State) : Out :=
  .next ((s.crcCmd u).getD (s.dropped (windowAddr (Obj.JOB_CRCu_CMD u)) 1 who 4))

/-- Writing 1 clears bits 0-2 of FLAGS (R397). -/
def State.crcClear (s : State) (u : Fin 2) (v : Nat) : State :=
  let f := fun (s : State) b => if bitOf v b then s.crcFlag u b false else s
  f (f (f s 0) 1) 2

/-- CRC_FLAGS_CLEAR (R397). -/
def execCrcFlagsClear (u : Fin 2) (v : Nat) (s : State) : Out := .next (s.crcClear u v)

/-! ## Submission (R375-R379) -/

/-- KIND of a descriptor. -/
def dKind (d : Bytes) : Nat := fieldN d 0 1
/-- SRC of a descriptor. -/
def dSrc (d : Bytes) : Nat := fieldN d 16 4
/-- DST of a descriptor. -/
def dDst (d : Bytes) : Nat := fieldN d 20 4
/-- LEN of a descriptor. -/
def dLen (d : Bytes) : Nat := fieldN d 24 4
/-- START_BY of a descriptor. -/
def dStartBy (d : Bytes) : Nat := fieldN d 8 8

/-- Bytes lo to hi - 1 of a descriptor are 0. -/
def zeros (d : Bytes) (lo hi : Nat) : Bool := (sliceB d lo (hi - lo)).all (fun b => b == 0)

/-- The ARG check of R377: codes, reserved fields, ranges and length rules of R376. -/
def argOk (d : Bytes) : Bool :=
  let len := dLen d
  let cmode := fieldN d 30 1
  let width := fieldN d 29 1
  zeros d 2 4 && decide (fieldN d 1 1 < 2) && ttValid (dStartBy d) &&
  (match dKind d with
   | 1 => zeros d 28 64
   | 2 => zeros d 32 64
   | 3 => decide (fieldN d 29 1 ≤ 5) && zeros d 30 32 && zeros d 48 64 && (3 < fieldN d 29 1 || decide (len % 16 = 0))
   | 4 => zeros d 28 64
   | 5 => decide (fieldN d 28 1 ≤ 1) && (width == 1 || width == 2 || width == 4) && decide (cmode ≤ 2) && zeros d 31 64 &&
          decide (len % width = 0) && (cmode != 2 || len == 0 || decide (4 ≤ len))
   | 7 => decide (fieldN d 28 1 ≤ 15) && decide (fieldN d 29 1 ≤ 7) && zeros d 30 64
   | 8 => decide (fieldN d 28 1 ≤ 15) && decide (fieldN d 30 2 < 4096) && zeros d 40 64 && ttValid (fieldN d 32 8)
   | _ => false)

/-- Bytes a job writes from DST. -/
def dstLen (d : Bytes) : Nat :=
  let len := dLen d
  match dKind d with
  | 1 | 2 => len
  | 3 => if fieldN d 29 1 = 5 then 16 else len
  | 4 => 32
  | 5 => if fieldN d 30 1 = 1 then len + 4 else if fieldN d 30 1 = 2 then len - 4 else 0
  | _ => 0

/-- A job that reads from SRC. -/
def readsSrc (d : Bytes) : Bool := dKind d != 2

/-- Two ranges share a byte. -/
def overlap (a n b m : Nat) : Bool := decide (0 < n) && decide (0 < m) && decide (a < b + m) && decide (b < a + n)

/-- The regions that only hardware writes (R377). -/
def hwOnly : List (Nat × Nat) :=
  [(0x200F0000, 0x10000), (0x200E0000, 512), (0x200E1000, 0x800), (0x20140000, 0x80000), (0x201C0000, 0x40000)] ++
  (List.range 4).flatMap (fun n => [(0x24061000 + 0x80000 * n, 544 * 32), (0x24078000 + 0x80000 * n, 0x4000),
    (0x24060000 + 0x80000 * n, 2048)])

/-- The ADDRESS check of R377; a job of LEN 0 touches no memory (R379). -/
def addressOk (d : Bytes) : Bool :=
  let len := dLen d
  let dst := dDst d
  let n := dstLen d
  len == 0 ||
  ((!(readsSrc d) || inRegion (dSrc d) len) &&
   (n == 0 || (writableMem dst && inRegion dst n)) &&
   !(dKind d == 1 && overlap (dSrc d) len dst len) &&
   !(hwOnly.any (fun r => overlap dst n r.1 r.2)))

/-- A descriptor address that the engine can use (R375). -/
def State.descUsable (s : State) (a : Nat) : Bool :=
  decide (a % 4 = 0) && writableMem a && inRegion a 64 && s.powered a && s.powered (a + 63)

/-- Set the ticket a core reads (R375). -/
def State.setTicket (s : State) (c : Fin 8) (t : Nat) : State := s.modCore c (fun x => { x with ticket := t })

/-- Final state of a core job: its record, its CRC unit, JOB_END to the submitter (R383). -/
def State.jobOver (s : State) (c : Fin 8) (t : Nat) (d : Bytes) (st cause done flags : Nat) : State :=
  let s := s.recordEnd (ledAddr t) st cause done flags
  let s := s.modJobs (fun j => { j with queue := j.queue.filter (fun x => x.ticket != t) })
  let s := s.setO Obj.JOB_RUNNING ((s.jobs.queue.filter (fun x => x.running && decide (dKind x.desc < 7))).length)
  let s := fin2.foldl (fun (s : State) u =>
    if s.jobs.crcs[u].owner = some t then s.crcOwn u none else s) s
  if bitOf (fieldN d 1 1) 0 then s.toCore c ⟨3, 0, t⟩ else s

/-- The work that a descriptor selects (R382 SEL). -/
def selOf (d : Bytes) : Nat := if dKind d = 8 then 1 else if dKind d = 7 then 0 else dLen d

/-- A range of a job reaches DRAM that a fence has left without memory (R452); fields that its KIND ignores are no range. -/
def State.beyondDram (s : State) (d : Bytes) : Bool :=
  (readsSrc d && s.noDram (dSrc d + dLen d - 1)) || (0 < dstLen d && s.noDram (dDst d + dstLen d - 1))

/-- Check a submission whose record has ticket t (R377, R379): it ends at once, or waits in the queue. -/
def State.checkJob (s : State) (c : Fin 8) (d : Bytes) (t : Nat) : Option Nat × State :=
  if !(argOk d) then (none, s.jobOver c t d 5 0x18 0 0)
  else if !(addressOk d) || (0 < dLen d && s.beyondDram d)
    then (none, s.jobOver c t d 5 0x17 0 0)
  else if dKind d = 3 && !(s.permits (fieldN d 28 1) 5) then (none, s.jobOver c t d 5 0x0B 0 0)
  else if dLen d = 0 && decide (dKind d ≤ 5) then (none, s.jobOver c t d 3 0 0 0)
  else (some t, s.modJobs (fun j => { j with queue := j.queue ++ [{ ticket := t, core := c, desc := d }] }))

/-- The descriptor at an address, as the engine sees it: bytes of a running core's stack are not defined (R375, R401). -/
def State.descAt (s : State) (a : Nat) : Bytes := s.seenBytes 8 a 64

/-- Give a usable submission its record and check it (R377, R379); the ticket when it stays QUEUED. -/
def State.acceptJob (s : State) (c : Fin 8) (a : Nat) : Option Nat × State :=
  let d := s.descAt a
  let s := s.sawBytes 8 a 64
  let r := s.newRecord 1 (dKind d) c (selOf d) 0 (fieldN d 4 4)
  let s := r.2.setTicket c (r.1.getD 0)
  r.1.elim (none, s) (fun t => s.checkJob c d t)

/-- A write of JOB_SUBMIT by core c (R375). -/
def State.jobSubmit (s : State) (c : Fin 8) (a : Nat) : Option Nat × State :=
  if s.descUsable a then s.acceptJob c a
  else
    let cause := if decide (a % 4 = 0) && writableMem a && inRegion a 64 && !(s.noDram (a + 63)) then 1 else 3
    (none, (s.setTicket c 0).dropped (windowAddr Obj.JOB_SUBMIT) a c cause)

/-- A submission that the row of one KIND stands for: another KIND at a usable address is another row's. -/
def State.submitKind (s : State) (c : Fin 8) (a kind : Nat) : State :=
  if s.descUsable a && dKind (s.descAt a) != kind then s else (s.jobSubmit c a).2

/-- JOB_COPY (R374). -/
def execJobCopy (who : Fin 8) (a : Nat) (s : State) : Out := .next (s.submitKind who a 1)
/-- JOB_FILL (R376). -/
def execJobFill (who : Fin 8) (a : Nat) (s : State) : Out := .next (s.submitKind who a 2)
/-- JOB_CIPHER (R376). -/
def execJobCipher (who : Fin 8) (a : Nat) (s : State) : Out := .next (s.submitKind who a 3)
/-- JOB_HASH (R374). -/
def execJobHash (who : Fin 8) (a : Nat) (s : State) : Out := .next (s.submitKind who a 4)

/-- A CRC submission of one CMODE. -/
def State.submitCrc (s : State) (c : Fin 8) (a cmode : Nat) : State :=
  if s.descUsable a && (dKind (s.descAt a) != 5 || fieldN (s.descAt a) 30 1 != cmode) then s else (s.jobSubmit c a).2

/-- JOB_CRC_FEED (R394). -/
def execJobCrcFeed (who : Fin 8) (a : Nat) (s : State) : Out := .next (s.submitCrc who a 0)
/-- JOB_CRC_APPEND (R394). -/
def execJobCrcAppend (who : Fin 8) (a : Nat) (s : State) : Out := .next (s.submitCrc who a 1)
/-- JOB_CRC_STRIP (R394). -/
def execJobCrcStrip (who : Fin 8) (a : Nat) (s : State) : Out := .next (s.submitCrc who a 2)

/-! ## Start and end (R378, R382, R385) -/

/-- A CRC job waits while another job owns its unit (R394). -/
def State.unitFree (s : State) (d : Bytes) : Bool :=
  dKind d != 5 || s.jobs.crcs[asFin 2 (fieldN d 28 1)].owner.isNone

/-- The oldest queued data job of core c when no job of c runs. -/
def State.nextOf (s : State) (c : Fin 8) : Option JobSt :=
  let mine := s.jobs.queue.filter (fun x => x.core == c)
  match mine with
  | [] => none
  | x :: _ => if x.running || decide (7 ≤ dKind x.desc) || !(s.unitFree x.desc) then none else some x

/-- The job that a free channel takes: cores in ascending order from the one last served (R378). -/
def State.nextJob (s : State) : Option JobSt :=
  ((List.range 8).map (fun i => asFin 8 (s.jobs.lastCore + 1 + i))).findSome? (fun c => s.nextOf c)

/-- Core jobs on a channel. -/
def State.runningJobs (s : State) : Nat := (s.jobs.queue.filter (fun x => x.running && decide (dKind x.desc < 7))).length

/-- A job is still QUEUED at its START_BY (R15, R378). -/
def State.jobLate (s : State) (x : JobSt) : Bool := dStartBy x.desc != 0 && decide (linear (dStartBy x.desc) ≤ s.now)

/-- It ends with cause DEADLINE, and one JOB miss counts (R378). -/
def State.jobMissed (s : State) (x : JobSt) : State :=
  (s.miss 12 7 (linear (dStartBy x.desc))).jobOver x.core x.ticket x.desc 5 0x10 0 0

/-- A free channel takes the next queued job (R378), in no state below REST (R385); one whose START_BY is past is not done at all (R15). -/
def State.jobStart (s : State) : State :=
  if s.runningJobs < 4 && decide (s.pwr ≤ 2) then
    match s.nextJob with
    | none => s
    | some x =>
      if s.jobLate x then s.jobMissed x else
      let s := s.recordState (ledAddr x.ticket) 2
      let s := s.modJobs (fun j => { j with
        lastCore := x.core
        queue := j.queue.map (fun y => if y.ticket = x.ticket then { y with running := true } else y) })
      let s := s.setO Obj.JOB_RUNNING s.runningJobs
      if dKind x.desc = 5 then
        let u := asFin 2 (fieldN x.desc 28 1)
        s.crcOwn u (some x.ticket)
      else s
  else s

/-- xor of two byte strings. -/
def xorBytes (a b : Bytes) : Bytes := List.zipWith (fun x y => x ^^^ y) a b

/-- The counter block after b: its last 32 bits plus 1 (R376, in the byte order of R7). -/
def nextCtr (b : Bytes) : Bytes := sliceB b 0 12 ++ leBytes 4 (fieldN b 12 4 + 1)

/-- Bulk AES over n blocks (R376): MODE 0 to 4. -/
def cipherBlocks (key : Bytes) (mode : Nat) : Nat → Bytes → Bytes → Bytes
  | 0, _, _ => []
  | n + 1, iv, p =>
    let b := p.take 16
    let rest := p.drop 16
    match mode with
    | 0 => Config.aesBlock key b ++ cipherBlocks key mode n iv rest
    | 1 => Config.aesUnblock key b ++ cipherBlocks key mode n iv rest
    | 2 => let c := Config.aesBlock key (xorBytes b iv); c ++ cipherBlocks key mode n c rest
    | 3 => xorBytes (Config.aesUnblock key b) iv ++ cipherBlocks key mode n b rest
    | _ => xorBytes (Config.aesBlock key iv) b ++ cipherBlocks key mode n (nextCtr iv) rest

/-- Pattern bytes of a fill. -/
def fillBytes (pat : Bytes) (n : Nat) : Bytes := (List.range n).map (fun i => nth pat (i % 4) 0)

/-- The unit of R382 in bytes. -/
def unitOf (d : Bytes) : Nat :=
  match dKind d with
  | 3 => 16
  | 5 => fieldN d 29 1
  | _ => 64

/-- The source bytes of a job: those it saw while their block had clock and power. -/
def State.jobSrc (s : State) (x : JobSt) : Bytes :=
  x.seen.getD (if readsSrc x.desc then s.seenBytes 8 (dSrc x.desc) (dLen x.desc) else [])

/-- The work of a data job over its first n bytes, from source bytes `b`; `whole` when that is all of it (R376, R382, R394). -/
def State.jobWork1 (s : State) (d b : Bytes) (n : Nat) (whole : Bool) : State :=
  let dst := dDst d
  match dKind d with
  | 1 => s.putBytes 8 dst (b.take n)
  | 2 => s.putBytes 8 dst (fillBytes (sliceB d 28 4) n)
  | 3 =>
    let key := s.keyOf (fieldN d 28 1)
    let mode := fieldN d 29 1
    if mode = 5 then (if whole then s.putBytes 8 dst (sliceB (Config.cmac key (b.take n)) 0 16) else s)
    else s.putBytes 8 dst ((cipherBlocks key mode (ceilDiv n 16) (sliceB d 32 16) (b.take n)).take n)
  | 4 => if whole then s.putBytes 8 dst (sliceB (Config.sha256 (b.take n)) 0 32) else s
  | 5 =>
    let u := asFin 2 (fieldN d 28 1)
    let be := bitOf (s.o (Obj.JOB_CRCu_CFG u)) 3
    match fieldN d 30 1 with
    | 0 => s.crcFeed u (b.take n)
    | 1 =>
      let s := ((s.crcStart u).crcFeed u (b.take n)).putBytes 8 dst (b.take n)
      let r := leBytes 4 (s.o (Obj.JOB_CRCu_RESULT u))
      if whole then s.putBytes 8 (dst + dLen d) (if be then r.reverse else r) else s
    | _ =>
      let m := min n (dLen d - 4)
      let s := (s.crcSet u (s.o (Obj.JOB_CRCu_INIT u))).setO (Obj.JOB_CRCu_COUNT u) 0
      let s := (((s.crcFlag u 0 false).crcFlag u 1 false).crcFlag u 2 false).crcFeedPlain u (b.take m)
      let s := s.putBytes 8 dst (b.take m)
      let tail := sliceB b (dLen d - 4) 4
      if whole then s.crcJudge u (leNat (if be then tail.reverse else tail)) else s
  | _ => s

/-- A byte that two running jobs wrote keeps the value of one of them, which one is free (R378, log 223): `old` is before this job's
writes. -/
def State.clashByte (s old : State) (a : Nat) : State :=
  let t := { s with draws := s.draws + 1 }
  if Config.freeNat s.draws % 2 = 0 then t else t.wb a (old.rb a)

/-- The bytes from a on that the ranges l hold too. -/
def State.clashBytes (s old : State) (l : List (Nat × Nat)) (a n : Nat) : State :=
  ((List.range n).filter (fun i => l.any (fun r => decide (r.1 ≤ a + i) && decide (a + i < r.1 + r.2)))).foldl
    (fun (s : State) i => s.clashByte old (a + i)) s

/-- The work of a job, with the free values it drew from other cores' stacks used up (R401), and the bytes that jobs beside it wrote
(R378). -/
def State.jobWork (s : State) (x : JobSt) (n : Nat) (whole : Bool) : State :=
  let d := x.desc
  let t := (s.jobWork1 d (s.jobSrc x) n whole).sawBytes 8 (dSrc d) (if readsSrc d && x.seen.isNone then dLen d else 0)
  if x.clash.isEmpty then t else t.clashBytes s x.clash (dDst d) (if whole then dstLen d else min n (dstLen d))

/-- What a job has written clashes with what jobs that run on will write (R378). -/
def State.clashNote (s : State) (x : JobSt) (n : Nat) : State :=
  s.modJobs (fun j => { j with queue := j.queue.map (fun y =>
    if y.running && y.ticket != x.ticket && overlap (dDst x.desc) n (dDst y.desc) (dstLen y.desc)
    then { y with clash := (dDst x.desc, n) :: y.clash } else y) })

/-- Running jobs keep what they can still read of a source that is about to lose its clock, its power or its bytes (R382, R385). -/
def State.jobsKeepSrc (s : State) (lo n : Nat) : State :=
  s.modJobs (fun j => { j with queue := j.queue.map (fun x =>
    if x.running && x.seen.isNone && readsSrc x.desc && overlap (dSrc x.desc) (dLen x.desc) lo n
    then { x with seen := some (s.seenBytes 8 (dSrc x.desc) (dLen x.desc)) } else x) })

/-- A unit of the job writes bytes from DST on as it goes: not one of HASH, CMAC or FEED (R382). -/
def unitWrites (d : Bytes) : Bool := decide (0 < dstLen d) && dKind d != 4 && !(dKind d == 3 && fieldN d 29 1 == 5)

/-- The unit of a job that meets an uncorrectable DRAM block or flash line of its source first, with the cause (R435, R463). -/
def State.lostUnit (s : State) (d : Bytes) : Option (Nat × Nat) :=
  if !(readsSrc d) then none
  else
    match s.badBlock (dSrc d) (dLen d) with
    | some b => some (0x17, (b - dSrc d) / unitOf d)
    | none => (s.flash.ue.find? (fun u => decide (u < dSrc d + dLen d) && decide (dSrc d < u + 16))).map
        (fun u => (0x1C, (u - dSrc d) / unitOf d))

/-- A job has read n bytes of its source: what the reads meet is counted and reported. -/
def State.readSrc (s : State) (d : Bytes) (n : Nat) : State :=
  if readsSrc d && n ≠ 0 then ((s.readOver (dSrc d) (dSrc d + n)).2).dramLook (dSrc d) n else s

/-- The fault that ends a running job, with the address concerned (R385). -/
def State.jobFault (s : State) (d : Bytes) (done : Nat) : Option (Nat × Nat) :=
  if s.beyondDram d then some (0x17, 0)
  else if readsSrc d && !(s.powered (dSrc d)) then some (0x19, dSrc d + done)
  else if 0 < dstLen d && !(s.powered (dDst d)) then some (0x19, dDst d + done)
  else if dKind d = 3 && !(s.permits (fieldN d 28 1) 5) then some (0x0B, 0)
  else (s.lostUnit d).map (fun x => (x.1, 0))

/-- A job writes its first n bytes: blocks covered in part are read first, and whole ones lose their errors (R434, R435). -/
def State.jobWrites (s : State) (x : JobSt) (n : Nat) (whole : Bool) : State :=
  let m := if whole then dstLen x.desc else min n (dstLen x.desc)
  (((s.dramEdges (dDst x.desc) m).jobWork x n whole).dramHeal (dDst x.desc) m).clashNote x m

/-- A running data job ends: whole, or cut by a fault after `units` units, the next one begun or not (R378, R382, R385); the
flash lines read with the corrected bits of each (R463). In DOZE a running job pauses (R385). -/
def State.jobEnd (s : State) (t units : Nat) (begun : Bool) (lines : List (Nat × Nat)) : State :=
  match s.jobs.queue.find? (fun x => x.ticket == t && x.running && decide (dKind x.desc < 7) && decide (s.pwr ≤ 2)) with
  | none => s
  | some x =>
    let d := x.desc
    let len := dLen d
    let s := (lines.filter (fun p => decide (dSrc d ≤ p.1 + 15) && decide (p.1 < dSrc d + len))).foldl
      (fun (s : State) p => s.meetUnit p.1 p.2) s
    let lost := s.lostUnit d
    let begun := begun && lost.isNone
    let done := min len ((lost.map (·.2)).getD units * unitOf d)
    match s.jobFault d done with
    | none => ((s.readSrc d len).jobWrites x len true).jobOver x.core t d 3 0 len 0
    | some (cause, addr) =>
      let s := if x.seen.isSome then s else s.readSrc d (if lost.map (·.1) = some cause then len else done)
      let s := if dstLen d = 0 || s.powered (dDst d) then s.jobWrites x done (done = len) else s
      let part := begun && decide (done < len)
      let s := if part && unitWrites d && s.powered (dDst d)
        then s.scramble (dDst d + done) (min (unitOf d) (len - done)) else s
      let s := if cause = 0x19 then s.dropped addr (s.rn (dSrc d + done) 4) 8 1 else s
      s.jobOver x.core t d (outcomeOf len done) cause done (b2n part)

/-- JOB_END (R383). -/
def execJobEnd (t units : Nat) (begun : Bool) (lines : List (Nat × Nat)) (s : State) : Out :=
  .next (s.jobEnd t units begun lines)

/-- JOB_DEADLINE (R378): a job still QUEUED at a non-zero START_BY. -/
def execJobDeadline (t : Nat) (s : State) : Out :=
  match s.jobs.queue.find? (fun x => x.ticket == t && !x.running && decide (dStartBy x.desc ≠ 0)) with
  | none => .next s
  | some x =>
    .next ((s.upTo (linear (dStartBy x.desc))).jobMissed x)

/-- End one record left by a reset (R385). -/
def State.recoverRecord (s : State) (t : Nat) : State :=
  let a := ledAddr t
  let st := s.recState a
  if st = 1 || st = 2 then
    let done := s.rn (a + 12) 4
    let sel := s.rn (a + 8) 4
    let st' := if st = 1 then 5 else if done = 0 then 5 else outcomeOf sel done
    (s.recordEnd a st' 0x1A done (s.rn (a + 16) 1)).addO 16 Obj.JOB_RECOVERED 1
  else s

/-- JOB_RECOVERY (R385): at the first tick after a reset, every record, whatever firmware has consumed. -/
def execJobRecovery (s : State) : Out :=
  if s.jobs.recover then
    let s := s.modJobs (fun j => { j with recover := false })
    .next ((List.range 2048).foldl (fun s i => s.recoverRecord i) s)
  else .next s

/-- v lies between the old consumer index and the producer, counting modulo m (R211, R380). -/
def consOk (m cons prod v : Nat) : Bool := decide ((v + m - cons) % m ≤ (prod + m - cons) % m) && decide (v < m)

/-- A write of JOB_LED_CONS (R380). -/
def State.ledCons (s : State) (v : Nat) : Option State :=
  if consOk (2 ^ 32) (s.o Obj.JOB_LED_CONS) (s.o Obj.JOB_LED_PROD) v then some (s.setO Obj.JOB_LED_CONS v) else none

/-- JOB_LED_CONS_WRITE (R380). -/
def execJobLedConsWrite (who : Fin 8) (v : Nat) (s : State) : Out :=
  .next ((s.ledCons v).getD (s.dropped (windowAddr Obj.JOB_LED_CONS) v who 3))

/-- A write of JOB_POOLn_FREE_CMD (R389): none when it names no first cell of a HELD chain. -/
def State.poolRelease (s : State) (p : Fin 5) (c : Nat) : Option State :=
  if s.jobs.pools[p].held.any (fun l => l.head? == some c) then
    let s := s.modPool p (fun q => { q with held := dropChain q.held c, credit := q.credit.filter (fun x => x.1 != c) })
    some (if p = 4 then s.syncHeld else s)
  else none

/-- POOL_FREE (R389). -/
def execPoolFree (who : Fin 8) (p : Fin 5) (c : Nat) (s : State) : Out :=
  .next ((s.poolRelease p c).getD
    ((s.inc (Obj.JOB_POOLn_BADFREE p)).dropped (windowAddr (Obj.JOB_POOLn_FREE_CMD p)) c who 3))

/-! ## The tick snapshot (R391) -/

/-- The words of one bucket. -/
def State.snapBucket (s : State) (k : Nat) : Bytes :=
  leBytes 8 (s.o (Obj.AIR_BKTk_SUM k)) ++ leBytes 8 (s.o (Obj.AIR_BKTk_HELD k)) ++ leBytes 8 (s.o (Obj.AIR_BKTk_GRANTED k)) ++
  leBytes 8 (s.o (Obj.AIR_BKTk_SETTLED k)) ++ leBytes 8 (s.o (Obj.AIR_BKTk_CHARGED k))

/-- The snapshot of this instant (R391): seq is its SEQ. -/
def State.snapshot (s : State) (seq : Nat) : Bytes :=
  leBytes 8 (tt64 s.now) ++ leBytes 4 seq ++ leBytes 4 0 ++
  fin5.flatMap (fun (p : Fin 5) => leBytes 2 (s.poolFree p) ++ leBytes 2 (chainCells s.jobs.pools[p].transit) ++
    leBytes 2 (chainCells s.jobs.pools[p].held) ++ leBytes 2 (poolTotal p)) ++
  fin2.flatMap (fun (p : Fin 2) => leBytes 1 (s.o (Obj.FAB_Wp_CR_AVAIL p)) ++ leBytes 1 (s.o (Obj.FAB_Wp_CR_OUT p)) ++
    leBytes 1 (s.o (Obj.FAB_Wp_RX_HELD p)) ++ leBytes 1 (s.o (Obj.FAB_Wp_STATE p))) ++
  (List.range 16).flatMap (fun k => s.snapBucket k)

/-- Latch the snapshot in the tick cycle (R33, R391). -/
def State.snapLatch (s : State) : State :=
  let seq := (s.jobs.seq + 1) % 2 ^ 32
  let b := s.snapshot seq
  s.modJobs (fun j => { j with seq := seq, snap := some b })

/-- SNAPSHOT_PUBLISH (R391): the copy that JOB_SNAP_CUR does not name is written, then JOB_SNAP_CUR flips. -/
def execSnapshotPublish (s : State) : Out :=
  match s.jobs.snap with
  | none => .next s
  | some b =>
    let cur := 1 - s.o Obj.JOB_SNAP_CUR
    let s := s.wbs (0x200E1000 + 0x400 * cur) b
    let s := (s.setO Obj.JOB_SNAP_CUR cur).setO Obj.JOB_SNAP_SEQ (fieldN b 8 4)
    .next (s.modJobs (fun j => { j with snap := none }))

end Sys2Proof.Machine
end

