-- ==== Sys2Proof/Machine/Steps.lean ====
section
/-!
DEFINITION. The step jobs of the flooding and fabric engines and their queues of radio descriptors (09_flooding.md
R256-R261, 10_fabric.md R285), and the records of the slice ledgers (R386) that bound steps follow.
-/
namespace Sys2Proof.Machine

/-- Change the step jobs. -/
def State.modSteps (s : State) (f : StepsSt → StepsSt) : State := { s with steps := f s.steps }

/-- The queue of an engine on slice n: descriptor 0. -/
def State.queueAddr (s : State) (fabric : Bool) (n : Nat) : Nat :=
  if fabric then s.o (Obj.FAB_FQn_ADDR n) else s.o (Obj.FLD_RQn_ADDR n)

/-- Descriptor i (R257). -/
def State.descAddr (s : State) (fabric : Bool) (n i : Nat) : Nat := s.queueAddr fabric n + 32 * i

/-- Buffer i (R257). -/
def State.bufAddr (s : State) (fabric : Bool) (n i : Nat) : Nat := s.queueAddr fabric n + 512 + 992 * i

/-- The READY bit set of a queue. -/
def readyKey (fabric : Bool) (n : Nat) : Key := if fabric then Obj.FAB_FQn_READY n else Obj.FLD_RQn_READY n

/-- STATE of descriptor i: 0 FREE, 1 READY, 2 BOUND. -/
def State.descState (s : State) (fabric : Bool) (n i : Nat) : Nat := s.rn (s.descAddr fabric n i) 1

/-- Put descriptor i into a state. -/
def State.setDesc (s : State) (fabric : Bool) (n i st : Nat) : State :=
  let s := s.wn (s.descAddr fabric n i) 1 st
  s.setO (readyKey fabric n) (setBit (s.o (readyKey fabric n)) i (st == 1))

/-- The job of a ticket. -/
def State.stepJob (s : State) (t : Nat) : Option StepJob := s.steps.jobs.find? (fun j => j.ticket == t)

/-- Change the job of a ticket. -/
def State.modJob (s : State) (t : Nat) (f : StepJob → StepJob) : State :=
  s.modSteps (fun x => { x with jobs := x.jobs.map (fun j => if j.ticket = t then f j else j) })

/-- The cause of the first step, in step order, that ended otherwise than DONE (R261). -/
def StepJob.cause (j : StepJob) : Nat :=
  ((List.range 6).findSome? (fun k => (j.causes.find? (fun c => c.1 == k)).map (·.2))).getD 0

/-- Every step has ended: the record becomes final (R261). -/
def State.stepsOver (s : State) (j : StepJob) : State :=
  let s := s.modSteps (fun x => { x with jobs := x.jobs.filter (fun y => y.ticket != j.ticket) })
  let st := outcomeOf j.sel j.done
  let s := s.wn (ledAddr j.ticket + 8) 4 j.sel
  match j.owner with
  | some (c, d) => s.jobOver c j.ticket d st j.cause j.done 0
  | none => s.recordEnd (ledAddr j.ticket) st j.cause j.done 0

/-- A step of job t ends with a cause, 0 for DONE (R259, R261, R285). -/
def State.stepEnd (s : State) (t k cause : Nat) : State :=
  match s.stepJob t with
  | none => s
  | some j =>
    if bitOf j.past k || !(bitOf j.sel k) then s
    else
      let j := { j with
        past := setBit j.past k true
        done := if cause = 0 then setBit j.done k true else j.done
        causes := if cause = 0 then j.causes else j.causes ++ [(k, cause)] }
      let s := s.modJob t (fun _ => j)
      let s := if cause = 0 then s.inc (if j.fabric then Obj.FAB_FWD_SENT else Obj.FLD_RELAY_SENT)
        else if j.fabric then s.inc Obj.FAB_FWD_DROP else s
      if j.past = j.sel then s.stepsOver j else s.wn (ledAddr t + 12) 4 j.done

/-- The bound steps that follow record i of slice n's ledger end with the entry's outcome (R259). -/
def State.settleFollowers (s : State) (n : Fin 4) (i cause : Nat) : State :=
  (s.steps.binds.filter (fun b => b.slice == n && b.follows == some i)).foldl (fun (s : State) b =>
    let s := s.modSteps (fun x => { x with binds := x.binds.filter (fun y => !(y.slice == n && y.desc == b.desc && y.fabric == b.fabric)) })
    (s.setDesc b.fabric n b.desc 0).stepEnd b.ticket b.step cause) s

/-- A slice-ledger record becomes final (R178, R383, R531). -/
def State.sledEnd (s : State) (n : Fin 4) (i st cause done : Nat) : State :=
  let s := s.recordEnd (sledAddr n i) st cause done 0
  let s := if st = 3 then s else s.inc (Obj.SLCn_CAUSE n cause)
  s.settleFollowers n i (if st = 3 then 0 else cause)

/-- The same for an entry or burst, with the counters of R178. -/
def State.entryEnd (s : State) (n : Fin 4) (i st cause done : Nat) : State :=
  let s := s.sledEnd n i st cause done
  if st = 3 then s.inc (Obj.SLCn_ENTRIES_DONE n) else s.inc (Obj.SLCn_ENTRIES_DROPPED n)

end Sys2Proof.Machine
end

