-- ==== Sys2Proof/Machine/Listener.lean ====
section
/-!
DEFINITION. The channelizer, gain, listeners, noise mapper and sample capture (04_listeners.md R84-R116), the blanking of a
slice (R79, R80) and the header of LOFDM (05_phy_modes_loading.md R119-R130).
-/
namespace Sys2Proof.Machine

/-! ## Grids and assignments (R87, R88, R98-R101) -/

/-- Channels N of a grid code. -/
def gridN (g : Nat) : Nat := nth [0, 160, 80, 32, 6] g 0
/-- Channel spacing of a grid in Hz. -/
def gridHz (g : Nat) : Nat := nth [0, 200000, 400000, 1000000, 5000000] g 0
/-- Latency of a grid in µt. -/
def gridLat (g : Nat) : Nat := nth [0, 384, 192, 96, 48] g 0
/-- Flat half-width of a grid in Hz. -/
def gridFlat (g : Nat) : Nat := nth [0, 160000, 320000, 560000, 3200000] g 0
/-- Output rate of a grid in samples per second. -/
def gridRate (g : Nat) : Nat := nth [0, 400000, 800000, 1280000, 8000000] g 0

/-- The grid of a bank in force. -/
def State.grid (s : State) (n bank : Nat) : Nat :=
  if bank = 0 then s.o (Obj.SLCn_BANK0_GRID n) else s.o (Obj.SLCn_BANK1_GRID n)

/-- f(k) of R88. -/
def chanHz (centre g k : Nat) : Int := (centre : Int) + (2 * (k : Int) - gridN g + 1) * ((gridHz g / 2 : Nat) : Int)

/-- CHAN of an assignment word. -/
def aChan (w : Nat) : Nat := fld w 7 0
/-- BANK of an assignment word. -/
def aBank (w : Nat) : Nat := fld w 8 8
/-- MODE of an assignment word. -/
def aMode (w : Nat) : Nat := fld w 12 9
/-- An assignment word without its reserved bits, which read 0 (R8, R98). -/
def aClean (w : Nat) : Nat := natAnd w 0x0FFF1FFF
/-- OFFSET of an assignment word in Hz. -/
def aOffset (w : Nat) : Int := 5000 * toI 12 (fld w 27 16)

/-- Half-width of a mode in Hz (R99). -/
def halfWidth (mode : Nat) : Nat :=
  nth [0, 480000, 1000000, 50000, 100000, 150000, 200000, 30000, 60000, 90000, 120000, 547000, 276000, 141000, 78000] mode 0

/-- The band of a centre: 0 none, 1 sub-GHz, 2 2.4 GHz (R530). -/
def bandOf (centre : Nat) : Nat := if centre = 0 then 0 else if centre < 1000000000 then 1 else 2

/-- An assignment word is valid on its own (R101, without the last point). -/
def assignOk (centre g0 g1 w : Nat) : Bool :=
  let m := aMode w
  let g := if aBank w = 0 then g0 else g1
  let off := aOffset w
  m == 0 ||
  (decide (g ≠ 0) && decide (aChan w < gridN g) && decide (m ≠ 15) &&
   (m != 1 || (g == 3 && decide (off = 0))) && (m != 2 || bandOf centre == 2) &&
   decide ((halfWidth m : Int) + off.natAbs ≤ gridFlat g) &&
   (let d := chanHz centre g (aChan w) + off - (centre : Int)
    decide (d.natAbs + halfWidth m ≤ 16000000)))

/-- Two assignments of one slice claim the same BANK, CHAN, MODE and OFFSET. -/
def assignClash (a b : Nat) : Bool :=
  aMode a != 0 && aMode b != 0 && aChan a == aChan b && aBank a == aBank b && aMode a == aMode b &&
    fld a 27 16 == fld b 27 16

/-- No two of a list clash. -/
def noClash : List Nat → Bool
  | [] => true
  | a :: r => r.all (fun b => !(assignClash a b)) && noClash r

/-- A listen set is valid (R101). -/
def lsetOk (centre g0 g1 : Nat) (l : List Nat) : Bool := l.all (assignOk centre g0 g1) && noClash l

/-! ## Listener states (R97, R102, R103) -/

/-- STATE of listener k. -/
def State.lsnState (s : State) (n : Fin 4) (k : Fin 48) : Nat := s.o (Obj.SLCn_LSNk_STATE n k)

/-- The assignment in force of listener k. -/
def State.lsnNow (s : State) (n : Fin 4) (k : Fin 48) : Nat := s.o (Obj.SLCn_LSNk_NOW n k)

/-- Change listener k beyond its objects. -/
def State.modLsn (s : State) (n : Fin 4) (k : Fin 48) (f : LsnSt → LsnSt) : State :=
  s.modSlice n (fun x => { x with lsn := vmod x.lsn k f })

/-! ## Blanked samples and gain steps of the recent past (R80, R91, R108, R116) -/

/-- The sample taken at instant t was blanked. -/
def State.blankedAt (s : State) (n : Fin 4) (t : Instant) : Bool :=
  s.slices[n].spans.any (fun x => decide (x.1 ≤ t) && (match x.2 with | none => true | some e => decide (t < e)))

/-- No sample from a to b was blanked. -/
def State.clearFrom (s : State) (n : Fin 4) (a b : Instant) : Bool :=
  s.slices[n].spans.all (fun x => decide (b ≤ x.1) || (match x.2 with | none => false | some e => decide (e ≤ a)))

/-- The gain index at an instant, out of the steps newest first, each with the index before it. -/
def gainBack (t : Instant) : List (Instant × Nat) → Nat → Nat
  | [], g => g
  | x :: r, g => if t < x.1 then gainBack t r x.2 else g

/-- The analog gain index at a recent instant. -/
def State.gainAt (s : State) (n : Fin 4) (t : Instant) : Nat := gainBack t s.slices[n].steps (s.o (Obj.SLCn_GAIN_NOW n))

/-- An analog step lies after a and not after b. -/
def State.steppedIn (s : State) (n : Fin 4) (a b : Instant) : Bool :=
  s.slices[n].steps.any (fun x => decide (a < x.1) && decide (x.1 ≤ b))

/-! ## Sample capture (R114-R117) -/

/-- The capture source as bytes per sample and samples per second (R116, R117). -/
def State.capRate (s : State) (n : Fin 4) : Nat × Nat :=
  match s.o (Obj.SLCn_CAP_SRC n) with
  | 0 | 1 => (4, 40000000)
  | 2 => (8, 40000000)
  | _ => (4, gridRate (s.grid n (aBank (s.lsnNow n (asFin 48 (s.o (Obj.SLCn_CAP_LSN n)))))))

/-- Samples of a rate taken before instant t. -/
def sampleNo (rate t : Nat) : Nat := t * rate / 38400000

/-- The instant of sample m of a rate. -/
def sampleAt (rate m : Nat) : Instant := ceilDiv (m * 38400000) rate

/-- CAP_STATE 1 or 2. -/
def State.capRuns (s : State) (n : Fin 4) : Bool :=
  s.o (Obj.SLCn_CAP_STATE n) == 1 || s.o (Obj.SLCn_CAP_STATE n) == 2

/-- A wideband word (R116): I and Q of 12 bits, the gain index, the blanked bit, the clip bit; bits 17 and 16 read 0. -/
def wideWord (i q gain : Nat) (blanked clip : Bool) : Nat :=
  i % 4096 * 2 ^ 4 + gain % 16 + q % 4096 * 2 ^ 20 + b2n blanked * 2 ^ 19 + b2n clip * 2 ^ 18

/-- A word of a capture, for the sample at instant t. Its signal v is what the command reports: I and Q, and in bit 24 of a
wideband sample whether a clip detection holds it (log 176). -/
def State.capWord (s : State) (n : Fin 4) (v : Nat) (t : Instant) : Nat :=
  if s.o (Obj.SLCn_CAP_SRC n) ≤ 2 then wideWord v (v / 2 ^ 12) (s.gainAt n t) (s.blankedAt n t) (bitOf v 24)
  else v % 2 ^ 32

/-- Write words into the ring from byte offset pos on, wrapping: word j of each sample in turn, A then B with both chains. The
signal of a word past those given is a free value (log 176). -/
def State.capWords (s : State) (n : Fin 4) (rate per : Nat) : Nat → List Nat → Nat → Nat → State
  | 0, _, _, _ => s
  | c + 1, l, m, pos =>
    let a := s.o (Obj.SLCn_CAP_BASE n) + pos % s.o (Obj.SLCn_CAP_LEN n)
    let s := { s.wn a 4 (s.capWord n (l.headD (Config.freeNat s.draws)) (sampleAt rate (m / per))) with draws := s.draws + 1 }
    State.capWords s n rate per c l.tail (m + 1) (pos + 4)

/-- c words go into the ring as one write through the slice's port, wrapping; while the DRAM has no clock they are dropped (R412,
R454). Blocks covered in part are read first, and whole ones lose their errors (R434, R435). -/
def State.capWrite (s : State) (n : Fin 4) (rate per c : Nat) (l : List Nat) (m pos : Nat) : State :=
  let base := s.o (Obj.SLCn_CAP_BASE n)
  let len := s.o (Obj.SLCn_CAP_LEN n)
  if !(s.powered base) then s
  else
    let o := pos % len
    let first := min (4 * c) (len - o)
    let rest := min (4 * c - first) len
    let s := (s.dramEdges (base + o) first).dramEdges base rest
    ((s.capWords n rate per c l m pos).dramHeal (base + o) first).dramHeal base rest

/-- The source is written into the ring up to now: continuously while ARMED, and after the trigger no more than its share
(R115). The signals of its first words are those given. The bytes stand in the ring from the commands that bring it up to now on
(log 227). -/
def State.capFeed (s : State) (n : Fin 4) (l : List Nat) : State :=
  if s.capRuns n then
    let x := s.slices[n]
    let (b, rate) := s.capRate n
    let per := b / 4
    let m := sampleNo rate x.capAt
    let all := per * (sampleNo rate s.now - m)
    let c := if s.o (Obj.SLCn_CAP_STATE n) = 1 then all else min all (x.capLeft / 4)
    (s.capWrite n rate per c l (per * m) x.capFill).modSlice n (fun x => {
      x with capAt := s.now, capFill := x.capFill + 4 * c, capLeft := x.capLeft - 4 * c })
  else s

/-- The ring is brought up to now, with no signal reported. -/
def State.capAdvance (s : State) (n : Fin 4) : State := s.capFeed n []

/-- Arming (R115): none while the DRAM is in self-refresh; no effect in ARMED or TRIGGERED. -/
def State.capArm (s : State) (n : Fin 4) : Option State :=
  if s.o Obj.DRM_STATE = 3 then none
  else if s.capRuns n then some s
  else some ((s.setO (Obj.SLCn_CAP_STATE n) 1).modSlice n (fun x => { x with capAt := s.now, capFill := 0, capLeft := 0 }))

/-- A trigger (R115): ignored outside ARMED. -/
def State.capTrigger (s : State) (n : Fin 4) : State :=
  if s.o (Obj.SLCn_CAP_STATE n) = 1 then
    let s := s.capAdvance n
    let share := s.o (Obj.SLCn_CAP_LEN n) * (16 - s.o (Obj.SLCn_CAP_PRE n)) / 16
    ((s.setO (Obj.SLCn_CAP_STATE n) 2).setO (Obj.SLCn_CAP_TRIG_AT n) (tt64 s.now)).modSlice n (fun x => { x with capLeft := share })
  else s

/-- The capture ends in a state: CAP_OLDEST names the oldest byte kept. -/
def State.capEnd (s : State) (n : Fin 4) (st : Nat) : State :=
  let s := s.capAdvance n
  let len := s.o (Obj.SLCn_CAP_LEN n)
  let fill := s.slices[n].capFill
  (s.setO (Obj.SLCn_CAP_OLDEST n) (if fill ≤ len then 0 else fill % len)).setO (Obj.SLCn_CAP_STATE n) st

/-- Stop (R115): the ring is kept as it stands. -/
def State.capStop (s : State) (n : Fin 4) : State :=
  if s.capRuns n then s.capEnd n 5 else s.setO (Obj.SLCn_CAP_STATE n) 5

/-- The assignment of the listener that is captured is about to change (R116): its samples so far are written at the old rate. -/
def State.capSwitch (s : State) (n : Fin 4) (k : Fin 48) : State :=
  if s.o (Obj.SLCn_CAP_SRC n) = 3 && s.o (Obj.SLCn_CAP_LSN n) == k.val then s.capAdvance n else s

/-- CAPTURE_ARM (R115). -/
def execCaptureArm (who : Fin 8) (n : Fin 4) (s : State) : Out :=
  .next ((s.capArm n).getD (s.dropped (windowAddr (Obj.SLCn_CAP_CMD n)) 1 who 6))

/-- CAPTURE_TRIGGER_NOW (R115). -/
def execCaptureTriggerNow (n : Fin 4) (s : State) : Out := .next (s.capTrigger n)

/-- CAPTURE_STOP (R115). -/
def execCaptureStop (n : Fin 4) (data : List Nat) (s : State) : Out := .next ((s.capFeed n data).capStop n)

/-- CAPTURE_AT_EXPIRY (R115): CAP_TRIG 1 and CAP_AT reached. -/
def execCaptureAtExpiry (n : Fin 4) (s : State) : Out :=
  if s.o (Obj.SLCn_CAP_TRIG n) = 1 then .next ((s.upTo (linear (s.o (Obj.SLCn_CAP_AT n)))).capTrigger n) else .next s

/-- CAPTURE_DONE (R115): the share after the trigger is written. -/
def execCaptureDone (n : Fin 4) (data : List Nat) (s : State) : Out :=
  if s.o (Obj.SLCn_CAP_STATE n) = 2 then
    let (b, rate) := s.capRate n
    let s := s.upTo (sampleAt rate (sampleNo rate s.slices[n].capAt + ceilDiv s.slices[n].capLeft b))
    .next ((s.capFeed n data).capEnd n 3)
  else .next s

/-- CAPTURE_OVERRUN (R115, R444): a word meets a full FIFO. -/
def execCaptureOverrun (n : Fin 4) (data : List Nat) (s : State) : Out :=
  if s.capRuns n then .next (((s.capFeed n data).capEnd n 4).inc (Obj.DRM_RTn_OVERFLOW n)) else .next s

/-! ## Entering and leaving states -/

/-- Put listener k into a state, with its bits of LSN_ACTIVE and LSN_HOLDING (R96). -/
def State.setLsn (s : State) (n : Fin 4) (k : Fin 48) (st : Nat) : State :=
  let s := s.setO (Obj.SLCn_LSNk_STATE n k) st
  let s := s.setO (Obj.SLCn_LSN_ACTIVE n) (setBit (s.o (Obj.SLCn_LSN_ACTIVE n)) k (st != 0))
  let s := s.setO (Obj.SLCn_LSN_HOLDING n) (setBit (s.o (Obj.SLCn_LSN_HOLDING n)) k (st == 2 || st == 3))
  s.modLsn n k (fun l => { l with since := s.now })

/-- A listener holds a packet in SYNC and in HOLD. -/
def State.lsnHolds (s : State) (n : Fin 4) (k : Fin 48) : Bool := s.lsnState n k == 2 || s.lsnState n k == 3

/-- 0 to 47. -/
def fin48 : List (Fin 48) := (List.range 48).map (fun i => asFin 48 i)

/-- Some listener of the slice holds a packet. -/
def State.anyHolds (s : State) (n : Fin 4) : Bool := s.o (Obj.SLCn_LSN_HOLDING n) != 0

/-- The listener leaves its packet for SEARCH or IDLE, taking a deferred assignment (R103). -/
def State.toSearch (s : State) (n : Fin 4) (k : Fin 48) : State :=
  let l := s.slices[n].lsn[k]
  let w := l.deferred.getD (s.lsnNow n k)
  let s := (s.capSwitch n k).setO (Obj.SLCn_LSNk_NOW n k) w
  let s := s.modLsn n k (fun l => {
    l with deferred := none, cells := [], resolved := false, upslot := none, endAt := none, agc := none })
  s.setLsn n k (if aMode w = 0 then 0 else 1)

/-- Apply an assignment (R103). -/
def State.assign (s : State) (n : Fin 4) (k : Fin 48) (w : Nat) : State :=
  let st := s.lsnState n k
  if 2 ≤ st then s.modLsn n k (fun l => { l with deferred := some w })
  else if st = 1 && s.lsnNow n k = w then s
  else if st = 0 && aMode w = 0 then s.setO (Obj.SLCn_LSNk_NOW n k) w
  else ((s.capSwitch n k).setO (Obj.SLCn_LSNk_NOW n k) w).setLsn n k (if aMode w = 0 then 0 else 1)

/-- The cells of a frame that was still being decoded hold bytes of it, as far as it was decoded: free bytes (R105, log 177). -/
def State.halfFill (s : State) (n : Fin 4) (k : Fin 48) : State :=
  if s.lsnState n k = 3 then
    s.slices[n].lsn[k].cells.foldl (fun (s : State) c => s.scramble (cellAddr n.castSucc c) (cellSize n.castSucc)) s
  else s

/-- The listener gives its packet up, the cells returning in the same cycle (R105). -/
def State.giveUp (s : State) (n : Fin 4) (k : Fin 48) : State :=
  let s := s.halfFill n k
  (s.returnCells (n.castSucc) s.slices[n].lsn[k].cells).toSearch n k

/-- The packet is abandoned and counted in LOST (R80, R89). -/
def State.loseLsn (s : State) (n : Fin 4) (k : Fin 48) (also : Key) : State :=
  (((s.inc (Obj.SLCn_LSNk_LOST n k)).inc also)).giveUp n k

/-! ## Blanking (R79, R80) -/

/-- The slice takes blanked samples: a transmission or switch blanks it, the synthesizer is not in LOCK, its sample clock has
no lock, or it is gated. That a packet lost with the sample clock counts in LOST and BLANK_LOST is the model's choice (R24, R80,
log 214). -/
def State.blankNow (s : State) (n : Fin 4) : Bool :=
  !(s.slices[n].blanks.isEmpty) || s.o (Obj.SLCn_SYN_STATE n) != 3 || !(s.slices[n].clock) || s.slices[n].gated

/-- A packet of listener k needs a sample not yet taken at the port (R80). -/
def State.needsMore (s : State) (n : Fin 4) (k : Fin 48) : Bool :=
  s.lsnState n k == 2 ||
  (s.lsnState n k == 3 && (match s.slices[n].lsn[k].endAt with | none => true | some e => decide (s.now < e)))

/-- Spans kept for assessments and mapper blocks: those that reach into the last 60,000 µt. -/
def pruneSpans (now : Nat) (l : List (Instant × Option Instant)) : List (Instant × Option Instant) :=
  l.filter (fun x => match x.2 with | none => true | some e => decide (now ≤ e + 60000))

/-- Blanking begins or ends with what now holds: packets that need a blanked sample are abandoned (R80, R103), at the instant of that
sample at the port: the latency to the listener is not held (log 215). -/
def State.reblank (s : State) (n : Fin 4) : State :=
  let new := s.blankNow n
  if new = s.slices[n].blanked then s
  else if new then
    let s := s.modSlice n (fun x => { x with blanked := true, spans := (s.now, none) :: pruneSpans s.now x.spans })
    fin48.foldl (fun s k => if s.needsMore n k then s.loseLsn n k (Obj.SLCn_BLANK_LOST n) else s) s
  else
    s.modSlice n (fun x => { x with
      blanked := false
      spans := x.spans.map (fun p => match p.2 with | none => (p.1, some s.now) | some _ => p) })

/-- Blanked by another slice. -/
def otherBlanks (n : Fin 4) (l : List Nat) : Bool := l.any (fun x => decide (x < 4) && x != n.val)

/-- Change the reasons that blank slice n, counting the time blanked by other slices (R78): BLANK_US takes a span when the
blanking by other slices ends (log 178). -/
def State.setBlanks (s : State) (n : Fin 4) (l : List Nat) : State :=
  let was := s.slices[n].otherSince
  let s := s.modSlice n (fun x => { x with blanks := l })
  let s := match was, otherBlanks n l with
    | none, true => s.modSlice n (fun x => { x with otherSince := some s.now })
    | some t, false =>
      let s := s.modSlice n (fun x => { x with otherSince := none, otherUt := x.otherUt + (s.now - t) })
      s.setO (Obj.SLCn_BLANK_US n) (min 0xFFFFFFFF (s.slices[n].otherUt * 10 / 384))
    | _, _ => s
  s.reblank n

/-- A reason begins to blank slice n. -/
def State.blankOn (s : State) (n : Fin 4) (r : Nat) : State := s.setBlanks n (r :: s.slices[n].blanks)

/-- One instance of a reason ends. -/
def State.blankOff (s : State) (n : Fin 4) (r : Nat) : State := s.setBlanks n (s.slices[n].blanks.erase r)

/-- Bit n of its own Blanket row always reads 1 (R78). -/
def State.blanketRow (s : State) (n : Fin 4) : Nat := setBit (s.o (Obj.SLCn_BLANKET n)) n true

/-- A transmission of slice n begins to blank the slices of its row (R79). -/
def State.blankRow (s : State) (n : Fin 4) : State :=
  fin4.foldl (fun (s : State) (m : Fin 4) => if bitOf (s.blanketRow n) m then s.blankOn m n else s) s

/-- The blanking of a transmission of slice n ends everywhere. -/
def State.unblankRow (s : State) (n : Fin 4) : State :=
  fin4.foldl (fun (s : State) (m : Fin 4) => if s.slices[m].blanks.contains n.val then s.blankOff m n else s) s

/-! ## Gain (R90-R95) -/

/-- The gain is automatic. -/
def State.gainAuto (s : State) (n : Fin 4) : Bool := s.o (Obj.SLCn_GAIN_FIX n) == 0xFF

/-- The analog gain steps; steps of the last superframe are remembered (R91, R108, R110). -/
def State.gainSet (s : State) (n : Fin 4) (g : Nat) : State :=
  let old := s.o (Obj.SLCn_GAIN_NOW n)
  (s.setO (Obj.SLCn_GAIN_NOW n) g).modSlice n (fun x => { x with
    steps := (s.now, old) :: x.steps.filter (fun y => decide (s.now ≤ y.1 + superT)) })

/-- One step down (R92), which also triggers CAP_TRIG 3. -/
def State.gainDown (s : State) (n : Fin 4) : State :=
  let s := (s.gainSet n (s.o (Obj.SLCn_GAIN_NOW n) - 1)).inc (Obj.SLCn_GAIN_DN_COUNT n)
  if s.o (Obj.SLCn_CAP_TRIG n) = 3 then s.capTrigger n else s

/-- GAIN_STEP_DOWN (R92, R94): a clip detection; none of a blanked slice, whose gain holds (R80). -/
def execGainStepDown (n : Fin 4) (s : State) : Out :=
  if s.blankNow n then .next s
  else if !(s.gainAuto n) || s.o (Obj.SLCn_GAIN_NOW n) = 0 then .next (s.inc (Obj.SLCn_CLIP_COUNT n))
  else .next (s.gainDown n)

/-- One step up (R93): index 10 is the highest gain. -/
def State.gainUp (s : State) (n : Fin 4) : State :=
  let s := if s.o (Obj.SLCn_GAIN_NOW n) < 10 then
      (s.gainSet n (s.o (Obj.SLCn_GAIN_NOW n) + 1)).inc (Obj.SLCn_GAIN_UP_COUNT n) else s
  s.modSlice n (fun x => { x with upPending := none })

/-- The window that ends now gives a measurement: no blanked sample and no step after its first sample (R91). -/
def State.gainMeasured (s : State) (n : Fin 4) : Bool :=
  s.clearFrom n (s.now - 960) s.now && !(s.steppedIn n (s.now - 960) s.now)

/-- What the measured RMS (0.25 dBFS units) does: a step down, a step up made pending, or one withdrawn (R92, R93). -/
def State.gainJudge (s : State) (n : Fin 4) (rms : Int) : State :=
  let s := s.setI 16 (Obj.SLCn_WB_RMS n) rms
  let s := if -120 ≤ rms then s.modSlice n (fun x => { x with upPending := none }) else s
  if !(s.gainAuto n) then s
  else
    let s := if -120 ≤ rms then s else if s.o (Obj.SLCn_GAIN_NOW n) < 10 && s.slices[n].upPending.isNone
        then s.modSlice n (fun x => { x with upPending := some s.now }) else s
    if -48 < rms && 0 < s.o (Obj.SLCn_GAIN_NOW n) then s.gainDown n else s

/-- GAIN_WINDOW_END (R91-R93). -/
def execGainWindowEnd (n : Fin 4) (rms : Int) (s : State) : Out :=
  let s := s.upTo (boundaryAt 960 s.now)
  let s := if s.gainMeasured n && !(s.blankNow n) then s.gainJudge n rms else s
  if s.slices[n].upPending.isSome && !(s.anyHolds n) && s.gainAuto n && !(s.blankNow n) then .next (s.gainUp n) else .next s

/-- GAIN_FORCED_UP (R93): the pending step has waited SLCn_GAIN_HOLD while packets are held. -/
def execGainForcedUp (n : Fin 4) (s : State) : Out :=
  let hold := s.o (Obj.SLCn_GAIN_HOLD n)
  match s.slices[n].upPending with
  | none => .next s
  | some t =>
    if hold = 0 || !(s.anyHolds n) || !(s.gainAuto n) then .next s
    else
      let s := s.upTo (boundaryAt 960 (t + hold))
      if s.blankNow n || 10 ≤ s.o (Obj.SLCn_GAIN_NOW n) then .next s
      else .next ((s.gainUp n).inc (Obj.SLCn_GAIN_FORCED_UP n))

/-! ## Reception (R103-R106, R119-R130) -/

/-- The listener's bank gives valid outputs now (R89). -/
def State.bankValid (s : State) (n : Fin 4) (k : Fin 48) : Bool :=
  match s.slices[n].invalid[asFin 2 (aBank (s.lsnNow n k))] with
  | none => true
  | some t => decide (t ≤ s.now)

/-- PORTx_STATE. -/
def State.portState (s : State) (n : Fin 4) (p : Nat) : Nat :=
  if p = 0 then s.o (Obj.SLCn_PORTA_STATE n) else s.o (Obj.SLCn_PORTB_STATE n)

/-- The slice has a port to receive on: in DIV, one that is not DISCONNECTED (R70, R106). -/
def State.hasPort (s : State) (n : Fin 4) : Bool :=
  s.o (Obj.SLCn_AERIAL_MODE n) == 1 || s.portState n 0 != 3 || s.portState n 1 != 3

/-- Bit rate of SUN FSK modes 3 to 10. -/
def fskRate (mode : Nat) : Nat := 50000 * ((mode - 3) % 4 + 1)

/-- Duration in µt, rounded up, of octets at the bit rate of a SUN FSK mode. -/
def fskOctets (mode c : Nat) : Nat := ceilDiv (c * 8 * 38400000) (fskRate mode)

/-- The preamble symbol of a mode in µt (R122): a detection comes no later than its end (R104). -/
def preSymbol (mode : Nat) : Nat :=
  if mode = 1 then 2400 else if mode = 2 then 615 else if mode ≤ 10 then fskOctets mode 1 else 4608

/-- PREAMBLE_DETECTED (R103, R104): SEARCH to SYNC, for a frame whose first sample, at `first`, was not blanked (R80) and whose
first preamble symbol has not passed. -/
def execPreambleDetected (n : Fin 4) (k : Fin 48) (first : Instant) (s : State) : Out :=
  let s := s.upTo first
  if s.lsnState n k = 1 && !(s.blankNow n) && s.bankValid n k && s.clearFrom n first s.now && s.hasPort n &&
     decide (s.now ≤ first + preSymbol (aMode (s.lsnNow n k))) then
    let s := s.modLsn n k (fun l => { l with
      first := first
      lastSync := some s.now
      decided := false
      port := if s.o (Obj.SLCn_AERIAL_MODE n) = 1 then s.o (Obj.SLCn_TX_PORT n) else 0
      resolved := false
      upslot := none
      endAt := none })
    .next (s.setLsn n k 2)
  else .next s

/-- The port of R106: the higher preamble energy, port A when equal, never a DISCONNECTED port. -/
def State.betterPort (s : State) (n : Fin 4) (ea eb : Nat) : Nat :=
  if s.portState n 0 = 3 then 1
  else if s.portState n 1 = 3 then 0
  else if ea < eb then 1 else 0

/-- AERIAL_DECISION (R106, R128): in DIV mode the port is chosen once for the packet, for LOFDM at the end of its first preamble
symbol; in TUNE no choice is made. -/
def execAerialDecision (n : Fin 4) (k : Fin 48) (ea eb : Nat) (s : State) : Out :=
  if s.lsnState n k = 2 && s.o (Obj.SLCn_AERIAL_MODE n) == 0 && !(s.slices[n].lsn[k].decided) && s.hasPort n then
    let s := if aMode (s.lsnNow n k) = 1 then s.upTo (s.slices[n].lsn[k].first + 2400) else s
    .next (s.modLsn n k (fun l => { l with port := s.betterPort n ea eb, decided := true }))
  else .next s

/-- One bit of the header check sequence, x^8 + x^2 + x + 1 (R129). -/
def hcsBit (r : Nat) (b : Bool) : Nat :=
  if bitOf r 7 != b then (r * 2 % 256) ^^^ 7 else r * 2 % 256

/-- The HCS over bits 0 to 29 of a header, in sending order. -/
def hcsOf (bits : Nat) : Nat := (List.range 30).foldl (fun r i => hcsBit r (bitOf bits i)) 0xFF

/-- The header check of R130. -/
def headOk (bits : Nat) : Bool :=
  decide (fld bits 37 30 = hcsOf bits) && decide (4 ≤ fld bits 10 0) && decide (fld bits 20 19 ≠ 3) &&
  decide (fld bits 27 21 ≠ 0) && decide (fld bits 29 28 = 0) && !(4 ≤ fld bits 18 11 && fld bits 18 11 ≤ 15)

/-- Information bits to coded bits at a rate (R133). -/
def codedBits (rate i : Nat) : Nat :=
  if rate = 0 then 2 * i else if rate = 1 then i + ceilDiv i 2 else i + ceilDiv i 3

/-- Payload symbols of R127 for b coded bits per symbol. -/
def payloadSyms (len rate b : Nat) : Nat := if b = 0 then 0 else ceilDiv (codedBits rate (8 * len + 6)) b

/-- Duration of an LOFDM frame in µt (R127). -/
def lofdmDur (len rate b : Nat) : Nat := 2400 * (4 + payloadSyms len rate b)

/-- Coded bits per symbol of a fixed map (R140). -/
def fixedBits (mapId : Nat) : Nat := nth [44, 88, 176, 264] mapId 0

/-- A failed header (R103). -/
def State.headFail (s : State) (n : Fin 4) (k : Fin 48) : State :=
  let s := ((s.inc (Obj.SLCn_RX_QFAIL n)).inc (Obj.SLCn_LSNk_QFAIL n k)).toSearch n k
  if s.o (Obj.SLCn_CAP_TRIG n) = 2 && s.o (Obj.SLCn_CAP_LSN n) = k then s.capTrigger n else s

/-- The header is good: take the cells and HOLD, or return to SEARCH without them (R103, R105, R388). The digital AGC freezes at
the level it has reached, a free value (R95, log 179). -/
def State.hold (s : State) (n : Fin 4) (k : Fin 48) (bytes : Nat) (f : LsnSt → LsnSt) : State :=
  match s.takeCells n.castSucc (ceilDiv bytes 128) 0 with
  | (none, s) => (s.inc (Obj.SLCn_RX_NOCELL n)).toSearch n k
  | (some cs, s) =>
    let s := cs.foldl (fun (s : State) c => s.scramble (cellAddr n.castSucc c) (cellSize n.castSucc)) s
    let s := (s.modLsn n k (fun l => { f l with cells := cs, agc := some (Config.freeNat s.draws) })).drawn.setLsn n k 3
    if s.o (Obj.SLCn_CAP_TRIG n) = 4 && s.o (Obj.SLCn_CAP_LSN n) = k then s.capTrigger n else s

/-- The PHR length of a standard PHY is allowed (R104, R122). -/
def phrLenOk (mode len fcs : Nat) : Bool :=
  if mode = 2 then decide (2 ≤ len) && decide (len ≤ 127)
  else if mode ≤ 10 then decide (fcs ≤ len) && decide (len ≤ 2047)
  else decide (len ≤ 2047)

/-- A field of m bits from bit lo on, its most significant bit sent first. -/
def sentField (v lo m : Nat) : Nat := (List.range m).foldl (fun x i => 2 * x + b2n (bitOf v (lo + i))) 0

/-- What a standard PHR says: a mode switch, its reserved bits, rate and check good, its length with the FCS, the FCS bytes, the
preamble octets ahead of it, and the rate field. -/
structure StdPhr where
  sw : Bool := false
  ok : Bool
  len : Nat
  fcs : Nat
  pre : Nat := 0
  rate : Nat := 0
  deriving DecidableEq, Repr

/-- The MCS values of SUN OFDM option mode - 10 (R119). -/
def mcsOk (mode rate : Nat) : Bool :=
  if mode = 11 then decide (rate ≤ 3)
  else if mode = 12 then decide (rate ≤ 5)
  else if mode = 13 then decide (1 ≤ rate) && decide (rate ≤ 6)
  else decide (2 ≤ rate) && decide (rate ≤ 6)

/-- The PHR of a listener's mode (R119, R122); none where the mode decodes no such PHR, or the preamble or SFD before it is not
one that the slice searches for. The fields stand where the standard has them (log 206). -/
def State.stdPhr (s : State) (n : Fin 4) (mode : Nat) : RxHead → Option StdPhr
  | .lofdm _ => none
  | .oqpsk phr => if mode = 2 then some { ok := !(bitOf phr 7), len := phr % 128, fcs := 2 } else none
  | .fsk phr pre sfd =>
    if 3 ≤ mode && mode ≤ 10 && 4 ≤ pre && pre ≤ s.o (Obj.SLCn_FSK_PRE_MAX n) && sfd = s.o (Obj.SLCn_FSK_SFD n) then
      some { sw := bitOf phr 0, ok := phr / 2 % 4 == 0, len := sentField phr 5 11, fcs := if bitOf phr 3 then 2 else 4, pre := pre }
    else none
  | .ofdm phr =>
    if 11 ≤ mode then
      let rate := sentField phr 0 5
      some {
        ok := !(bitOf phr 5) && phr / 2 ^ 17 % 4 == 0 && !(bitOf phr 21) && mcsOk mode rate &&
          sentField phr 22 8 == Config.ofdmHcs (phr % 2 ^ 22)
        len := sentField phr 6 11, fcs := s.o (Obj.SLCn_SUNOFDM_FCS n), rate := rate }
    else none

/-- The end of the PHR after the first sample (R122): 192 µs of O-QPSK; preamble, SFD and PHR octets of SUN FSK; the standard's
STF, LTF and PHR of SUN OFDM, the air time of a frame without a PSDU (log 22). -/
def phrEnd (mode pre : Nat) : Nat :=
  if mode = 2 then 7373 else if mode ≤ 10 then fskOctets mode (pre + 4) else Config.airTime mode 0

/-- From the end of the PHR to the last sample: the PSDU with its FCS at the mode's bit rate, or at the MCS of a SUN OFDM PHR,
whose time is the standard's (log 22). -/
def psduTime (mode rate len : Nat) : Nat :=
  if mode = 2 then ceilDiv (len * 8 * 38400000) 250000 else if mode ≤ 10 then fskOctets mode len else Config.ofdmTime mode rate len

/-- QUALIFIER (R103, R105, R122, R130). -/
def execQualifier (n : Fin 4) (k : Fin 48) (h : RxHead) (s : State) : Out :=
  if s.lsnState n k = 2 then
    let mode := aMode (s.lsnNow n k)
    match h with
    | .lofdm bits =>
      if mode ≠ 1 then .next s else
      let first := s.slices[n].lsn[k].first
      let s := s.upTo (first + 7200)
      if !(headOk bits) then .next (s.headFail n k)
      else
        let len := fld bits 10 0
        let id := fld bits 18 11
        let rate := fld bits 20 19
        .next (s.hold n k len (fun l => { l with
          len := len
          mapId := id
          rate := rate
          seed := fld bits 27 21
          fcs := 0
          endAt := if id < 4 then some (first + lofdmDur len rate (fixedBits id)) else none }))
    | h =>
      match s.stdPhr n mode h with
      | none => .next s
      | some p =>
        let q := s.slices[n].lsn[k].first + phrEnd mode p.pre
        let s := s.upTo q
        if p.sw then .next ((s.inc (Obj.SLCn_PHY_MODESW n)).toSearch n k)
        else if !p.ok || !(phrLenOk mode p.len p.fcs) then .next (s.headFail n k)
        else .next (s.hold n k (p.len - p.fcs) (fun l => { l with
            len := p.len - p.fcs
            mapId := 0
            fcs := p.fcs
            resolved := true
            endAt := some (q + psduTime mode p.rate p.len) }))
  else .next s

/-- The sync limit of a mode in µt (R122); the standard's STF, LTF and PHR of SUN OFDM are the air time of a frame without a PSDU
(log 22). -/
def State.syncLimit (s : State) (n : Fin 4) (mode : Nat) : Nat :=
  if mode = 1 then 7200
  else if mode = 2 then 7680
  else if mode ≤ 10 then fskOctets mode (s.o (Obj.SLCn_FSK_PRE_MAX n) + 4)
  else Config.airTime mode 0 + 4608

/-- SYNC_TIMEOUT (R103). -/
def execSyncTimeout (n : Fin 4) (k : Fin 48) (s : State) : Out :=
  if s.lsnState n k = 2 then
    let l := s.slices[n].lsn[k]
    let s := s.upTo (l.lastSync.getD 0 + s.syncLimit n (aMode (s.lsnNow n k)))
    .next ((s.inc (Obj.SLCn_RX_SYNC_TO n)).toSearch n k)
  else .next s

/-- FRAME_LAST_SAMPLE (R103): the last sample, of the frame that ends at the instant given, comes to the listener its bank's
latency after it was taken at the port; the digital AGC tracks again (R95). -/
def execFrameLastSample (n : Fin 4) (k : Fin 48) (endAt : Instant) (s : State) : Out :=
  match s.slices[n].lsn[k].endAt with
  | none => .next s
  | some e =>
    if s.lsnState n k = 3 && s.slices[n].lsn[k].resolved && decide (endAt = e) then
      let s := s.upTo (e + gridLat (s.grid n (aBank (s.lsnNow n k))))
      .next ((s.modLsn n k (fun l => { l with agc := none })).setLsn n k 4)
    else .next s

/-- GRID_OUTPUTS_VALID (R89): the listeners of the bank resume search. -/
def execGridOutputsValid (n : Fin 4) (bank : Fin 2) (s : State) : Out :=
  match s.slices[n].invalid[bank] with
  | none => .next s
  | some t => .next ((s.upTo t).modSlice n (fun x => { x with invalid := x.invalid.set bank none }))

/-! ## The noise mapper (R109-R113) -/

/-- The bank that feeds the mapper (R110, R111). -/
def State.mapBank (s : State) (n : Fin 4) : Option Nat :=
  if s.grid n 0 = 3 then some 0 else if s.grid n 1 = 3 then some 1 else none

/-- Accumulation restarts now (R112): a block that began before is not added. -/
def State.accStart (s : State) (n : Fin 4) : State :=
  s.modSlice n (fun x => { x with acc := [], accRestart := true, accFrom := s.now })

/-- A changed grid of a bank applies at a tick (R89, R112, R113 FLAGS). -/
def State.gridApply (s : State) (n : Fin 4) (bank : Fin 2) (g : Nat) : State :=
  let s := fin48.foldl (fun s k =>
    if aBank (s.lsnNow n k) = bank && s.lsnHolds n k then s.loseLsn n k (Obj.SLCn_GRID_LOST n) else s) s
  let s := s.setO (if bank = 0 then Obj.SLCn_BANK0_COUNT n else Obj.SLCn_BANK1_COUNT n) (gridN g)
  let s := if bank = 0 then s.accStart n else s
  let some1 := (s.mapBank n).isSome
  s.modSlice n (fun x => { x with
    invalid := x.invalid.set bank (some (s.now + 2 * gridLat g))
    validFrom := x.validFrom.set bank (s.now + 2 * gridLat g)
    accWhole := x.accWhole && some1 })

/-- Listener k stood on a channel from a until now, the end of a block's hold: in SEARCH on it, whatever its mode, or surveying
it (R110, log 180). One such listener suffices, whatever the others on the channel hold (log 216). -/
def State.stoodOn (s : State) (n : Fin 4) (bank chan : Nat) (a : Instant) (k : Fin 48) : Bool :=
  let l := s.slices[n].lsn[k]
  (s.lsnState n k == 1 && aBank (s.lsnNow n k) == bank && aChan (s.lsnNow n k) == chan && decide (l.since ≤ a)) ||
  (s.lsnState n k == 0 && l.survey == some chan && decide (l.since ≤ a))

/-- A listener of the channel entered SYNC at or after a. -/
def State.syncedOn (s : State) (n : Fin 4) (bank chan : Nat) (a : Instant) (k : Fin 48) : Bool :=
  let l := s.slices[n].lsn[k]
  aBank (s.lsnNow n k) == bank && aChan (s.lsnNow n k) == chan &&
    (match l.lastSync with | none => false | some t => decide (a ≤ t))

/-- The block's channel power, the sum of its 48 map entries, lies below the channel's mean in the last published map plus 6 dB,
10^0.6 in power, or that map holds no data for the channel (R110, log 181). -/
def State.belowMean (s : State) (n : Fin 4) (chan p : Nat) : Bool :=
  match s.slices[n].lastMeans.find? (fun x => x.1 == chan) with
  | none => true
  | some (_, sum, cnt) => decide ((p * cnt) ^ 5 < sum ^ 5 * 1000)

/-- Add a block to a channel's accumulator. -/
def accAdd (l : List MapAcc) (chan : Nat) (p : List Nat) : List MapAcc :=
  match l with
  | [] => [⟨chan, 1, p, p⟩]
  | a :: r => if a.chan = chan then
      { a with count := a.count + 1, sums := List.zipWith (· + ·) a.sums p, peaks := List.zipWith max a.peaks p } :: r
    else a :: accAdd r chan p

/-- MAPPER_BLOCK_ADMIT (R110): the block of 1,920 µt that began at `start`, after its hold of 2,400 µt; p holds the power of
entries 0 to 47 in 10^-18 mW. It counts in the map of the superframe in which it is admitted (log 217). -/
def execMapperBlockAdmit (n : Fin 4) (chan : Fin 32) (start : Instant) (p : List Nat) (s : State) : Out :=
  let s := s.upTo (start + 4320)
  match s.mapBank n with
  | none => .next s
  | some b =>
    if s.ob (Obj.SLCn_MAP_ENABLE n) && p.length = 48 && decide (s.slices[n].accFrom ≤ start) &&
       decide (s.slices[n].validFrom[asFin 2 b] ≤ start) && fin48.any (fun k => s.stoodOn n b chan start k) &&
       !(fin48.any (fun k => s.syncedOn n b chan start k)) && s.clearFrom n start (start + 1920) &&
       !(s.steppedIn n start (start + 1919)) && s.belowMean n chan (sumL p) then
      .next (s.modSlice n (fun x => { x with acc := accAdd x.acc chan p }))
    else .next s

/-- The largest code v at most `hi` with 10^((−150 + v/2) / 10) mW at most q / c in 10^-18 mW; v is 0 below it (R113):
10^(v/20) × 1000 ≤ q / c, both sides to the power 20. -/
def levelCode (q c : Nat) : Nat → Nat
  | 0 => 0
  | v + 1 => if (1000 * c) ^ 20 * 10 ^ (v + 1) ≤ q ^ 20 then v + 1 else levelCode q c v

/-- Code of a mean or peak: 0 at or below −150 dBm; exact, or rounded up or down by a free choice where the spec states no
rounding (log 21). -/
def codeOf (d q c : Nat) : Nat :=
  let v := levelCode q c 254
  if q ≤ 1000 * c || (1000 * c) ^ 20 * 10 ^ v = q ^ 20 then v else min 254 (v + Config.freeNat d % 2)

/-- The channel record of R113. -/
def chanRecord (d : Nat) (a : Option MapAcc) : Bytes :=
  match a with
  | none => leBytes 2 0 ++ leBytes 2 0 ++ List.replicate 96 255
  | some a => leBytes 2 (min 65535 a.count) ++ leBytes 2 0 ++
    (List.range 48).flatMap (fun j => leBytes 1 (codeOf (d + 2 * j) (nth a.sums j 0) a.count) ++
      leBytes 1 (codeOf (d + 2 * j + 1) (nth a.peaks j 0) 1))

/-- The map of the superframe just ended is published (R112, R113). -/
def State.mapPublish (s : State) (n : Fin 4) : State :=
  if s.ob (Obj.SLCn_MAP_ENABLE n) && !(s.slices[n].gated) then
    let x := s.slices[n]
    let buf := 1 - s.o (Obj.SLCn_MAP_BUF n)
    let start := tt64 (s.now - superT)
    let flags := b2n x.accWhole + 2 * b2n x.accRestart
    let img := leBytes 8 start ++ leBytes 1 n ++ leBytes 1 flags ++ leBytes 2 0 ++ leBytes 4 (s.o (Obj.SLCn_CENTRE_HZ n)) ++
      (List.range 32).flatMap (fun c => chanRecord (s.draws + 96 * c) (x.acc.find? (fun a => a.chan == c)))
    let s := s.wbs (s.o (Obj.SLCn_MAP_ADDR n) + 0x2000 * buf) img
    let s := { s with draws := s.draws + 96 * 32 }
    let s := (s.setO (Obj.SLCn_MAP_BUF n) buf).setO (Obj.SLCn_MAP_AT n) start
    let s := s.setO (Obj.SLCn_MAP_BLOCKS n) (sumL (x.acc.map (fun a => a.count)))
    s.modSlice n (fun y => { y with lastMeans := x.acc.map (fun a => (a.chan, sumL a.sums, a.count)) })
  else s

/-- A superframe begins for the mapper, under the grids that now hold (R112, R113). -/
def State.mapNew (s : State) (n : Fin 4) : State :=
  let some1 := (s.mapBank n).isSome
  s.modSlice n (fun y => { y with acc := [], accRestart := false, accWhole := some1 })

end Sys2Proof.Machine
end

