-- ==== Sys2Proof/Machine/Radio.lean ====
section
/-!
DEFINITION. The synthesizer, aerial ports, transmit chain and half duplex of a slice (03_slice_radio.md R58-R80) and the
sample clock (R24).
-/
namespace Sys2Proof.Machine

/-! ## Calibration requests (R61, R62) -/

/-- SYN_STATE: 0 OFF, 1 CAL, 2 SETTLE, 3 LOCK. -/
def State.syn (s : State) (n : Fin 4) : Nat := s.o (Obj.SLCn_SYN_STATE n)

/-- The PA can run: LOCK, and the sample clock has lock (R60, R24). -/
def State.canSend (s : State) (n : Fin 4) : Bool := s.syn n == 3 && s.slices[n].clock && s.power.pgGood

/-- Raise calibration request bit b: 0 command, 1 temperature, 2 lock loss. -/
def State.calRequest (s : State) (n : Fin 4) (b : Nat) : State :=
  let k := Obj.SLCn_CAL_PENDING n
  let s := s.setO k (setBit (s.o k) b true)
  if s.syn n = 1 then
    s.modSlice n (fun x => { x with
      raised := setBit x.raised b true
      oldestNew := match x.oldestNew with | none => some s.now | t => t
      oldest := match x.oldest with | none => some s.now | t => t })
  else s.modSlice n (fun x => { x with oldest := match x.oldest with | none => some s.now | t => t })

/-- SYN_CMD_CALIBRATE (R62). -/
def execSynCmdCalibrate (n : Fin 4) (s : State) : Out := .next (s.calRequest n 0)

/-- SLCn_TEMP lies 8 °C or more from SLCn_CAL_TEMP (R61, R62). -/
def State.tempMoved (s : State) (n : Fin 4) : Bool :=
  decide (64 ≤ (s.oi 16 (Obj.SLCn_TEMP n) - s.oi 16 (Obj.SLCn_CAL_TEMP n)).natAbs)

/-- The synthesizer enters a state. -/
def State.setSyn (s : State) (n : Fin 4) (st : Nat) : State := (s.setO (Obj.SLCn_SYN_STATE n) st).reblank n

/-- A calibration begins (R62): it covers every request pending now; failed settlings count anew after it. -/
def State.beginCal (s : State) (n : Fin 4) : State :=
  let s := s.modSlice n (fun x => { x with
    retries := 0
    covers := s.o (Obj.SLCn_CAL_PENDING n)
    raised := 0
    oldestNew := none
    calAgain := false
    readyAt := s.now + 19200 })
  s.setSyn n 1

/-- Settling begins for a duration (R61). -/
def State.beginSettle (s : State) (n : Fin 4) (d : Nat) : State :=
  (s.modSlice n (fun x => { x with settle := d, readyAt := s.now + d })).setSyn n 2

/-- A centre applies at a tick (R61): `old` was in force before; the synthesizer of a gated slice stays OFF. A calibration that
runs starts again for the new centre and covers what it covered (log 171). -/
def State.centreApply (s : State) (n : Fin 4) (old new : Nat) : State :=
  let s := s.setO (Obj.SLCn_BAND n) (bandOf new)
  let s := s.modSlice n (fun x => { x with retries := 0 })
  let s := if old = new then s else s.accStart n
  if new = 0 then (s.modSlice n (fun x => { x with calAgain := false })).setSyn n 0
  else if s.slices[n].gated then s
  else if s.syn n = 0 then
    if bitOf (s.o (Obj.SLCn_CAL_PENDING n)) 3 || s.tempMoved n then s.beginCal n else s.beginSettle n 7680
  else if s.syn n = 1 then
    (s.modSlice n (fun x => { x with readyAt := s.now + 19200, calAgain := false })).setSyn n 1
  else s.beginSettle n (if bandOf old = bandOf new then 1536 else 7680)

/-- SYNTH_FAIL, CAL_FORCED and UNLOCK carry the slot in the frame (R523). -/
def State.synEvent (s : State) (n : Fin 4) (code : Nat) : State := s.raise code n (slotOf s.now)

/-! ## Transmissions -/

/-- Change the transmissions of slice n. -/
def State.modTxs (s : State) (n : Fin 4) (f : List TxSt → List TxSt) : State :=
  s.modSlice n (fun x => { x with txs := f x.txs })

/-- Take a transmission out. -/
def State.dropTx (s : State) (n : Fin 4) (t : TxSt) : State := s.modTxs n (fun l => l.filter (fun y => y.led != t.led))

/-- Put a transmission back, changed. -/
def State.putTx (s : State) (n : Fin 4) (t : TxSt) : State :=
  s.modTxs n (fun l => l.map (fun y => if y.led = t.led then t else y))

/-- A gang ACK is withheld or cut (R185): its record, WITHHELD, and the miss of its cause. -/
def State.ackLost (s : State) (n : Fin 4) (led cause : Nat) (deadline : Option Instant) : State :=
  let s := (s.sledEnd n led 5 cause 0).inc (Obj.SLCn_ACK_WITHHELD n)
  match deadline with
  | none => s
  | some t => s.missSlice n 2 t

/-- A prepared transmission ends before its ramp: settled with no on-time (R233) and its record ABANDONED. A tone is no entry: it
is tried again (R69), and counts no miss (log 199). -/
def State.txAbandon (s : State) (n : Fin 4) (t : TxSt) (cause : Nat) (deadline : Option Instant) : State :=
  let s := (s.airSettle t.bkts t.cells t.charge 0).dropTx n t
  if t.kind = 0x12 then s.ackLost n t.led cause deadline
  else if t.kind = 0x13 then s.sledEnd n t.led 5 cause 0
  else
    let s := s.entryEnd n t.led 5 cause 0
    match deadline with
    | none => s
    | some d => s.missSlice n 3 d

/-- The PA-off instant of a transmission that ramps at r. -/
def TxSt.offAt (t : TxSt) (r : Instant) : Instant := r + 192 + t.dur

/-- The earliest ramp start of a transmission that waits. -/
def TxSt.rampFrom (t : TxSt) : Instant := max (t.start - 96) t.at_

/-- The PA ramps up now (R76): blanking of this slice and of those its row names begins. -/
def State.rampOn (s : State) (n : Fin 4) (t : TxSt) : State :=
  let s := s.putTx n { t with ramp := some s.now, at_ := s.now }
  let s := s.inc (Obj.SLCn_TX_STARTS n)
  let s := s.modSlice n (fun x => { x with
    heard := true
    idle := x.idle.set (t.port % 2) 0 (Nat.mod_lt _ (by decide))
    used := x.used.set (t.port % 2) true (Nat.mod_lt _ (by decide)) })
  s.blankRow n

/-- A transmission ramps, unless one is on the air; those that wait and would overlap it end TX_CONFLICT (R77). -/
def State.rampUp (s : State) (n : Fin 4) (t : TxSt) : State :=
  if s.slices[n].txs.any (fun u => u.ramp.isSome) then s.txAbandon n t 7 none
  else
    let s := s.rampOn n t
    let late := s.slices[n].txs.filter (fun u => u.ramp.isNone && decide (u.rampFrom < t.offAt s.now))
    late.foldl (fun s u => s.txAbandon n u 7 none) s

/-- LOCK is reached: transmissions that wait for it ramp now, or take their first assessment (R63, R241). -/
def State.release (s : State) (n : Fin 4) : State :=
  s.slices[n].txs.foldl (fun (s : State) t =>
    if s.slices[n].txs.any (fun u => u.led == t.led) && t.ramp.isNone && decide (t.start ≤ s.now + 96) && s.canSend n then
      if t.lbt then s.putTx n { t with at_ := max t.at_ s.now }
      else if s.now + 96 ≤ t.start + t.tol then s.rampUp n t else s
    else s) s

/-- SYNTH_SETTLE_DONE (R61). -/
def execSynthSettleDone (n : Fin 4) (s : State) : Out :=
  if s.syn n = 2 then
    let s := s.upTo s.slices[n].readyAt
    .next (((s.modSlice n (fun x => { x with retries := 0 })).setSyn n 3).release n)
  else .next s

/-- SYNTH_SETTLE_TIMEOUT (R61): settling is retried; after the third failure, calibration at once. -/
def execSynthSettleTimeout (n : Fin 4) (s : State) : Out :=
  if s.syn n = 2 then
    let s := s.upTo s.slices[n].readyAt
    if 2 ≤ s.slices[n].retries then
      .next (((s.modSlice n (fun x => { x with retries := 0 })).beginCal n).synEvent n 0x110)
    else .next ((s.modSlice n (fun x => { x with retries := x.retries + 1 })).beginSettle n s.slices[n].settle)
  else .next s

/-- SYNTH_CAL_DONE (R61, R62): LOCK, covering the requests pending at the start, or a retry with SYNTH_FAIL. -/
def execSynthCalDone (n : Fin 4) (lock : Bool) (s : State) : Out :=
  if s.syn n = 1 && !(s.slices[n].calAgain) then
    let s := s.upTo s.slices[n].readyAt
    if lock then
      let k := Obj.SLCn_CAL_PENDING n
      let x := s.slices[n]
      let s := s.setO k (natOr x.raised (natAnd (s.o k) (0xF - x.covers % 16)))
      let s := s.modSlice n (fun x => { x with oldest := x.oldestNew, covers := 0, raised := 0, oldestNew := none })
      let s := (s.setO (Obj.SLCn_CAL_TEMP n) (s.o (Obj.SLCn_TEMP n))).setO (Obj.SLCn_CAL_AT n) (tt64 s.now)
      .next ((s.setSyn n 3).release n)
    else .next ((s.modSlice n (fun x => { x with calAgain := true })).synEvent n 0x110)
  else .next s

/-- A transmission of the slice lies between its ramp start and its PA-off instant. -/
def State.onAir (s : State) (n : Fin 4) : Bool := s.slices[n].txs.any (fun t => t.ramp.isSome)

/-- Record index of an entry in the ledger (R386): frame parity × 272 + entry. -/
def State.ledIdx (s : State) (n : Fin 4) (i : Nat) : Nat := s.slices[n].tick / frameT % 2 * 272 + i

/-- Entries of the slot that begins now, and transmissions prepared for it, are dropped (R62). -/
def State.loseSlot (s : State) (n : Fin 4) (b : Instant) : State :=
  let inSlot := fun (t : Instant) => decide (b ≤ t) && decide (t < b + slotT)
  let s := (s.slices[n].txs.filter (fun t => t.ramp.isNone && inSlot t.start)).foldl
    (fun s t => s.txAbandon n t 4 (if t.kind = 0x12 then some t.start else none)) s
  let drop := s.slices[n].runs.filter (fun r => !r.past && inSlot r.start)
  let s := drop.foldl (fun s r => s.entryEnd n (s.ledIdx n r.index) 5 4 0) s
  s.modSlice n (fun x => { x with
    runs := x.runs.map (fun r => if inSlot r.start then { r with past := true } else r)
    lostSlot := some b })

/-- CAL_FORCED (R62): at the first slot boundary, one superframe after the oldest request, that no transmission spans. -/
def execCalForced (n : Fin 4) (s : State) : Out :=
  match s.slices[n].oldest with
  | none => .next s
  | some t =>
    if s.syn n < 2 then .next s else
    let s := s.upTo (boundaryAt slotT (max s.now (t + superT)))
    if s.onAir n then .next s
    else
      let s := (s.beginCal n).loseSlot n (slotStart s.now)
      let s := (s.missSlice n 4 (t + superT)).inc (Obj.SLCn_CAL_FORCED n)
      .next (s.synEvent n 0x111)

/-- UNLOCK (R61, R65): the transmission on the air ramps down within 24 µt. The centre has not moved, so the loop settles in the
time of a move within the band (log 172). A loss after the last sample changes neither the ramp-down nor the outcome (R65, log 218). -/
def execUnlock (n : Fin 4) (s : State) : Out :=
  if s.syn n = 3 then
    let off := s.now + s.freeBelow 25
    let s := s.drawn
    let s := s.modTxs n (fun l => l.map (fun t =>
      if t.ramp.isSome && !t.ended && t.cut.isNone then { t with cut := some off } else t))
    let s := (s.calRequest n 2).inc (Obj.SLCn_UNLOCK_COUNT n)
    .next ((s.beginSettle n 1536).synEvent n 0x112)
  else .next s

/-- SAMPLE_CLOCK_LOCK_LOST (R24): listeners and transmit chain stop; slot and frame boundaries stay. The chain starts nothing
new; a transmission on the air runs to its end, since R65 names every case that cuts one (log 173). -/
def execSampleClockLockLost (n : Fin 4) (s : State) : Out :=
  .next ((s.modSlice n (fun x => { x with clock := false })).reblank n)

/-- SAMPLE_CLOCK_LOCK_RETURN (R24). -/
def execSampleClockLockReturn (n : Fin 4) (s : State) : Out :=
  .next (((s.modSlice n (fun x => { x with clock := true })).reblank n).release n)

/-! ## Aerial ports (R66-R71) -/

/-- The category of a return loss in 0.1 dB (R69). -/
def State.rlClass (s : State) (n : Fin 4) (rl : Nat) : Nat :=
  if s.o (Obj.SLCn_MISMATCH_RL n) ≤ rl then 1 else if 10 ≤ rl then 2 else 3

/-- PORTx_STATE of port p. -/
def portKey (n : Fin 4) (p : Nat) : Key := if p = 0 then Obj.SLCn_PORTA_STATE n else Obj.SLCn_PORTB_STATE n

/-- A return-loss measurement of port p: two that agree set its state (R69, R70). -/
def State.portMeasure (s : State) (n : Fin 4) (p : Fin 2) (rl : Nat) : State :=
  let c := s.rlClass n rl
  let old := s.o (portKey n p)
  let agree := s.slices[n].meas[p] = some c
  let s := s.setO (if p = 0 then Obj.SLCn_PORTA_RL n else Obj.SLCn_PORTB_RL n) (rl % 65536)
  let s := s.modSlice n (fun x => { x with meas := x.meas.set p (some c) })
  if agree && c ≠ old then
    let s := s.setO (portKey n p) c
    let s := if c = 2 && s.o (Obj.SLCn_AERIAL_MODE n) = 1 then s.modSlice n (fun x => { x with tunerDue := true }) else s
    if old = 0 then s
    else if c = 3 then s.raise 0x114 n p
    else if old = 3 then s.raise 0x113 n p
    else s.raise 0x115 n p
  else s

/-- A change of SLCn_AERIAL_MODE or SLCn_TX_PORT applies at a tick (R67, R68). -/
def State.aerialApply (s : State) (n : Fin 4) : State :=
  let s := if s.slices[n].switchEnd.isSome then s else s.blankOn n 8
  let s := s.modSlice n (fun x => { x with switchEnd := some (s.now + 3840) })
  if s.o (Obj.SLCn_AERIAL_MODE n) = 1 then
    let other := 1 - s.o (Obj.SLCn_TX_PORT n)
    (s.setO (portKey n other) 0).modSlice n (fun x => { x with meas := x.meas.set (other % 2) none (Nat.mod_lt _ (by decide)) })
  else s

/-- AERIAL_SWITCH_SETTLED (R68). -/
def execAerialSwitchSettled (n : Fin 4) (s : State) : Out :=
  match s.slices[n].switchEnd with
  | none => .next s
  | some t => .next (((s.upTo t).modSlice n (fun x => { x with switchEnd := none })).blankOff n 8)

/-- Slot k of the program in force is QUIET (R157); false in a fallback or PARKED frame (R162). -/
def State.quietSlot (s : State) (n : Fin 4) (k : Nat) : Bool :=
  s.o (Obj.SLCn_LC_STATE n) == 3 &&
  (match s.slices[n].prog with | none => false | some p => decide (fieldN p.header (12 + k) 1 % 8 = 3))

/-! ## The PA clamp (R73-R75), in eighths of a dB -/

/-- 10^30 × 10^(r/80) rounded down, for r from 0 to 79. -/
def pow80Table : List Nat :=
  [1000000000000000000000000000000, 1029200527194428169862119619786, 1059253725177288878809280373278, 1090184492385127645707603388566, 1122018454301963435591038946477, 1154781984689458179666482887295, 1188502227437018437730122464892, 1223207119049931548378190870741, 1258925411794167210423954106395, 1295686697517019472302508692684, 1333521432163324025675931715295, 1372460961007561968824858241937, 1412537544622754302155607863930, 1453784385607661833632603095171, 1496235656094433411880285114387, 1539926526059491989570485994945] ++
  [1584893192461113485202101373391, 1631172909227838308813955850117, 1678804018122560313971950080415, 1727825980507863418529958587218, 1778279410038922801225421195192, 1830206106311056048730877287720, 1883649089489800535000891150208, 1938652635952207316879749016301, 1995262314968879601352455396739, 2053525026457146074605752348295, 2113489039836646795560345317379, 2175204034019522681942656323955, 2238721138568339611954950852465, 2304092976055845607942493886529, 2371373705661655261651752757478, 2440619068041980328635255191999] ++
  [2511886431509580111085032067799, 2585234839562190737657331688227, 2660725059798809634991311702630, 2738419634264361294188696987389, 2818382931264453819101923699155, 2900681198693153682283246369831, 2985382618917959617913276962521, 3072557365267446687455463868189, 3162277660168379331998893544432, 3254617834980458775291573038608, 3349654391578276595487726190897, 3447466065731493806852909726822, 3548133892335754584332187022644, 3651741272548377058249952566045, 3758374042884441673777109591503, 3868120546330521757567480746197] ++
  [3981071705534972507702523050877, 4097321098135415007654980178448, 4216965034285822485690133595094, 4340102636447438364889478435333, 4466835921509631185562505243193, 4597269885308721785050057381309, 4731512589614804789032711120198, 4869675251658631149352974850343, 5011872336272722850015541868849, 5158221650723056738885028910948, 5308844442309883522004618683677, 5463865498818542127156765381570, 5623413251903490803949510397764, 5787619883491206435510476159123, 5956621435290104605097982825271, 6130557921498207061676898039597] ++
  [6309573444801932494343601366223, 6493816315762113151280328406978, 6683439175686146083625744673876, 6878599123088075983180053231833, 7079457843841379108022149421893, 7286181745132277114577292883718, 7498942093324558273021842756151, 7717915155850124143743396541195, 7943282347242815020659182828363, 8175230379436500065698449134274, 8413951416451950911527418938004, 8659643233600653523531691834202, 8912509381337455299531086810782, 9172759353897795847008750802728, 9440608762859233803643804966022, 9716279515771061741673428661688]

/-- 10^30 × 10^(e/80), the part above one decade exact. -/
def pow80 (e : Nat) : Nat := nth pow80Table (e % 80) 0 * 10 ^ (e / 80)

/-- Crest-factor backoff b(N) (R74). -/
def backoff (n : Nat) : Nat :=
  if n ≤ 1 then 0 else if n = 2 then 8 else if n ≤ 4 then 16 else if n ≤ 8 then 20 else if n ≤ 16 then 24 else 28

/-- p_max(N) of R74. -/
def State.pMax (s : State) (n : Fin 4) (cnt : Nat) : Int :=
  let lim := 4 * s.oi 8 (Obj.SLCn_TX_LIMIT n)
  let ceil : Int := if bandOf (s.o (Obj.SLCn_CENTRE_HZ n)) = 2 then 112 else 160
  min lim ceil - (backoff cnt : Int) - 2 * (min 12 (s.o (Obj.SLCn_PA_BACKOFF_AGE n)) : Nat)

/-- Σ 10^(p/10) of requested powers in eighths of a dBm, shifted up by 400 eighths. -/
def powerSum (ps : List Int) : Nat := sumL (ps.map (fun p => pow80 (p + 400).toNat))

/-- The least reduction in eighths, from r on, that brings the total to p_max. -/
def reduction (sum : Nat) (pmax : Int) : Nat → Nat → Nat
  | 0, r => r
  | f + 1, r => if sum ≤ pow80 (pmax + r + 400).toNat then r else reduction sum pmax f (r + 1)

/-- The reduction of every channel of a transmission (R75), 0 when the total is within p_max. -/
def State.clampBy (s : State) (n : Fin 4) (ps : List Int) : Nat := reduction (powerSum ps) (s.pMax n ps.length) 700 0

/-- The powers sent, with the clamp counted (R75), at the preparation of the transmission, whether or not it is later dropped
(log 174). -/
def State.clamp (s : State) (n : Fin 4) (ps : List Int) : List Int × State :=
  let r := s.clampBy n ps
  (ps.map (fun p => p - r), if r = 0 then s else s.inc (Obj.SLCn_TX_CLAMP_COUNT n))

/-! ## Tones (R69, R71, R225) -/

/-- Steps of 38.4 MHz / 2^24 nearest to a centre (R59, R81): the synthesizer runs at 9375 / 4096 Hz times these. -/
def synSteps (centre : Nat) : Nat := (2 * centre * 4096 + 9375) / (2 * 9375)

/-- The band of f ± w around the synthesizer's true centre, f and w given from the centre as written: the edges in whole Hz
outward. -/
def synBand (centre : Nat) (f w : Int) : Band :=
  let d : Int := (synSteps centre : Int) * 9375 - (centre : Int) * 4096
  ((4096 * (f - w) + d) / 4096, -((-(4096 * (f + w) + d)) / 4096))

/-- A tone of d µt prepared now starts and leaves the air in this slot (R69): 2,400 µt or more before its end, so never in the
tick gap (R34). -/
def State.toneFits (s : State) (d : Nat) : Bool :=
  slotStart (s.now + 384 + d + 96) == slotStart s.now

/-- A probe or tuner search of `d` µt through port p is prepared 384 µt before its start (R69, R71, R76, R225): its record, its
charge, and one channel of 10 kHz to each side of the centre at −10 dBm. `codes` are the return losses that
it finds: a probe's one, or the 64 of a search. -/
def State.toneSend (s : State) (n : Fin 4) (p : Fin 2) (d : Nat) (codes : List Nat) : State :=
  let led := s.ledIdx n (264 + slotOf s.now)
  let c := s.o (Obj.SLCn_CENTRE_HZ n)
  let s := s.writeRecord (sledAddr n led) (s.slices[n].tick / frameT % 2 ^ 32) 1 0x13 0 (8 + n.val) d 0 0 (slotOf s.now) 0
  let band := synBand c c 10000
  match s.airReserve n [band] (d + 192) false with
  | (none, s) => s.sledEnd n led 5 0x0A 0
  | (some (ks, cs), s) =>
    let (ps, s) := s.clamp n [-80]
    let t : TxSt := {
      kind := 0x13, led := led, start := s.now + 384, tol := 0, dur := d, lbt := false, be := 0
      at_ := s.now + 288, ramp := none, ended := false, cut := none, port := p, charge := d + 192, bkts := ks, cells := cs
      chans := ps.map (fun x => { chan := 0, bank := 0, mode := 0, lo := band.1, hi := band.2, dur := d, power := x, psdu := [] })
      sel := d, codes := codes }
    (s.modTxs n (fun l => l ++ [t])).recordState (sledAddr n led) 2

/-- A tone may be prepared now: in a QUIET slot, in LOCK, with nothing of the slice prepared or on the air (R69, R71). -/
def State.toneOk (s : State) (n : Fin 4) (d : Nat) : Bool :=
  s.quietSlot n (slotOf s.now) && s.canSend n && s.slices[n].txs.isEmpty && s.toneFits d

/-- A probe of port p is due (R69): PROBE_INT superframes without a transmission through a port in use. -/
def State.probeDue (s : State) (n : Fin 4) (p : Fin 2) : Bool :=
  decide (s.o (Obj.SLCn_PROBE_INT n) ≠ 0) && decide (s.o (Obj.SLCn_PROBE_INT n) ≤ s.slices[n].idle[p]) &&
  (s.o (Obj.SLCn_AERIAL_MODE n) == 0 || s.o (Obj.SLCn_TX_PORT n) == p.val)

/-- PROBE (R69): the tone of 2,400 µt is prepared, which will find the return loss given; it ramps and ends like
every transmission. -/
def execProbe (n : Fin 4) (p : Fin 2) (rl : Nat) (s : State) : Out :=
  if s.toneOk n 2400 && s.probeDue n p then .next (s.toneSend n p 2400 [rl]) else .next s

/-- Codes with the highest return loss. -/
def bestCodes (rls : List Nat) : List Nat :=
  let m := rls.foldl max 0
  (List.range rls.length).filter (fun i => nth rls i 0 == m)

/-- TUNER_SEARCH (R71): the tone of 4,800 µt, over which the 64 codes show these return losses, is prepared. -/
def execTunerSearch (n : Fin 4) (rls : List Nat) (s : State) : Out :=
  if s.toneOk n 4800 && s.o (Obj.SLCn_AERIAL_MODE n) = 1 && s.o (Obj.SLCn_TUNER_SET n) = 0xFF && s.slices[n].tunerDue &&
     rls.length = 64 then
    .next (s.toneSend n (asFin 2 (s.o (Obj.SLCn_TX_PORT n))) 4800 rls)
  else .next s

/-- A tuner search that ran to its end keeps the code with the highest return loss; which of equal ones is a free choice
(R71, log 23). -/
def State.tunerKeep (s : State) (n : Fin 4) (codes : List Nat) : State :=
  let best := bestCodes codes
  (((s.setO (Obj.SLCn_TUNER_NOW n) (nth best (s.freeBelow best.length) 0)).drawn).modSlice n (fun x => { x with tunerDue := false }))

/-- The tuner takes a code that SLCn_TUNER_SET holds, inside a QUIET slot of TUNE mode (R71). -/
def State.tunerTake (s : State) (n : Fin 4) : State :=
  let c := s.o (Obj.SLCn_TUNER_SET n)
  if s.o (Obj.SLCn_AERIAL_MODE n) = 1 && decide (c ≤ 63) && s.quietSlot n (slotOf s.now) && s.slices[n].txs.isEmpty &&
     !(s.anyHolds n) then
    s.setO (Obj.SLCn_TUNER_NOW n) c
  else s

/-! ## Transmission events (R63-R65, R76) -/

/-- The transmission whose ramp comes next. -/
def State.nextRamp (s : State) (n : Fin 4) : Option TxSt :=
  (s.slices[n].txs.filter (fun t => t.ramp.isNone)).foldl (fun (m : Option TxSt) t =>
    match m with
    | none => some t
    | some u => if t.start < u.start then some t else some u) none

/-- The transmission on the air. -/
def State.running (s : State) (n : Fin 4) : Option TxSt := s.slices[n].txs.find? (fun t => t.ramp.isSome)

/-- TX_RAMP_START (R63, R64, R76): at S − 96 µt. Without LOCK an entry waits and a gang ACK is withheld; an entry with LBT
ramps under R241. -/
def execTxRampStart (n : Fin 4) (s : State) : Out :=
  match s.nextRamp n with
  | none => .next s
  | some t =>
    let s := s.upTo (t.start - 96)
    if t.lbt then .next s
    else if s.canSend n then
      if t.start + t.tol < s.now + 96 then .next s else .next (s.rampUp n t)
    else if t.kind = 0x12 then .next (s.txAbandon n t 1 (some t.start))
    else .next s

/-- TX_START_DEADLINE (R63): no LOCK by S + tol − 96 µt. -/
def execTxStartDeadline (n : Fin 4) (s : State) : Out :=
  match s.nextRamp n with
  | none => .next s
  | some t =>
    let s := s.upTo (t.start + t.tol - 96)
    if s.canSend n || t.kind = 0x12 then .next s
    else if t.kind = 0x13 then .next (s.txAbandon n t 1 none)
    else .next ((s.txAbandon n t 1 (some (t.start + t.tol))).inc (Obj.SLCn_SYNBUSY_COUNT n))

/-- TX_END (R76): the last sample ends. -/
def execTxEnd (n : Fin 4) (s : State) : Out :=
  match s.running n with
  | none => .next s
  | some t =>
    if t.cut.isSome || t.ended then .next s
    else .next ((s.upTo (t.ramp.getD 0 + 96 + t.dur)).putTx n { t with ended := true })

/-- On-time without ramps of a transmission that is off since `off`. -/
def TxSt.sent (t : TxSt) (off : Instant) : Nat := min t.dur (off - (t.ramp.getD off + 96))

/-- The work done of R382 by a transmission off since `off`: bits of SEL for a burst, µt for an entry. -/
def TxSt.doneAt (t : TxSt) (off : Instant) : Nat :=
  if t.cut.isNone then t.sel
  else if t.kind = 0x11 then
    let idx := (List.range 16).filter (fun i => bitOf t.sel i)
    (List.zip idx (t.chans.map (fun c => c.dur))).foldl (fun m x => if x.2 ≤ t.sent off then setBit m x.1 true else m) 0
  else if t.kind = 0x12 then 0
  else t.sent off

/-- The PA turns off: settlement, record, counters (R76, R184, R185, R233). -/
def State.paOff (s : State) (n : Fin 4) (t : TxSt) (cutCause : Nat) : State :=
  let r := t.ramp.getD 0
  let off := match t.cut with | none => r + 192 + t.dur | some c => c
  let s := s.upTo off
  let a := min t.charge (off - r)
  let s := ((s.airSettle t.bkts t.cells t.charge a).addO 64 (Obj.SLCn_TX_AIR n) a).dropTx n t
  let s := s.modSlice n (fun x => { x with lastTx := some { t with at_ := off, ended := true } })
  let done := t.doneAt off
  let st := outcomeOf t.sel done
  if t.kind = 0x12 then
    if t.cut.isNone then
      let k := t.chans.length
      let s := (s.sledEnd n t.led 3 0 k).inc (Obj.SLCn_ACK_BURSTS n)
      (s.addO 32 (Obj.SLCn_ACK_CHANNELS n) k).setO (Obj.SLCn_ACK_LAST_N n) k
    else s.ackLost n t.led cutCause none
  else if t.kind = 0x13 then s.sledEnd n t.led st cutCause done
  else s.entryEnd n t.led st cutCause done

/-- The total of powers in eighths of a dBm, rounded down to an eighth. -/
def totalPower (ps : List Int) : Int :=
  let sum := powerSum ps
  (((List.range 700).filter (fun e => pow80 e ≤ sum)).length : Int) - 401

/-- The PA compression monitor takes a transmission (R551): forward power in 0.25 dBm against the power asked for, within 1 dB
of p_max and 6 dB or more below it. -/
def State.paCompress (s : State) (n : Fin 4) (t : TxSt) (fwd : Int) : State :=
  let ps := t.chans.map (fun c => c.power)
  let p := totalPower ps
  let m := s.pMax n ps.length
  let d := 2 * fwd - p
  if ps.isEmpty then s
  else if m - 8 ≤ p then
    { s with power := { s.power with paHigh := vmod s.power.paHigh n (fun x => (x.1 + d, x.2 + 1)) } }
  else if p ≤ m - 48 then
    { s with power := { s.power with paLow := vmod s.power.paLow n (fun x => (x.1 + d, x.2 + 1)) } }
  else s

/-- TX_PA_OFF (R76): with the return loss of the port measured during it and, in TUNE, the forward power (R66, R69); a tone that
was not cut finds the return loss that its own command gave, and a tuner search keeps its code and that code's return loss (R71). -/
def execTxPaOff (n : Fin 4) (rl : Nat) (fwd : Int) (s : State) : Out :=
  match s.running n with
  | none => .next s
  | some t =>
    let found := !t.codes.isEmpty && t.cut.isNone
    let s := (s.paOff n t 0x0F).portMeasure n (asFin 2 t.port) (if found then t.codes.foldl max 0 else rl)
    let s := if found && t.codes.length = 64 then s.tunerKeep n t.codes else s
    let s := if t.cut.isNone then s.paCompress n t fwd else s
    .next (if s.o (Obj.SLCn_AERIAL_MODE n) = 1 then s.setI 16 (Obj.SLCn_MON_FWD n) fwd else s)

/-- BLANKING_END (R76): 192 µt after the PA-off instant. -/
def execBlankingEnd (n : Fin 4) (s : State) : Out :=
  match s.slices[n].lastTx with
  | none => .next s
  | some t =>
    if s.slices[n].blanks.contains n.val then .next ((s.upTo (t.at_ + 192)).unblankRow n) else .next s

end Sys2Proof.Machine
end

