-- ==== Sys2Proof/Machine/Hot.lean ====
section
/-!
DEFINITION. The hot neighbour table and the cold table (07_air_frames.md R216-R222), loading maps and the map store
(05_phy_modes_loading.md R127-R147), and the resolution of a received frame's map (R144, R145).
-/
namespace Sys2Proof.Machine

/-! ## The hot table (R216, R217) -/

/-- Address of hot entry h. -/
def hotAddr (h : Nat) : Nat := 0x201C0000 + 32 * h

/-- The hot set of a link address. -/
def hotSet (a : Nat) : Nat := a * 0x9E3779B1 % 2 ^ 32 / 2 ^ 22

/-- FLAGS of hot entry h: bit 0 VALID, 1 PIN, 2 REF, 3 PROMOTED. -/
def State.hotFlags (s : State) (h : Nat) : Nat := s.rn (hotAddr h + 21) 1

/-- Set a flag of hot entry h. -/
def State.setHotFlag (s : State) (h b : Nat) (x : Bool) : State :=
  s.wn (hotAddr h + 21) 1 (setBit (s.hotFlags h) b x)

/-- LINK_ADDR of hot entry h. -/
def State.hotLink (s : State) (h : Nat) : Nat := s.rn (hotAddr h) 4

/-- The valid entry of link address a (R217). -/
def State.hotLookup (s : State) (a : Nat) : Option Nat :=
  ((List.range 8).map (fun w => 8 * hotSet a + w)).find? (fun h => bitOf (s.hotFlags h) 0 && s.hotLink h == a)

/-- Every way of set t is valid and pinned. -/
def State.hotFull (s : State) (t : Nat) : Bool :=
  (List.range 8).all (fun w => bitOf (s.hotFlags (8 * t + w)) 0 && bitOf (s.hotFlags (8 * t + w)) 1)

/-- A pin command for entry h (R220); none when refused. -/
def State.hotPin (s : State) (h : Nat) : Option State :=
  if 8192 ≤ h || !(bitOf (s.hotFlags h) 0) then none
  else
    let s' := s.setHotFlag h 1 true
    if s'.hotFull (h / 8) then none else some s'

/-- An unpin command for entry h (R220); none when refused. -/
def State.hotUnpin (s : State) (h : Nat) : Option State :=
  if 8192 ≤ h || !(bitOf (s.hotFlags h) 0) then none else some (s.setHotFlag h 1 false)

/-- A write of MAC_HOT_PIN (R220). -/
def State.hotPinWrite (s : State) (v : Nat) : Option State :=
  if 0x8000 ≤ v then s.hotUnpin (v - 0x8000) else s.hotPin v

/-- HOT_PIN (R220). -/
def execHotPin (who : Fin 8) (h : Nat) (s : State) : Out :=
  .next ((s.hotPin h).getD (s.dropped (windowAddr Obj.MAC_HOT_PIN) h who 3))

/-- HOT_UNPIN (R220). -/
def execHotUnpin (who : Fin 8) (h : Nat) (s : State) : Out :=
  .next ((s.hotUnpin h).getD (s.dropped (windowAddr Obj.MAC_HOT_PIN) (h + 0x8000) who 3))

/-! ## The cold table (R219) -/

/-- Address of a cold entry. -/
def State.coldAddr (s : State) (set way : Nat) : Nat := s.o Obj.MAC_COLD_BASE + 128 * set + 16 * way

/-- The cold set of a link address. -/
def coldSet (a : Nat) : Nat := a * 0x85EBCA6B % 2 ^ 32 / 2 ^ 15

/-- A read of a's cold set reports an uncorrectable block of it (R435). -/
def State.coldLook (s : State) (a : Nat) : State :=
  if s.powered (s.coldAddr (coldSet a) 0) then s.dramLook (s.coldAddr (coldSet a) 0) 128 else s

/-- The way that holds a; an entry in use has a LINK_ADDR other than 0 (DEDUCED, log 24). An entry that cannot be read is absent
(R435, R452). -/
def State.coldWay (s : State) (a : Nat) : Option Nat :=
  (List.range 8).find? (fun w => s.rn (s.coldAddr (coldSet a) w) 4 == a && s.hwHas (s.coldAddr (coldSet a) w) 16)

/-- The epoch-in-era count modulo 256. -/
def State.ageNow (s : State) : Nat := s.now / epochT % 256

/-- The way of a full cold set whose AGE lies furthest behind the current epoch, the lowest of equals. -/
def State.coldOldest (s : State) (set : Nat) : Nat :=
  let behind := fun w => (s.ageNow + 256 - s.rn (s.coldAddr set w + 13) 1) % 256
  (List.range 8).foldl (fun m w => if behind m < behind w then w else m) 0

/-- Write an entry of address a with H, BITS and KEY into the cold table (R219). -/
def State.coldWrite (s : State) (a h bits key : Nat) : State :=
  let set := coldSet a
  let body := leBytes 4 a ++ leBytes 4 h ++ leBytes 4 bits ++ leBytes 1 key ++ leBytes 1 s.ageNow ++ leBytes 2 0
  if !(s.powered (s.coldAddr set 7 + 15)) then s
  else
    match s.coldWay a with
    | some w => s.hwWrite (s.coldAddr set w) body
    | none =>
      match (List.range 8).find? (fun w => s.rn (s.coldAddr set w) 4 == 0) with
      | some w => (s.hwWrite (s.coldAddr set w) body).inc Obj.MAC_COLD_USED
      | none => (s.hwWrite (s.coldAddr set (s.coldOldest set)) body).inc Obj.MAC_COLD_EVICT

/-- Remove way w of a's cold set. -/
def State.coldRemove (s : State) (a w : Nat) : State :=
  (s.hwWrite (s.coldAddr (coldSet a) w) (List.replicate 16 0)).setO Obj.MAC_COLD_USED (s.o Obj.MAC_COLD_USED - 1)

/-- Every cell of a range of memory takes its unlisted value. -/
def State.clearMem (s : State) (lo n : Nat) : State :=
  { s with mem := s.mem.filter (fun c => !(decide (lo ≤ c.1) && decide (c.1 < lo + n))) }

/-- The cold table is emptied (R222). -/
def State.coldEmpty (s : State) : State := (s.clearMem (s.o Obj.MAC_COLD_BASE) 0x1000000).setO Obj.MAC_COLD_USED 0

/-- One byte of memory with VALID cleared when it is the FLAGS byte of a hot entry; a byte that becomes 0 is unlisted. -/
def dropValid (c : Host.Cell) : Option Host.Cell :=
  if 0x201C0000 ≤ c.1 && c.1 < 0x20200000 && c.1 % 32 = 21 then
    let v := BitVec.ofNat 8 (setBit c.2.toNat 0 false)
    if v = memDefault c.1 then none else some (c.1, v)
  else some c

/-- No hot entry is valid any more (R222). -/
def State.hotEmpty (s : State) : State :=
  { s with
    mac := { s.mac with victims := [] }
    mem := s.mem.filterMap dropValid }.setO Obj.MAC_HOT_USED 0

/-! ## Promotion (R219) -/

/-- The way of a set's last victim; before the first the sweep begins at way 0 (log 25). -/
def State.lastVictim (s : State) (t : Nat) : Nat := ((s.mac.victims.find? (fun x => x.1 == t)).map (·.2)).getD 7

/-- Remember the victim of a set. -/
def State.setVictim (s : State) (t w : Nat) : State :=
  { s with mac := { s.mac with victims := (t, w) :: s.mac.victims.filter (fun x => x.1 != t) } }

/-- Sweep the set from a way on: PIN is skipped, REF cleared, the first way with REF at 0 taken. -/
def State.sweep (s : State) (t : Nat) : Nat → Nat → Nat × State
  | 0, w => (w % 8, s)
  | f + 1, w =>
    let h := 8 * t + w % 8
    if bitOf (s.hotFlags h) 1 then State.sweep s t f (w + 1)
    else if bitOf (s.hotFlags h) 2 then State.sweep (s.setHotFlag h 2 false) t f (w + 1)
    else (w % 8, s)

/-- The victim way of set t (R219 step 1). -/
def State.victim (s : State) (t : Nat) : Nat × State :=
  match (List.range 8).find? (fun w => !(bitOf (s.hotFlags (8 * t + w)) 0)) with
  | some w => (w, s.setVictim t w)
  | none =>
    let (w, s) := s.sweep t 17 (s.lastVictim t + 1)
    (w, s.setVictim t w)

/-- A sender's window. -/
structure SeqWin where
  h : Nat
  bits : Nat
  floor : Nat
  key : Nat
  deriving DecidableEq, Repr

/-- The window of hot entry h. -/
def State.hotWin (s : State) (h : Nat) : SeqWin :=
  let a := hotAddr h
  ⟨s.rn (a + 4) 4, s.rn (a + 8) 8, s.rn (a + 16) 4, s.rn (a + 20) 1⟩

/-- Write a window into hot entry h. -/
def State.setHotWin (s : State) (h : Nat) (w : SeqWin) : State :=
  s.wbs (hotAddr h + 4) (leBytes 4 w.h ++ leBytes 8 w.bits ++ leBytes 4 w.floor ++ leBytes 1 w.key)

/-- The window a cold entry restores (R219 step 4). -/
def State.coldWin (s : State) (a w : Nat) : SeqWin :=
  let c := s.coldAddr (coldSet a) w
  let h := s.rn (c + 4) 4
  ⟨h, s.rn (c + 8) 4, h - 31, s.rn (c + 12) 1⟩

/-- Address of map record h (R143). -/
def State.mapRec (s : State) (h : Nat) : Nat := s.o Obj.MAC_MAP_BASE + 128 * h

/-- Promote link address a: its entry and, when it was in the cold table, the window restored; none for a fresh entry,
whose window the judge writes (R219). -/
def State.promote (s : State) (a : Nat) : Nat × Option SeqWin × State :=
  let t := hotSet a
  let (w, s) := s.victim t
  let h := 8 * t + w
  let old := bitOf (s.hotFlags h) 0
  let s := if old then
      let v := s.hotWin h
      (s.coldWrite (s.hotLink h) v.h v.bits v.key).inc Obj.MAC_HOT_EVICT
    else s.addO 16 Obj.MAC_HOT_USED 1
  let s := (s.hwWrite (s.mapRec h) (leBytes 4 a ++ [0, 0])).coldLook a
  let cw := s.coldWay a
  let win := cw.map (fun x => s.coldWin a x)
  let s := match cw with | some x => s.coldRemove a x | none => s
  let s := s.wbs (hotAddr h) (leBytes 4 a ++ List.replicate 17 0 ++ leBytes 1 (if cw.isSome then 9 else 1) ++ List.replicate 10 0)
  (h, win, match win with | some v => s.setHotWin h v | none => s)

/-! ## Loading maps (R138-R141) -/

/-- The load code of data subcarrier d of a map of 24 bytes. -/
def loadCode (m : Bytes) (d : Nat) : Nat :=
  let b := fieldN m (2 + d / 2) 1
  if d % 2 = 0 then b % 16 else b / 16

/-- Coded bits of a load code. -/
def codeBits (c : Nat) : Nat := nth [0, 1, 2, 4, 6, 0, 0, 0] (c % 8) 0

/-- A load code is reserved (R139). -/
def codeReserved (c : Nat) : Bool := decide (5 ≤ c % 8) || c == 8

/-- Coded bits per symbol of a map. -/
def mapBits (m : Bytes) : Nat := sumL ((List.range 44).map (fun d => codeBits (loadCode m d)))

/-- A per-link map is valid (R141). -/
def mapOk (m : Bytes) : Bool :=
  decide (mapBits m ≠ 0) && !((List.range 44).any (fun d => codeReserved (loadCode m d))) &&
  decide (fieldN m 1 1 % 4 ≠ 3) && decide (16 ≤ fieldN m 0 1)

/-- Slot of a map record: 0 UPA, 1 UPB, 2 DNA, 3 DNB. -/
def State.mapSlot (s : State) (h i : Nat) : Bytes := s.rbs (s.mapRec h + 16 + 24 * i) 24

/-- The map a transmission under record h uses (R147): the bytes, or none with the state that counts an invalid map. -/
def State.downMap (s : State) (h : Nat) : Option Bytes × State :=
  let ctrl := s.rn (s.mapRec h + 4) 1
  let sel := if bitOf ctrl 4 then 3 else 2
  if !(s.hwHas (s.mapRec h) 128) || !(bitOf ctrl sel) then (none, s)
  else
    let m := s.mapSlot h sel
    if mapOk m then (some m, s) else (none, s.inc Obj.MAC_MAP_INVALID)

/-- One bit of the lead check, x^6 + x + 1 (R131). -/
def lcsBit (r : Nat) (b : Bool) : Nat :=
  if bitOf r 5 != b then (r * 2 % 64) ^^^ 3 else r * 2 % 64

/-- The lead check of a link address, its bits in sending order (R131; bit order DEDUCED, log 26). -/
def leadCheck (a : Nat) : Nat := (List.range 32).foldl (fun r i => lcsBit r (bitOf a i)) 0x3F

/-- The uplink slot that header MAP_ID names in record h for address a (R144): 0 UPA, 1 UPB. -/
def State.upSlot (s : State) (h a id : Nat) : Option Nat :=
  if s.rn (s.mapRec h) 4 = a then
    [0, 1].find? (fun i => bitOf (s.rn (s.mapRec h + 4) 1) i && fieldN (s.mapSlot h i) 0 1 == id)
  else none

/-- Look a per-link map up (R142, R144): hot entry, slot and bits per symbol; a record that cannot be read leaves it unresolved
(R435, R452). -/
def State.lookupMap (s : State) (a id : Nat) : Option (Nat × Nat × Nat) × State :=
  let s := s.inc Obj.MAC_MAP_LOOKUPS
  if !(s.ob Obj.MAC_MAP_ENABLE) || s.dramSleeps then (none, s)
  else match s.hotLookup a with
    | none => (none, s)
    | some h =>
      let held := s.hwHas (s.mapRec h) 64
      let s := if s.powered (s.mapRec h) then s.dramLook (s.mapRec h) 64 else s
      match (if held then s.upSlot h a id else none) with
      | none => (none, s)
      | some i =>
        let m := s.mapSlot h i
        if mapOk m then (some (h, i, mapBits m), s) else (none, s.inc Obj.MAC_MAP_INVALID)

/-- The map is resolved: the frame goes on, or is abandoned when it exceeds 160 symbols (R127, R145). -/
def State.resolved (s : State) (n : Fin 4) (k : Fin 48) (addr b : Nat) (up : Option (Nat × Nat)) : State :=
  let l := s.slices[n].lsn[k]
  if 160 < 4 + payloadSyms l.len l.rate b then (s.inc (Obj.SLCn_PHY_TOOLONG n)).giveUp n k
  else s.modLsn n k (fun l => { l with
    resolved := true
    addr := addr
    upslot := up
    endAt := some (l.first + lofdmDur l.len l.rate b) })

/-- MAP_RESOLVE (R131, R144, R145): the lead block ends at F + 9,600 µt. A per-link map that has not been
read by F + 12,000 µt is unresolved (R444). -/
def execMapResolve (n : Fin 4) (k : Fin 48) (addr check : Nat) (s : State) : Out :=
  let l := s.slices[n].lsn[k]
  if s.lsnState n k = 3 && aMode (s.lsnNow n k) = 1 && !l.resolved then
    let late := decide (l.first + 12000 < s.now)
    let s := s.upTo (l.first + 9600)
    let addr := addr % 2 ^ 32
    if check % 64 ≠ leadCheck addr then .next ((s.inc (Obj.SLCn_PHY_LCSFAIL n)).giveUp n k)
    else if l.mapId < 16 then .next (s.resolved n k addr (fixedBits l.mapId) none)
    else
      match (match s.lookupMap addr l.mapId with | (r, s) => (if late then none else r, s)) with
      | (some (h, i, b), s) => .next (s.resolved n k addr b (some (h, i)))
      | (none, s) => .next (((s.inc (Obj.SLCn_PHY_MAPMISS n)).inc Obj.MAC_MAP_MISS).giveUp n k)
  else .next s

end Sys2Proof.Machine
end

