-- ==== Sys2Proof/Machine/Wave.lean ====
section
/-!
DEFINITION. The signal of an LOFDM frame, symbol by symbol and sample by sample, and what stands ahead of and behind the PSDU
of a standard PHY (05_phy_modes_loading.md R121-R137). Amplitudes stay exact: a point is a pair of integers with the square of
its scale, a power is a weight out of a total, and a time sample is the sum of its turned subcarriers, term by term.
-/
namespace Sys2Proof.Machine

/-! ## Bits in sending order (R129, R131, R132) -/

/-- The low n bits of v, bit 0 first. -/
def bitsUp (n v : Nat) : List Bool := (List.range n).map (fun i => bitOf v i)

/-- Bytes as bits, each byte's bit 0 first (log 26). -/
def bitsOfBytes (b : Bytes) : List Bool := b.flatMap (fun x => bitsUp 8 x.toNat)

/-- The number that bits spell, the first being bit 0. -/
def bitsNat : List Bool → Nat
  | [] => 0
  | b :: r => b2n b + 2 * bitsNat r

/-- The first n bytes of a bit string. -/
def bytesOfBits (n : Nat) (l : List Bool) : Bytes :=
  (List.range n).map (fun i => BitVec.ofNat 8 (bitsNat ((l.drop (8 * i)).take 8)))

/-! ## The scrambler (R132) -/

/-- The output of the register, bit 6 xor bit 3. -/
def scrOut (s : Nat) : Bool := bitOf s 6 != bitOf s 3

/-- The register after a step. -/
def scrNext (s : Nat) : Nat := (2 * s + b2n (scrOut s)) % 128

/-- Bits scrambled, or descrambled, from a register value on. -/
def scramble : Nat → List Bool → List Bool
  | _, [] => []
  | s, b :: r => (b != scrOut s) :: scramble (scrNext s) r

/-- The first n bits of the sequence q: the outputs of the register started at 0x7F. -/
def seqQ (n : Nat) : List Bool := scramble 0x7F (List.replicate n false)

/-! ## The convolutional code (R123, R133) -/

/-- The parity of the 7 bits of v that a generator names. -/
def tap (g v : Nat) : Bool := popCount 7 (natAnd g v) % 2 == 1

/-- The outputs A (133 octal) and B (171 octal) for each bit, from a state of the last 6 bits; the newest bit stands under the
highest tap (log 175). -/
def convolve : Nat → List Bool → List (Bool × Bool)
  | _, [] => []
  | s, b :: r =>
    let v := 64 * b2n b + s
    (tap 0o133 v, tap 0o171 v) :: convolve (v / 2) r

/-- The outputs kept for bit i at a rate: 0 is 1/2, 1 is 2/3, 2 is 3/4 (R133). -/
def punctured (rate i : Nat) (o : Bool × Bool) : List Bool :=
  if rate = 0 then [o.1, o.2]
  else if rate = 1 then (if i % 2 = 0 then [o.1, o.2] else [o.1])
  else if i % 3 = 0 then [o.1, o.2] else if i % 3 = 1 then [o.1] else [o.2]

/-- A block encoded from state 0 (R133). -/
def encodeBlock (rate : Nat) (l : List Bool) : List Bool :=
  let o := convolve 0 l
  (List.zip (List.range o.length) o).flatMap (fun x => punctured rate x.1 x.2)

/-! ## Interleaving and points (R134, R135) -/

/-- The data subcarriers in the order in which a symbol's coded bits are dealt: a round takes one bit to each that has a bit
position left (R134). -/
def dealt (bits : List Nat) : List Nat :=
  (List.range 6).flatMap (fun r => ((List.range 44).map (fun i => 13 * i % 44)).filter (fun d => decide (r < nth bits d 0)))

/-- The bits of data subcarrier d, position 0 first, out of a symbol's coded bits. -/
def bitsAt (order : List Nat) (coded : List Bool) (d : Nat) : List Bool :=
  (List.zip order coded).filterMap (fun x => if x.1 = d then some x.2 else none)

/-- A point of the plane: (i + j q) / √norm. -/
structure Point where
  i : Int
  q : Int
  norm : Nat
  deriving DecidableEq, Repr

/-- The index of a Gray code, its first bit the highest. -/
def grayIndex : Bool → List Bool → Nat
  | _, [] => 0
  | p, b :: r => b2n (p != b) * 2 ^ r.length + grayIndex (p != b) r

/-- One axis of R135: the codes in Gray order run from the lowest level to the highest, 2 apart. -/
def axis (l : List Bool) : Int := 2 * (grayIndex false l : Int) - (2 ^ l.length - 1 : Nat)

/-- The point of a subcarrier's bits (R135): none carried, BPSK, QPSK, 16-QAM, 64-QAM. -/
def pointOf (l : List Bool) : Point :=
  match l.length with
  | 0 => ⟨0, 0, 1⟩
  | 1 => ⟨axis l, 0, 1⟩
  | n => ⟨axis (l.take (n / 2)), axis (l.drop (n / 2)), nth [1, 1, 2, 1, 10, 1, 42] n 1⟩

/-! ## Subcarriers and symbols (R124-R126, R136, R137) -/

/-- A used subcarrier of a symbol: its point and its weight in thousandths. -/
structure Carrier where
  pt : Point
  weight : Nat
  deriving DecidableEq, Repr

/-- A subcarrier that carries nothing. -/
def Carrier.off : Carrier := ⟨⟨0, 0, 1⟩, 0⟩

/-- A BPSK value, −1 where x. -/
def bpsk (x : Bool) : Point := ⟨if x then -1 else 1, 0, 1⟩

/-- Subcarrier number s of entry j (R124). -/
def subOf (j : Nat) : Int := if j < 24 then (j : Int) - 24 else (j : Int) - 23

/-- The frequency in Hz of entry j of a channel centred at f (R124). -/
def subHz (f : Int) (j : Nat) : Int := f + 20000 * subOf j

/-- The entries of the pilots (R124). -/
def pilotEntries : List Nat := [3, 17, 30, 44]

/-- Entry j of data subcarrier d (R124). -/
def dataEntry (d : Nat) : Nat :=
  if d ≤ 2 then d else if d ≤ 15 then d + 1 else if d ≤ 27 then d + 2 else if d ≤ 40 then d + 3 else d + 4

/-- P0 of R125: BPSK on s = −24, −16, −8, 8, 16 and 24. -/
def preamble0 : List Carrier :=
  (List.range 48).map (fun j =>
    match [(0, false), (8, true), (16, false), (31, false), (39, true), (47, true)].find? (fun (x : Nat × Bool) => x.1 == j) with
    | some x => ⟨bpsk x.2, 1000⟩
    | none => Carrier.off)

/-- P1 of R125: BPSK of 1 − 2q on every entry. -/
def preamble1 : List Carrier := (seqQ 48).map (fun b => ⟨bpsk b, 1000⟩)

/-- The pilot at entry j of symbol m, counted from the header (R136): v is −1 at entry 44. -/
def pilot (q : List Bool) (j m : Nat) : Point := bpsk ((j == 44) != nth q m false)

/-- The weight of a load code: off, loaded, or boosted by 10^0.2 (R137, R139). -/
def loadWeight (c : Nat) : Nat := if c % 8 = 0 then 0 else if bitOf c 3 then 1585 else 1000

/-- Symbol m of header, lead and payload under load codes, with its coded bits (R124, R134-R137). -/
def dataSymbol (q : List Bool) (loads : List Nat) (order : List Nat) (m : Nat) (coded : List Bool) : List Carrier :=
  (List.range 48).map (fun j =>
    if pilotEntries.contains j then ⟨pilot q j m, 1000⟩
    else
      match (List.range 44).find? (fun d => dataEntry d == j) with
      | some d => ⟨pointOf (bitsAt order coded d), loadWeight (nth loads d 0)⟩
      | none => Carrier.off)

/-- The part of the channel's power on entry j, as its weight and the sum of the weights (R125, R137). -/
def subShare (sym : List Carrier) (j : Nat) : Nat × Nat := ((nth sym j Carrier.off).weight, sumL (sym.map (fun x => x.weight)))

/-! ## The blocks (R129-R133) -/

/-- The 38 header bits (R129). -/
def headBits (len id rate seed : Nat) : Nat :=
  let v := len % 2048 + 2048 * (id % 256) + 524288 * (rate % 4) + 2097152 * (seed % 128)
  v + 1073741824 * hcsOf v

/-- The header block: the header and 6 tail bits. -/
def headBlock (head : Nat) : List Bool := bitsUp 38 head ++ List.replicate 6 false

/-- The lead block (R131): the link address, the lead check and 6 tail bits. -/
def leadBlock (psdu : Bytes) : List Bool :=
  let a := fieldN psdu 0 4
  bitsUp 32 a ++ bitsUp 6 (leadCheck a) ++ List.replicate 6 false

/-- The PSDU bytes from 4 on with the CRC-32 of all of it (R132). -/
def payloadBytes (psdu : Bytes) : Bytes := psdu.drop 4 ++ leBytes 4 (crc32 psdu)

/-- The payload block (R132): scrambled from SEED, the 6 tail bits left plain. -/
def payloadBlock (seed : Nat) (psdu : Bytes) : List Bool :=
  scramble seed (bitsOfBytes (payloadBytes psdu)) ++ List.replicate 6 false

/-- Coded bits cut into symbols of b bits, the last filled with 0 (R133). -/
def symbolBits (b : Nat) (l : List Bool) : List (List Bool) :=
  (List.range (ceilDiv l.length b)).map (fun i =>
    let x := (l.drop (b * i)).take b
    x ++ List.replicate (b - x.length) false)

/-! ## The frame (R123-R127) -/

/-- The symbols of a frame: P0, P1, header, lead and payload (R125, R126). -/
def lofdmSymbols (head : Nat) (loads : List Nat) (psdu : Bytes) : List (List Carrier) :=
  let q := seqQ 160
  let qpsk := List.replicate 44 2
  let order := dealt qpsk
  let bits := loads.map codeBits
  let pay := symbolBits (sumL bits) (encodeBlock (fld head 20 19) (payloadBlock (fld head 27 21) psdu))
  let front := [preamble0, preamble1, dataSymbol q qpsk order 0 (encodeBlock 0 (headBlock head)),
    dataSymbol q qpsk order 1 (encodeBlock 0 (leadBlock psdu))]
  let porder := dealt bits
  front ++ (List.zip (List.range pay.length) pay).map (fun x => dataSymbol q loads porder (x.1 + 2) x.2)

/-- One term of a time sample: a subcarrier's point and power share, turned by turn / 64 of a full circle. -/
structure Term where
  pt : Point
  share : Nat × Nat
  turn : Nat
  deriving DecidableEq, Repr

/-- Time sample i of a symbol (R124): the sum of X(s) × e^(j2πsi/64). -/
def timeSample (sym : List Carrier) (i : Nat) : List Term :=
  (List.range 48).map (fun j => ⟨(nth sym j Carrier.off).pt, subShare sym j, (subOf j * (i : Int) % 64).toNat⟩)

/-- The 80 samples of a symbol: the cyclic prefix, samples 48 to 63, ahead of samples 0 to 63 (R123, R124). -/
def symbolSamples (sym : List Carrier) : List (List Term) :=
  ((List.range 16).map (fun i => timeSample sym (48 + i))) ++ (List.range 64).map (timeSample sym)

/-! ## The frame of a channel on the air -/

/-- The load codes of a fixed map (R140). -/
def fixedLoads (id : Nat) : List Nat := List.replicate 44 (id % 4 + 1)

/-- The symbols that a channel of a transmission sends, under LOFDM. -/
def TxChan.symbols (c : TxChan) : List (List Carrier) := lofdmSymbols c.head c.loads c.psdu

/-- The octets that a channel of a transmission sends in a standard PHY (R119, R121): SHR and PHR, the PSDU, the FCS. The SHR
and PHR of O-QPSK stand in R119; those of the other modes are the standard's. -/
def TxChan.octets (c : TxChan) : Bytes :=
  (if c.mode = 2 then [0, 0, 0, 0, 0xA7, BitVec.ofNat 8 c.head] else Config.stdHead c.mode c.sfd c.head c.fcs.length) ++ c.psdu ++ c.fcs

/-! ## What a listener decodes (R131, R132) -/

/-- The bytes of a payload block as decoded, still scrambled: PSDU bytes from 4 on and the CRC-32. -/
def descrambled (seed : Nat) (raw : Bytes) : Bytes := bytesOfBits raw.length (scramble seed (bitsOfBytes raw))

/-- The PSDU of an LOFDM frame of LENGTH len, its link address from the lead block, and whether its CRC-32 is good. -/
def lofdmPsdu (addr len seed : Nat) (raw : Bytes) : Bytes × Bool :=
  let b := descrambled seed (sliceB raw 0 len)
  let p := leBytes 4 addr ++ b.take (len - 4)
  (p, fieldN b (len - 4) 4 == crc32 p)

/-- The PSDU of a standard PHY of len bytes without its FCS, and whether the FCS is good. -/
def stdPsdu (len fcs : Nat) (raw : Bytes) : Bytes × Bool :=
  let p := sliceB raw 0 len
  (p, sliceB raw len fcs == Config.stdFcs fcs p)

end Sys2Proof.Machine
end

