-- ==== Sys2Proof/Machine/Phy.lean ====
section
/-!
DEFINITION. The exchange and computation of loading maps by the base firmware (05_phy_modes_loading.md R146-R153).
-/
namespace Sys2Proof.Machine

/-- Set a CTRL bit of map record h. -/
def State.setMapCtrl (s : State) (h b : Nat) (x : Bool) : State :=
  s.hwWrite (s.mapRec h + 4) (leBytes 1 (setBit (s.rn (s.mapRec h + 4) 1) b x))

/-- Change what the MAC and the base firmware's map exchange hold. -/
def State.modMac (s : State) (f : MacSt → MacSt) : State := { s with mac := f s.mac }

/-- A MAP_SET goes to a tag; it stands in place of an earlier one of its direction until the tag confirms it (R149, R210). -/
def State.sendMapSet (s : State) (tag : Nat) (m : Bytes) : State :=
  s.modMac (fun x => { x with
    mapSets := x.mapSets.filter (fun y => !(y.1 == tag && fieldN y.2 3 1 == fieldN m 1 1)) ++ [(tag, [2, 24] ++ sliceB m 0 24)] })

/-- Steps 1 and 2 of R146 for slot i of record h: its valid bit and SEEN bit cleared; the 24 bytes wait for the next tick. -/
def State.installMap (s : State) (h i tag : Nat) (m : Bytes) (send : Bool) : State :=
  let s := s.setMapCtrl h i false
  let s := if i < 2 then s.hwWrite (s.mapRec h + 5) (leBytes 1 (setBit (s.rn (s.mapRec h + 5) 1) i false)) else s
  s.modMac (fun x => { x with mapDue := x.mapDue.filter (fun y => !(y.h == h && y.slot == i)) ++ [⟨h, i, tag, sliceB m 0 24, send⟩] })

/-- Record h is the tag's, or reads as zeros since HIBERNATE lost the map store (R222). -/
def State.recordOf (s : State) (h tag : Nat) : Bool := s.rn (s.mapRec h) 4 == tag || s.rn (s.mapRec h) 4 == 0

/-- A record that HIBERNATE lost is the tag's again, with no map (R222). -/
def State.claimRecord (s : State) (h tag : Nat) : State :=
  if s.rn (s.mapRec h) 4 = 0 then s.hwWrite (s.mapRec h) (leBytes 4 tag ++ [0, 0]) else s

/-- Step 3 of R146 at the tick: the bytes, then the valid bit, and only then the MAP_SET (R149); nothing where the record has
passed to another link address or the DRAM is in self-refresh. -/
def State.mapWrite (s : State) (d : MapDue) : State :=
  if !(s.hwHas (s.mapRec d.h) 128) || !(s.recordOf d.h d.tag) then s
  else
    let s := s.claimRecord d.h d.tag
    let s := (s.hwWrite (s.mapRec d.h + 16 + 24 * d.slot) d.map).setMapCtrl d.h d.slot true
    let s := if d.slot < 2 then s.modMac (fun x => { x with upNew := (d.h, d.slot) :: x.upNew.filter (fun y => y.1 != d.h) }) else s
    if d.send then s.sendMapSet d.tag d.map else s

/-- The map writes that wait for this tick, and the downlink slots given up (R146, R149). -/
def State.mapTick (s : State) : State :=
  let due := s.mac.mapDue
  let old := s.mac.dnClear
  let s := s.modMac (fun x => { x with mapDue := [], dnClear := [] })
  let s := old.foldl (fun (s : State) x => s.setMapCtrl x.1 x.2 false) s
  due.foldl (fun (s : State) d => s.mapWrite d) s

/-- Slot i of record h is valid. -/
def State.slotValid (s : State) (h i : Nat) : Bool := bitOf (s.rn (s.mapRec h + 4) 1) i

/-- SEEN bit of uplink slot i. -/
def State.slotSeen (s : State) (h i : Nat) : Bool := bitOf (s.rn (s.mapRec h + 5) 1) i

/-- A map waits to be written into slot i of record h. -/
def State.slotDue (s : State) (h i : Nat) : Option MapDue := s.mac.mapDue.find? (fun d => d.h == h && d.slot == i)

/-- A free uplink slot, else an unseen one (R151). -/
def State.openSlot (s : State) (h : Nat) : Option Nat :=
  match [0, 1].find? (fun i => !(s.slotValid h i) && (s.slotDue h i).isNone) with
  | some i => some i
  | none => [0, 1].find? (fun i => !(s.slotSeen h i))

/-- Record h holds this uplink map, or is about to. -/
def State.holdsUp (s : State) (h : Nat) (m : Bytes) : Bool :=
  [0, 1].any (fun i => (s.slotValid h i && s.mapSlot h i == m) || (s.slotDue h i).any (fun d => d.map == m))

/-- REPORT_MAP_INSTALL (R151): the entry is pinned where that is possible (R220). -/
def execReportMapInstall (addr : Nat) (map : Bytes) (s : State) : Out :=
  let m := sliceB map 0 24
  match s.hotLookup (addr % 2 ^ 32) with
  | none => .next s
  | some h =>
    if !(s.hwHas (s.mapRec h) 128) || !(mapOk m) || !(s.recordOf h (addr % 2 ^ 32)) ||
       s.holdsUp h m then .next s
    else
      match s.openSlot h with
      | none => .next s
      | some i =>
        let s := s.installMap h i (addr % 2 ^ 32) m false
        .next ((s.hotPin h).getD s)

/-! ## Computing a map (R152) -/

/-- Thresholds of R152 in half dB: rate, modulation 0 (off) to 4. -/
def loadTh (r m : Nat) : Nat :=
  nth (nth [[0, 8, 14, 26, 38], [0, 11, 17, 30, 42], [0, 13, 20, 34, 46]] r []) m 0

/-- 10 × log10(num / den) dB is at least y / q dB. -/
def dbGe (num den q : Nat) (y : Int) : Bool :=
  if 0 ≤ y then decide (10 ^ y.toNat * den ^ (10 * q) ≤ num ^ (10 * q))
  else decide (den ^ (10 * q) ≤ num ^ (10 * q) * 10 ^ (-y).toNat)

/-- What the loading method works on: c records averaged, e[d] in units of 1 / (32 c) dB. -/
structure LoadIn where
  c : Nat
  e : List Int
  deriving DecidableEq, Repr

/-- e[d] + extra + 10 × log10(num / den) reaches the threshold of modulation m at rate r; extra is 2 dB when b. -/
def LoadIn.reaches (x : LoadIn) (r d m num den : Nat) (b : Bool) : Bool :=
  let th : Int := 16 * loadTh r m * x.c
  dbGe num den (32 * x.c) (th - nth x.e d 0 - (if b then (64 * x.c : Nat) else (0 : Nat)))

/-- The highest modulation whose threshold lies at or below e[d]. -/
def LoadIn.first (x : LoadIn) (r d : Nat) : Nat :=
  ([4, 3, 2, 1].find? (fun m => decide ((16 * loadTh r m * x.c : Nat) ≤ nth x.e d (-1)))).getD 0

/-- Loads and candidates of the method. -/
abbrev Loads := List (Nat × Bool)

/-- 48 − k in thousandths plus 585 for each candidate; k counts those off and not candidates. -/
def loadDen (l : Loads) (cands : Bool) : Nat :=
  48000 - 1000 * (l.filter (fun x => x.1 == 0 && !(cands && x.2))).length +
    (if cands then 585 * (l.filter (fun x => x.2)).length else 0)

/-- One pass of the loop of R152. -/
def LoadIn.pass (x : LoadIn) (r : Nat) (l : Loads) : Loads :=
  let den := loadDen l true
  let l := (List.zip (List.range 44) l).map (fun p => (p.1, p.2.1, p.2.2 && x.reaches r p.1 (p.2.1 + 1) 48000 den true))
  l.map (fun p => if !p.2.2 && decide (0 < p.2.1) && !(x.reaches r p.1 p.2.1 48000 den false) then (p.2.1 - 1, false)
    else (p.2.1, p.2.2))

/-- The loop, until no change. -/
def LoadIn.settle (x : LoadIn) (r : Nat) : Nat → Loads → Loads
  | 0, l => l
  | f + 1, l => let m := x.pass r l; if m = l then l else LoadIn.settle x r f m

/-- The load codes of a rate (R152). -/
def LoadIn.loads (x : LoadIn) (r : Nat) : List Nat :=
  let base : Loads := (List.range 44).map (fun d => (x.first r d, false))
  let den := loadDen base false
  let cand := (List.zip (List.range 44) base).map (fun p =>
    (p.2.1, decide (p.2.1 < 4) && x.reaches r p.1 (p.2.1 + 1) 48000 den true))
  (x.settle r 300 cand).map (fun p => if p.2 then p.1 + 1 + 8 else p.1)

/-- Twelve times the information bits per symbol. -/
def loadInfo (r bits : Nat) : Nat := nth [6, 8, 9] r 0 * bits

/-- The best rate among those allowed, a tie going to the lower: rate, load codes and info. -/
def LoadIn.best (x : LoadIn) (rates : Nat) : Nat × List Nat × Nat :=
  ((List.range 3).filter (fun r => bitOf rates r)).foldl (fun (m : Nat × List Nat × Nat) r =>
    let l := x.loads r
    let i := loadInfo r (sumL (l.map codeBits))
    if m.2.2 < i then (r, l, i) else m) (0, [], 0)

/-- The 24 bytes of a map (R138). -/
def mapBytes (id rate dir : Nat) (l : List Nat) : Bytes :=
  leBytes 1 id ++ leBytes 1 (rate + 4 * dir) ++
    (List.range 22).flatMap (fun i => leBytes 1 (nth l (2 * i) 0 + 16 * nth l (2 * i + 1) 0))

/-- SC_SNR nibble of entry j in 24 bytes. -/
def scSnr (b : Bytes) (j : Nat) : Nat :=
  let x := fieldN b (j / 2) 1
  if j % 2 = 0 then x % 16 else x / 16

/-- Addresses of the elements of slice n's receive ring that hold LOFDM frames of hot entry h, newest first (R211). -/
def State.ringOf (s : State) (n : Fin 4) (h : Nat) : List Nat :=
  let prod := s.o (Obj.MAC_RXQn_PROD n)
  let base := 0x24078000 + 0x80000 * n.val
  ((List.range (min prod 256)).map (fun i => base + 64 * ((prod - 1 - i) % 256))).filter (fun a =>
    s.rn (a + 52) 2 == h && s.rn (a + 12) 1 % 16 == 1)

/-- pen[d] in half dB: PEAK − MEAN of the entry in the last published map, 6 dB without data (R152). -/
def State.penOf (s : State) (n : Fin 4) (chan d : Nat) : Nat :=
  let a := s.o (Obj.SLCn_MAP_ADDR n) + 0x2000 * s.o (Obj.SLCn_MAP_BUF n) + 20 + 100 * chan + 2 * dataEntry d
  let mean := s.rn a 1
  let peak := s.rn (a + 1) 1
  if mean = 255 || peak = 255 then 12 else peak - mean

/-- The inputs of an uplink map (R152). -/
def State.upInputs (s : State) (n : Fin 4) (recs : List Nat) : LoadIn :=
  let c := recs.length
  let chan := s.rn ((recs.head?.getD 0) + 11) 1
  ⟨c, (List.range 44).map (fun d =>
    let snr := sumL (recs.map (fun a => scSnr (s.rbs (a + 24) 24) (dataEntry d)))
    ((64 * snr : Nat) : Int) - (s.o Obj.NBF_LOAD_PEAK_W * s.penOf n chan d * c : Nat) - (16 * s.o Obj.NBF_LOAD_MARGIN * c : Nat))⟩

/-- The inputs of a downlink map that a burst of slice n at powers ps, in 0.5 dBm, will use: R75 gives the reduction (R152). -/
def State.downInputs (s : State) (n : Fin 4) (snr : Bytes) (ps : List Int) : LoadIn :=
  let red := s.clampBy n (ps.map (fun p => 4 * p))
  ⟨1, (List.range 44).map (fun d =>
    ((64 * scSnr snr (dataEntry d) : Nat) : Int) - (16 * s.o Obj.NBF_LOAD_MARGIN : Nat) - (4 * red : Nat))⟩

/-- Some loaded subcarrier of the map in use lies below its threshold. -/
def LoadIn.below (x : LoadIn) (m : Bytes) : Bool :=
  (List.range 44).any (fun d =>
    let c := loadCode m d % 8
    decide (0 < c) && decide (nth x.e d 0 < (16 * loadTh (fieldN m 1 1 % 4) c * x.c : Nat)))

/-- The MAP_ID after another (DEDUCED, log 27). -/
def bumpMapId (id : Nat) : Nat := if 255 ≤ id || id < 16 then 16 else id + 1

/-- A MAP_ID unlike that of the map in use and unlike that of the map beside it (R149): the next one (DEDUCED, log 27). -/
def nextMapId (id beside : Nat) : Nat := if bumpMapId id = beside then bumpMapId beside else bumpMapId id

/-- MAP_ID of the map that slot i of record h holds, or is about to hold; 0 for none. -/
def State.slotId (s : State) (h i : Nat) : Nat :=
  match s.slotDue h i with
  | some d => fieldN d.map 0 1
  | none => if s.slotValid h i then fieldN (s.mapSlot h i) 0 1 else 0

/-- Install a computed map when it gains enough over the map in use, or that map fails; the MAP_SET goes out once the slot is
valid (R149, R152, log 27). -/
def State.offerMap (s : State) (h slot dir tag : Nat) (x : LoadIn) (use : Bytes) (useInfo : Nat) : State :=
  let (r, l, info) := x.best (s.o Obj.NBF_LOAD_RATES)
  let gains := decide (useInfo < info) && decide (useInfo * (100 + s.o Obj.NBF_LOAD_MIN_GAIN) ≤ info * 100)
  if info = 0 || !(gains || x.below use) then s
  else
    let beside := if slot % 2 = 0 then slot + 1 else slot - 1
    let m := mapBytes (nextMapId (fieldN use 0 1) (s.slotId h beside)) r dir l
    let s := s.installMap h slot tag m true
    (s.hotPin h).getD s

/-- Info of a map in use. -/
def infoOf (m : Bytes) : Nat := loadInfo (fieldN m 1 1 % 4) (mapBits m)

/-- A fixed map at rate 1/2 as 24 bytes, for comparison. -/
def fixedMap (id : Nat) : Bytes := mapBytes id 0 0 (List.replicate 44 (id % 4 + 1))

/-- The uplink map of tag entry h at slice n (R152). -/
def State.computeUp (s : State) (n : Fin 4) (h tag : Nat) : State :=
  let recs := (s.ringOf n h).take (s.o Obj.NBF_LOAD_FRAMES)
  match recs with
  | [] => s
  | a :: _ =>
    let id := s.rn (a + 23) 1
    let x := s.upInputs n recs
    match [0, 1].find? (fun i => s.slotValid h i && fieldN (s.mapSlot h i) 0 1 == id) with
    | some i => s.offerMap h (1 - i) 0 tag x (s.mapSlot h i) (infoOf (s.mapSlot h i))
    | none => s.offerMap h ((s.openSlot h).getD 0) 0 tag x (fixedMap id) (infoOf (fixedMap id))

/-- Downlinks to a tag go under fixed maps until it confirms a new downlink map (R151). -/
def State.dnOnFixed (s : State) (tag : Nat) : Bool := s.mac.dnFixed.contains tag

/-- The downlink map of tag entry h (R152). -/
def State.computeDown (s : State) (n : Fin 4) (h tag : Nat) (snr : Bytes) (ps : List Int) : State :=
  let sel := if bitOf (s.rn (s.mapRec h + 4) 1) 4 then 1 else 0
  let use := if s.slotValid h (2 + sel) && !(s.dnOnFixed tag) then s.mapSlot h (2 + sel) else fixedMap 1
  s.offerMap h (3 - sel) 1 tag (s.downInputs n snr ps) use (infoOf use)

/-- A tag confirms a map: MAP_ID and CTRL as it adopted them (R149, R210). Its MAP_SET is answered; on a downlink map DNSEL moves
to that slot, the old one is cleared from the next tick, and per-link downlinks begin anew (R151). -/
def State.mapAck (s : State) (a : Nat) (v : Bytes) : State :=
  match s.hotLookup a with
  | none => s
  | some h =>
    if v.length ≠ 2 || s.rn (s.mapRec h) 4 ≠ a then s
    else
      let s := s.modMac (fun x => { x with mapSets := x.mapSets.filter (fun y => !(y.1 == a && sliceB y.2 2 2 == v)) })
      let old := if bitOf (s.rn (s.mapRec h + 4) 1) 4 then 3 else 2
      let i := 5 - old
      if bitOf (fieldN v 1 1) 2 && s.slotValid h i && sliceB (s.mapSlot h i) 0 2 == v then
        (s.setMapCtrl h 4 (i == 3)).modMac (fun x => { x with
          dnClear := x.dnClear ++ [(h, old)]
          dnFixed := x.dnFixed.filter (fun y => y != a), dnTries := x.dnTries.filter (fun y => y.1 != a) })
      else s

/-- Unacknowledged downlinks to a tag on a per-link map. -/
def State.dnTriesOf (s : State) (tag : Nat) : Nat := ((s.mac.dnTries.find? (fun x => x.1 == tag)).map (·.2)).getD 0

/-- The per-link map of the next downlink to a tag, or none for map 0x01 at rate 1/2: no valid map, or the fallback of R151. -/
def State.dnMapOf (s : State) (tag : Nat) : Option Bytes :=
  match s.hotLookup tag with
  | none => none
  | some h =>
    if s.dnOnFixed tag || s.o Obj.NBF_MAP_FALLBACK_TRIES ≤ s.dnTriesOf tag || s.rn (s.mapRec h) 4 ≠ tag then none
    else (s.downMap h).1

/-- A downlink goes to a tag (R151): one more try of its per-link map, or fixed maps from here on once the tries are spent. -/
def State.dnSent (s : State) (tag : Nat) : State :=
  if (s.dnMapOf tag).isSome then
    s.modMac (fun x => { x with dnTries := (tag, s.dnTriesOf tag + 1) :: x.dnTries.filter (fun y => y.1 != tag) })
  else if s.o Obj.NBF_MAP_FALLBACK_TRIES ≤ s.dnTriesOf tag then
    s.modMac (fun x => { x with
      dnFixed := tag :: x.dnFixed.filter (fun y => y != tag), dnTries := x.dnTries.filter (fun y => y.1 != tag) })
  else s

/-- A DN_ACK comes from a tag: its tries begin anew (R151). -/
def State.dnHeard (s : State) (tag : Nat) : State :=
  s.modMac (fun x => { x with dnTries := x.dnTries.filter (fun y => y.1 != tag) })

/-- The period of a link is over: NBF_LOAD_PERIOD superframes since its last computation; with 0 it never is (R153). -/
def State.mapPeriodOver (s : State) (tag : Nat) (dn : Bool) : Bool :=
  s.o Obj.NBF_LOAD_PERIOD != 0 &&
  (match s.mac.mapAt.find? (fun x => x.1 == tag && x.2.1 == dn) with
   | none => true
   | some x => decide (x.2.2 + s.o Obj.NBF_LOAD_PERIOD ≤ s.sf))

/-- A link's map is computed in this superframe. -/
def State.mapNoted (s : State) (tag : Nat) (dn : Bool) : State :=
  let sf := s.sf
  s.modMac (fun x => { x with mapAt := (tag, dn, sf) :: x.mapAt.filter (fun y => !(y.1 == tag && y.2.1 == dn)) })

/-- MAP_COMPUTE (R152, R153). -/
def execMapCompute (n : Fin 4) (addr : Nat) (q : MapAsk) (s : State) : Out :=
  let tag := addr % 2 ^ 32
  match s.hotLookup tag with
  | none => .next s
  | some h =>
    if !(s.hwHas (s.mapRec h) 128) || !(s.recordOf h tag) || !(q.asked || s.mapPeriodOver tag q.dn.isSome) then .next s
    else
      let s := s.mapNoted tag q.dn.isSome
      match q.dn with
      | none => .next (s.computeUp n h tag)
      | some (snr, ps) => .next (s.computeDown n h tag snr ps)

end Sys2Proof.Machine
end

