-- ==== Sys2Proof/Machine/Frame.lean ====
section
/-!
DEFINITION. Frame programs, the link controller, entries, gang acknowledgement (06_frame_programs.md R157-R193) and
listen-before-talk (08_regulatory.md R240-R243).
-/
namespace Sys2Proof.Machine

/-! ## Programs (R157, R158, R163-R167) -/

/-- COUNT of a program header. -/
def pCount (h : Bytes) : Nat := fieldN h 8 2
/-- LSETS of a program header. -/
def pLsets (h : Bytes) : Nat := fieldN h 10 1
/-- LSET_ADDR of a program header. -/
def pLsetAddr (h : Bytes) : Nat := fieldN h 20 4
/-- Descriptor of slot k. -/
def pSlot (h : Bytes) (k : Nat) : Nat := fieldN h (12 + k) 1
/-- TYPE of slot k: 0 OPEN, 1 UPLINK, 2 RDV, 3 QUIET. -/
def pType (h : Bytes) (k : Nat) : Nat := pSlot h k % 8
/-- MERGE of slot k. -/
def pMerge (h : Bytes) (k : Nat) : Bool := bitOf (pSlot h k) 3
/-- LSET of slot k. -/
def pLset (h : Bytes) (k : Nat) : Nat := pSlot h k / 16 % 16

/-- First slot of the run that holds slot k. -/
def runFirst (h : Bytes) : Nat → Nat
  | 0 => 0
  | k + 1 => if pMerge h (k + 1) then runFirst h k else k + 1

/-- Slots that start a run. -/
def runStarts (h : Bytes) : List Nat := (List.range 8).filter (fun k => k == 0 || !(pMerge h k))

/-- The slot after the run that holds slot k; 8 at the end of the frame. -/
def runNext (h : Bytes) (k : Nat) : Nat := ((List.range 8).find? (fun j => decide (k < j) && !(pMerge h j))).getD 8

/-- KIND of an entry: 1 TX, 2 BURST, 3 BEACON. -/
def eKind (e : Bytes) : Nat := fieldN e 0 1
/-- SLOT of an entry. -/
def eSlot (e : Bytes) : Nat := fieldN e 1 1 % 8
/-- OFFSET of an entry. -/
def eOffset (e : Bytes) : Nat := fieldN e 2 2
/-- TOL of an entry as written. -/
def eTol (e : Bytes) : Nat := fieldN e 4 2
/-- DMAX of an entry. -/
def eDmax (e : Bytes) : Nat := fieldN e 8 4
/-- NCH of a BURST. -/
def eNch (e : Bytes) : Nat := fieldN e 12 1
/-- BANK of a BURST. -/
def eBank (e : Bytes) : Nat := fieldN e 13 1
/-- LIST of a BURST. -/
def eList (e : Bytes) : Nat := fieldN e 16 4
/-- CHANSEL of a TX or BEACON. -/
def eChan (e : Bytes) : Nat := fieldN e 12 4
/-- LENGTH of a TX or BEACON. -/
def eLength (e : Bytes) : Nat := fieldN e 24 2
/-- S of an entry, from the start of its frame. -/
def eStart (e : Bytes) : Nat := 48000 * eSlot e + eOffset e

/-- What one channel of an entry asks for. -/
structure ChanReq where
  idx : Nat
  chan : Nat
  bank : Nat
  mode : Nat
  offset : Int
  power : Int          -- 0.5 dBm units
  mapsel : Nat
  rate : Nat
  record : Nat
  seed : Nat
  sec : Nat
  key : Nat
  length : Nat
  data : Nat
  deriving DecidableEq, Repr

/-- The channel of a TX or BEACON entry (R166). -/
def txReq (e : Bytes) : ChanReq :=
  let w := eChan e
  { idx := 0, chan := aChan w, bank := aBank w, mode := aMode w, offset := aOffset w, power := toI 8 (fieldN e 7 1)
    mapsel := fieldN e 16 1, rate := fieldN e 17 1, record := fieldN e 18 2, seed := fieldN e 20 1
    sec := fieldN e 21 1 % 4, key := fieldN e 22 1, length := eLength e, data := fieldN e 28 4 }

/-- Channel record i of a BURST of bank `bank` (R167). -/
def burstReq (bank i : Nat) (r : Bytes) : ChanReq :=
  { idx := i, chan := fieldN r 0 1, bank := bank, mode := 1, offset := 0, power := toI 8 (fieldN r 1 1)
    mapsel := fieldN r 2 1, rate := fieldN r 3 1, record := fieldN r 4 2, seed := fieldN r 6 1
    sec := fieldN r 7 1 % 4, key := fieldN r 8 1, length := fieldN r 10 2, data := fieldN r 12 4 }

/-- The channels of an entry, channel records as they stand in slice SRAM now. -/
def State.reqsOf (s : State) (e : Bytes) : List ChanReq :=
  if eKind e = 2 then
    (List.range (min 16 (eNch e))).map (fun i => burstReq (eBank e) i (s.rbs (eList e + 16 * i) 16))
  else [txReq e]

/-! ## Checks (R169, R170) -/

/-- MIC bytes of a SEC code. -/
def micLen (sec : Nat) : Nat := nth [0, 4, 8, 16] (sec % 4) 0

/-- A field of a channel lies outside its range (R166, R167, R201). -/
def ChanReq.bad (q : ChanReq) (burst : Bool) : Bool :=
  !(decide (-40 ≤ q.power) && decide (q.power ≤ 40)) || decide (q.mode = 0) || decide (2047 < q.length) ||
  (q.sec != 0 && decide (q.length < 11 + micLen q.sec)) ||
  (q.mode == 1 &&
    (decide (q.length < 4) || !(q.mapsel ≤ 3 || q.mapsel == 255) || (decide (q.mapsel ≤ 3) && decide (2 < q.rate)) ||
     (q.mapsel == 255 && decide (8191 < q.record)) || decide (q.seed = 0) || decide (127 < q.seed))) ||
  (burst && decide (1 < q.bank))

/-- A field of the entry lies outside its range, its KIND known (BAD_ENTRY). -/
def State.entryBad (s : State) (e : Bytes) : Bool :=
  decide (47999 < eOffset e) || (decide (3840 < eTol e) && eTol e != 0xFFFF) ||
  decide (eDmax e = 0) || decide (384000 < eDmax e) ||
  (s.reqsOf e).any (fun q => q.bad (eKind e == 2)) || (eKind e == 2 && decide (1 < eBank e)) ||
  (eKind e == 3 && (aMode (eChan e) != 1 || fieldN e 16 1 != 1 || fieldN e 17 1 != 0 || eTol e != 0 ||
    decide (eLength e < fieldN e 26 2 + 8)))

/-- A PSDU lies in the slice's SRAM (BAD_ADDRESS). -/
def ChanReq.placed (q : ChanReq) (n : Nat) : Bool := q.length == 0 || inSlice n q.data q.length

/-- The channel list and every PSDU of an entry lie in the slice's SRAM. -/
def State.entryPlaced (s : State) (n : Nat) (e : Bytes) : Bool :=
  (eKind e != 2 || eNch e == 0 || (decide (eList e % 4 = 0) && inSlice n (eList e) (16 * eNch e))) &&
  (s.reqsOf e).all (fun q => q.placed n)

/-- The tolerance in force for an entry, given SLCn_TX_TOL. -/
def tolOf (txTol : Nat) (e : Bytes) : Nat := if eTol e = 0xFFFF then txTol else eTol e

/-- Placement of an entry (R170); `before` are the entries ahead of it. -/
def placedOk (h : Bytes) (txTol : Nat) (before : List Bytes) (e : Bytes) : Bool :=
  let k := eSlot e
  let st := eStart e
  let tol := tolOf txTol e
  let lo := 48000 * runFirst h k
  let hi := 48000 * runNext h k
  (pType h k == 0 ||
    (pType h k == 2 && eKind e == 2 && (eOffset e == 1200 || eOffset e == 24000) && decide (tol ≤ 192) &&
     decide (eDmax e ≤ 21600) && !(before.any (fun b => eSlot b == k && eOffset b == eOffset e)))) &&
  decide (lo + 384 ≤ st) && decide (st + tol + eDmax e + 288 ≤ hi) && decide (st < 383920 + 96)

/-- A finding of R169: code, slot or listen set, entry index. -/
abbrev Finding := Nat × Nat × Nat

/-- The entries of a list with those before them and their index. -/
def withBefore (l : List Bytes) : List (Nat × List Bytes × Bytes) :=
  (List.range l.length).map (fun i => (i, l.take i, nth l i []))

/-- The first failing check of entry i at commit. -/
def State.entryCheck (s : State) (n : Nat) (h : Bytes) (txTol : Nat) (x : Nat × List Bytes × Bytes) : Option Finding :=
  let (i, before, e) := x
  let k := eSlot e
  if eKind e < 1 || 3 < eKind e then some (7, k, i)
  else if eKind e = 2 && 16 < eNch e then some (5, k, i)
  else if !(s.entryPlaced n e) then some (4, k, i)
  else if s.entryBad e then some (7, k, i)
  else if !(placedOk h txTol before e) then some (8, k, i)
  else none

/-- Slot k of a header is bad (BAD_SLOT). -/
def slotBad (h : Bytes) (k : Nat) : Bool :=
  decide (3 < pType h k) ||
  (pMerge h k && (k == 0 || pType h k == 2 || (decide (0 < k) && pType h k != pType h (k - 1)))) ||
  (!(pMerge h k) && decide (0 < pCount h) && pLset h k != 15 && decide (pLsets h ≤ pLset h k))

/-- The value an object will have at the coming tick: the last commit accepted, else the value in force (R170). -/
def State.willBe (s : State) (k : Key) : Nat :=
  let sets : List (Key × Val) := s.com.accepted.flatMap (fun a => a.sets)
  match sets.reverse.find? (fun x => x.1 == k) with
  | some (_, Val.num v) => v
  | _ => s.o k

/-- Read a program from slice SRAM. -/
def State.readProg (s : State) (a : Nat) : Prog :=
  let h := s.rbs a 32
  { header := h
    entries := (List.range (pCount h)).map (fun i => s.rbs (a + 32 + 32 * i) 32)
    lsets := (List.range (pLsets h)).map (fun i => s.rbs (pLsetAddr h + 192 * i) 192) }

/-- The checks at commit, after LATE (R169): the program and the first finding, ACCEPTED when none. -/
def State.fpCheck (s : State) (n : Fin 4) (a : Nat) : Prog × Finding :=
  if a % 4 ≠ 0 || !(inSlice n a 32) then (⟨[], [], []⟩, 4, 0, 0xFFFF)
  else
    let h := s.rbs a 32
    let none_ : Prog := ⟨h, [], []⟩
    if fieldN h 0 8 ≠ tt64 (s.slices[n].tick + frameT) then (none_, 3, 0, 0xFFFF)
    else if 256 < pCount h || 15 < pLsets h then (none_, 5, 0, 0xFFFF)
    else if pCount h ≠ 0 && !(inSlice n (a + 32) (32 * pCount h)) then (none_, 4, 0, 0xFFFF)
    else
      match (List.range (pLsets h)).find? (fun i =>
          decide (pLsetAddr h % 4 ≠ 0) || !(inSlice n (pLsetAddr h + 192 * i) 192)) with
      | some i => (none_, 4, i, 0xFFFF)
      | none =>
        match (List.range 8).find? (fun k => slotBad h k) with
        | some k => (none_, 6, k, 0xFFFF)
        | none =>
          let p := s.readProg a
          match (withBefore p.entries).findSome? (fun x => s.entryCheck n h (s.willBe (Obj.SLCn_TX_TOL n)) x) with
          | some f => (p, f)
          | none => (p, 1, 0, 0xFFFF)

/-- The words of a listen set of 192 bytes. -/
def lsetWords (b : Bytes) : List Nat := (List.range 48).map (fun i => fieldN b (4 * i) 4)

/-- Listen sets that some run of the program brings into force (R176). -/
def Prog.lsetsUsed (p : Prog) : List Nat :=
  if pCount p.header = 0 then []
  else (List.range 15).filter (fun i => (runStarts p.header).any (fun k => pLset p.header k == i))

/-- No channel number occurs twice. -/
def noTwice : List Nat → Bool
  | [] => true
  | x :: r => !(r.contains x) && noTwice r

/-- An entry's channels are valid (R101, R121, BAD_CHANNEL). -/
def State.chanOk (s : State) (centre g0 g1 : Nat) (e : Bytes) : Bool :=
  if eKind e = 2 then
    let cs := (s.reqsOf e).map (fun q => q.chan)
    decide ((if eBank e = 0 then g0 else g1) = 3) && noTwice cs &&
      cs.all (fun c => assignOk centre g0 g1 (c + 256 * eBank e + 512))
  else assignOk centre g0 g1 (eChan e)

/-- The checks at the deadline against the configuration that `look` gives (R169): the first finding. -/
def State.deadlineCheck (s : State) (n : Fin 4) (look : Key → Nat) (p : Prog) : Option Finding :=
  let centre := look (Obj.SLCn_CENTRE_HZ n)
  let g0 := look (Obj.SLCn_BANK0_GRID n)
  let g1 := look (Obj.SLCn_BANK1_GRID n)
  match (withBefore p.entries).find? (fun x => !(placedOk p.header (look (Obj.SLCn_TX_TOL n)) x.2.1 x.2.2)) with
  | some x => some (8, eSlot x.2.2, x.1)
  | none =>
    match p.lsetsUsed.find? (fun i => !(lsetOk centre g0 g1 (lsetWords (nth p.lsets i [])))) with
    | some i => some (9, i, 0xFFFF)
    | none =>
      match (withBefore p.entries).find? (fun x => !(s.chanOk centre g0 g1 x.2.2)) with
      | some x => some (10, eSlot x.2.2, x.1)
      | none => none

/-! ## The commit pipeline (R171-R175) -/

/-- Write SLCn_FP_STATUS. -/
def State.fpStatus (s : State) (n : Fin 4) (f : Finding) : State :=
  s.setO (Obj.SLCn_FP_STATUS n) (f.1 + 256 * (f.2.1 % 256) + 65536 * f.2.2)

/-- A failing check (R169). -/
def State.fpRefuse (s : State) (n : Fin 4) (f : Finding) : State :=
  let s := (s.fpStatus n f).inc (Obj.SLCn_FP_REFUSED n)
  s.raise 0x102 n (s.o (Obj.SLCn_FP_STATUS n))

/-- Set SLCn_FP_PIPE from what the pipeline holds. -/
def State.fpPipe (s : State) (n : Fin 4) : State :=
  let x := s.slices[n]
  s.setO (Obj.SLCn_FP_PIPE n)
    (if x.ready.isSome then 3 else if x.checking.isSome then 1 else if x.pend.isSome then 2 else 0)

/-- The deadline of a commit for the next frame (R32). -/
def State.fpDeadline (s : State) (n : Fin 4) : Instant := s.slices[n].tick + 336000

/-- A write of SLCn_FP_COMMIT (R172, R174); none when the link controller is HALTED. -/
def State.fpCommit (s : State) (n : Fin 4) (a : Nat) : Option State :=
  if s.o (Obj.SLCn_LC_STATE n) = 0 then none
  else if s.fpDeadline n ≤ s.now then
    some ((s.modSlice n (fun x => { x with late := true })).fpRefuse n (2, 0, 0xFFFF))
  else
    let (p, f) := s.fpCheck n a
    some ((s.modSlice n (fun x => { x with checking := some (p, f.1, f.2.1, f.2.2) })).fpPipe n)

/-- FP_COMMIT (R172). -/
def execFpCommit (who : Fin 8) (n : Fin 4) (addr : Nat) (s : State) : Out :=
  .next ((s.fpCommit n addr).getD (s.dropped (windowAddr (Obj.SLCn_FP_COMMIT n)) addr who 6))

/-- The check at commit ends (R172). -/
def State.fpChecked (s : State) (n : Fin 4) : State :=
  match s.slices[n].checking with
  | none => s
  | some (p, c, sl, en) =>
    let s := s.modSlice n (fun x => { x with checking := none, pend := if c = 1 then some p else x.pend })
    (if c = 1 then s.fpStatus n (c, sl, en) else s.fpRefuse n (c, sl, en)).fpPipe n

/-- FP_CHECK_DONE (R171). -/
def execFpCheckDone (n : Fin 4) (s : State) : Out := .next (s.fpChecked n)

/-- COMMIT_DEADLINE (R172). -/
def execCommitDeadline (n : Fin 4) (s : State) : Out :=
  if s.o (Obj.SLCn_LC_STATE n) = 0 then .next s
  else
    let s := (s.upTo (s.fpDeadline n)).fpChecked n
    match s.slices[n].pend with
    | none => .next s
    | some p =>
      let s := s.modSlice n (fun x => { x with pend := none })
      match s.deadlineCheck n s.willBe p with
      | some f => .next ((s.fpRefuse n f).fpPipe n)
      | none => .next ((s.modSlice n (fun x => { x with ready := some p })).fpPipe n)

/-- The pipeline is emptied. -/
def State.fpEmpty (s : State) (n : Fin 4) : State :=
  (s.modSlice n (fun x => { x with checking := none, pend := none, ready := none })).fpPipe n

/-- WITHDRAW (R172); none when READY. -/
def State.withdraw (s : State) (n : Fin 4) : Option State :=
  let x := s.slices[n]
  if x.ready.isSome then none
  else if x.checking.isSome || x.pend.isSome then some ((s.fpEmpty n).fpStatus n (0xB, 0, 0xFFFF))
  else some s

/-- Every entry not yet prepared ends with a cause. -/
def State.dropEntries (s : State) (n : Fin 4) (cause : Nat) : State :=
  let s := (s.slices[n].runs.filter (fun r => !r.past)).foldl (fun s r => s.entryEnd n (s.ledIdx n r.index) 5 cause 0) s
  s.modSlice n (fun x => { x with runs := x.runs.map (fun r => { r with past := true }) })

/-- Every PA of slice n ramps down within 24 µt; what was not yet on the air is abandoned. -/
def State.txCutAll (s : State) (n : Fin 4) (cause : Nat) : State :=
  s.slices[n].txs.foldl (fun (s : State) t =>
    if t.ramp.isSome then
      let off := s.now + s.freeBelow 25
      s.drawn.paOff n { t with cut := if t.ended then t.cut else some (t.cut.getD off) } cause
    else s.txAbandon n t cause none) s

/-- The same on every slice. -/
def State.cutAir (s : State) (cause : Nat) : State := fin4.foldl (fun (s : State) (n : Fin 4) => s.txCutAll n cause) s

/-- Every slice stops transmitting, and no entry is prepared any more (R11, R540). -/
def State.airStop (s : State) (cause : Nat) : State :=
  fin4.foldl (fun (s : State) (n : Fin 4) => s.dropEntries n cause) (s.cutAir cause)

/-- STOP (R175); none when HALTED. -/
def State.lcStop (s : State) (n : Fin 4) : Option State :=
  let st := s.o (Obj.SLCn_LC_STATE n)
  if st = 0 then none else if st = 3 then some (s.dropEntries n 0x0C) else some s

/-- PARK (R172, R175); none when HALTED. -/
def State.lcPark (s : State) (n : Fin 4) : Option State :=
  let st := s.o (Obj.SLCn_LC_STATE n)
  if st = 0 then none
  else
    let s := s.fpEmpty n
    if st = 1 then some s else some (s.modSlice n (fun x => { x with park := true }))

/-- A write of SLCn_FP_CMD (R168, R174); none when refused. -/
def State.fpCmd (s : State) (n : Fin 4) (v : Nat) : Option State :=
  if v = 1 then s.withdraw n else if v = 2 then s.lcStop n else if v = 3 then s.lcPark n else none

/-- A core's write of SLCn_FP_CMD. -/
def State.fpCmdBy (s : State) (who : Fin 8) (n : Fin 4) (v : Nat) : State :=
  (s.fpCmd n v).getD (s.dropped (windowAddr (Obj.SLCn_FP_CMD n)) v who 6)

/-- WITHDRAW (R172). -/
def execWithdraw (who : Fin 8) (n : Fin 4) (s : State) : Out := .next (s.fpCmdBy who n 1)
/-- STOP (R175). -/
def execStop (who : Fin 8) (n : Fin 4) (s : State) : Out := .next (s.fpCmdBy who n 2)
/-- PARK (R175). -/
def execPark (who : Fin 8) (n : Fin 4) (s : State) : Out := .next (s.fpCmdBy who n 3)

/-! ## Securing (R200, R201) -/

/-- Header length of a secured frame (R197). -/
def secHead (psdu : Bytes) : Nat := if bitOf (fieldN psdu 6 1) 2 then 13 else 11

/-- The nonce of R200 for a secured header. -/
def airNonce (psdu : Bytes) : Bytes :=
  let link := sliceB psdu 0 4
  let sender := if bitOf (fieldN psdu 6 1) 2 then leBytes 4 (0xFFFFF000 + fieldN psdu 11 2 % 4096) else link
  sender ++ sliceB psdu 7 4 ++ leBytes 1 (fieldN psdu 6 1 % 4) ++ link

/-- The frame as sent of a secured PSDU under a key and counter (R201). -/
def sealAir (key psdu : Bytes) (sec slot ctr : Nat) : Bytes :=
  let len := psdu.length
  let fc := setBit (fieldN psdu 4 1) 4 true
  let sc := setFld (fieldN psdu 6 1) 1 0 sec
  let p := sliceB psdu 0 4 ++ leBytes 1 fc ++ leBytes 1 slot ++ leBytes 1 sc ++ leBytes 4 ctr ++ psdu.drop 11
  let hs := secHead p
  let m := micLen sec
  let aad := sliceB p 0 hs
  (aad ++ Config.ccmSeal key (airNonce p) aad (sliceB p hs (len - hs - m)) m).take len

/-! ## Entries (R177, R187, R188) -/

/-- FCS bytes of a transmission (R121). -/
def State.txFcs (s : State) (n : Fin 4) (mode : Nat) : Nat :=
  if mode = 2 then 2 else if mode ≤ 10 then 4 else s.o (Obj.SLCn_SUNOFDM_FCS n)

/-- Step 6 of R177 for one channel: its duration, or the cause. -/
def State.chanDur (s : State) (n : Fin 4) (dmax : Nat) (q : ChanReq) : Except Nat Nat × State :=
  if q.mode = 1 then
    let judge := fun (s : State) (d : Nat) => (if 384000 < d || dmax < d then (.error 8, s) else (.ok d, s) : Except Nat Nat × State)
    if q.mapsel ≤ 3 then judge s (lofdmDur q.length q.rate (fixedBits q.mapsel))
    else
      match s.downMap q.record with
      | (none, s) => (.error 9, s)
      | (some m, s) => judge s (lofdmDur q.length (fieldN m 1 1 % 4) (mapBits m))
  else
    let len := q.length + s.txFcs n q.mode
    let d := Config.airTime q.mode len
    if (if q.mode = 2 then 127 else 2047) < len || dmax < d then (.error 8, s) else (.ok d, s)

/-- The occupied band of a channel, around the centre that the synthesizer runs at (R59, R225). -/
def State.reqBand (s : State) (n : Fin 4) (q : ChanReq) : Band :=
  let c := s.o (Obj.SLCn_CENTRE_HZ n)
  synBand c (chanHz c (s.grid n q.bank) q.chan + q.offset) (if q.mode = 1 then 490000 else halfWidth q.mode)

/-- What a channel sends ahead of its PSDU, and the load codes of its payload: under LOFDM the header, with the map's ID and rate
or the entry's (R129, R141, R147), else the PHR length, FCS included (R121). -/
def State.chanHead (s : State) (n : Fin 4) (q : ChanReq) : Nat × List Nat :=
  if q.mode = 1 then
    if q.mapsel ≤ 3 then (headBits q.length q.mapsel q.rate q.seed, fixedLoads q.mapsel)
    else
      match (s.downMap q.record).1 with
      | none => (0, [])
      | some m => (headBits q.length (fieldN m 0 1) (fieldN m 1 1 % 4) q.seed, (List.range 44).map (loadCode m))
  else (q.length + s.txFcs n q.mode, [])

/-- One channel of a transmission as it goes on the air: its band, duration, power and PSDU as sent, with header, load codes, FCS
and SFD set (R119, R121, R129). -/
def State.chanMake (s : State) (n : Fin 4) (q : ChanReq) (band : Band) (dur : Nat) (power : Int) (psdu : Bytes) : TxChan :=
  let (head, loads) := s.chanHead n q
  { chan := q.chan, bank := q.bank, mode := q.mode, lo := band.1, hi := band.2, dur := dur, power := power, psdu := psdu
    head := head, loads := loads
    fcs := if q.mode = 1 then [] else Config.stdFcs (s.txFcs n q.mode) psdu
    sfd := if 3 ≤ q.mode && q.mode ≤ 10 then s.o (Obj.SLCn_FSK_SFD n) else 0 }

/-- Step 6 over the channels of an entry: those that go on with their durations, and the first cause. -/
def State.chanDurs (s : State) (n : Fin 4) (dmax : Nat) : List ChanReq → List (ChanReq × Nat) × Nat × State
  | [] => ([], 0, s)
  | q :: r =>
    let (d, s) := s.chanDur n dmax q
    let (l, c, s) := State.chanDurs s n dmax r
    match d with
    | .ok d => ((q, d) :: l, c, s)
    | .error e => (l, e, s)

/-- Step 8: a counter for each secured channel; none when one is refused (R177, R354), or after D of an alarm (R364). -/
def State.counters (s : State) : List (ChanReq × Nat) → Option (List Nat) × State
  | [] => (some [], s)
  | (q, _) :: r =>
    if q.sec = 0 then
      match State.counters s r with
      | (some l, s) => (some (0 :: l), s)
      | (none, s) => (none, s)
    else
      match (if s.shell.alarms.isEmpty then s.assignCtr q.key 1 else none) with
      | none => (none, s)
      | some (c, s) =>
        match State.counters s r with
        | (some l, s) => (some (c :: l), s)
        | (none, s) => (none, s)

/-- The PSDU of a channel as sent (R188, R201): fixed whole at S − 384 µt (R179, log 219). -/
def State.asSent (s : State) (stamp : Option (Nat × Nat)) (q : ChanReq) (ctr : Nat) : Bytes :=
  let p := s.rbs q.data q.length
  let p := match stamp with
    | none => p
    | some (off, t) => (p.take off ++ leBytes 8 (tt64 t) ++ p.drop (off + 8)).take q.length
  if q.sec = 0 then p else sealAir (s.keyOf q.key) p q.sec q.key ctr

/-- Free-running (R290). -/
def State.freeRun (s : State) : Bool :=
  let x := s.o Obj.TMB_SYNC_STATE
  x == 0 || x == 1 || x == 5

/-- A prepared transmission lies on the air at the ramp of one that starts at st (R77). -/
def State.txConflict (s : State) (n : Fin 4) (st : Instant) : Bool :=
  s.slices[n].txs.any (fun u => decide (st - 96 < u.offAt (u.ramp.getD u.rampFrom)))

/-- The entry whose S − 384 µt comes next. -/
def State.nextEntry (s : State) (n : Fin 4) : Option EntryRun :=
  (s.slices[n].runs.filter (fun r => !r.past)).foldl (fun (m : Option EntryRun) r =>
    match m with
    | none => some r
    | some u => if r.start < u.start then some r else some u) none

/-- Steps 2 to 5 of R177: the cause of the first that fails. -/
def State.entryStops (s : State) (n : Fin 4) (r : EntryRun) : Option Nat :=
  let rdv := match s.slices[n].prog with | none => false | some p => pType p.header (eSlot r.body) == 2
  if s.txConflict n r.start then some 7
  else if s.syn n = 0 then some 2
  else if s.portState n (s.o (Obj.SLCn_TX_PORT n)) = 3 then some 5
  else if (match s.slices[n].switchEnd with | none => false | some t => decide (r.start - 96 < t)) then some 6
  else if rdv && s.freeRun then some 0x0E
  else none

/-- Steps 6 to 8 of R177 and the start of the transmission. -/
def State.entryGo (s : State) (n : Fin 4) (r : EntryRun) (led : Nat) : State :=
  let e := r.body
  let burst := eKind e == 2
  let (chs, cause, s) := s.chanDurs n (eDmax e) (s.reqsOf e)
  match chs with
  | [] => s.entryEnd n led 5 cause 0
  | _ =>
    let d := chs.foldl (fun m x => max m x.2) 0
    let sel := if burst then chs.foldl (fun m x => setBit m x.1.idx true) 0 else d
    let s := s.wn (sledAddr n led + 8) 4 sel
    let bands := chs.map (fun x => s.reqBand n x.1)
    match s.airReserve n bands (d + 192) false with
    | (none, s) => s.entryEnd n led 5 0x0A 0
    | (some (ks, cs), s) =>
      match s.counters chs with
      | (none, s) => (s.airSettle ks cs (d + 192) 0).entryEnd n led 5 0x0B 0
      | (some ctrs, s) =>
        let (ps, s) := s.clamp n (chs.map (fun x => 4 * x.1.power))
        let stamp := if eKind e = 3 then some (fieldN e 26 2, r.start) else none
        let chans := (List.zip (List.zip chs bands) (List.zip ctrs ps)).map (fun z =>
          s.chanMake n z.1.1.1 z.1.2 z.1.1.2 z.2.2 (s.asSent stamp z.1.1.1 z.2.1))
        let t : TxSt := {
          kind := if burst then 0x11 else 0x10, led := led, start := r.start, tol := r.tol, dur := d
          lbt := bitOf (fieldN e 6 1) 0, be := 0xFF, at_ := r.start - 96, ramp := none, ended := false, cut := none
          port := s.o (Obj.SLCn_TX_PORT n), charge := d + 192, bkts := ks, cells := cs, chans := chans, sel := sel }
        (s.modTxs n (fun l => l ++ [t])).recordState (sledAddr n led) 2

/-- ENTRY_PREPARE (R177). -/
def execEntryPrepare (n : Fin 4) (s : State) : Out :=
  match s.nextEntry n with
  | none => .next s
  | some r =>
    let s := s.upTo (r.start - 384)
    let led := s.ledIdx n r.index
    let s := s.modSlice n (fun x => { x with
      runs := x.runs.map (fun y => if y.index = r.index then { y with past := true } else y) })
    match s.entryStops n r with
    | some c => .next (s.entryEnd n led 5 c 0)
    | none => .next (s.entryGo n r led)

/-! ## Gang acknowledgement (R159, R160, R180-R185, R207, R208) -/

/-- UPLINK_WINDOW_CLOSE (R159). -/
def execUplinkWindowClose (n : Fin 4) (s : State) : Out :=
  match s.slices[n].wins.find? (fun w => !w.closed) with
  | none => .next s
  | some w =>
    .next ((s.upTo w.w).modSlice n (fun x => { x with
      wins := x.wins.map (fun y => if y.u = w.u then { y with closed := true } else y) }))

/-- The frame asks for acknowledgement (R198). -/
def asksAck (psdu : Bytes) : Bool :=
  let fc := fieldN psdu 4 1
  decide (5 ≤ psdu.length) && bitOf fc 4 && (fc % 16 == 2 || ((fc % 16 == 1 || fc % 16 == 3) && bitOf fc 5))

/-- Both verdicts of a frame were ready by v (R182). -/
def RxElem.readyBy (e : RxElem) (v : Instant) : Bool := e.verdict.isSome && decide (e.verdictAt ≤ v)

/-- The frame could still be acknowledged: MIC good or unknown, verdict NEW, DUPLICATE or unknown (R180). -/
def RxElem.mayAck (e : RxElem) : Bool :=
  !e.legacy && asksAck e.psdu && (match e.mic with | none => true | some m => m == 1) &&
  (match e.verdict with | none => true | some v => v == 0 || v == 1)

/-- The frame's ACK block can be issued (R180). -/
def State.ackKey (s : State) (e : RxElem) : Bool := s.permits (fieldN e.psdu 5 1) 2

/-- e wins over f on one channel frequency (R181). -/
def RxElem.wins (e f : RxElem) : Bool :=
  decide (e.freq ≠ f.freq) || decide (f.endAt < e.endAt) || (decide (e.endAt = f.endAt) && decide (e.listener ≤ f.listener))

/-- Two listeners' copies of one frame (R181): the same bytes on the air, ENDs within two samples (log 28). -/
def RxElem.same (e f : RxElem) : Bool :=
  decide (e.freq = f.freq) && e.raw == f.raw && decide (e.endAt ≤ f.endAt + 60) && decide (f.endAt ≤ e.endAt + 60)

/-- The frames of a list, each once: copies of a winner or of one another are not counted again (R181). -/
def framesBeside (winners : List RxElem) : List RxElem → Nat
  | [] => 0
  | e :: r =>
    (if winners.any (fun w => w.same e) || r.any (fun f => f.same e) then 0 else 1) + framesBeside winners r

/-- The block of R208 for a frame whose run began at u. -/
def ackBlock (psdu : Bytes) (u : Instant) : Bytes :=
  let t := tt64 u
  [0xA5] ++ sliceB psdu 0 4 ++ sliceB psdu 7 4 ++ leBytes 2 (fld t 63 48) ++ leBytes 2 (fld t 47 32) ++
    leBytes 1 (fld t 31 26) ++ leBytes 1 (fld t 25 19) ++ leBytes 1 (fld t 18 16)

/-- The ACK frame of R207. -/
def State.ackFrame (s : State) (e : RxElem) (u : Instant) : Bytes :=
  sliceB e.psdu 0 4 ++ [5] ++ sliceB e.psdu 7 1 ++
    sliceB (Config.aesBlock (s.keyOf (fieldN e.psdu 5 1)) (ackBlock e.psdu u)) 0 4

/-- The band of a channel at frequency f (R225). -/
def State.ackBand (s : State) (n : Fin 4) (f : Int) : Band := synBand (s.o (Obj.SLCn_CENTRE_HZ n)) f 490000

/-- The channel of a gang ACK that acknowledges e: map 0x01, rate 1/2 and SEED 0x5B (R148, R184). -/
def State.ackChan (s : State) (n : Fin 4) (e : RxElem) (u : Instant) (power : Int) : TxChan :=
  { chan := e.chan, bank := fld (fieldN e.rcd 12 1) 4 4, mode := 1, lo := (s.ackBand n e.freq).1, hi := (s.ackBand n e.freq).2
    dur := 14400, power := power, psdu := s.ackFrame e u, head := headBits 10 1 0 0x5B, loads := fixedLoads 1 }

/-- The gang ACK of winners ws is made at V, or withheld (R184, R185). -/
def State.ackMake (s : State) (n : Fin 4) (w : UpWin) (ws : List RxElem) : State :=
  let led := s.ledIdx n (256 + w.slot)
  let a := w.w + 768
  let k := ws.length
  let s := s.wn (sledAddr n led + 8) 4 k
  if k = 0 then s.sledEnd n led 3 0 0
  else if s.slices[n].gated then s.ackLost n led 0x0D none
  else if s.slices[n].lostSlot = some (slotStart a) then
    s.ackLost n led 4 (some a)
  else if s.portState n (s.o (Obj.SLCn_TX_PORT n)) = 3 then s.ackLost n led 5 none
  else
    match s.airReserve n (ws.map (fun e => s.ackBand n e.freq)) 14592 true with
    | (none, s) => s.ackLost n led 0x0A none
    | (some (ks, cs), s) =>
      let (ps, s) := s.clamp n (ws.map (fun _ => 4 * s.oi 8 (Obj.SLCn_ACK_POWER n)))
      let chans := (List.zip ws ps).map (fun x => s.ackChan n x.1 w.u x.2)
      let t : TxSt := {
        kind := 0x12, led := led, start := a, tol := 0, dur := 14400, lbt := false, be := 0xFF, at_ := a - 96
        ramp := none, ended := false, cut := none, port := s.o (Obj.SLCn_TX_PORT n), charge := 14592, bkts := ks
        cells := cs, chans := chans, sel := k }
      let s := (s.modTxs n (fun l => l ++ [t])).recordState (sledAddr n led) 2
      s.modSlice n (fun x => { x with
        rx := x.rx.map (fun e => if ws.any (fun v => v.slot == e.slot) then { e with acked := true } else e) })

/-- ACK_VERDICT_CUTOFF (R180-R185). A late verdict counts in SLCn_ACK_LATEVERDICT also when no frame is left to acknowledge
(R182, R184, log 220). -/
def execAckVerdictCutoff (n : Fin 4) (s : State) : Out :=
  match s.slices[n].wins.find? (fun w => !w.fixed) with
  | none => .next s
  | some w =>
    let v := w.w + 384
    let s := s.upTo v
    let s := s.modSlice n (fun x => { x with
      wins := x.wins.map (fun y => if y.u = w.u then { y with closed := true, fixed := true } else y) })
    let all := if s.ob (Obj.SLCn_ACK_ENABLE n) then
      s.slices[n].rx.filter (fun e => e.window == some w.u && e.mayAck) else []
    let good := all.filter (fun e => e.readyBy v && s.ackKey e)
    let ws := good.filter (fun e => good.all (fun f => e.wins f))
    let s := s.addO 32 (Obj.SLCn_ACK_LATEVERDICT n) (framesBeside good (all.filter (fun e => !(e.readyBy v && s.ackKey e))))
    let s := s.addO 32 (Obj.SLCn_ACK_CROWDED n) (framesBeside ws (good.filter (fun e => !(ws.any (fun w => w.slot == e.slot)))))
    .next (s.ackMake n w ws)

/-! ## Listen-before-talk (R241-R243) -/

/-- The word of listener k in the listen set in force; one that holds a packet takes it later (R103). -/
def State.lsnWord (s : State) (n : Fin 4) (k : Fin 48) : Nat := s.slices[n].lsn[k].deferred.getD (s.lsnNow n k)

/-- A listener's word names a bank and channel. -/
def onChannel (w bank chan : Nat) : Bool := aMode w != 0 && aBank w == bank && aChan w == chan

/-- Listener k measures a channel: it is assigned to it under the listen set in force, or surveys it (R242). -/
def State.measures (s : State) (n : Fin 4) (bank chan : Nat) (k : Fin 48) : Bool :=
  onChannel (s.lsnWord n k) bank chan ||
  (s.lsnState n k == 0 && s.slices[n].lsn[k].survey == some chan && s.mapBank n == some bank)

/-- An assessment of one channel over [now − 4,915, now); its mean power in 0.25 dBm: measured, clear (R242). No block and no
window uses outputs of a bank that are not valid yet (R89). -/
def State.assess (s : State) (n : Fin 4) (bank chan : Nat) (pw : Int) : Bool × Bool :=
  let ms := fin48.filter (fun k => s.measures n bank chan k)
  let th := if bandOf (s.o (Obj.SLCn_CENTRE_HZ n)) = 2 then s.oi 8 Obj.AIR_CCA_THRESH_24 else s.oi 8 Obj.AIR_CCA_THRESH_SG
  let whole := ms.any (fun k => decide (s.lsnState n k ≤ 1) && decide (s.slices[n].lsn[k].since + 4915 ≤ s.now))
  let held := fin48.any (fun k => s.lsnHolds n k && onChannel (s.lsnNow n k) bank chan)
  (!ms.isEmpty, whole && !held && decide (pw < 4 * th) && s.clearFrom n (s.now - 4915) s.now &&
    decide (s.slices[n].validFrom[asFin 2 bank] + 4915 ≤ s.now))

/-- The entry with LBT whose assessment comes next. -/
def State.nextAssess (s : State) (n : Fin 4) : Option TxSt :=
  (s.slices[n].txs.filter (fun t => t.lbt && t.ramp.isNone)).foldl (fun (m : Option TxSt) t =>
    match m with
    | none => some t
    | some u => if t.at_ < u.at_ then some t else some u) none

/-- CCA_ASSESS (R241-R243): no assessment before LOCK is first reached. -/
def execCcaAssess (n : Fin 4) (pw : List Int) (s : State) : Out :=
  match s.nextAssess n with
  | none => .next s
  | some t =>
    let s := s.upTo t.at_
    if !(s.canSend n) then .next s
    else
      let r := (List.zip (List.range t.chans.length) t.chans).map (fun x => s.assess n x.2.bank x.2.chan (nth pw x.1 0))
      if r.all (fun x => x.2) then .next (s.rampUp n t)
      else
        let s := s.inc Obj.AIR_CCA_BUSY
        let s := if r.any (fun x => !x.1) then s.inc Obj.AIR_CCA_NOMEAS else s
        let be := if t.be = 0xFF then s.o Obj.AIR_BE_MIN else t.be
        let k := s.freeBelow (2 ^ be)
        let s := s.drawnReq
        let at' := t.at_ + (k + 1) * 2458
        if t.start + t.tol < at' + 96 then .next (s.txAbandon n t 3 (some (t.start + t.tol)))
        else .next (s.putTx n { t with at_ := at', be := min 5 (be + 1) })

end Sys2Proof.Machine
end

