-- ==== Sys2Proof/Machine/Flood.lean ====
section
/-!
DEFINITION. Fabric datagrams and link credits on the sending side (10_fabric.md R265-R267, R289), and managed flooding
(09_flooding.md R244-R264).
-/
namespace Sys2Proof.Machine

/-! ## Sending a datagram -/

/-- Change the fabric. -/
def State.modFab (s : State) (f : FabSt → FabSt) : State := { s with fab := f s.fab }

/-- Change the fabric side of port p. -/
def State.modWire (s : State) (p : Fin 2) (f : WireSt → WireSt) : State :=
  s.modFab (fun x => { x with wires := vmod x.wires p f })

/-- Port p has a peer. -/
def State.hasPeer (s : State) (p : Nat) : Bool := s.o (Obj.FAB_Wp_STATE p) == 2

/-- The link of port p is up. -/
def State.portUp (s : State) (p : Nat) : Bool := s.o (Obj.FAB_Wp_STATE p) != 0

/-- AVAIL of R289: credits left under the last GRANT. -/
def WireSt.avail (w : WireSt) : Nat :=
  let d := (w.grant + 65536 - w.next) % 65536
  if d < 32768 then d else 0

/-- FAB_Wp_CR_AVAIL and FAB_Wp_CR_OUT: AVAIL + OUT = TOTAL of the peer, whose cells the credits stand for, while there is one. -/
def State.syncCredit (s : State) (p : Fin 2) : State :=
  let w := s.fab.wires[p]
  let a := if s.hasPeer p then min w.peerTotal w.avail else 0
  (s.setO (Obj.FAB_Wp_CR_AVAIL p) a).setO (Obj.FAB_Wp_CR_OUT p) (if s.hasPeer p then w.peerTotal - a else 0)

/-- GRANT of a datagram sent on port p: before a peer is found, the TOTAL that it would find. -/
def State.grantOf (s : State) (p : Fin 2) : Nat :=
  let w := s.fab.wires[p]
  (w.exp + 65536 + (if s.hasPeer p then w.total else s.o (Obj.FAB_Wp_CR_TOTAL p)) - s.o (Obj.FAB_Wp_RX_HELD p)) % 65536

/-- The nonce of a datagram (R267). -/
def wireNonce (uid fcnt : Nat) : Bytes :=
  leBytes 4 (uid / 2 ^ 32) ++ leBytes 4 fcnt ++ [0x82] ++ leBytes 4 uid

/-- The group of R265, ff02::1. -/
def allNodes : Bytes := [0xFF, 2] ++ List.replicate 13 0 ++ [1]

/-- Start a frame on port p. -/
def State.portStart (s : State) (p : Fin 2) (w : WireOut) : State :=
  { s with com := { s.com with ports := vmod s.com.ports p (fun x => { x with out := x.out ++ [w] }) } }.inc
    (Obj.COM_Tp_TX_FRAMES p)

/-- Port p starts no other frame from T3 − 48,000 µt until its TIME_RSP goes (R294). -/
def State.portWaits (s : State) (p : Fin 2) : Bool :=
  match s.fab.wires[p].rsp with
  | none => false
  | some (_, t2) => decide (t2 + 28800 < s.now)

/-- Put a packet on port p: at once, or after the TIME_RSP that the port waits for (R294). -/
def State.portSend (s : State) (p : Fin 2) (w : WireOut) : State :=
  if s.portWaits p then
    { s with com := { s.com with ports := vmod s.com.ports p (fun x => { x with after := x.after ++ [w] }) } }
  else s.portStart p w

/-- The packets that waited for a TIME_RSP go. -/
def State.portFlush (s : State) (p : Fin 2) : State :=
  let l := s.com.ports[p].after
  let s : State := { s with com := { s.com with ports := vmod s.com.ports p (fun x => { x with after := [] }) } }
  l.foldl (fun (s : State) w => s.portStart p w) s

/-- Send a fabric message on port p (R265-R267, R289); none when its key slot gives no counter. -/
def State.wireSend (s : State) (p : Fin 2) (msg : Bytes) (spend : Bool) : Option State :=
  let k := s.o Obj.FAB_KEY
  match s.assignCtr k 4 with
  | none => none
  | some (c, s) =>
    let uid := s.o Obj.ID_UID
    let src := if 2 ≤ s.o Obj.FAB_ADDR_STATE then s.o Obj.FAB_ADDR else 0
    let head := [1] ++ leBytes 1 k ++ leBytes 2 src ++ leBytes 2 (s.fab.wires[p].next) ++ leBytes 2 (s.grantOf p) ++
      leBytes 4 c ++ leBytes 8 uid
    let sealed := Config.ccmSeal (s.keyOf k) (wireNonce uid c) head msg 8
    let s := if spend then s.modWire p (fun w => { w with next := (w.next + 1) % 65536 }) else s
    some ((s.portSend p (.udp allNodes 47211 (head ++ sealed))).syncCredit p)

/-! ## Flood messages (R244, R248) -/

/-- STAMP of an instant: TT64[47:16]. -/
def stampOf (t : Instant) : Nat := tt64 t / 65536 % 2 ^ 32

/-- Linear slots of a STAMP modulo 65,536 epochs (R248). -/
def stampSlots (v : Nat) : Nat := ((fld v 31 16 * 60 + fld v 15 10) * 100 + fld v 9 3) * 8 + fld v 2 0

/-- Slots from STAMP b to STAMP a, negative when b lies later (R248). -/
def stampDiff (a b : Nat) : Int :=
  let m := 65536 * 48000
  let d := (stampSlots a + 2 * m - stampSlots b) % m
  if m ≤ 2 * d then (d : Int) - m else d

/-- Synchronised or in holdover (R290). -/
def State.timed (s : State) : Bool :=
  let x := s.o Obj.TMB_SYNC_STATE
  x == 2 || x == 3 || x == 4

/-- Class of a flood message. -/
def mClass (m : Bytes) : Nat := fieldN m 0 1 % 8
/-- TTL byte of a flood message. -/
def mTtl (m : Bytes) : Nat := fieldN m 1 1
/-- ORIGIN of a flood message. -/
def mOrigin (m : Bytes) : Nat := fieldN m 2 2
/-- FSEQ of a flood message. -/
def mFseq (m : Bytes) : Nat := fieldN m 4 2
/-- STAMP of a flood message. -/
def mStamp (m : Bytes) : Nat := fieldN m 6 4
/-- LEN of a flood message. -/
def mLen (m : Bytes) : Nat := fieldN m 10 2

/-! ## The Husk cache (R249-R252) -/

/-- Address of way w of a Husk set. -/
def huskAddr (set w : Nat) : Nat := 0x20140000 + 64 * set + 8 * w

/-- The Husk set of ORIGIN and FSEQ (R250). -/
def huskSet (o q : Nat) : Nat := (o * 65536 + q) * 0x9E3779B1 % 2 ^ 32 / 2 ^ 19

/-- A way is VALID. -/
def State.huskValid (s : State) (set w : Nat) : Bool := bitOf (s.rn (huskAddr set w) 2) 12

/-- A way is expired (R250). -/
def State.huskExpired (s : State) (set w : Nat) : Bool :=
  s.timed && decide ((800 * s.o Obj.FLD_HUSK_LIFE : Nat) < stampDiff (stampOf s.now) (s.rn (huskAddr set w + 4) 4))

/-- The Husk lookup of R250. -/
def State.huskHit (s : State) (m : Bytes) : Bool :=
  let set := huskSet (mOrigin m) (mFseq m)
  (List.range 8).any (fun w => s.huskValid set w && !(s.huskExpired set w) &&
    s.rn (huskAddr set w) 2 % 4096 == mOrigin m % 4096 && s.rn (huskAddr set w + 2) 2 == mFseq m &&
    s.rn (huskAddr set w + 4) 4 == mStamp m)

/-- The way with the oldest STAMP, the lowest of equals (R251). -/
def State.huskOldest (s : State) (set : Nat) : Nat :=
  let age := fun w => stampDiff (stampOf s.now) (s.rn (huskAddr set w + 4) 4)
  (List.range 8).foldl (fun m w => if age m < age w then w else m) 0

/-- Write a Husk entry (R251): its index 8 × set + way. -/
def State.huskPut (s : State) (origin fseq stamp : Nat) : Nat × State :=
  let set := huskSet origin fseq
  let body := leBytes 2 (origin % 4096 + 4096) ++ leBytes 2 fseq ++ leBytes 4 stamp
  match (List.range 8).find? (fun w => !(s.huskValid set w) || s.huskExpired set w) with
  | some w =>
    let s := if s.huskValid set w then s else s.inc Obj.FLD_HUSK_USED
    (8 * set + w, s.wbs (huskAddr set w) body)
  | none =>
    let w := s.huskOldest set
    (8 * set + w, (s.inc Obj.FLD_HUSK_EARLY).wbs (huskAddr set w) body)

/-- The cache is emptied (R252). -/
def State.huskEmpty (s : State) : State :=
  ((s.clearMem 0x20140000 0x80000).setO Obj.FLD_HUSK_USED 0).setO Obj.FLD_HUSK_EMPTY_AT (tt64 s.now)

/-! ## Messages that wait (R246) -/

/-- FKIND of a message. -/
def InMsg.kind (m : InMsg) : Nat := fieldN m.msg 0 1

/-- A flood message. -/
def InMsg.flood (m : InMsg) : Bool := decide (0xF0 ≤ m.kind) && decide (m.kind ≤ 0xF7)

/-- Address of byte b of a message in its cells. -/
def InMsg.addrOf (m : InMsg) (b : Nat) : Nat :=
  let p := if m.src < 4 then m.src else 4
  let o := m.off + b
  cellAddr p (nth m.cells (o / cellSize p) 0) + o % cellSize p

/-- Where a source stands among those of one instant (R246): T1L port 0, port 1, then slices 0 to 3. -/
def InMsg.rank (m : InMsg) : Nat := if m.src < 4 then 2 + m.src else m.src - 4

/-- The message of a list that is taken first: the earliest, sources in the order of R246 within one instant. -/
def firstMsg : List InMsg → Option InMsg
  | [] => none
  | m :: r =>
    match firstMsg r with
    | none => some m
    | some y => if y.at_ < m.at_ || (y.at_ = m.at_ && y.rank < m.rank) then some y else some m

/-- Take the first waiting message that satisfies f. -/
def State.takeMsg (s : State) (f : InMsg → Bool) : Option InMsg × State :=
  match firstMsg (s.fab.inbox.filter f) with
  | none => (none, s)
  | some m => (some m, s.modFab (fun x => { x with inbox := x.inbox.erase m }))

/-- A message is dropped: a datagram's cell returns; radio cells are firmware's to release (R389). -/
def State.dropMsg (s : State) (m : InMsg) : State := if m.src < 4 then s else s.returnCells 4 m.cells

/-- A message is kept for firmware. -/
def State.keepMsg (s : State) (m : InMsg) : State := if m.src < 4 then s else s.holdCells 4 m.cells

/-- A delivery element of R253. -/
def element (src cls origin fseq ttl husk len addr : Nat) : Bytes :=
  leBytes 1 src ++ leBytes 1 cls ++ leBytes 2 origin ++ leBytes 2 fseq ++ leBytes 1 ttl ++ [0] ++ leBytes 2 husk ++
    leBytes 2 len ++ leBytes 4 addr

/-- Elements published and not consumed. -/
def State.ringUsed (s : State) (prod cons : Key) : Nat := (s.o prod + 65536 - s.o cons) % 65536

/-- Publish into the flood delivery ring (R253). -/
def State.floodDeliver (s : State) (e : Bytes) : State :=
  let prod := s.o Obj.FLD_DQ_PROD
  let s := (s.wbs (0x20130000 + 16 * (prod % 256)) e).setO Obj.FLD_DQ_PROD ((prod + 1) % 65536)
  if s.steps.ring then s
  else (s.modSteps (fun x => { x with ring := true })).raise 0x132 0 (s.o Obj.FLD_DQ_PROD)

/-! ## Steps (R254-R257) -/

/-- CFG of class c. -/
def State.clsCfg (s : State) (c : Nat) : Nat := s.o (Obj.FLD_Cc_CFG c)

/-- The steps of R254 for a message of class c that arrived from src (6 for an origination). -/
def State.stepsOf (s : State) (c src : Nat) : Nat :=
  let cfg := s.clsCfg c
  let w := fun (p : Nat) => bitOf cfg 1 && s.portUp p && src != 4 + p
  let m := setBit (setBit 0 0 (w 0)) 1 (w 1)
  (List.range 4).foldl (fun m n => setBit m (2 + n) (bitOf cfg (2 + n) && s.o (Obj.SLCn_LC_STATE n) != 0)) m

/-- Begin the steps of a flood job (R254-R256): its jitter drawn, E and X set. -/
def State.beginSteps (s : State) (t c sel : Nat) (owner : Option (Fin 8 × Bytes)) (copy : Bytes) (at_ : Instant) : State :=
  let d := s.o (Obj.FLD_Cc_JITTER c)
  let e := at_ + s.freeBelow (d + 1)
  let s := s.drawnReq
  let j : StepJob := {
    ticket := t, fabric := false, owner := owner, sel := sel, arrival := at_, e := e
    x := e + s.o Obj.FLD_RELAY_WIN, jitter := true, cls := c, msg := copy }
  let s := s.modSteps (fun x => { x with jobs := x.jobs ++ [j] })
  let s := s.wn (ledAddr t + 8) 4 sel
  if sel = 0 then s.stepsOver j else s

/-- A relay job for a NEW message (R254); none when the ledger is full. -/
def State.relay (s : State) (m : InMsg) : State :=
  let ttl := mTtl m.msg
  if ttl % 16 = 0 then s
  else
    let c := mClass m.msg
    let sel := s.stepsOf c m.src
    match s.newRecord 1 0x14 12 sel 0 0 with
    | (none, s) => s
    | (some t, s) =>
      let copy := m.msg.take 1 ++ leBytes 1 (ttl - 1) ++ m.msg.drop 2
      let s := if sel % 4 = 0 then s else s.recordState (ledAddr t) 2
      s.beginSteps t c sel none copy m.at_

/-! ## Taking a message (R247) -/

/-- Checks 1 to 6 of R247: the code of the first that fails. -/
def State.floodCheck (s : State) (m : Bytes) : Option Nat :=
  let o := mOrigin m
  if !(s.ob Obj.FLD_ENABLE) || !(bitOf (s.clsCfg (mClass m)) 0) then some 1
  else if m.length < 12 || mLen m ≠ m.length - 12 || mTtl m / 16 < mTtl m % 16 || o = 0 || 0xFFF ≤ o then some 2
  else if o = s.o Obj.FAB_ADDR then some 3
  else
    let d := stampDiff (stampOf s.now) (mStamp m)
    if s.timed && decide ((800 * s.o Obj.FLD_MAX_AGE : Nat) < d) then some 4
    else if s.timed && decide (d < -800) then some 5
    else if 0 < stampDiff (stampOf (linear (s.o Obj.FLD_HUSK_EMPTY_AT))) (mStamp m) then some 4
    else none

/-- A drop under checks 1 to 6 or 8. -/
def State.floodDrop (s : State) (m : InMsg) (code : Nat) : State :=
  ((s.setO Obj.FLD_LAST_DROP code).inc Obj.FLD_RX_DROP).dropMsg m

/-- A duplicate (check 7): a copy from radio counts toward the job that waits for E (R256). -/
def State.floodDup (s : State) (m : InMsg) : State :=
  let s := s.inc Obj.FLD_RX_DUP
  let s := if m.src < 4 then
      s.modSteps (fun x => { x with jobs := x.jobs.map (fun j =>
        if j.jitter && !j.fabric && sliceB j.msg 2 8 == sliceB m.msg 2 8 then { j with heard := j.heard + 1 } else j) })
    else s
  s.dropMsg m

/-- A NEW message: Husk entry, delivery element, relay (R247, R251, R253, R254). -/
def State.floodNew (s : State) (m : InMsg) : State :=
  let b := m.msg
  let (h, s) := s.huskPut (mOrigin b) (mFseq b) (mStamp b)
  let s := s.floodDeliver (element m.src (mClass b) (mOrigin b) (mFseq b) (mTtl b) h (mLen b) (m.addrOf 12))
  ((s.inc (Obj.FLD_Cc_NEW (mClass b))).keepMsg m).relay m

/-- FLOOD_TAKE (R246, R247). The engine sleeps while SYSCLK is stopped (R252). -/
def execFloodTake (s : State) : Out :=
  if !s.sysclk then .next s else
  match s.takeMsg (fun m => m.flood) with
  | (none, s) => .next s
  | (some m, s) =>
    match s.floodCheck m.msg with
    | some c => .next (s.floodDrop m c)
    | none =>
      if s.huskHit m.msg then .next (s.floodDup m)
      else if 256 ≤ s.ringUsed Obj.FLD_DQ_PROD Obj.FLD_DQ_CONS then .next ((s.floodDrop m 6).inc Obj.FLD_DQ_FULL)
      else .next (s.floodNew m)

/-! ## Wired steps (R255) -/

/-- The deadline of a job's wired steps. -/
def StepJob.wireBy (j : StepJob) : Instant := j.x - (j.e - j.arrival)

/-- The oldest job with an open wired step k. -/
def State.wireJob (s : State) (k : Nat) : Option StepJob :=
  s.steps.jobs.find? (fun j => !j.fabric && bitOf j.sel k && !(bitOf j.past k))

/-- A wired step of port p can start: the link is up and a credit is there (R289). -/
def State.creditFor (s : State) (p : Fin 2) : Bool := s.portUp p && s.hasPeer p && s.fab.wires[p].avail != 0

/-- Send wired step k of a job on port p, when it has a credit. -/
def State.wireStep (s : State) (p : Fin 2) (j : StepJob) (k : Nat) : State :=
  if !(s.portUp p) then s.stepEnd j.ticket k 0x15
  else if !(s.hasPeer p) || s.fab.wires[p].avail = 0 then s
  else
    match s.wireSend p j.msg true with
    | none => s.stepEnd j.ticket k 0x0B
    | some s => s.stepEnd j.ticket k 0

/-- FLOOD_WIRED_SEND (R255). -/
def execFloodWiredSend (p : Fin 2) (s : State) : Out :=
  match s.wireJob p with
  | none => .next s
  | some j => .next (if j.wireBy < s.now then s.stepEnd j.ticket p 0x14 else s.wireStep p j p)

/-- A wired step of port p without credit by its deadline ends NO_CREDIT; a forward has one step, on the port of its
route (R255, R284). -/
def State.wireLate (s : State) (t : Nat) (p : Fin 2) : State :=
  match s.stepJob t with
  | none => s
  | some j =>
    if !j.fabric then (s.upTo j.wireBy).stepEnd t p 0x14
    else if j.cls = p then (s.upTo j.x).stepEnd t 0 0x14
    else s

/-- FLOOD_WIRED_DEADLINE (R255). -/
def execFloodWiredDeadline (t : Nat) (p : Fin 2) (s : State) : Out := .next (s.wireLate t p)

/-! ## Radio steps (R256-R259) -/

/-- Write a READY descriptor with its buffer (R257, R285). -/
def State.fillDesc (s : State) (fabric : Bool) (n : Nat) (i cls job dst : Nat) (e x : Instant) (msg : Bytes) : State :=
  let a := s.descAddr fabric n i
  let psdu := leBytes 4 (0xFFFFF000 + s.o Obj.FAB_ADDR) ++ [7]
  let b := s.bufAddr fabric n i
  let s := (s.wbs b psdu).wbs (b + 11) (leBytes 2 dst ++ msg)
  let s := (s.wbs (a + 1) (leBytes 1 cls ++ leBytes 2 (msg.length + 21) ++ leBytes 2 job)).wbs (a + 8) (leBytes 8 (tt64 e) ++ leBytes 8 (tt64 x))
  s.setDesc fabric n i 1

/-- The lowest FREE descriptor. -/
def State.freeDesc (s : State) (fabric : Bool) (n : Nat) : Option Nat :=
  (List.range 16).find? (fun i => s.descState fabric n i == 0)

/-- The radio step of a job on slice n begins: a descriptor, QUEUE_FULL, or GATED for a slice without power. -/
def State.radioStep (s : State) (j : StepJob) (n : Fin 4) (k cls dst : Nat) : State :=
  if s.slices[n].gated then s.stepEnd j.ticket k 0x0D
  else
    match s.freeDesc j.fabric n with
    | none => s.stepEnd j.ticket k 0x12
    | some i =>
      let t := s.fillDesc j.fabric n i cls (j.ticket % 65536) dst j.e j.x j.msg
      if 0x14 ≤ t.rn (ledAddr j.ticket + 5) 1 then t.wn (ledAddr j.ticket + 18) 2 i else t

/-- FLOOD_JITTER_END (R256, R261). -/
def execFloodJitterEnd (t : Nat) (s : State) : Out :=
  match s.steps.jobs.find? (fun j => j.ticket == t && j.jitter && !j.fabric) with
  | none => .next s
  | some j =>
    let s := (s.upTo j.e).modJob t (fun j => { j with jitter := false })
    let s := if s.recState (ledAddr t) = 1 then s.recordState (ledAddr t) 2 else s
    let radio := fin4.filter (fun n => bitOf j.sel (2 + n.val))
    let sup := s.o (Obj.FLD_Cc_SUPPRESS j.cls)
    if sup ≠ 0 && sup ≤ j.heard then
      let s := if radio.isEmpty then s else s.inc Obj.FLD_RELAY_SUPP
      .next (radio.foldl (fun s n => s.stepEnd t (2 + n.val) 0x11) s)
    else .next (radio.foldl (fun s n => s.radioStep j n (2 + n.val) j.cls 0xFFF) s)

/-- The ticket and step that descriptor i of slice n carries. -/
def State.descJob (s : State) (fabric : Bool) (n i : Nat) : Option StepJob :=
  let v := s.rn (s.descAddr fabric n i + 4) 2
  s.steps.jobs.find? (fun j => j.fabric == fabric && j.ticket % 65536 == v)

/-- The step that slice n's queue carries. -/
def radioStepNo (fabric : Bool) (n : Nat) : Nat := if fabric then 0 else 2 + n

/-- A bind (R258): BOUND, or refused with BINDERR; none for an index above 15. -/
def State.bind (s : State) (fabric : Bool) (n : Fin 4) (i : Nat) : Option State :=
  if 15 < i then none
  else
    let a := s.descAddr fabric n i
    let at_ := s.rn (a + 24) 8
    let tol := s.rn (a + 6) 2
    let err := s.inc (if fabric then Obj.FAB_FQn_BINDERR n else Obj.FLD_RQn_BINDERR n)
    match s.descJob fabric n i with
    | none => some err
    | some j =>
      if s.descState fabric n i = 1 && ttValid at_ && decide (j.e + 384 ≤ linear at_) && decide (linear at_ + tol ≤ j.x) then
        let b : BindSt := ⟨fabric, n, i, j.ticket, radioStepNo fabric n, linear at_, none⟩
        some ((s.setDesc fabric n i 2).modSteps (fun x => { x with binds := x.binds ++ [b] }))
      else some err

/-- RELAY_BIND (R258). -/
def execRelayBind (who : Fin 8) (n : Fin 4) (i : Nat) (s : State) : Out :=
  .next ((s.bind false n i).getD (s.dropped (windowAddr (Obj.FLD_RQn_BIND n)) i who 3))

/-- A READY descriptor at X (R258, R285). -/
def State.descLate (s : State) (fabric : Bool) (n : Fin 4) (i : Nat) : State :=
  if s.descState fabric n i = 1 then
    match s.descJob fabric n i with
    | none => s
    | some j =>
      let s := ((s.upTo j.x).setDesc fabric n i 0)
      let s := if fabric then s else s.miss 9 5 j.x
      s.stepEnd j.ticket (radioStepNo fabric n) 0x10
  else s

/-- RELAY_DEADLINE (R258). -/
def execRelayDeadline (n : Fin 4) (i : Nat) (s : State) : Out := .next (s.descLate false n i)

/-- Take a bound descriptor out: FREE. -/
def State.unbind (s : State) (b : BindSt) : State :=
  (s.modSteps (fun x => { x with
    binds := x.binds.filter (fun y => !(y.slice == b.slice && y.desc == b.desc && y.fabric == b.fabric)) })).setDesc b.fabric b.slice b.desc 0

/-- BIND_AT − 384 µt of a BOUND descriptor (R259): it follows the entry on its buffer, or ends NOT_PLACED. -/
def State.boundSettle (s : State) (fabric : Bool) (n : Fin 4) (i : Nat) : State :=
  match s.steps.binds.find? (fun b => b.fabric == fabric && b.slice == n && b.desc == i && b.follows.isNone) with
  | none => s
  | some b =>
    let s := s.upTo (b.at_ - 384)
    let buf := s.bufAddr fabric n i
    let notPlaced := fun (s : State) =>
      let s := s.unbind b
      let s := if fabric then s else s.miss 9 5 (b.at_ - 384)
      s.stepEnd b.ticket b.step 0x13
    match s.slices[n].runs.find? (fun r => decide (r.start = b.at_) && eKind r.body == 1 && fieldN r.body 28 4 == buf) with
    | none => notPlaced s
    | some r =>
      let led := s.ledIdx n r.index
      let st := s.recState (sledAddr n led)
      let cause := s.rn (sledAddr n led + 6) 1
      if st < 3 then
        s.modSteps (fun x => { x with
          binds := x.binds.map (fun y => if y.slice = n ∧ y.desc = i ∧ y.fabric = fabric then { y with follows := some led } else y) })
      else if cause = 0x0C then notPlaced s
      else (s.unbind b).stepEnd b.ticket b.step cause

/-- RELAY_BOUND_SETTLE (R259). -/
def execRelayBoundSettle (n : Fin 4) (i : Nat) (s : State) : Out := .next (s.boundSettle false n i)

/-- A write of FLD_DQ_CONS (R253); none when refused. -/
def State.dqCons (s : State) (v : Nat) : Option State :=
  if consOk 65536 (s.o Obj.FLD_DQ_CONS) (s.o Obj.FLD_DQ_PROD) v then some (s.setO Obj.FLD_DQ_CONS v) else none

/-- FLD_DQ_CONS_WRITE (R253). -/
def execFldDqConsWrite (who : Fin 8) (v : Nat) (s : State) : Out :=
  .next ((s.dqCons v).getD (s.dropped (windowAddr Obj.FLD_DQ_CONS) v who 3))

/-! ## Origination (R260) -/

/-- The anchor holds a fabric address (R272). -/
def State.holdsAddr (s : State) : Bool := decide (2 ≤ s.o Obj.FAB_ADDR_STATE)

/-- Start the flood of a payload: FSEQ, STAMP, Husk entry and the steps of R254 for a message whose two TTL fields are the job's:
none at TTL 0, else with the relay copy, one lower; the record of ticket t RUNNING (R260). -/
def State.originate (s : State) (t c ttl : Nat) (payload : Bytes) (owner : Option (Fin 8 × Bytes)) : State :=
  let q := s.o Obj.FLD_ORIG_SEQ
  let st := stampOf s.now
  let o := s.o Obj.FAB_ADDR
  let s := (s.setO Obj.FLD_ORIG_SEQ ((q + 1) % 65536)).modSteps (fun x => { x with orig := x.orig + 1 })
  let (_, s) := s.huskPut o q st
  let msg := leBytes 1 (0xF0 + c) ++ leBytes 1 (17 * ttl - 1) ++ leBytes 2 o ++ leBytes 2 q ++ leBytes 4 st ++
    leBytes 2 payload.length ++ payload
  (s.recordState (ledAddr t) 2).beginSteps t c (if ttl = 0 then 0 else s.stepsOf c 6) owner msg s.now

/-- An origination is refused (R260). -/
def State.floodRefused (s : State) (c len : Nat) : Bool :=
  !(s.ob Obj.FLD_ENABLE) || !(bitOf (s.clsCfg c) 0) || decide (944 < len) || !(s.holdsAddr) || decide (256 ≤ s.steps.orig)

/-- The payload of a FLOOD or SEND cannot be read (R385, R452). -/
def State.payloadLost (s : State) (x : JobSt) : Bool := decide (0 < dLen x.desc) && (s.jobFault x.desc 0).isSome

/-- The job then ends, with the address of a block without clock or power kept. -/
def State.payloadOver (s : State) (x : JobSt) : State :=
  let (cause, a) := (s.jobFault x.desc 0).getD (0, 0)
  (if cause = 0x19 then s.dropped a 0 8 1 else s).jobOver x.core x.ticket x.desc 5 cause 0 0

/-- The flooding engine takes a FLOOD job (R260, R378). -/
def State.floodAccept (s : State) (x : JobSt) : State :=
  let d := x.desc
  let c := fieldN d 29 1
  if s.jobLate x then s.jobMissed x
  else if s.payloadLost x then s.payloadOver x
  else if s.floodRefused c (dLen d) then (s.inc Obj.FLD_ORIG_REFUSED).jobOver x.core x.ticket d 5 0x16 0 0
  else
    let s := s.modJobs (fun j => { j with
      queue := j.queue.map (fun y => if y.ticket = x.ticket then { y with running := true } else y) })
    s.originate x.ticket c (fieldN d 28 1) (s.rbs (dSrc d) (dLen d)) (some (x.core, d))

/-- A flood that the base firmware originates through its own FLOOD job: core `c`, payload from its own buffer (log 29). -/
def State.firmFlood (s : State) (core : Fin 8) (cls ttl : Nat) (payload : Bytes) : State :=
  match s.newRecord 1 7 core 0 0 0 with
  | (none, s) => s
  | (some t, s) =>
    if s.floodRefused cls payload.length then (s.inc Obj.FLD_ORIG_REFUSED).recordEnd (ledAddr t) 5 0x16 0 0
    else s.originate t cls ttl payload none

/-- The oldest job of core c, when it is a FLOOD or SEND that waits (R378). -/
def State.engineJob (s : State) (c : Fin 8) : Option JobSt :=
  match s.jobs.queue.filter (fun x => x.core == c) with
  | [] => none
  | x :: _ => if !x.running && decide (7 ≤ dKind x.desc) then some x else none

/-- JOB_FLOOD (R260): submission, and acceptance when no earlier job of the core is open. -/
def execJobFlood (who : Fin 8) (a : Nat) (s : State) : Out :=
  let s := s.submitKind who a 7
  match s.engineJob who with
  | none => .next s
  | some x => if dKind x.desc = 7 then .next (s.floodAccept x) else .next s

end Sys2Proof.Machine
end

