-- ==== Sys2Proof/Machine/Fabric.lean ====
section
/-!
DEFINITION. The fabric: received datagrams, neighbours and addresses (10_fabric.md R265-R277), unicast forwarding
(R283-R287) and the receiving side of link credits (R288, R289).
-/
namespace Sys2Proof.Machine

/-! ## Receiving a datagram (R265-R267, R289, R390) -/

/-- Cells of pool 4 still reserved for the peer of port p (R390). -/
def State.reserved (s : State) (p : Fin 2) : Nat :=
  if s.hasPeer p then s.fab.wires[p].total - (s.jobs.pools[(4 : Fin 5)].credit.filter (fun x => x.2 == p.val)).length else 0

/-- The message of a datagram that passes R265 to R267, without its counter. -/
def State.wireOpen (s : State) (hop : Nat) (sumOk : Bool) (b : Bytes) : Option Bytes :=
  let k := fieldN b 1 1
  if hop = 255 && sumOk && decide (28 ≤ b.length) && fieldN b 0 1 == 1 && k == s.o Obj.FAB_KEY && s.permits k 4 then
    Config.ccmOpen (s.keyOf k) (wireNonce (fieldN b 12 8) (fieldN b 8 4)) (b.take 20) (sliceB b 20 (b.length - 28))
      (sliceB b (b.length - 8) 8)
  else none

/-- The highest FCNT accepted from a UID on port p, plus 1. -/
def WireSt.fcntNext (w : WireSt) (uid : Nat) : Nat := ((w.fcnts.find? (fun x => x.1 == uid)).map (fun x => x.2 + 1)).getD 0

/-- A FKIND that spends a credit (R288). -/
def spends (kind : Nat) : Bool := kind == 5 || (decide (0xF0 ≤ kind) && decide (kind ≤ 0xF7))

/-- a lies above b, counting modulo 65,536 (R289). -/
def above (a b : Nat) : Bool :=
  let d := (a + 65536 - b) % 65536
  decide (0 < d) && decide (d < 32768)

/-- The books of R289 for a datagram from the peer of port p. -/
def State.wireBooks (s : State) (p : Fin 2) (spend : Bool) (lseq grant : Nat) : State :=
  (s.modWire p (fun w =>
    let e := if spend then (lseq + 1) % 65536 else lseq
    { w with
      grant := grant
      exp := if above e w.exp then e else w.exp })).syncCredit p

/-- A datagram is taken into the fabric, its message decrypted in its cell. -/
def State.wireTake (s : State) (p : Fin 2) (b msg : Bytes) (c : List Nat) : State :=
  let uid := fieldN b 12 8
  let kind := fieldN msg 0 1
  let peer := s.hasPeer p && uid == s.o (Obj.FAB_Wp_PEER_UID p)
  let s := s.modWire p (fun w => { w with fcnts := (uid, fieldN b 8 4) :: w.fcnts.filter (fun x => x.1 != uid) })
  let s := if peer then s.wireBooks p (spends kind) (fieldN b 4 2) (fieldN b 6 2) else s
  if kind = 1 || kind = 2 || kind = 3 || spends kind then
    let s := s.fillCells 4 c (b.take 20 ++ msg)
    let s := if peer && spends kind then
        (s.modPool 4 (fun q => { q with credit := q.credit ++ [(nth c 0 0, p.val)] })).syncHeld
      else s
    let m : InMsg := ⟨4 + p.val, s.now, msg, c, 20, uid, fieldN b 2 2 % 4096, fieldN b 6 2⟩
    s.modFab (fun x => { x with inbox := x.inbox ++ [m] })
  else (s.inc Obj.FAB_RX_BADKIND).returnCells 4 c

/-- A UDP datagram for port 47211 (R265, R388, R390). -/
def State.fabricRx (s : State) (p : Fin 2) (hop : Nat) (sumOk : Bool) (b : Bytes) : State :=
  let drop := fun (s : State) => s.inc (Obj.FAB_Wp_RXDROP p)
  if 1024 < b.length then drop s
  else
    let got := (s.wireOpen hop sumOk b).filter (fun _ => decide (s.fab.wires[p].fcntNext (fieldN b 12 8) ≤ fieldN b 8 4))
    let own := match got with
      | some m => s.hasPeer p && fieldN b 12 8 == s.o (Obj.FAB_Wp_PEER_UID p) && spends (fieldN m 0 1)
      | none => false
    let keep := (if own then 0 else s.reserved p) + s.reserved (1 - p)
    match s.takeCells 4 1 keep with
    | (none, s) => s
    | (some c, s) =>
      match got with
      | none => (drop s).returnCells 4 c
      | some m => s.wireTake p b m c

/-- FABRIC_DATAGRAM_RX (R265-R268). -/
def execFabricDatagramRx (p : Fin 2) (hop : Nat) (sumOk : Bool) (payload : Bytes) (s : State) : Out :=
  if s.portUp p then .next (s.fabricRx p hop sumOk payload) else .next s

/-! ## Peers (R269, R270) -/

/-- One miss of the timing parent (R296). -/
def State.timeMiss (s : State) : State :=
  (s.setO Obj.FAB_MISSES (min 255 (s.o Obj.FAB_MISSES + 1))).modFab (fun x => { x with missed := true })

/-- The credit books of port p start again from 0 (R289). -/
def State.clearBooks (s : State) (p : Fin 2) : State :=
  let s := s.modPool 4 (fun q => { q with credit := q.credit.filter (fun x => x.2 != p.val) })
  (s.modWire p (fun w => { w with next := 0, exp := 0, grant := 0 })).syncHeld.syncCredit p

/-- The peer of port p is lost (R269). -/
def State.peerGone (s : State) (p : Fin 2) : State :=
  if s.hasPeer p then
    let s := ((s.setO (Obj.FAB_Wp_STATE p) 1).setO (Obj.FAB_Wp_PEER p) 0).setO (Obj.FAB_Wp_PEER_UID p) 0
    let s := (s.modWire p (fun w => {
      w with
      advert := none, theta := none, t1 := none, reqHeld := false, rsp := none, quiet := 0, heard := false, fcnts := [] })).clearBooks p
    let s := s.portFlush p
    if s.o Obj.FAB_PARENT_VIA = p then s.timeMiss else s
  else s

/-- PEER_LOST (R269). -/
def execPeerLost (p : Fin 2) (s : State) : Out :=
  if 3 ≤ s.fab.wires[p].quiet then .next (s.peerGone p) else .next s

/-! ## The link-state database, as read (R278, R280) -/

/-- Address of record a. -/
def State.lsdbAddr (s : State) (a : Nat) : Nat := s.o Obj.FAB_LSDB_BASE + 256 * (a % 4096)

/-- Record a is VALID; one that cannot be read is not (R412, R435, R452). -/
def State.lsdbValid (s : State) (a : Nat) : Bool := s.hwHas (s.lsdbAddr a) 256 && bitOf (s.rn (s.lsdbAddr a + 6) 1) 0

/-- UID of record a. -/
def State.lsdbUid (s : State) (a : Nat) : Nat := s.rn (s.lsdbAddr a + 8) 8

/-- SINCE of record a. -/
def State.lsdbSince (s : State) (a : Nat) : Nat := s.rn (s.lsdbAddr a + 16) 8

/-- RANK of record a. -/
def State.lsdbRank (s : State) (a : Nat) : Nat := s.rn (s.lsdbAddr a + 24) 1

/-- Record a is no longer VALID. -/
def State.lsdbDrop (s : State) (a : Nat) : State :=
  if s.lsdbValid a then
    let k := s.lsdbAddr a + 6
    (s.hwWrite k (leBytes 1 (setBit (s.rn k 1) 0 false))).inc Obj.FAB_LSDB_GEN
  else s

/-- TRANK of this anchor: the rank of its TREF (R270). -/
def State.trank (s : State) : Nat :=
  let r := s.o Obj.FAB_TREF
  let via := s.o Obj.FAB_PARENT_VIA
  if r = s.o Obj.FAB_ADDR then s.o Obj.FAB_TIME_RANK
  else if via < 2 then ((s.fab.wires[asFin 2 via].advert).map (·.trank)).getD 255
  else if s.lsdbValid r then s.lsdbRank r
  else 255

/-- A HELLO of this anchor on port p (R270). -/
def State.hello (s : State) (p : Fin 2) : Bytes :=
  let st := s.o Obj.FAB_ADDR_STATE
  [1] ++ leBytes 1 (b2n (st == 3) + 2 * b2n (st == 2)) ++ leBytes 8 (s.o Obj.FAB_HELD_SINCE) ++
    leBytes 2 (s.o Obj.FAB_PARENT) ++ leBytes 2 (s.o Obj.FAB_TREF) ++ leBytes 1 s.trank ++
    leBytes 1 (s.o Obj.FAB_HOPS) ++ leBytes 1 (s.o Obj.TMB_SYNC_STATE) ++ [0] ++ leBytes 2 (s.o Obj.FAB_ERR) ++
    leBytes 2 (s.o (Obj.FAB_Wp_COST p))

/-- HELLO_SEND (R269). -/
def execHelloSend (p : Fin 2) (s : State) : Out :=
  if s.portUp p then .next ((s.wireSend p (s.hello p) false).getD s) else .next s

/-- The advert of a HELLO. -/
def helloAdvert (m : Bytes) : Advert :=
  ⟨fieldN m 2 8, fieldN m 10 2 % 4096, fieldN m 12 2 % 4096, fieldN m 14 1, fieldN m 15 1, fieldN m 16 1, fieldN m 18 2, fieldN m 20 2⟩

/-! ## Conflicts (R274-R276) -/

/-- A CLAIM or CONFLICT payload (R274). -/
structure Conflict where
  flags : Nat
  addr : Nat
  ua : Nat
  sa : Nat
  ub : Nat
  sb : Nat
  deriving DecidableEq, Repr

/-- The payload of a CONFLICT. -/
def Conflict.body (c : Conflict) : Bytes :=
  [1] ++ leBytes 1 c.flags ++ leBytes 2 c.addr ++ leBytes 8 c.ua ++ leBytes 8 c.sa ++ leBytes 8 c.ub ++ leBytes 8 c.sb

/-- The payload of a CLAIM or CONFLICT. -/
def conflictOf (b : Bytes) : Conflict :=
  ⟨fieldN b 1 1, fieldN b 2 2 % 4096, fieldN b 4 8, fieldN b 12 8, fieldN b 20 8, fieldN b 28 8⟩

/-- The pair of a conflict, its UIDs in order. -/
def Conflict.pair (c : Conflict) : Bytes := leBytes 2 c.addr ++ leBytes 8 (min c.ua c.ub) ++ leBytes 8 (max c.ua c.ub)

/-- Party A beats party B (R276). -/
def Conflict.aWins (c : Conflict) : Bool :=
  let ha := bitOf c.flags 0
  let hb := bitOf c.flags 1
  if ha != hb then ha
  else if c.sa ≠ c.sb then decide (linear c.sa < linear c.sb)
  else decide (c.ua < c.ub)

/-- This anchor is a party. -/
def State.party (s : State) (c : Conflict) : Bool :=
  s.holdsAddr && s.o Obj.FAB_ADDR == c.addr && (s.o Obj.ID_UID == c.ua || s.o Obj.ID_UID == c.ub)

/-- Count a conflict and raise ADDR_CONFLICT (R276), once for one conflict: further messages of its pair within FAB_LSA_PERIOD
superframes are of the same (log 185). -/
def State.conflictEvent (s : State) (c : Conflict) : State :=
  let l := s.fab.settled.filter (fun x => decide (s.runSf < x.2 + s.o Obj.FAB_LSA_PERIOD))
  if l.any (fun x => x.1 == c.pair) then s
  else
  let s := s.modFab (fun x => { x with settled := l ++ [(c.pair, s.runSf)] })
  (s.inc Obj.FAB_CONFLICTS).raiseE ⟨0x133, 0, c.addr + c.flags * 65536, s.now, leBytes 8 c.ua ++ leBytes 8 c.ub⟩

/-- Park every slice at the next tick. -/
def State.parkAll (s : State) : State := fin4.foldl (fun (s : State) (n : Fin 4) => (s.lcPark n).getD s) s

/-- The slices leave PARK (R273, R276): a PARK not yet in force is withdrawn; a slice in PARKED runs the first program committed
for it, and stays PARKED until then (R175). -/
def State.unparkAll (s : State) : State := fin4.foldl (fun (s : State) (n : Fin 4) => s.modSlice n (fun x => { x with park := false })) s

/-- Enter an address state. -/
def State.addrState (s : State) (st : Nat) : State :=
  (s.setO Obj.FAB_ADDR_STATE st).modFab (fun x => { x with stateSf := s.runSf })

/-- FAB_ADDR changes; the TREF of a reference is its own address (R291). -/
def State.putAddr (s : State) (a : Nat) : State :=
  let s := s.setO Obj.FAB_ADDR a
  if s.o Obj.TMB_SYNC_STATE = 3 then s.setO Obj.FAB_TREF a else s

/-- This anchor loses its address (R276). -/
def State.addrLose (s : State) : State :=
  let a := s.o Obj.FAB_ADDR
  ((s.parkAll.putAddr 0).addrState 1).modFab (fun x => { x with
    attempt := x.attempt + 1
    lostAddr := a :: x.lostAddr })

/-- A conflict that names this anchor is decided (R276). -/
def State.conflictSettle (s : State) (c : Conflict) : State :=
  if s.party c then
    let s := s.conflictEvent c
    if (s.o Obj.ID_UID == c.ua) == c.aWins then
      if s.o Obj.FAB_ADDR_STATE = 4 then (s.addrState 3).unparkAll else s
    else s.addrLose
  else s

/-- The conflict of this anchor with another of UID u, unknown to the air. -/
def State.ownConflict (s : State) (flags u since : Nat) : Conflict :=
  ⟨flags, s.o Obj.FAB_ADDR, s.o Obj.ID_UID, s.o Obj.FAB_HELD_SINCE, u, since⟩

/-- A frame from radio carries this anchor's own address (R275, R276). -/
def State.radioConflict (s : State) : State :=
  let st := s.o Obj.FAB_ADDR_STATE
  if st = 2 then
    let u := s.freeBelow (2 ^ 64)
    ((s.drawn).conflictEvent (s.ownConflict 0 u 0)).addrLose
  else if st = 3 then s.parkAll.addrState 4
  else s

/-- CONFLICT_WAIT_END (R276). -/
def execConflictWaitEnd (s : State) : Out :=
  if s.o Obj.FAB_ADDR_STATE = 4 && decide (s.fab.stateSf + s.o Obj.FAB_CONFLICT_WAIT ≤ s.runSf) then
    let u := s.freeBelow (2 ^ 64)
    .next ((s.drawn).conflictEvent (s.ownConflict 1 u 0)).addrLose
  else .next s

/-- A third party detects a conflict and draws the delay of its CONFLICT (R275). -/
def State.detect (s : State) (c : Conflict) : State :=
  let p := c.pair
  if s.o Obj.FAB_ADDR_STATE ≠ 3 || c.ua == c.ub || s.fab.due.any (fun d => (conflictOf d.body).pair == p) ||
      s.fab.sent.any (fun x => x.1 == p && decide (s.runSf < x.2 + s.o Obj.FAB_LSA_PERIOD)) then s
  else
    let t := s.now + s.freeBelow 192001
    s.drawnReq.modFab (fun x => { x with due := x.due ++ [⟨t, c.body⟩] })

/-- A message of this anchor's flood ring names address a with UID u: the check against record a (R275). -/
def State.detectLsdb (s : State) (a u since held : Nat) : State :=
  if s.lsdbValid a && s.lsdbUid a != u then s.detect ⟨1 + 2 * held, a, s.lsdbUid a, s.lsdbSince a, u, since⟩ else s

/-- Element i of the flood delivery ring. -/
def State.floodElem (s : State) (i : Nat) : Bytes := s.rbs (0x20130000 + 16 * (i % 256)) 16

/-- n bytes from address a, which may run through the cells of a chain (R388). -/
def State.readChain (s : State) : Nat → Nat → Nat → Bytes
  | 0, _, _ => []
  | f + 1, a, n =>
    if 0x20080000 ≤ a && a < 0x200C0000 then s.rbs a n
    else
      let p := (a - 0x24040000) / 0x80000
      let o := (a - 0x24040000) % 0x80000
      let room := 128 - o % 128
      if n ≤ room || 4 ≤ p then s.rbs a n
      else
        let nx := s.rn (linkAddr p (o / 128)) 2
        s.rbs a room ++ State.readChain s f (cellAddr p nx) (n - room)

/-- The payload of a delivery element. -/
def State.elemPayload (s : State) (e : Bytes) : Bytes := s.readChain 9 (fieldN e 12 4) (fieldN e 10 2)

/-- A CLAIM is taken (R273, R275). -/
def State.claimTake (s : State) (c : Conflict) : State :=
  let other := s.fab.claims.find? (fun x => x.addr == c.addr && x.uid != c.ua && decide (s.runSf ≤ x.sf + s.o Obj.FAB_CLAIM_WAIT))
  let s := s.detectLsdb c.addr c.ua c.sa 0
  let s := match other with
    | some x => s.detect ⟨0, c.addr, x.uid, x.since, c.ua, c.sa⟩
    | none => s
  s.modFab (fun x => { x with
    claims := ⟨c.addr, c.ua, c.sa, s.runSf⟩ :: x.claims.filter (fun y => decide (s.runSf ≤ y.sf + 255) && !(y.addr == c.addr && y.uid == c.ua)) })

/-- A CONFLICT is taken (R275, R276). -/
def State.conflictTake (s : State) (c : Conflict) : State :=
  let s := s.modFab (fun x => { x with due := x.due.filter (fun d => (conflictOf d.body).pair != c.pair) })
  let loser := if c.aWins then c.ub else c.ua
  let s := if s.lsdbValid c.addr && s.lsdbUid c.addr == loser then s.lsdbDrop c.addr else s
  s.conflictSettle c

/-- CLAIM_RX (R274-R276). -/
def execClaimRx (i : Nat) (s : State) : Out :=
  let e := s.floodElem i
  let b := s.elemPayload e
  if fieldN e 1 1 ≠ 1 then .next s
  else if b.length = 20 && fieldN b 0 1 == 0 then .next (s.claimTake (conflictOf b))
  else if b.length = 36 && fieldN b 0 1 == 1 then .next (s.conflictTake (conflictOf b))
  else .next s

/-- The CONFLICT that is due first, the first drawn of equals. -/
def firstDue (l : List ConflictDue) : Option ConflictDue :=
  l.foldl (fun (m : Option ConflictDue) x => match m with
    | none => some x
    | some y => if x.at_ < y.at_ then some x else some y) none

/-- CONFLICT_ORIGINATE (R275): the CONFLICT floods, and acts on this anchor and its own database. -/
def execConflictOriginate (s : State) : Out :=
  match firstDue s.fab.due with
  | none => .next s
  | some d =>
    let r := s.fab.due.erase d
    let c := conflictOf d.body
    let s := s.upTo d.at_
    let s := s.modFab (fun x => { x with
      due := r
      sent := (c.pair, s.runSf) :: x.sent.filter (fun y => y.1 != c.pair) })
    .next ((s.firmFlood 5 1 15 d.body).conflictTake c)

/-! ## HELLO (R265, R269, R275) -/

/-- A HELLO whose SRC is this anchor's address with another UID (R275, R276). -/
def State.helloConflict (s : State) (m : InMsg) : State :=
  if s.holdsAddr && m.sender == s.o Obj.FAB_ADDR && m.uid != s.o Obj.ID_UID then
    let f := b2n (decide (3 ≤ s.o Obj.FAB_ADDR_STATE)) + 2 * b2n (bitOf (fieldN m.msg 1 1) 0)
    s.conflictSettle (s.ownConflict f m.uid (fieldN m.msg 2 8))
  else s

/-- The peer of port p is found (R269, R288, R289). -/
def State.peerFound (s : State) (p : Fin 2) (m : InMsg) (fcnt : Nat) : State :=
  let s := ((s.setO (Obj.FAB_Wp_STATE p) 2).setO (Obj.FAB_Wp_PEER p) m.sender).setO (Obj.FAB_Wp_PEER_UID p) m.uid
  let t := s.o (Obj.FAB_Wp_CR_TOTAL p)
  let s := (s.modWire p (fun w => {
    w with
    total := t, fcnts := [(m.uid, fcnt)], delays := [], theta := none, quiet := 0, heard := true
    advert := some (helloAdvert m.msg) })).clearBooks p
  (s.modWire p (fun w => { w with grant := m.grant, peerTotal := m.grant })).syncCredit p

/-- A HELLO is taken on port p: a HELLO of another UID while there is a peer is counted in FAB_Wp_EXTRA (R265) or taken
as a new peer (R269): the two rules disagree, and which applies is a free choice (log 38). -/
def State.helloTake (s : State) (p : Fin 2) (m : InMsg) : State :=
  let last := s.fab.wires[p].fcntNext m.uid - 1
  let s := s.helloConflict m
  if s.hasPeer p then
    if m.uid = s.o (Obj.FAB_Wp_PEER_UID p) then
      (s.setO (Obj.FAB_Wp_PEER p) m.sender).modWire p (fun w => {
        w with
        heard := true, advert := some (helloAdvert m.msg) })
    else if s.freeBelow 2 = 0 then s.drawn.inc (Obj.FAB_Wp_EXTRA p)
    else (s.drawn.peerGone p).peerFound p m last
  else if s.portUp p then s.peerFound p m last
  else s

/-- HELLO_RX (R265, R269, R275). -/
def execHelloRx (p : Fin 2) (s : State) : Out :=
  match s.takeMsg (fun m => m.kind == 1 && m.src == 4 + p.val) with
  | (none, s) => .next s
  | (some m, s) =>
    let s := s.dropMsg m
    if m.msg.length = 22 then .next (s.helloTake p m) else .next s

/-! ## Taking an address (R272, R273) -/

/-- Candidate k of the hash sequence (R273). -/
def hashAddr (uid k : Nat) : Nat :=
  1 + (((uid % 2 ^ 32) ^^^ (uid / 2 ^ 32)) ^^^ (k * 0x9E3779B1 % 2 ^ 32)) * 0x85EBCA6B % 2 ^ 32 % 4094

/-- Candidate c must be skipped (R273). -/
def State.addrSkip (s : State) (c : Nat) : Bool :=
  s.fab.lostAddr.contains c || (s.lsdbValid c && s.lsdbUid c != s.o Obj.ID_UID) ||
    s.fab.claims.any (fun x => x.addr == c && decide (s.runSf ≤ x.sf + s.o Obj.FAB_LISTEN))

/-- The first candidate of the hash sequence from attempt k on, with its attempt; attempt numbers repeat after 2^32. -/
def State.hashPick (s : State) : Nat → Nat → Option (Nat × Nat)
  | 0, _ => none
  | f + 1, k =>
    let c := hashAddr (s.o Obj.ID_UID) k
    if s.addrSkip c then State.hashPick s f (k + 1) else some (c, k)

/-- Step 2 of R273: the address and the attempt it came from. -/
def State.addrPick (s : State) : Option (Nat × Nat) :=
  let a := s.fab.attempt
  match [s.o Obj.FAB_ADDR_PREF, s.fab.prevAddr].find? (fun c => c != 0 && !(s.addrSkip c)) with
  | some c => some (c, a)
  | none => s.hashPick (2 ^ 32) a

/-- ADDR_LISTEN_END (R273). -/
def execAddrListenEnd (s : State) : Out :=
  if s.o Obj.FAB_ADDR_STATE = 1 && (!s.fab.lostAddr.isEmpty || decide (s.fab.stateSf + s.o Obj.FAB_LISTEN ≤ s.runSf)) then
    match s.addrPick with
    | none => .next s
    | some (c, k) =>
      let s := ((s.putAddr c).setO Obj.FAB_HELD_SINCE (tt64 s.now)).addrState 2
      let s := s.modFab (fun x => { x with attempt := k })
      let body := [0, 0] ++ leBytes 2 c ++ leBytes 8 (s.o Obj.ID_UID) ++ leBytes 8 (s.o Obj.FAB_HELD_SINCE)
      .next (s.firmFlood 5 1 15 body)
  else .next s

/-- ADDR_CLAIM_WAIT_END (R273). -/
def execAddrClaimWaitEnd (s : State) : Out :=
  if s.o Obj.FAB_ADDR_STATE = 2 && decide (s.fab.stateSf + s.o Obj.FAB_CLAIM_WAIT ≤ s.runSf) then .next (s.addrState 3).unparkAll
  else .next s

/-! ## Trail routes, as read (R282) -/

/-- Address of Trail entry d of a copy. -/
def trailAddr (copy d : Nat) : Nat := 0x20120000 + 0x8000 * copy + 8 * (d % 4096)

/-- A write of FAB_TRAIL_COMMIT (R282); none when refused. -/
def State.trailCommit (s : State) (v : Nat) : Option State :=
  if 1 < v then none
  else if v = s.o Obj.FAB_TRAIL_CUR then some s
  else some (s.modFab (fun x => { x with trailNext := some v }))

/-- FAB_TRAIL_COMMIT (R282). -/
def execFabTrailCommit (who : Fin 8) (v : Nat) (s : State) : Out :=
  .next ((s.trailCommit v).getD (s.dropped (windowAddr Obj.FAB_TRAIL_COMMIT) v who 3))

/-- The route to d: next hop, and the port or the slices that carry it (R284 step 5). -/
inductive Route where
  | wired (p : Fin 2) (next : Nat)
  | radio (n : Fin 4) (next : Nat)
  deriving DecidableEq, Repr

/-- The route in force to d; VIA 3 is no route. -/
def State.route (s : State) (d : Nat) : Option Route :=
  let a := trailAddr (s.o Obj.FAB_TRAIL_CUR) d
  let v := s.rn a 2
  let via := fld v 13 12
  if !(bitOf v 14) then none
  else if via < 2 then some (.wired (asFin 2 via) (v % 4096))
  else if via = 2 then
    (fin4.find? (fun (n : Fin 4) => bitOf (s.rn (a + 2) 1) n && s.o (Obj.SLCn_LC_STATE n) != 0)).map (fun n => .radio n (v % 4096))
  else none

/-! ## Unicast (R283-R287) -/

/-- A DUE that lies before an instant counts one FABRIC_FWD miss (R284 step 2). -/
def State.dueMiss (s : State) (due : Nat) (t : Instant) : Nat × State :=
  if due ≠ 0 && decide (linear due < t) then (0, s.miss 5 4 (linear due)) else (due, s)

/-- Deliver a UNICAST (R287): none when the ring is full. The base firmware drops one whose SVC is reserved (R309). -/
def State.uniDeliver (s : State) (src : Nat) (m : Bytes) (addr : Nat) : Option State :=
  if 256 ≤ s.ringUsed Obj.FAB_UQ_PROD Obj.FAB_UQ_CONS then none
  else
    let prod := s.o Obj.FAB_UQ_PROD
    let svc := fieldN m 6 1
    let s := if svc = 0 || (10 ≤ svc && svc < 128) then s.inc Obj.SVC_BAD_CODE else s
    let e := element src svc (fieldN m 2 2) 0 (fieldN m 1 1) 0xFFFF (fieldN m 16 2) addr
    some ((s.wbs (0x20110000 + 16 * (prod % 256)) e).setO Obj.FAB_UQ_PROD ((prod + 1) % 65536))

/-- The one step of a forward or SEND begins (R284 step 6, R285). -/
def State.uniStep (s : State) (t : Nat) (r : Route) (owner : Option (Fin 8 × Bytes)) (copy : Bytes) (due : Nat) (at_ : Instant) : State :=
  let s := s.recordState (ledAddr t) 2
  let x := at_ + s.o Obj.FAB_FWD_WIN
  let j : StepJob := {
    ticket := t, fabric := true, owner := owner, sel := 1, arrival := at_, e := at_, x := x, msg := copy, due := due }
  match r with
  | .wired p nx =>
    s.modSteps (fun y => { y with jobs := y.jobs ++ [{ j with cls := p, next := nx }] })
  | .radio n nx =>
    let j := { j with cls := 0xFF, next := nx }
    (s.modSteps (fun y => { y with jobs := y.jobs ++ [j] })).radioStep j n 0 0xFF nx

/-- Steps 4 to 6 of R284 for a received UNICAST. -/
def State.uniForward (s : State) (m : InMsg) (due : Nat) : State :=
  let b := m.msg
  let ttl := fieldN b 1 1
  if ttl % 16 = 0 then (s.inc Obj.FAB_FWD_TTL).dropMsg m
  else
    match s.route (fieldN b 4 2) with
    | none => (s.inc Obj.FAB_FWD_NOROUTE).dropMsg m
    | some r =>
      match s.newRecord 1 0x15 13 1 0 0 with
      | (none, s) => s.dropMsg m
      | (some t, s) => (s.uniStep t r none (b.take 1 ++ leBytes 1 (ttl - 1) ++ b.drop 2) due m.at_).dropMsg m

/-- An address that a UNICAST may name (R284 step 1). -/
def uniAddr (a : Nat) : Bool := decide (1 ≤ a % 4096) && decide (a % 4096 ≤ 0xFFE)

/-- UNICAST_TAKE (R284, R287). -/
def execUnicastTake (s : State) : Out :=
  match s.takeMsg (fun m => m.kind == 5) with
  | (none, s) => .next s
  | (some m, s) =>
    let b := m.msg
    if b.length < 18 || fieldN b 16 2 + 18 ≠ b.length || !(uniAddr (fieldN b 4 2)) || !(uniAddr (fieldN b 2 2)) then
      .next ((s.inc Obj.FAB_FWD_BAD).dropMsg m)
    else
      let (due, s) := s.dueMiss (fieldN b 8 8) m.at_
      if s.holdsAddr && fieldN b 4 2 % 4096 == s.o Obj.FAB_ADDR then
        match s.uniDeliver m.src b (m.addrOf 18) with
        | some s => .next (s.keepMsg m)
        | none => .next ((s.inc Obj.FAB_UQ_FULL).dropMsg m)
      else .next (s.uniForward m due)

/-- UNICAST_WIRED_SEND (R284, R289): DUE is looked at when the step starts, with a credit. -/
def execUnicastWiredSend (p : Fin 2) (s : State) : Out :=
  match s.steps.jobs.find? (fun j => j.fabric && j.cls == p.val) with
  | none => .next s
  | some j =>
    if j.wireBy < s.now then .next (s.stepEnd j.ticket 0 0x14)
    else .next (if s.creditFor p then ((s.dueMiss j.due s.now).2.wireStep p j 0) else s.wireStep p j 0)

/-- FORWARD_BIND (R285). -/
def execForwardBind (who : Fin 8) (n : Fin 4) (i : Nat) (s : State) : Out :=
  .next ((s.bind true n i).getD (s.dropped (windowAddr (Obj.FAB_FQn_BIND n)) i who 3))

/-- FORWARD_DEADLINE (R285). -/
def execForwardDeadline (n : Fin 4) (i : Nat) (s : State) : Out := .next (s.descLate true n i)

/-- FORWARD_BOUND_SETTLE (R285). -/
def execForwardBoundSettle (n : Fin 4) (i : Nat) (s : State) : Out := .next (s.boundSettle true n i)

/-- A write of FAB_UQ_CONS (R287); none when refused. -/
def State.uqCons (s : State) (v : Nat) : Option State :=
  if consOk 65536 (s.o Obj.FAB_UQ_CONS) (s.o Obj.FAB_UQ_PROD) v then some (s.setO Obj.FAB_UQ_CONS v) else none

/-- FAB_UQ_CONS_WRITE (R287). -/
def execFabUqConsWrite (who : Fin 8) (v : Nat) (s : State) : Out :=
  .next ((s.uqCons v).getD (s.dropped (windowAddr Obj.FAB_UQ_CONS) v who 3))

/-! ## SEND jobs (R286) -/

/-- The UNICAST that this anchor originates. -/
def State.uniMsg (s : State) (ttl final svc due : Nat) (payload : Bytes) : Bytes :=
  [5] ++ leBytes 1 ttl ++ leBytes 2 (s.o Obj.FAB_ADDR) ++ leBytes 2 final ++ leBytes 1 svc ++ [0] ++ leBytes 8 due ++
    leBytes 2 payload.length ++ payload

/-- R286 refuses a UNICAST. -/
def State.sendRefused (s : State) (final len : Nat) : Bool :=
  s.o Obj.FAB_ADDR_STATE != 3 || decide (926 < len) || !(uniAddr final)

/-- A ticket's UNICAST is originated, by steps 5 and 6 of R284 alone, so that its DUE counts no miss here (R286): `over` ends the job with a state and a cause. The cause of a job that finds
no route, or the ring full, is not given (free, log 39). -/
def State.sendRun (s : State) (t : Nat) (owner : Option (Fin 8 × Bytes)) (final : Nat) (m : Bytes) (addr : Nat)
    (past : State → Nat → Nat → Nat → State) : State :=
  if final = s.o Obj.FAB_ADDR then
    match s.uniDeliver 6 m addr with
    | some s => past s 3 0 1
    | none =>
      let c := 1 + s.freeBelow 28
      past (s.drawn.inc Obj.FAB_UQ_FULL) 5 c 0
  else
    match s.route final with
    | none =>
      let c := 1 + s.freeBelow 28
      past (s.drawn.inc Obj.FAB_FWD_NOROUTE) 5 c 0
    | some r => s.uniStep t r owner m 0 s.now

/-- The fabric engine takes a SEND job (R286, R378). -/
def State.sendAccept (s : State) (x : JobSt) : State :=
  let d := x.desc
  let final := fieldN d 30 2
  if s.jobLate x then s.jobMissed x
  else if s.payloadLost x then s.payloadOver x
  else if s.sendRefused final (dLen d) then s.jobOver x.core x.ticket d 5 0x16 0 0
  else
    let s := s.modJobs (fun j => { j with
      queue := j.queue.map (fun y => if y.ticket = x.ticket then { y with running := true } else y) })
    let m := s.uniMsg (fieldN d 28 1) final (fieldN d 29 1) (fieldN d 32 8) (s.rbs (dSrc d) (dLen d))
    s.sendRun x.ticket (some (x.core, d)) final m (dSrc d)
      (fun s st cause done => s.jobOver x.core x.ticket d st cause done 0)

/-- A UNICAST that the base firmware sends through its own SEND job: core c, payload from its own buffer (log 29). -/
def State.firmSend (s : State) (core : Fin 8) (ttl final svc due : Nat) (payload : Bytes) (addr : Nat) : State :=
  match s.newRecord 1 8 core 1 0 0 with
  | (none, s) => s
  | (some t, s) =>
    let past := fun (s : State) st cause done => s.recordEnd (ledAddr t) st cause done 0
    if s.sendRefused final payload.length then past s 5 0x16 0
    else s.sendRun t none final (s.uniMsg ttl final svc due payload) addr past

/-- JOB_SEND (R286): submission, and acceptance when no earlier job of the core is open. -/
def execJobSend (who : Fin 8) (a : Nat) (s : State) : Out :=
  let s := s.submitKind who a 8
  match s.engineJob who with
  | none => .next s
  | some x => if dKind x.desc = 8 then .next (s.sendAccept x) else .next s

/-- JOB_START (R378): the lowest core whose FLOOD or SEND waits has it accepted; else a free channel takes a job. -/
def execJobStart (s : State) : Out :=
  match fin8.findSome? (fun c => s.engineJob c) with
  | some x => .next (if dKind x.desc = 7 then s.floodAccept x else s.sendAccept x)
  | none => .next s.jobStart

end Sys2Proof.Machine
end

