-- ==== Sys2Proof/Machine/Mac.lean ====
section
/-!
DEFINITION. Received frames from DRAIN to publication: the receive record (04_listeners.md R105, R108), the checks and
verdicts (07_air_frames.md R195-R215), sequence windows (R218-R221), the receive queue (R211-R213), the rendezvous block
(06_frame_programs.md R190-R192) and what the base firmware reads from published elements (R149, R209).
-/
namespace Sys2Proof.Machine

/-! ## The header (R196, R197) -/

/-- FC of a frame. -/
def fFc (p : Bytes) : Nat := fieldN p 4 1
/-- TYPE of a frame. -/
def fType (p : Bytes) : Nat := fFc p % 16
/-- SEC of a frame. -/
def fSec (p : Bytes) : Bool := bitOf (fFc p) 4
/-- SECCTL of a frame, 0 when unsecured. -/
def fCtl (p : Bytes) : Nat := if fSec p then fieldN p 6 1 else 0
/-- Hs of a frame. -/
def fHead (p : Bytes) : Nat := if fSec p then secHead p else 5
/-- M of a frame. -/
def fMic (p : Bytes) : Nat := if fSec p then micLen (fCtl p % 4) else 0
/-- The body of a frame. -/
def fBody (p : Bytes) : Bytes := (p.drop (fHead p)).take (p.length - fHead p - fMic p)

/-- SENDER of R200. -/
def fSender (p : Bytes) : Nat :=
  if bitOf (fCtl p) 2 then 0xFFFFF000 + fieldN p 11 2 % 4096 else fieldN p 0 4

/-! ## Checks 1 to 3 (R195, R198, R214) -/

/-- A tag ID (R195). -/
def isTag (a : Nat) : Bool := decide (1 ≤ a) && decide (a ≤ 0xFFFFEFFF)
/-- An anchor address (R195). -/
def isAnchor (a : Nat) : Bool := decide (0xFFFFF001 ≤ a) && decide (a ≤ 0xFFFFFFFE)

/-- A TYPE that is not reserved. -/
def typeKnown (t : Nat) : Bool := decide (1 ≤ t) && decide (t ≤ 7)

/-- This anchor's own anchor address. -/
def State.ownLink (s : State) : Option Nat := if s.holdsAddr then some (0xFFFFF000 + s.o Obj.FAB_ADDR) else none

/-- Check 1 holds. -/
def State.addrGood (s : State) (p : Bytes) : Bool :=
  let a := fieldN p 0 4
  let t := fType p
  (isTag a || isAnchor a) && s.ownLink != some a && (!(typeKnown t) || (if t ≤ 5 then isTag a else isAnchor a))

/-- The SEC, ACKREQ and SRCX rules of R198. -/
def secForm (p : Bytes) : Bool :=
  let t := fType p
  let sec := fSec p
  let ack := bitOf (fFc p) 5
  let x := bitOf (fCtl p) 2
  match t with
  | 1 | 3 => (sec || !ack) && !x
  | 2 => sec && ack && !x
  | 4 => sec && !ack && x
  | 5 => !sec && !ack
  | _ => sec && !ack && !x

/-- The LENGTH rules of check 3. -/
def lenForm (p : Bytes) : Bool :=
  let n := p.length
  let b := fHead p + fMic p
  decide (b ≤ n) &&
  (match fType p with
   | 2 => n == b + 13
   | 3 => n == b + 33 || n == b + 57
   | 5 => n == 10
   | 6 => decide (b + 21 ≤ n)
   | 7 => decide (b + 2 ≤ n)
   | _ => true)

/-- Checks 1 to 3 of R214: the cause of the first that fails. A bare frame has nothing to check after its address (R199). -/
def State.preCheck (s : State) (p : Bytes) : Option Nat :=
  if !(s.addrGood p) then some 1
  else if p.length < 5 then none
  else if !(typeKnown (fType p)) || 64 ≤ fFc p then some 2
  else if !(secForm p) || (fSec p && (fCtl p % 4 == 0 || decide (8 ≤ fCtl p))) || !(lenForm p) then some 3
  else none

/-! ## DRAIN (R103, R105, R108, R213) -/

/-- The receive record of R108, with MIC state 0. -/
def State.rxRecord (s : State) (n : Fin 4) (k : Fin 48) (l : LsnSt) (endAt : Instant) (len : Nat) (m : RxMeas)
    (sc : List Nat) (sec : Bool) : Bytes :=
  let w := s.lsnNow n k
  let lofdm := aMode w == 1
  leBytes 8 (tt64 endAt) ++ leBytes 2 len ++ leBytes 1 k ++ leBytes 1 (aChan w) ++
    leBytes 1 (aMode w + 16 * aBank w + 32 * l.port + 64 * b2n (s.steppedIn n l.first endAt)) ++ leBytes 1 (s.gainAt n endAt) ++
    leBytes 2 (ofI 16 m.rssi) ++ leBytes 2 (ofI 16 m.snr) ++ leBytes 2 (ofI 16 m.cfo) ++
    leBytes 2 (nth l.cells 0 0xFFFF) ++ leBytes 1 (1 + 2 * b2n sec) ++ leBytes 1 (if lofdm then l.mapId else 0) ++
    (List.range 24).flatMap (fun j =>
      leBytes 1 (if lofdm then min 15 (nth sc (2 * j) 0) + 16 * min 15 (nth sc (2 * j + 1) 0) else 0))

/-- Elements published or reserved and not yet consumed (R213). -/
def State.rxqUsed (s : State) (n : Fin 4) : Nat :=
  s.ringUsed (Obj.MAC_RXQn_PROD n) (Obj.MAC_RXQn_CONS n) + s.slices[n].rx.length

/-- A frame decoded under an uplink map sets SEEN (R144). -/
def State.setSeen (s : State) (up : Option (Nat × Nat)) (endAt : Instant) : State :=
  match up with
  | none => s
  | some (h, i) =>
    if s.dramSleeps then s
    else
      let a := s.mapRec h
      (s.hwWrite (a + 5) (leBytes 1 (setBit (s.rn (a + 5) 1) i true))).hwWrite (a + 8) (leBytes 8 (tt64 endAt))

/-- The key under which the verification of a secured frame is issued: permission is looked at then (R344, R351). -/
def State.rxKey (s : State) (p : Bytes) : Option Bytes :=
  let k := fieldN p 5 1
  if s.permits k 0 then some (s.keyOf k) else none

/-- The element of a delivered frame. -/
def State.rxElem (s : State) (n : Fin 4) (k : Fin 48) (l : LsnSt) (endAt : Instant) (p : Bytes) (m : RxMeas)
    (sc : List Nat) : RxElem :=
  let w := s.lsnNow n k
  let legacy := aMode w != 1
  let air := !legacy && decide (5 ≤ p.length)
  let pre := if legacy then none else s.preCheck p
  let sec := air && fSec p && pre.isNone
  let win := s.slices[n].wins.find? (fun x => decide (x.u ≤ endAt) && decide (endAt ≤ x.w))
  { slot := (s.o (Obj.MAC_RXQn_PROD n) + s.slices[n].rx.length) % 256
    listener := k
    chan := aChan w
    freq := chanHz (s.o (Obj.SLCn_CENTRE_HZ n)) (s.grid n (aBank w)) (aChan w) + aOffset w
    legacy := legacy
    rcd := s.rxRecord n k l endAt p.length m sc sec
    psdu := p
    raw := p
    pre := pre
    endAt := endAt
    cells := l.cells
    mic := if sec then none else some 0
    key := if sec then s.rxKey p else none
    micAt := s.now
    window := win.map (·.u)
    winV := (win.map (fun x => x.w + 384)).getD 0
    up := l.upslot }

/-- A frame that asks for acknowledgement and ended outside any window counts, two copies once (R181, R186). -/
def State.ackOutside (s : State) (n : Fin 4) (x : RxElem) : State :=
  if x.window.isNone && !x.legacy && asksAck x.psdu && x.pre.isNone then
    let l := s.slices[n].outside.filter (fun y => decide (x.endAt ≤ y.2.2 + 60))
    let s := s.modSlice n (fun y => { y with outside := l ++ [(x.freq, x.raw, x.endAt)] })
    if l.any (fun y => decide (y.1 = x.freq) && y.2.1 == x.raw && decide (y.2.2 ≤ x.endAt + 60)) then s
    else s.inc (Obj.SLCn_ACK_OUTSIDE n)
  else s

/-- A frame whose CRC or FCS is good takes its element (R105, R213). PORTB counts a frame when it is delivered, and only where
the listener chose (R97, R106, log 182). -/
def State.rxTake (s : State) (n : Fin 4) (k : Fin 48) (p : Bytes) (m : RxMeas) (sc : List Nat) : State :=
  let l := s.slices[n].lsn[k]
  let e := l.endAt.getD s.now
  let s := (s.setSeen l.upslot e).fillCells n.castSucc l.cells p
  if 256 ≤ s.rxqUsed n then (s.inc (Obj.MAC_RXQn_FULL n)).giveUp n k
  else
    let x := s.rxElem n k l e p m sc
    let s := s.modSlice n (fun y => { y with rx := y.rx ++ [x] })
    let s := (((s.inc (Obj.SLCn_RX_FRAMES n)).inc (Obj.SLCn_LSNk_FRAMES n k)).setI 16 (Obj.SLCn_LSNk_RSSI n k) m.rssi)
    let s := if l.decided && l.port = 1 then s.inc (Obj.SLCn_LSNk_PORTB n k) else s
    (s.ackOutside n x).toSearch n k

/-- The PSDU of the frame that listener k has decoded, and whether its CRC or FCS is good (R105, R119, R132). -/
def State.rxDecode (s : State) (n : Fin 4) (k : Fin 48) (raw : Bytes) : Bytes × Bool :=
  let l := s.slices[n].lsn[k]
  if aMode (s.lsnNow n k) = 1 then lofdmPsdu l.addr l.len l.seed raw else stdPsdu l.len l.fcs raw

/-- DRAIN_DONE (R105, R108, R213): it comes by 192 µt after the last sample reached the listener (log 3). -/
def execDrainDone (n : Fin 4) (k : Fin 48) (raw : Bytes) (m : RxMeas) (sc : List Nat) (s : State) : Out :=
  if s.lsnState n k = 4 then
    let x := s.rxDecode n k raw
    if x.2 then .next (s.rxTake n k x.1 m sc)
    else .next (((s.fillCells n.castSucc s.slices[n].lsn[k].cells x.1).inc (Obj.SLCn_RX_BADCRC n)).giveUp n k)
  else .next s

/-! ## The MIC (R183, R200) -/

/-- Change the element of a slot. -/
def State.modRx (s : State) (n : Fin 4) (slot : Nat) (f : RxElem → RxElem) : State :=
  s.modSlice n (fun x => { x with rx := x.rx.map (fun e => if e.slot = slot then f e else e) })

/-- The element of a slot. -/
def State.rxAt (s : State) (n : Fin 4) (slot : Nat) : Option RxElem := s.slices[n].rx.find? (fun e => e.slot == slot)

/-- The MIC state of a secured frame and, when good, its bytes with the body decrypted. -/
def RxElem.micOf (e : RxElem) : Nat × Bytes :=
  let p := e.psdu
  let hs := fHead p
  let m := fMic p
  match e.key with
  | some key =>
    match Config.ccmOpen key (airNonce p) (p.take hs) (fBody p) (p.drop (p.length - m)) with
    | none => (2, p)
    | some b => (1, (p.take hs ++ sliceB b 0 (p.length - hs - m) ++ p.drop (p.length - m)))
  | none => (3, p)

/-- MIC_VERIFY_DONE (R183, R351). -/
def execMicVerifyDone (n : Fin 4) (slot : Nat) (s : State) : Out :=
  match s.rxAt n slot with
  | none => .next s
  | some e =>
    if e.mic.isSome then .next s
    else
      let (st, p) := e.micOf
      let s := s.fillCells n.castSucc e.cells p
      .next (s.modRx n slot (fun e => {
        e with
        mic := some st, micAt := s.now, psdu := p
        rcd := e.rcd.take 22 ++ leBytes 1 (setFld (fieldN e.rcd 22 1) 3 2 st) ++ e.rcd.drop 23 }))

/-! ## Verdicts (R214, R215, R218) -/

/-- What a window says of counter c under key k: verdict, KEYROLL and the window after (R218). -/
def SeqWin.judge (w : SeqWin) (roll : Option (Nat × Nat)) (k c : Nat) : Nat × Bool × SeqWin :=
  if k ≠ w.key then
    if roll = some (w.key, k) then (0, true, ⟨c, 1, c, k⟩) else (3, false, w)
  else if w.h < c then
    let d := c - w.h
    let b := if 64 ≤ d then 0 else w.bits * 2 ^ d % 2 ^ 64
    (0, false, { w with h := c, bits := setBit b 0 true })
  else
    let d := w.h - c
    if 64 ≤ d || c < w.floor then (2, false, w)
    else if bitOf w.bits d then (1, false, w)
    else (0, false, { w with bits := setBit w.bits d true })

/-- A fresh window. -/
def freshWin (k c : Nat) : SeqWin := ⟨c, 1, c, k⟩

/-- The roll that is active (R223). -/
def State.roll (s : State) : Option (Nat × Nat) :=
  let a := s.o Obj.MAC_SEQ_ROLL_FROM
  let b := s.o Obj.MAC_SEQ_ROLL_TO
  if a = b then none else some (a, b)

/-- The counter of a verdict (R215). -/
def verdictKey (n v : Nat) : Key :=
  match v with
  | 0 | 6 => Obj.MAC_RX_NEW
  | 1 => Obj.MAC_RX_DUP
  | 2 => Obj.MAC_RX_REPLAY
  | 3 => Obj.MAC_RX_REJECT
  | 4 => Obj.SLCn_PHY_LEGACY n
  | 5 => Obj.MAC_RX_BARE_COUNT
  | _ => Obj.MAC_RX_ACK_HEARD

/-- A frame gets its verdict. -/
def State.verdict (s : State) (n : Fin 4) (slot v cause : Nat) (f : RxElem → RxElem) : State :=
  let s := s.inc (verdictKey n v)
  let s := if v = 3 then s.setO Obj.MAC_RX_LAST_CAUSE cause else s
  s.modRx n slot (fun e => f { e with verdict := some v, cause := if v = 3 then cause else 0, verdictAt := s.now, cold := false })

/-- A frame under key slot k has been accepted: one under the old slot of a roll puts off the roll's end (R224). -/
def State.rollSeen (s : State) (k : Nat) : State :=
  match s.roll with
  | some (a, _) => if k = a then s.modMac (fun x => { x with rollAt := s.run }) else s
  | none => s

/-- Judge a frame in the window of hot entry h; NEW and DUPLICATE set REF and LAST_AT (R218). -/
def State.judgeHot (s : State) (n : Fin 4) (e : RxElem) (h : Nat) (promoted : Bool) : State :=
  let (v, roll, w) := (s.hotWin h).judge s.roll (fieldN e.psdu 5 1) (fieldN e.psdu 7 4)
  let s := if v = 0 then (s.setHotWin h w).rollSeen (fieldN e.psdu 5 1) else s
  let s := if v ≤ 1 then (s.setHotFlag h 2 true).wn (hotAddr h + 24) 8 (tt64 e.endAt) else s
  s.verdict n e.slot v 6 (fun e => { e with hot := h, keyroll := roll, promoted := promoted })

/-- A sender met for the first time (R218, R219). -/
def State.judgeFresh (s : State) (n : Fin 4) (e : RxElem) (h : Nat) : State :=
  let s := (s.setHotWin h (freshWin (fieldN e.psdu 5 1) (fieldN e.psdu 7 4))).rollSeen (fieldN e.psdu 5 1)
  let s := ((s.setHotFlag h 2 true).wn (hotAddr h + 24) 8 (tt64 e.endAt)).inc Obj.MAC_RX_FIRST
  s.verdict n e.slot 0 0 (fun e => { e with hot := h, first := true })

/-- A sender whose hot set is fully pinned is judged in a scratch entry, and the result goes back to the cold table (R220); a
REJECT changes nothing (R214). -/
def State.judgeScratch (s : State) (n : Fin 4) (e : RxElem) (a : Nat) : State :=
  let k := fieldN e.psdu 5 1
  let c := fieldN e.psdu 7 4
  let s := s.coldLook a
  match s.coldWay a with
  | none =>
    let w := freshWin k c
    let s := ((s.coldWrite a w.h w.bits w.key).inc Obj.MAC_RX_FIRST).rollSeen k
    s.verdict n e.slot 0 0 (fun e => { e with first := true })
  | some x =>
    let (v, roll, w) := (s.coldWin a x).judge s.roll k c
    let s := if v ≤ 2 then s.coldWrite a w.h w.bits w.key else s
    let s := if v = 0 then s.rollSeen k else s
    s.verdict n e.slot v 6 (fun e => { e with keyroll := roll })

/-- The element whose MIC state became known first, ties in slice order (R221). -/
def State.nextJudge (s : State) : Option (Fin 4 × RxElem) :=
  (fin4.flatMap (fun (n : Fin 4) => (s.slices[n].rx.filter (fun e => e.mic.isSome && e.verdict.isNone && !e.cold)).map
    (fun e => (n, e)))).foldl (fun (m : Option (Fin 4 × RxElem)) x =>
      match m with
      | none => some x
      | some y => if x.2.micAt < y.2.micAt then some x else some y) none

/-- A frame of the same sender stands in its cold lookup ahead of this one: frames are judged in the order in which their MIC
states became known, ties in slice order (R221). -/
def State.coldBehind (s : State) (n : Fin 4) (e : RxElem) : Bool :=
  fin4.any (fun (m : Fin 4) => (s.slices[m].rx.filter (fun x => x.cold && fSender x.psdu == fSender e.psdu)).any (fun x =>
    decide (x.micAt < e.micAt) || (decide (x.micAt = e.micAt) && decide (m < n))))

/-- Check 6 and the sequence verdict of a frame that passes checks 1 to 5. Only frames of its own sender hold it up (R221,
log 208). -/
def State.judgeGood (s : State) (n : Fin 4) (e : RxElem) : State :=
  let p := e.psdu
  if fType p = 5 then s.verdict n e.slot 7 0 id
  else if !(fSec p) then
    if s.ob Obj.MAC_RX_UNSECURED then s.verdict n e.slot 6 0 id else s.verdict n e.slot 3 7 id
  else
    if s.coldBehind n e then s.modRx n e.slot (fun e => { e with cold := true })
    else
      match s.hotLookup (fSender p) with
      | some h => s.judgeHot n e h false
      | none =>
        if s.dramSleeps then s.verdict n e.slot 3 8 id
        else s.modRx n e.slot (fun e => { e with cold := true })

/-- The hot entry of the sender, once checks 1 to 3 have passed; an ACK frame does not name its sender (R212, log 131). -/
def State.hotOf (s : State) (p : Bytes) : Nat := if fType p = 5 then 0xFFFF else (s.hotLookup (fSender p)).getD 0xFFFF

/-- Judge one frame (R214): checks 1 to 3 as they came out at the end of DRAIN. -/
def State.judge (s : State) (n : Fin 4) (e : RxElem) : State :=
  let p := e.psdu
  if e.legacy then s.verdict n e.slot 4 0 id
  else
    match e.pre with
    | some c =>
      let s := if c = 1 && s.ownLink == some (fieldN p 0 4) then s.radioConflict else s
      s.verdict n e.slot 3 c id
    | none =>
      let s := s.modRx n e.slot (fun e => { e with hot := s.hotOf p })
      if p.length < 5 then s.verdict n e.slot 5 0 id
      else if e.mic = some 3 then s.verdict n e.slot 3 4 id
      else if e.mic = some 2 then s.verdict n e.slot 3 5 id
      else s.judgeGood n e

/-- SEQ_JUDGE (R214, R215, R218, R221). -/
def execSeqJudge (s : State) : Out :=
  match s.nextJudge with
  | none => .next s
  | some (n, e) => .next (s.judge n e)

/-- COLD_LOOKUP_DONE (R219, R220): lookups of one sender end in their order (R221). -/
def execColdLookupDone (n : Fin 4) (slot : Nat) (s : State) : Out :=
  match s.rxAt n slot with
  | none => .next s
  | some e =>
    if !e.cold || s.coldBehind n e then .next s
    else
      let a := fSender e.psdu
      match s.hotLookup a with
      | some h => .next (s.judgeHot n e h false)
      | none =>
        if s.dramSleeps then .next (s.verdict n slot 3 8 id)
        else if s.hotFull (hotSet a) then .next (s.judgeScratch n e a)
        else
          match s.promote a with
          | (h, some _, s) => .next (s.judgeHot n e h true)
          | (h, none, s) => .next (s.judgeFresh n e h)

/-! ## Publication (R211-R213, R215) -/

/-- The element is published with its cells returned (R215). -/
def State.discards (s : State) (v : Nat) : Bool :=
  if v = 0 || v = 6 then false
  else if v = 4 then !(s.ob Obj.MAC_RX_LEGACY)
  else if v = 5 then !(s.ob Obj.MAC_RX_BARE)
  else true

/-- The verdict block of R212; BODYLEN is 0 when LENGTH lies below Hs + M, and KEY or FCNT bytes past the PSDU read as 0 (log 209). -/
def RxElem.block (e : RxElem) (v : Nat) (discard : Bool) : Bytes :=
  let p := e.psdu
  let bare := !e.legacy && decide (p.length < 5)
  let air := !e.legacy && !bare
  let sec := air && fSec p
  let flags := b2n discard + 2 * b2n e.acked + 4 * b2n e.first + 8 * b2n e.promoted + 16 * b2n e.keyroll + 32 * b2n e.window.isSome
  leBytes 1 v ++ leBytes 1 e.cause ++ leBytes 1 (if air then fType p else 0xFF) ++ leBytes 1 flags ++ leBytes 2 e.hot ++
    leBytes 1 (if sec then fieldN p 5 1 else 0) ++ [0] ++ leBytes 4 (if sec then fieldN p 7 4 else 0) ++
    leBytes 2 (if air then fHead p else 0) ++
    leBytes 2 (if e.legacy then p.length else if bare then 0 else p.length - fHead p - fMic p)

/-- The window of the element is past its V (R213). -/
def State.winOver (s : State) (n : Fin 4) (e : RxElem) : Bool :=
  match e.window with
  | none => true
  | some u =>
    match s.slices[n].wins.find? (fun w => decide (w.u = u)) with
    | some w => w.fixed
    | none => decide (e.winV ≤ s.now)

/-- A published FABRIC frame that is NEW gives its message to its engine (R246, R268, R284). -/
def State.fabricFrame (s : State) (n : Fin 4) (e : RxElem) : State :=
  let b := fBody e.psdu
  let dst := fieldN b 0 2 % 4096
  let m : InMsg := ⟨n, s.now, b.drop 2, e.cells, fHead e.psdu + 2, 0, 0, 0⟩
  if dst ≠ 0xFFF && s.ownLink != some (0xFFFFF000 + dst) then s
  else if (m.flood && dst == 0xFFF) || (m.kind == 5 && dst != 0xFFF) then
    s.modFab (fun x => { x with inbox := x.inbox ++ [m] })
  else if m.flood || m.kind == 5 then s
  else s.inc Obj.FAB_RX_BADKIND

/-! ## Elements (R209, R149) -/

/-- The elements of a list, in order, and whether one overran the body. -/
def elements : Nat → Bytes → List (Nat × Bytes) × Bool
  | 0, _ => ([], false)
  | f + 1, b =>
    match b with
    | [] => ([], false)
    | t :: r =>
      if t.toNat = 0 then ([], false)
      else
        match r with
        | [] => ([], true)
        | l :: r =>
          if r.length < l.toNat then ([], true)
          else
            let (es, bad) := elements f (r.drop l.toNat)
            ((t.toNat, r.take l.toNat) :: es, bad)

/-- The element list of a frame: DATA, DOWN and BEACON (R209). -/
def frameElements (p : Bytes) : List (Nat × Bytes) × Bool :=
  let b := fBody p
  match fType p with
  | 1 | 4 => elements b.length b
  | 6 => elements b.length (b.drop 21)
  | _ => ([], false)

/-- A frame under a newly installed uplink slot whose END is the last that set a SEEN bit: the other slot has not been seen since,
and is cleared (R149). -/
def State.mapSeen (s : State) (e : RxElem) : State :=
  match e.up with
  | none => s
  | some (h, i) =>
    if s.mac.upNew.contains (h, i) && s.hwHas (s.mapRec h) 64 && s.slotSeen h i && s.rn (s.mapRec h + 8) 8 == tt64 e.endAt then
      (s.setMapCtrl h (1 - i) false).modMac (fun x => { x with upNew := x.upNew.filter (fun y => y.1 != h) })
    else s

/-- A tag sends on a fixed map while its record holds an uplink map: it is sent a MAP_SET (R151). -/
def State.mapRemind (s : State) (e : RxElem) : State :=
  let a := fieldN e.psdu 0 4
  match s.hotLookup a with
  | none => s
  | some h =>
    if !(s.hwHas (s.mapRec h) 64) || s.rn (s.mapRec h) 4 ≠ a || !(isTag a) || e.legacy || 16 ≤ fieldN e.rcd 23 1 then s
    else
      match [0, 1].find? (fun i => s.mac.upNew.contains (h, i) && s.slotValid h i) <|> [0, 1].find? (fun i => s.slotValid h i) with
      | none => s
      | some i => s.sendMapSet a (s.mapSlot h i)

/-- RFLAGS[0] of a report says what its length says (R204). -/
def reportOk (p : Bytes) : Bool := fType p != 3 || bitOf (fieldN (fBody p) 8 1) 0 == decide (57 ≤ (fBody p).length)

/-- What a PRESS or a REPORT says of its tag's rendezvous is kept (R191, R192, R203, R204). -/
def State.noteReport (s : State) (e : RxElem) : State :=
  let b := fBody e.psdu
  let o := if fType e.psdu = 2 then 4 else 0
  if fType e.psdu = 2 || fType e.psdu = 3 then
    let r : TagReport := ⟨fieldN e.psdu 0 4, min 6 (fieldN b o 1 % 8), fieldN b (o + 1) 2, fieldN b (o + 3) 4, e.endAt⟩
    s.modMac (fun x => { x with reports := r :: x.reports.filter (fun y => y.tag != r.tag) })
  else s

/-- What the base firmware reads of a published NEW or UNSECURED frame (R149, R151, R209); a report that contradicts itself is
discarded (R204). -/
def State.firmRead (s : State) (e : RxElem) : State :=
  if !(reportOk e.psdu) then s
  else
    let (es, bad) := frameElements e.psdu
    let s := if bad then s.modMac (fun x => { x with elemBad := (x.elemBad + 1) % 2 ^ 32 }) else s
    let s := ((s.mapSeen e).mapRemind e).noteReport e
    if fType e.psdu = 1 then
      es.foldl (fun (s : State) x => if x.1 = 3 && !s.dramSleeps then s.mapAck (fieldN e.psdu 0 4) x.2 else s) s
    else s

/-- Publish element e, the head of slice n's queue. -/
def State.publish (s : State) (n : Fin 4) (e : RxElem) (v : Nat) : State :=
  let d := s.discards v
  let prod := s.o (Obj.MAC_RXQn_PROD n)
  let s := s.wbs (s.o (Obj.MAC_RXQn_ADDR n) + 64 * (prod % 256)) (sliceB e.rcd 0 48 ++ e.block v d)
  let s := (s.setO (Obj.MAC_RXQn_PROD n) ((prod + 1) % 65536)).modSlice n (fun x => { x with rx := x.rx.drop 1 })
  let s := if d then s.returnCells n.castSucc e.cells else s.holdCells n.castSucc e.cells
  let s := if v = 0 && fType e.psdu == 7 then s.fabricFrame n e else s
  if v = 0 || v = 6 then s.firmRead e else s

/-- RXQ_PUBLISH (R213). -/
def execRxqPublish (n : Fin 4) (s : State) : Out :=
  match s.slices[n].rx with
  | [] => .next s
  | e :: _ =>
    match e.verdict with
    | none => .next s
    | some v => if s.winOver n e then .next (s.publish n e v) else .next s

/-- A write of MAC_RXQn_CONS (R211); none when refused. -/
def State.rxqCons (s : State) (n : Fin 4) (v : Nat) : Option State :=
  if consOk 65536 (s.o (Obj.MAC_RXQn_CONS n)) (s.o (Obj.MAC_RXQn_PROD n)) v then some (s.setO (Obj.MAC_RXQn_CONS n) v) else none

/-- RXQ_CONS_WRITE (R211). -/
def execRxqConsWrite (who : Fin 8) (n : Fin 4) (v : Nat) (s : State) : Out :=
  .next ((s.rxqCons n v).getD (s.dropped (windowAddr (Obj.MAC_RXQn_CONS n)) v who 3))

/-! ## The receive ring, as firmware reads it -/

/-- Element i of slice n's ring. -/
def State.rxElemAt (s : State) (n : Fin 4) (i : Nat) : Bytes := s.rbs (s.o (Obj.MAC_RXQn_ADDR n) + 64 * (i % 256)) 64

/-- The PSDU of an element of slice n. -/
def State.rxPsdu (s : State) (n : Fin 4) (e : Bytes) : Bytes :=
  s.readChain 17 (cellAddr n (fieldN e 20 2)) (fieldN e 8 2)

/-- A kept BEACON whose verdict is NEW: sender's fabric address, END and body (R205). -/
def State.beaconAt (s : State) (n : Fin 4) (i : Nat) : Option (Nat × Instant × Bytes) :=
  let e := s.rxElemAt n i
  if fieldN e 48 1 = 0 && fieldN e 50 1 == 6 && !(bitOf (fieldN e 51 1) 0) && fieldN e 8 2 != 0 then
    let p := s.rxPsdu n e
    some (fieldN p 0 4 % 4096, linear (fieldN e 0 8), fBody p)
  else none

/-! ## The rendezvous of a tag (R190-R192) -/

/-- The r-th set bit of an 8-bit set, counting from bit 0. -/
def setBitNo (v r : Nat) : Nat := nth ((List.range 8).filter (fun b => bitOf v b)) r 0

/-- The block X of R190. -/
def rdvBlock (tag sf : Nat) : Bytes :=
  leBytes 4 tag ++ leBytes 2 (fld sf 47 32) ++ leBytes 2 (fld sf 63 48) ++ leBytes 1 (fld sf 31 26) ++ List.replicate 7 0

/-- The guard g of R192. -/
def State.guard (s : State) (drift tsync : Nat) : Nat :=
  let st := s.o Obj.TMB_SYNC_STATE
  s.o Obj.MAC_RDV_G0 + ceilDiv (drift * tsync) 10000000 + (if st = 2 || st = 3 then 0 else s.o Obj.FAB_ERR)

/-- The rendezvous of a tag in superframe sf (R190): O, the instant and the channel's frequency; none when no rendezvous is computed
or the key is refused. -/
def State.rdvPlace (s : State) (tag sf : Nat) : Option (Bytes × Instant × Nat) :=
  let slots := s.o Obj.MAC_RDV_SLOTS
  if slots = 0 || !(s.permits (s.o Obj.MAC_RDV_KEY) 3) then none
  else
    let o := Config.aesBlock (s.keyOf (s.o Obj.MAC_RDV_KEY)) (rdvBlock tag sf)
    let slot := setBitNo slots (fieldN o 2 1 % popCount 8 slots)
    some (o, superStart (linear sf) + frameT * (fieldN o 0 2 % 100) + slotT * slot + (if fieldN o 3 1 % 2 = 0 then 1200 else 24000),
      s.o Obj.MAC_RDV_BASE_HZ + 1000000 * (fieldN o 4 2 % s.o Obj.MAC_RDV_NCH))

/-- The guard of a tag by its latest report (R192); with none, drift and sync age count as 0 (log 207). -/
def State.guardOf (s : State) (tag : Nat) : Nat :=
  match s.mac.reports.find? (fun r => r.tag == tag) with
  | none => s.guard 0 0
  | some r => s.guard r.drift (r.age * 38400 + (s.now - r.endAt))

/-- The listen exponent of a tag by its latest report. -/
def State.listenK (s : State) (tag k : Nat) : Nat := ((s.mac.reports.find? (fun r => r.tag == tag)).map (·.k)).getD k

/-- The rendezvous of a tag still to come in this superframe: its instant and frequency (R190-R192). -/
def State.rdvNow (s : State) (tag k : Nat) : Option (Instant × Nat) :=
  if s.sf % 2 ^ k ≠ tag % 2 ^ k || s.o Obj.MAC_RDV_GMAX < s.guardOf tag then none
  else
    match s.rdvPlace tag (tt64 (superStart s.now)) with
    | none => none
    | some (_, t, f) => if t < s.now then none else some (t, f)

/-- CIPHER_SCHED_BLOCK (R190-R192): rbytes answers O, then the instant (TT64, 8 bytes), the channel frequency in Hz (4) and
the guard in µt (4); no bytes when no rendezvous is computed or the key is refused, and the place alone left out when the
guard exceeds MAC_RDV_GMAX. -/
def execCipherSchedBlock (tag sf drift tsync : Nat) (s : State) : Out :=
  match s.rdvPlace tag sf with
  | none => .next { s with rbytes := [] }
  | some (o, t, f) =>
    let g := s.guard drift tsync
    .next { s with rbytes := sliceB o 0 16 ++ (if s.o Obj.MAC_RDV_GMAX < g then [] else leBytes 8 (tt64 t) ++ leBytes 4 f ++ leBytes 4 g) }

end Sys2Proof.Machine
end

