-- ==== Sys2Proof/Machine/Alarm.lean ====
section
/-!
DEFINITION. The Shell's alarms and the debug unlock (12_shell.md R361-R365, R369-R372).
-/
namespace Sys2Proof.Machine

/-! ## Alarms -/

/-- The action of source c (R361): a tamper input whose MODE is OFF raises nothing (R362). -/
def State.alarmAct (s : State) (c : Nat) : Nat :=
  if (c = 5 || c = 6) && s.o (Obj.SHL_TAMPp_MODE (c - 5)) = 0 then 0 else s.o (okey 0x1802 c)

/-- Filter time of source c in µt, rounded up (R361, R362). -/
def State.alarmFilter (s : State) (c : Nat) (stopped : Bool) : Nat :=
  if c = 1 then 1
  else if (c = 2 || c = 3) && stopped then 39
  else if c = 5 || c = 6 then ceilDiv (384 * s.o (Obj.SHL_TAMPp_FILT (c - 5))) 10
  else 0

/-- The state in which source c watches: a stopped SYSCLK counts outside DOZE and HIBERNATE, a stopped REFCLK in RUN (R361), and
a lost VCORE outside HIBERNATE (R11, R548). -/
def State.alarmWatches (s : State) (c : Nat) (stopped : Bool) : Bool :=
  decide (1 ≤ c) && decide (c ≤ 7) && (!(stopped && decide (c = 2)) || s.sysclk) &&
  (!(stopped && decide (c = 3)) || decide (s.pwr = 1)) && !(decide (c = 7) && decide (s.pwr = 4))

/-- Change the Shell's own state. -/
def State.modShell (s : State) (f : ShellSt → ShellSt) : State := { s with shell := f s.shell }

/-- ALARM_SOURCE_DETECT (R361, R362). -/
def execAlarmSourceDetect (src : Nat) (stopped : Bool) (s : State) : Out :=
  if s.alarmWatches src stopped && s.alarmAct src ≠ 0 then
    let d := s.now + s.alarmFilter src stopped
    .next (s.modShell (fun x => { x with sources := (src, d) :: x.sources.filter (fun p => p.1 != src) }))
  else .next s

/-- The debug unlock ends (R372). -/
def State.unlockEnd (s : State) : State :=
  let st := s.o Obj.SHL_DBG_STATE
  if st = 1 || st = 2 then (s.setO Obj.SHL_DBG_STATE 0).setO Obj.SHL_DBG_UNTIL 0 else s

/-- An alarm latches its source at D (R363). -/
def State.alarmLatch (s : State) (src act : Nat) : State :=
  let d := s.now
  let s := s.setO Obj.SHL_ALARM_AT (tt64 d)
  let s := s.setO Obj.SHL_ALARM_SRC (setBit (s.o Obj.SHL_ALARM_SRC) (src - 1) true)
  let s := s.inc Obj.SHL_ALARM_TOTAL
  if act = 1 then s.raise 0x121 src act
  else
    let s := s.unlockEnd
    s.modShell (fun x => {
      x with
      alarms := x.alarms.map (fun a => { a with unlock := none }) ++ [{ src := src, act := act, d := d }] })

/-- ALARM_LATCH (R363). The POWER source found VCORE lost: the anchor stops transmitting as when PG_N is removed (R11, R540). -/
def execAlarmLatch (src : Nat) (s : State) : Out :=
  match s.shell.sources.find? (fun p => p.1 == src) with
  | none => .next s
  | some (_, d) =>
    let s := (s.upTo d).modShell (fun x => { x with sources := x.sources.filter (fun p => p.1 != src) })
    let act := s.alarmAct src
    if act = 0 then .next s else .next ((if src = 7 then s.airStop 0x1B else s).alarmLatch src act)

/-- Change the first alarm that meets a condition. -/
def alarmMod (p : AlarmRun → Bool) (f : AlarmRun → AlarmRun) : List AlarmRun → List AlarmRun
  | [] => []
  | a :: r => if p a then f a :: r else a :: alarmMod p f r

/-- A bulk cipher job that runs ends with cause KEY (R364, R385). -/
def State.jobKeyEnd (s : State) (x : JobSt) (units : Nat) (begun : Bool) : State :=
  let d := x.desc
  let len := dLen d
  let done := min len (units * 16)
  let s := (s.readSrc d done).jobWrites x done (done = len)
  let part := begun && decide (done < len)
  let s := if part && unitWrites d then s.scramble (dDst d + done) (min 16 (len - done)) else s
  s.jobOver x.core x.ticket d (outcomeOf len done) 0x0B done (b2n part)

/-- A frame that is being verified gets MIC state 3 (R364). -/
def RxElem.keyCut (e : RxElem) (at_ : Instant) : RxElem :=
  if e.mic.isNone && !e.legacy && fSec e.psdu then
    { e with
      mic := some 3, micAt := at_
      rcd := e.rcd.take 22 ++ leBytes 1 (setFld (fieldN e.rcd 22 1) 3 2 3) ++ e.rcd.drop 23 }
  else e

/-- Every operation under a key is aborted (R364). -/
def State.keyAbort (s : State) (cuts : List (Nat × Nat × Bool)) : State :=
  let s := fin4.foldl (fun (s : State) (n : Fin 4) =>
    s.modSlice n (fun x => { x with rx := x.rx.map (fun e => e.keyCut s.now) })) s
  (s.jobs.queue.filter (fun x => x.running && decide (dKind x.desc = 3))).foldl (fun (s : State) x =>
    match cuts.find? (fun c => c.1 == x.ticket) with
    | none => s.jobKeyEnd x 0 false
    | some (_, u, b) => s.jobKeyEnd x u b) s

/-- KEY_BUS_CLOSE (R363, R364): D + 62.5 ns of the oldest alarm that has not closed the bus. -/
def execKeyBusClose (cuts : List (Nat × Nat × Bool)) (s : State) : Out :=
  match s.shell.alarms.find? (fun a => !a.closed) with
  | none => .next s
  | some a =>
    let s := (s.upTo (a.d + 3)).keyAbort cuts
    .next (s.modShell (fun x => { x with alarms := alarmMod (fun b => !b.closed) (fun b => { b with closed := true }) x.alarms }))

/-- Every slot becomes EMPTY (R363). -/
def State.zeroise (s : State) : State :=
  ((List.range 256).foldl (fun (s : State) k => s.emptySlot k) s).countSlots

/-- SLOT_ZEROISE (R363, R365): slots, the DRBG and a command that runs; then the one event of the alarm. -/
def execSlotZeroise (s : State) : Out :=
  match s.shell.alarms.find? (fun a => a.closed && !a.zeroised) with
  | none => .next s
  | some a =>
    let s := (s.upTo (a.d + 39)).zeroise
    let s := s.setO Obj.SHL_STATE 2
    let s := s.modShell (fun x => {
      x with
      drbgReq := 0
      running := x.running.map (fun r => (r.1, 0x0A))
      alarms := (alarmMod (fun b => b.closed && !b.zeroised) (fun b => { b with zeroised := true }) x.alarms).filter
        (fun b => !b.zeroised || b.act == 3) })
    .next (s.raise 0x121 a.src a.act)

/-- Open a debug unlock (R372): dur superframes from now, 0 until reset. -/
def State.unlock (s : State) (level dur : Nat) : State :=
  (s.setO Obj.SHL_DBG_STATE level).setO Obj.SHL_DBG_UNTIL (if dur = 0 then 0 else tt64 (s.now + dur * superT))

/-- FUSE_PURGE (R349, R363): the next wrap-generation fuse, while one is left; then the VENDOR unlock that waited. -/
def execFusePurge (s : State) : Out :=
  match s.shell.alarms.find? (fun a => a.zeroised && a.act == 3) with
  | none => .next s
  | some a =>
    let s := s.upTo (a.d + 768)
    let s := s.setO Obj.SHL_WRAP_GEN (min 32 (s.o Obj.SHL_WRAP_GEN + 1))
    let s := s.modShell (fun x => { x with alarms := x.alarms.filter (fun b => b != a) })
    match a.unlock with
    | none => .next s
    | some dur => .next (s.unlock 2 dur)

/-! ## Debug unlock -/

/-- A new challenge (R370): none while LOCKED or while the source fails (R360, R372). -/
def State.challenge (s : State) : Option (Bytes × State) :=
  if s.o Obj.SHL_DBG_STATE = 3 || s.o Obj.SHL_RNG_STATE = 1 then none
  else
    let (nonce, s) := s.drbg 16
    let b := leBytes 8 (s.o Obj.ID_UID) ++ nonce ++ leBytes 2 (s.o Obj.ID_DIE_REV) ++ leBytes 1 (s.o Obj.SHL_WRAP_GEN) ++
      leBytes 1 (s.o Obj.SHL_STATE) ++ leBytes 4 0
    some (b, s.modShell (fun x => { x with challenge := some b }))

/-- DEBUG_CHALLENGE (R360, R370, R372): a new challenge in rbytes, refused while LOCKED or while the source fails. -/
def execDebugChallenge (s : State) : Out :=
  match s.challenge with
  | none => .next { s with rbytes := [] }
  | some (b, s) => .next { s with rbytes := b }

/-- The conditions of R371. -/
def State.responseOk (s : State) (b : Bytes) : Bool :=
  let lv := fieldN b 24 1
  let au := fieldN b 25 1
  let pub := sliceB b 32 64
  decide (b.length = 160) &&
  (match s.shell.challenge with | none => false | some c => b.take 24 == c.take 24) &&
  (match au with
   | 0 => s.shell.ownerHash == some (Config.sha256 pub)
   | 1 => Config.sha256 pub == Config.vendorHash
   | _ => false) &&
  (lv == 1 || (lv == 2 && au == 1)) && decide (fieldN b 28 4 ≤ 86400) &&
  Config.ecdsaVerify pub (Config.sha256 (sliceB b 0 96)) (sliceB b 96 64)

/-- A response on SHL_DBG_RESP (R371, R372). -/
def State.debugResponse (s : State) (b : Bytes) : State :=
  let ok := s.responseOk b
  let s := s.modShell (fun x => { x with challenge := none })
  if ok then
    if fieldN b 24 1 = 1 then s.unlock 1 (fieldN b 28 4)
    else s.modShell (fun x => { x with alarms := x.alarms ++ [{ src := 0, act := 3, d := s.now, unlock := some (fieldN b 28 4) }] })
  else
    let n := s.o Obj.SHL_DBG_FAILS + 1
    let s := s.setO Obj.SHL_DBG_FAILS (min 255 n)
    let s := if 3 ≤ n then (s.setO Obj.SHL_DBG_STATE 3).setO Obj.SHL_DBG_UNTIL 0 else s
    s.raise 0x125 0 (min 255 n)

/-- DEBUG_RESPONSE (R371, R372). -/
def execDebugResponse (b : Bytes) (s : State) : Out := .next (s.debugResponse b)

/-- DEBUG_UNLOCK_END (R372). -/
def execDebugUnlockEnd (s : State) : Out :=
  let u := s.o Obj.SHL_DBG_UNTIL
  let st := s.o Obj.SHL_DBG_STATE
  if (st = 1 || st = 2) && u ≠ 0 then .next ((s.upTo (linear u)).unlockEnd) else .next s

end Sys2Proof.Machine
end

