-- ==== Sys2Proof/Machine/Dram.lean ====
section
/-!
DEFINITION. The DRAM controller (15_dram.md R433-R459): the pick, inline ECC, the patrol, initialisation, row-disturbance
protection, retraining and fencing. A write takes effect when the controller accepts it into the write buffer, since every read
of its block is served from there (log 50).
-/
namespace Sys2Proof.Machine

/-- The DRAM serves requests. -/
def State.dramOn (s : State) : Bool := !s.dramSleeps

/-- The number of row units in use (R437, R452). -/
def State.unitTotal (s : State) : Nat := match s.dramOnly with | none => 524288 | some _ => 262144

/-- Row units still marked clean (DRM_CLEAN, R439). -/
def State.dramClean (s : State) : Nat :=
  if s.dramOn then s.unitTotal - s.dram.fill - (s.dram.dirty.filter (fun u => decide (s.dram.fill ≤ u))).length else 0

/-! ## Row-disturbance protection (R445, R446) -/

/-- Refresh the neighbours of a row. -/
def State.victimRefresh (s : State) (v : Victim) : State :=
  let reach := if s.o Obj.DRM_RH_REACH = 2 then [1, 2] else [1]
  let below := (reach.filter (fun d => decide (d ≤ v.row))).length
  let above := (reach.filter (fun d => decide (v.row + d < 32768))).length
  let s := s.addO 32 (Obj.DRM_CHc_RH_VICTIM (v.bank / 8)) (below + above)
  s.modDram (fun d => { d with due := d.due.filter (fun x => x != v) })

/-- The smallest count of a table. -/
def rowLow (t : List (Nat × Nat)) : Nat := (t.map (·.2)).foldl min (2 ^ 32)

/-- Replace the first entry with count n. -/
def rowSwap (n : Nat) (e : Nat × Nat) : List (Nat × Nat) → List (Nat × Nat)
  | [] => []
  | x :: r => if x.2 = n then e :: r else x :: rowSwap n e r

/-- Count an activate of row r: the table after, and the count of the row. -/
def rowCount (t : List (Nat × Nat)) (r : Nat) : List (Nat × Nat) × Nat :=
  match t.find? (fun e => e.1 == r) with
  | some (_, n) => (t.map (fun e => if e.1 = r then (r, n + 1) else e), n + 1)
  | none =>
    if t.length < 32 then (t ++ [(r, 1)], 1)
    else
      let n := rowLow t
      (rowSwap n (r, n + 1) t, n + 1)

/-- Throttle a requester in a bank (R446). -/
def State.throttle (s : State) (b req : Nat) : State :=
  if (8 ≤ req && req ≤ 11) || req = 15 then s
  else
    let s := (s.inc (Obj.DRM_CHc_RH_THROTTLED (b / 8))).setO Obj.DRM_RH_LAST_REQ req
    let s := s.modDram (fun d => {
      d with
      throttled := ⟨b, req, s.now⟩ :: d.throttled.filter (fun t => !(t.bank == b && t.req == req)) })
    if s.dram.rhRaised.contains req then s
    else (s.modDram (fun d => { d with rhRaised := req :: d.rhRaised })).raise 0x144 (b / 8) req

/-- Activate row r of bank b (8 × channel + bank) for a requester: the rows due in the bank are refreshed first. -/
def State.activate (s : State) (b r req : Nat) : State :=
  let s := (s.dram.due.filter (fun v => v.bank == b)).foldl (fun (s : State) v => s.victimRefresh v) s
  let f : Fin 16 := asFin 16 b
  let (t, n) := rowCount s.dram.rows[f] r
  let s := s.modDram (fun d => {
    d with
    rows := vmod d.rows f (fun _ => t)
    openRow := vmod d.openRow f (fun _ => some r)
    hits := vmod d.hits f (fun _ => 0)
    throttled := d.throttled.map (fun x => if x.bank = b ∧ x.req = req then { x with last := s.now } else x) })
  let th := s.o Obj.DRM_RH_THRESH
  if th ≠ 0 && n % th = 0 then (s.modDram (fun d => { d with due := d.due ++ [⟨b, r, req⟩] })).throttle b req else s

/-- Open row r of bank b, counting a hit on the open row. -/
def State.openRowAt (s : State) (b r req : Nat) : State :=
  let f : Fin 16 := asFin 16 b
  if s.dram.openRow[f] = some r then s.modDram (fun x => { x with hits := vmod x.hits f (· + 1) })
  else s.activate b r req

/-- Open the row of an address. -/
def State.touchRow (s : State) (a req : Nat) : State :=
  let d := s.dramAt a
  s.openRowAt (8 * d.ch + d.bank) d.row req

/-- The bank (8 × channel + bank) and the row of a numbered row unit (R437, R452). -/
def State.unitRow (s : State) (u : Nat) : Nat × Nat :=
  let (c, v) := match s.dramOnly with | none => (u % 2, u / 2) | some c => (c, u)
  (8 * c + (v ^^^ (v / 8)) % 8, v / 8)

/-- RH_VICTIM_REFRESH (R446). -/
def execRhVictimRefresh (s : State) : Out :=
  match s.dram.due with
  | [] => .next s
  | v :: _ => .next (s.victimRefresh v)

/-- RH_WINDOW_START (R445, R446): tables clear and throttles end. -/
def execRhWindowStart (s : State) : Out :=
  .next (s.modDram (fun d => { d with rows := Vector.replicate 16 [], throttled := [], rhRaised := [] }))

/-! ## The pick (R440, R441) -/

/-- Priority of a requester (R440), 1 best. -/
def State.reqPrio (s : State) (r : Nat) : Nat :=
  if 8 ≤ r ∧ r ≤ 11 then (if s.dram.panic[asFin 4 (r - 8)] then 1 else 2)
  else if r ≤ 7 then 3
  else if r = 13 ∨ r = 14 then 4
  else if r = 12 then 5
  else 6

/-- Bank of a request in its channel. -/
def State.reqBank (s : State) (q : DramReq) : Nat := (s.dramAt q.addr).bank

/-- The request hits the open row of its bank. -/
def State.rowHit (s : State) (q : DramReq) : Bool :=
  let d := s.dramAt q.addr
  s.dram.openRow[asFin 16 (8 * d.ch + d.bank)] == some d.row

/-- A throttled requester whose next activate in the bank lies ahead (R446). -/
def State.heldBack (s : State) (q : DramReq) : Bool :=
  let d := s.dramAt q.addr
  !(s.rowHit q) && s.dram.throttled.any (fun t => t.bank == 8 * d.ch + d.bank && t.req == q.req &&
    decide (s.now < t.last + s.o Obj.DRM_RH_THROTTLE))

/-- The requests of channel c that may be served: of one block only the oldest, and none held back. -/
def State.eligible (s : State) (c : Nat) : List DramReq → List Nat → List DramReq
  | [], _ => []
  | q :: r, seen =>
    let b := q.addr / 64
    let ok := inDram q.addr && s.powered q.addr && decide ((s.dramAt q.addr).ch = c)
    if ok && !(seen.contains b) && !(s.heldBack q) then q :: State.eligible s c r (b :: seen)
    else State.eligible s c r (b :: seen)

/-- The best of some requests by priority, the oldest of equals. -/
def State.bestReq (s : State) : List DramReq → Option DramReq
  | [] => none
  | q :: r =>
    match State.bestReq s r with
    | none => some q
    | some x => if s.reqPrio x.req < s.reqPrio q.req then some x else some q

/-- The bank that channel c serves next: the one of best priority, ties to the first at or after the pointer. -/
def State.nextBank (s : State) (c : Fin 2) (l : List DramReq) : Option Nat :=
  match s.bestReq l with
  | none => none
  | some x =>
    let p := s.reqPrio x.req
    ((List.range 8).map (fun i => (s.dram.ptr[c] + i) % 8)).find? (fun b =>
      l.any (fun q => s.reqBank q == b && s.reqPrio q.req == p))

/-- The request that channel c serves next. -/
def State.dramPick (s : State) (c : Fin 2) (waiting : List DramReq) : Option DramReq :=
  let l := s.eligible c waiting []
  match s.nextBank c l with
  | none => none
  | some b =>
    let m := l.filter (fun q => s.reqBank q == b)
    let hits := m.filter (fun q => s.rowHit q)
    let miss := m.filter (fun q => !(s.rowHit q))
    if 64 ≤ s.dram.hits[asFin 16 (8 * c.val + b)] && !miss.isEmpty then miss.head?
    else if hits.isEmpty then s.bestReq miss
    else s.bestReq hits

/-- The whole block of a request stands in the write buffer. -/
def State.buffered (s : State) (q : DramReq) : Bool :=
  s.dram.wbuf.any (fun w => decide (w.addr ≤ q.addr / 64 * 64) && decide (q.addr / 64 * 64 + 64 ≤ w.addr + (w.data.getD []).length))

/-- Serve a read: a clean unit returns zeros and a buffered block its bytes, without an access; lost data reads as zeros for a
slice port and as nothing for every other requester (R435, R439, R441). -/
def State.dramRead (s : State) (c : Fin 2) (q : DramReq) : State :=
  if s.unitClean q.addr then { s with rbytes := List.replicate q.len 0 }
  else if s.buffered q then { s with rbytes := s.rbs q.addr q.len }
  else
    let (lost, s) := (s.touchRow q.addr q.req).dramCheck c q.addr q.err
    let port := decide (8 ≤ q.req) && decide (q.req ≤ 11)
    { s with rbytes := if lost then (if port then List.replicate q.len 0 else []) else s.rbs q.addr q.len }

/-- A write takes its place in the buffer: part of a block is a read-modify-write, and a whole block loses its error (R434,
R435). -/
def State.dramWrite (s : State) (q : DramReq) (b : Bytes) : State :=
  let whole := decide (q.addr % 64 = 0) && decide (64 ≤ b.length)
  let s := if whole || s.unitClean q.addr then s else (s.dramCheck (s.dramChan q.addr) q.addr q.err).2
  (s.wbs q.addr b).dramHeal q.addr b.length

/-- Blocks of the write buffer of channel c that are taken. -/
def State.bufBlocks (s : State) (c : Nat) : Nat :=
  sumL ((s.dram.wbuf.filter (fun w => (s.dramAt w.addr).ch == c)).map (fun w => ceilDiv (w.addr % 64 + (w.data.getD []).length) 64))

/-- A request has room (R441): a read in its bank's queue of 16; a write in its channel's buffer of 32 blocks, once no older read
of its block waits. -/
def State.dramRoom (s : State) (q : DramReq) : Bool :=
  let d := s.dramAt q.addr
  match q.data with
  | none => decide ((s.dram.queue.filter (fun x => (s.dramAt x.addr).ch == d.ch && s.reqBank x == d.bank)).length < 16)
  | some b => decide (s.bufBlocks d.ch + ceilDiv (q.addr % 64 + b.length) 64 ≤ 32) &&
      s.dram.queue.all (fun x => x.addr / 64 != q.addr / 64)

/-- A request that arrives is queued or buffered; one without room waits at its requester, and is offered again. -/
def State.dramAccept (s : State) (q : DramReq) : State :=
  if !(inDram q.addr && s.powered q.addr && s.dramRoom q) then s
  else
    match q.data with
    | none => s.modDram (fun d => { d with queue := d.queue ++ [q] })
    | some b => (s.dramWrite q b).modDram (fun d => { d with wbuf := d.wbuf ++ [q] })

/-- What channel c may serve: its reads, and its buffered writes once 24 blocks stand in the buffer or no read waits (R441). -/
def State.dramReady (s : State) (c : Fin 2) : List DramReq :=
  let mine := fun (q : DramReq) => (s.dramAt q.addr).ch == c.val
  let reads := s.dram.queue.filter mine
  if reads.isEmpty || decide (24 ≤ s.bufBlocks c) then reads ++ s.dram.wbuf.filter mine else reads

/-- Take the first entry that equals q out of a list. -/
def dropReq (q : DramReq) : List DramReq → List DramReq
  | [] => []
  | x :: r => if x = q then r else x :: dropReq q r

/-- Serve a request of channel c: rdata is its address. -/
def State.dramServe (s : State) (c : Fin 2) (q : DramReq) : State :=
  let s := { s with rdata := q.addr }
  match q.data with
  | none => (s.modDram (fun d => { d with queue := dropReq q d.queue })).dramRead c q
  | some _ => (s.modDram (fun d => { d with wbuf := dropReq q d.wbuf })).touchRow q.addr q.req

/-- Before a fence, from T − 80 µt to T, the controller takes no request (R451). -/
def State.fenceNear (s : State) : Bool :=
  s.dram.fenceDue.any (fun p => decide (s.now < p.2) && decide (p.2 ≤ s.now + 80))

/-- Then a queued read completes with value 0, and writes are dropped. -/
def State.dramFlush (s : State) : State :=
  match s.dram.queue with
  | [] => s.modDram (fun d => { d with wbuf := [] })
  | q :: r => { s.modDram (fun d => { d with queue := r, wbuf := [] }) with rdata := q.addr, rbytes := List.replicate q.len 0 }

/-- DRAM_REQUEST (R435, R441): the requests that have arrived are accepted, and channel c picks and serves one. -/
def execDramRequest (c : Fin 2) (arrived : List DramReq) (s : State) : Out :=
  if !s.dramOn then .next s
  else if s.fenceNear then .next s.dramFlush
  else
    let s := arrived.foldl (fun (s : State) q => s.dramAccept q) s
    match s.dramPick c (s.dramReady c) with
    | none => .next s
    | some q =>
      let bank := s.reqBank q
      .next ((s.modDram (fun d => { d with ptr := vmod d.ptr c (fun _ => (bank + 1) % 8) })).dramServe c q)

/-- Every buffered write and every queued read is served (R454). -/
def State.dramDrain (s : State) : State :=
  let s := s.dram.wbuf.foldl (fun (s : State) q => s.dramServe (s.dramChan q.addr) q) s
  s.dram.queue.foldl (fun (s : State) q => s.dramServe (s.dramChan q.addr) q) s

/-! ## The patrol (R436, R439) -/

/-- The first clean unit at or after u. -/
def nextClean (dirty : List Nat) : Nat → Nat → Nat
  | 0, u => u
  | n + 1, u => if dirty.contains u then nextClean dirty n (u + 1) else u

/-- SCRUB_READ (R436, R439): fill the next clean unit, or read the next block of the patrol. -/
def execScrubRead (fill : Bool) (err : Nat) (s : State) : Out :=
  if !s.dramOn then .next s
  else if fill then
    let u := nextClean s.dram.dirty s.dram.dirty.length s.dram.fill
    if u < s.unitTotal then
      let (b, r) := s.unitRow u
      .next ((s.openRowAt b r 15).modDram (fun d => { d with fill := u + 1, dirty := d.dirty.filter (fun x => decide (u < x)) }))
    else .next s
  else
    let a := 0x80000000 + 64 * (s.dram.scrub % (s.o Obj.DRM_SIZE / 64))
    let s := s.modDram (fun d => { d with scrub := d.scrub + 1 })
    if s.unitClean a then .next s
    else
      let c := asFin 2 (s.dramAt a).ch
      .next ((s.touchRow a 15).dramCheck c a err).2

/-! ## Initialisation (R438, R439) -/

/-- The DRAM's contents are gone and every unit is clean: the cold table is empty with them (R451). -/
def State.dramBlank (s : State) : State :=
  let s := { s with mem := s.mem.filter (fun e => !(inDram e.1)) }
  let s := s.modDram (fun d => {
    d with
    dirty := [], fill := 0, bad := [], queue := [], wbuf := [], due := [], throttled := [], rhRaised := [], scrub := 0
    openRow := Vector.replicate 16 none, hits := Vector.replicate 16 0, rows := Vector.replicate 16 [] })
  s.setO Obj.MAC_COLD_USED 0

/-- DRAM_INIT (R438, R439): training of both channels begins and a written grain takes effect. -/
def execDramInit (s : State) : Out :=
  if s.o Obj.DRM_STATE = 0 && s.pwr ≤ 2 && !(s.o (Obj.DRM_CHc_STATE 0) == 2 && s.o (Obj.DRM_CHc_STATE 1) == 2) then
    let s := (s.setO Obj.DRM_STATE 1).setO Obj.DRM_GRAIN_NOW (s.o Obj.DRM_GRAIN)
    let s := (s.setO (Obj.DRM_CHc_STATE 0) 0).setO (Obj.DRM_CHc_STATE 1) 0
    .next (s.setO Obj.DRM_SIZE 0x38000000)
  else .next s

/-- DRAM_READY (R439). -/
def execDramReady (s : State) : Out :=
  if s.o Obj.DRM_STATE = 1 then
    let sf := s.now / superT
    .next ((s.dramBlank.setO Obj.DRM_STATE 2).modDram (fun d => {
      d with
      began := #v[sf, sf], round := Vector.replicate 2 none, wakeDue := Vector.replicate 2 false }))
  else .next s

/-! ## Slice ports (R443, R459) -/

/-- DRAM_PANIC (R443). -/
def execDramPanic (n : Fin 4) (level : Nat) (waited : Bool) (s : State) : Out :=
  let lv := min level 4096
  let s := (s.setO (Obj.DRM_RTn_LEVEL n) lv).setO (Obj.DRM_RTn_MAXLEVEL n) (max lv (s.o (Obj.DRM_RTn_MAXLEVEL n)))
  let p := s.o (Obj.DRM_RTn_PANIC n)
  let set := fun (s : State) (b : Bool) => s.modDram (fun d => { d with panic := vmod d.panic n (fun _ => b) })
  if s.dram.panic[n] then .next (if !waited && lv + 1024 < p then set s false else s)
  else if waited || p ≤ lv then .next ((set s true).inc (Obj.DRM_RTn_PANICS n))
  else .next s

/-- A write of DRM_RTn_MAXLEVEL (R459): 0 only. -/
def State.maxlevelWrite (s : State) (n : Nat) (v : Nat) : Option State :=
  if v = 0 then some (s.setO (Obj.DRM_RTn_MAXLEVEL n) 0) else none

/-- DRM_RTN_MAXLEVEL_RESET (R459). -/
def execDrmRtnMaxlevelReset (who : Fin 8) (n : Fin 4) (v : Nat) (s : State) : Out :=
  .next ((s.maxlevelWrite n v).getD (s.dropped (windowAddr (Obj.DRM_RTn_MAXLEVEL n)) v who 3))

/-! ## Refresh and retraining (R447-R450) -/

/-- The refresh interval in force of channel c (R447). -/
def State.refInt (s : State) (c : Fin 2) : State :=
  s.setO (Obj.DRM_CHc_REF_INT c) (s.dram.tempInt[c] * s.o Obj.DRM_REF_SCALE / 8)

/-- DRAM_REFRESH (R447). -/
def execDramRefresh (c : Fin 2) (bank : Fin 8) (base : Nat) (s : State) : Out :=
  if s.dramOn && s.o (Obj.DRM_CHc_STATE c) ≠ 2 then
    .next ((s.modDram (fun d => {
      d with
      tempInt := vmod d.tempInt c (fun _ => base)
      openRow := vmod d.openRow (asFin 16 (8 * c.val + bank.val)) (fun _ => none) })).refInt c)
  else .next s

/-- A round of channel c runs or is due (R449). -/
def State.roundDue (s : State) (c : Fin 2) (moved : Bool) : Bool :=
  s.o (Obj.DRM_CHc_STATE c) != 2 &&
  (s.dram.round[c].isSome || moved || s.dram.wakeDue[c] ||
   decide (s.dram.began[c] + s.o Obj.DRM_RETRAIN_PERIOD ≤ s.now / superT))

/-- The channel whose step runs in this gap (R449). -/
def State.roundChan (s : State) (m0 m1 : Bool) : Option (Fin 2) :=
  let due : Fin 2 → Bool := fun c => s.roundDue c (if c = 0 then m0 else m1)
  match fin2.find? (fun (c : Fin 2) => s.dram.round[c].isSome && s.o (Obj.DRM_CHc_STATE c) != 2) with
  | some c => some c
  | none =>
    let first : Fin 2 := if s.dram.lastRound = 0 then 1 else 0
    if due first then some first else if due (1 - first) then some (1 - first) else none

/-- The gap is available (R449): no port in panic, and no commit of a DRM_ object within the 80 µt before. -/
def State.gapFree (s : State) : Bool :=
  !(s.dram.panic.toList.any id) &&
  !(s.com.accepted.any (fun a => decide (s.now < a.seen + 80) &&
    a.sets.any (fun p => decide (0x1A00 ≤ p.1 / 256) && decide (p.1 / 256 ≤ 0x1A23))))

/-- The temperature of a channel has moved by DRM_RETRAIN_DT since its last round began. -/
def State.dramMoved (s : State) (c : Fin 2) (t : Int) : Bool :=
  match s.dram.temp[c] with
  | none => false
  | some u => decide (s.o Obj.DRM_RETRAIN_DT ≤ (t - u).natAbs)

/-- The eye a step needs (R450). -/
def eyeNeed (step : Nat) : Nat := if step = 0 ∨ step = 2 then 12 else 16

/-- A step adopts its setting, or the channel is degraded (R450). -/
def State.retrainStep (s : State) (c : Fin 2) (step : Nat) (eye : Option Nat) : State :=
  let found := match eye with | none => none | some e => if eyeNeed step ≤ e then some e else none
  match found with
  | some e =>
    let old := s.o (Obj.DRM_CHc_EYE c)
    let s := s.setO (Obj.DRM_CHc_EYE c) (if step = 0 then e else min old e)
    { s with power := { s.power with eyeMin := vmod s.power.eyeMin c (fun x => min x e) } }
  | none =>
    let s := (s.inc (Obj.DRM_CHc_RETRAIN_FAIL c)).modDram (fun d => { d with roundBad := vmod d.roundBad c (fun _ => true) })
    let s := if step = 0 then s.setO (Obj.DRM_CHc_EYE c) 64 else s
    if s.o (Obj.DRM_CHc_STATE c) = 0 then (s.setO (Obj.DRM_CHc_STATE c) 1).raise 0x142 c 0 else s

/-- The end of a round (R450). -/
def State.roundEnd (s : State) (c : Fin 2) : State :=
  let s := s.setO (Obj.DRM_CHc_TRAINED_AT c) (tt64 s.now)
  let s := if !s.dram.roundBad[c] && s.o (Obj.DRM_CHc_STATE c) = 1 then s.setO (Obj.DRM_CHc_STATE c) 0 else s
  s.modDram (fun d => { d with round := vmod d.round c (fun _ => none) })

/-- A channel with no round yet keeps its first temperature reading to compare with. -/
def State.tempFirst (s : State) (c : Fin 2) (t : Int) : State :=
  if s.dram.temp[c].isSome then s else s.modDram (fun d => { d with temp := vmod d.temp c (fun _ => some t) })

/-- DRAM_RETRAIN_PAUSE (R448-R450): one in each tick gap; temp0 and temp1 are the temperatures of the channels in °C. -/
def execDramRetrainPause (eye : Option Nat) (temp0 temp1 : Int) (s : State) : Out :=
  let t := frameStart s.now + 383924
  if !s.dramOn || s.dram.gapAt = some t || decide (t < s.now) then .next s
  else
    let s := (((s.upTo t).modDram (fun d => { d with gapAt := some t })).tempFirst 0 temp0).tempFirst 1 temp1
    match s.roundChan (s.dramMoved 0 temp0) (s.dramMoved 1 temp1) with
    | none => .next s
    | some c =>
      let step := s.dram.round[c].getD 0
      let s := if s.dram.round[c].isSome then s
        else s.modDram (fun d => {
          d with
          round := vmod d.round c (fun _ => some 0), roundBad := vmod d.roundBad c (fun _ => false)
          began := vmod d.began c (fun _ => s.now / superT), wakeDue := vmod d.wakeDue c (fun _ => false)
          temp := vmod d.temp c (fun _ => some (if c = 0 then temp0 else temp1))
          lastRound := c.val })
      if !s.gapFree then .next ((s.miss 8 6 t).inc (Obj.DRM_CHc_PAUSE_MOVED c))
      else
        let s := (s.inc (Obj.DRM_CHc_PAUSES c)).retrainStep c step eye
        if step = 15 then .next (s.roundEnd c)
        else .next (s.modDram (fun d => { d with round := vmod d.round c (fun _ => some (step + 1)) }))

/-! ## Fencing (R451-R453) -/

/-- DRAM_FENCE_CHECK (R451): DEGRADED channels whose superframe reached the threshold are fenced at the next tick. -/
def execDramFenceCheck (s : State) : Out :=
  if s.dramOn && frameOf s.now = 0 then
    let due := fin2.filter (fun (c : Fin 2) => s.o (Obj.DRM_CHc_STATE c) == 1 &&
      decide (s.o (Obj.DRM_CHc_FENCE_CE c) ≤ s.o (Obj.DRM_CHc_CE_SF c)) && !(s.dram.fenceDue.any (fun p => p.1 == c.val)))
    let t := nextFrame s.now
    .next (s.modDram (fun d => { d with fenceDue := d.fenceDue ++ due.map (fun (c : Fin 2) => (c.val, t)) }))
  else .next s

/-- Fence channel c at T (R451-R453). -/
def State.fence (s : State) (c : Nat) : State :=
  let s := fin4.foldl (fun (s : State) (n : Fin 4) => if s.capRuns n then s.capStop n else s) s
  let s := s.jobsKeepSrc 0x9C000000 0x1C000000
  let other := s.o (Obj.DRM_CHc_STATE (1 - c)) = 2
  let s := s.setO (Obj.DRM_CHc_STATE c) 2
  let s := s.dramBlank
  let s := if other then (s.setO Obj.DRM_STATE 0).setO Obj.DRM_SIZE 0
    else (s.setO Obj.DRM_STATE 4).setO Obj.DRM_SIZE 0x1C000000
  (s.modDram (fun d => { d with round := vmod d.round (asFin 2 c) (fun _ => none) })).raise 0x143 c 0

/-- DRAM_FENCED (R451). -/
def execDramFenced (c : Fin 2) (s : State) : Out :=
  match s.dram.fenceDue.find? (fun x => x.1 == c.val) with
  | none => .next s
  | some (_, t) =>
    let s := (s.upTo t).modDram (fun d => { d with fenceDue := d.fenceDue.filter (fun x => x.1 != c.val) })
    .next (s.fence c)

end Sys2Proof.Machine
end

