-- ==== Sys2Proof/Machine/Flags.lean ====
section
/-!
DEFINITION. The results and flags of Gragil arithmetic for elements of w bits (14_gragil_cores.md R405, R407, R408, R426): w is
32, or 8 in Sprout mode.
-/
namespace Sys2Proof.Machine

/-- Outputs of an arithmetic instruction, deepest first, with OV and C. -/
structure Arith where
  outs : List Nat
  ov : Bool
  c : Bool
  deriving DecidableEq, Repr

/-- x lies outside the signed range of w bits. -/
def sOut (w : Nat) (x : Int) : Bool := decide (x < -(2 ^ (w - 1) : Nat)) || decide (((2 ^ (w - 1) : Nat) : Int) ≤ x)

/-- ADD: C on an unsigned carry, OV when the signed sum lies outside the range (R407). -/
def aAdd (w a b : Nat) : Arith := ⟨[(a + b) % 2 ^ w], sOut w (toI w a + toI w b), decide (2 ^ w ≤ a + b)⟩

/-- SUB: C when a < b unsigned, OV on signed overflow. -/
def aSub (w a b : Nat) : Arith := ⟨[(a + 2 ^ w - b) % 2 ^ w], sOut w (toI w a - toI w b), decide (a < b)⟩

/-- NEG: C when a is not 0, OV only for the most negative value. -/
def aNeg (w a : Nat) : Arith := ⟨[(2 ^ w - a) % 2 ^ w], decide (a = 2 ^ (w - 1)), decide (a ≠ 0)⟩

/-- MUL: C when the unsigned product does not fit, OV when the signed one does not. -/
def aMul (w a b : Nat) : Arith := ⟨[a * b % 2 ^ w], sOut w (toI w a * toI w b), decide (2 ^ w ≤ a * b)⟩

/-- MULL: the signed double product, low first; both flags clear. -/
def aMull (w a b : Nat) : Arith :=
  let p := ofI (2 * w) (toI w a * toI w b)
  ⟨[p % 2 ^ w, p / 2 ^ w], false, false⟩

/-- MULLU: the unsigned double product. -/
def aMullu (w a b : Nat) : Arith := ⟨[a * b % 2 ^ w, a * b / 2 ^ w % 2 ^ w], false, false⟩

/-- DIVS: remainder and quotient truncated toward 0; OV only when the quotient does not fit (R408); none for b = 0. -/
def aDivs (w a b : Nat) : Option Arith :=
  if b = 0 then none
  else
    let q := (toI w a).tdiv (toI w b)
    let r := toI w a - q * toI w b
    some ⟨[ofI w r, ofI w q], sOut w q, false⟩

/-- DIVU: remainder and quotient; both flags clear; none for b = 0. -/
def aDivu (a b : Nat) : Option Arith := if b = 0 then none else some ⟨[a % b, a / b], false, false⟩

/-- SHL: 0 for counts of w and above (R408). -/
def shlW (w a n : Nat) : Nat := if w ≤ n then 0 else a * 2 ^ n % 2 ^ w
/-- SHR. -/
def shrW (w a n : Nat) : Nat := if w ≤ n then 0 else a / 2 ^ n
/-- SAR: copies of the sign for counts of w and above. -/
def sarW (w a n : Nat) : Nat := ofI w (toI w a / ((2 ^ (min n w) : Nat) : Int))
/-- ROL: rotate left by n mod w. -/
def rolW (w a n : Nat) : Nat :=
  let k := n % w
  (a * 2 ^ k + a / 2 ^ (w - k)) % 2 ^ w
/-- ROR: rotate right by n mod w. -/
def rorW (w a n : Nat) : Nat := rolW w a (w - n % w)

/-- Sign extension of an n-bit value to w bits. -/
def sextW (n w v : Nat) : Nat := ofI w (toI n v)

end Sys2Proof.Machine
end

