-- ==== Sys2Proof/Machine/Operands.lean ====
section
/-!
DEFINITION. What every Gragil instruction shares (14_gragil_cores.md R400-R416, R425, R428): the two stacks with their checks,
the fetch, taking a trap and returning from one, and the cycle count.
-/
namespace Sys2Proof.Machine

/-! ## Stacks (R400, R425) -/

/-- Bits of an element. -/
def CoreSt.w (x : CoreSt) : Nat := if x.sprout then 8 else 32
/-- Bytes of a data stack element. -/
def CoreSt.de (x : CoreSt) : Nat := if x.sprout then 1 else 4
/-- Bytes of a return stack element. -/
def CoreSt.re (x : CoreSt) : Nat := if x.sprout then 2 else 4
/-- Data stack pointer. -/
def CoreSt.dp (x : CoreSt) : Nat := if x.sprout then x.sds else x.dsp.toNat
/-- Return stack pointer. -/
def CoreSt.rp (x : CoreSt) : Nat := if x.sprout then x.srs else x.rsp.toNat
/-- Depth of the data stack. -/
def CoreSt.dDepth (x : CoreSt) : Nat := if x.sprout then 0xFF00 - x.sds else (x.dsHi - x.dsp).toNat / 4
/-- Depth of the return stack. -/
def CoreSt.rDepth (x : CoreSt) : Nat := if x.sprout then (0x10000 - x.srs) / 2 else (x.rsHi - x.rsp).toNat / 4
/-- The data stack has room for g more elements. -/
def CoreSt.dRoom (x : CoreSt) (g : Nat) : Bool :=
  if x.sprout then decide (0xFE00 + g ≤ x.sds) else decide (x.dsLo.toNat + 4 * g ≤ x.dsp.toNat)
/-- The return stack has room for g more elements. -/
def CoreSt.rRoom (x : CoreSt) (g : Nat) : Bool :=
  if x.sprout then decide (0xFF00 + 2 * g ≤ x.srs) else decide (x.rsLo.toNat + 4 * g ≤ x.rsp.toNat)

/-- The memory address of a Sprout address (R425). -/
def sproutAddr (a : Nat) : Nat := if a < 0xC000 then a else 0x20000000 + (a - 0xC000)

/-- The memory address of a core's own address. -/
def CoreSt.phys (x : CoreSt) (a : Nat) : Nat := if x.sprout then sproutAddr (a % 65536) else a % 2 ^ 32

/-- n bytes lie in system SRAM. -/
def inSram (a n : Nat) : Bool := decide (0x20000000 ≤ a) && decide (a + n ≤ 0x20200000)

/-- A stack element of n bytes at a core's address: one outside system SRAM is a free value (R401). -/
def State.stackGet (s : State) (x : CoreSt) (a n : Nat) : Nat :=
  let p := x.phys a
  if inSram p n then s.rn p n else Config.freeNat (s.draws + a) % 2 ^ (8 * n)

/-- Write a stack element; one outside system SRAM is lost. -/
def State.stackPut (s : State) (x : CoreSt) (a n v : Nat) : State :=
  let p := x.phys a
  if inSram p n then s.wn p n v else s

/-- The n top elements from pointer p, deepest first. -/
def State.stackTop (s : State) (x : CoreSt) (p e : Nat) : Nat → List Nat
  | 0 => []
  | n + 1 => s.stackGet x (p + e * n) e :: State.stackTop s x p e n

/-- Push elements below pointer p, deepest first. -/
def State.stackPush (s : State) (x : CoreSt) (p e : Nat) : List Nat → State
  | [] => s
  | v :: r => State.stackPush (s.stackPut x (p - e) e v) x (p - e) e r

/-- The n top elements of core c's data stack, deepest first. -/
def State.dTop (s : State) (c : Fin 8) (n : Nat) : List Nat :=
  let x := s.cores[c]
  s.stackTop x x.dp x.de n

/-- The n top elements of core c's return stack. -/
def State.rTop (s : State) (c : Fin 8) (n : Nat) : List Nat :=
  let x := s.cores[c]
  s.stackTop x x.rp x.re n

/-- Put the data stack pointer. -/
def CoreSt.setDp (x : CoreSt) (p : Nat) : CoreSt :=
  if x.sprout then { x with sds := p } else { x with dsp := BitVec.ofNat 32 p }
/-- Put the return stack pointer. -/
def CoreSt.setRp (x : CoreSt) (p : Nat) : CoreSt :=
  if x.sprout then { x with srs := p } else { x with rsp := BitVec.ofNat 32 p }

/-- Pop n elements of the data stack and push others. -/
def State.dSwap (s : State) (c : Fin 8) (n : Nat) (outs : List Nat) : State :=
  let x := s.cores[c]
  let p := x.dp + x.de * n
  (s.stackPush x p x.de outs).modCore c (fun y => y.setDp (p - x.de * outs.length))

/-- Pop n elements of the return stack and push others. -/
def State.rSwap (s : State) (c : Fin 8) (n : Nat) (outs : List Nat) : State :=
  let x := s.cores[c]
  let p := x.rp + x.re * n
  (s.stackPush x p x.re outs).modCore c (fun y => y.setRp (p - x.re * outs.length))

/-! ## Status and cycles -/

/-- ST (R402). -/
def CoreSt.st (x : CoreSt) : Word :=
  BitVec.ofNat 32 (b2n x.ov + 2 * b2n x.c + 4 * b2n x.tm + 8 * b2n x.sprout)

/-- Write ST: SPROUT is read-only. -/
def CoreSt.setSt (x : CoreSt) (v : Nat) : CoreSt := { x with ov := bitOf v 0, c := bitOf v 1, tm := bitOf v 2 }

/-- Core c changes its state, its cycles counted up to now. -/
def State.setMode (s : State) (c : Fin 8) (m : CoreRun) : State :=
  s.modCore c (fun x => { x.sync s.now s.sysclk with mode := m })

/-- SYSCLK cycles of core c since it last left HELD (R402). -/
def State.cycles (s : State) (c : Fin 8) : Nat := (s.cores[c].sync s.now s.sysclk).cycle / 12

/-- Those outside WAIT (R432). -/
def State.busyCycles (s : State) (c : Fin 8) : Nat := (s.cores[c].sync s.now s.sysclk).busy / 12

/-! ## Memory as a core sees it (R409-R412) -/

/-- A region from which a core may fetch (R409): boot ROM, flash, system SRAM, DRAM. -/
def codeRegion (a : Nat) : Option (Nat × Nat) :=
  if 0x24000000 ≤ a && a < 0x24200000 then none else regionOf a

/-- The trap of a fetch of n bytes at core c's pc (R406, R409, R412, R452), with its TADDR. -/
def State.fetchTrap (s : State) (c : Fin 8) (n : Nat) : Option (Nat × Nat) :=
  let x := s.cores[c]
  let pc := x.pc.toNat
  if x.sprout then (if 65536 < pc + n then some (7, 65536) else none)
  else
    match codeRegion pc with
    | none => some (7, pc)
    | some (_, e) =>
      let e := if inDram pc && s.noDram 0x9C000000 then 0x9C000000 else e
      if s.noDram pc then some (7, pc)
      else if !(s.powered pc) then some (8, pc)
      else if e < pc + n then some (7, e)
      else none

/-- Core c's read of n bytes from a without a count of its own, a fetch or a handler's word: whether a block or line of them is lost,
and the state after it (R435, R463, log 225). -/
def State.meet (s : State) (a n : Nat) : Bool × State :=
  if (s.badBlock a n).isSome && inDram a then (true, s.dramLook a n)
  else
    let (lost, s) := s.readOver a (a + n)
    (lost.isSome, s)

/-- A read of n bytes from a meets no error. -/
def State.sound (s : State) (a n : Nat) : Bool := !((s.badBlock a n).isSome && inDram a) && s.cleanUnits a (a + n)

/-! ## Frames of instructions (R400, R404, R414-R416) -/

/-- Main-die reset asked for at the next tick boundary with a cause (R416, R572, R584). -/
def State.askReset (s : State) (cause : Nat) : State :=
  { s with power := { s.power with resetsDue := s.power.resetsDue ++ [cause] } }

/-- Return from a trap (R415): TST to ST, and on at TPC. -/
def CoreSt.rett (x : CoreSt) : CoreSt :=
  let x := x.setSt x.tst.toNat
  { x with pc := if x.sprout then BitVec.ofNat 32 (x.tpc.toNat % 65536) else x.tpc }

/-- The address of what follows an instruction of n bytes. -/
def CoreSt.after (x : CoreSt) (n : Nat) : Nat := if x.sprout then (x.pc.toNat + n) % 65536 else (x.pc.toNat + n) % 2 ^ 32

/-- The stack trap of an instruction (R400): inputs and growth of the data stack and of the return stack; underflow first. -/
def CoreSt.stackTrap (x : CoreSt) (din dout rin rout : Nat) : Option (Nat × Nat) :=
  if x.dDepth < din then some (3, x.dp)
  else if x.rDepth < rin then some (5, x.rp)
  else if din < dout && !(x.dRoom (dout - din)) then some (2, x.dp)
  else if rin < rout && !(x.rRoom (rout - rin)) then some (4, x.rp)
  else none

/-- Element i of a list of inputs. -/
def inp (l : List Nat) (i : Nat) : Nat := l.getD i 0

end Sys2Proof.Machine
end

