-- ==== Sys2Proof/Machine/Flash.lean ====
section
/-!
DEFINITION. The ROM flash routines, the FLASH jobs, the intent journal and the protection of the flash (16_flash.md R465-R486).
-/
namespace Sys2Proof.Machine

/-! ## What the routines check and create (R467, R468) -/

/-- The sector lies within FLS_LOCK (R486). -/
def State.locked (s : State) (area l : Nat) : Bool :=
  let v := s.o Obj.FLS_LOCK
  area == 0 && bitOf v 16 && decide (fld v 7 0 ≤ l) && decide (l ≤ fld v 15 8)

/-- A job on the same logical sector is QUEUED or RUNNING (R472). -/
def State.sectorBusy (s : State) (area l : Nat) : Bool := s.flash.jobs.any (fun j => j.area == area && j.sector == l)

/-- The change of a counter sector lacks the Shell's permit (R357, R476). -/
def State.noPermit (s : State) (area l : Nat) : Bool :=
  area == 1 && ((l == 14 && !(bitOf s.shell.permit 0)) || (l == 15 && !(bitOf s.shell.permit 1)))

/-- A line or word of n bytes reads as all ones in a raw read (R463, R471). -/
def State.blankAt (s : State) (a n : Nat) : Bool := s.cleanUnits a (a + n) && (s.rbs a n).all (fun b => b == 0xFF)

/-- Offset of the first of k units of n bytes that is not blank, or the length. -/
def State.firstNotBlank (s : State) (a n : Nat) : Nat → Nat → Nat
  | 0, o => o
  | k + 1, o => if s.blankAt (a + o) n then State.firstNotBlank s a n k (o + n) else o

/-- TAG of a FLASH job's record (R481). -/
def flashTag (routine area l : Nat) : Nat := routine + area * 256 + l * 65536

/-- Create a job (R467, R469, R481): its ticket and status. -/
def State.flashJob (s : State) (j : FlashJob) : List Nat × State :=
  let sel := if j.op = 0 then j.len else 1
  let r := s.newRecord 1 6 14 sel 0 (flashTag j.op j.area j.sector)
  r.1.elim ([0, 9], r.2) (fun t => ([t, 0], r.2.modFlash (fun x => { x with jobs := x.jobs ++ [{ j with ticket := t }] })))

/-- FL_PROGRAM (R470). -/
def State.flProgram (s : State) (c : Fin 8) (src a len : Nat) : List Nat × State :=
  let area := areaOf a
  let l := sectorOf a
  if len = 0 then ([0, 0], s)
  else if !(inFlash a len) || 65536 < len || sectorOf (a + len - 1) ≠ l || areaOf (a + len - 1) ≠ area
      || !(writableMem src && inRegion src len) then ([0, 2], s)
  else if a % 16 ≠ 0 || len % 16 ≠ 0 || src % 4 ≠ 0 then ([0, 3], s)
  else if wordMode area l then ([0, 7], s)
  else if s.locked area l then ([0, 5], s)
  else if s.sectorBusy area l then ([0, 1], s)
  else if s.firstNotBlank a 16 (len / 16) 0 ≠ len then ([0, 4], s)
  else s.flashJob { ticket := 0, core := c, op := 0, area := area, sector := l, src := src, addr := a, len := len }

/-- FL_ERASE (R474, R476). -/
def State.flErase (s : State) (c : Fin 8) (l area : Nat) : List Nat × State :=
  if !(sectorOk area l) then ([0, 2], s)
  else if s.locked area l then ([0, 5], s)
  else if s.noPermit area l then ([0, 6], s)
  else if s.sectorBusy area l then ([0, 1], s)
  else s.flashJob { ticket := 0, core := c, op := 1, area := area, sector := l }

/-- FL_RELOCATE (R476, R477): the skip range is given by its window address. -/
def State.flRelocate (s : State) (c : Fin 8) (l area skip len : Nat) : List Nat × State :=
  let base := sectorBase area l
  if !(sectorOk area l) || (len ≠ 0 && (skip < base || base + sectorLen area < skip + len)) then ([0, 2], s)
  else if skip % 16 ≠ 0 && len ≠ 0 || len % 16 ≠ 0 then ([0, 3], s)
  else if s.locked area l then ([0, 5], s)
  else if len ≠ 0 && s.noPermit area l then ([0, 6], s)
  else if s.sectorBusy area l then ([0, 1], s)
  else s.flashJob { ticket := 0, core := c, op := 2, area := area, sector := l, len := len, skip := skip }

/-- The counter word at a takes value v, in the journal until it is verified (R473, R482). -/
def State.putWord (s : State) (a v : Nat) : State :=
  ((s.modFlash (fun x => { x with word := some ⟨a, s.rn a 4, v, s.now⟩ })).wn a 4 v).unitsNew a (a + 4)

/-- FL_CTRWORD (R473): a word that only clears bits. -/
def State.flCtrword (s : State) (v a : Nat) : Nat × State :=
  let area := areaOf a
  let l := sectorOf a
  if !(inFlash a 4) then (2, s)
  else if a % 4 ≠ 0 then (3, s)
  else if !(wordMode area l) then (7, s)
  else if s.sectorBusy area l then (1, s)
  else
    let old := s.rn a 4
    if natAnd v (0xFFFFFFFF - old) ≠ 0 then (4, s)
    else if v = old then (0, s)
    else (0, (s.putWord a v).inc Obj.FLS_RECORDS)

/-- FL_BLANK (R468). -/
def State.flBlank (s : State) (a len : Nat) : List Nat :=
  let n := if wordMode (areaOf a) (sectorOf a) then 4 else 16
  if len = 0 then [0, 0]
  else if !(inFlash a len) || sectorOf (a + len - 1) ≠ sectorOf a || areaOf (a + len - 1) ≠ areaOf a then [0, 2]
  else if a % n ≠ 0 || len % n ≠ 0 then [0, 3]
  else [s.firstNotBlank a n (len / n) 0, 0]

/-- Bytes of the unit at address a. -/
def unitLen (a : Nat) : Nat := if wordMode (areaOf a) (sectorOf a) then 4 else 16

/-- Read the lines or words of a range: the first lost line and the highest count met. -/
def State.readLines (s : State) (a e cb : Nat) : Nat → List Nat → Option Nat × Nat × State
  | 0, _ => (none, cb, s)
  | k + 1, cbs =>
    if e ≤ a then (none, cb, s)
    else
      let u := readUnit a
      let n := cbs.headD (s.metAt u)
      match s.flashRead a n with
      | (true, s) => (some u, cb, s)
      | (false, s) => State.readLines s (u + unitLen a) e (max cb n) k cbs.tail

/-- FL_READCHK (R468). -/
def State.flReadchk (s : State) (src dst len : Nat) (cbs : List Nat) : List Nat × State :=
  if len = 0 then ([0, 0], s)
  else if !(inFlash src len) || 4096 < len || sectorOf (src + len - 1) ≠ sectorOf src || areaOf (src + len - 1) ≠ areaOf src
      || !((inSram dst len) || (inDram dst && inRegion dst len && !(s.noDram (dst + len - 1)))) then ([0, 2], s)
  else if src % 4 ≠ 0 then ([0, 3], s)
  else
    let (lost, cb, s) := s.readLines src (src + len) 0 (len / 4 + 2) cbs
    let n := match lost with | none => len | some a => a - src
    let s := if s.powered dst then ((s.dramEdges dst n).wbs dst (s.rbs src n)).dramHeal dst n else s
    ([cb, if lost.isSome then 8 else 0], s)

/-- FL_SECTOR (R468). -/
def State.flSector (s : State) (l area : Nat) : List Nat :=
  if !(sectorOk area l) then [0, 0, 0, 2]
  else
    let x := s.flash.banks[bankOf area l]
    let p := s.physOf area l
    [p, x.wearOf p,
     b2n (x.warnCb.contains p) + 2 * b2n (x.warnPulse.contains p) + 4 * b2n (wordMode area l) +
       8 * b2n (s.flash.intents.any (fun i => i.area == area && i.sector == l)), 0]

/-! ## The pool (R474, R480) -/

/-- The background erase of the oldest dirty sector of bank b ends. -/
def State.dirtyDone (s : State) (b : Fin 5) : State :=
  match s.flash.banks[b].dirty with
  | [] => s
  | p :: r =>
    (s.wearOne b p).modBank b (fun x => { x with dirty := r, clean := x.clean ++ [p], erasing := false, suspended := false })

/-- Take the oldest clean sector of bank b, waiting for the oldest dirty one when none is clean; none when the pool is
empty. -/
def State.takeClean (s : State) (b : Fin 5) : Option Nat × State :=
  let s := if s.flash.banks[b].clean.isEmpty then s.dirtyDone b else s
  match s.flash.banks[b].clean with
  | [] => (none, s)
  | p :: r => (some p, s.modBank b (fun x => { x with clean := r }))

/-- A logical sector moves to physical sector p; the old one goes to `old`. -/
def State.remap (s : State) (area l p : Nat) (old : BankSt → Nat → BankSt) : State :=
  let b := bankOf area l
  let was := s.physOf area l
  let s := s.modBank b (fun x => old { x with used := modAt x.used (placeOf area l) (fun _ => p) } was)
  s.inc Obj.FLS_RECORDS

/-! ## Jobs (R470, R472, R481) -/

/-- The job of ticket t when it is the oldest of its bank and the bank is not suspended. -/
def State.flashTurn (s : State) (t : Nat) : Option FlashJob :=
  match s.flash.jobs.find? (fun j => j.ticket == t) with
  | none => none
  | some j =>
    let b := bankOf j.area j.sector
    let first := (s.flash.jobs.find? (fun i => bankOf i.area i.sector == b)).map (·.ticket)
    if first = some t && !s.flash.banks[b].suspended && s.sysclk then some j else none

/-- Change the job of ticket t. -/
def State.modFj (s : State) (t : Nat) (f : FlashJob → FlashJob) : State :=
  s.modFlash (fun x => { x with jobs := x.jobs.map (fun j => if j.ticket = t then f j else j) })

/-- Open an intent (R482). -/
def State.openIntent (s : State) (i : Intent) : State :=
  (s.modFlash (fun x => { x with intents := x.intents ++ [i] })).inc Obj.FLS_RECORDS

/-- Close the intents of ticket t. -/
def State.closeIntent (s : State) (t : Nat) : State :=
  s.modFlash (fun x => { x with intents := x.intents.filter (fun i => i.ticket != t || i.old) })

/-- A job ends (R383, R467, R481). -/
def State.flashEnd (s : State) (j : FlashJob) (st cause done flags : Nat) : State :=
  let s := s.recordEnd (ledAddr j.ticket) st cause done flags
  let s := s.modFlash (fun x => { x with jobs := x.jobs.filter (fun i => i.ticket != j.ticket) })
  (s.toCore j.core ⟨3, 0, j.ticket⟩).flashShow

/-- A job fails with a code of R469. -/
def State.flashFail (s : State) (t code addr : Nat) : State :=
  ((s.setO Obj.FLS_LAST_FAIL t).setO Obj.FLS_LAST_FAIL_CODE code).setO Obj.FLS_LAST_FAIL_ADDR addr

/-- End of the page that holds offset o of a job's range: a 512-byte-aligned block (R470). -/
def pageEnd (j : FlashJob) : Nat := min (j.addr + j.len) ((j.addr + j.done) / 512 * 512 + 512)

/-- Start a job or a page: RUNNING, and an intent for the page (R482). -/
def State.pageOpen (s : State) (j : FlashJob) : State :=
  let s := if j.running then s else (s.recordState (ledAddr j.ticket) 2).modFj j.ticket (fun j => { j with running := true })
  if s.flash.intents.any (fun i => i.ticket == j.ticket && !i.old) then s
  else
    let a := j.addr + j.done
    s.openIntent ⟨0, j.area, j.sector, a, pageEnd j - a, j.ticket, false⟩

/-- The copy of the units from a to e: each is read, and an uncorrectable line is copied in its raw bits and names the copy's
failure (R463, R477). -/
def State.copyUnits (s : State) (t a e : Nat) : State :=
  let inside := fun u => decide (a ≤ u) && decide (u < e)
  let s := (s.flash.met.filter (fun m => inside m.1)).foldl (fun (s : State) m => (s.readNoted m.1).2) s
  (s.flash.ue.filter inside).foldl (fun (s : State) u => ((s.readNoted u).2).flashFail t 0x21 u) s

/-- The copy of a sector but for the bytes from lo to hi; what it copies is programmed anew, without wrong bits but for the lines
that stay uncorrectable (R477). -/
def State.copySector (s : State) (t area l lo hi : Nat) : State :=
  let a := sectorBase area l
  let e := a + sectorLen area
  let s := (s.copyUnits t a lo).copyUnits t hi e
  s.modFlash (fun x => { x with met := x.met.filter (fun m => decide (m.1 < a) || decide (e ≤ m.1)) })

/-- A sector whose line failed is retired into a clean one (R480). -/
def State.retire (s : State) (area l : Nat) : Option State :=
  let b := bankOf area l
  match s.takeClean b with
  | (none, _) => none
  | (some p, s) =>
    let was := s.physOf area l
    let s := s.remap area l p (fun x o => { x with retired := o :: x.retired })
    let s := (s.inc (Obj.FLS_BKb_RETIRED b)).addO 16 Obj.FLS_RETIRED 1
    let s := s.raise 0x14A b was
    let left := s.flash.banks[b].clean.length + s.flash.banks[b].dirty.length
    some (if left = 1 then s.raise 0x14B b 0 else s)

/-- Program one line of a job: a line that did not verify after eight pulses retires its sector first; none when no spare
is left (R480, R485). -/
def State.programLine (s : State) (j : FlashJob) (a pulses : Nat) : Option State :=
  let data := s.seenBytes 8 (j.src + (a - j.addr)) 16
  let s := s.sawBytes 8 (j.src + (a - j.addr)) 16
  if 8 < pulses then
    match (s.copySector j.ticket j.area j.sector a (a + 16)).retire j.area j.sector with
    | none => none
    | some s => some ((s.wbs a data).unitsNew a (a + 16))
  else
    let s := (s.wbs a data).unitsNew a (a + 16)
    if s.o Obj.FLS_PULSE_WARN < pulses then
      let b := bankOf j.area j.sector
      let p := s.physOf j.area j.sector
      some ((s.modBank b (fun x => { x with warnPulse := p :: x.warnPulse.filter (fun e => e != p) })).flashWarn j.area j.sector)
    else some s

/-- Program the next lines of a page; answers the bytes done and whether no spare was left. -/
def State.programLines (s : State) (j : FlashJob) (stop : Nat) : Nat → List Nat → Nat × Bool × State
  | d, [] => (d, false, s)
  | d, p :: r =>
    if stop ≤ j.addr + d then (d, false, s)
    else
      match s.programLine j (j.addr + d) p with
      | none => (d, true, s)
      | some s => State.programLines s j stop (d + 16) r

/-- FLASH_PAGE_PROGRAM (R470, R480-R482): the next lines of the page; the page that completes closes its intent. -/
def execFlashPageProgram (t : Nat) (pulses : List Nat) (s : State) : Out :=
  match s.flashTurn t with
  | none => .next s
  | some j =>
    if j.op ≠ 0 then .next s
    else
      let stop := pageEnd j
      let s := (s.pageOpen j).flashShow
      let (d, spent, s) := s.programLines j stop j.done pulses
      let s := (s.modFj t (fun j => { j with done := d })).wn (ledAddr t + 12) 4 d
      if spent then
        let s := (s.scramble (j.addr + d) 16).flashFail t 0x20 (j.addr + d)
        .next (s.flashEnd j (if d = 0 then 5 else 4) 0x1C d 1)
      else
        let s := if stop ≤ j.addr + d then s.closeIntent t else s
        if d = j.len then .next (s.flashEnd j 3 0 d 0) else .next s.flashShow

/-- The physical sector of a logical one is erased in place, its bank having no spare (R475). -/
def State.eraseInPlace (s : State) (area l : Nat) : State :=
  let b := bankOf area l
  let s := (s.wearOne b (s.physOf area l)).inc Obj.FLS_RECORDS
  if s.flash.banks[b].emptyRaised then s
  else (s.modBank b (fun x => { x with emptyRaised := true })).raise 0x14C b 0

/-- A logical sector moves to a clean sector of its pool and the old one becomes dirty; with no spare it is erased in place (R474,
R475). Either way it reads as blank. -/
def State.eraseSector (s : State) (area l : Nat) : State :=
  let s := match s.takeClean (bankOf area l) with
    | (some p, s) => s.remap area l p (fun x o => { x with dirty := x.dirty ++ [o] })
    | (none, s) => s.eraseInPlace area l
  s.blankSector area l

/-- An ERASE writes its mapping record, or erases in place when the pool is empty (R474, R475). -/
def State.eraseRecord (s : State) (j : FlashJob) : State :=
  ((s.eraseSector j.area j.sector).closeIntent j.ticket).flashEnd j 3 0 1 0

/-- The skip range of a relocation reads as blank. -/
def State.blankSkip (s : State) (j : FlashJob) : State :=
  let e := j.skip + j.len
  { s with mem := s.mem.filter (fun c => !(decide (j.skip ≤ c.1) && decide (c.1 < e))) }.unitsNew j.skip e

/-- The permit of a counter sector clears at the mapping record (R357, R476). -/
def State.dropPermit (s : State) (j : FlashJob) : State :=
  if j.area = 1 && (j.sector = 14 || j.sector = 15) && !(j.op = 2 && j.len = 0) then
    { s with shell := { s.shell with permit := setBit s.shell.permit (j.sector - 14) false } }
  else s

/-- A RELOCATE copies its sector and writes its mapping record (R477); without a pool sector it writes none. -/
def State.relocateRecord (s : State) (j : FlashJob) : State :=
  match s.takeClean (bankOf j.area j.sector) with
  | (none, s) => ((s.closeIntent j.ticket).flashFail j.ticket 0x20 (sectorBase j.area j.sector)).flashEnd j 5 0x1C 0 0
  | (some p, s) =>
    let skip := if j.len = 0 then sectorBase j.area j.sector else j.skip
    let s := s.copySector j.ticket j.area j.sector skip (skip + j.len)
    let s := s.remap j.area j.sector p (fun x o => { x with dirty := x.dirty ++ [o] })
    (((s.blankSkip j).closeIntent j.ticket).flashEnd j 3 0 1 0).dropPermit j

/-- The copy of a job's sector will meet these wrong bits. -/
def State.meetAll (s : State) (j : FlashJob) (met : List (Nat × Nat)) : State :=
  (met.filter (fun m => inFlash m.1 1 && areaOf m.1 == j.area && sectorOf m.1 == j.sector)).foldl
    (fun (s : State) m => s.meetUnit m.1 m.2) s

/-- FLASH_MAPPING_RECORD (R474, R477, R482). -/
def execFlashMappingRecord (t : Nat) (q : SectorStep) (s : State) : Out :=
  match s.flashTurn t with
  | none => .next s
  | some j =>
    if j.op = 0 then .next s
    else
      let s := if j.running then s
        else
          let s := (s.recordState (ledAddr t) 2).modFj t (fun j => { j with running := true })
          s.openIntent ⟨j.op, j.area, j.sector, sectorBase j.area j.sector, sectorLen j.area, t, false⟩
      if !q.record then .next s.flashShow
      else .next (if j.op = 1 then (s.eraseRecord j).dropPermit j else (s.meetAll j q.met).relocateRecord j).flashShow

/-- BACKGROUND_ERASE (R474). -/
def execBackgroundErase (b : Fin 5) (s : State) : Out :=
  let x := s.flash.banks[b]
  if x.dirty.isEmpty || x.erasing || !s.sysclk then .next s
  else .next ((s.modBank b (fun x => { x with erasing := true })).inc Obj.FLS_RECORDS).flashShow

/-- BACKGROUND_ERASE_DONE (R474). -/
def execBackgroundEraseDone (b : Fin 5) (s : State) : Out :=
  if s.flash.banks[b].erasing && !s.flash.banks[b].suspended then .next (s.dirtyDone b).flashShow else .next s

/-- The bank programs or erases. -/
def State.bankBusy (s : State) (b : Fin 5) : Bool := bitOf (s.flashShow.o Obj.FLS_BUSY) b

/-- FLASH_READ_SUSPEND (R465): a resumed operation runs at least 50 µs, 1,920 µt, before it suspends again. -/
def execFlashReadSuspend (b : Fin 5) (s : State) : Out :=
  let x := s.flash.banks[b]
  if s.bankBusy b && !x.suspended && x.resumedAt ≤ s.now then
    .next ((s.modBank b (fun x => { x with suspended := true })).inc (Obj.FLS_BKb_SUSPENDS b))
  else .next s

/-- FLASH_RESUME (R465). -/
def execFlashResume (b : Fin 5) (s : State) : Out :=
  if s.flash.banks[b].suspended && s.sysclk then
    .next (s.modBank b (fun x => { x with suspended := false, resumedAt := s.now + 1920 }))
  else .next s

/-! ## Protection and the journal (R482, R486) -/

/-- A write of FLS_LOCK (R486). -/
def State.lockWrite (s : State) (v : Nat) (rom : Bool) : Option State :=
  if rom && !s.flash.lockWritten then
    some ((s.setO Obj.FLS_LOCK (v % 2 ^ 17)).modFlash (fun x => { x with lockWritten := true }))
  else none

/-- FLS_LOCK_WRITE (R486). -/
def execFlsLockWrite (who : Fin 8) (v : Nat) (rom : Bool) (s : State) : Out :=
  .next ((s.lockWrite v rom).getD (s.dropped (windowAddr Obj.FLS_LOCK) v who 3))

/-- An entry of R483. -/
def Intent.entry (i : Intent) : Bytes :=
  leBytes 1 i.op ++ leBytes 1 i.area ++ leBytes 1 i.sector ++ [0] ++ leBytes 4 i.addr ++ leBytes 4 i.len ++ leBytes 4 i.ticket

/-- Take the first old intent with this entry out. -/
def dropIntent (e : Bytes) : List Intent → List Intent
  | [] => []
  | i :: r => if i.old && i.entry == e then r else i :: dropIntent e r

/-- A write of FLS_INDET_ACK (R482): an entry of the list goes, and its intent is closed. -/
def State.indetAck (s : State) (v : Nat) : Option State :=
  let l := s.blob Obj.FLS_INDET_LIST
  if 16 * v + 16 ≤ l.length then
    let s := s.modFlash (fun x => { x with intents := dropIntent (sliceB l (16 * v) 16) x.intents })
    some ((s.setBlob Obj.FLS_INDET_LIST (l.take (16 * v) ++ l.drop (16 * v + 16))).setO Obj.FLS_INDET_N
      (s.o Obj.FLS_INDET_N - 1))
  else none

/-- FLS_INDET_ACK (R482). -/
def execFlsIndetAck (who : Fin 8) (v : Nat) (s : State) : Out :=
  .next ((s.indetAck v).getD (s.dropped (windowAddr Obj.FLS_INDET_ACK) v who 3))

/-- An erase in place of a sector runs: its bank has no spare left (R475). -/
def State.erasesInPlace (s : State) (area l : Nat) : Bool :=
  let x := s.flash.banks[bankOf area l]
  s.flash.jobs.any (fun j => j.running && j.op == 1 && j.area == area && j.sector == l) && x.clean.isEmpty && x.dirty.isEmpty

/-- What a reset leaves of a counter word: one whose call it cuts short, at the instant of the call, reads each bit as its old or its
new value, a free choice, and its journal entry stays open (R473, R482, log 226). -/
def State.wordCut (s : State) : State :=
  match s.flash.word with
  | none => s
  | some w =>
    let s := s.modFlash (fun x => { x with word := none })
    if w.at_ < s.now then s
    else
      let m := Config.freeNat s.draws % 2 ^ 32
      let v := natOr (natAnd w.new (0xFFFFFFFF - m)) (natAnd w.old m)
      (s.drawn.wn w.addr 4 v).modFlash (fun x => {
        x with intents := x.intents ++ [⟨3, areaOf w.addr, sectorOf w.addr, w.addr, 4, 0, false⟩] })

/-- What a reset leaves of the flash jobs: the line that was being programmed, and the sector of an erase in place, hold
undefined bytes; the bank operations are gone (R473, R481, R484). -/
def State.flashCut (s : State) : State :=
  let s := s.wordCut
  let s := (s.flash.jobs.filter (fun j => j.running && j.op == 0 && s.flash.intents.any (fun i => i.ticket == j.ticket && !i.old))).foldl
    (fun (s : State) j => s.scramble (j.addr + j.done) 16) s
  let s := (s.flash.jobs.filter (fun j => j.running && j.op == 1 &&
      s.flash.banks[bankOf j.area j.sector].clean.isEmpty && s.flash.banks[bankOf j.area j.sector].dirty.isEmpty)).foldl
    (fun (s : State) j => s.scramble (sectorBase j.area j.sector) (sectorLen j.area)) s
  s.modFlash (fun x => {
    x with
    jobs := [], lockWritten := false
    banks := x.banks.map (fun b => { b with erasing := false, suspended := false, resumedAt := 0 }) })

/-- The ROM reads the open intents (R482): each is named once, at most 8 in the list. -/
def State.journalScan (s : State) : State :=
  let s := s.flash.intents.foldl (fun (s : State) i =>
    let l := s.blob Obj.FLS_INDET_LIST
    let s := if l.length < 128 then s.setBlob Obj.FLS_INDET_LIST (l ++ i.entry) else s
    let n := s.o Obj.FLS_INDET_N
    (s.setO Obj.FLS_INDET_N (min 255 (n + 1))).raise 0x14D 0 n) s
  (s.modFlash (fun x => { x with intents := x.intents.map (fun i => { i with old := true }) })).flashShow

end Sys2Proof.Machine
end

