-- ==== Sys2Proof/Machine/Route.lean ====
section
/-!
DEFINITION. Radio neighbours (10_fabric.md R271), the link-state database (R278-R280) and the computation of Trail routes
(R281) by the base firmware.
-/
namespace Sys2Proof.Machine

/-! ## Radio neighbours (R271) -/

/-- Address of entry i of the radio neighbour table. -/
def rnbAddr (i : Nat) : Nat := 0x20111000 + 16 * i

/-- Entry i is VALID. -/
def State.rnbValid (s : State) (i : Nat) : Bool := bitOf (s.rn (rnbAddr i) 2) 15

/-- The entry of fabric address a. -/
def State.rnbFind (s : State) (a : Nat) : Option Nat :=
  (List.range 16).find? (fun i => s.rnbValid i && s.rn (rnbAddr i) 2 % 4096 == a)

/-- The mean SNR of a neighbour in 0.25 dB units, rounded down or up by a free choice where the mean is not whole. -/
def State.nbSnr (s : State) (x : RadioNb) : Int :=
  let n : Int := x.snrs.length
  let t := x.snrs.foldl (· + ·) 0
  if n = 0 then 0
  else if t % n = 0 then t / n
  else t / n + (s.freeBelow 2 : Nat)

/-- COST of a radio link of a mean SNR in 0.25 dB units (R271). -/
def rnbCost (snr : Int) : Nat := 40 + 4 * (min 20 (max 0 (25 - snr / 4))).toNat

/-- Slices that heard a neighbour in the last 5 superframes. -/
def RadioNb.slices (x : RadioNb) : Nat := (x.masks.take 5).foldl natOr 0

/-- A neighbour qualifies for the table. -/
def State.nbQualifies (s : State) (x : RadioNb) (snr : Int) : Bool :=
  decide (3 ≤ popCount 5 x.heard) && decide (4 * s.oi 8 Obj.FAB_RADIO_SNR_MIN ≤ snr)

/-- Write a neighbour into entry i. -/
def State.rnbWrite (s : State) (i : Nat) (x : RadioNb) (snr : Int) : State :=
  s.wbs (rnbAddr i) (leBytes 2 (x.addr + 0x8000) ++ leBytes 1 x.slices ++ leBytes 1 x.heard ++ leBytes 2 (ofI 16 snr) ++
    leBytes 2 (rnbCost snr) ++ leBytes 8 (tt64 x.last))

/-- The base firmware pins a radio fabric neighbour, or lets one go (R220). -/
def State.pinNb (s : State) (a : Nat) (pin : Bool) : State :=
  match s.hotLookup (0xFFFFF000 + a) with
  | none => s
  | some h => ((if pin then s.hotPin h else s.hotUnpin h)).getD s

/-- The entry of the lowest SNR, the lowest index of equals. -/
def State.rnbLowest (s : State) : Nat :=
  let v := fun i => toI 16 (s.rn (rnbAddr i + 4) 2)
  (List.range 16).foldl (fun m i => if v i < v m then i else m) 0

/-- A neighbour's entry is brought up to date, or a qualifying neighbour enters the table. -/
def State.rnbPut (s : State) (x : RadioNb) : State :=
  let snr := s.nbSnr x
  let s := s.drawn
  match s.rnbFind x.addr with
  | some i => (s.rnbWrite i x snr).pinNb x.addr true
  | none =>
    if s.nbQualifies x snr then
      match (List.range 16).find? (fun i => !(s.rnbValid i)) with
      | some i => (s.rnbWrite i x snr).pinNb x.addr true
      | none =>
        let i := s.rnbLowest
        if toI 16 (s.rn (rnbAddr i + 4) 2) + 12 ≤ snr then
          ((s.pinNb (s.rn (rnbAddr i) 2 % 4096) false).rnbWrite i x snr).pinNb x.addr true
        else s
    else s

/-- The neighbour after a beacon of SNR snr on slice n that ended at t. -/
def RadioNb.hear (x : RadioNb) (n : Fin 4) (snr : Int) (t : Instant) (body : Bytes) : RadioNb :=
  { x with
    heard := setBit x.heard 0 true
    masks := match x.masks with
      | [] => [setBit 0 n true]
      | m :: r => setBit m n true :: r
    snrs := (snr :: x.snrs).take 8
    last := t
    advert := { x.advert with sync := fieldN body 8 1, hops := fieldN body 9 1, err := fieldN body 10 2 } }

/-- RADIO_NEIGHBOUR_UPDATE (R271). -/
def execRadioNeighbourUpdate (n : Fin 4) (i : Nat) (s : State) : Out :=
  match s.beaconAt n i with
  | none => .next s
  | some (a, t, body) =>
    let snr := toI 16 (fieldN (s.rxElemAt n i) 16 2)
    let x := ((s.fab.nbs.find? (fun y => y.addr == a)).getD { addr := a }).hear n snr t body
    let s := s.modFab (fun f => { f with nbs := x :: f.nbs.filter (fun y => y.addr != a) })
    .next (s.rnbPut x)

/-- A superframe boundary: neighbours silent for 5 superframes are lost, the others age by one (R271). -/
def State.nbBoundary (s : State) : State :=
  let lost := s.fab.nbs.filter (fun x => x.heard % 32 == 0)
  let s := lost.foldl (fun (s : State) (x : RadioNb) =>
    let s := match s.rnbFind x.addr with
      | some i => (s.wn (rnbAddr i) 2 x.addr).pinNb x.addr false
      | none => s
    if s.o Obj.FAB_PARENT_VIA = 2 && s.o Obj.FAB_PARENT = x.addr then s.timeMiss else s) s
  let s := s.modFab (fun f => { f with
    nbs := (f.nbs.filter (fun x => x.heard % 32 != 0)).map (fun x => { x with heard := 2 * x.heard % 256, masks := (0 :: x.masks).take 8 }) })
  s.fab.nbs.foldl (fun (s : State) (x : RadioNb) =>
    match s.rnbFind x.addr with
    | some i => (s.wn (rnbAddr i + 3) 1 x.heard).wn (rnbAddr i + 2) 1 x.slices
    | none => s) s

/-! ## LINKSTATE (R278, R279) -/

/-- The links this anchor lists: NEIGH and COST. -/
def State.ownLinks (s : State) : List (Nat × Nat) :=
  (fin2.filter (fun (p : Fin 2) => s.hasPeer p && s.o (Obj.FAB_Wp_PEER p) != 0)).map (fun (p : Fin 2) =>
    (s.o (Obj.FAB_Wp_PEER p) + 4096 * p.val, s.o (Obj.FAB_Wp_COST p))) ++
  ((List.range 16).filter (fun i => s.rnbValid i)).map (fun i => (s.rn (rnbAddr i) 2 % 4096 + 8192, s.rn (rnbAddr i + 6) 2))

/-- LFLAGS: a host session, FREE_RUN. -/
def State.lflags (s : State) : Nat :=
  b2n (fin8.any (fun (x : Fin 8) => s.o (Obj.COM_Ss_STATE x) == 2)) + 2 * b2n (s.o Obj.TMB_SYNC_STATE == 5)

/-- The LINKSTATE payload of this anchor (R278). -/
def State.lsaNow (s : State) : Bytes :=
  let l := s.ownLinks
  leBytes 8 (s.o Obj.ID_UID) ++ leBytes 8 (s.o Obj.FAB_HELD_SINCE) ++ leBytes 1 (s.o Obj.FAB_TIME_RANK) ++
    leBytes 1 s.lflags ++ leBytes 2 (s.o Obj.FAB_TREF) ++ leBytes 2 (s.o Obj.FAB_PARENT) ++ leBytes 1 l.length ++ [0] ++
    l.flatMap (fun x => leBytes 2 x.1 ++ leBytes 2 x.2)

/-- The links of a payload: NEIGH and COST. -/
def lsaLinks (b : Bytes) : List (Nat × Nat) :=
  (List.range (fieldN b 22 1)).map (fun i => (fieldN b (24 + 4 * i) 2, fieldN b (26 + 4 * i) 2))

/-- A change that R279 sends at once. -/
def lsaChanged (old new : Bytes) : Bool :=
  let a := lsaLinks old
  let b := lsaLinks new
  sliceB old 16 6 != sliceB new 16 6 || a.map (·.1) != b.map (·.1) ||
    (List.zip a b).any (fun x => decide (x.1.2 ≤ 4 * (max x.1.2 x.2.2 - min x.1.2 x.2.2)) && decide (x.1.2 ≠ x.2.2))

/-- Write record a (R280); without its clock or power the DRAM takes no write (R412). -/
def State.lsdbWrite (s : State) (a stamp : Nat) (b : Bytes) : State :=
  if s.powered (s.lsdbAddr a + 255) then
    (s.hwWrite (s.lsdbAddr a) (leBytes 4 stamp ++ leBytes 2 b.length ++ [1, 0] ++ b)).inc Obj.FAB_LSDB_GEN
  else s

/-- LSA_ORIGINATE (R279, R280). -/
def execLsaOriginate (s : State) : Out :=
  let b := s.lsaNow
  let go := match s.fab.lsaSf with
    | none => true
    | some t => decide (s.fab.lsaAt + 2 * superT ≤ s.run) && (decide (t + s.o Obj.FAB_LSA_PERIOD ≤ s.runSf) || lsaChanged s.fab.lsaBody b)
  if s.o Obj.FAB_ADDR_STATE = 3 && go then
    let st := stampOf s.now
    let s := s.firmFlood 5 0 15 b
    let s := s.lsdbWrite (s.o Obj.FAB_ADDR) st b
    .next (s.modFab (fun x => { x with lsaSf := some s.runSf, lsaAt := s.run, lsaBody := b }))
  else .next s

/-- The STAMP of a delivery element: that of its Husk entry. -/
def State.elemStamp (s : State) (e : Bytes) : Nat := s.rn (0x20140000 + 8 * fieldN e 8 2 + 4) 4

/-- LSDB_UPDATE (R275, R278, R280). -/
def execLsdbUpdate (i : Nat) (s : State) : Out :=
  let e := s.floodElem i
  let b := s.elemPayload e
  let a := fieldN e 2 2 % 4096
  let st := s.elemStamp e
  if fieldN e 1 1 ≠ 0 || b.length < 24 || b.length ≠ 24 + 4 * fieldN b 22 1 || 152 < b.length then .next s
  else
    let s := s.detectLsdb a (fieldN b 0 8) (fieldN b 8 8) 1
    if !(s.lsdbValid a) || 0 < stampDiff st (s.rn (s.lsdbAddr a) 4) then .next (s.lsdbWrite a st b) else .next s

/-- LSDB_RECORD_EXPIRE (R280). -/
def execLsdbRecordExpire (a : Nat) (s : State) : Out :=
  if s.lsdbValid a && decide ((2400 * s.o Obj.FAB_LSA_PERIOD : Nat) ≤ stampDiff (stampOf s.now) (s.rn (s.lsdbAddr a) 4)) then
    .next (s.lsdbDrop a)
  else .next s

/-! ## Routes (R281, R282) -/

/-- The payload of record a. -/
def State.lsdbBody (s : State) (a : Nat) : Bytes := s.rbs (s.lsdbAddr a + 8) (min 248 (s.rn (s.lsdbAddr a + 4) 2))

/-- The VALID records: address and the neighbours each lists, with their costs. -/
def State.graph (s : State) : List (Nat × List (Nat × Nat)) :=
  (((List.range 4095).drop 1).filter (fun a => s.lsdbValid a)).map (fun a =>
    (a, (lsaLinks (s.lsdbBody a)).map (fun x => (x.1 % 4096, x.2))))

/-- The cost at which a list names b. -/
def listed (l : List (Nat × Nat)) (b : Nat) : Option Nat :=
  (l.filter (fun x => x.1 == b)).foldl (fun (m : Option Nat) x => match m with | none => some x.2 | some c => some (min c x.2)) none

/-- The links of a that are used: neighbour and cost (R281). -/
def linksOf (g : List (Nat × List (Nat × Nat))) (a : Nat) : List (Nat × Nat) :=
  match g.find? (fun x => x.1 == a) with
  | none => []
  | some (_, l) =>
    ((l.map (·.1)).eraseDups).filterMap (fun b =>
      match g.find? (fun x => x.1 == b), listed l b with
      | some (_, m), some c => (listed m a).map (fun d => (b, max c d))
      | _, _ => none)

/-- A path to a node: its cost, hops and next hop. -/
structure Lab where
  node : Nat
  cost : Nat
  hops : Nat
  next : Nat
  deriving DecidableEq, Repr

/-- x comes before y: cost, then hops, then next-hop address (R281). -/
def Lab.before (x y : Lab) : Bool :=
  if x.cost ≠ y.cost then decide (x.cost < y.cost)
  else if x.hops ≠ y.hops then decide (x.hops < y.hops)
  else decide (x.next < y.next)

/-- The first of a frontier. -/
def firstLab (l : List Lab) : Option Lab :=
  l.foldl (fun (m : Option Lab) x => match m with | none => some x | some y => if x.before y then some x else some y) none

/-- Put a label into the frontier, keeping the first for its node. -/
def putLab (l : List Lab) (x : Lab) : List Lab :=
  match l.find? (fun y => y.node == x.node) with
  | none => x :: l
  | some y => if x.before y then x :: l.filter (fun z => z.node != x.node) else l

/-- Settle nodes in the order of R281. -/
def settleLabs (g : List (Nat × List (Nat × Nat))) (me : Nat) : Nat → List Lab → List Lab → List Lab
  | 0, _, done => done
  | f + 1, front, done =>
    match firstLab front with
    | none => done
    | some x =>
      let done := x :: done
      let front := front.filter (fun y => y.node != x.node)
      let front := (linksOf g x.node).foldl (fun l e =>
        if done.any (fun y => y.node == e.1) then l
        else putLab l ⟨e.1, x.cost + e.2, x.hops + 1, if x.node = me then e.1 else x.next⟩) front
      settleLabs g me f front done

/-- A value that its field of w bits may not hold: the spec states none then (free, log 40). -/
def fitOr (d w v : Nat) : Nat := if v < 2 ^ w then v else Config.freeNat d % 2 ^ w

/-- VIA and SLICES of the hop to a neighbour: the cheapest listed link, then the lowest VIA (log 40). -/
def State.hopVia (s : State) (b : Nat) : Nat × Nat :=
  let l := s.ownLinks.filter (fun x => x.1 % 4096 == b)
  let m := l.foldl (fun (m : Option (Nat × Nat)) x => match m with
    | none => some x
    | some y => if x.2 < y.2 then some x else some y) none
  match m with
  | none => (3, 0)
  | some (v, _) =>
    let via := v / 4096
    (via, if via = 2 then (match s.rnbFind b with | some i => s.rn (rnbAddr i + 2) 1 | none => 0) else 0)

/-- The Trail entry of a path (R282). -/
def State.trailEntry (s : State) (x : Lab) : Bytes :=
  let (via, sl) := s.hopVia x.next
  leBytes 2 (x.next + 4096 * via + (if via = 3 then 0 else 16384)) ++ leBytes 1 sl ++
    leBytes 1 (fitOr (s.draws + 2 * x.node) 8 x.hops) ++ leBytes 2 (fitOr (s.draws + 2 * x.node + 1) 16 x.cost) ++ [0, 0]

/-- The entries of a route run: every destination, those out of reach not VALID. -/
def State.spfPlan (s : State) : List (Nat × Bytes) :=
  let me := s.o Obj.FAB_ADDR
  let g := s.graph
  let labs := settleLabs g me (g.length + 1) [⟨me, 0, 0, 0⟩] []
  ((List.range 4095).drop 1).map (fun d =>
    (d, if d = me then List.replicate 8 0
      else match labs.find? (fun x => x.node == d) with
        | some x => s.trailEntry x
        | none => List.replicate 8 0))

/-- A tick's share of a run: FAB_SPF_BUDGET entries; the last share ends with the commit. -/
def State.spfShare (s : State) (l : List (Nat × Bytes)) : State :=
  let n := s.o Obj.FAB_SPF_BUDGET
  let copy := 1 - s.o Obj.FAB_TRAIL_CUR
  let s := (l.take n).foldl (fun (s : State) x => s.wbs (trailAddr copy x.1) x.2) s
  match l.drop n with
  | [] => (s.modFab (fun x => { x with spf := none, trailNext := some copy }))
  | r => s.modFab (fun x => { x with spf := some r })

/-- SPF_RUN (R281): one share a tick. -/
def execSpfRun (s : State) : Out :=
  let f := s.now / frameT
  if s.fab.spfTick = some f then .next s else
  let s := s.modFab (fun x => { x with spfTick := some f })
  match s.fab.spf with
  | some l => .next (s.spfShare l)
  | none =>
    let gen := s.o Obj.FAB_LSDB_GEN
    if s.fab.spfGen = gen then .next s
    else
      let l := s.spfPlan
      let s := { s with draws := s.draws + 8192 }.modFab (fun x => { x with spfGen := gen })
      .next (s.spfShare l)

end Sys2Proof.Machine
end

