-- ==== Sys2Proof/Machine/Timing.lean ====
section
/-!
DEFINITION. Fabric timing (10_fabric.md R290-R298): candidates and parents, the wired exchange, the radio measurement, steering,
holdover and first acquisition. θ is carried doubled, so that a half microtick stays exact.
-/
namespace Sys2Proof.Machine

/-! ## Steps and bounds -/

/-- TT64 may step: no slice has transmitted since reset and every slice runs fallback frames (R29, R298). -/
def State.mayStep (s : State) : Bool :=
  fin4.all (fun (n : Fin 4) => !(s.slices[n].heard) && s.o (Obj.SLCn_LC_STATE n) != 3)

/-- An instant to come that keeps its distance when the count steps from a to b (log 186). -/
def stepped (a b x : Nat) : Nat := b + x - a

/-- A doubled θ after the count has moved by d. -/
def thetaMoved (d : Int) (x : Option Int) : Option Int := x.map (fun t => t - 2 * d)

/-- The count steps to t: first acquisition, and the Husk cache is emptied (R252, R298). Waits keep the time they have run, through
State.run and State.runSf; what was measured of a neighbour is less by the step (R293, log 186). -/
def State.stepTime (s : State) (t : Instant) : State :=
  let a := s.now
  let d : Int := (t : Int) - a
  let s := { s with now := t, time := { s.time with
    tickMark := t / frameT + 1, slotMark := t / slotT + 1, shift := s.time.shift - d
    shiftSf := s.time.shiftSf - (((t / superT : Nat) : Int) - (a / superT : Nat)) } }
  let s := fin4.foldl (fun (s : State) (n : Fin 4) => s.modSlice n (fun x => { x with
    tick := frameStart t, readyAt := stepped a t x.readyAt, oldest := x.oldest.map (stepped a t)
    oldestNew := x.oldestNew.map (stepped a t), switchEnd := x.switchEnd.map (stepped a t) })) s
  let s := s.modAir (fun x => { x with supers := t / superT, epochs := t / epochT })
  (s.modFab (fun x => { x with
    acquired := true, lastGood := t, err0 := s.o Obj.FAB_ERR, spfTick := none
    wires := x.wires.map (fun w => { w with theta := thetaMoved d w.theta })
    nbs := x.nbs.map (fun y => { y with theta := thetaMoved d y.theta }) })).huskEmpty

/-! ## Slewing (R29, R296) -/

/-- Slots of the superframe altered before slot k of it, at a rate of r / 256 µt per superframe, spread evenly (log 200). -/
def slewsBefore (r : Nat) (k : Nat) : Nat := k * (r / 256) / 800

/-- REFCLK cycles of slot k of a superframe under r of R296: one fewer or one more in |r| of its 800 slots. -/
def slotLen (r : Int) (k : Nat) : Nat :=
  if slewsBefore r.natAbs (k + 1) = slewsBefore r.natAbs k then 48000 else if 0 < r then 47999 else 48001

/-- The slot that starts now takes its length in REFCLK cycles (R29, R296). -/
def State.slewSlot (s : State) : State :=
  { s with time := { s.time with
    refAt := s.time.refAt + s.time.slotCycles
    slotCycles := slotLen s.fab.steer (s.now / slotT % 800) } }

/-- The link term of R292 in µt. -/
def linkTerm (via : Nat) : Nat := if via = 2 then 154 else 39

/-- Half of a doubled value, rounded down or up by a free choice where it is not whole (log 41). -/
def halfOf (d : Nat) (x : Int) : Int := if x % 2 = 0 then x / 2 else x / 2 + (Config.freeNat d % 2 : Nat)

/-! ## Candidates (R292) -/

/-- A neighbour as a timing parent. -/
structure Cand where
  addr : Nat
  via : Nat
  adv : Advert
  theta : Option Int   -- its first measured θ, doubled
  deriving DecidableEq, Repr

/-- A doubled θ lies within FAB_MERGE_LIMIT, or the count may still step to it (R292, R298). -/
def State.nearOk (s : State) (x : Int) : Bool := (!s.fab.acquired && s.mayStep) || decide (x.natAbs ≤ 2 * s.o Obj.FAB_MERGE_LIMIT)

/-- The advert of a radio neighbour: its beacon fields with its LSDB record (R292); without a VALID record it ranks last. -/
def State.radioAdvert (s : State) (x : RadioNb) : Advert :=
  if !(s.lsdbValid x.addr) then { x.advert with parent := 0, tref := 0xFFF, trank := 255 }
  else
  let b := s.lsdbBody x.addr
  let r := fieldN b 18 2 % 4096
  let rank := if r = s.o Obj.FAB_ADDR then s.o Obj.FAB_TIME_RANK else if s.lsdbValid r then s.lsdbRank r else 255
  { x.advert with since := fieldN b 8 8, parent := fieldN b 20 2 % 4096, tref := r, trank := rank }

/-- The wired peers and radio neighbours, with their adverts. -/
def State.neighbours (s : State) : List Cand :=
  (fin2.filter (fun (p : Fin 2) => s.hasPeer p)).filterMap (fun (p : Fin 2) =>
    (s.fab.wires[p].advert).map (fun a => ⟨s.o (Obj.FAB_Wp_PEER p), p, a, s.fab.wires[p].theta⟩)) ++
  (s.fab.nbs.filter (fun x => (s.rnbFind x.addr).isSome)).map (fun x => ⟨x.addr, 2, s.radioAdvert x, x.theta⟩)

/-- The neighbours that could be parents: a wired peer of small SPREAD, a radio neighbour with a VALID LSDB record (R292). -/
def State.timeNbs (s : State) : List Cand :=
  s.neighbours.filter (fun c =>
    if c.via < 2 then decide (s.o (Obj.FAB_Wp_SPREAD c.via) ≤ s.o Obj.FAB_SPREAD_MAX) else s.lsdbValid c.addr)

/-- The advert allows the neighbour to be a parent. -/
def State.advertOk (s : State) (c : Cand) : Bool :=
  (c.adv.sync == 2 || c.adv.sync == 3) && decide (c.adv.hops < 15) && (c.adv.parent == 0 || c.adv.parent != s.o Obj.FAB_ADDR)

/-- The candidates of R292: their first θ is measured, and near. -/
def State.cands (s : State) : List Cand := s.timeNbs.filter (fun c => s.advertOk c && c.theta.any s.nearOk)

/-- Key 1 of x before key 1 of y. -/
def keyOne (xr xa yr ya : Nat) : Bool := decide (xr < yr) || (decide (xr = yr) && decide (xa < ya))

/-- Key 2 of a candidate. -/
def Cand.key2 (c : Cand) : Nat := c.adv.err + linkTerm c.via

/-- x comes before y by the keys of R292. -/
def Cand.before (x y : Cand) : Bool :=
  if x.adv.trank ≠ y.adv.trank then decide (x.adv.trank < y.adv.trank)
  else if x.adv.tref ≠ y.adv.tref then decide (x.adv.tref < y.adv.tref)
  else if x.key2 ≠ y.key2 then decide (x.key2 < y.key2)
  else if x.adv.hops ≠ y.adv.hops then decide (x.adv.hops < y.adv.hops)
  else if (x.via == 2) != (y.via == 2) then y.via == 2
  else decide (x.addr < y.addr)

/-- The first of a list. -/
def firstCand (l : List Cand) : Option Cand :=
  l.foldl (fun (m : Option Cand) x => match m with | none => some x | some y => if x.before y then some x else some y) none

/-- The parent as a neighbour, a candidate still or not. -/
def State.parentCand (s : State) : Option Cand :=
  s.neighbours.find? (fun c => c.via == s.o Obj.FAB_PARENT_VIA && c.addr == s.o Obj.FAB_PARENT)

/-! ## Taking a parent (R291, R292, R296) -/

/-- Enter a timing state. -/
def State.syncState (s : State) (st : Nat) : State := s.setO Obj.TMB_SYNC_STATE st

/-- No parent. -/
def State.noParent (s : State) : State := (s.setO Obj.FAB_PARENT 0).setO Obj.FAB_PARENT_VIA 0xFF

/-- ERR of R296 and h of R297 for a doubled θ. -/
def errOf (d : Nat) (c : Cand) (t2 : Int) (slew : Bool) : Nat :=
  let term : Int := linkTerm c.via
  let a : Int := t2.natAbs
  let past := if slew then a else max 0 (a - 2 * term)
  min 65535 ((c.key2 : Int) + halfOf d past).toNat

/-- Take a candidate as parent; leaving another parent counts a switch, and in HOLDOVER h is the candidate's (R297). -/
def State.takeParent (s : State) (c : Cand) : State :=
  let had := s.o Obj.FAB_PARENT_VIA ≠ 0xFF
  let s := (s.setO Obj.FAB_PARENT c.addr).setO Obj.FAB_PARENT_VIA c.via
  let s := ((s.setO Obj.FAB_TREF c.adv.tref).setO Obj.FAB_HOPS (c.adv.hops + 1)).setO Obj.FAB_MISSES 0
  let s := s.modFab (fun x => { x with goodRun := 0, switchTest := false })
  let s := if s.o Obj.TMB_SYNC_STATE = 4 then (s.setO Obj.FAB_ERR (errOf s.draws c (c.theta.getD 0) true)).drawn else s
  if had then (s.inc Obj.FAB_SWITCHES).raise 0x134 0 c.addr else s

/-- Slice temperatures. -/
def State.temps (s : State) : List Int := fin4.map (fun (n : Fin 4) => s.oi 16 (Obj.SLCn_TEMP n))

/-- HOLDOVER is entered (R296, R297). -/
def State.enterHold (s : State) : State :=
  let s := (s.syncState 4).setO Obj.FAB_HOLD_SINCE (tt64 s.now)
  let s := s.modFab (fun x => { x with holdTemps := s.temps, holdMove := 0, holdSf := s.runSf, goodRun := 0, switchTest := false })
  s.raise 0x136 0 (s.o Obj.FAB_ERR)

/-- FAB_SPLITS and TIME_SPLIT, at most once per epoch (R293). -/
def State.timeSplit (s : State) (a : Nat) : State :=
  let e := s.now / epochT
  if s.fab.splitEpoch = some e then s
  else ((s.inc Obj.FAB_SPLITS).modFab (fun x => { x with splitEpoch := some e })).raise 0x135 0 a

/-- The state after a parent is chosen from another state; after REFERENCE it is not given (free, log 42). -/
def State.chosenState (s : State) : State :=
  let st := s.o Obj.TMB_SYNC_STATE
  if st = 0 || st = 5 then s.syncState 1
  else if st = 3 then s.drawn.syncState (nth [1, 2, 4] (s.freeBelow 3) 1)
  else s

/-- A neighbour that only its θ keeps from being taken (R293). -/
def State.splitCand (s : State) : Option Cand :=
  firstCand (s.timeNbs.filter (fun c => s.advertOk c && c.theta.any (fun t => !(s.nearOk t))))

/-- A better candidate than the parent in use (R292). -/
def State.betterThan (s : State) (p : Cand) (c : Cand) : Bool :=
  keyOne c.adv.trank c.adv.tref p.adv.trank p.adv.tref ||
  (c.adv.trank == p.adv.trank && c.adv.tref == p.adv.tref && c.before p && decide (c.key2 + s.o Obj.FAB_PARENT_HYST ≤ p.key2))

/-- PARENT_SWITCH (R292, R293); a FREE_RUN anchor that still has its parent enters ACQUIRING (R297). -/
def execParentSwitch (s : State) : Out :=
  let s := match s.splitCand with
    | some c => s.timeSplit c.addr
    | none => s
  match firstCand s.cands with
  | none => .next s
  | some c =>
    if s.o Obj.TMB_SYNC_STATE = 3 then
      if keyOne c.adv.trank c.adv.tref (s.o Obj.FAB_TIME_RANK) (s.o Obj.FAB_ADDR) then .next (s.takeParent c).chosenState else .next s
    else if s.o Obj.FAB_PARENT_VIA = 0xFF then .next (s.takeParent c).chosenState
    else
      let s := if s.o Obj.TMB_SYNC_STATE = 5 then s.syncState 1 else s
      match s.parentCand with
      | some p => if (c.via != p.via || c.addr != p.addr) && s.betterThan p c then .next (s.takeParent c) else .next s
      | none => .next s

/-- Some anchor with a VALID record and a VALID Trail entry ranks before this one (R291). -/
def State.outranked (s : State) : Bool :=
  let me := s.o Obj.FAB_ADDR
  let r := s.o Obj.FAB_TIME_RANK
  ((List.range 4095).drop 1).any (fun a => a != me && s.lsdbValid a && decide (s.lsdbRank a < 255) &&
    bitOf (s.rn (trailAddr (s.o Obj.FAB_TRAIL_CUR) a) 2) 14 && keyOne (s.lsdbRank a) a r me)

/-- REFERENCE_TAKE (R291). -/
def execReferenceTake (s : State) : Out :=
  let st := s.o Obj.TMB_SYNC_STATE
  let due := (st = 0 && s.holdsAddr) || ((st = 4 || st = 5) && decide (s.fab.holdSf + s.o Obj.FAB_ROOT_WAIT ≤ s.runSf))
  if s.o Obj.FAB_TIME_RANK < 255 && due && s.cands.isEmpty && !s.outranked then
    let s := (s.noParent.syncState 3).setO Obj.FAB_ERR 0
    .next ((s.setO Obj.FAB_HOPS 0).setO Obj.FAB_TREF (s.o Obj.FAB_ADDR))
  else .next s

/-! ## Measurements (R293, R295, R296, R298) -/

/-- Steer by a doubled θ: f and r of R296 in 1/256 µt per superframe. -/
def State.steerBy (s : State) (t2 : Int) : State :=
  let f := s.oi 32 Obj.FAB_FREQ + 4 * t2
  (s.setI 32 Obj.FAB_FREQ f).modFab (fun x => { x with steer := clampI (-204800) 204800 (f + 16 * t2) })

/-- A measurement from the parent, in use as c, moves its state (R296, R297). -/
def State.timeJudge (s : State) (c : Cand) (t2 : Int) : State :=
  let within := decide (t2.natAbs ≤ 2 * linkTerm c.via)
  let test := s.fab.switchTest
  let s := s.modFab (fun x => { x with goodRun := if within then x.goodRun + 1 else 0, switchTest := false })
  let st := s.o Obj.TMB_SYNC_STATE
  let s := if st = 2 && test && !within then s.enterHold
    else if (st = 1 || st = 4) && 3 ≤ s.fab.goodRun then s.syncState 2
    else s
  let s := if s.o Obj.TMB_SYNC_STATE = 2 then s.setO Obj.FAB_ERR (errOf s.draws c t2 false)
    else if s.o Obj.TMB_SYNC_STATE = 4 then s.setO Obj.FAB_ERR (errOf s.draws c t2 true)
    else s
  let s := s.drawn
  s.modFab (fun x => { x with err0 := s.o Obj.FAB_ERR, lastGood := s.now })

/-- A valid measurement of the parent c: a step at first acquisition, else steering (R296, R298). -/
def State.timeMeasure (s : State) (c : Cand) (t2 : Int) : State :=
  let th := halfOf s.draws t2
  let s := s.drawn.setI 32 Obj.FAB_THETA th
  let s := (if s.advertOk c then s.setO Obj.FAB_MISSES 0 else s).modFab (fun x => { x with measured := true })
  let s := (s.setO Obj.FAB_TREF c.adv.tref).setO Obj.FAB_HOPS (c.adv.hops + 1)
  if !s.fab.acquired && s.mayStep then s.stepTime ((s.now : Int) + th).toNat
  else ((s.modFab (fun x => { x with acquired := true })).steerBy t2).timeJudge c t2

/-! ## The wired exchange (R294) -/

/-- Port p has a peer whose advert makes it a candidate but for its θ, which no exchange has measured yet (R292, log 187). -/
def State.prospect (s : State) (p : Fin 2) : Bool :=
  s.timeNbs.any (fun c => c.via == p.val && c.theta.isNone && s.advertOk c)

/-- TIME_REQ_SEND (R294): to the parent, or to a peer whose first θ is to be measured (log 187). One that waits for the port takes
its t1 when it starts. -/
def execTimeReqSend (p : Fin 2) (s : State) : Out :=
  if s.hasPeer p && (s.o Obj.FAB_PARENT_VIA = p || s.prospect p) then
    let q := (s.fab.wires[p].tseq + 1) % 256
    let held := s.portWaits p
    match s.wireSend p ([2] ++ leBytes 1 q ++ [0, 0]) false with
    | none => .next s
    | some s => .next (s.modWire p (fun w => { w with tseq := q, t1 := if held then none else some s.now, reqHeld := held }))
  else .next s

/-- TIME_REQ_RX (R294). -/
def execTimeReqRx (p : Fin 2) (s : State) : Out :=
  match s.takeMsg (fun m => m.kind == 2 && m.src == 4 + p.val) with
  | (none, s) => .next s
  | (some m, s) =>
    let s := s.dropMsg m
    if m.msg.length = 4 then .next (s.modWire p (fun w => { w with rsp := some (fieldN m.msg 1 1, m.at_) })) else .next s

/-- The frames that waited for the TIME_RSP of port p start, a TIME_REQ among them with its t1. -/
def State.portFree (s : State) (p : Fin 2) : State :=
  (s.portFlush p).modWire p (fun w => if w.reqHeld then { w with t1 := some s.now, reqHeld := false } else w)

/-- TIME_RSP_SEND (R294): its delimiter falls exactly at T3; the frames that waited for it follow. -/
def execTimeRspSend (p : Fin 2) (s : State) : Out :=
  match s.fab.wires[p].rsp with
  | none => .next s
  | some (q, t2) =>
    let t3 := t2 + 76800
    let s := s.modWire p (fun w => { w with rsp := none })
    let s := s.upTo t3
    .next (((s.wireSend p ([3] ++ leBytes 1 q ++ [0, 0] ++ leBytes 8 (tt64 t2) ++ leBytes 8 (tt64 t3)) false).getD s).portFree p)

/-- DELAY and SPREAD of port p after a doubled delay (R294). -/
def State.putDelay (s : State) (p : Fin 2) (d2 : Int) : State :=
  let d := halfOf s.draws d2
  let s := s.drawn.setI 32 (Obj.FAB_Wp_DELAY p) d
  let s := s.modWire p (fun w => { w with delays := ((ofI 32 d) :: w.delays).take 8 })
  let l := s.fab.wires[p].delays
  s.setO (Obj.FAB_Wp_SPREAD p) (min 65535 (l.foldl max 0 - l.foldl min (nth l 0 0)))

/-- A valid TIME_RSP on port p: instants t1 to t4. -/
def State.timeRsp (s : State) (p : Fin 2) (t1 t2 t3 t4 : Int) : State :=
  let th := (t2 - t1) + (t3 - t4)
  let s := s.putDelay p ((t4 - t1) - (t3 - t2))
  let w := s.fab.wires[p]
  match w.advert with
  | none => s
  | some a =>
    let c : Cand := ⟨s.o (Obj.FAB_Wp_PEER p), p, a, w.theta⟩
    let s := s.modWire p (fun x => { x with theta := some (x.theta.getD th) })
    if s.o Obj.FAB_PARENT_VIA ≠ p then s else s.timeMeasure c th

/-- TIME_RSP_RX (R294, R296, R298). -/
def execTimeRspRx (p : Fin 2) (s : State) : Out :=
  match s.takeMsg (fun m => m.kind == 3 && m.src == 4 + p.val) with
  | (none, s) => .next s
  | (some m, s) =>
    let s := s.dropMsg m
    let b := m.msg
    match s.fab.wires[p].t1 with
    | none => .next s
    | some t1 =>
      if b.length = 20 && fieldN b 1 1 == s.fab.wires[p].tseq && m.uid == s.o (Obj.FAB_Wp_PEER_UID p) &&
          ttValid (fieldN b 4 8) && ttValid (fieldN b 12 8) && decide (m.at_ ≤ t1 + 384000) then
        let s := s.modWire p (fun w => { w with t1 := none })
        .next (s.timeRsp p t1 (linear (fieldN b 4 8)) (linear (fieldN b 12 8)) m.at_)
      else .next s

/-- TIME_EXCHANGE_MISS (R294, R296). -/
def execTimeExchangeMiss (p : Fin 2) (s : State) : Out :=
  match s.fab.wires[p].t1 with
  | none => .next s
  | some t1 =>
    let s := (s.upTo (t1 + 384000)).modWire p (fun w => { w with t1 := none })
    if s.o Obj.FAB_PARENT_VIA = p then .next s.timeMiss else .next s

/-! ## The radio measurement (R295) -/

/-- BEACON_TIME_MEASURE (R295, R296, R298): every neighbour's first θ is noted; the parent's steers. -/
def execBeaconTimeMeasure (n : Fin 4) (i : Nat) (s : State) : Out :=
  match s.beaconAt n i with
  | none => .next s
  | some (a, e, body) =>
    let len := fieldN (s.rxElemAt n i) 8 2
    let ts := fieldN body 0 8
    if !(ttValid ts) then .next s
    else
      let th : Int := 2 * ((linear ts : Int) - ((e : Int) - lofdmDur len 0 88))
      match s.fab.nbs.find? (fun x => x.addr == a) with
      | none => .next s
      | some x =>
        let s := s.modFab (fun f => { f with
          nbs := f.nbs.map (fun y => if y.addr = a then { y with theta := some (y.theta.getD th) } else y) })
        if s.o Obj.FAB_PARENT_VIA = 2 && s.o Obj.FAB_PARENT = a then
          .next (s.timeMeasure ⟨a, 2, s.radioAdvert x, x.theta⟩ th)
        else .next s

/-! ## Once per superframe (R296) -/

/-- The miss of the superframe (R296): a missed exchange or beacon, or an advert that no candidate would send. -/
def State.countMisses (s : State) : State :=
  if s.o Obj.FAB_PARENT_VIA = 0xFF || s.fab.missed then s
  else if !s.fab.measured then s.timeMiss
  else
    match s.parentCand with
    | none => s.timeMiss
    | some c => if (c.adv.sync = 2 || c.adv.sync = 3) && c.adv.hops < 15 then s else s.timeMiss

/-- The third consecutive miss (R296). -/
def State.thirdMiss (s : State) : State :=
  let p := s.o Obj.FAB_PARENT
  let v := s.o Obj.FAB_PARENT_VIA
  match firstCand (s.cands.filter (fun c => c.addr != p || c.via != v)) with
  | some c =>
    let s := s.takeParent c
    s.modFab (fun x => { x with switchTest := s.o Obj.TMB_SYNC_STATE = 2 })
  | none =>
    let s := s.noParent.setO Obj.FAB_MISSES 0
    if s.o Obj.TMB_SYNC_STATE = 4 then s else s.enterHold

/-- TIMING_SUPERFRAME_CHECK (R296). -/
def execTimingSuperframeCheck (s : State) : Out :=
  let s := s.countMisses
  let s := if 3 ≤ s.o Obj.FAB_MISSES && s.o Obj.FAB_PARENT_VIA ≠ 0xFF then s.thirdMiss else s
  .next (s.modFab (fun x => { x with measured := false, missed := false }))

/-! ## Holdover (R297) -/

/-- h of R297: u in 0.01 ppm, the temperature change in eighths of a °C. -/
def State.holdErr (s : State) : Nat :=
  let t := s.now - s.fab.lastGood
  let u8 := 8 * s.o Obj.FAB_HOLD_U + s.o Obj.FAB_HOLD_TC * s.fab.holdMove
  min 65535 (s.fab.err0 + ceilDiv (u8 * t) 800000000)

/-- The largest change of a running slice's temperature since FAB_HOLD_SINCE. -/
def State.holdMoved (s : State) : Nat :=
  (List.zip (List.zip fin4 s.temps) s.fab.holdTemps).foldl (fun m x =>
    if s.slices[x.1.1].gated then m else max m (x.1.2 - x.2).natAbs) s.fab.holdMove

/-- FREE_RUN is entered from HOLDOVER (R297); FAB_ROOT_WAIT goes on counting (R291). -/
def State.enterFreeRun (s : State) : State := (s.syncState 5).raise 0x137 0 (s.o Obj.FAB_ERR)

/-- A rank of 255 is given to the reference (R291): it is the reference no longer. The state it enters is not given (free,
log 42). -/
def State.rankLost (s : State) : State :=
  if s.o Obj.TMB_SYNC_STATE = 3 && s.o Obj.FAB_TIME_RANK = 255 then
    let st := s.freeBelow 3
    if st = 1 then s.drawn.enterHold else (s.drawn.syncState (if st = 0 then 0 else 5)).modFab (fun x => { x with holdSf := s.runSf })
  else s

/-- The slot's share of holdover (R297): with no parent in use, h is recomputed and steering keeps r = f. -/
def State.holdSlot (s : State) : State :=
  let st := s.o Obj.TMB_SYNC_STATE
  if st = 4 || st = 5 then
    let s := s.modFab (fun x => { x with holdMove := s.holdMoved })
    let s := if s.o Obj.FAB_PARENT_VIA = 0xFF then
        (s.setO Obj.FAB_ERR s.holdErr).modFab (fun x => { x with steer := clampI (-204800) 204800 (s.oi 32 Obj.FAB_FREQ) })
      else s
    if st = 4 && (1920 < s.o Obj.FAB_ERR || 5 * epochT < s.now - linear (s.o Obj.FAB_HOLD_SINCE)) then s.enterFreeRun else s
  else s

/-- A write of FAB_TIME_SET (R27, R298): none with its cause when refused. -/
def State.timeSet (s : State) (v : Nat) : Except Nat State :=
  if !(ttValid v) then .error 3
  else if s.mayStep && !s.fab.acquired then .ok (s.stepTime (linear v))
  else .error 6

/-- FAB_TIME_SET (R298). -/
def execFabTimeSet (who : Fin 8) (v : Nat) (s : State) : Out :=
  match s.timeSet v with
  | .ok s => .next s
  | .error c => .next (s.dropped (windowAddr Obj.FAB_TIME_SET) v who c)

end Sys2Proof.Machine
end

