-- ==== Sys2Proof/Machine/Services.lean ====
section
/-!
DEFINITION. The roster, Headcount, Lantern and Basket of the base firmware (11_services.md R303-R324, R329-R339). Hamper
stands in Hamper.lean, after the update supervisor that takes its pieces.
-/
namespace Sys2Proof.Machine

/-- Change the services. -/
def State.modSvc (s : State) (f : SvcSt → SvcSt) : State := { s with svc := f s.svc }

/-- Service b of SVC_ENABLE runs: 0 Headcount, 1 Lantern, 2 Hamper, 3 Basket. -/
def State.svcOn (s : State) (b : Nat) : Bool := bitOf (s.o Obj.SVC_ENABLE) b

/-- This anchor's address. -/
def State.me (s : State) : Nat := s.o Obj.FAB_ADDR

/-- A core's command that its handler refuses: dropped with its address kept (R315). -/
def State.refuse (s : State) (who : Fin 8) (k : Key) (v : Nat) : State := s.dropped (windowAddr k) v who 6

/-! ## Member sets and the service root (R303) -/

/-- The member set, ascending (R303). -/
def State.memberSet (s : State) : List Nat :=
  let g := s.graph
  let l := settleLabs g s.me (g.length + 1) [⟨s.me, 0, 0, 0⟩] []
  ((List.range 4095).drop 1).filter (fun a => l.any (fun x => x.node == a))

/-- LFLAGS[0] of a member. -/
def State.hasHost (s : State) (a : Nat) : Bool :=
  if a = s.me then bitOf s.lflags 0 else bitOf (s.rn (s.lsdbAddr a + 25) 1) 0

/-- The service root of a member set (R303). -/
def State.rootOf (s : State) (l : List Nat) : Nat :=
  match l.find? (fun a => s.hasHost a) with
  | some a => a
  | none => l.head?.getD 0

/-- This anchor is the service root (R303). -/
def State.isRoot (s : State) : Bool := s.holdsAddr && s.rootOf s.memberSet == s.me

/-- This anchor is the root of the roster in force. -/
def State.tallyRoot (s : State) : Bool := s.svc.cur.isSome && s.o Obj.SVC_ROOT == s.me

/-- DIGEST of a member set (R305). -/
def rosterDigest (l : List Nat) : Bytes := (Config.sha256 (l.flatMap (fun a => leBytes 2 a))).take 8

/-- The ROSTER payload (R305). -/
def Roster.body (r : Roster) : Bytes :=
  [1, 0] ++ leBytes 2 r.root ++ leBytes 4 r.gen ++ leBytes 8 r.eff ++ leBytes 2 r.count ++ [0, 0] ++ sliceB r.digest 0 8

/-- The roster of a payload. -/
def rosterOf (b : Bytes) : Roster := ⟨fieldN b 2 2, fieldN b 4 4, fieldN b 8 8, fieldN b 16 2, sliceB b 20 8⟩

/-- The member set of a roster is this anchor's own. -/
def Roster.fits (r : Roster) (l : List Nat) : Bool := r.count == l.length && r.digest == sliceB (rosterDigest l) 0 8

/-! ## Shards (R307) -/

/-- The shard of a tag (R307). -/
def shardOf (t : Nat) : Nat := t * 0x9E3779B1 % 2 ^ 32 / 2 ^ 20

/-- The weight of member a for shard h (R307). -/
def shardWeight (h a : Nat) : Nat :=
  let x := (h * 4096 + a) * 0x85EBCA6B % 2 ^ 32
  let x := x ^^^ (x / 2 ^ 13)
  let x := x * 0xC2B2AE35 % 2 ^ 32
  x ^^^ (x / 2 ^ 16)

/-- Owner and shadow of a shard among members in ascending order; 0 for none (R307). -/
def holdersOf (l : List Nat) (h : Nat) : Nat × Nat :=
  let best := fun (l : List Nat) => l.foldl (fun (m : Option (Nat × Nat)) a =>
    let w := shardWeight h a
    match m with
    | none => some (a, w)
    | some (_, v) => if v < w then some (a, w) else m) none
  let o := ((best l).map (·.1)).getD 0
  (o, ((best (l.filter (fun a => a != o))).map (·.1)).getD 0)

/-- Address of entry h of a copy of the shard table. -/
def shardAddr (copy h : Nat) : Nat := 0x20100000 + 0x4000 * copy + 4 * h

/-- Build a copy of the shard table (R307). -/
def State.buildShards (s : State) (copy : Nat) (l : List Nat) : State :=
  (List.range 4096).foldl (fun (s : State) h =>
    let (o, w) := holdersOf l h
    s.wn (shardAddr copy h) 4 (o + 65536 * w)) s

/-- Owner and shadow of shard h in a copy. -/
def State.holdersIn (s : State) (copy h : Nat) : Nat × Nat :=
  let v := s.rn (shardAddr copy h) 4
  (fld v 11 0, fld v 27 16)

/-- Owner and shadow of shard h in force. -/
def State.holders (s : State) (h : Nat) : Nat × Nat := s.holdersIn (s.o Obj.SVC_SHARD_CUR) h

/-- This anchor holds shard h. -/
def State.holds (s : State) (h : Nat) : Bool :=
  let (o, w) := s.holders h
  s.me != 0 && (o == s.me || w == s.me)

/-! ## The tally tree (R308) -/

/-- The members by position: the root, then the others ascending. -/
def tallyOrder (root : Nat) (l : List Nat) : List Nat := root :: l.filter (fun a => a != root)

/-- Position of a member. -/
def tallyPos (root : Nat) (l : List Nat) (a : Nat) : Nat := (tallyOrder root l).findIdx (fun b => b == a)

/-- Tally parent of a member; 0 at the root. -/
def tallyParent (root : Nat) (l : List Nat) (a : Nat) : Nat :=
  let i := tallyPos root l a
  if i = 0 then 0 else nth (tallyOrder root l) ((i - 1) / 8) 0

/-- Level of a position (R308). -/
def tallyLevel (i : Nat) : Nat := if i = 0 then 0 else if i ≤ 8 then 1 else if i ≤ 72 then 2 else if i ≤ 584 then 3 else 4

/-! ## The roster (R304-R306) -/

/-- Roster r replaces the pending p (R306): a higher GEN; at the same GEN a lower ROOT, or the same ROOT that published again
before EFFECTIVE (log 188). -/
def Roster.replaces (r p : Roster) : Bool :=
  decide (p.gen < r.gen) || (decide (p.gen = r.gen) && (decide (r.root < p.root) || (decide (r.root = p.root) && decide (p.eff < r.eff))))

/-- Take a ROSTER as pending (R306); the next shard table is built (R307). -/
def State.takeRoster (s : State) (r : Roster) : State :=
  let better := decide (s.o Obj.SVC_ROSTER_GEN < r.gen) && (match s.svc.pend with | none => true | some p => r.replaces p)
  if better then
    let s := (s.modSvc (fun x => { x with pend := some r })).setO Obj.SVC_ROSTER_STATE 2
    s.buildShards (1 - s.o Obj.SVC_SHARD_CUR) s.memberSet
  else s

/-- The root publishes a roster of its member set (R304). -/
def State.publishRoster (s : State) (l : List Nat) : State :=
  let eff := superStart s.now + superT * s.o Obj.SVC_ROSTER_LEAD
  let r : Roster := ⟨s.me, s.o Obj.SVC_ROSTER_GEN + 1, tt64 eff, l.length, sliceB (rosterDigest l) 0 8⟩
  let s := s.firmFlood 6 6 15 r.body
  (s.modSvc (fun x => { x with published := true, settle := 0, settleSet := [] })).takeRoster r

/-- The roster in force and the one published already name this member set. -/
def State.rosterKnown (s : State) (l : List Nat) : Bool :=
  (s.svc.cur.isSome && s.svc.members == l) || (match s.svc.pend with | some p => p.fits l && p.root == s.me | none => false)

/-- ROSTER_CHECK (R304). -/
def execRosterCheck (s : State) : Out :=
  if s.holdsAddr then
    let l := s.memberSet
    if s.rootOf l = s.me then
      let s := match s.svc.cur with
        | some r => if s.sf % 60 = 0 then s.firmFlood 6 6 15 r.body else s
        | none => s
      if !s.svc.published then .next (s.publishRoster l)
      else if s.rosterKnown l then .next (s.modSvc (fun x => { x with settle := 0, settleSet := [] }))
      else
        let n := if s.svc.settleSet = l then s.svc.settle + 1 else 1
        let s := s.modSvc (fun x => { x with settle := n, settleSet := l })
        if s.o Obj.SVC_ROSTER_SETTLE ≤ n then .next (s.publishRoster l) else .next s
    else .next (s.modSvc (fun x => { x with settle := 0, settleSet := [] }))
  else .next s

/-! ## Questions (R314-R316) -/

/-- Change question q. -/
def State.modQ (s : State) (q : Fin 16) (f : Quest → Quest) : State :=
  s.modSvc (fun x => { x with quests := vmod x.quests q f })

/-- STATE of question q. -/
def State.qState (s : State) (q : Nat) : Nat := s.o (Obj.SVC_Qq_STATE q)

/-- PENDING, OPEN or CLOSING. -/
def State.qActive (s : State) (q : Nat) : Bool := decide (1 ≤ s.qState q) && decide (s.qState q ≤ 3)

/-- The QUESTION payload of question q (R314). -/
def State.qBody (s : State) (q : Fin 16) (flags : Nat) : Bytes :=
  let x := s.svc.quests[q]
  leBytes 1 q ++ leBytes 1 x.nopt ++ leBytes 2 (s.o (Obj.SVC_Qq_ROUND q)) ++ leBytes 1 flags ++ [0, 0, 0] ++
    leBytes 8 x.openAt ++ leBytes 8 x.closeAt ++ leBytes 4 x.lo ++ leBytes 4 x.span

/-- Hold a question under a new round, PENDING; the bitmaps and counts of the old round go. -/
def State.qHold (s : State) (q : Fin 16) (round nopt openAt closeAt lo span st : Nat) : State :=
  let s := (s.setO (Obj.SVC_Qq_ROUND q) round).setO (Obj.SVC_Qq_STATE q) st
  let s := (s.modQ q (fun _ => { nopt := nopt, openAt := openAt, closeAt := closeAt, lo := lo, span := span })).modSvc (fun x => { x with
    waits := x.waits.filter (fun w => w.q != q.val) })
  (List.range 8).foldl (fun (s : State) i => s.setO (Obj.SVC_Qq_TOTAL q i) 0) s

/-- The root refuses OPEN (R315). -/
def State.openRefused (s : State) (q : Fin 16) : Bool :=
  let nopt := s.o (Obj.SVC_Qq_NOPT q)
  let a := s.o (Obj.SVC_Qq_OPEN_AT q)
  let c := s.o (Obj.SVC_Qq_CLOSE_AT q)
  let lo := s.o (Obj.SVC_Qq_TAG_LO q)
  let span := s.o (Obj.SVC_Qq_SPAN q)
  !s.isRoot || s.qActive q || nopt = 0 || 8 < nopt || linear a < s.now + superT || linear c ≤ linear a || span = 0 ||
    16777216 < span || lo = 0 || 0xFFFFF000 < lo + span

/-- OPEN of question q; none when refused. -/
def State.qOpen (s : State) (q : Fin 16) : Option State :=
  if !(s.svcOn 0) || s.openRefused q then none
  else
    let s := s.qHold q ((s.o (Obj.SVC_Qq_ROUND q) + 1) % 65536) (s.o (Obj.SVC_Qq_NOPT q)) (s.o (Obj.SVC_Qq_OPEN_AT q))
      (s.o (Obj.SVC_Qq_CLOSE_AT q)) (s.o (Obj.SVC_Qq_TAG_LO q)) (s.o (Obj.SVC_Qq_SPAN q)) 1
    some (s.firmFlood 6 2 15 (s.qBody q 0))

/-- CANCEL of question q; none when refused: no question of this root to cancel. -/
def State.qCancel (s : State) (q : Fin 16) : Option State :=
  if !(s.svcOn 0) || !s.isRoot || !(s.qActive q) then none
  else some ((s.firmFlood 6 2 15 (s.qBody q 1)).setO (Obj.SVC_Qq_STATE q) 5)

/-- A write of SVC_Qq_CMD; none when refused. -/
def State.qCmd (s : State) (q : Fin 16) (v : Nat) : Option State :=
  if v = 1 then s.qOpen q else if v = 2 then s.qCancel q else none

/-- Q_OPEN (R315). -/
def execQOpen (who : Fin 8) (q : Fin 16) (s : State) : Out := .next ((s.qOpen q).getD (s.refuse who (Obj.SVC_Qq_CMD q) 1))

/-- Q_CANCEL (R315). -/
def execQCancel (who : Fin 8) (q : Fin 16) (s : State) : Out := .next ((s.qCancel q).getD (s.refuse who (Obj.SVC_Qq_CMD q) 2))

/-- The root floods every question that is not over (R315). -/
def State.qReflood (s : State) : State :=
  fin16.foldl (fun (s : State) (q : Fin 16) => if s.qActive q then s.firmFlood 6 2 15 (s.qBody q 0) else s) s

/-- QUESTION_REFLOOD (R315). -/
def execQuestionReflood (s : State) : Out := if s.svcOn 0 && s.isRoot then .next s.qReflood else .next s

/-- QUESTION_RX (R316). -/
def execQuestionRx (i : Nat) (s : State) : Out :=
  let e := s.floodElem i
  let b := s.elemPayload e
  if fieldN e 1 1 ≠ 2 || b.length ≠ 32 || 15 < fieldN b 0 1 || !(s.svcOn 0) then .next s
  else
    let q := asFin 16 (fieldN b 0 1)
    let r := fieldN b 2 2
    let cancel := bitOf (fieldN b 4 1) 0
    if s.qState q = 0 || above r (s.o (Obj.SVC_Qq_ROUND q)) then
      .next (s.qHold q r (fieldN b 1 1) (fieldN b 8 8) (fieldN b 16 8) (fieldN b 24 4) (fieldN b 28 4) (if cancel then 5 else 1))
    else if r = s.o (Obj.SVC_Qq_ROUND q) && cancel then .next (s.setO (Obj.SVC_Qq_STATE q) 5)
    else .next s

/-- QUESTION_OPEN_AT (R316). -/
def execQuestionOpenAt (q : Fin 16) (s : State) : Out :=
  if s.qState q = 1 then .next ((s.upTo (linear s.svc.quests[q].openAt)).setO (Obj.SVC_Qq_STATE q) 2) else .next s

/-- QUESTION_CLOSE_AT (R316). -/
def execQuestionCloseAt (q : Fin 16) (s : State) : Out :=
  if s.qState q = 2 then .next ((s.upTo (linear s.svc.quests[q].closeAt)).setO (Obj.SVC_Qq_STATE q) 3) else .next s

/-- QUESTION_FINAL (R316): the first tick at or after CLOSE_AT + 2 superframes. -/
def execQuestionFinal (q : Fin 16) (s : State) : Out :=
  if s.qState q = 3 then
    .next ((s.upTo (boundaryAt frameT (linear s.svc.quests[q].closeAt + 2 * superT))).setO (Obj.SVC_Qq_STATE q) 4)
  else .next s

/-! ## Counting (R310-R313, R317, R318) -/

/-- A PRESS of a TAGFWD is valid here (R317). -/
def State.pressOk (s : State) (t : Bytes) : Bool :=
  let b := t.drop 24
  let q := fieldN b 0 1
  let x := s.svc.quests[asFin 16 q]
  let tag := fieldN t 0 4
  let e := linear (fieldN t 12 8)
  decide (q < 16) && (s.qState q == 2 || s.qState q == 3) && fieldN b 2 2 == s.o (Obj.SVC_Qq_ROUND q) &&
    decide (fieldN b 1 1 < x.nopt) && decide (x.lo ≤ tag) && decide (tag < x.lo + x.span) &&
    decide (linear x.openAt ≤ e) && decide (e < linear x.closeAt)

/-- Add 1 to a shard's count of a choice. -/
def addCount (l : List (Nat × List Nat)) (h c : Nat) : List (Nat × List Nat) :=
  match l with
  | [] => [(h, modAt (List.replicate 8 0) c (· + 1))]
  | x :: r => if x.1 = h then (h, modAt x.2 c (· + 1)) :: r else x :: addCount r h c

/-- Count one press (R318). -/
def State.countPress (s : State) (t : Bytes) : State :=
  let b := t.drop 24
  let q := asFin 16 (fieldN b 0 1)
  let x := s.svc.quests[q]
  if fieldN b 2 2 ≠ s.o (Obj.SVC_Qq_ROUND q) then s
  else
    let d := fieldN t 0 4 - x.lo
    if x.bits.contains d then s.inc Obj.SVC_HC_DUP
    else (s.modQ q (fun x => { x with
      bits := d :: x.bits
      counts := addCount x.counts (shardOf (fieldN t 0 4)) (fieldN b 1 1) })).inc Obj.SVC_HC_COUNTED

/-- The presses that came before the running frame are counted: those of the tick snapshot (R19 stage 4, R318). A press of the
running frame waits for its end. -/
def State.countDue (s : State) : State :=
  let l := s.svc.presses.filter (fun x => decide (x.1 < s.now / frameT))
  l.foldl (fun (s : State) x => s.countPress x.2)
    (s.modSvc (fun x => { x with presses := x.presses.filter (fun y => !(decide (y.1 < s.now / frameT))) }))

/-- PRESS_COUNT (R318). -/
def execPressCount (s : State) : Out := .next s.countDue

/-- Where a local message's payload stands: the base firmware's own buffer, beside the service tables (log 43). -/
def State.localBuf (s : State) : Nat := s.o Obj.SVC_DRAM_BASE + 0x7F00000 + 1024 * (s.o Obj.FAB_UQ_PROD % 256)

/-- The base firmware sends a UNICAST (R286), TTL 15 (log 43); its payload stands in its own buffer. -/
def State.send (s : State) (core : Fin 8) (final svc due : Nat) (payload : Bytes) : State :=
  let a := s.localBuf
  let s := if final = s.me then s.wbs a payload else s
  s.firmSend core 15 final svc due payload a

/-- Runs of consecutive APP elements, concatenated (R330). -/
def appRuns : List (Nat × Bytes) → Option Bytes → List Bytes
  | [], none => []
  | [], some b => [b]
  | x :: r, cur =>
    if x.1 = 1 then appRuns r (some ((cur.getD []) ++ x.2))
    else match cur with
      | none => appRuns r none
      | some b => b :: appRuns r none

/-- The second tick after the tick of END: copies of a frame are collected until then (R329, log 192). -/
def offerEnd (endAt : Instant) : Instant := (endAt / frameT + 2) * frameT

/-- A hearer's copy is noted at the owner, when it comes in time (R329). -/
def State.offer (s : State) (t : Bytes) (hearer : Nat) : State :=
  let tag := fieldN t 0 4
  let h := (s.svc.homes.find? (fun x => x.tag == tag)).getD { tag := tag }
  let x : Offer := ⟨fieldN t 8 4, hearer, toI 16 (fieldN t 20 2), linear (fieldN t 12 8)⟩
  if s.now ≤ offerEnd x.endAt then
    s.modSvc (fun y => { y with homes := { h with offers := h.offers ++ [x] } :: y.homes.filter (fun z => z.tag != tag) })
  else s

/-- A DATA TAGFWD at its owner: one BSK_UP for each run of APP elements (R330). -/
def State.basketUp (s : State) (t : Bytes) (hearer : Nat) : State :=
  let id := sliceB t 0 4 ++ sliceB t 5 1 ++ sliceB t 8 4
  let keep := s.svc.dedup.filter (fun x => decide (s.now < x.2 + s.o Obj.SVC_BSK_DEDUP * 38400000))
  if keep.any (fun x => x.1 == id) then s.modSvc (fun x => { x with dedup := keep })
  else
    let s := s.modSvc (fun x => { x with dedup := (id, s.now) :: keep })
    (appRuns (elements (t.length) (t.drop 24)).1 none).foldl (fun (s : State) b =>
      s.send 7 (s.o Obj.SVC_ROOT) 5 0 ([0, 0] ++ sliceB t 0 4 ++ sliceB t 8 4 ++ sliceB t 12 8 ++ leBytes 2 hearer ++
        sliceB t 20 2 ++ leBytes 2 b.length ++ [0, 0] ++ b)) s

/-- A PRESS reaches this holder: counted at the next tick, or invalid (R317, R318). -/
def State.takePress (s : State) (t : Bytes) : State :=
  if s.pressOk t then s.modSvc (fun x => { x with presses := x.presses ++ [(s.now / frameT, t)] }) else s.inc Obj.SVC_HC_INVALID

/-- A holder applies a TAGFWD. -/
def State.applyTag (s : State) (t : Bytes) (sender : Nat) : State :=
  match fieldN t 4 1 with
  | 2 =>
    let s := if s.svcOn 3 && (s.holders (shardOf (fieldN t 0 4))).1 == s.me then s.offer t sender else s
    if s.svcOn 0 then s.takePress t else s
  | 3 => if s.svcOn 3 then s.offer t sender else s
  | 1 => if s.svcOn 3 then (s.offer t sender).basketUp t sender else s
  | _ => s

/-- A shard WAITS here. -/
def State.waiting (s : State) (h : Nat) : Bool := s.svc.waits.any (fun w => w.shard == h)

/-- A holder holds every TAGFWD of a WAITING shard, and applies the others (R313). -/
def State.takeTag (s : State) (t : Bytes) (sender : Nat) : State :=
  let h := shardOf (fieldN t 0 4)
  if s.waiting h then
    (s.inc Obj.SVC_HC_HELD).modSvc (fun x => { x with
      waits := x.waits.map (fun w => if w.shard = h then { w with held := w.held ++ [(t, sender)] } else w) })
  else s.applyTag t sender

/-- A shard's waiting for questions qs is over: once it waits for none, what it held is applied in arrival order (R313). -/
def State.waitOver (s : State) (h : Nat) (qs : List (Fin 16)) : State :=
  let mine := s.svc.waits.filter (fun w => w.shard == h)
  let held := mine.foldl (fun (l : List (Bytes × Nat)) w => if l.length < w.held.length then w.held else l) []
  let s := s.modSvc (fun x => { x with waits := x.waits.filter (fun w => !(w.shard == h && qs.any (fun q => q.val == w.q))) })
  if mine.isEmpty || s.waiting h then s else held.foldl (fun (s : State) x => s.applyTag x.1 x.2) s

/-- Offsets of the tags of shard h counted under question q. -/
def State.shardBits (s : State) (q : Fin 16) (h : Nat) : List Nat :=
  s.svc.quests[q].bits.filter (fun d => shardOf (s.svc.quests[q].lo + d) == h)

/-- Shard h holds no count and no press of question q. -/
def State.emptyShard (s : State) (h : Nat) (q : Fin 16) : State :=
  let gone := s.shardBits q h
  s.modQ q (fun x => { x with
    counts := x.counts.filter (fun c => c.1 != h)
    bits := x.bits.filter (fun d => !(gone.contains d)) })

/-- A shard starts empty for the questions concerned (R313). -/
def State.startEmpty (s : State) (h : Nat) (qs : List (Fin 16)) : State :=
  let s := qs.foldl (fun (s : State) q => s.emptyShard h q) s
  ((s.inc Obj.SVC_SHARDS_LOST).modSvc (fun x => { x with empty := true })).waitOver h qs

/-- The counts of a shard that one HANDOVER carries, with up to 292 tag offsets. -/
def State.handoverBody (s : State) (q : Fin 16) (h part : Nat) (last : Bool) (offs : List Nat) : Bytes :=
  let c := ((s.svc.quests[q].counts.find? (fun x => x.1 == h)).map (·.2)).getD (List.replicate 8 0)
  leBytes 4 (s.o Obj.SVC_ROSTER_GEN) ++ leBytes 1 q ++ [0] ++ leBytes 2 (s.o (Obj.SVC_Qq_ROUND q)) ++ leBytes 2 h ++
    leBytes 1 part ++ leBytes 1 (b2n last) ++ c.flatMap (fun v => leBytes 4 v) ++ leBytes 2 offs.length ++ [0, 0] ++
    offs.flatMap (fun v => leBytes 3 v)

/-- The parts of a handover to one holder. -/
def State.handoverParts (s : State) (dest : Nat) (q : Fin 16) (h : Nat) : Nat → Nat → List Nat → State
  | 0, _, _ => s
  | f + 1, part, offs =>
    let rest := offs.drop 292
    let s := s.send 6 dest 3 0 (s.handoverBody q h part rest.isEmpty (offs.take 292))
    if rest.isEmpty then s else State.handoverParts s dest q h f (part + 1) rest

/-- Drop what this anchor holds of shard h. -/
def State.dropShard (s : State) (h : Nat) : State :=
  fin16.foldl (fun (s : State) (q : Fin 16) => s.emptyShard h q)
    (s.modSvc (fun x => { x with waits := x.waits.filter (fun w => w.shard != h) }))

/-- The change of holders of shard h at adoption (R313): from its old holders (none before the first roster) to those of the new
copy, among the new members. -/
def State.rehold (s : State) (was : Nat × Nat) (new h : Nat) (l : List Nat) : State :=
  let (oo, ow) := was
  let (no, nw) := s.holdersIn new h
  if oo = no && ow = nw then s
  else
    let me := s.me
    let giver := if l.contains oo then oo else if l.contains ow then ow else 0
    let fresh := [no, nw].filter (fun a => a != 0 && a != oo && a != ow)
    let qs := fin16.filter (fun (q : Fin 16) => s.qActive q)
    let s := if giver = me && me != 0 then
        fresh.foldl (fun (s : State) a => qs.foldl (fun (s : State) (q : Fin 16) =>
          s.handoverParts a q h 65536 0 (s.shardBits q h)) s) s
      else s
    if fresh.contains me then
      if giver = 0 then (if qs.isEmpty then s else s.startEmpty h qs)
      else qs.foldl (fun (s : State) (q : Fin 16) =>
        s.modSvc (fun x => { x with waits := x.waits ++ [⟨h, q, s.now / frameT, []⟩] })) s
    else if (oo = me || ow = me) && no != me && nw != me then s.dropShard h
    else s

/-- A new run of Basket begins at a new root (R330). While the random source stands in FAIL its identifier is refused (R360), and
the run waits for the first superframe at which it can be drawn (log 191). -/
def State.newRun (s : State) : State :=
  if s.o Obj.SHL_RNG_STATE = 1 then s.modSvc (fun x => { x with runDue := true })
  else
    let r := s.freeBelow (2 ^ 32)
    let s := (s.drawnReq.setO Obj.SVC_BSK_RUN r).setO Obj.SVC_BSK_NEXT 0
    (s.setO Obj.SVC_BSK_ACKED 0).modSvc (fun x => { x with records := [], recNext := 0, runDue := false })

/-- The run that could not begin begins (log 191). -/
def State.runBoundary (s : State) : State := if s.svc.runDue && s.tallyRoot then s.newRun else s

/-- A roster is adopted (R306-R308, R313, R315, R330). -/
def State.adoptRoster (s : State) (r : Roster) (l : List Nat) : State :=
  let old := s.o Obj.SVC_SHARD_CUR
  let new := 1 - old
  let was := s.o Obj.SVC_ROOT
  let first := s.svc.cur.isNone
  let s := s.buildShards new l
  let s := (s.setO Obj.SVC_SHARD_CUR new).setO Obj.SVC_ROSTER_STATE 1
  let s := ((s.setO Obj.SVC_ROSTER_GEN r.gen).setO Obj.SVC_ROSTER_N r.count).setO Obj.SVC_ROOT r.root
  let s := (s.setO Obj.SVC_LEVEL (tallyLevel (tallyPos r.root l s.me))).setO Obj.SVC_TALLY_PARENT (tallyParent r.root l s.me)
  let s := s.modSvc (fun x => { x with
    cur := some r, members := l, pend := none, adoptedSf := some s.sf
    children := x.children.filter (fun c => l.contains c.addr && c.addr != s.me && tallyParent r.root l c.addr == s.me) })
  let s := (List.range 4096).foldl (fun (s : State) h => s.rehold (if first then (0, 0) else s.holdersIn old h) new h l) s
  let s := if r.root = s.me && (first || was ≠ s.me) then s.newRun else s
  if r.root = s.me && s.svcOn 0 then s.qReflood else s

/-- ROSTER_ADOPT (R306): at EFFECTIVE or later, at the tick of this instant or the next one. -/
def execRosterAdopt (s : State) : Out :=
  match s.svc.pend with
  | none => .next s
  | some r =>
    if s.now < linear r.eff then .next s
    else
      let s := s.upTo (boundaryAt frameT s.now)
      let l := s.memberSet
      if r.fits l then .next (s.adoptRoster r l) else .next (s.setO Obj.SVC_ROSTER_STATE 3)

/-- Element i of the unicast ring. -/
def State.uniElem (s : State) (i : Nat) : Bytes := s.rbs (0x20110000 + 16 * (i % 256)) 16

/-- HANDOVER_RX (R313). -/
def execHandoverRx (i : Nat) (s : State) : Out :=
  let e := s.uniElem i
  let b := s.elemPayload e
  let q := asFin 16 (fieldN b 4 1)
  let h := fieldN b 8 2
  if fieldN e 1 1 ≠ 3 || b.length < 48 || !(s.svc.waits.any (fun w => w.shard == h && w.q == q.val)) ||
      fieldN b 6 2 ≠ s.o (Obj.SVC_Qq_ROUND q) then .next s
  else
    let counts := (List.range 8).map (fun c => fieldN b (12 + 4 * c) 4)
    let offs := (List.range (fieldN b 44 2)).map (fun j => fieldN b (48 + 3 * j) 3)
    let s := s.modQ q (fun x => { x with
      counts := (h, counts) :: x.counts.filter (fun c => c.1 != h)
      bits := offs.filter (fun d => !(x.bits.contains d)) ++ x.bits })
    if fieldN b 11 1 = 1 then .next (s.waitOver h [q]) else .next s

/-- The handover of shard h is not complete in time for question q. -/
def State.waitLate (s : State) (h q : Nat) : Bool :=
  s.svc.waits.any (fun w => w.shard == h && w.q == q && decide (w.since + s.o Obj.SVC_HANDOVER_WAIT ≤ s.now / frameT))

/-- HANDOVER_TIMEOUT (R313): the shard is lost once, for every question whose handover is late (log 202). -/
def execHandoverTimeout (shard q : Nat) (s : State) : Out :=
  if s.waitLate shard q then .next (s.startEmpty shard (fin16.filter (fun (x : Fin 16) => s.waitLate shard x))) else .next s

/-! ## Forwarding tag frames (R310-R312) -/

/-- The TAGFWD payload of a receive element and its PSDU (R310). -/
def tagfwd (e p : Bytes) (flags : Nat) : Bytes :=
  let b := fBody p
  sliceB p 0 4 ++ leBytes 1 (fType p) ++ sliceB e 54 1 ++ leBytes 1 flags ++ [0] ++ sliceB e 56 4 ++ sliceB e 0 8 ++
    sliceB e 14 2 ++ leBytes 2 b.length ++ b

/-- DUE of a TAGFWD: the end of the tick after the tick that holds END (R311). -/
def tagDue (endAt : Instant) : Nat := tt64 ((endAt / frameT + 2) * frameT)

/-- Send a TAGFWD to one holder, counting those of a PRESS. -/
def State.sendTag (s : State) (dest : Nat) (t : Bytes) : State :=
  if dest = 0 then s
  else
    let s := if fieldN t 4 1 = 2 then s.inc Obj.SVC_HC_FWD else s
    s.send 6 dest 1 (tagDue (linear (fieldN t 12 8))) t

/-- The holder that a REPORT or DATA frame goes to: the shadow when the owner has no VALID Trail entry (R311). -/
def State.dataTarget (s : State) (o w : Nat) : Nat :=
  if o = s.me || bitOf (s.rn (trailAddr (s.o Obj.FAB_TRAIL_CUR) o) 2) 14 then o else w

/-- TAGFWD_SEND (R311, R317). -/
def execTagfwdSend (n : Fin 4) (i : Nat) (s : State) : Out :=
  let e := s.rxElemAt n i
  let v := fieldN e 48 1
  if (v ≠ 0 && v ≠ 6) || bitOf (fieldN e 51 1) 0 then .next s
  else
    let p := s.rxPsdu n e
    let t := tagfwd e p 0
    let (o, w) := s.holders (shardOf (fieldN p 0 4))
    match fieldN e 50 1 with
    | 2 =>
      if !(s.svcOn 0) then .next s
      else if s.pressOk t then .next ((s.sendTag o t).sendTag w t)
      else .next (s.inc Obj.SVC_HC_INVALID)
    | 3 => if s.svcOn 3 && reportOk p then .next (s.sendTag (s.dataTarget o w) t) else .next s
    | 1 =>
      if !(s.svcOn 3) || !((frameElements p).1.any (fun x => x.1 == 1)) then .next s
      else if 902 < (fBody p).length then .next (s.inc Obj.SVC_BSK_TOOBIG)
      else .next (s.sendTag (s.dataTarget o w) t)
    | _ => .next s

/-- TAGFWD_RX (R312). -/
def execTagfwdRx (i : Nat) (s : State) : Out :=
  let e := s.uniElem i
  let t := s.elemPayload e
  if fieldN e 1 1 ≠ 1 || t.length < 24 then .next s
  else
    let h := shardOf (fieldN t 0 4)
    if s.holds h then .next (s.takeTag t (fieldN e 2 2 % 4096))
    else if bitOf (fieldN t 6 1) 0 then .next (s.inc Obj.SVC_MISROUTED)
    else
      let (o, w) := s.holders h
      let t' := t.take 6 ++ leBytes 1 (setBit (fieldN t 6 1) 0 true) ++ t.drop 7
      let due := tagDue (linear (fieldN t 12 8))
      let s := s.inc Obj.SVC_REDIRECT
      let pass := fun (s : State) (a : Nat) => if a = 0 then s else s.send 6 a 1 due t'
      if fieldN t 4 1 = 2 then .next (pass (pass s o) w) else .next (pass s (s.dataTarget o w))

/-! ## Roll-up and report (R319, R320) -/

/-- The children of this anchor under the roster in force. -/
def State.isChild (s : State) (a : Nat) : Bool :=
  match s.svc.cur with
  | none => false
  | some r => s.svc.members.contains a && a != s.me && tallyParent r.root s.svc.members a == s.me

/-- Sum two lists of eight totals. -/
def addTotals (a b : List Nat) : List Nat := (List.range 8).map (fun i => (nth a i 0 + nth b i 0) % 2 ^ 32)

/-- The subtree totals of question q (R319). -/
def State.totals (s : State) (q : Fin 16) : List Nat :=
  let own := (s.svc.quests[q].counts.filter (fun c => (s.holders c.1).1 == s.me)).foldl (fun a c => addTotals a c.2) (List.replicate 8 0)
  s.svc.children.foldl (fun a c =>
    match c.recs.find? (fun r => r.1 == q.val && r.2.2.1 == s.o (Obj.SVC_Qq_ROUND q)) with
    | some r => addTotals a r.2.2.2
    | none => a) own

/-- NODES of this anchor (R319). -/
def State.nodes (s : State) : Nat :=
  1 + sumL ((s.svc.children.filter (fun c => c.sf == s.sf)).map (fun c => c.nodes))

/-- One record of 36 bytes. -/
def State.totalRec (s : State) (q : Fin 16) : Bytes :=
  leBytes 1 q ++ leBytes 1 (s.qState q) ++ leBytes 2 (s.o (Obj.SVC_Qq_ROUND q)) ++ (s.totals q).flatMap (fun v => leBytes 4 v)

/-- The objects that hold the totals of question q. -/
def State.putTotals (s : State) (q : Fin 16) (l : List Nat) (nodes : Nat) : State :=
  let s := (List.range 8).foldl (fun (s : State) i => s.setO (Obj.SVC_Qq_TOTAL q i) (nth l i 0)) s
  s.setO (Obj.SVC_Qq_NODES q) nodes

/-- ROLLUP_SEND (R319). -/
def execRollupSend (s : State) : Out :=
  let p := s.o Obj.SVC_TALLY_PARENT
  if !(s.svcOn 0) || s.svc.cur.isNone || p = 0 then .next s
  else
    let qs := fin16.filter (fun (q : Fin 16) => s.qState q != 0)
    let recs := qs.flatMap (fun (q : Fin 16) => s.totalRec q)
    let sums := fin16.flatMap (fun (q : Fin 16) => s.totals q)
    let nodes := s.nodes
    let s := qs.foldl (fun (s : State) (q : Fin 16) => s.putTotals q (s.totals q) nodes) s
    if sums = s.svc.lastTotals && frameOf s.now ≠ 0 then .next s
    else
      let body := leBytes 4 (s.o Obj.SVC_ROSTER_GEN) ++ leBytes 8 (tt64 (frameStart s.now)) ++ leBytes 2 nodes ++
        leBytes 1 qs.length ++ [0] ++ recs
      .next ((s.modSvc (fun x => { x with lastTotals := sums })).send 6 p 2 0 body)

/-- ROLLUP_RX (R319): one late counts a ROLLUP miss at R36's own instant (log 193). -/
def execRollupRx (i : Nat) (s : State) : Out :=
  let e := s.uniElem i
  let b := s.elemPayload e
  let a := fieldN e 2 2 % 4096
  if fieldN e 1 1 ≠ 2 || b.length < 16 || !(s.svcOn 0) then .next s
  else if fieldN b 0 4 ≠ s.o Obj.SVC_ROSTER_GEN || !(s.isChild a) then .next (s.inc Obj.SVC_HC_ROLLUP_STALE)
  else
    let due := linear (fieldN b 4 8) + 384000
    let s := if due < s.now then s.miss 6 0x16 due else s
    let recs := (List.range (fieldN b 14 1)).map (fun j =>
      let o := 16 + 36 * j
      (fieldN b o 1, fieldN b (o + 1) 1, fieldN b (o + 2) 2, (List.range 8).map (fun c => fieldN b (o + 4 + 4 * c) 4)))
    let c : Child := ⟨a, fieldN b 12 2, recs, s.sf⟩
    .next (s.modSvc (fun x => { x with children := c :: x.children.filter (fun y => y.addr != a) }))

/-- Some session is OPEN. -/
def State.hostSession (s : State) : Bool := bitOf s.lflags 0

/-- The questions that the report of the superframe ending now shows (R320). -/
def State.reportQs (s : State) : List (Fin 16) :=
  fin16.filter (fun (q : Fin 16) =>
    s.qState q == 2 || s.qState q == 3 || ((s.qState q == 4 || s.qState q == 5) && !s.svc.quests[q].reported))

/-- The report of the superframe that ends at this boundary (R20, R320). -/
def State.formReport (s : State) : Report :=
  let qs := s.reportQs
  let nodes := 1 + sumL ((s.svc.children.filter (fun c => c.sf + 1 == s.sf)).map (fun c => c.nodes))
  let flags := b2n (s.svc.adoptedSf == some (s.sf - 1)) + 2 * b2n s.svc.empty
  { formed := superStart s.now, empty := s.svc.empty, nodes := nodes,
    totals := qs.map (fun (q : Fin 16) => (q, s.totals q)), ended := qs.filter (fun (q : Fin 16) => decide (4 ≤ s.qState q)),
    body := leBytes 8 (tt64 (superStart s.now - superT)) ++ leBytes 2 s.me ++ leBytes 4 (s.o Obj.SVC_ROSTER_GEN) ++ leBytes 2 nodes ++
      leBytes 2 (s.o Obj.SVC_ROSTER_N) ++ leBytes 1 qs.length ++ leBytes 1 flags ++ qs.flatMap (fun (q : Fin 16) => s.totalRec q) }

/-- A report is withheld: one REPORT miss, and what it would have marked stays to be marked (R19 stage 6, R320). -/
def State.reportMissed (s : State) (r : Report) : State :=
  (s.miss 7 0x16 (r.formed + frameT)).modSvc (fun x => { x with report := none, empty := x.empty || r.empty })

/-- At the end of frame 99 the root forms the report; one of the superframe before that was never sent is withheld (R20, R320). -/
def State.reportBoundary (s : State) : State :=
  let s := match s.svc.report with | some r => s.reportMissed r | none => s
  if s.svcOn 0 && s.tallyRoot then s.modSvc (fun x => { x with report := some s.formReport, empty := false }) else s

/-- The report goes to the host session. -/
def State.reportSend (s : State) (r : Report) : State :=
  let s := r.totals.foldl (fun (s : State) x => s.putTotals x.1 x.2 r.nodes) s
  let s := (s.raiseFw 0x800 0x16 0 r.body).inc Obj.SVC_HC_REPORTS
  let s := r.ended.foldl (fun (s : State) q => s.modQ q (fun y => { y with reported := true })) s
  s.modSvc (fun x => { x with report := none })

/-- HC_REPORT (R320): the report formed at the end of frame 99; with no session, or past frame 0, it is withheld. -/
def execHcReport (s : State) : Out :=
  match s.svc.report with
  | none => .next s
  | some r => if s.hostSession && decide (s.now < r.formed + frameT) then .next (s.reportSend r) else .next (s.reportMissed r)

/-! ## Lantern (R321-R323) -/

/-- FIRE_AT of a CUE payload. -/
def cueAt (b : Bytes) : Instant := linear (fieldN b 4 8)
/-- CUE_ID. -/
def cueId (b : Bytes) : Nat := fieldN b 0 2

/-- The pending cues change. -/
def State.setCues (s : State) (l : List Bytes) : State :=
  (s.modSvc (fun x => { x with cues := l })).setO Obj.SVC_LTN_PENDING l.length

/-- A cue is taken (R323). -/
def State.cueTake (s : State) (b : Bytes) : State :=
  let l := s.svc.cues
  if bitOf (fieldN b 2 1) 0 then s.setCues (l.filter (fun x => cueId x != cueId b))
  else if l.any (fun x => cueId x == cueId b) then s
  else if cueAt b < s.now + s.o Obj.SVC_LTN_MIN_LEAD then (s.miss 10 0x16 (cueAt b)).inc Obj.SVC_LTN_LATE
  else if 32 ≤ l.length then s.inc Obj.SVC_LTN_DROPPED
  else s.setCues (l ++ [b])

/-- The staged cue as it is sent: its reserved bits are 0 (R8, R321). -/
def State.stagedCue (s : State) : Bytes :=
  let b := s.blob Obj.SVC_LTN_STAGE
  sliceB b 0 2 ++ leBytes 1 (fieldN b 2 1 % 4) ++ sliceB (b.drop 3) 0 17 ++ leBytes 1 (fieldN b 20 1 % 32) ++ leBytes 3 0 ++ b.drop 24

/-- A write of 1 to SVC_LTN_CMD; none when refused (R322). -/
def State.ltnSend (s : State) : Option State :=
  let b := s.blob Obj.SVC_LTN_STAGE
  let cancel := bitOf (fieldN b 2 1) 0
  if !(s.svcOn 1) || !s.isRoot || b.length < 24 || 16 < fieldN b 3 1 || b.length ≠ 24 + fieldN b 3 1 ||
      cueAt b < s.now + 2 * s.o Obj.SVC_LTN_MIN_LEAD || fieldN b 16 4 < fieldN b 12 4 ||
      (32 ≤ s.svc.cues.length && !cancel) then none
  else some ((s.firmFlood 6 3 15 s.stagedCue).cueTake s.stagedCue)

/-- LTN_SEND (R322). -/
def execLtnSend (who : Fin 8) (s : State) : Out := .next (s.ltnSend.getD (s.refuse who Obj.SVC_LTN_CMD 1))

/-- CUE_RX (R321, R323). -/
def execCueRx (i : Nat) (s : State) : Out :=
  let e := s.floodElem i
  let b := s.elemPayload e
  if fieldN e 1 1 = 3 && 24 ≤ b.length && b.length = 24 + fieldN b 3 1 && fieldN b 3 1 ≤ 16 && s.svcOn 1 then .next (s.cueTake b)
  else .next s

/-- Set the output latch of a pin (R535). -/
def State.latch (s : State) (p : Nat) (v : Bool) : State := s.setO Obj.GIO_OUT (setBit (s.o Obj.GIO_OUT) p v)

/-- The first of some cues: earliest FIRE_AT, then lowest CUE_ID. -/
def firstCue (l : List Bytes) : Option Bytes :=
  l.foldl (fun (m : Option Bytes) x =>
    match m with
    | none => some x
    | some y => if cueAt x < cueAt y || (cueAt x = cueAt y && cueId x < cueId y) then some x else some y) none

/-- The cue that fires next. -/
def State.nextCue (s : State) : Option Bytes := firstCue s.svc.cues

/-- CUE_FIRE (R323). -/
def execCueFire (s : State) : Out :=
  match s.nextCue with
  | none => .next s
  | some b =>
    let late := decide (cueAt b < s.now)
    let s := (s.upTo (cueAt b)).setCues (s.svc.cues.filter (fun x => cueId x != cueId b))
    if !(bitOf (fieldN b 2 1) 1) then .next s
    else if late || !s.sysclk then .next (s.miss 10 0x16 (cueAt b))
    else
      let v := fieldN b 20 1
      let dir := s.o (Obj.GIO_p_CFG (v % 16)) % 4
      if dir = 1 || dir = 2 then .next ((s.latch (v % 16) (bitOf v 4)).inc Obj.SVC_LTN_FIRED) else .next s

/-! ## Basket (R329-R332) -/

/-- The home of a tag. -/
def State.homeOf (s : State) (tag : Nat) : Option Home := s.svc.homes.find? (fun h => h.tag == tag && h.home != 0)

/-- A HOME message. -/
def homeBody (tag on : Nat) : Bytes := leBytes 4 tag ++ leBytes 1 on

/-- HOME_DECIDE (R329). -/
def execHomeDecide (tag fcnt : Nat) (s : State) : Out :=
  match s.svc.homes.find? (fun h => h.tag == tag) with
  | none => .next s
  | some h =>
    let l := h.offers.filter (fun x => x.fcnt == fcnt)
    let best := l.foldl (fun (m : Option Offer) x => match m with
      | none => some x
      | some y => if y.rssi < x.rssi then some x else some y) none
    match best with
    | none => .next s
    | some b =>
      let s := s.upTo (l.foldl (fun m x => max m (offerEnd x.endAt)) 0)
      let old := h.home
      let heard := l.foldl (fun m x => max m x.endAt) h.heard
      let h' := { h with home := b.hearer, rssi := b.rssi, heard := heard, offers := h.offers.filter (fun x => x.fcnt != fcnt) }
      let s := s.modSvc (fun x => { x with homes := h' :: x.homes.filter (fun y => y.tag != tag) })
      if old = b.hearer then .next s
      else
        let s := s.send 7 b.hearer 4 0 (homeBody tag 1)
        if old = 0 then .next s else .next (s.send 7 old 4 0 (homeBody tag 0))

/-- HOME_RX (R309, R329). -/
def execHomeRx (i : Nat) (s : State) : Out :=
  let e := s.uniElem i
  let b := s.elemPayload e
  if fieldN e 1 1 = 4 && b.length = 5 && s.svcOn 3 then
    let t := fieldN b 0 4
    let l := s.svc.homesHere.filter (fun x => x != t)
    .next (s.modSvc (fun x => { x with homesHere := if fieldN b 4 1 = 1 then t :: l else l }))
  else .next s

/-- HOME_LAPSE (R329). -/
def execHomeLapse (tag : Nat) (s : State) : Out :=
  match s.homeOf tag with
  | none => .next s
  | some h =>
    let s := s.upTo (h.heard + epochT * s.o Obj.SVC_HOME_AGE)
    .next (s.modSvc (fun x => { x with homes := x.homes.map (fun y => if y.tag = tag then { y with home := 0 } else y) }))

/-- Queue a Basket record, with SEQ, RUN and ROOT before it (R330). -/
def State.putRecord (s : State) (c : Bytes) : State :=
  let n := s.o Obj.SVC_BSK_NEXT
  let r := leBytes 4 n ++ leBytes 4 (s.o Obj.SVC_BSK_RUN) ++ leBytes 2 s.me ++ c
  (s.modSvc (fun x => { x with records := x.records ++ [(n, r)] })).setO Obj.SVC_BSK_NEXT ((n + 1) % 2 ^ 32)

/-- Queue what a BSK_UP carries; a full queue drops it (R331). A DN_STATUS is never dropped, so the queue may stand above its
length (log 210). -/
def State.addRecord (s : State) (c : Bytes) : State :=
  if s.o Obj.SVC_BSK_QLEN ≤ (s.o Obj.SVC_BSK_NEXT + 2 ^ 32 - s.o Obj.SVC_BSK_ACKED) % 2 ^ 32 then
    let s := s.inc Obj.SVC_BSK_DROPPED
    if s.svc.fullSf = some s.sf then s
    else (s.modSvc (fun x => { x with fullSf := some s.sf })).raiseFw 0x803 0x17 0 []
  else s.putRecord c

/-- BSK_UP_RX (R330, R331). -/
def execBskUpRx (i : Nat) (s : State) : Out :=
  let e := s.uniElem i
  let b := s.elemPayload e
  if fieldN e 1 1 = 5 && 26 ≤ b.length && s.svcOn 3 && s.tallyRoot then .next (s.addRecord b) else .next s

/-- The next record to send lies inside the window (R331). -/
def State.recordDue (s : State) : Option Bytes :=
  let n := s.svc.recNext
  let a := s.o Obj.SVC_BSK_ACKED
  if (n + 2 ^ 32 - a) % 2 ^ 32 < s.o Obj.SVC_BSK_WINDOW then (s.svc.records.find? (fun x => x.1 == n)).map (·.2) else none

/-- Send a record to the host, when Basket runs at the root and some session is OPEN (R331). -/
def State.sendRecord (s : State) (r : Bytes) : State :=
  if s.svcOn 3 && s.tallyRoot && s.hostSession then
    (s.raiseFw 0x801 0x17 0 r).modSvc (fun x => { x with recNext := (x.recNext + 1) % 2 ^ 32 })
  else s

/-- BSK_RECORD_SEND (R331). -/
def execBskRecordSend (s : State) : Out := .next (s.recordDue.elim s (fun r => s.sendRecord r))

/-- A write of SVC_BSK_ACKED (R331); none when refused. -/
def State.bskAcked (s : State) (v : Nat) : Option State :=
  let a := s.o Obj.SVC_BSK_ACKED
  if consOk (2 ^ 32) a (s.o Obj.SVC_BSK_NEXT) v then
    let d := (v + 2 ^ 32 - a) % 2 ^ 32
    some ((s.setO Obj.SVC_BSK_ACKED v).modSvc (fun x => { x with
      records := x.records.filter (fun r => decide (d ≤ (r.1 + 2 ^ 32 - a) % 2 ^ 32))
      recNext := if (x.recNext + 2 ^ 32 - a) % 2 ^ 32 < d then v else x.recNext }))
  else none

/-- BSK_ACKED_WRITE (R331). -/
def execBskAckedWrite (who : Fin 8) (v : Nat) (s : State) : Out :=
  .next ((s.bskAcked v).getD (s.dropped (windowAddr Obj.SVC_BSK_ACKED) v who 3))

/-- At a new host session the root sends again from SVC_BSK_ACKED (R331). -/
def State.bskSession (s : State) : State := s.modSvc (fun x => { x with recNext := s.o Obj.SVC_BSK_ACKED })

/-- BSK_STATUS_SEND (R331). -/
def execBskStatusSend (s : State) : Out :=
  if !(s.svcOn 3) || !s.tallyRoot then .next s
  else if s.hostSession && frameOf s.now = 0 then
    .next (s.raiseFw 0x802 0x17 0 (leBytes 4 (s.o Obj.SVC_BSK_NEXT) ++ leBytes 4 (s.o Obj.SVC_BSK_ACKED) ++
      leBytes 4 (s.o Obj.SVC_BSK_DROPPED)))
  else .next (s.miss 7 0x17 (superStart s.now + frameT))

/-- The open requests change. -/
def State.setOpens (s : State) (l : List DnReq) : State :=
  (s.modSvc (fun x => { x with opens := l })).setO Obj.SVC_BSK_DN_OPEN l.length

/-- The request that bytes spell (R332). -/
def dnOf (b : Bytes) : DnReq := { req := fieldN b 0 4, tag := fieldN b 4 4, expire := fieldN b 8 8, data := sliceB b 20 (fieldN b 16 2) }

/-- The bytes of a request. -/
def DnReq.body (r : DnReq) : Bytes :=
  leBytes 4 r.req ++ leBytes 4 r.tag ++ leBytes 8 r.expire ++ leBytes 2 r.data.length ++ [0, 0] ++ r.data

/-- A write of 1 to SVC_BSK_DN_CMD; none when refused (R332). -/
def State.dnSend (s : State) : Option State :=
  let b := s.blob Obj.SVC_BSK_DN_STAGE
  let len := fieldN b 16 2
  if !(s.svcOn 3) || !s.isRoot || b.length < 20 || 200 < len || b.length < 20 + len || linear (fieldN b 8 8) ≤ s.now ||
      1024 ≤ s.svc.opens.length then none
  else
    let r := dnOf b
    let s := s.setOpens (s.svc.opens ++ [r])
    let o := (s.holders (shardOf r.tag)).1
    some (if o = 0 then s else s.send 7 o 6 0 r.body)

/-- BSK_DN_SEND (R332). -/
def execBskDnSend (who : Fin 8) (s : State) : Out := .next (s.dnSend.getD (s.refuse who Obj.SVC_BSK_DN_CMD 1))

/-- This anchor serves a request, once. -/
def State.serve (s : State) (r : DnReq) : State :=
  if s.svc.serves.any (fun x => x.req == r.req && x.tag == r.tag) then s
  else s.modSvc (fun x => { x with serves := x.serves ++ [r] })

/-- The tag has a hot entry heard within SVC_HOME_AGE: an anchor that took a PAGE serves it while that holds (R332). -/
def State.heardLately (s : State) (tag : Nat) : Bool :=
  match s.hotLookup tag with
  | none => false
  | some h => decide (s.now ≤ linear (s.rn (hotAddr h + 24) 8) + epochT * s.o Obj.SVC_HOME_AGE)

/-- A DN_STATUS record and the end of a request at the root (R332). -/
def State.dnOver (s : State) (r : DnReq) (home value : Nat) : State :=
  let s := s.setOpens (s.svc.opens.filter (fun x => x.req != r.req))
  s.putRecord ([1, 0] ++ leBytes 4 r.tag ++ leBytes 4 r.req ++ leBytes 8 (tt64 s.now) ++ leBytes 2 home ++ leBytes 2 value ++
    [0, 0, 0, 0])

/-- A BSK_DOWN at the owner or the home (R332). -/
def State.downTake (s : State) (r : DnReq) : State :=
  if s.svc.homesHere.contains r.tag then s.serve r
  else
    match s.homeOf r.tag with
    | some h => if h.home = s.me then s.serve r else s.send 7 h.home 6 0 r.body
    | none => s.firmFlood 7 4 15 r.body

/-- BSK_DOWN_RX (R309, R332). -/
def execBskDownRx (page : Bool) (i : Nat) (s : State) : Out :=
  let e := if page then s.floodElem i else s.uniElem i
  let b := s.elemPayload e
  if !(s.svcOn 3) then .next s
  else if page then
    if fieldN e 1 1 = 4 && 20 ≤ b.length then .next (s.serve { dnOf b with paged := true }) else .next s
  else if fieldN e 1 1 = 6 && 20 ≤ b.length then .next (s.downTake (dnOf b))
  else if fieldN e 1 1 = 7 && b.length = 5 then
    match s.svc.opens.find? (fun r => r.req == fieldN b 0 4) with
    | none => .next s
    | some r => .next (s.dnOver r (fieldN e 2 2 % 4096) (fieldN b 4 1))
  else .next s

/-- A DOWN frame of body bytes n to a tag, with a 4-byte MIC, fits the 21,600 µt of R161 under the map of its next downlink
(R151). -/
def State.downFits (s : State) (tag n : Nat) : Bool :=
  let len := 13 + n + 4
  match s.dnMapOf tag with
  | some m => decide (lofdmDur len (fieldN m 1 1 % 4) (mapBits m) ≤ 21600)
  | none => decide (lofdmDur len 0 (fixedBits 1) ≤ 21600)

/-- The MAP_SET elements that wait for a tag (R149). -/
def State.mapSetsOf (s : State) (tag : Nat) : Bytes := (s.mac.mapSets.filter (fun x => x.1 == tag)).flatMap (·.2)

/-- What a DOWN frame carries: one element, and the MAP_SETs that wait for its tag when they fit beside it (log 211). -/
def State.downBody (s : State) (tag : Nat) (elem : Bytes) : Bytes :=
  let b := elem ++ s.mapSetsOf tag
  if s.downFits tag b.length then b else elem

/-- The PSDU of a DOWN frame as firmware writes it (R196, R198, R201), with the 4 bytes of its MIC. -/
def State.downPsdu (s : State) (tag : Nat) (b : Bytes) : Bytes :=
  leBytes 4 tag ++ [0x14, 0, 4] ++ leBytes 4 0 ++ leBytes 2 s.me ++ b ++ leBytes 4 0

/-- A DOWN frame goes to its tag at rendezvous r (R190, R327, R332): rbytes answers the instant (TT64), the channel frequency in Hz
and the PSDU, which a BURST entry sends; the try counts for R151. -/
def State.downSend (s : State) (tag : Nat) (r : Instant × Nat) (b : Bytes) : State :=
  { s.dnSent tag with rbytes := leBytes 8 (tt64 r.1) ++ leBytes 4 r.2 ++ s.downPsdu tag b }

/-- A rendezvous that carries no piece and no data carries the MAP_SETs that wait for its tag, when there are any (R149). -/
def State.downMaps (s : State) (tag : Nat) (r : Instant × Nat) : State :=
  let b := s.mapSetsOf tag
  if b.isEmpty || !(s.downFits tag b.length) then { s with rbytes := [] } else s.downSend tag r b

/-- BSK_DOWN_TX (R332): one APP element goes at the tag's rendezvous; one that it does not fit is skipped. -/
def execBskDownTx (req fcnt : Nat) (s : State) : Out :=
  match s.svc.serves.find? (fun r => r.req == req && decide (s.now < linear r.expire) && (!r.paged || s.heardLately r.tag)) with
  | none => .next { s with rbytes := [] }
  | some r =>
    match s.rdvNow r.tag (s.listenK r.tag 0) with
    | none => .next { s with rbytes := [] }
    | some v =>
      if s.downFits r.tag (2 + r.data.length) then
        let t := s.downSend r.tag v (s.downBody r.tag ([1] ++ leBytes 1 r.data.length ++ r.data))
        .next (t.modSvc (fun x => { x with
          serves := x.serves.map (fun y => if y.req = req ∧ y.tag = r.tag then { y with sent := fcnt :: y.sent } else y) }))
      else .next (s.downMaps r.tag v)

/-- A DN_ACK names a frame of a request served here (R210, R332). -/
def State.dnAck (s : State) (tag : Nat) (v : Bytes) : State :=
  match s.svc.serves.find? (fun r => r.tag == tag && r.sent.contains (fieldN v 2 4)) with
  | none => s
  | some r =>
    if v.length = 6 && fieldN v 0 2 % 4096 == s.me then
      let s := (s.dnHeard tag).modSvc (fun x => { x with serves := x.serves.filter (fun y => !(y.req == r.req && y.tag == r.tag)) })
      s.send 7 (s.o Obj.SVC_ROOT) 7 0 (leBytes 4 r.req ++ [0])
    else s

/-- DN_ACK_RX (R210, R332). -/
def execDnAckRx (n : Fin 4) (i : Nat) (s : State) : Out :=
  let e := s.rxElemAt n i
  let v := fieldN e 48 1
  if (v = 0 || v = 6) && fieldN e 50 1 = 1 && !(bitOf (fieldN e 51 1) 0) && s.svcOn 3 then
    let p := s.rxPsdu n e
    .next ((frameElements p).1.foldl (fun (s : State) x => if x.1 = 4 then s.dnAck (fieldN p 0 4) x.2 else s) s)
  else .next s

/-- BSK_DN_EXPIRE (R332). -/
def execBskDnExpire (req : Nat) (s : State) : Out :=
  match s.svc.opens.find? (fun r => r.req == req) with
  | none => .next s
  | some r => .next ((s.upTo (linear r.expire + 2 * superT)).dnOver r 0 1)

/-! ## Beacons of the base firmware (R205, R210, R271, R272, R315, R323) -/

/-- One element (R209). -/
def airElement (ty : Nat) (v : Bytes) : Bytes := leBytes 1 ty ++ leBytes 1 v.length ++ v

/-- The RDVCFG element (R210). -/
def State.rdvElement (s : State) : Bytes :=
  airElement 5 (leBytes 1 (s.o Obj.MAC_RDV_SLOTS) ++ leBytes 4 (s.o Obj.MAC_RDV_BASE_HZ) ++ leBytes 1 (s.o Obj.MAC_RDV_NCH) ++
    leBytes 2 (s.o Obj.MAC_RDV_G0))

/-- The QUESTION elements: each question that is PENDING or OPEN (R314, R315). -/
def State.questionElements (s : State) : Bytes :=
  (fin16.filter (fun (q : Fin 16) => s.qState q == 1 || s.qState q == 2)).flatMap (fun (q : Fin 16) => airElement 6 ((s.qBody q 0).take 24))

/-- The first k pending cues, earliest FIRE_AT first, then the lower CUE_ID. -/
def firstCues : Nat → List Bytes → List Bytes
  | 0, _ => []
  | k + 1, l =>
    match firstCue l with
    | none => []
    | some b => b :: firstCues k (l.filter (fun x => cueId x != cueId b))

/-- The CUE elements (R323). -/
def State.cueElements (s : State) : Bytes := (firstCues (s.o Obj.SVC_LTN_PER_BEACON) s.svc.cues).flatMap (fun b => airElement 7 b)

/-- PLAN of the program that slice n runs: the type and MERGE of each slot (R205). -/
def State.planOf (s : State) (n : Fin 4) : Bytes :=
  match s.slices[n].prog with
  | none => List.replicate 8 0
  | some p => (List.range 8).map (fun k => BitVec.ofNat 8 (pSlot p.header k % 16))

/-- Header and body of the beacon that the base firmware gives slice n (R196, R205): TS and what the cipher engine writes are 0,
and the frame's MIC follows in its entry (log 189). None unless the slice is in PROGRAM and the anchor holds its address. -/
def State.beaconOf (s : State) (n : Fin 4) : Bytes :=
  if s.o (Obj.SLCn_LC_STATE n) = 3 && s.holdsAddr then
    leBytes 4 (0xFFFFF000 + s.me) ++ [0x16] ++ leBytes 6 0 ++
      leBytes 8 0 ++ leBytes 1 (s.o Obj.TMB_SYNC_STATE) ++ leBytes 1 (s.o Obj.FAB_HOPS) ++ leBytes 2 (s.o Obj.FAB_ERR) ++
      s.planOf n ++ [1] ++ s.rdvElement ++ s.questionElements ++ s.cueElements
  else []

/-- The beacon of each slice in PROGRAM, formed anew at each tick, so that PLAN is that of the frame which holds it; one entry in a
superframe sends it (R205, R271, log 189). -/
def State.beaconTick (s : State) : State :=
  s.modMac (fun x => { x with beacons := Vector.ofFn (fun n => { psdu := s.beaconOf n }) })

/-- A committed change of SVC_DRAM_BASE discards every service table (R318): the pieces of a campaign too, which lie there (R326). -/
def State.svcDiscard (s : State) : State :=
  let s := (s.setCues []).setOpens []
  let s := if s.svc.camp.any (fun c => !c.root) then s.setO Obj.SVC_HMP_HAVE 0 else s
  s.modSvc (fun x => { x with
    quests := x.quests.map (fun q => { q with counts := [], bits := [] })
    presses := [], waits := [], children := [], lastTotals := [], homes := [], homesHere := [], dedup := []
    records := [], recNext := s.o Obj.SVC_BSK_NEXT, serves := [], camp := x.camp.map (fun c => { c with pieces := [] }) })

end Sys2Proof.Machine
end

