-- ==== Sys2Proof/Machine/Timebase.lean ====
section
/-!
DEFINITION. The counter block and the panel inputs (02_turath_time.md R41-R57) and the miss counters of R37.
-/
namespace Sys2Proof.Machine

/-! ## Fields of TMB_TCn_CFG and FLAGS (R41, R42) -/

/-- Panel k in TOUCH mode owns counter 12 + k (R55). -/
def State.tcOwned (s : State) (n : Fin 16) : Bool :=
  decide (12 ≤ n.val) && decide (s.o (Obj.TMB_PNLk_MODE (n.val - 12)) = 2)

/-- SRC of counter n: microticks for a counter that a panel owns (R54, R55); counter 0 has no neighbour and reserved codes count as off (R42, R43). -/
def State.tcSrc (s : State) (n : Fin 16) : Nat :=
  let v := fld (s.o (Obj.TMB_TCn_CFG n)) 3 0
  if s.tcOwned n then 1 else if v ≥ 10 || (v = 7 && n.val = 0) then 0 else v

/-- CAPSRC of counter n, likewise; the panel that owns a counter captures it. -/
def State.tcCapSrc (s : State) (n : Fin 16) : Nat :=
  let v := fld (s.o (Obj.TMB_TCn_CFG n)) 12 10
  if s.tcOwned n || v ≥ 6 || (v = 5 && n.val = 0) then 0 else v

/-- Set flag bit b of counter n. -/
def State.tcFlag (s : State) (n : Fin 16) (b : Nat) (x : Bool) : State :=
  let k := Obj.TMB_TCn_FLAGS n
  s.setO k (setBit (s.o k) b x)

/-- The counter above n, when it counts n's overflow (R45). -/
def State.tcAbove (s : State) (n : Fin 16) : Option (Fin 16) :=
  if h : n.val + 1 < 16 then
    if s.tcSrc ⟨n.val + 1, h⟩ = 7 then some ⟨n.val + 1, h⟩ else none
  else none

/-- The members of the chain above n, lowest first. -/
def State.tcChain (s : State) : Nat → Fin 16 → List (Fin 16)
  | 0, _ => []
  | f + 1, n => match s.tcAbove n with
    | none => []
    | some m => m :: State.tcChain s f m

/-- The source clock of counter n runs in the power state in force (R50): GPIO edges are sampled on SYSCLK (R43), a carry
comes whenever the counter below counts, and panel inputs run in every state. -/
def State.tcClocked (s : State) (n : Fin 16) : Bool :=
  let src := s.tcSrc n
  if src = 2 || src = 8 then s.sysclk
  else if src = 3 then s.power.xo32k
  else if src = 7 || src = 9 then true
  else decide (s.pwr ≤ 3)

/-- One source event of counter n, without the carry; answers whether it wrapped (R44). -/
def State.tcStep (s : State) (n : Fin 16) : State × Bool :=
  let cfg := s.o (Obj.TMB_TCn_CFG n)
  let old := s.o (Obj.TMB_TCn_COUNT n)
  let clr := bitOf cfg 21 && s.time.tcs[n].matched
  let wrap := !clr && old == 0xFFFFFFFF
  let new := if clr then 0 else (old + 1) % 2 ^ 32
  let hit := new == s.o (Obj.TMB_TCn_CMP n)
  let s := (s.setO (Obj.TMB_TCn_COUNT n) new).modTc n (fun t => { t with matched := hit })
  let s := if hit then s.tcFlag n 3 true else s
  let s := if wrap then s.tcFlag n 2 true else s
  let s := if hit && bitOf cfg 19 then s.raise 0x108 n new else s
  let s := if wrap && bitOf cfg 20 then s.raise 0x109 n new else s
  (s, wrap)

/-- A source event of counter n with the carries it causes up the chain in the same cycle (R44, R45). -/
def State.tcEvent : Nat → Fin 16 → State → State
  | 0, _, s => s
  | f + 1, n, s =>
    if bitOf (s.o (Obj.TMB_TCn_CTRL n)) 0 && s.tcClocked n then
      let (s, wrap) := s.tcStep n
      match wrap, s.tcAbove n with
      | true, some m => State.tcEvent f m s
      | _, _ => s
    else s

/-- COUNTER_SOURCE_EVENT (R44): one event of the clock that counter n selects, SRC 1 to 3. A boundary, a GPIO edge, a panel edge
and an overflow come to the counter with the command that makes them, and the panel that owns a counter counts for itself. -/
def execCounterSourceEvent (n : Fin 16) (s : State) : Out :=
  if s.tcOwned n || s.tcSrc n = 0 || 4 ≤ s.tcSrc n then .next s else .next (State.tcEvent 16 n s)

/-- Copy COUNT into CAP (R47); a capture that finds CAPF set sets OVR (R49). -/
def State.tcCapture1 (s : State) (n : Fin 16) : State :=
  let s := if bitOf (s.o (Obj.TMB_TCn_FLAGS n)) 0 then s.tcFlag n 1 true else s
  (s.setO (Obj.TMB_TCn_CAP n) (s.o (Obj.TMB_TCn_COUNT n))).tcFlag n 0 true

/-- A capture of counter n and of every counter above it that captures with its neighbour (R42 CAPSRC 5, R47). -/
def State.tcCapture : Nat → Fin 16 → State → State
  | 0, _, s => s
  | f + 1, n, s =>
    let s := s.tcCapture1 n
    if h : n.val + 1 < 16 then
      if s.tcCapSrc ⟨n.val + 1, h⟩ = 5 then State.tcCapture f ⟨n.val + 1, h⟩ s else s
    else s

/-- An edge of input num meets a counter's SEL and EDGE codes (R42). -/
def edgeHit (num : Nat) (rise : Bool) (sel edge : Nat) : Bool :=
  sel == num && (edge == 2 || (edge == 1) != rise)

/-- Every counter whose SRC is src and whose SEL and EDGE name this event counts it (R42, R44). -/
def State.tcSourceAll (s : State) (src : Nat) (hit : Nat → Nat → Bool) : State :=
  fin16.foldl (fun (s : State) (n : Fin 16) =>
    let cfg := s.o (Obj.TMB_TCn_CFG n)
    if s.tcSrc n = src && !s.tcOwned n && hit (fld cfg 7 4) (fld cfg 9 8) then State.tcEvent 16 n s else s) s

/-- Every counter whose CAPSRC is src and whose CAPSEL and CAPEDGE name this event captures, at the end of the cycle (R42, R47). -/
def State.tcCaptureAll (s : State) (src : Nat) (hit : Nat → Nat → Bool) : State :=
  fin16.foldl (fun (s : State) (n : Fin 16) =>
    let cfg := s.o (Obj.TMB_TCn_CFG n)
    if s.tcCapSrc n = src && hit (fld cfg 16 13) (fld cfg 18 17) then State.tcCapture 16 n s else s) s

/-- The counters at a tick boundary, which is a superframe boundary when sf (R42). -/
def State.tcTick (s : State) (sf : Bool) : State :=
  let all := fun (_ _ : Nat) => true
  let s := s.tcSourceAll 5 all
  (if sf then s.tcSourceAll 6 all else s).tcCaptureAll 3 all

/-- The counters at a slot boundary (R42). -/
def State.tcSlot (s : State) : State :=
  (s.tcSourceAll 4 (fun _ _ => true)).tcCaptureAll 4 (fun _ _ => true)

/-- The counters at an edge of GPIO p, sampled on SYSCLK (R43). -/
def State.tcGpio (s : State) (p : Fin 16) (rise : Bool) : State :=
  if s.sysclk then (s.tcSourceAll 8 (edgeHit p rise)).tcCaptureAll 1 (edgeHit p rise) else s

/-- The counters at an edge of panel k: a press is the rising edge (R43, log 197). -/
def State.tcPanel (s : State) (k : Fin 4) (rise : Bool) : State :=
  (s.tcSourceAll 9 (edgeHit k rise)).tcCaptureAll 2 (edgeHit k rise)

/-- COUNTER_CAPTURE (R47): the capture source of counter n, when it has one of its own. -/
def execCounterCapture (n : Fin 16) (s : State) : Out :=
  let src := s.tcCapSrc n
  if src = 0 || src = 5 then .next s else .next (State.tcCapture 16 n s)

/-- A write to a counter that the panel block owns is dropped with cause 4 (R55, R527). -/
def State.tcGuard (s : State) (who : Fin 8) (n : Fin 16) (k : Key) (v : Nat) (f : State → State) : State :=
  if s.tcOwned n then s.dropped (windowAddr k) v who 4 else f s

/-- TC_RUN (R41): start or stop the counter. -/
def execTcRun (who : Fin 8) (n : Fin 16) (run : Bool) (s : State) : Out :=
  let k := Obj.TMB_TCn_CTRL n
  .next (s.tcGuard who n k (b2n run) (fun s => s.setO k (b2n run)))

/-- TC_CLEAR (R41): zero the count; CLEAR reads 0. -/
def execTcClear (who : Fin 8) (n : Fin 16) (s : State) : Out :=
  .next (s.tcGuard who n (Obj.TMB_TCn_CTRL n) 2 (fun s => s.setO (Obj.TMB_TCn_COUNT n) 0))

/-- TC_SWCAP (R41, R47): capture the count. -/
def execTcSwcap (who : Fin 8) (n : Fin 16) (s : State) : Out :=
  .next (s.tcGuard who n (Obj.TMB_TCn_CTRL n) 4 (fun s => State.tcCapture 16 n s))

/-- Put a value into COUNT (R44): a pending count latch is cleared, and so is the zeroing that CMPCLR owes after a match
(log 194). -/
def State.tcPutCount (s : State) (n : Fin 16) (v : Nat) : State :=
  ((s.setO (Obj.TMB_TCn_COUNT n) (v % 2 ^ 32)).modTc n (fun t => { t with countLatch := none, matched := false })).tcFlag n 4 false

/-- Write CTRL whole (R41): RUN takes bit 0, then CLEAR and SWCAP act. -/
def State.tcCtrl (s : State) (n : Fin 16) (v : Nat) : State :=
  let s := s.setO (Obj.TMB_TCn_CTRL n) (v % 2)
  let s := if bitOf v 1 then s.setO (Obj.TMB_TCn_COUNT n) 0 else s
  if bitOf v 2 then State.tcCapture 16 n s else s

/-- TC_COUNT_WRITE (R44): the count takes the value at the end of the cycle. -/
def execTcCountWrite (who : Fin 8) (n : Fin 16) (v : Nat) (s : State) : Out :=
  .next (s.tcGuard who n (Obj.TMB_TCn_COUNT n) v (fun s => s.tcPutCount n v))

/-- COUNT of counter n as it stands: during a touch measurement, which its edge 0 began, it has counted the microticks since
(R54). -/
def State.tcCountNow (s : State) (n : Fin 16) : Nat :=
  let p := s.time.panels[asFin 4 (n.val % 4)]
  if s.tcOwned n && p.measuring then (s.now - p.startedAt) % 2 ^ 32 else s.o (Obj.TMB_TCn_COUNT n)

/-- Read COUNT of counter n (R46): of the lowest of a chain it latches every higher member; of a higher member it returns
and clears the latch pending. -/
def State.tcReadCount (s : State) (n : Fin 16) : State × Nat :=
  if s.tcSrc n = 7 then
    match s.time.tcs[n].countLatch with
    | some v => ((s.modTc n (fun t => { t with countLatch := none })).tcFlag n 4 false, v)
    | none => (s, s.o (Obj.TMB_TCn_COUNT n))
  else
    ((s.tcChain 16 n).foldl (fun (s : State) (m : Fin 16) =>
      (s.modTc m (fun t => { t with countLatch := some (s.o (Obj.TMB_TCn_COUNT m)) })).tcFlag m 4 true) s,
     s.tcCountNow n)

/-- TC_COUNT_READ (R46). -/
def execTcCountRead (n : Fin 16) (s : State) : Out :=
  let (s, v) := s.tcReadCount n
  .next { s with rdata := v }

/-- Read CAP of counter n (R46, R48): the latch rule of COUNT through KLATCH, and CAPF is cleared. -/
def State.tcReadCap (s : State) (n : Fin 16) : State × Nat :=
  let (s, v) :=
    if s.tcSrc n = 7 then
      match s.time.tcs[n].capLatch with
      | some v => ((s.modTc n (fun t => { t with capLatch := none })).tcFlag n 5 false, v)
      | none => (s, s.o (Obj.TMB_TCn_CAP n))
    else
      ((s.tcChain 16 n).foldl (fun (s : State) (m : Fin 16) =>
        (s.modTc m (fun t => { t with capLatch := some (s.o (Obj.TMB_TCn_CAP m)) })).tcFlag m 5 true) s,
       s.o (Obj.TMB_TCn_CAP n))
  (s.tcFlag n 0 false, v)

/-- TC_CAP_READ (R48): with a capture in the same cycle the read returns the previous value, the new one lands, CAPF
stays set and OVR is not set. -/
def execTcCapRead (n : Fin 16) (capture : Bool) (s : State) : Out :=
  let (s, v) := s.tcReadCap n
  let s := if capture then State.tcCapture 16 n s else s
  .next { s with rdata := v }

/-- Clear the flag bits 0-3 that v names (R41). -/
def State.tcFlagsClear (s : State) (n : Fin 16) (v : Nat) : State :=
  let k := Obj.TMB_TCn_FLAGS n
  [0, 1, 2, 3].foldl (fun (s : State) (b : Nat) => if bitOf v b then s.setO k (setBit (s.o k) b false) else s) s

/-- TC_FLAGS_CLEAR (R41). -/
def execTcFlagsClear (n : Fin 16) (v : Nat) (s : State) : Out := .next (s.tcFlagsClear n v)

/-- Write a miss counter (R37): 0 clears it, any other value is refused and the write dropped. -/
def State.missClear (s : State) (who : Fin 8) (k : Key) (v : Nat) : State :=
  if v = 0 then s.setO k 0 else s.dropped (windowAddr k) v who 3

/-- MISS_COUNTER_CLEAR (R37). -/
def execMissCounterClear (who : Fin 8) (slice : Option (Fin 4)) (cls : Nat) (v : Nat) (s : State) : Out :=
  match slice with
  | none => if 1 ≤ cls ∧ cls ≤ 12 then .next (s.missClear who (Obj.TMB_MISS cls) v) else .next s
  | some n => if 1 ≤ cls ∧ cls ≤ 4 then .next (s.missClear who (sliceMissKey n cls) v) else .next s

/-! ## Panel inputs -/

/-- Raise a panel event (0x0104 PRESS to 0x0107 TOUCH_FAULT) with MEAS (R523). -/
def State.panelEvent (s : State) (k : Fin 4) (code : Nat) : State := s.raise code k (s.o (Obj.TMB_PNLk_MEAS k))

/-- Set the state bit b of panel k. -/
def State.panelBit (s : State) (k : Fin 4) (b : Nat) (x : Bool) : State :=
  let key := Obj.TMB_PNLk_STATE k
  s.setO key (setBit (s.o key) b x)

/-- Panel k is pressed or touched: PRESS is raised, counters see the edge (R43, R53, R56), and it is a wake source (R57). -/
def State.panelPress (s : State) (k : Fin 4) : State :=
  (((((s.panelBit k 0 true).modPanel k (fun p => { p with pressedAt := s.now, changedAt := s.now })).panelEvent k 0x104)).tcPanel k true).wakeBy
    (s.o (Obj.TMB_PNLk_MODE k))

/-- Panel k is released, its held bit cleared: RELEASE is raised and counters see the edge (R43, R53, R56); of a touch input
this decision is a wake source too (R57, R549). -/
def State.panelRelease (s : State) (k : Fin 4) : State :=
  let t := ((((s.panelBit k 0 false).panelBit k 1 false).modPanel k (fun p => { p with changedAt := s.now })).panelEvent k 0x105).tcPanel
    k false
  if s.o (Obj.TMB_PNLk_MODE k) = 2 then t.wakeBy 2 else t

/-- Move the count to an instant of SLPCLK: in HIBERNATE microticks are stopped, and the wake adds what passed (R50, R548). -/
def State.slpTo (s : State) (t : Instant) : State := if s.pwr = 4 then s else s.upTo t

/-- PANEL_DEBOUNCE_EXPIRY (R53): the sampled level of a BUTTON input, low meaning pressed, has been the same since the instant
given, or since the state last changed, for the whole debounce time: the debounced state takes it. Inputs sample only while
the 32 kHz oscillator runs (R593). -/
def execPanelDebounceExpiry (k : PanelLevel) (s : State) : Out :=
  if s.o (Obj.TMB_PNLk_MODE k.pad) = 1 && s.power.xo32k && bitOf (s.o (Obj.TMB_PNLk_STATE k.pad)) 0 != k.low then
    let s := s.slpTo (max k.since s.time.panels[k.pad].changedAt + s.o (Obj.TMB_PNLk_DEBOUNCE k.pad) * 38400)
    .next (if k.low then s.panelPress k.pad else s.panelRelease k.pad)
  else .next s

/-- PANEL_HOLD_EXPIRY (R53): a press that lasts HOLD ms sets the held bit and raises one HOLD event. -/
def execPanelHoldExpiry (k : Fin 4) (s : State) : Out :=
  let hold := s.o (Obj.TMB_PNLk_HOLD k)
  let st := s.o (Obj.TMB_PNLk_STATE k)
  if s.o (Obj.TMB_PNLk_MODE k) = 1 && hold != 0 && bitOf st 0 && !(bitOf st 1) then
    .next (((s.slpTo (s.time.panels[k].pressedAt + hold * 38400)).panelBit k 1 true).panelEvent k 0x106)
  else .next s

/-- TOUCH_SCAN_START (R54): the previous measurement has ended and the scan interval has passed. -/
def execTouchScanStart (k : Fin 4) (s : State) : Out :=
  let p := s.time.panels[k]
  if s.o (Obj.TMB_PNLk_MODE k) = 2 && !p.measuring && s.pwr ≤ 3 then
    let s := if p.scanned then s.upTo (p.startedAt + s.o (Obj.TMB_PNLk_SCAN k) * 38400) else s
    .next ((s.setO (Obj.TMB_TCn_COUNT (12 + k)) 0).modPanel k (fun p => { p with
      measuring := true, startedAt := s.now, scanned := true }))
  else .next s

/-- The baseline after a measurement of a released input: one sixteenth of the difference, rounded toward the baseline
(R56). -/
def touchBase (base meas : Nat) : Nat :=
  if base ≤ meas then base + (meas - base) / 16 else base - (base - meas) / 16

/-- The counter that belongs to panel k in TOUCH mode (R55). -/
def touchTc (k : Fin 4) : Fin 16 := ⟨12 + k, by omega⟩

/-- The microticks of TOUCH_N periods of 2 × C × 1.0 V / I for a pad of cap fF (R54, log 198): 38.4 µt to the µs. -/
def State.touchMeas (s : State) (k : Fin 4) (cap : Nat) : Nat :=
  s.o (Obj.TMB_PNLk_TOUCH_N k) * 2 * cap * 384 / (s.o (Obj.TMB_PNLk_TOUCH_I k) * 10000) % 2 ^ 32

/-- TOUCH_MEASUREMENT_DONE (R54, R56): counter 12 + k, cleared at edge 0, is captured at edge TOUCH_N and the capture copied to
MEAS; two consecutive measurements beyond the threshold change the state, and an input released after the measurement moves its
baseline (log 195). -/
def execTouchMeasurementDone (k : Fin 4) (cap : Nat) (s : State) : Out :=
  let p := s.time.panels[k]
  if s.o (Obj.TMB_PNLk_MODE k) = 2 && p.measuring && s.pwr ≤ 3 then
    let m := s.touchMeas k cap
    let s := s.upTo (p.startedAt + m)
    let s := State.tcCapture 16 (touchTc k) (s.setO (Obj.TMB_TCn_COUNT (12 + k)) m)
    let s := (s.setO (Obj.TMB_PNLk_MEAS k) m).panelBit k 2 false
    if p.first then
      .next ((s.setO (Obj.TMB_PNLk_BASE k) m).modPanel k
        (fun p => { p with measuring := false, first := false, streak := 0 }))
    else
      let base := s.o (Obj.TMB_PNLk_BASE k)
      let touched := bitOf (s.o (Obj.TMB_PNLk_STATE k)) 0
      let th := s.o (Obj.TMB_PNLk_THRESH k)
      let beyond := if touched then decide (m + s.o (Obj.TMB_PNLk_HYST k) ≤ base + th) else decide (base + th ≤ m)
      let streak := if beyond then p.streak + 1 else 0
      let change := streak ≥ 2
      let s := s.modPanel k (fun p => { p with measuring := false, streak := if change then 0 else streak })
      let now := if change then !touched else touched
      let s := if change then (if now then s.panelPress k else s.panelRelease k) else s
      .next (if now then s else s.setO (Obj.TMB_PNLk_BASE k) (touchBase base m))
  else .next s

/-- TOUCH_FAULT (R56): one scan interval after the measurement began the fault bit is set and the input reports released until a measurement completes; a touched input raises
RELEASE and starts its two measurements anew (log 196). -/
def execTouchFault (k : Fin 4) (s : State) : Out :=
  if s.o (Obj.TMB_PNLk_MODE k) = 2 && s.time.panels[k].measuring && s.pwr ≤ 3 then
    let s := s.upTo (s.time.panels[k].startedAt + s.o (Obj.TMB_PNLk_SCAN k) * 38400)
    let touched := bitOf (s.o (Obj.TMB_PNLk_STATE k)) 0
    let s := s.modPanel k (fun p => { p with measuring := false, streak := 0 })
    let s := if touched then s.panelRelease k else s
    .next ((s.panelBit k 2 true).panelEvent k 0x107)
  else .next s

end Sys2Proof.Machine
end

