-- ==== Sys2Proof/Machine/Ports.lean ====
section
/-!
DEFINITION. The T1L ports, HSPI and GPIO (17_object_dictionary.md R490-R497, R514 closing, R535, R536): frames and datagrams
reach the SOP engine's inbox, the fabric or the port's own ICMPv6; links come up and go down.
-/
namespace Sys2Proof.Machine

/-- Change the communication block. -/
def State.modCom (s : State) (f : ComSt → ComSt) : State := { s with com := f s.com }

/-- Change T1L port p. -/
def State.modPort (s : State) (p : Fin 2) (f : PortSt → PortSt) : State :=
  s.modCom (fun x => { x with ports := vmod x.ports p f })

/-! ## Sessions close (R493, R514) -/

/-- Session x is freed: its key slot is erased and everything it held goes. -/
def State.sessFree (s : State) (x : Fin 8) : State :=
  let s := (s.emptySlot (248 + x.val)).countSlots
  let s := s.modSess x (fun _ => {})
  let s := s.modCom (fun c => {
    c with
    handlers := c.handlers.filter (fun h => h.who != Writer.session x)
    requests := c.requests.filter (fun r => r.who != Writer.session x) })
  let s := ((s.setO (Obj.COM_Ss_STATE x) 0).setO (Obj.COM_Ss_LEVEL x) 0).setO (Obj.COM_Ss_KEY x) 0
  s.setBlob (Obj.COM_Ss_PEER x) []

/-- The handler slots of a session are freed in memory too (R522). -/
def State.freeHandlers (s : State) (x : Fin 8) : State :=
  (s.com.handlers.filter (fun h => h.who == Writer.session x)).foldl (fun (s : State) h => s.wb (0x200C0000 + 1024 * h.slot) 0) s

/-- Session x closes for a reason of R523: 0 CLOSE, 1 idle, 2 link, 3 object write. -/
def State.sessClose (s : State) (x : Fin 8) (reason : Nat) : State :=
  let st := s.o (Obj.COM_Ss_STATE x)
  if st = 0 then s
  else
    let s := (s.freeHandlers x).sessFree x
    if st = 2 then (s.setO Obj.COM_SESS_OPEN (s.o Obj.COM_SESS_OPEN - 1)).raise 0x154 x reason else s

/-! ## Network order (R491, R534) -/

/-- The number that bytes spell, most significant first. -/
def beNat (b : Bytes) : Nat := leNat b.reverse
/-- The n low bytes of v, most significant first. -/
def beBytes (n v : Nat) : Bytes := (leBytes n v).reverse
/-- The field of n bytes at offset o, most significant first. -/
def fieldB (l : Bytes) (o n : Nat) : Nat := beNat (sliceB l o n)

/-- The MAC address of port p as sent, its top byte first (R494). -/
def State.macOf (s : State) (p : Fin 2) : Bytes := beBytes 6 (s.o (Obj.COM_Tp_MAC p))

/-- fe80::/64 and the modified EUI-64 of a MAC address (R491). -/
def linkLocal (m : Bytes) : Bytes :=
  [0xFE, 0x80, 0, 0, 0, 0, 0, 0] ++ [nth m 0 0 ^^^ 2] ++ sliceB m 1 2 ++ [0xFF, 0xFE] ++ sliceB m 3 3

/-- The link-local address of port p. -/
def State.llAddr (s : State) (p : Fin 2) : Bytes := linkLocal (s.macOf p)

/-- The static address of port p. -/
def State.staticAddr (s : State) (p : Fin 2) : Bytes := sliceB (s.blob (Obj.COM_Tp_STATIC p)) 0 16

/-- All zero. -/
def zeroB (b : Bytes) : Bool := b.all (fun x => x == 0)

/-- Address a of port p was given to it, whether or not detection passed: 0 link-local, 1 static. -/
def State.addrNo (s : State) (p : Fin 2) (a : Bytes) : Option Nat :=
  if a = s.llAddr p then some 0 else if a = s.staticAddr p && !(zeroB a) then some 1 else none

/-- Port p uses address a: detection is over and has not failed (R491). -/
def State.ownsAddr (s : State) (p : Fin 2) (a : Bytes) : Bool :=
  match s.addrNo p a with
  | none => false
  | some i => decide (s.com.ports[p].tentative ≤ s.now) && !(bitOf (s.o (Obj.COM_Tp_DAD p)) i)

/-- The solicited-node group of an address. -/
def solicited (a : Bytes) : Bytes := [0xFF, 2] ++ List.replicate 9 0 ++ [1, 0xFF] ++ sliceB a 13 3

/-- The Ethernet address of an IPv6 group. -/
def groupMac (g : Bytes) : Bytes := [0x33, 0x33] ++ sliceB g 12 4

/-- Sum of the 16-bit words of a string, most significant byte first. -/
def sum16 : Bytes → Nat
  | [] => 0
  | [b] => b.toNat * 256
  | a :: b :: r => a.toNat * 256 + b.toNat + sum16 r

/-- Fold a sum of 16-bit words. -/
def fold16 (n : Nat) : Nat :=
  let a := n % 65536 + n / 65536
  let a := a % 65536 + a / 65536
  a % 65536 + a / 65536

/-- The checksum over the pseudo-header and payload of an IPv6 packet comes out right. -/
def sumRight (src dst : Bytes) (next : Nat) (body : Bytes) : Bool :=
  fold16 (sum16 src + sum16 dst + body.length + next + sum16 body) == 65535

/-- The checksum of a body whose checksum field is 0. -/
def checksum (src dst : Bytes) (next : Nat) (body : Bytes) : Nat :=
  let c := 65535 - fold16 (sum16 src + sum16 dst + body.length + next + sum16 body)
  if c = 0 then 65535 else c

/-! ## Sending -/

/-- An ICMPv6 message with its checksum. -/
def icmpMsg (src dst : Bytes) (ty : Nat) (rest : Bytes) : Bytes :=
  let m := leBytes 1 ty ++ [0, 0, 0] ++ rest
  m.take 2 ++ beBytes 2 (checksum src dst 58 m) ++ m.drop 4

/-- Send a Neighbor Discovery message (R494 ND_TX). -/
def State.ndSend (s : State) (p : Fin 2) (src dst : Bytes) (ty : Nat) (rest : Bytes) : State :=
  (s.portSend p (.icmp dst (icmpMsg src dst ty rest))).inc (Obj.COM_Tp_ND_TX p)

/-- The next hop of a destination (R491): itself on the link, else the router, none without one. -/
def State.nextHop (s : State) (p : Fin 2) (dst : Bytes) : Option Bytes :=
  let pre := s.o (Obj.COM_Tp_PREFIX p)
  let st := s.staticAddr p
  let same := beNat st / 2 ^ (128 - pre) == beNat (sliceB dst 0 16) / 2 ^ (128 - pre)
  if fieldB dst 0 2 / 64 = 0x3FA || (!(zeroB st) && same) then some dst
  else
    let g := sliceB (s.blob (Obj.COM_Tp_GATEWAY p)) 0 16
    if zeroB g then none else some g

/-- The address from which port p sends to a destination. -/
def State.srcAddr (s : State) (p : Fin 2) (dst : Bytes) : Bytes :=
  if fieldB dst 0 2 / 64 ≠ 0x3FA && s.ownsAddr p (s.staticAddr p) then s.staticAddr p else s.llAddr p

/-- Send a UDP datagram to a host (R491): without a neighbour entry it is not sent, and the neighbour is solicited. -/
def State.udpSend (s : State) (p : Fin 2) (dst : Bytes) (port : Nat) (payload : Bytes) : State :=
  match s.nextHop p dst with
  | none => s.inc (Obj.COM_Tp_TX_DROP p)
  | some h =>
    if s.com.ports[p].nbrs.any (fun e => e.1 == h) then s.portSend p (.udp dst port payload)
    else
      let src := s.llAddr p
      (s.ndSend p src (solicited h) 135 (List.replicate 4 0 ++ h ++ [1, 1] ++ s.macOf p)).inc (Obj.COM_Tp_TX_DROP p)

/-! ## Receiving a frame (R490-R492, R549) -/

/-- A port takes a frame to this destination address (R490). -/
def State.macTakes (s : State) (p : Fin 2) (d : Bytes) : Bool :=
  d == s.macOf p || d == groupMac allNodes || d == groupMac (solicited (s.llAddr p)) ||
  (!(zeroB (s.staticAddr p)) && d == groupMac (solicited (s.staticAddr p)))

/-- Learn a neighbour. -/
def State.learn (s : State) (p : Fin 2) (ip m : Bytes) : State :=
  if zeroB ip then s else s.modPort p (fun x => { x with nbrs := (ip, m) :: x.nbrs.filter (fun e => e.1 != ip) })

/-- An address of port p fails detection (R491). -/
def State.dadFail (s : State) (p : Fin 2) (i : Nat) : State :=
  let k := Obj.COM_Tp_DAD p
  if bitOf (s.o k) i then s
  else
    let s := s.setO k (setBit (s.o k) i true)
    s.raise 0x155 p (s.o k)

/-- A frame that the port drops. -/
def State.portDrop (s : State) (p : Fin 2) : State := s.inc (Obj.COM_Tp_RX_DROP p)

/-- A UDP datagram at port p (R492): hop limit, source, checksum verdict, payload. -/
def State.udpTake (s : State) (p : Fin 2) (hop : Nat) (src body : Bytes) (sumOk : Bool) : State :=
  let dport := fieldB body 2 2
  let pay := (body.drop 8).take (fieldB body 4 2 - 8)
  let ok := sumOk && decide (fieldB body 6 2 ≠ 0) && decide (fieldB body 4 2 ≤ body.length) && decide (8 ≤ fieldB body 4 2) &&
    decide (pay.length ≤ 1024)
  if dport = 47210 && ok && s.ob (Obj.COM_Tp_SOP_ALLOW p) then
    s.modCom (fun x => { x with inbox := x.inbox ++ [{ port := p, peer := src ++ leBytes 2 (fieldB body 0 2), data := pay }] })
  else if dport = 47211 && ok then s.fabricRx p hop true pay
  else if dport = 47211 && !(sumOk && decide (fieldB body 6 2 ≠ 0)) then s.inc (Obj.FAB_Wp_RXDROP p)
  else s.portDrop p

/-- An ICMPv6 packet at port p: an advertisement is taken at once, the others wait. -/
def State.icmpTake (s : State) (p : Fin 2) (pkt : Bytes) : State :=
  let body := pkt.drop 40
  match fieldN body 0 1 with
  | 136 =>
    let s := s.inc (Obj.COM_Tp_ND_RX p)
    let target := sliceB body 8 16
    match s.addrNo p target with
    | some i => if s.now < s.com.ports[p].tentative then s.dadFail p i else s
    | none => if fieldN body 24 1 = 2 then s.learn p target (sliceB body 26 6) else s
  | 135 | 128 => s.modPort p (fun x => { x with icmp := x.icmp ++ [pkt] })
  | _ => s.portDrop p

/-- An IPv6 packet at port p; ether: the source of its frame. -/
def State.ipTake (s : State) (p : Fin 2) (ether pkt : Bytes) : State :=
  let src := sliceB pkt 8 16
  let dst := sliceB pkt 24 16
  let next := fieldN pkt 6 1
  let len := fieldB pkt 4 2
  let body := (pkt.drop 40).take len
  let mine := s.ownsAddr p dst || dst == allNodes || dst == solicited (s.llAddr p) ||
    (!(zeroB (s.staticAddr p)) && dst == solicited (s.staticAddr p))
  if fieldN pkt 0 1 / 16 ≠ 6 || pkt.length < 40 + len || !mine then s.portDrop p
  else
    let good := sumRight src dst next body
    let s := if good && !(zeroB src) && fieldB src 0 2 / 64 = 0x3FA then s.learn p src ether else s
    if next = 17 then s.udpTake p (fieldN pkt 7 1) src body good
    else if next = 58 && good then s.icmpTake p (pkt.take (40 + len))
    else s.portDrop p

/-- What port p does with a frame that holds a cell (R490). -/
def State.frameRead (s : State) (p : Fin 2) (f : Bytes) : State :=
  if f.length < 60 || 1514 < f.length || fieldB f 12 2 ≠ 0x86DD || !(s.macTakes p (sliceB f 0 6)) then s.portDrop p
  else s.ipTake p (sliceB f 6 6) (f.drop 14)

/-- A fabric datagram, whose cell its own take finds (R390). -/
def fabricDatagram (f : Bytes) : Bool := fieldN f 20 1 == 17 && fieldB f 56 2 == 47211

/-- The cell of a frame goes to the SOP datagram that it brought, and else returns (R388, log 224). -/
def State.cellOf (s old : State) (cs : List Nat) : State :=
  if old.com.inbox.length < s.com.inbox.length then
    s.modCom (fun x => { x with inbox := x.inbox.dropLast ++ (x.inbox.getLast?.map (fun m => { m with cells := cs })).toList })
  else s.returnCells 4 cs

/-- A frame that port p has taken from the line: one cell of pool 4 at its start, of those that no peer has reserved; a frame that
finds none is dropped (R388, R390). -/
def State.frameTake (s : State) (p : Fin 2) (f : Bytes) : State :=
  if fabricDatagram f then s.frameRead p f
  else
    match s.takeCells 4 1 (s.reserved p + s.reserved (1 - p)) with
    | (none, s) => s
    | (some cs, s) => (s.frameRead p f).cellOf s cs

/-- A frame that wakes the device from DOZE (R549): a UDP datagram to port 47210 or 47211. -/
def wakesDoze (f : Bytes) : Bool :=
  fieldB f 12 2 == 0x86DD && fieldN f 20 1 == 17 && (fieldB f 56 2 == 47210 || fieldB f 56 2 == 47211)

/-- ETH_FRAME_RX (R490-R492): in DOZE the MAC holds two frames for the wake (R549). -/
def execEthFrameRx (p : Fin 2) (frame : Bytes) (fcsOk : Bool) (s : State) : Out :=
  if s.o (Obj.COM_Tp_LINK p) = 0 then .next s
  else if !fcsOk then .next (s.inc (Obj.COM_Tp_RX_FCS p))
  else
    let s := s.inc (Obj.COM_Tp_RX_FRAMES p)
    if s.pwr = 3 && wakesDoze frame then
      if s.com.ports[p].held.length < 2 then .next (s.modPort p (fun x => { x with held := x.held ++ [frame] }))
      else .next (s.portDrop p)
    else .next (s.frameTake p frame)

/-- The frames held in DOZE are handed over at the wake (R549). -/
def State.portsWake (s : State) : State :=
  fin2.foldl (fun (s : State) (p : Fin 2) =>
    let l := s.com.ports[p].held
    l.foldl (fun (s : State) f => s.frameTake p f) (s.modPort p (fun x => { x with held := [] }))) s

/-- Take the oldest waiting ICMPv6 packet of port p when it has a type. -/
def State.icmpNext (s : State) (p : Fin 2) (ty : Nat) : Option Bytes × State :=
  match s.com.ports[p].icmp with
  | [] => (none, s)
  | k :: r => if fieldN k 40 1 = ty then (some k, s.modPort p (fun x => { x with icmp := r })) else (none, s)

/-- NEIGHBOR_SOLICITATION_RX (R491): answered for an address in use; one from the unspecified address for an address under
detection is a conflict. -/
def execNeighborSolicitationRx (p : Fin 2) (s : State) : Out :=
  match s.icmpNext p 135 with
  | (none, s) => .next s
  | (some k, s) =>
    let s := s.inc (Obj.COM_Tp_ND_RX p)
    let src := sliceB k 8 16
    let target := sliceB k 48 16
    if fieldN k 7 1 ≠ 255 then .next s
    else
      let s := if fieldN k 64 1 = 1 && 72 ≤ k.length then s.learn p src (sliceB k 66 6) else s
      if s.ownsAddr p target then
        let dst := if zeroB src then allNodes else src
        let flags : Bytes := [if zeroB src then 0x20 else 0x60, 0, 0, 0]
        .next (s.ndSend p target dst 136 (flags ++ target ++ [2, 1] ++ s.macOf p))
      else
        match s.addrNo p target with
        | some i => if zeroB src && s.now < s.com.ports[p].tentative then .next (s.dadFail p i) else .next s
        | none => .next s

/-- ECHO_REQUEST_RX (R491): answered while COM_Tp_ECHO is 1. -/
def execEchoRequestRx (p : Fin 2) (s : State) : Out :=
  match s.icmpNext p 128 with
  | (none, s) => .next s
  | (some k, s) =>
    if !(s.ob (Obj.COM_Tp_ECHO p)) then .next s
    else
      let src := sliceB k 8 16
      let dst := sliceB k 24 16
      let me := if s.ownsAddr p dst then dst else s.srcAddr p src
      match s.nextHop p src with
      | none => .next (s.inc (Obj.COM_Tp_TX_DROP p))
      | some _ => .next (s.portSend p (.icmp src (icmpMsg me src 129 (k.drop 44))))

/-! ## Links (R269, R493) -/

/-- LINK_UP (R491, R493): duplicate address detection with one Neighbor Solicitation for each address. -/
def execLinkUp (p : Fin 2) (level : Nat) (sqi : Nat) (reversed : Bool) (s : State) : Out :=
  let am := s.o (Obj.COM_Tp_AMPL p)
  let fits := (level == 1 || level == 2) && (am == 0 || am == level)
  if !(s.ob (Obj.COM_Tp_ENABLE p)) || 4 ≤ s.pwr || !fits || s.o (Obj.COM_Tp_LINK p) = level then .next s
  else
    let fresh := s.o (Obj.COM_Tp_LINK p) = 0
    let s := ((s.setO (Obj.COM_Tp_LINK p) level).setO (Obj.COM_Tp_SQI p) (min 7 sqi)).setO (Obj.COM_Tp_POL p) (b2n reversed)
    let s := (s.inc (Obj.COM_Tp_UPS p)).setO (Obj.COM_Tp_UP_SINCE p) (tt64 s.now)
    let s := (s.setO (Obj.COM_Tp_DAD p) 0).modPort p (fun x => { x with tentative := s.now + 38400000, nbrs := [] })
    let own := s.llAddr p :: (if zeroB (s.staticAddr p) then [] else [s.staticAddr p])
    let s := own.foldl (fun (s : State) a => s.ndSend p (List.replicate 16 0) (solicited a) 135 (List.replicate 4 0 ++ a)) s
    let s := if fresh then s.setO (Obj.FAB_Wp_STATE p) 1 else s
    .next (s.raise 0x150 p level)

/-- The wired steps on port p end LINK_DOWN (R261, R285). -/
def State.wireStepsDown (s : State) (p : Fin 2) : State :=
  s.steps.jobs.foldl (fun (s : State) j =>
    if !j.fabric then s.stepEnd j.ticket p 0x15
    else if j.cls = p.val then s.stepEnd j.ticket 0 0x15 else s) s

/-- The link of port p goes down (R269, R493). -/
def State.linkDown (s : State) (p : Fin 2) : State :=
  if s.o (Obj.COM_Tp_LINK p) = 0 then s
  else
    let s := (s.setO (Obj.COM_Tp_LINK p) 0).inc (Obj.COM_Tp_DOWNS p)
    let s := fin8.foldl (fun (s : State) (x : Fin 8) =>
      if s.o (Obj.COM_Ss_STATE x) ≠ 0 && s.o (Obj.COM_Ss_PORT x) = p.val then s.sessClose x 2 else s) s
    let s := (s.com.inbox.filter (fun m => m.port == p.val)).foldl (fun (s : State) m => s.returnCells 4 m.cells) s
    let s := s.modCom (fun c => { c with inbox := c.inbox.filter (fun m => m.port != p.val) })
    let s := s.modPort p (fun x => { x with icmp := [], nbrs := [], held := [], after := [] })
    let s := ((s.wireStepsDown p).peerGone p).setO (Obj.FAB_Wp_STATE p) 0
    s.raise 0x151 p 0

/-- LINK_DOWN (R493). -/
def execLinkDown (p : Fin 2) (s : State) : Out := .next (s.linkDown p)

/-! ## HSPI (R495-R498) -/

/-- The device is ready to accept a message: SYSCLK runs and its buffer is free. -/
def State.hspiReady (s : State) (ready : Bool) : Bool := ready && s.sysclk

/-- COM_H_WAITING (R499). -/
def State.hspiShow (s : State) : State := s.setO Obj.COM_H_WAITING ((s.com.hspiOut.head?.map (·.length)).getD 0)

/-- HSPI_STATUS (R496). -/
def execHspiStatus (ready : Bool) (s : State) : Out :=
  if s.boot.recovery then .next s
  else if !(s.ob Obj.COM_H_ENABLE) then .next { s with rdata := 0 }
  else
    let s := s.hspiShow
    .next { s with rdata := s.o Obj.COM_H_WAITING + 65536 * b2n (s.hspiReady ready) + 131072 * b2n (!s.com.hspiDbg.isEmpty) }

/-- The checks of a write transaction (R497): counted and discarded, or taken. -/
def State.hspiTake (s : State) (data : Bytes) (crc : Nat) (cut ready : Bool) (take : State → State) : State :=
  if cut then s.inc Obj.COM_H_ABORTED
  else if !(s.hspiReady ready) then s.inc Obj.COM_H_OVERRUN
  else if data.length < 4 || 1024 < data.length || crc ≠ crc32 data then s.inc Obj.COM_H_CRC_ERR
  else take s

/-- HSPI_WRITE (R496, R497). -/
def execHspiWrite (data : Bytes) (crc : Nat) (cut ready : Bool) (s : State) : Out :=
  if s.boot.recovery || !(s.ob Obj.COM_H_ENABLE) then .next s
  else .next (s.hspiTake data crc cut ready (fun s =>
    (s.inc Obj.COM_H_RX_MSG).modCom (fun x => { x with inbox := x.inbox ++ [{ port := 2, peer := [], data := data }] })))

/-- The bytes of a read transaction: LEN, the datagram and its CRC-32; LEN 0 when none waits. -/
def hspiFrame (l : List Bytes) : Bytes :=
  match l with
  | [] => [0, 0]
  | d :: _ => leBytes 2 d.length ++ d ++ leBytes 4 (crc32 d)

/-- HSPI_READ (R496, R497): a read cut short leaves the message queued. -/
def execHspiRead (cut : Bool) (s : State) : Out :=
  if s.boot.recovery || !(s.ob Obj.COM_H_ENABLE) then .next s
  else
    let s := { s with rbytes := hspiFrame s.com.hspiOut }
    if cut || s.com.hspiOut.isEmpty then .next s
    else .next ((s.modCom (fun x => { x with hspiOut := x.hspiOut.drop 1 })).inc Obj.COM_H_TX_MSG).hspiShow

/-- HSPI_DBG_WRITE (R496, R498): the debug channel is served whatever COM_H_ENABLE holds. -/
def execHspiDbgWrite (data : Bytes) (crc : Nat) (cut ready : Bool) (s : State) : Out :=
  if s.boot.recovery then .next s
  else .next (s.hspiTake data crc cut ready (fun s =>
    (s.inc Obj.COM_H_DBG_MSG).modCom (fun x => {
      x with
      requests := x.requests ++ [⟨.debug, ⟨fieldN data 0 1, fieldN data 1 1, (data.drop 4).take (fieldN data 2 2)⟩⟩] })))

/-- HSPI_DBG_READ (R496). -/
def execHspiDbgRead (cut : Bool) (s : State) : Out :=
  if s.boot.recovery then .next s else
  let s := { s with rbytes := hspiFrame s.com.hspiDbg }
  if cut || s.com.hspiDbg.isEmpty then .next s
  else .next (s.modCom (fun x => { x with hspiDbg := x.hspiDbg.drop 1 }))

/-! ## GPIO (R535, R536) -/

/-- GPIO_EDGE (R535): GIO_p_IN takes the new level; a selected edge of an input pin raises GPIO_EDGE. -/
def execGpioEdge (p : Fin 16) (level : Bool) (s : State) : Out :=
  if bitOf (s.o Obj.GIO_IN) p == level then .next s
  else
    let s := (s.setO Obj.GIO_IN (setBit (s.o Obj.GIO_IN) p level)).tcGpio p level
    let cfg := s.o (Obj.GIO_p_CFG p)
    let sel := bitOf (fld cfg 5 4) (if level then 0 else 1)
    if fld cfg 1 0 = 0 && sel then .next ((s.inc Obj.GIO_EDGES).raise 0x156 p (b2n level)) else .next s

/-- A write of GIO_SET, GIO_CLR or GIO_TOGGLE (R536): none when the value does not fit. -/
def State.gioWrite (s : State) (f : Nat → Nat → Nat) (v : Nat) : Option State :=
  if v < 65536 then some (s.setO Obj.GIO_OUT (f (s.o Obj.GIO_OUT) v)) else none

/-- Set latches. -/
def gioSet (o v : Nat) : Nat := natOr o v
/-- Clear latches. -/
def gioClr (o v : Nat) : Nat := natAnd o (65535 - v)
/-- Invert latches. -/
def gioTog (o v : Nat) : Nat := o ^^^ v

/-- GIO_SET (R536). -/
def execGioSet (who : Fin 8) (v : Nat) (s : State) : Out :=
  .next ((s.gioWrite gioSet v).getD (s.dropped (windowAddr Obj.GIO_SET) v who 3))
/-- GIO_CLR (R536). -/
def execGioClr (who : Fin 8) (v : Nat) (s : State) : Out :=
  .next ((s.gioWrite gioClr v).getD (s.dropped (windowAddr Obj.GIO_CLR) v who 3))
/-- GIO_TOGGLE (R536). -/
def execGioToggle (who : Fin 8) (v : Nat) (s : State) : Out :=
  .next ((s.gioWrite gioTog v).getD (s.dropped (windowAddr Obj.GIO_TOGGLE) v who 3))

/-- A write of GIO_p_AT (R535): 0 disarms; a malformed instant, or one at or before now, is refused. -/
def State.gioAt (s : State) (p : Nat) (v : Nat) : Option State :=
  if v = 0 then some (s.setO (Obj.GIO_p_AT p) 0)
  else if ttValid v && s.now < linear v then some (s.setO (Obj.GIO_p_AT p) v)
  else none

/-- GIO_AT_WRITE (R535). -/
def execGioAtWrite (who : Fin 8) (p : Fin 16) (v : Nat) (s : State) : Out :=
  .next ((s.gioAt p v).getD (s.dropped (windowAddr (Obj.GIO_p_AT p)) v who 3))

/-- GPIO_TIMED_DRIVE (R535): served while SYSCLK runs, counted late otherwise. -/
def execGpioTimedDrive (p : Fin 16) (s : State) : Out :=
  let v := s.o (Obj.GIO_p_AT p)
  if v = 0 then .next s
  else
    let s := (s.upTo (linear v)).setO (Obj.GIO_p_AT p) 0
    if s.sysclk then .next ((s.latch p (s.ob (Obj.GIO_p_AT_LEVEL p))).inc Obj.GIO_TIMED_DONE)
    else .next (s.inc Obj.GIO_TIMED_LATE)

end Sys2Proof.Machine
end

