-- ==== Sys2Proof/Machine/Reset.lean ====
section
/-!
DEFINITION. What a reset of the main die does, for every cause of R584, and what each chapter keeps through it
(R29, R222, R239, R252, R341, R365, R385, R430, R439, R482, R505, R526, R548, R569, R606).
-/
namespace Sys2Proof.Machine

/-- Change the power die. -/
def State.modPower (s : State) (f : PowerSt → PowerSt) : State := { s with power := f s.power }

/-! ## Transmissions cut short (R540, R589) -/

/-! ## Memory (R606) -/

/-- Thermos banks outside a keep mask lose their contents. -/
def State.spoilBanks (s : State) (keep : Nat) : State :=
  (List.range 32).foldl (fun (s : State) b =>
    if bitOf keep b then s else s.spoil (0x20000000 + 0x10000 * b) 0x10000) s

/-- The descriptors of both queues of slice n are FREE (R257, R264, R285): no copy stands in them. -/
def State.freeQueues (s : State) (n : Fin 4) : State :=
  [false, true].foldl (fun (s : State) fabric => (List.range 16).foldl (fun (s : State) i => s.setDesc fabric n i 0) s) s

/-- The SRAM of slice n loses its contents (R386, R543); its queues are empty (log 184). -/
def State.spoilSlice (s : State) (n : Fin 4) : State := (s.spoil (slcBase n) 0x80000).freeQueues n

/-! ## Objects -/

/-- Objects that non-volatile memory or the power die keeps through every reset: fuses, the record area of the flash, the
SCCP class and its outcome, and PWR_RAIL_FAULT (R349, R461, R541, R542, R564). -/
def alwaysKept (k : Key) : Bool :=
  k == Obj.SHL_WRAP_GEN || k == Obj.COR_IMG_REVOKED || k == Obj.FLS_RECORDS || k == Obj.FLS_RETIRED ||
  (decide (0x1B10 ≤ k / 256) && decide (k / 256 ≤ 0x1B14) && decide (k % 256 ≤ 5)) ||
  k == Obj.PWR_SCCP_CLASS || k == Obj.PWR_SCCP_STATE || k == Obj.PWR_SCCP_WRITES || k == Obj.PWR_RAIL_FAULT

/-- Objects that every reset but a power-on reset keeps: the airtime accountant, the fault log and the alarm history (R239,
R365, R526). -/
def warmKept (k : Key) : Bool :=
  (decide (0x1000 ≤ k / 256) && decide (k / 256 ≤ 0x10FF)) ||
  k == Obj.EVT_LOG_N || k == Obj.EVT_LOG_LAST || k == Obj.EVT_LOG_LAST + 1 || k == Obj.EVT_LOG_NEXT ||
  k == Obj.EVT_LOG_LOST || k == Obj.SHL_ALARM_SRC || k == Obj.SHL_ALARM_TOTAL

/-- Objects that the wake reset from HIBERNATE keeps: the Shell, the counter block with the panel inputs, the timing state,
the running slot and the count of entries (R341, R548, R558, R568). -/
def wakeKept (k : Key) : Bool :=
  decide (k / 256 / 256 = 0x18) || (decide (0x320 ≤ k / 256) && decide (k / 256 ≤ 0x343)) ||
  k == Obj.TMB_SYNC_STATE || k == Obj.COR_IMG_RUN || k == Obj.PWR_HIBS

/-- The objects that a reset of this cause keeps: led when the main ledger survives (R385), hot when the hot table does
(R222). -/
def resetKeeps (cause : Nat) (led hot : Bool) (k : Key) : Bool :=
  alwaysKept k || (cause != 1 && warmKept k) || (cause == 4 && wakeKept k) ||
  (led && (k == Obj.JOB_LED_PROD || k == Obj.JOB_LED_CONS)) || (hot && k == Obj.MAC_HOT_USED)

/-! ## The reset -/

/-- The Shell after a reset other than a wake: the fuses and the owner hash of OTP stay (R341, R349, R365, R369). -/
def ShellSt.afterReset (x : ShellSt) : ShellSt := { ownerHash := x.ownerHash }

/-- The power die after a reset of the main die (R543, R589): the rails and their inputs stay, and so does what it knows of
the kept banks. -/
def PowerSt.afterReset (p : PowerSt) : PowerSt :=
  { vin := p.vin, en := p.en, buck := p.buck, pgGood := p.pgGood, e0 := p.e0, rails := p.rails, failAt := p.failAt
    restartAt := p.restartAt, thermal := p.thermal, railFaultReport := p.railFaultReport, past := p.past
    sccpDone := p.sccpDone, sccpReport := p.sccpReport, xo32k := p.xo32k, mode := p.mode, keptBefore := p.keptBefore }

/-- The airtime accountant after a reset (R239): its bins stay; a count that restarts at 0 restarts its boundaries. -/
def AirSt.afterReset (a : AirSt) (now : Instant) : AirSt := { a with supers := now / superT, epochs := now / epochT }

/-- The state of the main die when it leaves reset with this cause: what its chapter keeps, and everything else as a power-on
reset leaves it (R505). -/
def State.fresh (s : State) (cause : Nat) : State :=
  let wake := cause == 4
  let led := cause != 1 && (!wake || bitOf s.power.keptBefore 15)
  let hot := wake && s.power.keptBefore / 2 ^ 28 == 15
  let now := if wake then s.now else 0
  { State.reset with
    now := now, draws := s.draws, rdata := s.rdata, rbytes := s.rbytes
    objs := s.objs.filter (fun e => resetKeeps cause led hot e.1)
    blobs := s.blobs.filter (fun e => wake && decide (e.1 / 256 / 256 = 0x18))
    mem := s.mem
    time := {
      tickMark := if wake then now / frameT + 1 else 0
      slotMark := if wake then now / slotT + 1 else 0
      tcs := if wake then s.time.tcs else State.reset.time.tcs
      panels := if wake then s.time.panels else State.reset.time.panels }
    com := { log := if cause = 1 then [] else s.com.log }
    cores := State.reset.cores.map (fun c => { c with cycleAt := now })
    air := if cause = 1 then {} else s.air.afterReset now
    jobs := { recover := led }
    mac := if hot then { victims := s.mac.victims } else {}
    fab := { prevAddr := if s.holdsAddr then s.o Obj.FAB_ADDR else s.fab.prevAddr }
    shell := if wake then s.shell else s.shell.afterReset
    flash := s.flash
    power := { s.power.afterReset with resetsDue := if wake then s.power.resetsDue else [] }
    boot := {
      config := s.boot.config, keyBlobs := s.boot.keyBlobs, catalog := s.boot.catalog
      rejected := if wake then s.boot.rejected else none, size := if wake then s.boot.size else 0 }
    pending := s.pending }

/-- Purges whose fuse is not yet burnt: the burn completes from the reserve capacitor (R363). -/
def State.burnsDue (s : State) : Nat := (s.shell.alarms.filter (fun a => a.act == 3)).length

/-- The keys of open sessions are erased (R514), also where the Shell itself is not reset. -/
def State.sessionKeysGone (s : State) : State :=
  fin8.foldl (fun (s : State) (x : Fin 8) =>
    if s.o (Obj.COM_Ss_STATE x) = 0 then s else (s.emptySlot (248 + x.val)).countSlots) s

/-- The main die is reset with a cause of R584. -/
def State.mainReset (s : State) (cause : Nat) : State :=
  let s := ((s.cutAir 0x1A).flashCut).sessionKeysGone
  let burns := if cause = 4 then 0 else s.burnsDue
  let hot := cause == 4 && s.power.keptBefore / 2 ^ 28 == 15
  let report := s.power.railFaultReport
  let sccp := s.power.sccpReport
  let s := s.fresh cause
  let s := s.setO Obj.SHL_WRAP_GEN (min 32 (s.o Obj.SHL_WRAP_GEN + burns))
  let s := if cause = 1 then s.spoilBanks 0 else s
  let s := fin4.foldl (fun (s : State) (n : Fin 4) => s.spoilSlice n) s
  let s := if hot then s else s.hotEmpty
  let s := s.huskEmpty
  let s := s.setO Obj.COR_RESET_CAUSE cause
  let s := if report && cause == 1 then
      (s.modPower (fun p => { p with railFaultReport := false })).raise 0x161 0 (s.o Obj.PWR_RAIL_FAULT)
    else s
  if sccp && cause == 1 then
    (s.modPower (fun p => { p with sccpReport := false })).raise 0x167 0
      (s.o Obj.PWR_SCCP_CLASS + 256 * s.o Obj.PWR_SCCP_STATE)
  else s

end Sys2Proof.Machine
end

