-- ==== Sys2Proof/Machine/Power.lean ====
section
/-!
DEFINITION. The power die, the power states and the hardware half of Compass (18_power_compass.md R537-R560,
20_balls_electrical.md R593, R597). The plan of the base firmware (R556) stands in Plan.lean.
-/
namespace Sys2Proof.Machine

/-- Microseconds in µt, rounded up. -/
def usT (n : Nat) : Nat := ceilDiv (384 * n) 10

/-! ## Power-up and power-down (R537-R541, R597) -/

/-- The buck starts: E0 (R539). -/
def State.buckStart (s : State) (vin : Nat) : State :=
  let s := s.modPower (fun p => {
    p with
    vin := vin, en := true, buck := true, e0 := s.now, rails := 0, restartAt := none, thermal := false, past := false })
  let s := if s.power.sccpDone then s else s.setO Obj.PWR_SCCP_STATE 0
  s.modPower (fun p => { p with sccpDone := false })

/-- BUCK_START (R537, R542). -/
def execBuckStart (vin : Nat) (s : State) : Out :=
  if !s.power.buck && decide (850 ≤ vin) && decide (vin ≤ 6200) && s.power.restartAt.isNone && !s.power.past then
    .next (s.buckStart vin)
  else .next s

/-- BUCK_RESTART (R537). -/
def execBuckRestart (vin : Nat) (s : State) : Out :=
  if !s.power.buck && s.power.past && decide (vin < 6100) && s.power.restartAt.isNone && decide (850 ≤ vin) then
    .next (s.buckStart vin)
  else .next s

/-- Offset from E0 of step k of the table of R539, in µt: 2.0, 2.5, 3.0, 3.5, 4.0 and 5.0 ms. -/
def railStep (k : Nat) : Nat := nth [76800, 96000, 115200, 134400, 153600, 192000] k 192000

/-- POWER_UP_SEQUENCE (R539): the next step; VCORE comes up at 0.80 V with zero bias at the fourth. -/
def execPowerUpSequence (s : State) : Out :=
  let k := s.power.rails
  if s.power.buck && decide (k < 5) && s.power.failAt.isNone then
    let s := (s.upTo (s.power.e0 + railStep k)).modPower (fun p => { p with rails := k + 1 })
    .next (if k = 3 then (s.setO Obj.PWR_VCORE_NOW 800).setO Obj.PWR_BB_NOW 0 else s)
  else .next s

/-- PG_GOOD (R539, R589): PG_N goes low, and the main die leaves power-on reset once RESET_N is high. -/
def execPgGood (resetN : Bool) (s : State) : Out :=
  if s.power.buck && s.power.rails = 5 && s.power.failAt.isNone then
    let s := (s.upTo (s.power.e0 + railStep 5)).modPower (fun p => { p with rails := 6, pgGood := true, porDue := !resetN })
    .next (if resetN then s.mainReset 1 else s)
  else .next s

/-- PG_N is removed at F (R540): the POWER source of the Shell acts and every PA ramps down. -/
def State.powerFail (s : State) : State :=
  let f := s.now
  let s := s.modPower (fun p => { p with pgGood := false, failAt := some f })
  let act := s.alarmAct 7
  let s := if act = 0 then s else s.alarmLatch 7 act
  s.airStop 0x1B

/-- POWER_FAIL (R540). -/
def execPowerFail (cause : Nat) (vin : Nat) (s : State) : Out :=
  let ok := if cause = 1 then decide (vin < 800) else if cause = 2 then true else cause == 3 && decide (6200 < vin)
  if s.power.pgGood && ok then
    .next ((s.modPower (fun p => { p with vin := vin, en := cause != 2, past := cause == 3 })).powerFail)
  else .next s

/-- BUCK_STOP (R537, R540): at F + 100 µs the rails fall, VCORE first, and nothing on the main die runs. Below 3 V the power die
forgets its rail faults (R541). -/
def execBuckStop (s : State) : Out :=
  match s.power.failAt with
  | none => .next s
  | some f =>
    let s := (s.upTo (f + usT 100)).modPower (fun p => {
      p with
      buck := false, rails := 0, failAt := none, xo32k := false, ramp := none, entry := none, wakes := [], wakeAt := none
      resetsDue := [] })
    let s := s.setO Obj.PWR_VCORE_NOW 0
    let s : State := { s with cores := s.cores.map (fun c => { c with mode := .held }) }
    if s.power.vin ≤ 300 then
      .next ((s.setO Obj.PWR_RAIL_FAULT 0).modPower (fun p => { p with railFaultReport := false, sccpDone := false }))
    else .next s

/-- RAIL_FAULT (R541). -/
def execRailFault (rail : Nat) (s : State) : Out :=
  if s.power.pgGood && decide (rail < 11) then
    let s := s.setO Obj.PWR_RAIL_FAULT (setBit (s.o Obj.PWR_RAIL_FAULT) rail true)
    let s := s.modPower (fun p => { p with restartAt := some (s.now + usT 100000), railFaultReport := true })
    .next s.powerFail
  else .next s

/-- RAIL_FAULT_RESTART (R541). -/
def execRailFaultRestart (s : State) : Out :=
  match s.power.restartAt with
  | none => .next s
  | some t =>
    if !s.power.buck && !s.power.thermal && s.power.failAt.isNone then .next ((s.upTo t).buckStart s.power.vin) else .next s

/-- THERMAL_SHUTDOWN (R597). -/
def execThermalShutdown (s : State) : Out :=
  if s.power.pgGood then
    let s := s.powerFail
    let s := s.setO Obj.PWR_RAIL_FAULT (setBit (s.o Obj.PWR_RAIL_FAULT) 15 true)
    .next (s.modPower (fun p => { p with thermal := true, restartAt := some (s.now + usT 100000), railFaultReport := true }))
  else .next s

/-- THERMAL_RESTART (R597). -/
def execThermalRestart (s : State) : Out :=
  match s.power.restartAt with
  | none => .next s
  | some t =>
    if !s.power.buck && s.power.thermal && s.power.failAt.isNone then .next ((s.upTo t).buckStart s.power.vin) else .next s

/-! ## Classification (R542) -/

/-- SCCP (R542): the class answered stands in rdata; the SCCP event follows at the next start. -/
def execSccp (vin : Nat) (ok : Bool) (s : State) : Out :=
  if !s.power.buck && decide (300 ≤ vin) && decide (vin ≤ 800) then
    let s := s.setO Obj.PWR_SCCP_STATE (if ok then 1 else 2)
    .next ({ s with rdata := s.o Obj.PWR_SCCP_CLASS }.modPower (fun p => {
      p with vin := vin, sccpDone := true, sccpReport := true }))
  else .next s

/-- A write of PWR_SCCP_CLASS; none when refused (R542, R557). -/
def State.sccpClass (s : State) (v : Nat) : Option State :=
  if 10 ≤ v ∧ v ≤ 15 ∧ 0 < s.o Obj.PWR_SCCP_WRITES then
    some ((s.setO Obj.PWR_SCCP_CLASS v).setO Obj.PWR_SCCP_WRITES (s.o Obj.PWR_SCCP_WRITES - 1))
  else none

/-- SCCP_CLASS_WRITE (R542). -/
def execSccpClassWrite (who : Fin 8) (v : Nat) (s : State) : Out :=
  .next ((s.sccpClass v).getD (s.dropped (windowAddr Obj.PWR_SCCP_CLASS) v who 3))

/-! ## The power table (R545) -/

/-- The table is within the ranges of R545. -/
def tableOk (b : Bytes) : Bool :=
  let f o n lo hi := decide (lo ≤ fieldN b o n) && decide (fieldN b o n ≤ hi)
  decide (b.length = 8) && f 0 1 1 1 && f 1 1 2 10 && f 2 1 10 60 && f 3 1 2 20 && f 4 2 500 2000

/-- A write of PWR_TABLE; none when refused whole. The reserved bytes are ignored and read as 0 (R8). -/
def State.tableWrite (s : State) (b : Bytes) : Option State :=
  if tableOk b then some (s.setBlob Obj.PWR_TABLE (b.take 6 ++ [0, 0])) else none

/-- PWR_TABLE_WRITE (R545). -/
def execPwrTableWrite (who : Fin 8) (b : Bytes) (s : State) : Out :=
  .next ((s.tableWrite b).getD (s.dropped (windowAddr Obj.PWR_TABLE) (leNat (b.take 4)) who 3))

/-! ## Slices gated and ungated (R175, R61) -/

/-- The copies READY or BOUND in the queues of a slice that is gated end their steps with GATED (log 184). -/
def State.queuesEnd (s : State) (n : Fin 4) : State :=
  [false, true].foldl (fun (s : State) fabric => (List.range 16).foldl (fun (s : State) i =>
    if s.descState fabric n i = 1 || s.descState fabric n i = 2 then
      let j := s.descJob fabric n i
      let s := (s.setDesc fabric n i 0).modSteps (fun x => { x with
        binds := x.binds.filter (fun y => !(y.slice == n && y.desc == i && y.fabric == fabric)) })
      match j with
      | none => s
      | some j => s.stepEnd j.ticket (radioStepNo fabric n) 0x0D
    else s) s) s

/-- A slice is gated at a tick: HALTED, its synthesizer OFF, its SRAM lost. -/
def State.gateSlice (s : State) (n : Fin 4) : State :=
  if s.slices[n].gated then s
  else
    let s := ((s.jobsKeepSrc (slcBase n) 0x80000).dropEntries n 0x0D).txCutAll n 0x0D
    let s := ((s.setO (Obj.SLCn_LC_STATE n) 0).setO (Obj.SLCn_CLOCKED n) 0).setSyn n 0
    let s := fin48.foldl (fun (s : State) (k : Fin 48) => if s.lsnState n k = 0 then s else s.setLsn n k 0) s
    let s := s.queuesEnd n
    let s := s.modSlice n (fun x => {
      x with
      gated := true, checking := none, pend := none, ready := none, prog := none, runs := [], wins := [], park := false
      late := false, rx := [], txs := [], calAgain := false, fbRun := 0
      lsn := Vector.replicate 48 {} })
    ((s.fpPipe n).modPool n.castSucc (fun _ => {})).spoilSlice n

/-- A slice is ungated at a tick: FALLBACK, its centre applied again. -/
def State.ungateSlice (s : State) (n : Fin 4) : State :=
  if !s.slices[n].gated then s
  else
    let s := (s.modSlice n (fun x => { x with gated := false, ungated := true, tick := frameStart s.now })).setO (Obj.SLCn_CLOCKED n) 1
    let c := s.o (Obj.SLCn_CENTRE_HZ n)
    (s.setO (Obj.SLCn_LC_STATE n) 2).centreApply n c c

/-- Gate the slices of a mask and ungate the others. -/
def State.gateMask (s : State) (mask : Nat) : State :=
  fin4.foldl (fun (s : State) (n : Fin 4) => if bitOf mask n then s.gateSlice n else s.ungateSlice n) s

/-! ## VCORE and bias (R543, R554) -/

/-- Planned VCORE of a state. -/
def State.planV (s : State) (st : Nat) : Nat :=
  s.o (if st = 1 then Obj.PWR_PLAN_VCORE_RUN else if st = 2 then Obj.PWR_PLAN_VCORE_TRIM else Obj.PWR_PLAN_VCORE_DOZE)

/-- Planned bias of a state. -/
def State.planB (s : State) (st : Nat) : Int :=
  if st = 1 then s.oi 16 Obj.PWR_PLAN_BB_RUN else if st = 2 then 0 else s.oi 16 Obj.PWR_PLAN_BB_DOZE

/-- µs that VCORE and bias take over these spans in mV at the slews of the power table (R545). -/
def State.rampUs (s : State) (v b : Nat) : Nat :=
  let t := s.blob Obj.PWR_TABLE
  max (ceilDiv v (fieldN t 1 1)) (ceilDiv b (fieldN t 2 1))

/-- A ramp to these values begins, unless they are in force (R545, R554). -/
def State.rampTo (s : State) (v : Nat) (b : Int) : State :=
  let v0 := s.o Obj.PWR_VCORE_NOW
  let b0 := s.oi 16 Obj.PWR_BB_NOW
  if v0 = v ∧ b0 = b then s
  else
    let us := s.rampUs ((v : Int) - v0).natAbs (b - b0).natAbs
    s.modPower (fun p => { p with ramp := some ⟨v, b, s.now + usT us⟩ })

/-- VCORE_RAMP_DONE (R541, R544, R545). -/
def execVcoreRampDone (s : State) : Out :=
  match s.power.ramp with
  | none => .next s
  | some r =>
    .next ((((s.upTo r.by_).setO Obj.PWR_VCORE_NOW r.vcore).setI 16 Obj.PWR_BB_NOW r.bias).modPower (fun p => { p with ramp := none }))

/-- The VCORE that the rails hold or are ramping to. -/
def State.vcoreAim (s : State) : Nat := match s.power.ramp with | some r => r.vcore | none => s.o Obj.PWR_VCORE_NOW

/-- A commit of plan objects applies at a tick (R552, R554): a higher VCORE and the bias at once, a lower VCORE in steps. -/
def State.planApply (s : State) : State :=
  let st := s.pwr
  let s := s.setO Obj.PWR_CPS_GUARD_MV 0
  if 2 < st then s
  else
    let v := s.planV st
    let b := s.planB st
    let aim := s.vcoreAim
    let sf := s.sf
    ((s.rampTo (max v aim) b).setO Obj.PWR_PLAN_STEP (b2n (decide (v < aim)))).modPower (fun p => { p with stepSf := some sf })

/-- VCORE_LOWER_STEP (R554): one at each superframe boundary after the plan's tick. -/
def execVcoreLowerStep (s : State) : Out :=
  if s.ob Obj.PWR_PLAN_STEP && decide (s.pwr ≤ 2) then
    let s := if s.power.stepSf = some s.sf then s.upTo (boundaryAt superT (s.now + 1)) else s
    let sf := s.sf
    let s := s.modPower (fun p => { p with stepSf := some sf })
    if s.o Obj.PWR_CPS_SLACK_NOW ≤ s.o Obj.PWR_CPS_SLACK_FLOOR + 2 then .next s
    else
      let v := max (s.planV s.pwr) (s.o Obj.PWR_VCORE_NOW - 10)
      .next ((s.setO Obj.PWR_VCORE_NOW v).setO Obj.PWR_PLAN_STEP (b2n (decide (s.planV s.pwr < v))))
  else .next s

/-! ## Entry (R423, R424, R544, R546) -/

/-- PWR_DOZE_WATCH could not be watched on slice 0 (R544). -/
def State.watchBad (s : State) : Bool :=
  let w := s.o Obj.PWR_DOZE_WATCH
  let c := s.o (Obj.SLCn_CENTRE_HZ 0)
  w != 0 && (c == 0 || !(assignOk c (s.grid 0 0) (s.grid 0 1) w))

/-- The reason for which the power die refuses a target, the lowest that applies; 0 none (R544). -/
def State.entryReason (s : State) (target : Nat) : Nat :=
  if target = s.pwr || decide (target < 3) then 0
  else if target = 3 && s.o Obj.PWR_KEEP_DOZE % 4 ≠ 3 then 1
  else if !((List.range 10).any (fun c => wakeUsable target c && bitOf (s.wakeMask target) (c - 1))) then 2
  else if target = 3 && s.watchBad then 3
  else if s.power.vin < 900 || s.power.ramp.isSome then 4
  else 0

/-- Every job ends with cause POWER (R385): a QUEUED one ABANDONED, a running data job where it stands in its units, which is a
free value, a running FLOOD or SEND with its steps. -/
def State.jobsPowerEnd (s : State) : State :=
  let s := s.jobs.queue.foldl (fun (s : State) x =>
    let d := x.desc
    if !x.running then s.jobOver x.core x.ticket d 5 0x1B 0 0
    else if 7 ≤ dKind d then s
    else
      let u := unitOf d
      let done := min (dLen d) (s.freeBelow (dLen d / u + 2) * u)
      ((s.drawn.readSrc d done).jobWrites x done (done = dLen d)).jobOver x.core x.ticket d (outcomeOf (selOf d) done) 0x1B done 0) s
  let s := s.flash.jobs.foldl (fun (s : State) j =>
    s.flashEnd j (outcomeOf (if j.op = 0 then j.len else 1) j.done) 0x1B j.done (b2n j.running)) s
  s.steps.jobs.foldl (fun (s : State) j =>
    (List.range 6).foldl (fun (s : State) k => s.stepEnd j.ticket k 0x1B) s) s

/-- What happens at acceptance A of an entry into DOZE or HIBERNATE (R546). -/
def State.entryBegin (s : State) (target : Nat) : State :=
  if target = 3 then
    let s := s.modFlash (fun x => { x with
      banks := x.banks.map (fun b => { b with suspended := b.suspended || b.erasing }) })
    let s := s.flash.jobs.foldl (fun (s : State) j =>
      if j.running then s.modBank (bankOf j.area j.sector) (fun b => { b with suspended := true }) else s) s
    if s.dramOn then s.dramDrain.setO Obj.DRM_STATE 3 else s
  else s.jobsPowerEnd

/-- The entry that COR_ENTRY_REQ names is decided while the warden waits (R423 step 4, R544): core 4 already stands in WAIT. -/
def State.enterPower (s : State) : State :=
  let target := s.o Obj.COR_ENTRY_REQ
  let s := s.setO Obj.COR_ENTRY_REQ 0
  let reason := s.entryReason target
  if reason ≠ 0 then
    let s := (s.setO Obj.COR_ENTRY_RESULT 4).setO Obj.PWR_STATE_REFUSE reason
    (s.toCore 4 ⟨6, 0, 0xFF⟩).raise 0x168 0 reason
  else
    let s := (s.inc Obj.COR_ENTRIES).setO Obj.COR_ENTRY_RESULT 1
    let s := s.modPower (fun p => { p with entry := some ⟨target, s.now, nextFrame s.now⟩ })
    if target = s.pwr || decide (target < 3) then s else s.entryBegin target

/-- An entry into RUN or TRIM takes force (R424, R545): slices gated or ungated, a ramp to the planned voltages. -/
def State.pstateTake (s : State) (target : Nat) : State :=
  if target = s.pwr then s
  else
    let s := (s.setO Obj.PWR_STATE target).gateMask (if target = 2 then s.o Obj.PWR_TRIM_GATE else 0)
    (s.rampTo (s.planV target) (s.planB target)).setO Obj.PWR_PLAN_STEP 0

/-- PSTATE (R424): RUN or TRIM takes force at the tick, and the warden hears of it. -/
def execPstate (s : State) : Out :=
  match s.power.entry with
  | none => .next s
  | some e =>
    if e.target < 3 || e.target = s.pwr then
      .next ((((s.upTo e.at_).modPower (fun p => { p with entry := none })).pstateTake e.target).toCore 4 ⟨6, 0, e.target⟩)
    else .next s

/-- Slice 0 watches (R547): its link controller PARKED, listener 0 on the assignment, nothing else. -/
def State.watchSlice (s : State) : State :=
  let n : Fin 4 := 0
  let s := (s.dropEntries n 0x0D).txCutAll n 0x0D
  let s := fin48.foldl (fun (s : State) (k : Fin 48) => s.assign n k (if k = 0 then s.o Obj.PWR_DOZE_WATCH else 0xFFFFFFFF)) s
  let s := s.setO (Obj.SLCn_LC_STATE n) 1
  (s.modSlice n (fun x => {
    x with
    checking := none, pend := none, ready := none, prog := none, runs := [], wins := [], park := true, acc := []
    accRestart := true })).fpPipe n

/-- µt from Tn to the state DOZE (R545, R546): SYSCLK stops after 1 µs; the ramps take what the table allows for 250 mV and
900 mV. -/
def State.dozeTime (s : State) : Nat := usT (1 + s.rampUs 250 900)

/-- µs by which a slower power table lengthens a wake from DOZE (R545): the built-in one ramps in 25 µs. -/
def State.slowUs (s : State) : Nat := s.rampUs 250 900 - 25

/-- Cycle counts up to now, before SYSCLK stops (R403). -/
def State.syncCores (s : State) : State := { s with cores := s.cores.map (fun c => c.sync s.now s.sysclk) }

/-- What stops at Tn for DOZE (R546, R547): the slices but for a watching one, the banks not kept, SYSCLK after 1 µs. -/
def State.dozeStop (s : State) (tn : Instant) : State :=
  let s := s.upTo tn
  let watch := s.o Obj.PWR_DOZE_WATCH != 0
  let s := fin4.foldl (fun (s : State) (n : Fin 4) =>
    if n = 0 && watch then (if s.slices[n].gated then s.ungateSlice n else s).watchSlice else s.gateSlice n) s
  let s := s.spoilBanks (s.o Obj.PWR_KEEP_DOZE)
  let s := (s.setO Obj.PWR_RESUME s.pwr).inc Obj.PWR_DOZES
  let s := (s.upTo (tn + usT 1)).syncCores
  let keep := s.o Obj.PWR_KEEP_DOZE
  let s := s.modPower (fun p => { p with entry := none, ramp := none, keptBefore := keep })
  s.upTo (tn + s.dozeTime)

/-- DOZE_ENTRY (R546, R547). -/
def execDozeEntry (s : State) : Out :=
  match s.power.entry with
  | none => .next s
  | some e =>
    if e.target = 3 && s.pwr ≠ 3 then
      let s := s.dozeStop e.at_
      .next (((s.setO Obj.PWR_STATE 3).setO Obj.PWR_VCORE_NOW (s.planV 3)).setI 16 Obj.PWR_BB_NOW (s.planB 3))
    else .next s

/-- What stops at Tn for HIBERNATE (R546, R548): slices, DRAM, ports, the banks not kept, SYSCLK after 1 µs, the rails. -/
def State.hibStop (s : State) (tn : Instant) : State :=
  let s := s.upTo tn
  let s := fin4.foldl (fun (s : State) (n : Fin 4) => s.gateSlice n) s
  let s := fin2.foldl (fun (s : State) (p : Fin 2) => s.linkDown p) (s.setO Obj.DRM_STATE 0)
  let s := (s.upTo (tn + usT 1)).syncCores
  let keep := s.o Obj.PWR_KEEP_HIB
  let s := (s.spoilBanks keep).modPower (fun p => { p with entry := none, ramp := none, keptBefore := keep, slpCycles := 0 })
  let t := s.blob Obj.PWR_TABLE
  s.upTo (tn + usT (1 + fieldN t 3 1 + ceilDiv (s.o Obj.PWR_VCORE_NOW) (fieldN t 1 1)))

/-- HIBERNATE_ENTRY (R546, R548). -/
def execHibernateEntry (s : State) : Out :=
  match s.power.entry with
  | none => .next s
  | some e =>
    if e.target = 4 && s.pwr ≠ 4 then
      let s := s.hibStop e.at_
      .next ((((s.setO Obj.PWR_STATE 4).setO Obj.PWR_VCORE_NOW 0).setO Obj.PWR_BB_NOW 0).inc Obj.PWR_HIBS)
    else .next s

/-! ## Wake (R549, R550) -/

/-- The condition of sources 1 and 2 is a decision of the panel block (R549): an input that is pressed, or in TOUCH mode. -/
def State.panelWoke (s : State) (c : Nat) : Bool :=
  fin4.any (fun (k : Fin 4) =>
    s.o (Obj.TMB_PNLk_MODE k) == c && (c == 2 || bitOf (s.o (Obj.TMB_PNLk_STATE k)) 0))

/-- WAKE_SOURCE (R546, R549): an enabled source is pending; W when the state is reached already. -/
def execWakeSource (c : Nat) (s : State) : Out :=
  if c ≤ 2 && !(s.panelWoke c) then .next s else .next (s.wakeBy c)

/-- PWR_WAKE_SRC of pending sources. -/
def wakeBits (l : List Nat) : Nat := l.foldl (fun v c => setBit v (c - 1) true) 0

/-- The lowest pending source. -/
def wakeLow (l : List Nat) : Nat := l.foldl min 9

/-- The tables of banks that were not kept through DOZE (R222, R252, R385). -/
def State.unkept (s : State) : State :=
  let keep := s.power.keptBefore
  let s := if keep / 2 ^ 28 = 15 then s else s.hotEmpty
  let s := if keep / 2 ^ 20 % 256 = 255 then s else s.huskEmpty
  if bitOf keep 15 then s
  else
    let s := fin2.foldl (fun (s : State) (u : Fin 2) => if s.jobs.crcs[u].owner.isSome then s.crcOwn u none else s) s
    let s := (s.modSteps (fun x => { x with jobs := [] })).setO Obj.JOB_RUNNING 0
    ((s.setO Obj.JOB_LED_PROD 1).setO Obj.JOB_LED_CONS 1).modJobs (fun j => { j with queue := [] })

/-- The DRAM leaves self-refresh (R455): a round of each channel follows and the row tables restart. -/
def State.dramWake (s : State) : State :=
  if s.o Obj.DRM_STATE = 3 then
    (s.setO Obj.DRM_STATE (if s.dramOnly.isSome then 4 else 2)).modDram (fun d => {
      d with
      wakeDue := Vector.replicate 2 true, rows := Vector.replicate 16 [], due := [], throttled := [], rhRaised := []
      openRow := Vector.replicate 16 none, hits := Vector.replicate 16 0 })
  else s

/-- From W to W + 32 µs and what a slower power table adds (R545, R550): the sources and the instant recorded, the tables of lost banks emptied, DRAM out of self-refresh,
the state that DOZE was entered from. -/
def State.dozeResume (s : State) (w : Instant) (ws : List Nat) : State :=
  let s := s.upTo w
  let s := (s.setO Obj.PWR_WAKE_SRC (wakeBits ws)).setO Obj.PWR_WAKE_AT (tt64 w)
  let s := s.unkept.dramWake
  let slow := s.slowUs
  let s := s.upTo (w + usT (32 + slow))
  let r := s.o Obj.PWR_RESUME
  let s := s.syncCores.setO Obj.PWR_STATE r
  let s := (s.setO Obj.PWR_VCORE_NOW (s.planV r)).setI 16 Obj.PWR_BB_NOW (s.planB r)
  let s := s.modPower (fun p => { p with wakes := [], wakeAt := none, ungateAt := some (w + usT (40 + slow)) })
  let s := s.modFlash (fun x => { x with banks := x.banks.map (fun b => { b with suspended := false }) })
  { s with
    cores := s.cores.map (fun c => { c with mode := if c.mode = .wait ∧ !c.queue.isEmpty then .run else c.mode }) }

/-- DOZE_WAKE (R550): up to W + 32 µs; the gated slices follow at the first tick from W + 40 µs. -/
def execDozeWake (s : State) : Out :=
  if s.pwr = 3 && !s.power.wakes.isEmpty then
    let ws := s.power.wakes
    let s := (s.dozeResume (s.power.wakeAt.getD s.now) ws).portsWake.toCore 4 ⟨5, 0, wakeLow ws⟩
    .next (s.raise 0x169 0 (wakeBits ws))
  else .next s

/-- Slices gated in DOZE ungate at the first tick from W + 40 µs (R550). -/
def State.ungateDue (s : State) : State :=
  match s.power.ungateAt with
  | none => s
  | some t =>
    if t ≤ s.now then
      (s.gateMask (if s.pwr = 2 then s.o Obj.PWR_TRIM_GATE else 0)).modPower (fun p => { p with ungateAt := none })
    else s

/-- TMB_NOW and the airtime accounts move on by the time slept: n cycles of XO32K (R239, R548). -/
def State.hibAdvance (s : State) (n : Nat) : State :=
  let d := n * 9375 / 8
  let w := s.now + d
  let s := (s.turnAccounts false (d / superT)).turnAccounts true (d / epochT)
  let s := { s with now := w }
  let st := s.o Obj.TMB_SYNC_STATE
  let s := if st = 2 || st = 3 then s.modFab (fun x => { x with holdSf := s.runSf }) else s
  if 2 ≤ st then s.setO Obj.TMB_SYNC_STATE 5 else s

/-- HIBERNATE_WAKE (R239, R548, R550). -/
def execHibernateWake (cycles : Nat) (s : State) : Out :=
  if s.pwr = 4 && !s.power.wakes.isEmpty then
    let ws := s.power.wakes
    let s := s.hibAdvance (if s.power.xo32k then cycles else 0)
    let w := s.now
    let s := ((s.mainReset 4).setO Obj.PWR_WAKE_SRC (wakeBits ws)).setO Obj.PWR_WAKE_AT (tt64 w)
    .next (s.raise 0x169 0 (wakeBits ws))
  else .next s

/-- XO32K_START (R593). -/
def execXo32kStart (s : State) : Out :=
  if 2 ≤ s.power.rails then .next (s.modPower (fun p => { p with xo32k := true })) else .next s

/-! ## The margin guard and the monitors (R551, R552) -/

/-- The ceiling of VCORE in the state in force (R555). -/
def State.vcoreCeil (s : State) : Nat := if s.pwr ≤ 2 then 900 else 800

/-- MARGIN_GUARD (R552): once for the end of each slot. -/
def execMarginGuard (s : State) : Out :=
  let slack := s.o Obj.PWR_CPS_SLACK_NOW
  if slack < s.o Obj.PWR_CPS_SLACK_FLOOR && s.pwr ≠ 4 && !s.power.guardDone then
    let s := s.modPower (fun p => { p with guardDone := true })
    let v := s.o Obj.PWR_VCORE_NOW
    if v < s.vcoreCeil then
      let s := s.setO Obj.PWR_VCORE_NOW (min s.vcoreCeil (v + 10))
      let s := (s.addO 8 Obj.PWR_CPS_GUARD_MV 10).inc Obj.PWR_CPS_GUARD_UPS
      .next (if s.power.guardRaised then s
        else (s.modPower (fun p => { p with guardRaised := true })).raise 0x163 0 slack)
    else
      .next (if s.power.lostRaised then s
        else (s.modPower (fun p => { p with lostRaised := true })).raise 0x164 0 slack)
  else .next s

/-- The slot monitors (R537, R551, R557): VIN and V5, the hottest sensor, the slack of the slot; VIN_LOW and THERMAL_WARN once
a superframe each. -/
def State.slotMonitors (s : State) (vin v5 : Nat) (tj : Int) (slack : Nat) : State :=
  let s := ((s.setO Obj.PWR_VIN vin).setO Obj.PWR_V5 v5).modPower (fun p => { p with vin := vin })
  let s := s.setI 16 Obj.PWR_TJ tj
  let s := s.setO Obj.PWR_CPS_SLACK_NOW slack
  let st := s.pwr
  let s := s.modPower (fun p => {
    p with
    slackRun := if st = 1 then min p.slackRun slack else p.slackRun
    slackTrim := if st = 2 then min p.slackTrim slack else p.slackTrim
    guardDone := false })
  let s := if 800 ≤ vin && vin < 900 && !s.power.vinLow then
      (s.modPower (fun p => { p with vinLow := true })).raise 0x160 0 vin
    else s
  if ((8 * s.o Obj.PWR_TJ_WARN : Nat) : Int) < tj && !s.power.warnRaised then
    (s.modPower (fun p => { p with warnRaised := true })).raise 0x162 0 (s.o Obj.PWR_TJ)
  else s

/-- The superframe monitors (R551): the ageing oscillators, TJ, and the drift while SYNCED. -/
def State.superMonitors (s : State) (age : Nat) : State :=
  let s := s.setO Obj.PWR_CPS_AGE (age % 65536)
  let tj := s.oi 16 Obj.PWR_TJ
  let f := s.oi 32 Obj.FAB_FREQ
  let synced := s.o Obj.TMB_SYNC_STATE == 2
  s.modPower (fun p =>
    let p := {
      p with
      tjSum := p.tjSum + tj, tjCount := p.tjCount + 1
      vinLow := false, guardRaised := false, lostRaised := false, warnRaised := false }
    if synced then {
      p with
      driftSum := p.driftSum + f, driftTj := p.driftTj + f * tj, driftTjSum := p.driftTjSum + tj
      driftTj2 := p.driftTj2 + tj * tj, driftCount := p.driftCount + 1 }
    else p)

/-! ## The survey (R553) -/

/-- PWR_CPS_SURVEY_CMD (R553, R559). -/
def State.surveyCmd (s : State) (v : Nat) : Option State :=
  if v = 1 then some (s.modPower (fun p => { p with surveyAsked := some (p.surveyAsked.getD s.now) })) else none

/-- PWR_CPS_SURVEY_CMD (R553). -/
def execPwrCpsSurveyCmd (who : Fin 8) (v : Nat) (s : State) : Out :=
  .next ((s.surveyCmd v).getD (s.dropped (windowAddr Obj.PWR_CPS_CMD) v who 3))

/-- a / b rounded to the nearest integer, a half away from 0; b above 0. -/
def roundDiv (a : Int) (b : Nat) : Int :=
  if 0 ≤ a then (2 * a + b) / (2 * b : Nat) else -((2 * (-a) + b) / (2 * b : Nat))

/-- A mean of n values: with none the spec states no result, a free value of w bits. -/
def State.meanOf (s : State) (w : Nat) (sum : Int) (n : Nat) : Int :=
  if n = 0 then toI w (s.freeBelow (2 ^ w)) else roundDiv sum n

/-- The slope of FAB_FREQ over PWR_TJ in °C, by least squares: with fewer than two temperatures the spec states no result, a
free value. PWR_TJ counts eighths of a °C. -/
def State.slopeOf (s : State) : Int :=
  let p := s.power
  let n : Int := (p.driftCount : Nat)
  let num := n * p.driftTj - p.driftSum * p.driftTjSum
  let den := n * p.driftTj2 - p.driftTjSum * p.driftTjSum
  if den ≤ 0 then toI 16 (s.freeBelow 65536) else clampI (-32768) 32767 (roundDiv (8 * num) den.toNat)

/-- The compression of slice n in 0.1 dB (R551): the difference of two means in eighths of a dB. -/
def State.paComp (s : State) (n : Fin 4) : Int :=
  let h := s.power.paHigh[n]
  let l := s.power.paLow[n]
  if h.2 = 0 || l.2 = 0 then toI 16 (s.freeBelow 65536)
  else roundDiv (10 * (h.1 * (l.2 : Nat) - l.1 * (h.2 : Nat))) (8 * h.2 * l.2)

/-- A survey is due: it was asked for, or its period has passed (R553). -/
def State.surveyDue (s : State) : Bool :=
  s.power.surveyAsked.isSome || decide (linear (s.o Obj.PWR_CPS_LAST) + s.o Obj.PWR_CPS_PERIOD * epochT ≤ s.now)

/-- Put one survey result that may have drawn a free value. -/
def State.putResult (s : State) (w : Nat) (k : Key) (f : State → Int) : State := (s.setI w k (f s)).drawn

/-- The survey (R551, R553): results frozen, monitors restarted. -/
def State.surveyTake (s : State) : State :=
  let p := s.power
  let s := (s.setO Obj.PWR_CPS_SLACK_RUN p.slackRun).setO Obj.PWR_CPS_SLACK_TRIM p.slackTrim
  let old := s.oi 32 Obj.PWR_CPS_DRIFT_MEAN
  let span := s.now - linear (s.o Obj.PWR_CPS_LAST)
  let s := s.putResult 16 Obj.PWR_CPS_TJ_MEAN (fun s => s.meanOf 16 s.power.tjSum s.power.tjCount)
  let s := s.putResult 32 Obj.PWR_CPS_DRIFT_MEAN (fun s => s.meanOf 32 s.power.driftSum s.power.driftCount)
  let s := s.putResult 16 Obj.PWR_CPS_DRIFT_SLOPE (fun s => s.slopeOf)
  let s := fin4.foldl (fun (s : State) (n : Fin 4) => s.putResult 16 (Obj.PWR_CPS_PACOMP n) (fun s => s.paComp n)) s
  let s := (s.setO Obj.PWR_CPS_LAST (tt64 s.now)).inc Obj.PWR_CPS_SURVEYS
  let clean := p.ceSum[(0 : Fin 2)] = 0 && p.ceSum[(1 : Fin 2)] = 0
  s.modPower (fun p => {
    p with
    slackRun := 63, slackTrim := 63, tjSum := 0, tjCount := 0, driftSum := 0, driftTj := 0, driftTjSum := 0
    driftTj2 := 0, driftCount := 0, driftLast := old
    paHigh := Vector.replicate 4 (0, 0), paLow := Vector.replicate 4 (0, 0)
    eyeSurvey := p.eyeMin, ceSurvey := p.ceSum, surveySpan := span
    eyeMin := Vector.replicate 2 64, ceSum := Vector.replicate 2 0
    cleanSurveys := if clean then p.cleanSurveys + 1 else 0, surveyAsked := none })

/-- COMPASS_SURVEY (R551, R553): one asked for starts at the first tick after the write; one event after the survey. -/
def execCompassSurvey (s : State) : Out :=
  if s.surveyDue && decide (s.pwr ≤ 2) then
    let s := (match s.power.surveyAsked with | some t => s.upTo (nextFrame t) | none => s).surveyTake
    .next (s.raise 0x165 0 (s.o Obj.PWR_CPS_SURVEYS))
  else .next s

end Sys2Proof.Machine
end

