-- ==== Sys2Proof/Machine/Boot.lean ====
section
/-!
DEFINITION. Resets, the boot ROM, image slots, the update supervisor, the roll and the trial (19_boot_update.md R561-R585).
BASE_FIRMWARE_START, which replays configuration as commits, stands in Start.lean.
-/
namespace Sys2Proof.Machine

/-- Change the boot and update state. -/
def State.modBoot (s : State) (f : BootSt → BootSt) : State := { s with boot := f s.boot }

/-! ## Resets (R584, R589) -/

/-- PIN_RESET (R566, R589): a pulse below 200 ns is ignored, one of 1 µs or more resets, between them it may. When PG_N fell
during the pulse the reset is a power-on reset. -/
def execPinReset (width : Nat) (s : State) : Out :=
  if !s.power.pgGood || decide (width < 200) then .next s
  else if decide (1000 ≤ width) || s.freeBelow 2 = 1 then
    let s := if width < 1000 then s.drawn else s
    let cause := if s.power.porDue then 1 else 2
    .next ((s.modPower (fun p => { p with porDue := false })).mainReset cause)
  else .next s.drawn

/-- A write of COR_RESET_CMD; none when refused (R584). -/
def State.resetCmd (s : State) (v : Nat) : Option State := if v = 1 then some (s.askReset 6) else none

/-- COR_RESET_CMD (R584). -/
def execCorResetCmd (who : Fin 8) (v : Nat) (s : State) : Out :=
  .next ((s.resetCmd v).getD (s.dropped (windowAddr Obj.COR_RESET_CMD) v who 3))

/-- Resets asked for take place at a tick boundary: the lowest cause is recorded (R566, R572, R584). -/
def State.resetsRun (s : State) : State :=
  match s.power.resetsDue with
  | [] => s
  | c :: r => s.mainReset (r.foldl min c)

/-! ## Cores held and started (R430) -/

/-- HOLD of core c; a FAULTED core leaves its state only through RESTART (R416, R430). -/
def State.coreHold (s : State) (c : Fin 8) : State := if s.cores[c].mode = .faulted then s else s.setMode c .held

/-- Core c starts in 32-bit mode at its COR_c_START. -/
def State.coreStart (s : State) (c : Fin 8) : State :=
  let pc := BitVec.ofNat 32 (s.o (Obj.COR_c_START c))
  s.modCore c (fun x =>
    let held := x.mode == .held
    let x := x.sync s.now s.sysclk
    { x with
      mode := .run, sprout := false, pc := pc, ov := false, c := false, tm := false, dsp := x.dsHi, rsp := x.rsHi
      stage := [], cycle := if held then 0 else x.cycle, busy := if held then 0 else x.busy })

/-! ## Bundles (R561-R565) -/

/-- Window base of slot r. -/
def slotBase (r : Nat) : Nat := 0x08000000 + 0x780000 * (r % 2)
/-- First logical main sector of slot r. -/
def slotSector (r : Nat) : Nat := 120 * (r % 2)
/-- Marker base of slot r. -/
def markerBase (r : Nat) : Nat := slotBase r + 0x750000

/-- The header of the bundle in slot r. -/
def State.header (s : State) (r : Nat) : Bytes := s.rbs (slotBase r) 512
/-- NPARTS. -/
def hParts (h : Bytes) : Nat := fieldN h 6 1
/-- TOTAL. -/
def hTotal (h : Bytes) : Nat := fieldN h 8 4
/-- BUNDLE_VER. -/
def hVer (h : Bytes) : Nat := fieldN h 12 4
/-- SECVER. -/
def hSec (h : Bytes) : Nat := fieldN h 16 1
/-- BFLAGS. -/
def hFlags (h : Bytes) : Nat := fieldN h 17 1
/-- FAB_VER. -/
def hFab (h : Bytes) : Nat := fieldN h 18 2
/-- FAB_MIN. -/
def hFabMin (h : Bytes) : Nat := fieldN h 20 2
/-- ENTRY. -/
def hEntry (h : Bytes) : Nat := fieldN h 48 4
/-- HEALTH. -/
def hHealth (h : Bytes) : Nat := fieldN h 52 2
/-- STATE_VER. -/
def hState (h : Bytes) : Nat := fieldN h 54 2
/-- STATE_MIN. -/
def hStateMin (h : Bytes) : Nat := fieldN h 56 2
/-- SHA-256 of header bytes 0-447. -/
def hDigest (h : Bytes) : Bytes := Config.sha256 (sliceB h 0 448)

/-- A part entry (R563). -/
structure Part where
  kind : Nat
  off : Nat
  len : Nat
  digest : Bytes
  zero : Bool          -- its reserved bytes are 0
  deriving DecidableEq, Repr

/-- Part entry i. -/
def partAt (h : Bytes) (i : Nat) : Part :=
  let e := sliceB h (64 + 48 * i) 48
  ⟨fieldN e 0 1, fieldN e 4 4, fieldN e 8 4, sliceB e 16 32, fieldN e 1 3 == 0⟩

/-- The parts in use. -/
def hPartList (h : Bytes) : List Part := (List.range (min 8 (hParts h))).map (partAt h)

/-- The part of a kind. -/
def partOf (h : Bytes) (kind : Nat) : Option Part := (hPartList h).find? (fun p => p.kind == kind)

/-- No two ranges of a list overlap. -/
def apart : List (Nat × Nat) → Bool
  | [] => true
  | a :: l => l.all (fun b => decide (a.1 + a.2 ≤ b.1) || decide (b.1 + b.2 ≤ a.1)) && apart l

/-- Step 1 of R565. -/
def formatOk (h : Bytes) : Bool :=
  let n := hParts h
  let ps := hPartList h
  let cnt := fun k => (ps.filter (fun p => p.kind == k)).length
  fieldN h 0 4 == 0x31425254 && fieldN h 4 2 == 1 && decide (1 ≤ n) && decide (n ≤ 8) &&
  decide (hFlags h < 8) && fieldN h 38 2 == 0 && fieldN h 58 6 == 0 &&
  decide (576 ≤ hTotal h) && decide (hTotal h ≤ 7667712) &&
  (List.range 8).all (fun i => decide (i < n) || (sliceB h (64 + 48 * i) 48).all (fun b => b == 0)) &&
  ps.all (fun p => decide (p.kind ≤ 2) && p.zero && decide (p.off % 16 = 0) && decide (576 ≤ p.off) && decide (1 ≤ p.len) &&
    decide (p.off + p.len ≤ hTotal h) && (p.kind != 2 || p.len == 8)) &&
  cnt 0 == 1 && decide (cnt 1 ≤ 1) && decide (cnt 2 ≤ 1) && apart (ps.map (fun p => (p.off, p.len))) &&
  (match partOf h 0 with
   | none => false
   | some b => decide (132 < b.len) && decide (hEntry h % 4 = 0) && decide (hEntry h + 132 < b.len))

/-- A KEYID names a key that may sign, and the public key hashes to it (R564). -/
def State.keyOk (s : State) (keyid : Nat) (pub : Bytes) (owner : Bool) : Bool :=
  if keyid < 4 then !(bitOf (s.o Obj.COR_IMG_REVOKED) keyid) && Config.sha256 pub == Config.imageKeyHash keyid
  else owner && keyid == 0x80 && s.shell.ownerHash == some (Config.sha256 pub)

/-- The trailer of the BASE part of slot r (R564). -/
def State.trailer (s : State) (r : Nat) (b : Part) : Bytes := s.rbs (slotBase r + b.off + b.len - 132) 132

/-- The security floor (R583). -/
def State.floor (s : State) : Nat := sumL ((s.rbs 0x08F0C000 32).map (fun b => 8 - popCount 8 b.toNat))

/-- v lies between two 2-byte fields at o. -/
def within (h : Bytes) (o n v : Nat) : Bool := decide (fieldN h o n ≤ v) && decide (v ≤ fieldN h (o + n) n)

/-- Step 5 of R565. -/
def State.compatible (s : State) (h : Bytes) : Bool :=
  within h 26 2 (s.o Obj.ID_DIE_REV) && within h 30 2 (s.o Obj.ID_PWR_REV) && within h 34 2 (s.o Obj.ID_DRAM_REV) &&
  within h 40 4 (s.o Obj.ID_ROM_VER) && within h 22 2 (s.o Obj.ID_DICT_VER)

/-- The check of the bundle in slot r (R565): 0, or the status of R573; an uncorrectable line of it passes through as R469
names it. -/
def State.bundleCheck (s : State) (r : Nat) : Nat :=
  let a := slotBase r
  let h := s.header r
  let bad := fun n => s.flash.ue.any (fun u => decide (a ≤ u) && decide (u < a + n))
  if bad 576 then 8
  else if !(formatOk h) then 0x30
  else if bad (hTotal h) then 8
  else
    let pub := s.rbs (a + 512) 64
    match partOf h 0 with
    | none => 0x30
    | some b =>
      let tr := s.trailer r b
      if !(s.keyOk (fieldN h 7 1) pub true && s.keyOk (fieldN tr 0 1) (sliceB tr 68 64) false) then 0x31
      else if !(Config.ecdsaVerify pub (hDigest h) (sliceB h 448 64)) then 0x32
      else if !((hPartList h).all (fun p => Config.sha256 (s.rbs (a + p.off) p.len) == p.digest)) then 0x33
      else if !(Config.ecdsaVerify (sliceB tr 68 64) (Config.sha256 (s.rbs (a + b.off) (b.len - 132))) (sliceB tr 4 64)) then 0x32
      else if !(s.compatible h) then 0x34
      else if hSec h < s.floor then 0x35
      else 0

/-- The reads of a check: the header, and the bundle when its header is in order (R463, R565). -/
def State.bundleRead (s : State) (r : Nat) : State :=
  let a := slotBase r
  let h := s.header r
  let (lost, t) := s.readOver a (a + 576)
  if lost.isSome || !(formatOk h) then t else (t.readOver (a + 576) (a + hTotal h)).2

/-- Check a slot and keep the status (R572, R585). -/
def State.checkSlot (s : State) (r : Nat) : Nat × State :=
  let st := s.bundleCheck r
  let s := s.bundleRead r
  let s := s.setO (if r = 0 then Obj.COR_IMG_CHECK_A else Obj.COR_IMG_CHECK_B) st
  (st, if st = 0 then s else s.raise 0x171 r st)

/-! ## Boot records (R567) -/

/-- The 16-byte lines of parameter sectors 10 and 11. -/
def recordAddrs : List Nat := (List.range 512).map (fun i => 0x08F0A000 + 16 * i)

/-- A valid boot record. -/
def recordOk (b : Bytes) : Bool := fieldN b 12 4 == crc32 (b.take 12)

/-- The newest boot record with its address. -/
def State.newest (s : State) : Option (Nat × Bytes) :=
  recordAddrs.foldl (fun (m : Option (Nat × Bytes)) a =>
    let b := s.rbs a 16
    if recordOk b then
      match m with
      | none => some (a, b)
      | some (_, c) => if fieldN c 0 4 < fieldN b 0 4 then some (a, b) else m
    else m) none

/-- RUN of a record. -/
def bRun (b : Bytes) : Nat := fieldN b 4 1 % 2
/-- STATE of a record. -/
def bState (b : Bytes) : Nat := fieldN b 5 1
/-- TRIES of a record. -/
def bTries (b : Bytes) : Nat := fieldN b 6 1

/-- Show the newest record in the COR_IMG_ objects. -/
def State.recShow (s : State) : State :=
  match s.newest with
  | none => s
  | some (_, b) =>
    ((s.setO Obj.COR_IMG_STATE (bState b)).setO Obj.COR_IMG_TRIES (bTries b)).setO Obj.COR_IMG_SEQ (fieldN b 0 4)

/-- The first blank line of a record sector (0 or 1). -/
def State.recordSpace (s : State) (k : Nat) : Option Nat :=
  ((List.range 256).map (fun i => 0x08F0A000 + 0x1000 * k + 16 * i)).find? (fun a => s.blankAt a 16)

/-- An erase that the ROM or the base firmware makes and waits for (R474). -/
def State.eraseNow (s : State) (area l : Nat) : State :=
  (s.eraseSector area l).flashShow

/-- Append a boot record. -/
def State.appendRecord (s : State) (run st tries ver : Nat) : State :=
  let k := match s.newest with | none => 0 | some (a, _) => (a - 0x08F0A000) / 0x1000
  let seq := match s.newest with | none => 1 | some (_, b) => fieldN b 0 4 + 1
  let (a, s) := match s.recordSpace k with
    | some a => (a, s)
    | none => (0x08F0A000 + 0x1000 * (1 - k), s.eraseNow 1 (10 + (1 - k)))
  let b := leBytes 4 seq ++ leBytes 1 run ++ leBytes 1 st ++ leBytes 1 tries ++ [0] ++ leBytes 4 ver
  (s.wbs a (b ++ leBytes 4 (crc32 b))).recShow

/-- Append a FALLBACK record: the other slot's bundle is rejected (R568, R582). -/
def State.appendFallback (s : State) (run cause : Nat) : State :=
  let tries := match s.newest with | none => 0 | some (_, b) => bTries b
  let s := s.appendRecord run 2 tries (hVer (s.header run))
  s.raise 0x174 cause (hVer (s.header (1 - run)))

/-! ## The ROM (R566-R570) -/

/-- The POWER part is written to PWR_TABLE when present. -/
def State.powerPart (s : State) (r : Nat) : State :=
  match partOf (s.header r) 2 with
  | none => s
  | some p => (s.tableWrite (s.rbs (slotBase r + p.off) p.len)).getD s

/-- The slot runs: COR_IMG_RUN and what follows from its header. -/
def State.runSlot (s : State) (r : Nat) : State :=
  let h := s.header r
  let s := (s.setO Obj.COR_IMG_RUN r).setO Obj.COR_IMG_RUN_BASE (slotBase r)
  ((s.setO Obj.COR_IMG_VER (hVer h)).setO Obj.COR_IMG_FAB_VER (hFab h)).setO Obj.COR_IMG_STATE_VER (hState h)

/-- The digest of the boot ROM. -/
def romDigest : Bytes := Config.sha256 ((List.range 0x20000).map Config.romByte)

/-- The entry point of the bundle in slot r. -/
def State.entryOf (s : State) (r : Nat) : Nat :=
  let h := s.header r
  slotBase r + (match partOf h 0 with | some b => b.off | none => 0) + hEntry h

/-- From the FLS_LOCK step of R569 to G: core 4 grows into the bundle. -/
def State.bootInto (s : State) (r time : Nat) : State :=
  let s := s.setO Obj.FLS_LOCK (slotSector r + 256 * (slotSector r + 119) + 65536)
  let s := (s.modFlash (fun x => { x with lockWritten := true })).powerPart r
  let h := s.header r
  let s := (s.measExtend 0 romDigest).measExtend 1 (hDigest h)
  let s := ((s.runSlot r).setO Obj.COR_IMG_BOOT r).recShow
  let s := (s.setO Obj.COR_IMG_FLOOR s.floor).setO Obj.COR_IMG_ROM_TIME (time % 65536)
  let s := s.upTo (s.now + time * 3840)
  let s := if s.o Obj.COR_IMG_STATE = 1 then
      s.setO Obj.COR_IMG_HEALTH_AT (tt64 (nextFrame s.now + hHealth h * superT))
    else s
  let pc := BitVec.ofNat 32 (s.entryOf r)
  let s := s.modCore 4 (fun x => {
    x with
    sprout := false, pc := pc, ov := false, c := false, tm := false, dsp := x.dsHi, rsp := x.rsHi })
  let s := s.modBoot (fun b => { b with recovery := false })
  let st := s.o Obj.COR_IMG_STATE
  s.raise 0x170 (s.o Obj.COR_RESET_CAUSE) (r + 256 * st + 65536 * s.o Obj.COR_IMG_TRIES)

/-- Recovery (R570). -/
def State.enterRecovery (s : State) : State := s.modBoot (fun b => { b with recovery := true, recStatus := 0, recTop := 0 })

/-- The slot that the records choose, before its check (R568). -/
def State.chooseSlot (s : State) (cause : Nat) : Nat × State :=
  match s.newest with
  | none => if cause = 4 then (s.o Obj.COR_IMG_RUN, s) else (0, s)
  | some (_, b) =>
    if cause = 4 then (s.o Obj.COR_IMG_RUN, s)
    else if bState b = 1 && (cause = 5 || cause = 8) then (1 - bRun b, s.appendFallback (1 - bRun b) cause)
    else if bState b = 1 && bTries b < 3 then (bRun b, s.appendRecord (bRun b) 1 (bTries b + 1) (fieldN b 8 4))
    else if bState b = 1 then (1 - bRun b, s.appendFallback (1 - bRun b) cause)
    else (bRun b, s)

/-- Slot r is checked and booted; failing that the other, with a FALLBACK record; failing both, recovery (R568). first: a boot
record is appended because there was none. -/
def State.bootChosen (s : State) (r time cause : Nat) (first : Bool) : State :=
  let a := s.checkSlot r
  if a.1 = 0 then (if first then a.2.appendRecord r 0 0 (hVer (a.2.header r)) else a.2).bootInto r time
  else
    let b := a.2.checkSlot (1 - r)
    if b.1 = 0 then (b.2.appendFallback (1 - r) cause).bootInto (1 - r) time else b.2.enterRecovery

/-- ROM_BOOT (R566, R568, R569). -/
def execRomBoot (mode : Nat) (time : Nat) (s : State) : Out :=
  if s.cores[(4 : Fin 8)].mode = .run && s.cores[(4 : Fin 8)].sprout && !s.boot.recovery then
    let s := (s.modPower (fun p => { p with mode := mode % 4 })).journalScan
    let cause := s.o Obj.COR_RESET_CAUSE
    if mode % 4 = 1 then .next s.enterRecovery
    else
      let p := s.chooseSlot cause
      .next (p.2.bootChosen p.1 time cause (s.newest.isNone && cause != 4))
  else .next s

/-- REC_STATUS (R570): the 8 bytes in rbytes. -/
def execRecStatus (s : State) : Out :=
  if s.boot.recovery then
    let b := leBytes 1 (s.o Obj.COR_IMG_CHECK_A) ++ leBytes 1 (s.o Obj.COR_IMG_CHECK_B)
    .next { s with rbytes := b ++ leBytes 1 s.boot.recStatus ++ [0] ++ leBytes 4 s.boot.recTop }
  else .next s

/-- Erase the 120 sectors of slot r. -/
def State.eraseSlot (s : State) (r : Nat) : State :=
  (List.range 120).foldl (fun (s : State) i => s.eraseNow 0 (slotSector r + i)) s

/-- The status of a REC_WRITE, in the codes of R469. -/
def State.recWriteStatus (s : State) (off : Nat) (data : Bytes) (crc : Nat) : Nat :=
  let n := data.length
  if n < 16 || 1024 < n || crc ≠ crc32 data || 0x780000 < off + n then 2
  else if off % 16 ≠ 0 || n % 16 ≠ 0 then 3
  else if off ≠ 0 && s.firstNotBlank (slotBase 1 + off) 16 (n / 16) 0 ≠ n then 4
  else 0

/-- REC_WRITE (R570, R471). -/
def execRecWrite (off : Nat) (data : Bytes) (crc : Nat) (s : State) : Out :=
  if s.boot.recovery then
    let st := s.recWriteStatus off data crc
    let s := s.modBoot (fun b => { b with recStatus := st })
    if st ≠ 0 then .next s
    else
      let s := if off = 0 then (s.eraseSlot 1).modBoot (fun b => { b with recTop := 0 }) else s
      .next ((s.wbs (slotBase 1 + off) data).modBoot (fun b => { b with recTop := max b.recTop (off + data.length) }))
  else .next s

/-- REC_DONE (R570). -/
def execRecDone (total : Nat) (time : Nat) (s : State) : Out :=
  if s.boot.recovery then
    let a := s.checkSlot 1
    let h := a.2.header 1
    if a.1 = 0 && decide (hTotal h = total) then .next ((a.2.appendRecord 1 1 1 (hVer h)).bootInto 1 time) else .next a.2
  else .next s

/-! ## Image routines (R572, R573) -/

/-- STATE of the newest record; none when there is none. -/
def State.recordSt (s : State) : Option Nat := s.newest.map (fun x => bState x.2)

/-- IM_CHECK of a slot. -/
def State.imCheck (s : State) (slot : Nat) : Nat × State := if 1 < slot then (2, s) else s.checkSlot slot

/-- IM_SWITCH by a roll: the record, the measurement, the POWER part and what runs (R572). -/
def State.switchRoll (s : State) (slot : Nat) : State :=
  let h := s.header slot
  let s := s.appendRecord slot 1 1 (hVer h)
  let s := ((s.measExtend 1 (hDigest h)).powerPart slot).runSlot slot
  let s := s.setO Obj.COR_IMG_HEALTH_AT (tt64 (nextFrame s.now + hHealth h * superT))
  let s := s.modBoot (fun b => { b with healthRun := 0, faults := s.o Obj.COR_DBL_FAULTS, lost := s.o Obj.EVT_CORE_LOST })
  s.raise 0x172 0 (hVer h)

/-- IM_SWITCH by a reset (R572). -/
def State.switchReset (s : State) (slot : Nat) : State :=
  let h := s.header slot
  ((s.appendRecord slot 1 0 (hVer h)).askReset 7).raise 0x172 1 (hVer h)

/-- IM_SWITCH. -/
def State.imSwitch (s : State) (slot mode : Nat) : Nat × State :=
  let st := s.recordSt
  if 1 < slot then (2, s)
  else if st ≠ some 0 && st ≠ some 2 then (0x36, s)
  else if slot = s.o Obj.COR_IMG_RUN then (0x37, s)
  else
    let a := s.checkSlot slot
    if a.1 = 0 then (0, if mode = 0 then a.2.switchRoll slot else a.2.switchReset slot) else a

/-- Clear bits of words 0-7 of parameter sector 12 until the floor is v (R583): from bit 0 upward. -/
def State.raiseFloor (s : State) (v : Nat) : State :=
  (List.range 256).foldl (fun (s : State) i =>
    if s.floor < v then
      let a := 0x08F0C000 + i / 8
      s.wb a (s.rb a &&& ~~~(BitVec.ofNat 8 (2 ^ (i % 8))))
    else s) s

/-- IM_CONFIRM of the trial that boot record b tells of: a CONFIRMED record, and the floor and the revocations that the header of
its slot asks for (R572, R583). -/
def State.confirmRun (s : State) (b : Bytes) : State :=
  let run := bRun b
  let h := s.header run
  let s := (s.appendRecord run 0 (bTries b) (fieldN b 8 4)).setO Obj.COR_IMG_HEALTH_AT 0
  let s := if bitOf (hFlags h) 0 then s.raiseFloor (hSec h) else s
  let s := s.setO Obj.COR_IMG_FLOOR s.floor
  let s := if bitOf (hFlags h) 1 then
      match partOf h 0 with
      | none => s
      | some p => s.setO Obj.COR_IMG_REVOKED (natOr (s.o Obj.COR_IMG_REVOKED) (2 ^ (min 4 (fieldN (s.trailer run p) 0 1)) - 1))
    else s
  s.raise 0x173 0 (s.o Obj.COR_IMG_VER)

/-- The deadline of the trial has passed: confirmation is no longer possible (R36, R581). -/
def State.healthOver (s : State) : Bool :=
  s.power.resetsDue.contains 5 || (s.o Obj.COR_IMG_HEALTH_AT != 0 && decide (linear (s.o Obj.COR_IMG_HEALTH_AT) ≤ s.now))

/-- IM_CONFIRM. -/
def State.imConfirm (s : State) : Nat × State :=
  if s.healthOver then (0x36, s) else
  (s.newest.filter (fun x => bState x.2 == 1)).elim (0x36, s) (fun x => (0, s.confirmRun x.2))

/-- IM_ABANDON. -/
def State.imAbandon (s : State) : Nat × State := if s.recordSt = some 1 then (0, s.askReset 8) else (0x36, s)

/-- One status as a routine's list of results. -/
def oneStatus (p : Nat × State) : List Nat × State := ([p.1], p.2)

/-! ## The update supervisor (R574-R578) -/

/-- The target slot: the one that does not run. -/
def State.target (s : State) : Nat := 1 - s.o Obj.COR_IMG_RUN % 2

/-- NBF_UPD_STATE changes, with its event (R584). -/
def State.updState (s : State) (st : Nat) : State :=
  if s.o Obj.NBF_UPD_STATE = st then s else (s.setO Obj.NBF_UPD_STATE st).raiseFw 0x804 0 st []

/-- FLS_LOCK covers the target slot (R576). -/
def State.targetLocked (s : State) : Bool := s.locked 0 (slotSector s.target)

/-- The supervisor stores nothing (R576), and the state that says why. -/
def State.updBlock (s : State) (image : Nat) : Option Nat :=
  if s.o Obj.COR_IMG_STATE = 1 then some 5
  else if s.targetLocked then some 6
  else if s.boot.rejected = some image then some 7
  else none

/-- The marker of piece i (R574). -/
def State.marker (s : State) (i : Nat) : Bytes := s.rbs (markerBase s.target + 16 * i) 16

/-- Bytes of piece i of an image of that size. -/
def pieceLen (size i : Nat) : Nat := min 768 (size - 768 * i)

/-- Piece i is held (R574): its marker is valid. -/
def State.pieceHeld (s : State) (image size i : Nat) : Bool :=
  let m := s.marker i
  fieldN m 0 2 == image && fieldN m 2 2 == i && fieldN m 8 4 == size &&
  fieldN m 4 4 == crc32 (s.rbs (slotBase s.target + 768 * i) (pieceLen size i))

/-- Pieces held of the campaign in NBF_UPD_IMAGE. -/
def State.piecesHeld (s : State) : Nat :=
  ((List.range (s.o Obj.NBF_UPD_COUNT)).filter (fun i => s.pieceHeld (s.o Obj.NBF_UPD_IMAGE) s.boot.size i)).length

/-- The supervisor turns to a new IMAGE: the target slot is erased (R574). -/
def State.newImage (s : State) (image count size : Nat) : State :=
  let s := s.eraseSlot s.target
  let s := ((s.setO Obj.NBF_UPD_IMAGE image).setO Obj.NBF_UPD_COUNT count).setO Obj.NBF_UPD_HAVE 0
  (s.modBoot (fun b => { b with size := size, rejected := none })).updState 1

/-- A rejection (R574, R575, R578). -/
def State.updReject (s : State) (image : Nat) : State := (s.modBoot (fun b => { b with rejected := some image })).updState 7

/-- A check or a switch failed with this status: the image is rejected (R575, R578). -/
def State.updFailed (s : State) (e : Nat) : State :=
  (s.setO Obj.NBF_UPD_LAST_FAIL e).updReject ((s.setO Obj.NBF_UPD_LAST_FAIL e).o Obj.NBF_UPD_IMAGE)

/-- A piece reaches the supervisor (R574-R576). -/
def State.updPiece (s : State) (image index count size : Nat) (p : Bytes) : State :=
  match s.updBlock image with
  | some st => s.updState st
  | none =>
    let fresh := s.o Obj.NBF_UPD_IMAGE ≠ image || s.boot.size ≠ size || s.o Obj.NBF_UPD_COUNT ≠ count
    let s := if fresh then s.newImage image count size else s
    if decide (count ≤ index) || p.length ≠ pieceLen size index then s
    else if s.pieceHeld image size index then s
    else if index = 0 && (count ≠ ceilDiv (hTotal p) 768 || size ≠ hTotal p) then s.updReject image
    else
      let s := s.wbs (slotBase s.target + 768 * index) p
      let m := leBytes 2 image ++ leBytes 2 index ++ leBytes 4 (crc32 p) ++ leBytes 4 size ++ leBytes 4 0
      let s := s.wbs (markerBase s.target + 16 * index) m
      s.setO Obj.NBF_UPD_HAVE s.piecesHeld

/-- A write of NBF_UPD_PIECE; none when its form is refused (R574, R584). -/
def State.updPieceWrite (s : State) (b : Bytes) : Option State :=
  if 13 ≤ b.length ∧ b.length ≤ 780 ∧ fieldN b 0 2 ≠ 0 ∧ 1 ≤ fieldN b 4 2 ∧ fieldN b 4 2 ≤ 9984 then
    some (s.updPiece (fieldN b 0 2) (fieldN b 2 2) (fieldN b 4 2) (fieldN b 8 4) (b.drop 12))
  else none

/-- Session x may write an object of this level (R503). -/
def State.sessMay (s : State) (x : Fin 8) (lev : Nat) : Bool :=
  s.o (Obj.COM_Ss_STATE x) == 2 && decide (lev ≤ s.o (Obj.COM_Ss_LEVEL x))

/-- The supervisor serves a host's write at level INSTALL and answers in rdata: 0, or an abort code of R521. -/
def State.serveHost (s : State) (x : Fin 8) (r : Except Nat State) : State :=
  if s.sessMay x 3 then
    match r with
    | .ok t => { t with rdata := 0 }
    | .error e => { s with rdata := e }
  else { s with rdata := 2 }

/-- What a refusable write answers: its state, or this abort code. -/
def orAbort (code : Nat) (r : Option State) : Except Nat State := match r with | some t => .ok t | none => .error code

/-- UPD_PIECE_WRITE (R574). -/
def execUpdPieceWrite (x : Fin 8) (b : Bytes) (s : State) : Out := .next (s.serveHost x (orAbort 5 (s.updPieceWrite b)))

/-- The first epoch boundary at or after END of the CATALOG in force (R577). -/
def State.catalogEnd (s : State) : Nat := linear (fieldN s.boot.catalog 20 8)

/-- The supervisor writes E from the CATALOG in force when it is STAGED (R577). -/
def State.actFromCatalog (s : State) : State :=
  let c := s.boot.catalog
  if s.o Obj.NBF_UPD_STATE = 2 && !c.isEmpty && fieldN c 0 2 = s.o Obj.NBF_UPD_IMAGE then
    if s.catalogEnd ≤ s.now then s.setO Obj.NBF_UPD_ACT_AT 0
    else if hFabMin (s.header s.target) ≤ s.o Obj.COR_IMG_FAB_VER then
      s.setO Obj.NBF_UPD_ACT_AT (tt64 (boundaryAt epochT s.catalogEnd))
    else s
  else s

/-- BUNDLE_COMPLETE (R575, R576). -/
def execBundleComplete (s : State) : Out :=
  let n := s.o Obj.NBF_UPD_COUNT
  if s.o Obj.NBF_UPD_STATE = 1 && decide (0 < n) && s.piecesHeld = n then
    let s := s.setO Obj.NBF_UPD_HAVE n
    let a := s.checkSlot s.target
    if a.1 = 0 then
      let h := a.2.header a.2.target
      let r := a.2.header (1 - a.2.target)
      if hVer h = hVer r && hDigest h = hDigest r then .next (a.2.updState 0)
      else .next (a.2.updState 2).actFromCatalog
    else .next (a.2.updFailed a.1)
  else .next s

/-- A write of NBF_UPD_ACT_AT: the state, or the abort of R577: 0x14 STATE, 0x05 RANGE. -/
def State.actAtWrite (s : State) (v : Nat) : Except Nat State :=
  let t := linear v
  if s.o Obj.NBF_UPD_STATE ≠ 2 then .error 0x14
  else if ttValid v && decide (t % epochT = 0) && decide (s.now + superT ≤ t) then .ok (s.setO Obj.NBF_UPD_ACT_AT v)
  else .error 5

/-- UPD_ACT_AT_WRITE (R577). -/
def execUpdActAtWrite (x : Fin 8) (v : Nat) (s : State) : Out := .next (s.serveHost x (s.actAtWrite v))

/-- A status that is not 0 stands in NBF_UPD_LAST_FAIL. -/
def noteFail (p : Nat × State) : State := if p.1 = 0 then p.2 else p.2.setO Obj.NBF_UPD_LAST_FAIL p.1

/-- A write of NBF_UPD_CMD; none when refused (R584). -/
def State.updCmd (s : State) (v : Nat) : Option State :=
  if v = 1 then some (noteFail (s.checkSlot s.target))
  else if v = 2 then some (s.setO Obj.NBF_UPD_ACT_AT 0)
  else if v = 3 then some (noteFail s.imAbandon)
  else if v = 4 then
    if s.o Obj.COR_IMG_STATE = 1 || s.targetLocked then none
    else
      let s := s.eraseSlot s.target
      let s := ((s.setO Obj.NBF_UPD_IMAGE 0).setO Obj.NBF_UPD_HAVE 0).setO Obj.NBF_UPD_COUNT 0
      some ((s.modBoot (fun b => { b with rejected := none, size := 0 })).updState 0)
  else none

/-- UPD_CHECK (R584). -/
def execUpdCheck (x : Fin 8) (s : State) : Out := .next (s.serveHost x (orAbort 0x14 (s.updCmd 1)))
/-- UPD_CANCEL (R584). -/
def execUpdCancel (x : Fin 8) (s : State) : Out := .next (s.serveHost x (orAbort 0x14 (s.updCmd 2)))
/-- UPD_ABANDON (R584). -/
def execUpdAbandon (x : Fin 8) (s : State) : Out := .next (s.serveHost x (orAbort 0x14 (s.updCmd 3)))
/-- UPD_CLEAR (R584). -/
def execUpdClear (x : Fin 8) (s : State) : Out := .next (s.serveHost x (orAbort 0x14 (s.updCmd 4)))

/-! ## Activation and the roll (R578, R579) -/

/-- UPDATE_ACTIVATE (R578). -/
def execUpdateActivate (s : State) : Out :=
  let e := s.o Obj.NBF_UPD_ACT_AT
  if e = 0 then .next s
  else
    let s := (s.upTo (linear e)).setO Obj.NBF_UPD_ACT_AT 0
    if 3 ≤ s.pwr || s.o Obj.NBF_UPD_STATE ≠ 2 then .next (s.raiseFw 0x805 0 (e % 2 ^ 32) [])
    else
      let h := s.header s.target
      let mode := if hStateMin h ≤ s.o Obj.COR_IMG_STATE_VER && !(bitOf (hFlags h) 2) then 0 else 1
      let s := s.setO Obj.NBF_UPD_MODE mode
      let a := s.imSwitch s.target mode
      if a.1 = 0 then
        if mode = 0 then .next ((a.2.modBoot (fun b => { b with roll := some ⟨0, none⟩ })).updState 4) else .next a.2
      else .next (a.2.updFailed a.1)

/-- The core after core c in the order of R579. -/
def rollNext (c : Nat) : Nat := if c = 3 then 5 else if c = 7 then 4 else c + 1

/-- HOLD, START and RESTART of core c at the new entry. -/
def State.rollCore (s : State) (c : Fin 8) : State :=
  ((s.coreHold c).setO (Obj.COR_c_START c) (s.entryOf (s.o Obj.COR_IMG_RUN))).coreStart c

/-- Put the roll. -/
def State.setRoll (s : State) (r : Option Roll) : State := s.modBoot (fun b => { b with roll := r })

/-- ROLL_STEP (R579). -/
def execRollStep (soft : Bool) (s : State) : Out :=
  match s.boot.roll with
  | none => .next s
  | some r =>
    if r.core = 4 then
      let pc := BitVec.ofNat 32 (s.entryOf (s.o Obj.COR_IMG_RUN))
      .next (((s.modCore 4 (fun x => { x with pc := pc })).setRoll none).updState 5)
    else if r.core < 4 then
      let n : Fin 4 := asFin 4 r.core
      match r.began with
      | none =>
        if s.o (Obj.SLCn_LC_STATE n) = 0 then .next (s.setRoll (some ⟨rollNext r.core, none⟩))
        else
          let c : Fin 8 := asFin 8 r.core
          let s := s.coreHold c
          let s := (s.lcPark n).getD s
          let s := (s.setO (Obj.COR_c_START c) (s.entryOf (s.o Obj.COR_IMG_RUN))).coreStart c
          .next (s.setRoll (some ⟨r.core, some (frameStart s.now)⟩))
      | some t =>
        if t + frameT < s.now && s.o (Obj.SLCn_LC_STATE n) = 3 then .next (s.setRoll (some ⟨rollNext r.core, none⟩))
        else if t + 11 * frameT ≤ s.now then .next (s.setRoll none).imAbandon.2
        else .next s
    else
      let c : Fin 8 := asFin 8 r.core
      match r.began with
      | none => .next ((s.rollCore c).setRoll (some ⟨r.core, some (frameStart s.now)⟩))
      | some _ => if soft then .next (s.setRoll (some ⟨rollNext r.core, none⟩)) else .next s

/-! ## The trial (R580, R581) -/

/-- The criteria met over the superframe just ended. -/
def State.criteria (s : State) : Nat :=
  let y := s.o Obj.TMB_SYNC_STATE
  b2n s.boot.progAll + 2 * b2n s.holdsAddr + 4 * b2n (y == 2 || y == 3) +
  8 * b2n (s.o Obj.COR_DBL_FAULTS == s.boot.faults && s.o Obj.EVT_CORE_LOST == s.boot.lost) +
  16 * b2n (s.o Obj.SVC_ROSTER_STATE == 1)

/-- HEALTH_CHECK (R580). -/
def execHealthCheck (s : State) : Out :=
  if s.o Obj.COR_IMG_STATE = 1 && s.o Obj.COR_IMG_HEALTH_AT ≠ 0 then
    let m := s.o Obj.NBF_UPD_HEALTH_MASK
    let now := s.criteria
    let s := s.setO Obj.NBF_UPD_HEALTH_NOW now
    if bitOf m 3 && !(bitOf now 3) then .next s.imAbandon.2
    else
      let run := if natAnd m now = m then s.boot.healthRun + 1 else 0
      let s := s.modBoot (fun b => { b with healthRun := run, progAll := true })
      if s.o Obj.NBF_UPD_HEALTH_HOLD ≤ run then
        let s := s.imConfirm.2
        .next (s.updState (if s.targetLocked then 6 else 0))
      else .next s
  else .next s

/-- HEALTH_DEADLINE (R581): the miss of class 11, in the fault log, and the reset with cause HEALTH. -/
def execHealthDeadline (s : State) : Out :=
  let v := s.o Obj.COR_IMG_HEALTH_AT
  if v = 0 then .next s
  else
    let t := linear v
    let s := (s.upTo t).miss 11 0x14 t
    let s := s.logEvent ⟨0x100, 0x14, 11 + 256, s.now, []⟩
    if s.pwr ≤ 2 then .next (s.mainReset 5)
    else .next ((s.setO Obj.COR_IMG_HEALTH_AT 0).askReset 5)

end Sys2Proof.Machine
end

