-- ==== Sys2Proof/Machine/Hamper.lean ====
section
/-!
DEFINITION. Hamper (11_services.md R325-R328) and the NOTICEs of the fabric (R306, R325): the campaign, its pieces and the
carousel of tag pieces. SVC_HMP_STATE at each anchor is log 101.
-/
namespace Sys2Proof.Machine

/-! ## The descriptor (R325) -/

/-- IMAGE. -/
def cImage (d : Bytes) : Nat := fieldN d 0 2
/-- KIND. -/
def cKind (d : Bytes) : Nat := fieldN d 2 1
/-- RATE. -/
def cRate (d : Bytes) : Nat := fieldN d 3 1
/-- SIZE. -/
def cSize (d : Bytes) : Nat := fieldN d 4 4
/-- PSIZE. -/
def cPsize (d : Bytes) : Nat := fieldN d 8 2
/-- START. -/
def cStart (d : Bytes) : Instant := linear (fieldN d 12 8)
/-- END. -/
def cEnd (d : Bytes) : Instant := linear (fieldN d 20 8)
/-- COUNT. -/
def cCount (d : Bytes) : Nat := ceilDiv (cSize d) (cPsize d)
/-- Bytes of piece i. -/
def cLen (d : Bytes) (i : Nat) : Nat := min (cPsize d) (cSize d - cPsize d * i)
/-- End of the seeding pass (R326). -/
def cPassEnd (d : Bytes) : Instant := cStart d + superT * ceilDiv (cCount d) (max 1 (cRate d))
/-- PSIZE suits the KIND. -/
def cPsizeOk (d : Bytes) : Bool :=
  (cKind d == 0 && cPsize d == 768) || (cKind d == 1 && decide (16 ≤ cPsize d) && decide (cPsize d ≤ 192))

/-- The CATALOG of a descriptor. -/
def catalogBody (d : Bytes) : Bytes := [2, 0, 0, 0] ++ d

/-- A campaign runs here. -/
def State.campRuns (s : State) : Bool := match s.svc.camp with | some c => decide (s.now < cEnd c.desc) | none => false

/-- Change the campaign. -/
def State.modCamp (s : State) (f : Campaign → Campaign) : State := s.modSvc (fun x => { x with camp := x.camp.map f })

/-- Piece i as this anchor holds it: a KIND 0 image at its root stands in the target slot. -/
def State.pieceOf (s : State) (c : Campaign) (i : Nat) : Option Bytes :=
  if c.root then
    if cCount c.desc ≤ i then none
    else if cKind c.desc = 0 then some (s.rbs (slotBase s.target + 768 * i) (cLen c.desc i))
    else some (sliceB c.image (cPsize c.desc * i) (cLen c.desc i))
  else (c.pieces.find? (fun x => x.1 == i)).map (·.2)

/-- A PIECE payload (R326). -/
def pieceBody (d : Bytes) (i : Nat) (p : Bytes) : Bytes :=
  leBytes 2 (cImage d) ++ leBytes 2 i ++ leBytes 2 (cCount d) ++ [0, 0] ++ p

/-- Indices that this anchor lacks, ascending: those of the campaign, which hold every index that a neighbour asks for. -/
def Campaign.missing (c : Campaign) : List Nat :=
  if c.root then [] else (List.range (cCount c.desc)).filter (fun i => !(c.pieces.any (fun x => x.1 == i)))

/-- SVC_HMP_HAVE and SVC_HMP_STATE follow the campaign (R326, R337). -/
def State.hmpShow (s : State) : State :=
  match s.svc.camp with
  | none => s
  | some c =>
    let have_ := if c.root then cCount c.desc else c.pieces.length
    let s := s.setO Obj.SVC_HMP_HAVE have_
    s.setO Obj.SVC_HMP_STATE
      (if cEnd c.desc ≤ s.now then 4
       else if c.root then (if c.next < cCount c.desc then 1 else 3)
       else if have_ = cCount c.desc then 3 else 2)

/-- The CATALOG of a KIND 0 campaign goes to the supervisor (R575, R577): one that moves END forward, or that has ended,
changes the instant of activation. -/
def State.updCatalog (s : State) (d : Bytes) : State :=
  let old := s.boot.catalog
  let keep := !old.isEmpty && cImage old == cImage d && decide (s.now < cEnd d) && decide (cEnd d ≤ cEnd old) &&
    s.o Obj.NBF_UPD_ACT_AT != 0
  let s := s.modBoot (fun b => { b with catalog := d })
  if keep then s else s.actFromCatalog

/-- A campaign is taken from its CATALOG: pieces of the same image are kept. -/
def State.takeCatalog (s : State) (d : Bytes) : State :=
  let c : Campaign := match s.svc.camp with
    | some c => if cImage c.desc = cImage d && cSize c.desc = cSize d && cPsize c.desc = cPsize d then { c with desc := d }
                else { desc := d }
    | none => { desc := d }
  let s := s.modSvc (fun x => { x with camp := some c })
  let s := (s.setO Obj.SVC_HMP_ID (cImage d)).setO Obj.SVC_HMP_COUNT (cCount d)
  (if cKind d = 0 then s.updCatalog d else s).hmpShow

/-! ## The root (R325, R326) -/

/-- The image of a descriptor stands at the root: for KIND 0 the bundle accepted in the target slot. -/
def State.imageHere (s : State) (d : Bytes) : Bool :=
  if cKind d = 0 then
    s.o Obj.NBF_UPD_STATE == 2 && s.o Obj.NBF_UPD_IMAGE == cImage d && hTotal (s.header s.target) == cSize d
  else (s.blob Obj.SVC_HMP_IMAGE).length == cSize d

/-- The descriptor staged at the root, with RATE filled in. -/
def State.stagedCampaign (s : State) : Bytes :=
  let b := s.blob Obj.SVC_HMP_STAGE
  sliceB b 0 3 ++ leBytes 1 (s.o Obj.SVC_HMP_RATE) ++ sliceB (b.drop 4) 0 6 ++ leBytes 2 0 ++ sliceB (b.drop 12) 0 24 ++ leBytes 4 0

/-- START (R325); none when refused. -/
def State.hmpStart (s : State) : Option State :=
  let d := s.stagedCampaign
  if !(s.svcOn 2) || !s.isRoot || (s.blob Obj.SVC_HMP_STAGE).length ≠ 40 || s.campRuns || cImage d = 0 ||
      1 < cKind d || cSize d = 0 || !(cPsizeOk d) || 65535 < cCount d || cEnd d ≤ cStart d || !(s.imageHere d) then none
  else
    let image := if cKind d = 0 then [] else s.blob Obj.SVC_HMP_IMAGE
    let s := s.firmFlood 7 6 15 (catalogBody d)
    let s := s.modSvc (fun x => { x with camp := some { desc := d, image := image, root := true } })
    some (s.takeCatalog d)

/-- STOP (R325): the CATALOG again with END now; none when no campaign of this root runs. -/
def State.hmpStop (s : State) : Option State :=
  match s.svc.camp with
  | none => none
  | some c =>
    if !(s.svcOn 2) || !s.isRoot || !s.campRuns then none
    else
      let d := sliceB c.desc 0 20 ++ leBytes 8 (tt64 s.now) ++ sliceB (c.desc.drop 28) 0 12
      some ((s.firmFlood 7 6 15 (catalogBody d)).takeCatalog d)

/-- A write of SVC_HMP_CMD; none when refused. -/
def State.hmpCmd (s : State) (v : Nat) : Option State := if v = 1 then s.hmpStart else if v = 2 then s.hmpStop else none

/-- HMP_START (R325). -/
def execHmpStart (who : Fin 8) (s : State) : Out := .next (s.hmpStart.getD (s.refuse who Obj.SVC_HMP_CMD 1))

/-- HMP_STOP (R325). -/
def execHmpStop (who : Fin 8) (s : State) : Out := .next (s.hmpStop.getD (s.refuse who Obj.SVC_HMP_CMD 2))

/-- CATALOG_REFLOOD (R325). -/
def execCatalogReflood (s : State) : Out :=
  match s.svc.camp with
  | none => .next s
  | some c =>
    if s.svcOn 2 && s.isRoot && s.campRuns then .next (s.firmFlood 7 6 15 (catalogBody c.desc)) else .next s

/-- PIECE_SEED (R326): the pieces of one superframe. -/
def execPieceSeed (s : State) : Out :=
  match s.svc.camp with
  | none => .next s
  | some c =>
    if s.svcOn 2 && s.isRoot && c.root && s.campRuns && decide (cStart c.desc ≤ s.now) && c.seedSf != some s.sf then
      let l := (List.range (cRate c.desc)).map (fun k => c.next + k)
      let s := l.foldl (fun (s : State) i =>
        match s.pieceOf c i with
        | some p => s.firmFlood 7 5 15 (pieceBody c.desc i p)
        | none => s) s
      let sf := s.sf
      .next (s.modCamp (fun c => {
        c with
        next := min (cCount c.desc) (c.next + cRate c.desc), seedSf := some sf })).hmpShow
    else .next s

/-! ## Pieces at an anchor (R326) -/

/-- A piece reaches this anchor. -/
def State.takePiece (s : State) (b : Bytes) : State :=
  match s.svc.camp with
  | none => s
  | some c =>
    let i := fieldN b 2 2
    let p := b.drop 8
    let n := cCount c.desc
    if c.root || !s.campRuns || fieldN b 0 2 ≠ cImage c.desc || fieldN b 4 2 ≠ n || n ≤ i || p.length ≠ cLen c.desc i ||
        c.pieces.any (fun x => x.1 == i) then s
    else
      let s := (s.modCamp (fun c => { c with pieces := (i, p) :: c.pieces })).hmpShow
      if cKind c.desc = 0 then s.updPiece (cImage c.desc) i n (cSize c.desc) p else s

/-- PIECE_RX (R326). -/
def execPieceRx (flood : Bool) (i : Nat) (s : State) : Out :=
  let e := if flood then s.floodElem i else s.uniElem i
  let b := s.elemPayload e
  if fieldN e 1 1 = (if flood then 5 else 9) && 9 ≤ b.length && s.svcOn 2 then .next (s.takePiece b) else .next s

/-- The neighbour that a route leads to. -/
def Route.hop : Route → Nat
  | .wired _ nx => nx
  | .radio _ nx => nx

/-- PIECE_REQ_SEND (R326). -/
def execPieceReqSend (s : State) : Out :=
  match s.svc.camp with
  | none => .next s
  | some c =>
    let l := c.missing.take (cRate c.desc)
    if s.svcOn 2 && s.campRuns && decide (cPassEnd c.desc ≤ s.now) && !l.isEmpty && c.reqSf != some s.sf then
      match s.route (s.o Obj.SVC_ROOT) with
      | none => .next s
      | some r =>
        let sf := s.sf
        let s := s.modCamp (fun c => { c with reqSf := some sf })
        .next ((s.inc Obj.SVC_HMP_REQ).send 7 r.hop 8 0
          (leBytes 2 (cImage c.desc) ++ leBytes 1 l.length ++ l.flatMap (fun i => leBytes 2 i)))
    else .next s

/-- Answer one index of a PIECE_REQ, at most RATE in a superframe. -/
def State.answerPiece (s : State) (dest i : Nat) : State :=
  match s.svc.camp with
  | none => s
  | some c =>
    let used := if c.ansSf = s.sf then c.answered else 0
    match s.pieceOf c i with
    | none => s
    | some p =>
      if used < cRate c.desc then
        let sf := s.sf
        (s.modCamp (fun c => { c with ansSf := sf, answered := used + 1 })).send 7 dest 9 0 (pieceBody c.desc i p)
      else s

/-- PIECE_REQ_RX (R326). -/
def execPieceReqRx (i : Nat) (s : State) : Out :=
  let e := s.uniElem i
  let b := s.elemPayload e
  match s.svc.camp with
  | none => .next s
  | some c =>
    let n := fieldN b 2 1
    if fieldN e 1 1 = 8 && s.svcOn 2 && s.campRuns && fieldN b 0 2 = cImage c.desc && 1 ≤ n && n ≤ 64 && b.length = 3 + 2 * n then
      .next (((List.range n).map (fun j => fieldN b (3 + 2 * j) 2)).foldl (fun (s : State) j =>
        s.answerPiece (fieldN e 2 2 % 4096) j) s)
    else .next s

/-! ## Tag images (R327, R328) -/

/-- The PIECE element of piece i (R328). -/
def pieceElem (d : Bytes) (i : Nat) (p : Bytes) : Bytes :=
  airElement 8 (leBytes 2 (cImage d) ++ leBytes 2 i ++ leBytes 2 (cCount d) ++ leBytes 4 (cSize d) ++ p)

/-- The carousel serves a tag now (R327): a campaign of tag images that runs here, for a tag of its range whose home is this anchor. -/
def State.carousel (s : State) (tag : Nat) : Option Campaign :=
  s.svc.camp.filter (fun c =>
    let d := c.desc
    s.svcOn 2 && cKind d == 1 && decide (fieldN d 28 4 ≤ tag) && decide (tag ≤ fieldN d 32 4) && s.svc.homesHere.contains tag &&
      decide (cStart d ≤ s.now) && s.campRuns && decide (0 < cCount d))

/-- TAG_PIECE_SEND (R327): at a rendezvous of the tag, whose listen exponent is k unless the tag has reported another. -/
def execTagPieceSend (tag k : Nat) (s : State) : Out :=
  let k := s.listenK tag (k % 7)
  match s.rdvNow tag k with
  | none => .next { s with rbytes := [] }
  | some v =>
    match s.carousel tag with
    | none => .next (s.downMaps tag v)
    | some c =>
      let i := s.sf / 2 ^ k % cCount c.desc
      match (s.pieceOf c i).filter (fun p => s.downFits tag (12 + p.length)) with
      | none => .next ((s.inc Obj.SVC_HMP_TAG_SKIP).downMaps tag v)
      | some p => .next ((s.inc Obj.SVC_HMP_TAG_SENT).downSend tag v (s.downBody tag (pieceElem c.desc i p)))

/-! ## NOTICEs (R306, R325) -/

/-- ROSTER_RX (R306, R325). -/
def execRosterRx (i : Nat) (s : State) : Out :=
  let e := s.floodElem i
  let b := s.elemPayload e
  if fieldN e 1 1 ≠ 6 then .next s
  else if fieldN b 0 1 = 1 && b.length = 28 then .next (s.takeRoster (rosterOf b))
  else if fieldN b 0 1 = 2 && b.length = 44 && s.svcOn 2 && 1 ≤ cPsize (b.drop 4) then .next (s.takeCatalog (b.drop 4))
  else .next s

end Sys2Proof.Machine
end

