-- ==== Sys2Proof/Machine/Rules.lean ====
section
/-!
DEFINITION. The rules that a commit is judged by and what an applied value does (17_object_dictionary.md R506-R508; R33, R59,
R89, R101, R115, R142, R169, R224, R237, R238, R262, R361, R452, R535, R555). A set is judged against a preview: the state as
it will stand at the next tick.
-/
namespace Sys2Proof.Machine

/-- The slice and the index offset of R529 of a slice object's index. -/
def sliceIx (i : Nat) : Option (Fin 4 × Nat) :=
  if 0x800 ≤ i && i < 0x1000 then some (asFin 4 ((i - 0x800) / 0x200), (i - 0x800) % 0x200) else none

/-- Reserved bits of a written value are ignored and read as 0 (R8). -/
def cleanBits (k : Key) (v : Nat) : Nat :=
  let i := k / 256
  let b := k % 256
  match sliceIx i with
  | some (n, 0x13) => if b = 1 then setBit (v % 16) n true else v
  | some (_, off) => if 0x20 ≤ off && off < 0x50 && b = 1 then natAnd v 0x0FFF1FFF else v
  | none =>
    if 0x320 ≤ i && i ≤ 0x32F && b = 1 then v % 2 ^ 22
    else if k = Obj.PWR_TRIM_GATE then v % 16
    else if k = Obj.PWR_WAKE_DOZE || k = Obj.PWR_WAKE_HIB then v % 512
    else if k = Obj.PWR_DOZE_WATCH then natAnd v 0x0FFF1FFF
    else if 0x1210 ≤ i && i ≤ 0x1217 && b = 1 then v % 64
    else if 0x1D10 ≤ i && i ≤ 0x1D1F && b = 1 then v % 64
    else if 0x210 ≤ i && i ≤ 0x217 then v % 2 ^ 11
    else if (i = 0x1920 || i = 0x1921) && b = 1 then v % 32
    else if i = 0x110 || i = 0x111 then (if b = 3 then v % 4 else v)
    else if k = Obj.SVC_ENABLE then v % 16
    else if k = Obj.NBF_LOAD_RATES then v % 8
    else if k = Obj.NBF_UPD_HEALTH_MASK then v % 32
    else v

/-- The value at which a planned value is held (R73, R447, R555). -/
def heldVal (k : Key) (v : Nat) : Nat :=
  if k = Obj.PWR_PLAN_VCORE_RUN || k = Obj.PWR_PLAN_VCORE_TRIM then min 900 (max 650 v)
  else if k = Obj.PWR_PLAN_VCORE_DOZE then min 800 (max 650 v)
  else if k = Obj.PWR_PLAN_BB_RUN then ofI 16 (clampI 0 300 (toI 16 v))
  else if k = Obj.PWR_PLAN_BB_DOZE then ofI 16 (clampI (-600) 0 (toI 16 v))
  else if k = Obj.DRM_REF_SCALE then min 8 v
  else if k = Obj.DRM_TIMING_ADD then min 7 v
  else match sliceIx (k / 256) with
    | some (_, 0x12) => if k % 256 = 2 then min 12 v else v
    | _ => v

/-! ## The values of accepted commits (R33, R238, R508) -/

/-- Put one committed value in force. -/
def State.putVal (s : State) (e : Key × Val) : State :=
  match e.2 with
  | .bytes b => s.setBlob e.1 b
  | .num v => if e.1 = Obj.AIR_REGION then s else (s.setO e.1 (heldVal e.1 v)).airTestCeil e.1

/-- The value a set gives an object. -/
def setNum (l : List (Key × Val)) (k : Key) : Option Nat :=
  match (l.find? (fun e => e.1 == k)) with
  | some (_, .num v) => some v
  | _ => none

/-- Put a set in force: `region` is the region of the tick, and the set that brings it loads its preset first (R238). -/
def State.putSet (s : State) (region : Nat) (l : List (Key × Val)) : State :=
  let s := if setNum l Obj.AIR_REGION = some region then s.regionChange region else s
  l.foldl State.putVal s

/-- The region that a list of sets leaves (R508). -/
def State.regionOf (s : State) (l : List (List (Key × Val))) : Nat :=
  l.foldl (fun r x => (setNum x Obj.AIR_REGION).getD r) (s.o Obj.AIR_REGION)

/-- Put sets in force in the order of acceptance (R508). -/
def State.putSets (s : State) (l : List (List (Key × Val))) : State :=
  let r := s.regionOf l
  l.foldl (fun (s : State) x => s.putSet r x) s

/-! ## The checks (R507) -/

/-- End of the DRAM that a region may reach (R452). -/
def State.dramTop (s : State) : Nat := if s.dramOnly.isSome then 0x9C000000 else 0xB8000000

/-- A DRAM region of n bytes from a, aligned to al. -/
def State.regionOk (s : State) (a n al : Nat) : Bool :=
  decide (a % al = 0) && decide (0x80000000 ≤ a) && decide (a + n ≤ s.dramTop)

/-- Every default assignment of slice n is valid in the preview (R101). -/
def State.defsOk (p : State) (n : Fin 4) : Bool :=
  lsetOk (p.o (Obj.SLCn_CENTRE_HZ n)) (p.o (Obj.SLCn_BANK0_GRID n)) (p.o (Obj.SLCn_BANK1_GRID n))
    ((List.range 48).map (fun k => p.o (Obj.SLCn_LSNk_DEF n k)))

/-- Past the deadline a commit may not break the READY program (R169). -/
def State.readyHolds (s p : State) (n : Fin 4) : Bool :=
  if s.slices[n].tick + 336000 ≤ s.now then
    match s.slices[n].ready with
    | some g => (s.deadlineCheck n (fun k => p.o k) g).isNone
    | none => true
  else true

/-- A centre of R58. -/
def centreOk (v : Nat) : Bool :=
  v == 0 || (decide (766000000 ≤ v) && decide (v ≤ 944000000)) || (decide (2416000000 ≤ v) && decide (v ≤ 2484000000))

/-- The rules of slice objects. -/
def State.sliceRule (s p : State) (n : Fin 4) (off b v : Nat) : Bool :=
  if off = 0x10 then
    (b != 1 || (centreOk v && p.defsOk n)) && s.readyHolds p n
  else if off = 0x11 then b != 7 || decide (v ≤ 63) || v == 255
  else if off = 0x14 then b != 3 || decide (v ≤ 10) || v == 255
  else if off = 0x15 then p.defsOk n && s.readyHolds p n
  else if 0x20 ≤ off && off < 0x50 then p.defsOk n
  else if off = 0x18 then
    if b = 4 || b = 5 then
      let len := p.o (Obj.SLCn_CAP_LEN n)
      decide (len % 4096 = 0) && decide (4096 ≤ len) && decide (len ≤ 0x4000000) &&
        p.regionOk (p.o (Obj.SLCn_CAP_BASE n)) len 4096
    else true
  else true

/-- The rules of bucket k (R237). -/
def State.bktRule (p : State) (k b v : Nat) : Bool :=
  let region := p.o Obj.AIR_REGION
  let test := region == 15
  if region = 0 then false
  else if b = 1 then v == 0 || test || (bktPresets region).any (fun x => x.k == k)
  else if b = 6 then
    test || decide (v ≤ p.o (Obj.AIR_BKTk_CEIL k))
  else if b = 10 then decide (v ≤ p.o (Obj.AIR_BKTk_LIMIT k))
  else test && (decide (4 ≤ b) || decide (p.o (Obj.AIR_BKTk_LO_HZ k) < p.o (Obj.AIR_BKTk_HI_HZ k)))

/-- The rules of tracker t (R230, R237). -/
def State.dwlRule (p : State) (t b v : Nat) : Bool :=
  let region := p.o Obj.AIR_REGION
  let test := region == 15
  if region = 0 then false
  else if b = 1 then v == 0 || test || (dwlPresets region).any (fun x => x.t == t)
  else if b = 7 then test || decide (v ≤ p.o (Obj.AIR_DWLt_CEIL t))
  else if b = 5 || b = 6 then test
  else
    let span := p.dwlSpan t
    test && decide ((trackerBand t).1 ≤ span.1) && decide (span.2 ≤ (trackerBand t).2)

/-- The rules that tie an object to others or that its range does not say. -/
def State.objRule (s p : State) (k v : Nat) : Bool :=
  let i := k / 256
  let b := k % 256
  match sliceIx i with
  | some (n, off) => s.sliceRule p n off b v
  | none =>
    if 0x1010 ≤ i && i ≤ 0x101F then p.bktRule (i - 0x1010) b v
    else if i = 0x1030 || i = 0x1031 then p.dwlRule (i - 0x1030) b v
    else if k = Obj.FLD_HUSK_LIFE || k = Obj.FLD_MAX_AGE then decide (p.o Obj.FLD_MAX_AGE < p.o Obj.FLD_HUSK_LIFE)
    else if 0x340 ≤ i && i ≤ 0x343 then
      if b = 8 || b = 9 then decide (p.o (okey i 9) < p.o (okey i 8)) else true
    else if k = Obj.MAC_MAP_BASE then p.regionOk v 0x100000 0x100000
    else if k = Obj.MAC_COLD_BASE then p.regionOk v 0x1000000 0x1000000
    else if k = Obj.FAB_LSDB_BASE then p.regionOk v 0x100000 0x100000
    else if k = Obj.SVC_DRAM_BASE then p.regionOk v 0x8000000 0x8000000
    else if 0x1D10 ≤ i && i ≤ 0x1D1F then fld v 1 0 != 3 && fld v 3 2 != 3
    else true

/-- A value of a set passes every rule of its object. -/
def State.entryOk (s p : State) (e : Key × Val) : Bool :=
  match objFind e.1, e.2 with
  | some (x, _, _), .num v => x.inRange v && s.objRule p e.1 v
  | some _, .bytes b => if e.1 / 256 = 0x110 || e.1 / 256 = 0x111 then b.length == 16 else decide (b.length ≤ blobMax e.1)
  | none, _ => false

/-- The first object of a set that fails (R507); none when the set passes. -/
def State.setBad (s : State) (l : List (Key × Val)) : Option Key :=
  let p := s.putSets (s.com.accepted.map (fun a => a.sets) ++ [l])
  (l.find? (fun e => !(s.entryOk p e))).map (fun e => e.1)

/-- A set is judged (R507): the first object that failed, or the state with the set accepted. -/
def State.judgeSet (s : State) (l : List (Key × Val)) : Except Key State :=
  match s.setBad l with
  | some k => .error k
  | none => .ok { s with com := { s.com with accepted := s.com.accepted ++ [⟨s.now, l⟩] } }

/-- An account object: its refusal ends a session's commit with RANGE and leaves a drop record (R237, log 190). -/
def accountKey (k : Key) : Bool := (0x1010 ≤ k / 256 && k / 256 ≤ 0x101F) || k / 256 == 0x1030 || k / 256 == 0x1031

/-- The abort of a commit that object k fails (R237, R518). -/
def commitAbort (k : Key) : Nat := if accountKey k then 5 else 8

/-- The number a set gives an object, 0 for a value of bytes. -/
def setValue (l : List (Key × Val)) (k : Key) : Nat := (setNum l k).getD 0

/-- The tick at which a commit accepted now applies (R33). -/
def State.commitTick (s : State) : Instant := boundaryAt frameT (s.now + 1)

/-! ## Staging (R506) -/

/-- Put a value into a staging set; none when it would be the 65th object. -/
def stagePut (l : List (Key × Val)) (k : Key) (v : Val) : Option (List (Key × Val)) :=
  if l.any (fun e => e.1 == k) then some (l.map (fun e => if e.1 = k then (k, v) else e))
  else if l.length < 64 then some (l ++ [(k, v)])
  else none

/-- A writer's staging set. -/
def State.stageOf (s : State) : Writer → List (Key × Val)
  | .core c => s.cores[c].stage
  | .session x => s.com.sessions[x].stage
  | .debug => s.com.debugStage

/-- Put a writer's staging set. -/
def State.setStage (s : State) (w : Writer) (l : List (Key × Val)) : State :=
  match w with
  | .core c => s.modCore c (fun x => { x with stage := l })
  | .session x => s.modSess x (fun q => { q with stage := l })
  | .debug => { s with com := { s.com with debugStage := l } }

/-! ## What an applied value does -/

/-- A held value is counted and named (R555). -/
def State.clampEvents (s : State) (l : List (Key × Val)) : State :=
  l.foldl (fun (s : State) (e : Key × Val) =>
    match e.2 with
    | .num v =>
      if heldVal e.1 v = v then s
      else (s.inc Obj.PWR_CPS_CLAMPS).raise 0x166 0 (e.1 / 256 + 65536 * (e.1 % 256))
    | .bytes _ => s) s

/-- The capture objects of slice n other than CAP_CMD (R114). -/
def capKeys (n : Fin 4) : List Key :=
  [Obj.SLCn_CAP_SRC n, Obj.SLCn_CAP_LSN n, Obj.SLCn_CAP_BASE n, Obj.SLCn_CAP_LEN n, Obj.SLCn_CAP_TRIG n, Obj.SLCn_CAP_PRE n,
   Obj.SLCn_CAP_AT n]

/-- A capture object changed while the capture runs (R115): it stops as it was set. -/
def State.capChanged (s old : State) (n : Fin 4) : State :=
  if s.capRuns n then
    let t := ((capKeys n).foldl (fun (t : State) k => t.setO k (old.o k)) s).capStop n
    (capKeys n).foldl (fun (t : State) k => t.setO k (s.o k)) t
  else s

/-- A panel input changes its mode (R56): its state starts anew. -/
def State.panelMode (s : State) (k : Fin 4) : State :=
  (s.setO (Obj.TMB_PNLk_STATE k) 0).modPanel k (fun _ => { changedAt := s.now })

/-- A static address is given (R491): duplicate address detection runs for it. -/
def State.staticApply (s : State) (p : Fin 2) : State :=
  let s := s.setO (Obj.COM_Tp_DAD p) (setBit (s.o (Obj.COM_Tp_DAD p)) 1 false)
  let a := s.staticAddr p
  if s.o (Obj.COM_Tp_LINK p) = 0 || zeroB a then s
  else
    (s.modPort p (fun x => { x with tentative := s.now + 38400000 })).ndSend p (List.replicate 16 0) (solicited a) 135
      (List.replicate 4 0 ++ a)

/-- What a new value of slice n does at the tick; `old` is the state before it. A gain that SLCn_GAIN_FIX sets is no step of the
gain loop: it counts in no GAIN counter (R90, log 213). -/
def State.sliceApply (s old : State) (n : Fin 4) (off b : Nat) : State :=
  if off = 0x10 && b = 1 then s.centreApply n (old.o (Obj.SLCn_CENTRE_HZ n)) (s.o (Obj.SLCn_CENTRE_HZ n))
  else if off = 0x11 && b ≤ 2 then s.aerialApply n
  else if off = 0x14 && b = 3 then
    let g := s.o (Obj.SLCn_GAIN_FIX n)
    if g = 255 || g = s.o (Obj.SLCn_GAIN_NOW n) then s else s.gainSet n g
  else if off = 0x15 then
    let bank : Fin 2 := if b = 1 then 0 else 1
    s.gridApply n bank (s.o (if b = 1 then Obj.SLCn_BANK0_GRID n else Obj.SLCn_BANK1_GRID n))
  else if off = 0x18 then s.capChanged old n
  else s

/-- What the new value of an object does at the tick. -/
def State.applied (s old : State) (k : Key) : State :=
  let i := k / 256
  let b := k % 256
  match sliceIx i with
  | some (n, off) => s.sliceApply old n off b
  | none =>
    if 0x340 ≤ i && i ≤ 0x343 then (if b = 1 then s.panelMode (asFin 4 (i - 0x340)) else s)
    else if k = Obj.MAC_COLD_BASE then s.coldEmpty
    else if k = Obj.FLD_HUSK_LIFE then s.huskEmpty
    else if k = Obj.SVC_DRAM_BASE then s.svcDiscard
    else if i = 0x110 || i = 0x111 then
      let p := asFin 2 (i - 0x110)
      if b = 1 then (if s.ob (Obj.COM_Tp_ENABLE p) then s else s.linkDown p)
      else if b = 8 then s.staticApply p
      else s
    else if 0x1010 ≤ i && i ≤ 0x101F && b = 5 then s.bktSum (asFin 16 (i - 0x1010))
    else if k = Obj.FAB_TIME_RANK then s.rankLost
    else if k = Obj.MAC_SEQ_ROLL_FROM || k = Obj.MAC_SEQ_ROLL_TO then s.modMac (fun x => { x with rollAt := s.run })
    else if k = Obj.DRM_REF_SCALE then (s.refInt 0).refInt 1
    else s

/-- An object whose every commit acts, a commit of the value in force too: a slice's centre (R61), MAC_COLD_BASE (R222). -/
def actsAnyway (k : Key) : Bool := k == Obj.MAC_COLD_BASE || fin4.any (fun n => k == Obj.SLCn_CENTRE_HZ n)

/-- The objects of the sets that act: those whose values differ, and those whose every commit acts. -/
def changedKeys (old new : State) (l : List (List (Key × Val))) : List Key :=
  (l.flatMap (fun x => x.map (fun e => e.1))).eraseDups.filter (fun k =>
    actsAnyway k || decide (old.o k ≠ new.o k) || decide (old.blob k ≠ new.blob k))

/-- A plan object (R554, R559). -/
def planKey (k : Key) : Bool := k / 256 == 0x420 && decide (k % 256 ≤ 5)

/-- Step 2 of R33: the commits observed before tick t apply as one. -/
def State.applyCommits (s : State) (t : Instant) : State :=
  let due := (s.com.accepted.filter (fun a => decide (a.seen < t))).map (fun a => a.sets)
  let s := { s with com := { s.com with accepted := s.com.accepted.filter (fun a => decide (t ≤ a.seen)) } }
  if due.isEmpty then s
  else
    let s := fin4.foldl (fun (s : State) n => s.capAdvance n) s
    let used := s.airUsed
    let old := s
    let s := s.putSets due
    let s := if s.o Obj.AIR_REGION = old.o Obj.AIR_REGION then s else s.regionHold used
    let s := due.foldl (fun (s : State) l => s.clampEvents l) s
    let s := (changedKeys old s due).foldl (fun (s : State) k => s.applied old k) s
    if due.any (fun l => l.any (fun e => planKey e.1)) then s.planApply else s

end Sys2Proof.Machine
end

