-- ==== Sys2Proof/Machine/Session.lean ====
section
/-!
DEFINITION. What SOP sends and the handler ring (17_object_dictionary.md R511, R515, R518, R520-R522): messages leave a
session secured, aborts are counted, and requests for firmware-backed objects wait in the ring for the base firmware.
-/
namespace Sys2Proof.Machine

/-! ## Messages that leave -/

/-- DNONCE of session x (R512). -/
def State.dnonce (s : State) (x : Fin 8) : Bytes := sliceB s.com.sessions[x].openRsp 4 16

/-- The nonce of R511. -/
def sopNonce (dn : Bytes) (fcnt : Nat) (host : Bool) : Bytes :=
  sliceB dn 0 4 ++ leBytes 4 fcnt ++ [if host then 0x84 else 0x83] ++ sliceB dn 4 4

/-- The bytes of a secured body (R515). -/
def SopMsg.bytes (m : SopMsg) : Bytes := leBytes 1 m.ty ++ leBytes 1 m.tag ++ leBytes 2 m.payload.length ++ m.payload

/-- HSPI has room for one more message of its SOP channel (R497); a T1L port always has. -/
def State.sopRoom (s : State) (port : Nat) : Bool := port != 2 || decide (s.com.hspiOut.length < 4)

/-- HOST_IRQ_N gives a pulse when a message is queued in pulse mode (R497). -/
def State.irqPulse (s : State) : State :=
  if s.o Obj.COM_H_IRQ = 1 then s.modCom (fun c => { c with irqPulses := c.irqPulses + 1 }) else s

/-- A datagram of session x leaves by the session's port. -/
def State.sopOut (s : State) (x : Fin 8) (d : Bytes) : State :=
  let port := s.o (Obj.COM_Ss_PORT x)
  if port = 2 then ((s.modCom (fun c => { c with hspiOut := c.hspiOut ++ [d] })).irqPulse).hspiShow
  else
    let peer := s.blob (Obj.COM_Ss_PEER x)
    s.udpSend (asFin 2 port) (sliceB peer 0 16) (fieldN peer 16 2) d

/-- A message leaves session x secured under its next FCNT (R511, R514); without a counter it is not sent. -/
def State.sopSend (s : State) (x : Fin 8) (m : SopMsg) : State :=
  match s.assignCtr (248 + x.val) 7 with
  | none => s
  | some (c, s) =>
    let h := leBytes 1 1 ++ leBytes 1 4 ++ leBytes 1 x.val ++ [0] ++ leBytes 4 c
    let d := h ++ Config.ccmSeal (s.keyOf (248 + x.val)) (sopNonce (s.dnonce x) c false) h m.bytes 16
    ((s.sopOut x d).inc (Obj.COM_Ss_TX x)).inc Obj.COM_TX_MSG

/-- Send at most n of the messages that wait in session x while its port has room. -/
def State.drainN (s : State) (x : Fin 8) : Nat → State
  | 0 => s
  | n + 1 =>
    match s.com.sessions[x].queue with
    | [] => s
    | m :: r =>
      if s.sopRoom (s.o (Obj.COM_Ss_PORT x)) then
        State.drainN ((s.modSess x (fun q => { q with queue := r })).sopSend x m) x n
      else s

/-- Send what waits in session x. -/
def State.drain (s : State) (x : Fin 8) : State := s.drainN x s.com.sessions[x].queue.length

/-- Send what waits in every open session. -/
def State.drainAll (s : State) : State :=
  fin8.foldl (fun (s : State) (x : Fin 8) => if s.o (Obj.COM_Ss_STATE x) = 2 then s.drain x else s) s

/-- Answer session x: what waits goes first; without room the answer waits too. -/
def State.answer (s : State) (x : Fin 8) (m : SopMsg) : State :=
  let s := s.drain x
  if s.com.sessions[x].queue.isEmpty && s.sopRoom (s.o (Obj.COM_Ss_PORT x)) then s.sopSend x m else s.toSession x m

/-- Answer whoever asked: a session, or the debug channel in the clear (R498). -/
def State.reply (s : State) (w : Writer) (m : SopMsg) : State :=
  match w with
  | .core _ => s
  | .session x => s.answer x m
  | .debug =>
    if s.com.hspiDbg.length < 4 then (s.modCom (fun c => { c with hspiDbg := c.hspiDbg ++ [m.bytes] })).irqPulse else s

/-- INDEX and SUB of an object. -/
def keyBytes (k : Key) : Bytes := leBytes 2 (k / 256) ++ leBytes 1 (k % 256)

/-- An ABORT that names an object, counted under its code (R521). -/
def State.abortTo (s : State) (w : Writer) (tag : Nat) (k : Key) (code : Nat) : State :=
  let s := if 1 ≤ code && code ≤ 0x14 then s.inc (okey 0x150 code) else s
  s.reply w ⟨0x0F, tag, keyBytes k ++ leBytes 1 code⟩

/-- The response to a request of type ty. -/
def State.respond (s : State) (w : Writer) (ty tag : Nat) (p : Bytes) : State := s.reply w ⟨ty + 0x80, tag, p⟩

/-! ## The handler ring (R522) -/

/-- Address of handler slot i. -/
def handlerAddr (i : Nat) : Nat := 0x200C0000 + 1024 * i

/-- A free handler slot. -/
def State.freeHandler (s : State) : Option Nat := (List.range 32).find? (fun i => s.com.handlers.all (fun h => h.slot != i))

/-- SESSION of a handler slot: 0xFF for the debug channel. -/
def writerNo : Writer → Nat
  | .core c => c
  | .session x => x
  | .debug => 0xFF

/-- A request to the handlers, but for its slot and its deadline. -/
structure Ask where
  op : Nat
  key : Key
  off : Nat := 0
  total : Nat := 0
  len : Nat := 0
  data : Bytes := []
  value : Option Bytes := none
  block : Option BlockRun := none

/-- Put a request into a free slot and raise SOP_REQUEST; none when no slot is free. -/
def State.tryAsk (s : State) (w : Writer) (tag : Nat) (a : Ask) : Option State :=
  s.freeHandler.map (fun i =>
    let body := leBytes 1 1 ++ leBytes 1 a.op ++ leBytes 1 (writerNo w) ++ leBytes 1 (s.rankOf w) ++ keyBytes a.key ++ [0] ++
      leBytes 4 a.off ++ leBytes 4 a.total ++ leBytes 2 a.len ++ leBytes 6 0 ++ a.data
    let s := s.wbs (handlerAddr i) body
    let h : HandlerReq := ⟨i, w, tag, a.op, a.key, s.now + 3840000, a.value, a.block⟩
    (s.modCom (fun c => { c with handlers := c.handlers ++ [h] })).raise 0x152 (writerNo w) i)

/-- Ask the handlers; BUSY when no slot is free. -/
def State.ask (s : State) (w : Writer) (tag : Nat) (a : Ask) : State :=
  match s.tryAsk w tag a with
  | some t => t
  | none => s.abortTo w tag a.key 0x0C

/-! ## A session's commit (R507, R518) -/

/-- A staged value of a firmware-backed object takes force through its handler (R522). -/
def anyFirm (l : List (Key × Val)) : Bool := l.any (fun e => firmwareBacked e.1)

/-- The base firmware's command objects, whose values are kept nowhere. -/
def firmCommand (k : Key) : Bool :=
  (0x1410 ≤ k / 256 && k / 256 ≤ 0x141F && k % 256 == 1) || k == Obj.SVC_LTN_CMD || k == Obj.SVC_HMP_CMD || k == Obj.SVC_BSK_ACKED ||
  k == Obj.SVC_BSK_DN_CMD || k == Obj.NBF_UPD_PIECE || k == Obj.NBF_UPD_ACT_AT || k == Obj.NBF_UPD_CMD

/-- An object of installer configuration (R571): one of level INSTALL that is written or staged and kept; the commands of the base firmware
and NBF_UPD_ACT_AT keep nothing. -/
def configKey (k : Key) : Bool :=
  match objFind k with
  | some (x, _, _) => x.lev = .install && (x.acc = .rwt || x.acc = .rw) && !(firmCommand k)
  | none => false

/-- The base firmware keeps installer configuration as records (R571). -/
def State.keepConfig (s : State) (l : List (Key × Val)) : State :=
  let l := l.filter (fun e => configKey e.1)
  s.modBoot (fun b => { b with config := b.config.filter (fun e => !(l.any (fun x => x.1 == e.1))) ++ l })

/-- Judge the staging set of a session or of the debug channel: the set is emptied, and the answer says the tick or the first
object that failed. When the handlers had accepted it, DISCARD tells them of a refusal. -/
def State.judgeSop (s : State) (w : Writer) (tag : Nat) : State :=
  let l := s.stageOf w
  match s.judgeSet l with
  | .ok t => ((t.setStage w []).keepConfig l).respond w 5 tag (leBytes 8 (tt64 s.commitTick))
  | .error k =>
    let s := (s.setStage w []).abortTo w tag k (commitAbort k)
    if anyFirm l then (s.tryAsk w tag { op := 5, key := k }).getD s else s

/-! ## Answers of the handlers -/

/-- The type code of an object; DOM for one of policy firmware. -/
def typeCode (k : Key) : Nat :=
  match objFind k with
  | some (x, _, _) => x.ty.code
  | none => 0x0C

/-- The value that bytes spell for an object. -/
def valOf (k : Key) (b : Bytes) : Val :=
  match objFind k with
  | some (x, _, _) => if x.ty.blob then .bytes b else .num (cleanBits k (leNat b))
  | none => .bytes b

/-- The base firmware runs a command that a host writes (R315, R322, R325, R331, R332, R574, R577, R584); a refused one ends with
COMMAND, one of SVC_BSK_ACKED with RANGE (R211, R521). -/
def State.firmRun (s : State) (k : Key) (b : Bytes) : Except Nat State :=
  let v := leNat b
  if 0x1410 ≤ k / 256 && k / 256 ≤ 0x141F && k % 256 == 1 then orAbort 0x0A (s.qCmd (asFin 16 (k / 256 - 0x1410)) v)
  else if k = Obj.SVC_LTN_CMD then orAbort 0x0A (if v = 1 then s.ltnSend else none)
  else if k = Obj.SVC_HMP_CMD then orAbort 0x0A (s.hmpCmd v)
  else if k = Obj.SVC_HMP_IMAGE then .ok (s.setBlob k b)
  else if k = Obj.SVC_BSK_ACKED then orAbort 5 (s.bskAcked v)
  else if k = Obj.SVC_BSK_DN_CMD then orAbort 0x0A (if v = 1 then s.dnSend else none)
  else if k = Obj.NBF_UPD_PIECE then orAbort 5 (s.updPieceWrite b)
  else if k = Obj.NBF_UPD_ACT_AT then s.actAtWrite v
  else if k = Obj.NBF_UPD_CMD then orAbort 0x14 (s.updCmd v)
  else .ok s

/-- The base firmware takes a write of an RW object that it keeps, or of a command; a value out of the range of an object that it
keeps is refused (R153, R516). -/
def State.firmWrite (s : State) (k : Key) (b : Bytes) : Except Nat State :=
  match objFind k with
  | some (x, _, _) =>
    if x.acc = .rw && !(firmCommand k) then
      match valOf k b with
      | .num v => if x.inRange v then .ok ((s.setO k v).keepConfig [(k, .num v)]) else .error 5
      | .bytes b => .ok ((s.setBlob k b).keepConfig [(k, .bytes b)])
    else s.firmRun k b
  | none => .ok s

/-- The firmware has accepted a staged value; the set may have filled meanwhile. -/
def State.firmStage (s : State) (w : Writer) (k : Key) (b : Bytes) : Except Nat State :=
  match stagePut (s.stageOf w) k (valOf k b) with
  | some l => .ok (s.setStage w l)
  | none => .error 9

/-- An RWT object of the base firmware is staged, every other firmware-backed object is written. -/
def firmOp (k : Key) : Nat :=
  match objFind k with
  | some (x, _, _) => if x.acc = .rwt then 3 else 2
  | none => 2

/-- The level an object needs over SOP; 1 for one of policy firmware. -/
def levelOf (k : Key) : Nat :=
  match objFind k with
  | some (x, _, _) => x.lev.rank
  | none => 1

/-- The debug channel may access object k (R498); cores' CTRL and START are open to it while OWNER. -/
def State.debugMay (s : State) (k : Key) : Bool :=
  let st := s.o Obj.SHL_DBG_STATE
  let i := k / 256
  if st = 2 then true
  else if st = 1 then
    decide (levelOf k ≤ 3) || (0x1C10 ≤ i && i ≤ 0x1C17 && (k % 256 == 2 || k % 256 == 3)) || i == 0x1804
  else decide (i ≤ 1) || i == 0x1804

/-- An object that a host can name: one of the tables, or one of policy firmware (R510). -/
def objThere (k : Key) : Bool := (objFind k).isSome || (decide (0x3000 ≤ k / 256) && decide (k / 256 ≤ 0x5FFF))

/-- n bytes may be a whole value of an object: a number has the size of its type (R516). -/
def sizeOk (k : Key) (n : Nat) : Bool :=
  match objFind k with
  | some (x, _, _) => x.ty.blob || n == x.ty.size
  | none => true

/-- The abort of an access that its reader or writer may not make (R502, R503, R521). -/
def State.gate (s : State) (w : Writer) (k : Key) (write : Bool) : Option Nat :=
  let acc := (objFind k).map (fun e => e.1.acc)
  if k / 256 = 0x1804 && w != .debug then some 7
  else if w = .debug && !(s.debugMay k) then some 2
  else if !(objThere k) then some 1
  else if !write then (if acc = some .wo then some 4 else none)
  else if acc = some .ro then some 3
  else if acc = some .const then some 0x13
  else
    match w with
    | .session x => if s.o (Obj.COM_Ss_LEVEL x) < levelOf k then some 2 else none
    | _ => none

/-- The answer to a read of one object in a block. -/
def blockEntry (sub code : Nat) (v : Bytes) : Bytes := leBytes 1 sub ++ leBytes 1 code ++ leBytes 2 v.length ++ v

/-- A block of firmware-backed objects is done (R517): its response must fit one message. -/
def State.blockOver (s : State) (w : Writer) (tag : Nat) (b : BlockRun) : State :=
  let head := leBytes 2 b.index ++ leBytes 1 b.first
  if 992 < b.out.length then s.abortTo w tag (okey b.index b.first) 0x0F
  else if b.read then s.respond w 3 tag (head ++ leBytes 1 b.count ++ b.out)
  else s.respond w 4 tag (head ++ leBytes 1 b.done)

/-- Go on with a block of firmware-backed objects: ask for the next one that may be asked for, or end. -/
def State.blockGo (s : State) (w : Writer) (tag : Nat) : Nat → BlockRun → State
  | 0, b => s.blockOver w tag b
  | n + 1, b =>
    match b.todo with
    | e :: _ =>
      let k := okey b.index e.1
      (match s.gate w k true with
       | some c => s.abortTo w tag k c
       | none =>
         if !(sizeOk k e.2.length) then s.abortTo w tag k 6 else
         s.ask w tag { op := firmOp k, key := k, total := e.2.length, len := e.2.length, data := e.2, value := some e.2, block := some b })
    | [] =>
      let k := okey b.index ((b.first + b.done) % 256)
      if b.done < b.count && b.read then
        match s.gate w k false with
        | some c => State.blockGo s w tag n { b with done := b.done + 1, out := b.out ++ blockEntry (k % 256) c [] }
        | none => s.ask w tag { op := 1, key := k, len := 996, block := some b }
      else s.blockOver w tag b

/-- Go on with a block. -/
def State.blockNext (s : State) (w : Writer) (tag : Nat) (b : BlockRun) : State := s.blockGo w tag (b.count + 1) b

/-- A handler has answered, or its time is over: code 0 is success. -/
def State.handled (s : State) (h : HandlerReq) (code : Nat) : State :=
  let a := handlerAddr h.slot
  let w := h.who
  let len := min 1000 (s.rn (a + 16) 2)
  let data := s.rbs (a + 24) len
  match h.op with
  | 1 =>
    (match h.block with
     | some b =>
       let e := if code = 0 then blockEntry (h.key % 256) 0 data else blockEntry (h.key % 256) code []
       s.blockNext w h.tag { b with done := b.done + 1, out := b.out ++ e }
     | none =>
       if code ≠ 0 then s.abortTo w h.tag h.key code
       else if 981 < len then s.abortTo w h.tag h.key 0x0F
       else
         s.respond w 1 h.tag (keyBytes h.key ++ leBytes 1 (typeCode h.key) ++ [0] ++ s.rbs (a + 12) 4 ++ s.rbs (a + 8) 4 ++
           leBytes 2 len ++ data))
  | 2 | 3 =>
    let r : Except Nat State :=
      if code ≠ 0 then .error code
      else match h.value with
        | none => .ok s
        | some v => if h.op = 2 then s.firmWrite h.key v else s.firmStage w h.key v
    (match r with
     | .error e => s.abortTo w h.tag h.key e
     | .ok s =>
       match h.block with
       | some b => s.blockNext w h.tag { b with done := b.done + 1, todo := b.todo.drop 1 }
       | none => s.respond w 2 h.tag (keyBytes h.key))
  | 4 =>
    if code ≠ 0 then (s.setStage w []).abortTo w h.tag (okey (s.rn (a + 4) 2) (s.rn (a + 6) 1)) (if code = 0x0B then code else 8)
    else s.judgeSop w h.tag
  | _ => s

/-- Free the slot of a request. -/
def State.freeSlot (s : State) (h : HandlerReq) : State :=
  (s.modCom (fun c => { c with handlers := c.handlers.filter (fun x => x.slot != h.slot) })).wb (handlerAddr h.slot) 0

/-- A write of COM_HND_DONE: none when the slot holds no request (R522). -/
def State.handlerDone (s : State) (slot : Nat) : Option State :=
  match s.com.handlers.find? (fun h => h.slot == slot) with
  | none => none
  | some h => some ((s.freeSlot h).handled h (s.rn (handlerAddr slot + 7) 1))

/-- COM_HND_DONE (R522): core who names the slot it has answered. -/
def execComHndDone (who : Fin 8) (slot : Nat) (s : State) : Out :=
  .next ((s.handlerDone slot).getD (s.dropped (windowAddr Obj.COM_HND_DONE) slot who (if slot < 32 then 6 else 3)))

/-- HANDLER_TIMEOUT (R522): the request that has waited longest ends with HANDLER after 100 ms. -/
def execHandlerTimeout (s : State) : Out :=
  match s.com.handlers with
  | [] => .next s
  | h :: _ => .next (((s.upTo h.by_).freeSlot h).handled h 0x0B)

/-- COM_SS_CLOSE (R514, R534): a write of 1 to COM_Ss_CLOSE closes session x; over SOP it needs its level (R503). -/
def execComSsClose (x : Fin 8) (s : State) : Out := .next (s.sessClose x 3)

/-- SESSION_IDLE_TIMEOUT (R514): session x has seen no accepted message for COM_IDLE_LIMIT superframes. -/
def execSessionIdleTimeout (x : Fin 8) (s : State) : Out :=
  if s.o (Obj.COM_Ss_STATE x) ≠ 2 then .next s
  else .next ((s.upTo (s.com.sessions[x].seen + s.o Obj.COM_IDLE_LIMIT * superT)).sessClose x 1)

/-- SESSION_OPEN_TIMEOUT (R513): no OPEN_FIN within 2 s of OPEN_RSP frees session x. -/
def execSessionOpenTimeout (x : Fin 8) (s : State) : Out :=
  if s.o (Obj.COM_Ss_STATE x) ≠ 1 then .next s
  else .next ((((s.upTo s.com.sessions[x].finBy).freeHandlers x).sessFree x).inc Obj.COM_AUTH_FAILS)

end Sys2Proof.Machine
end

