-- ==== Sys2Proof/Machine/Dict.lean ====
section
/-!
DEFINITION. Reading and writing objects (17_object_dictionary.md R500-R506, R524-R528, R532-R536 and the object tables of
every chapter): what a read of each live object answers, and what a write of each RW or WO object does or why it is
refused. The window (Window.lean) and SOP (Sop.lean) are built on these.
-/
namespace Sys2Proof.Machine

/-! ## Refusals -/

/-- Why a write is refused: the abort code over SOP (R521) and the drop cause through the window (R527). -/
structure Refuse where
  code : Nat
  cause : Nat
  deriving DecidableEq, Repr

/-- A value out of range. -/
def refRange : Refuse := ⟨5, 3⟩
/-- A value that a command object refuses (R521). -/
def refValue : Refuse := ⟨0x0A, 3⟩
/-- A command refused. -/
def refCommand : Refuse := ⟨0x0A, 6⟩
/-- A write not allowed in the current state. -/
def refState : Refuse := ⟨0x14, 3⟩
/-- An object owned by hardware. -/
def refOwned : Refuse := ⟨0x14, 4⟩
/-- The staging set is full (R506). -/
def refFull : Refuse := ⟨9, 5⟩

/-- What a write does: the state after it, and why it was refused if it was. -/
abbrev Wr := State × Option Refuse

/-- A write that takes effect. -/
def wrOk (s : State) : Wr := (s, none)

/-- A write that is refused. -/
def wrNo (s : State) (r : Refuse) : Wr := (s, some r)

/-- A write that takes effect or changes nothing. -/
def wrOr (s : State) (r : Refuse) (o : Option State) : Wr :=
  match o with
  | some t => wrOk t
  | none => wrNo s r

/-! ## Reads -/

/-- The code of a core's state (R432). -/
def CoreRun.code : CoreRun → Nat
  | .held => 0 | .run => 1 | .wait => 2 | .faulted => 3 | .halted => 4

/-- A bit for each core. -/
def State.coreBits (s : State) (f : CoreSt → Bool) : Nat :=
  fin8.foldl (fun (v : Nat) (c : Fin 8) => setBit v c (f s.cores[c])) 0

/-- The engine objects of core c (R509, R533). -/
def CoreSt.engine (x : CoreSt) (b : Nat) : Nat :=
  if b = 2 then x.commitResult else if b = 3 then x.domSel else if b = 6 then x.domPos % 65536 else if b = 7 then x.fwSel else 0

/-- The reading core, when a core reads. -/
def asCore : Writer → Option (Fin 8)
  | .core c => some c
  | _ => none

/-- A read of a counter's COUNT or CAP, of any other object of its area, or of an engine or job object of the reader. -/
def State.readOwn (s : State) (w : Writer) (k : Key) : State × Nat :=
  let i := k / 256
  let b := k % 256
  if 0x320 ≤ i && i ≤ 0x32F && b = 3 then s.tcReadCount (asFin 16 (i - 0x320))
  else if 0x320 ≤ i && i ≤ 0x32F && b = 4 then s.tcReadCap (asFin 16 (i - 0x320))
  else if i = 0x101 then (s, match asCore w with | some c => s.cores[c].engine b | none => 0)
  else if k = Obj.JOB_TICKET then (s, match asCore w with | some c => s.cores[c].ticket | none => 0)
  else (s, s.o k)

/-- The live objects of the cores (R431, R432). -/
def State.readCore (s : State) (k : Key) : Nat :=
  let c := asFin 8 (k / 256 - 0x1C10)
  let x := s.cores[c]
  if k = Obj.COR_RELEASE then s.coreBits (fun x => x.mode != .held)
  else if k = Obj.COR_SPROUT then s.coreBits (fun x => x.sprout)
  else if k = Obj.COR_WAITING then s.coreBits (fun x => x.mode == .wait)
  else if k = Obj.COR_c_STATE c then x.mode.code
  else if k = Obj.COR_c_PC c then x.pc.toNat
  else if k = Obj.COR_c_TCAUSE c then x.tcause
  else if k = Obj.COR_c_TPC c then x.tpc.toNat
  else if k = Obj.COR_c_EVDEPTH c then x.queue.length
  else if k = Obj.COR_c_BUSY c then s.busyCycles c
  else s.o k

/-- A read of a number: the value of its type's width, and what the read itself changes. -/
def State.readNum (s : State) (w : Writer) (k : Key) : State × Nat :=
  let i := k / 256
  let b := k % 256
  if k = Obj.TMB_NOW then (s, tt64 s.now)
  else if (0x320 ≤ i && i ≤ 0x32F) || i = 0x101 || i = 0x1900 then s.readOwn w k
  else if (i = 0x1030 || i = 0x1031) && b = 13 then (s, s.cellLoad (i - 0x1030) (s.o (Obj.AIR_DWLt_PROBE (i - 0x1030))))
  else if 0x1910 ≤ i && i ≤ 0x1914 && b = 4 then (s, s.poolLive (asFin 5 (i - 0x1910)))
  else if k = Obj.DRM_CLEAN then (s, s.dramClean)
  else if 0x1B00 ≤ i && i ≤ 0x1B14 then (s, s.flashShow.o k)
  else if 0x1C00 ≤ i && i ≤ 0x1C17 then (s, s.readCore k)
  else if 0x1D10 ≤ i && i ≤ 0x1D1F && b = 2 then (s, b2n (bitOf (s.o Obj.GIO_OUT) (i - 0x1D10)))
  else if 0x1D10 ≤ i && i ≤ 0x1D1F && b = 3 then (s, b2n (bitOf (s.o Obj.GIO_IN) (i - 0x1D10)))
  else (s, s.o k)

/-- The bytes of the fault log (R526). -/
def State.logBytes (s : State) : Bytes :=
  sliceB (s.com.log.flatMap (fun e => leBytes 2 e.code ++ leBytes 2 e.src ++ leBytes 4 e.arg ++ leBytes 8 (tt64 e.at_))) 0 1024

/-- A read of a STR or DOM object; none when it is refused. -/
def State.readBlob (s : State) (w : Writer) (k : Key) : Option (State × Bytes) :=
  if k = Obj.EVT_LOG then some (s, s.logBytes)
  else if k = Obj.COM_Tp_LL_ADDR 0 then some (s, s.llAddr 0)
  else if k = Obj.COM_Tp_LL_ADDR 1 then some (s, s.llAddr 1)
  else if k = Obj.SHL_DBG_CHAL then (if w = .debug then s.challenge.map (fun x => (x.2, x.1)) else none)
  else some (s, s.blob k)

/-! ## Writes: events and communication -/

/-- A post on EVT_POST (R525). -/
def State.evtPost (s : State) (b : Bytes) : Wr :=
  let code := fieldN b 0 2
  let src := fieldN b 2 2
  let arg := fieldN b 4 4
  let cls := arg % 256
  if b.length < 8 || 908 < b.length then wrNo (s.inc Obj.EVT_POST_REFUSED) refRange
  else if code = 0x100 && (cls = 5 || cls = 6 || cls = 7 || cls = 10 || cls = 11) then
    wrOk (s.miss cls src (frameStart s.now + 8 * fld arg 31 16))
  else if code = 0x133 then wrOk (s.raiseE ⟨code, src, arg, s.now, b.drop 8⟩)
  else if 0x800 ≤ code then wrOk (s.raiseFw code src arg (b.drop 8))
  else wrNo (s.inc Obj.EVT_POST_REFUSED) refRange

/-- EVT_LOG_CLEAR 1 empties the log (R528). -/
def State.logClear (s : State) : State := (s.modCom (fun c => { c with log := [] })).setO Obj.EVT_LOG_NEXT 0

/-- EVT_ROUTE_RESET 1 restores every route to its default (R528). -/
def State.routeReset (s : State) : State :=
  (List.range 128).foldl (fun (s : State) i => s.setO (Obj.EVT_ROUTE (0x100 + i)) (routeDefault (0x100 + i))) s

/-- EVT_DROP_CLEAR 1 clears the count and the first address (R528). -/
def State.dropClear (s : State) : State := (s.setO Obj.EVT_DROP_COUNT 0).setO Obj.EVT_DROP_FIRST 0

/-- A write in area 0x01xx or 0x02xx. -/
def State.writeCom (s : State) (k v : Nat) : Wr :=
  let i := k / 256
  if k = Obj.COM_HND_DONE then wrOr s (if v < 32 then refCommand else refValue) (s.handlerDone v)
  else if 0x140 ≤ i && i ≤ 0x147 then wrOk (s.sessClose (asFin 8 (i - 0x140)) 3)
  else if k = Obj.EVT_LOG_CLEAR then wrOk s.logClear
  else if k = Obj.EVT_ROUTE_RESET then wrOk s.routeReset
  else if k = Obj.EVT_DROP_CLEAR then wrOk s.dropClear
  else wrOk (s.setO k (cleanBits k v))

/-! ## Writes: time, power, slices -/

/-- A write in area 0x03xx. -/
def State.writeTime (s : State) (k v : Nat) : Wr :=
  let i := k / 256
  let b := k % 256
  if i = 0x301 then (if v = 0 then wrOk (s.setO k 0) else wrNo s refRange)
  else if 0x320 ≤ i && i ≤ 0x32F then
    let n := asFin 16 (i - 0x320)
    if b = 6 then wrOk (s.tcFlagsClear n v)
    else if s.tcOwned n then wrNo s refOwned
    else if b = 2 then wrOk (s.tcCtrl n v)
    else wrOk (s.tcPutCount n v)
  else wrOk (s.setO k v)

/-- A write in area 0x04xx. -/
def State.writePower (s : State) (k v : Nat) : Wr :=
  if k = Obj.PWR_SCCP_CLASS then wrOr s refRange (s.sccpClass v)
  else if k = Obj.PWR_CPS_CMD then wrOr s refValue (s.surveyCmd v)
  else wrOk (s.setO k (cleanBits k v))

/-- A command of the capture of slice n (R114, R115). -/
def State.capCmd (s : State) (n : Fin 4) (v : Nat) : Wr :=
  if v = 1 then wrOr s refCommand (s.capArm n)
  else if v = 2 then wrOk (s.capTrigger n)
  else wrOk (s.capStop n)

/-- A write of an object of slice n. -/
def State.writeSlice (s : State) (n : Fin 4) (off b k v : Nat) : Wr :=
  if off = 0x10 && b = 3 then wrOk (s.calRequest n 0)
  else if off = 0x18 && b = 1 then s.capCmd n v
  else if off = 0x1A && b = 1 then wrOr s refCommand (s.fpCommit n v)
  else if off = 0x1A && b = 2 then wrOr s refCommand (s.fpCmd n v)
  else if off = 0x1A && 10 ≤ b && b ≤ 13 then (if v = 0 then wrOk (s.setO k 0) else wrNo s refRange)
  else wrOk (s.setO k v)

/-! ## Writes: accountant, MAC, flooding, fabric -/

/-- A write of FAB_TIME_SET (R298). -/
def State.timeWrite (s : State) (v : Nat) : Wr :=
  match s.timeSet v with
  | .ok t => wrOk t
  | .error c => wrNo s (if c = 3 then refRange else refCommand)

/-- A write in areas 0x10xx to 0x13xx. -/
def State.writeAir (s : State) (k v : Nat) : Wr :=
  let i := k / 256
  let b := k % 256
  if (i = 0x1030 || i = 0x1031) && b = 12 then
    if v < s.o (Obj.AIR_DWLt_CELLS (i - 0x1030)) then wrOk (s.setO k v) else wrNo s refRange
  else if 0x1110 ≤ i && i ≤ 0x1113 && b = 3 then wrOr s refRange (s.rxqCons (asFin 4 (i - 0x1110)) v)
  else if k = Obj.MAC_HOT_PIN then wrOr s refValue (s.hotPinWrite v)
  else if k = Obj.FLD_DQ_CONS then wrOr s refRange (s.dqCons v)
  else if 0x1220 ≤ i && i ≤ 0x1223 && b = 2 then wrOr s refValue (s.bind false (asFin 4 (i - 0x1220)) v)
  else if 0x1340 ≤ i && i ≤ 0x1343 && b = 2 then wrOr s refValue (s.bind true (asFin 4 (i - 0x1340)) v)
  else if k = Obj.FAB_TRAIL_COMMIT then wrOr s refValue (s.trailCommit v)
  else if k = Obj.FAB_UQ_CONS then wrOr s refRange (s.uqCons v)
  else if k = Obj.FAB_TIME_SET then s.timeWrite v
  else wrOk (s.setO k v)

/-! ## Writes: Shell, jobs, memories, cores, pins -/

/-- A write of JOB_SUBMIT: only a core submits (R375); the engine records a refusal itself. -/
def State.submitWrite (s : State) (w : Writer) (v : Nat) : Wr :=
  match w with
  | .core c => wrOk (s.jobSubmit c v).2
  | _ => wrNo s refCommand

/-- A write of JOB_CRCu_DATA, width bytes of it (R392). -/
def State.crcWrite (s : State) (w : Writer) (u : Fin 2) (width v : Nat) : Wr :=
  match w with
  | .core c => wrOk (s.crcData c u width v)
  | _ => wrNo s refCommand

/-- A write in areas 0x18xx and 0x19xx. -/
def State.writeJobs (s : State) (w : Writer) (width k v : Nat) : Wr :=
  let i := k / 256
  let b := k % 256
  let u := asFin 2 (i - 0x1920)
  if k = Obj.SHL_CMD then (if 1 ≤ v && v ≤ 14 then wrOk (s.shlCommand w v) else wrNo s refValue)
  else if k = Obj.JOB_SUBMIT then s.submitWrite w v
  else if k = Obj.JOB_LED_CONS then wrOr s refRange (s.ledCons v)
  else if 0x1910 ≤ i && i ≤ 0x1914 && b = 6 then
    let p := asFin 5 (i - 0x1910)
    wrOr (s.inc (Obj.JOB_POOLn_BADFREE p)) refValue (s.poolRelease p v)
  else if k = Obj.JOB_CRCu_DATA u then s.crcWrite w u width v
  else if k = Obj.JOB_CRCu_CMD u then wrOr s ⟨0x0A, 4⟩ (s.crcCmd u)
  else if k = Obj.JOB_CRCu_FLAGS u then wrOk (s.crcClear u v)
  else if k = Obj.JOB_CRCu_CFG u then wrOk ((s.setO k (cleanBits k v)).crcShow u)
  else wrOk (s.setO k (cleanBits k v))

/-- A write in areas 0x1Axx and 0x1Bxx; rom: by an instruction fetched from the boot ROM (R486). -/
def State.writeStore (s : State) (rom : Bool) (k v : Nat) : Wr :=
  let i := k / 256
  if 0x1A20 ≤ i && i ≤ 0x1A23 then wrOr s refRange (s.maxlevelWrite (i - 0x1A20) v)
  else if k = Obj.FLS_LOCK then wrOr s refState (s.lockWrite v rom)
  else if k = Obj.FLS_INDET_ACK then wrOr s refValue (s.indetAck v)
  else wrOk (s.setO k v)

/-- A write of COR_c_CTRL is refused for core 4 and for the writing core's own c (R430). -/
def ctrlRefused (w : Writer) (c : Fin 8) : Bool := c == 4 || w == .core c

/-- RESTART or HOLD of core c (R430). -/
def State.coreCtrl (s : State) (w : Writer) (c : Fin 8) (v : Nat) : Wr :=
  if ctrlRefused w c then wrNo s refCommand
  else wrOk (if v = 1 then s.coreStart c else s.coreHold c)

/-- Release the HELD cores that a mask names (R430, R431). -/
def State.release8 (s : State) (v : Nat) : State :=
  fin8.foldl (fun (s : State) (c : Fin 8) => if bitOf v c && s.cores[c].mode == .held then s.coreStart c else s) s

/-- A write in areas 0x1Cxx and 0x1Dxx. -/
def State.writeCore (s : State) (w : Writer) (k v : Nat) : Wr :=
  let i := k / 256
  let b := k % 256
  let p := i - 0x1D10
  if k = Obj.COR_RELEASE then wrOk (s.release8 v)
  else if 0x1C10 ≤ i && i ≤ 0x1C17 && b = 2 then s.coreCtrl w (asFin 8 (i - 0x1C10)) v
  else if k = Obj.COR_RESET_CMD then wrOr s refValue (s.resetCmd v)
  else if k = Obj.GIO_SET then wrOr s refValue (s.gioWrite gioSet v)
  else if k = Obj.GIO_CLR then wrOr s refValue (s.gioWrite gioClr v)
  else if k = Obj.GIO_TOGGLE then wrOr s refValue (s.gioWrite gioTog v)
  else if 0x1D10 ≤ i && i ≤ 0x1D1F && b = 2 then wrOk (s.setO Obj.GIO_OUT (setBit (s.o Obj.GIO_OUT) p (v == 1)))
  else if 0x1D10 ≤ i && i ≤ 0x1D1F && b = 4 then wrOr s refRange (s.gioAt p v)
  else wrOk (s.setO k v)

/-! ## One write -/

/-- Write a number to an RW or WO object whose type it fits; width: the bytes of the access. -/
def State.writeNum (s : State) (w : Writer) (rom : Bool) (width k v : Nat) : Wr :=
  match objFind k with
  | none => wrNo s refRange
  | some (x, _, _) =>
    if !(x.inRange v) then wrNo s (if x.acc = .wo && (x.ty != .tt64 || ttValid v) then refValue else refRange)
    else
      let i := k / 256
      match sliceIx i with
      | some (n, off) => s.writeSlice n off (k % 256) k v
      | none =>
        if i = 0x101 then wrNo s (if x.acc = .wo then refCommand else refState)
        else if i < 0x300 then s.writeCom k v
        else if i < 0x400 then s.writeTime k v
        else if i < 0x800 then s.writePower k v
        else if i < 0x1400 then s.writeAir k v
        else if i < 0x1A00 then s.writeJobs w width k v
        else if i < 0x1C00 then s.writeStore rom k v
        else s.writeCore w k v

/-- Write a measurement register: 32 bytes extend it, never over SOP (R367). -/
def State.measWrite (s : State) (w : Writer) (i : Nat) (b : Bytes) : Wr :=
  match w with
  | .session _ => wrNo s refState
  | _ => if b.length = 32 then wrOk (s.measExtend i b) else wrNo s refRange

/-- Write the whole value of an RW or WO object of type STR or DOM. -/
def State.writeBlob (s : State) (w : Writer) (k : Key) (b : Bytes) : Wr :=
  if k = Obj.EVT_POST then s.evtPost b
  else if blobMax k < b.length then wrNo s refRange
  else if k = Obj.COM_AUTH_OPERATE || k = Obj.COM_AUTH_INSTALL then
    if b.length = 32 then wrOk (s.setBlob k b) else wrNo s refRange
  else if k = Obj.PWR_TABLE then wrOr s refRange (s.tableWrite b)
  else if k / 256 = 0x1801 then s.measWrite w (k % 256 - 1) b
  else if k = Obj.SHL_ATT_NONCE then (if b.length = 16 then wrOk (s.setBlob k b) else wrNo s refRange)
  else if k = Obj.SHL_DBG_RESP then wrOk (s.debugResponse b)
  else wrOk (s.setBlob k b)

/-- Stage a value of an RWT object (R506); a counter that the panel block owns takes none (R55). -/
def State.stage (s : State) (w : Writer) (k : Key) (v : Val) : Wr :=
  let i := k / 256
  if 0x320 ≤ i && i ≤ 0x32F && s.tcOwned (asFin 16 (i - 0x320)) then wrNo s refOwned
  else
    let bad : Bool := match objFind k, v with
      | some (x, _, _), .num n => decide (2 ^ x.ty.width ≤ n) || (x.ty == .tt64 && !(ttValid n))
      | some _, .bytes b => decide (blobMax k < b.length)
      | none, _ => true
    if bad then wrNo s refRange
    else
      let v := match v with | .num n => Val.num (cleanBits k n) | b => b
      match stagePut (s.stageOf w) k v with
      | some l => wrOk (s.setStage w l)
      | none => wrNo s refFull

/-- Write or stage a value by the access class of its object (R502). -/
def State.putObject (s : State) (w : Writer) (rom : Bool) (width : Nat) (k : Key) (v : Val) : Wr :=
  match objFind k with
  | none => wrNo s refRange
  | some (x, _, _) =>
    if x.acc = .rwt then s.stage w k v
    else match v with
      | .num n => s.writeNum w rom width k n
      | .bytes b => s.writeBlob w k b

end Sys2Proof.Machine
end

