-- ==== Sys2Proof/Machine/Window.lean ====
section
/-!
DEFINITION. The dictionary window and the dictionary engine of each core (14_gragil_cores.md R411-R413; 17_object_dictionary.md
R500, R504, R506, R507, R509, R527; R28, R373), and the rows for writes of objects that have no row of their own.
-/
namespace Sys2Proof.Machine

/-! ## Who may write (R498, R503, R504) -/

/-- Region 0xF is staged only by a writer of level VENDOR (R238). -/
def State.vendorOnly (s : State) (w : Writer) (k : Key) (v : Val) : Bool :=
  k == Obj.AIR_REGION && v == .num 15 && decide (s.rankOf w < 4)

/-- A host writes a hardware-backed object: the abort code, or the state with the write done and kept as configuration
(R502, R571). -/
def State.hostPut (s : State) (w : Writer) (k : Key) (v : Val) : State × Nat :=
  match s.gate w k true with
  | some e => (s, e)
  | none =>
    if s.vendorOnly w k v then (s, 2)
    else
      match s.putObject w false 8 k v with
      | (t, some r) => (t, r.code)
      | (t, none) =>
        match objFind k with
        | some (x, _, _) => if x.acc = .rw then (t.keepConfig [(k, v)], 0) else (t, 0)
        | none => (t, 0)

/-- The first 4 bytes of a value, as the drop record keeps it. -/
def Val.low : Val → Nat
  | .num v => v % 2 ^ 32
  | .bytes b => leNat (b.take 4)

/-- A core's write of an object's whole value: refused ones are dropped at the object's window address (R527). -/
def State.corePut (s : State) (c : Fin 8) (rom : Bool) (width : Nat) (k : Key) (v : Val) : State :=
  match objFind k with
  | none => s
  | some (x, _, _) =>
    if k / 256 = 0x1804 then s.dropped (windowAddr k) v.low c 1
    else if x.acc = .ro || x.acc = .const then s.dropped (windowAddr k) v.low c 2
    else
      match s.putObject (.core c) rom width k v with
      | (t, none) => t
      | (t, some r) => t.dropped (windowAddr k) v.low c r.cause

/-! ## The dictionary engine of a core (R504, R507, R509) -/

/-- A hardware-backed STR or DOM object. -/
def domObject (k : Key) : Bool :=
  !(firmwareBacked k) &&
  (match objFind k with
   | some (x, _, _) => x.ty.blob
   | none => false)

/-- The key that a selection names: index in [31:16], subindex in [7:0]. -/
def selKey (v : Nat) : Key := okey (v / 65536 % 65536) (v % 256)

/-- A selection with its reserved bits ignored (R8). -/
def selClean (v : Nat) : Nat := v / 65536 % 65536 * 65536 + v % 256

/-- The selected value as core c reads it: a WO object reads empty. -/
def State.domValue (s : State) (c : Fin 8) : Bytes :=
  let k := selKey s.cores[c].domSel
  match objFind k with
  | some (x, _, _) =>
    if !(domObject k) || x.acc = .wo then []
    else ((s.readBlob (.core c) k).map (fun e => e.2)).getD []
  | none => []

/-- A write of COM_DOM_SEL. -/
def State.domSelect (s : State) (c : Fin 8) (v : Nat) : State :=
  let k := selKey v
  if !(domObject k) then s.dropped (windowAddr Obj.COM_DOM_SEL) v c 3
  else if k / 256 = 0x1804 then s.dropped (windowAddr Obj.COM_DOM_SEL) v c 1
  else s.modCore c (fun x => { x with domSel := selClean v, domPos := 0, domNew := none })

/-- Start a new value of length n; one of length 0 is written at once. The bytes that no store reaches are not given. -/
def State.domStart (s : State) (c : Fin 8) (n : Nat) : State :=
  if n = 0 then
    (s.modCore c (fun x => { x with domPos := 0, domNew := none })).corePut c false 4 (selKey s.cores[c].domSel) (.bytes [])
  else
    let s := s.modCore c (fun x => { x with domPos := 0, domNew := some (n, freeBytes s.draws n) })
    { s with draws := s.draws + n }

/-- A write of COM_DOM_LEN. -/
def State.domLen (s : State) (c : Fin 8) (v : Nat) : State :=
  let k := selKey s.cores[c].domSel
  if !(domObject k) || 65536 ≤ v || blobMax k < v then s.dropped (windowAddr Obj.COM_DOM_LEN) v c 3
  else s.domStart c v

/-- Bytes of b from p replaced by l, within the length of b. -/
def patch (b : Bytes) (p : Nat) (l : Bytes) : Bytes := b.take p ++ l.take (b.length - p) ++ b.drop (p + l.length)

/-- Store 4 bytes at the cursor; the value is written when the cursor reaches its length. -/
def State.domStore (s : State) (c : Fin 8) (v : Nat) : State :=
  let x := s.cores[c]
  match x.domNew with
  | none => s
  | some (n, b) =>
    let b := patch b x.domPos (leBytes 4 v)
    let p := x.domPos + 4
    if n ≤ p then
      (s.modCore c (fun x => { x with domPos := p, domNew := none })).corePut c false 4 (selKey x.domSel) (.bytes b)
    else s.modCore c (fun x => { x with domPos := p, domNew := some (n, b) })

/-- A write of COM_DOM_DATA: without a new value it starts one of the current length first. -/
def State.domWrite (s : State) (c : Fin 8) (v : Nat) : State :=
  if !(domObject (selKey s.cores[c].domSel)) then s.dropped (windowAddr Obj.COM_DOM_DATA) v c 3
  else if s.cores[c].domNew.isSome then s.domStore c v
  else (s.domStart c (s.domValue c).length).domStore c v

/-- A read of COM_DOM_DATA: 4 bytes from the cursor, 0 beyond the length. -/
def State.domRead (s : State) (c : Fin 8) : State × Nat :=
  let b := s.domValue c
  (s.modCore c (fun x => { x with domPos := x.domPos + 4 }), fieldN b s.cores[c].domPos 4)

/-- A write of COM_COMMIT 1 (R507). -/
def State.coreCommit (s : State) (c : Fin 8) : State :=
  let l := s.cores[c].stage
  if l.isEmpty then s.modCore c (fun x => { x with commitResult := 3 })
  else
    match s.judgeSet l with
    | .ok t => t.modCore c (fun x => { x with commitResult := 1, stage := [] })
    | .error k =>
      let t := s.modCore c (fun x => { x with commitResult := 2 + 256 * (k % 256) + 65536 * (k / 256), stage := [] })
      if accountKey k then t.dropped (windowAddr k) (setValue l k) c 3 else t

/-- The selections that COM_FW_SEL takes (R504): the low word and the high word of FAB_HELD_SINCE are two of them. -/
def fwKeys : List Key :=
  [Obj.FAB_ADDR, Obj.FAB_ADDR_STATE, Obj.FAB_HELD_SINCE, Obj.FAB_HELD_SINCE + 1, Obj.FAB_CONFLICTS, Obj.FAB_LSDB_GEN]

/-- A write of COM_FW_SEL. -/
def State.fwSelect (s : State) (c : Fin 8) (v : Nat) : State :=
  if fwKeys.contains (selKey v) then s.modCore c (fun x => { x with fwSel := selClean v })
  else s.dropped (windowAddr Obj.COM_FW_SEL) v c 3

/-- A write of COM_FW_VAL sets the selected object at once. -/
def State.fwValue (s : State) (c : Fin 8) (v : Nat) : State :=
  let x := s.cores[c]
  let k := selKey x.fwSel
  if k = Obj.FAB_HELD_SINCE then s.modCore c (fun x => { x with fwLow := v })
  else if k = Obj.FAB_HELD_SINCE + 1 then s.setO Obj.FAB_HELD_SINCE (x.fwLow + 2 ^ 32 * v)
  else
    match objFind k with
    | none => s.dropped (windowAddr Obj.COM_FW_VAL) v c 3
    | some (r, _, _) =>
      if 2 ^ r.ty.width ≤ v then s.dropped (windowAddr Obj.COM_FW_VAL) v c 3
      else if k = Obj.FAB_ADDR_STATE then s.addrState v
      else s.setO k v

/-- A write of an engine object, sub b of 0x0101. -/
def State.engineWrite (s : State) (c : Fin 8) (b v : Nat) : State :=
  if b = 1 then (if v = 1 then s.coreCommit c else s.dropped (windowAddr Obj.COM_COMMIT) v c 3)
  else if b = 3 then s.domSelect c v
  else if b = 4 then s.domLen c v
  else if b = 5 then s.domWrite c v
  else if b = 7 then s.fwSelect c v
  else if b = 8 then s.fwValue c v
  else s.dropped (windowAddr (okey 0x101 b)) v c 2

/-- A read of an engine object. -/
def State.engineRead (s : State) (c : Fin 8) (b : Nat) : State × Nat :=
  if b = 4 then (s, (s.domValue c).length % 65536)
  else if b = 5 then s.domRead c
  else (s, s.cores[c].engine b)

/-! ## Words of the window (R28, R411, R500) -/

/-- What a word of the window holds: an object, the high word of a 64-bit one, or nothing. -/
inductive WinAt where
  | word (k : Key) (x : ObjRow)
  | high (k : Key) (x : ObjRow)
  | none

/-- The key of the word that holds address a. -/
def winKey (a : Nat) : Key := okey (a / 0x400 % 0x10000) (a / 4 % 256)

/-- What the word at address a holds. -/
def winAt (a : Nat) : WinAt :=
  let k := winKey a
  if firmwareBacked k then .none
  else
    match objFind k with
    | some (x, _, _) => .word k x
    | none =>
      if k % 256 = 0 then .none
      else
        match objFind (k - 1) with
        | some (x, _, _) => if x.ty.wide then .high (k - 1) x else .none
        | none => .none

/-- An address of the window. -/
def inWindow (a : Nat) : Bool := decide (0x40000000 ≤ a) && decide (a < 0x44000000)

/-- A latch of an object (R28). -/
def latchOf (l : List (Key × Nat)) (k : Key) : Option Nat := (l.find? (fun e => e.1 == k)).map (fun e => e.2)

/-- Put or drop the latch of an object. -/
def latchSet (l : List (Key × Nat)) (k : Key) (v : Option Nat) : List (Key × Nat) :=
  let r := l.filter (fun e => e.1 != k)
  match v with
  | some n => (k, n) :: r
  | none => r

/-- Put or drop the read latch of an object. -/
def State.rLatch (s : State) (k : Key) (v : Option Nat) : State :=
  { s with time := { s.time with readLatch := latchSet s.time.readLatch k v } }

/-- Put or drop the write latch of an object. -/
def State.wLatch (s : State) (k : Key) (v : Option Nat) : State :=
  { s with time := { s.time with writeLatch := latchSet s.time.writeLatch k v } }

/-- The value of an object as its window word shows it: sign-extended when signed, the length of a STR or DOM value. -/
def State.wordOf (s : State) (w : Writer) (k : Key) (x : ObjRow) : State × Nat :=
  if x.acc = .wo then (s, 0)
  else if k / 256 = 0x101 then (match w with | .core c => s.engineRead c (k % 256) | _ => (s, 0))
  else if x.ty.blob then (s, (((s.readBlob w k).map (fun e => e.2)).getD []).length)
  else
    let (s, v) := s.readNum w k
    if x.ty.wide then ((s.rLatch k (some (v / 2 ^ 32))), v % 2 ^ 32)
    else if x.ty.signed then (s, sextW x.ty.width 32 v)
    else (s, v)

/-- A core, or the debug channel, reads n bytes at address a of the window: the trap, or what it reads. A narrow access reaches only
the word of an object, not the high word of a wide one (R411). -/
def State.winRead (s : State) (w : Writer) (a n : Nat) : Except Nat (State × Nat) :=
  if n < 4 && a % 4 ≠ 0 then .error 0x0A
  else
    match winAt a with
    | .none => .error 0x0A
    | .word k x =>
      if k / 256 = 0x1804 then .error 8
      else
        let (s, v) := s.wordOf w k x
        .ok (s, v % 2 ^ (8 * n))
    | .high k x =>
      if n < 4 then .error 0x0A
      else if k / 256 = 0x1804 then .error 8
      else if x.acc = .wo then .ok (s, 0)
      else
        match latchOf s.time.readLatch k with
        | some v => .ok (s.rLatch k none, v % 2 ^ (8 * n))
        | none =>
          let (s, v) := s.readNum w k
          .ok (s, v / 2 ^ 32 % 2 ^ (8 * n))

/-- The value that n bytes v written to a word mean for a type (R411, R500); none when it does not fit. -/
def wordFit (ty : ObjType) (n v : Nat) : Option Nat :=
  let w := ty.width
  if n = 4 then
    if ty.signed then (if sOut w (toI 32 v) then none else some (ofI w (toI 32 v)))
    else if v < 2 ^ w then some v else none
  else if 8 * n ≤ w then some v
  else if v < 2 ^ (if ty.signed then w - 1 else w) then some v
  else none

/-- Core c writes n bytes v at address a of the window; rom: by an instruction fetched from the boot ROM. A narrow write of a wide
object writes the whole of it, zero-extended (R411). -/
def State.winWrite (s : State) (c : Fin 8) (rom : Bool) (a n v : Nat) : Except Nat State :=
  if n < 4 && a % 4 ≠ 0 then .error 0x0A
  else
    match winAt a with
    | .none => .error 0x0A
    | .word k x =>
      if k / 256 = 0x1804 then .ok (s.dropped a v c 1)
      else if x.acc = .ro || x.acc = .const then .ok (s.dropped a v c 2)
      else if x.ty.blob then .ok (s.dropped a v c 7)
      else if x.ty.wide then .ok (if n < 4 then s.corePut c rom 8 k (.num v) else s.wLatch k (some v))
      else if k / 256 = 0x101 then .ok (s.engineWrite c (k % 256) v)
      else
        match wordFit x.ty n v with
        | none => .ok (s.dropped a v c 3)
        | some v => .ok (s.corePut c rom n k (.num v))
    | .high k x =>
      if n < 4 then .error 0x0A
      else if k / 256 = 0x1804 then .ok (s.dropped a v c 1)
      else if x.acc = .ro || x.acc = .const then .ok (s.dropped a v c 2)
      else
        match latchOf s.time.writeLatch k with
        | none => .ok (s.dropped a v c 3)
        | some lo => .ok ((s.wLatch k none).corePut c rom 8 k (.num (lo + 2 ^ 32 * v)))

/-! ## Rows -/

/-- WIDE_READ_LOW_LATCH (R28): core who reads the low word of the 64-bit object k; rdata takes it. -/
def execWideReadLowLatch (who : Fin 8) (k : Nat) (s : State) : Out :=
  match winAt (windowAddr k), s.winRead (.core who) (windowAddr k) 4 with
  | .word _ x, .ok (t, v) => if x.ty.wide then .next { t with rdata := v } else .next s
  | _, _ => .next s

/-- WIDE_WRITE_LOW (R28). -/
def execWideWriteLow (who : Fin 8) (k v : Nat) (s : State) : Out :=
  match winAt (windowAddr k), s.winWrite who false (windowAddr k) 4 (v % 2 ^ 32) with
  | .word _ x, .ok t => if x.ty.wide then .next t else .next s
  | _, _ => .next s

/-- WIDE_WRITE_HIGH (R28). -/
def execWideWriteHigh (who : Fin 8) (k v : Nat) (s : State) : Out :=
  match winAt (windowAddr k + 4), s.winWrite who false (windowAddr k + 4) 4 (v % 2 ^ 32) with
  | .high _ _, .ok t => .next t
  | _, _ => .next s

/-- A row's write of a whole value by any writer: a core's refused write is dropped and recorded, another's is counted by its
abort (R521), whose code rdata takes. -/
def State.rowPut (s : State) (w : Writer) (k : Key) (v : Val) : State :=
  match w with
  | .core c => s.corePut c false (match objFind k with | some (x, _, _) => if x.ty.wide then 8 else 4 | none => 4) k v
  | _ =>
    let (t, e) := s.hostPut w k v
    if e = 0 then { t with rdata := 0 } else { t.inc (okey 0x150 e) with rdata := e }

/-- The value of a row: bytes for a STR or DOM object, else the number. -/
def rowVal (k : Key) (v : Nat) (b : Bytes) : Val :=
  match objFind k with
  | some (x, _, _) => if x.ty.blob then .bytes b else .num v
  | none => .num v

/-- STAGE_WRITE (R506): only for RWT objects of the hardware. -/
def execStageWrite (who : Writer) (k v : Nat) (b : Bytes) (s : State) : Out :=
  match objFind k with
  | some (x, _, _) => if x.acc = .rwt && !(firmwareBacked k) then .next (s.rowPut who k (rowVal k v b)) else .next s
  | none => .next s

/-- REGISTER_WRITE (R502): a hardware-backed object of any other class; the engine objects of a core are its own. -/
def execRegisterWrite (who : Writer) (k v : Nat) (b : Bytes) (s : State) : Out :=
  match objFind k, who with
  | none, _ => .next s
  | some (x, _, _), .core c =>
    if firmwareBacked k || x.acc = .rwt then .next s
    else if k / 256 = 0x101 then .next (s.engineWrite c (k % 256) (v % 2 ^ 32))
    else .next (s.rowPut who k (rowVal k v b))
  | some (x, _, _), _ => if firmwareBacked k || x.acc = .rwt then .next s else .next (s.rowPut who k (rowVal k v b))

/-- COM_COMMIT (R507): core who writes v. -/
def execComCommit (who : Fin 8) (v : Nat) (s : State) : Out := .next (s.engineWrite who 1 v)
/-- COM_DOM_SEL (R509). -/
def execComDomSel (who : Fin 8) (v : Nat) (s : State) : Out := .next (s.domSelect who (v % 2 ^ 32))
/-- COM_DOM_LEN (R509). -/
def execComDomLen (who : Fin 8) (v : Nat) (s : State) : Out := .next (s.domLen who v)
/-- COM_DOM_DATA_WRITE (R509). -/
def execComDomDataWrite (who : Fin 8) (v : Nat) (s : State) : Out := .next (s.domWrite who (v % 2 ^ 32))
/-- COM_DOM_DATA_READ (R509). -/
def execComDomDataRead (who : Fin 8) (s : State) : Out :=
  let (s, v) := s.domRead who
  .next { s with rdata := v }
/-- COM_FW_VAL (R504). -/
def execComFwVal (who : Fin 8) (v : Nat) (s : State) : Out := .next (s.fwValue who (v % 2 ^ 32))

/-- EVT_POST (R525). -/
def execEvtPost (who : Writer) (b : Bytes) (s : State) : Out := .next (s.rowPut who Obj.EVT_POST (.bytes b))
/-- EVT_LOG_CLEAR (R528). -/
def execEvtLogClear (who : Writer) (v : Nat) (s : State) : Out := .next (s.rowPut who Obj.EVT_LOG_CLEAR (.num v))
/-- EVT_ROUTE_RESET (R528). -/
def execEvtRouteReset (who : Writer) (v : Nat) (s : State) : Out := .next (s.rowPut who Obj.EVT_ROUTE_RESET (.num v))
/-- EVT_DROP_CLEAR (R528). -/
def execEvtDropClear (who : Writer) (v : Nat) (s : State) : Out := .next (s.rowPut who Obj.EVT_DROP_CLEAR (.num v))

/-- COR_RESTART (R430): 1 is written to COR_c_CTRL. -/
def execCorRestart (who : Writer) (c : Fin 8) (s : State) : Out := .next (s.rowPut who (Obj.COR_c_CTRL c) (.num 1))
/-- COR_HOLD (R430): 2 is written to COR_c_CTRL. -/
def execCorHold (who : Writer) (c : Fin 8) (s : State) : Out := .next (s.rowPut who (Obj.COR_c_CTRL c) (.num 2))
/-- COR_RELEASE (R430, R431): v is written to COR_RELEASE. -/
def execCorRelease (who : Writer) (v : Nat) (s : State) : Out := .next (s.rowPut who Obj.COR_RELEASE (.num v))

end Sys2Proof.Machine
end

