-- ==== Sys2Proof/Machine/Exec.lean ====
section
/-!
DEFINITION. How a core loads, traps and executes one instruction (14_gragil_cores.md R400, R404, R409-R416, R421, R428).
-/
namespace Sys2Proof.Machine

/-- The core executes an instruction fetched from the boot ROM (R409, R425). -/
def CoreSt.inRom (x : CoreSt) : Bool := if x.sprout then decide (x.pc.toNat < 0xC000) else decide (x.pc.toNat < 0x20000)

/-! ## Loads (R409-R413) -/

/-- The flash command port. -/
def flashPort (a : Nat) : Bool := decide (0x09000000 ≤ a) && decide (a < 0x09000100)

/-- The trap of a load of n bytes at a memory address, before anything is read. -/
def State.loadTrap (s : State) (c : Fin 8) (a n : Nat) : Option Nat :=
  if a % n ≠ 0 then some 6
  else if inWindow a then
    match s.winRead (.core c) a n with
    | .error t => some t
    | .ok _ => none
  else if flashPort a then (if s.cores[c].inRom then none else some 7)
  else if (Sys2Proof.Machine.regionOf a).isNone || s.noDram a then some 7
  else if !(s.powered a) then some 8
  else none

/-- A load of n bytes at a memory address: the trap with the state it leaves, or the value. What the flash command port reads
is not given. -/
def State.load (s : State) (c : Fin 8) (a n cb : Nat) : Except (State × Nat) (State × Nat) :=
  match s.loadTrap c a n with
  | some t => .error (s, t)
  | none =>
    if inWindow a then
      match s.winRead (.core c) a n with
      | .error t => .error (s, t)
      | .ok x => .ok x
    else if flashPort a then .ok (s.drawn, s.freeBelow (2 ^ (8 * n)))
    else
      match (if inFlash a n then s.meetUnit a cb else s).meet a n with
      | (true, s) => .error (s, 7)
      | (false, s) => .ok (s.sawBytes c a n, leNat (s.seenBytes c a n))

/-! ## Traps (R414-R416, R428) -/

/-- A double fault of core c (R416); that of the warden resets the main die at once. -/
def State.doubleFault (s : State) (c : Fin 8) (cause : Nat) : State :=
  let s := (s.setMode c .faulted).inc Obj.COR_DBL_FAULTS
  if c = 4 then s.mainReset 3 else s.toCore 4 ⟨4, c, cause⟩

/-- What a core writes when it traps, before it reads the handler's address (R415): cause, TADDR and the return address, ST to TST,
TM set, OV and C clear. -/
def CoreSt.trapped (x : CoreSt) (cause taddr tpc : Nat) : CoreSt :=
  { x with
    tcause := cause, taddr := BitVec.ofNat 32 taddr, tpc := BitVec.ofNat 32 tpc, tst := x.st
    tm := true, ov := false, c := false }

/-- The address of the word that holds the address of a cause's handler (R414). -/
def CoreSt.vector (x : CoreSt) (cause : Nat) : Nat := (x.vbase.toNat / 4 * 4 + 4 * cause) % 2 ^ 32

/-- Core c goes on at its handler. -/
def State.handle (s : State) (c : Fin 8) (h : Nat) : State :=
  (s.modCore c (fun x => { x with pc := BitVec.ofNat 32 h })).inc (Obj.COR_c_TRAPS c)

/-- Core c takes a trap (R414-R416, R428): cause, TADDR, and the return address. The word of the handler is read as the core reads any
memory; a trap of that read leaves what the first one wrote (log 228). -/
def State.trap (s : State) (c : Fin 8) (cause taddr tpc : Nat) : State :=
  let x := s.cores[c]
  let t := s.modCore c (fun x => x.trapped cause taddr tpc)
  if x.tm then t.doubleFault c cause
  else if x.sprout then t.handle c 0x10
  else
    match t.load c (x.vector cause) 4 (t.metAt (readUnit (x.vector cause))) with
    | .error (t, e) => t.doubleFault c e
    | .ok (t, h) => t.handle c h

/-! ## The frame of every instruction -/

/-- An access to n bytes from a waits: before a fence the DRAM takes no request (R451), and reads of a sector that is erased in place
wait for its end (R475). -/
def State.held (s : State) (a n : Nat) : Bool :=
  (inDram a && s.fenceNear) || (inFlash a n && s.erasesInPlace (areaOf a) (sectorOf a))

/-- What the body of an instruction answers. -/
inductive Eff where
  /-- It completes: outputs of the data and the return stack, deepest first, and where it goes on (none: the next
  instruction). -/
  | done (s : State) (outs routs : List Nat) (goto : Option Nat)
  /-- It traps with a cause and TADDR; s holds only what the trapped access itself did outside the core (R463). -/
  | trap (s : State) (cause taddr : Nat)
  /-- Its access waits, and the core stays at the instruction (R451, R475). -/
  | wait

/-- An access to n bytes from a: it waits, or has this effect. -/
def State.access (s : State) (a n : Nat) (e : Eff) : Eff := if s.held a n then .wait else e

/-- Core c, RUN or stepped in HALTED, executes an instruction of `len` bytes that takes din and rin elements and leaves
dout and rout. -/
def State.gexec (s : State) (c : Fin 8) (len din dout rin rout : Nat) (f : List Nat → List Nat → State → Eff) : State :=
  let x := s.cores[c]
  let here := x.pc.toNat
  match s.fetchTrap c len with
  | some (t, a) => s.trap c t a here
  | none =>
    if !x.sprout && s.held here len then s
    else
      match (if x.sprout then (false, s) else s.meet here len) with
      | (true, s) => s.trap c 7 here here
      | (false, s) =>
        match x.stackTrap din dout rin rout with
        | some (t, a) => s.trap c t a here
        | none =>
          match f (s.dTop c din) (s.rTop c rin) s with
          | .trap s t a => s.trap c t a here
          | .wait => s
          | .done s outs routs goto =>
            let s := (s.dSwap c din outs).rSwap c rin routs
            s.modCore c (fun y => { y with pc := BitVec.ofNat 32 (goto.getD (x.after len)) })

/-- Core c executes: only in state RUN and while SYSCLK runs (R421, R432). -/
def State.gins (s : State) (c : Fin 8) (len din dout rin rout : Nat) (f : List Nat → List Nat → State → Eff) : State :=
  if s.cores[c].mode = .run && s.sysclk then s.gexec c len din dout rin rout f else s

end Sys2Proof.Machine
end

