-- ==== Sys2Proof/Machine/Core1.lean ====
section
/-!
DEFINITION. The Gragil instructions (14_gragil_cores.md R404-R408, R410, R413, R417-R423, R425-R429): each command names the core
that executes it at its pc, with the immediate of its encoding; an operand cb is the corrected-bit count with which a read of
the flash window meets its line, 3 when it cannot be corrected (R463).
-/
namespace Sys2Proof.Machine

/-! ## Shared frames -/

/-- An instruction that only rearranges or combines elements of the data stack. -/
def State.pureOp (s : State) (c : Fin 8) (len din dout : Nat) (f : List Nat → List Nat) : State :=
  s.gins c len din dout 0 0 (fun i _ s => .done s (f i) [] none)

/-- An arithmetic instruction: its outputs, OV and C; DIVZERO when it has none (R405-R408). -/
def State.arithOp (s : State) (c : Fin 8) (din dout : Nat) (f : Nat → List Nat → Option Arith) : State :=
  s.gins c 1 din dout 0 0 (fun i _ s =>
    match f s.cores[c].w i with
    | none => .trap s 9 0
    | some r => .done (s.modCore c (fun x => { x with ov := r.ov, c := r.c })) r.outs [] none)

/-- An instruction of two inputs and one output that writes no flag; f is given the width. -/
def State.binOp (s : State) (c : Fin 8) (f : Nat → Nat → Nat → Nat) : State :=
  let w := s.cores[c].w
  s.pureOp c 1 2 1 (fun i => [f w (inp i 0) (inp i 1)])

/-- The ILLEGAL trap of an opcode byte (R406, R427). -/
def State.illegal (s : State) (c : Fin 8) : State := s.gins c 1 0 0 0 0 (fun _ _ s => .trap s 1 0)

/-- An instruction that Sprout mode does not have (R427). -/
def State.only32 (s : State) (c : Fin 8) (f : State → State) : State := if s.cores[c].sprout then s.illegal c else f s

/-- An instruction that only Sprout mode has (R405, R427). -/
def State.onlySprout (s : State) (c : Fin 8) (f : State → State) : State := if s.cores[c].sprout then f s else s.illegal c

/-- Elements that an address takes on the data stack: 2 in Sprout mode (R427). -/
def CoreSt.an (x : CoreSt) : Nat := if x.sprout then 2 else 1

/-- The address that stands in the inputs from place i, low element deeper (R426). -/
def CoreSt.addrIn (x : CoreSt) (l : List Nat) (i : Nat) : Nat :=
  if x.sprout then inp l i + 256 * inp l (i + 1) else inp l i

/-! ## Loads and stores (R409-R413) -/

/-- The trap of a store of n bytes. -/
def State.storeTrap (s : State) (c : Fin 8) (a n : Nat) : Option Nat :=
  if a % n ≠ 0 then some 6
  else if inWindow a then
    match s.winWrite c false a n 0 with
    | .error t => some t
    | .ok _ => none
  else if flashPort a then (if s.cores[c].inRom then none else some 7)
  else if (Sys2Proof.Machine.regionOf a).isNone || a < 0x20000000 || s.noDram a then some 7
  else none

/-- A store of n bytes v: the trap, or the state after it; one to a block without clock or power is dropped (R412). What a
store to the flash command port does beyond the routines of the ROM is not given. One to the hot table or the Husk cache changes
it: R409 gives cores all system SRAM (R216, R249, log 221). -/
def State.store (s : State) (c : Fin 8) (a n v : Nat) : Except Nat State :=
  let v := v % 2 ^ (8 * n)
  match s.storeTrap c a n with
  | some t => .error t
  | none =>
    if inWindow a then s.winWrite c s.cores[c].inRom a n v
    else if flashPort a then .ok s
    else if !(s.powered a) then .ok (s.dropped a v c 1)
    else .ok (s.putBytes c a (leBytes n v))

/-- SWP and CAS reach only system SRAM, slice SRAM and DRAM (R410). -/
def State.atomTrap (s : State) (c : Fin 8) (a : Nat) : Option Nat :=
  if a % 4 ≠ 0 then some 6 else if writableMem a then s.loadTrap c a 4 else some 7

/-- The effect of a load on the data stack. -/
def loadEff (r : Except (State × Nat) (State × Nat)) (a : Nat) (f : Nat → List Nat) : Eff :=
  match r with
  | .error (s, t) => .trap s t a
  | .ok (s, v) => .done s (f v) [] none

/-- The effect of a store; that to a table of an engine is log 221. -/
def storeEff (s : State) (r : Except Nat State) (a : Nat) : Eff :=
  match r with
  | .error t => .trap s t a
  | .ok s => .done s [] [] none

/-- A load of 1 byte, 2 bytes or 4 bytes from the address on the stack; f makes the element of what is read. -/
def State.loadOp (s : State) (c : Fin 8) (n cb : Nat) (f : Nat → Nat) : State :=
  let x := s.cores[c]
  s.gins c 1 x.an 1 0 0 (fun i _ s =>
    s.access (x.phys (x.addrIn i 0)) n (loadEff (s.load c (x.phys (x.addrIn i 0)) n cb) (x.addrIn i 0) (fun v => [f v])))

/-- A store of n bytes; in Sprout mode the ROM part refuses it (R425). -/
def State.storeOp (s : State) (c : Fin 8) (n : Nat) : State :=
  let x := s.cores[c]
  s.gins c 1 (1 + x.an) 0 0 0 (fun i _ s =>
    s.access (x.phys (x.addrIn i 1)) n (storeEff s (s.store c (x.phys (x.addrIn i 1)) n (inp i 0)) (x.addrIn i 1)))

/-! ## Stack instructions -/

/-- NOP (R405). -/
def execNop (c : Fin 8) (s : State) : Out := .next (s.pureOp c 1 0 0 (fun _ => []))
/-- DUP (R405). -/
def execDup (c : Fin 8) (s : State) : Out := .next (s.pureOp c 1 1 2 (fun i => [inp i 0, inp i 0]))
/-- DROP (R405). -/
def execDrop (c : Fin 8) (s : State) : Out := .next (s.pureOp c 1 1 0 (fun _ => []))
/-- SWAP (R405). -/
def execSwap (c : Fin 8) (s : State) : Out := .next (s.pureOp c 1 2 2 (fun i => [inp i 1, inp i 0]))
/-- OVER (R405). -/
def execOverElem (c : Fin 8) (s : State) : Out := .next (s.pureOp c 1 2 3 (fun i => [inp i 0, inp i 1, inp i 0]))
/-- ROT (R405). -/
def execRot (c : Fin 8) (s : State) : Out := .next (s.pureOp c 1 3 3 (fun i => [inp i 1, inp i 2, inp i 0]))
/-- NIP (R405). -/
def execNip (c : Fin 8) (s : State) : Out := .next (s.pureOp c 1 2 1 (fun i => [inp i 1]))

/-- PICK (R405): n is popped, then element n is copied; DSUNF when n is not below the depth that is left. -/
def execPick (c : Fin 8) (s : State) : Out :=
  let x := s.cores[c]
  .next (s.gins c 1 1 1 0 0 (fun i _ s =>
    let n := inp i 0
    if x.dDepth - 1 ≤ n then .trap s 3 x.dp else .done s [s.stackGet x (x.dp + x.de * (n + 1)) x.de] [] none))

/-- DEPTH (R405): counted before the push. -/
def execDepth (c : Fin 8) (s : State) : Out :=
  let x := s.cores[c]
  .next (s.pureOp c 1 0 1 (fun _ => [x.dDepth % 2 ^ x.w]))

/-- TOR (R405). -/
def execTor (c : Fin 8) (s : State) : Out := .next (s.gins c 1 1 0 0 1 (fun i _ s => .done s [] [inp i 0] none))

/-- A return-stack element as a data element: in Sprout mode one that does not fit reads as a free value (R426). -/
def State.narrow (s : State) (c : Fin 8) (v : Nat) : Nat :=
  let w := s.cores[c].w
  if v < 2 ^ w then v else s.freeBelow (2 ^ w)

/-- FROMR (R405). -/
def execFromr (c : Fin 8) (s : State) : Out :=
  .next (s.gins c 1 0 1 1 0 (fun _ r s => .done s.drawn [s.narrow c (inp r 0)] [] none))

/-- RFETCH (R405). -/
def execRfetch (c : Fin 8) (s : State) : Out :=
  .next (s.gins c 1 0 1 1 1 (fun _ r s => .done s.drawn [s.narrow c (inp r 0)] r none))

/-- LIT8 (R405): the immediate sign-extended. -/
def execLit8 (c : Fin 8) (i : Nat) (s : State) : Out := .next (s.pureOp c 2 0 1 (fun _ => [sextW 8 s.cores[c].w i]))

/-- LIT16 (R405); in Sprout mode the low byte, then the high byte (R427). -/
def execLit16 (c : Fin 8) (i : Nat) (s : State) : Out :=
  if s.cores[c].sprout then .next (s.pureOp c 3 0 2 (fun _ => [i % 256, i / 256 % 256]))
  else .next (s.pureOp c 3 0 1 (fun _ => [sextW 16 32 i]))

/-- LIT32 (R405). -/
def execLit32 (c : Fin 8) (i : Nat) (s : State) : Out := .next (s.only32 c (fun s => s.pureOp c 5 0 1 (fun _ => [i % 2 ^ 32])))

/-- LIT0 to LIT15 (R405). -/
def execLitn (c : Fin 8) (n : Fin 16) (s : State) : Out := .next (s.pureOp c 1 0 1 (fun _ => [n.val]))

/-! ## Arithmetic and logic -/

/-- ADD (R407). -/
def execAdd (c : Fin 8) (s : State) : Out := .next (s.arithOp c 2 1 (fun w i => some (aAdd w (inp i 0) (inp i 1))))
/-- SUB (R407). -/
def execSub (c : Fin 8) (s : State) : Out := .next (s.arithOp c 2 1 (fun w i => some (aSub w (inp i 0) (inp i 1))))
/-- NEG (R407). -/
def execNeg (c : Fin 8) (s : State) : Out := .next (s.arithOp c 1 1 (fun w i => some (aNeg w (inp i 0))))
/-- MUL (R407). -/
def execMul (c : Fin 8) (s : State) : Out := .next (s.arithOp c 2 1 (fun w i => some (aMul w (inp i 0) (inp i 1))))
/-- MULL (R405, R407). -/
def execMull (c : Fin 8) (s : State) : Out := .next (s.arithOp c 2 2 (fun w i => some (aMull w (inp i 0) (inp i 1))))
/-- MULLU (R405, R407). -/
def execMullu (c : Fin 8) (s : State) : Out := .next (s.arithOp c 2 2 (fun w i => some (aMullu w (inp i 0) (inp i 1))))
/-- DIVS (R407, R408). -/
def execDivs (c : Fin 8) (s : State) : Out := .next (s.arithOp c 2 2 (fun w i => aDivs w (inp i 0) (inp i 1)))
/-- DIVU (R407, R408). -/
def execDivu (c : Fin 8) (s : State) : Out := .next (s.arithOp c 2 2 (fun _ i => aDivu (inp i 0) (inp i 1)))
/-- AND (R405). -/
def execAnd (c : Fin 8) (s : State) : Out := .next (s.binOp c (fun _ a b => natAnd a b))
/-- OR (R405). -/
def execOr (c : Fin 8) (s : State) : Out := .next (s.binOp c (fun _ a b => natOr a b))
/-- XOR (R405). -/
def execXor (c : Fin 8) (s : State) : Out := .next (s.binOp c (fun _ a b => a ^^^ b))
/-- NOT (R405). -/
def execNot (c : Fin 8) (s : State) : Out :=
  let w := s.cores[c].w
  .next (s.pureOp c 1 1 1 (fun i => [2 ^ w - 1 - inp i 0]))
/-- SHL (R408). -/
def execShl (c : Fin 8) (s : State) : Out := .next (s.binOp c shlW)
/-- SHR (R408). -/
def execShr (c : Fin 8) (s : State) : Out := .next (s.binOp c shrW)
/-- SAR (R408). -/
def execSar (c : Fin 8) (s : State) : Out := .next (s.binOp c sarW)
/-- ROL (R405, R408). -/
def execRol (c : Fin 8) (s : State) : Out := .next (s.binOp c rolW)
/-- ROR (R405, R408). -/
def execRor (c : Fin 8) (s : State) : Out := .next (s.binOp c rorW)
/-- EQ (R405). -/
def execEq (c : Fin 8) (s : State) : Out := .next (s.binOp c (fun _ a b => b2n (a == b)))
/-- NE (R405). -/
def execNe (c : Fin 8) (s : State) : Out := .next (s.binOp c (fun _ a b => b2n (a != b)))
/-- LT (R405). -/
def execLt (c : Fin 8) (s : State) : Out := .next (s.binOp c (fun w a b => b2n (decide (toI w a < toI w b))))
/-- LTU (R405). -/
def execLtu (c : Fin 8) (s : State) : Out := .next (s.binOp c (fun _ a b => b2n (decide (a < b))))
/-- GT (R405). -/
def execGt (c : Fin 8) (s : State) : Out := .next (s.binOp c (fun w a b => b2n (decide (toI w b < toI w a))))
/-- GTU (R405). -/
def execGtu (c : Fin 8) (s : State) : Out := .next (s.binOp c (fun _ a b => b2n (decide (b < a))))
/-- EQZ (R405). -/
def execEqz (c : Fin 8) (s : State) : Out := .next (s.pureOp c 1 1 1 (fun i => [b2n (inp i 0 == 0)]))

/-! ## Memory -/

/-- LDW (R405, R410-R412). -/
def execLdw (c : Fin 8) (cb : Nat) (s : State) : Out := .next (s.only32 c (fun s => s.loadOp c 4 cb (fun v => v)))
/-- LDH (R405). -/
def execLdh (c : Fin 8) (cb : Nat) (s : State) : Out := .next (s.only32 c (fun s => s.loadOp c 2 cb (fun v => v)))
/-- LDHS (R405). -/
def execLdhs (c : Fin 8) (cb : Nat) (s : State) : Out := .next (s.only32 c (fun s => s.loadOp c 2 cb (fun v => sextW 16 32 v)))
/-- LDB (R405, R427). -/
def execLdb (c : Fin 8) (cb : Nat) (s : State) : Out := .next (s.loadOp c 1 cb (fun v => v))
/-- LDBS (R405, R427). -/
def execLdbs (c : Fin 8) (cb : Nat) (s : State) : Out := .next (s.loadOp c 1 cb (fun v => sextW 8 s.cores[c].w v))
/-- STW (R405, R410-R412). -/
def execStw (c : Fin 8) (s : State) : Out := .next (s.only32 c (fun s => s.storeOp c 4))
/-- STH (R405). -/
def execSth (c : Fin 8) (s : State) : Out := .next (s.only32 c (fun s => s.storeOp c 2))
/-- STB (R405, R427). -/
def execStb (c : Fin 8) (s : State) : Out := .next (s.storeOp c 1)

/-- The second address of LDD and STD. -/
def second (a : Nat) : Nat := (a + 4) % 2 ^ 32

/-- LDD (R413): both addresses are checked, then the two words are read, low first. -/
def State.ldd (s : State) (c : Fin 8) (a cb0 cb1 : Nat) : Eff :=
  match s.loadTrap c a 4, s.loadTrap c (second a) 4 with
  | some t, _ => .trap s t a
  | none, some t => .trap s t (second a)
  | none, none =>
    match s.load c a 4 cb0 with
    | .error (s, t) => .trap s t a
    | .ok (s, lo) => loadEff (s.load c (second a) 4 cb1) (second a) (fun hi => [lo, hi])

/-- LDD (R405, R413). -/
def execLdd (c : Fin 8) (cb0 cb1 : Nat) (s : State) : Out :=
  .next (s.only32 c (fun s => s.gins c 1 1 2 0 0 (fun i _ s =>
    s.access (inp i 0) 8 (s.ldd c (inp i 0) cb0 cb1))))

/-- A memory address whose block has no clock or power. -/
def State.dark (s : State) (a : Nat) : Bool := !(inWindow a) && !(flashPort a) && !(s.powered a)

/-- STD (R413): both addresses are checked, then the words are written, low first; both are dropped when one address lies in
a block without clock or power (R412). -/
def State.std (s : State) (c : Fin 8) (a lo hi : Nat) : Eff :=
  match s.storeTrap c a 4, s.storeTrap c (second a) 4 with
  | some t, _ => .trap s t a
  | none, some t => .trap s t (second a)
  | none, none =>
    if s.dark a || s.dark (second a) then .done ((s.dropped a lo c 1).dropped (second a) hi c 1) [] [] none
    else
      match s.store c a 4 lo with
      | .error t => .trap s t a
      | .ok t => storeEff s (t.store c (second a) 4 hi) (second a)

/-- STD (R405, R413). -/
def execStd (c : Fin 8) (s : State) : Out :=
  .next (s.only32 c (fun s => s.gins c 1 3 0 0 0 (fun i _ s =>
    s.access (inp i 2) 8 (s.std c (inp i 2) (inp i 0) (inp i 1)))))

/-- An atomic exchange: the old word, and the new one stored when it may be. -/
def State.atom (s : State) (c : Fin 8) (a new : Nat) (ok : Nat → Bool) : Eff :=
  match s.atomTrap c a with
  | some t => .trap s t a
  | none =>
    match s.load c a 4 0 with
    | .error (s, t) => .trap s t a
    | .ok (s, old) => .done (if ok old then s.putBytes c a (leBytes 4 new) else s) [old] [] none

/-- SWP (R405, R410). -/
def execSwp (c : Fin 8) (s : State) : Out :=
  .next (s.only32 c (fun s => s.gins c 1 2 1 0 0 (fun i _ s =>
    s.access (inp i 1) 4 (s.atom c (inp i 1) (inp i 0) (fun _ => true)))))

/-- CAS (R405, R410). -/
def execCas (c : Fin 8) (s : State) : Out :=
  .next (s.only32 c (fun s => s.gins c 1 3 1 0 0 (fun i _ s =>
    s.access (inp i 2) 4 (s.atom c (inp i 2) (inp i 1) (fun old => old == inp i 0)))))

/-! ## Control flow -/

/-- The target of a branch of len bytes with a signed offset of w bits (R404, R427). -/
def CoreSt.target (x : CoreSt) (len w off : Nat) : Nat :=
  let m := if x.sprout then 16 else 32
  ofI m ((x.after len : Nat) + toI w off)

/-- An unconditional branch. -/
def State.jump (s : State) (c : Fin 8) (len w off : Nat) : State :=
  let x := s.cores[c]
  s.gins c len 0 0 0 0 (fun _ _ s => .done s [] [] (some (x.target len w off)))

/-- A conditional branch. -/
def State.branch (s : State) (c : Fin 8) (len w off : Nat) (ok : Nat → Bool) : State :=
  let x := s.cores[c]
  s.gins c len 1 0 0 0 (fun i _ s => .done s [] [] (if ok (inp i 0) then some (x.target len w off) else none))

/-- JMP (R404, R405). -/
def execJmp (c : Fin 8) (off : Nat) (s : State) : Out := .next (s.jump c 3 16 off)
/-- JZ (R405). -/
def execJz (c : Fin 8) (off : Nat) (s : State) : Out := .next (s.branch c 3 16 off (fun f => f == 0))
/-- JNZ (R405). -/
def execJnz (c : Fin 8) (off : Nat) (s : State) : Out := .next (s.branch c 3 16 off (fun f => f != 0))
/-- JMP8 (R405). -/
def execJmp8 (c : Fin 8) (off : Nat) (s : State) : Out := .next (s.jump c 2 8 off)
/-- JZ8 (R405). -/
def execJz8 (c : Fin 8) (off : Nat) (s : State) : Out := .next (s.branch c 2 8 off (fun f => f == 0))
/-- JNZ8 (R405). -/
def execJnz8 (c : Fin 8) (off : Nat) (s : State) : Out := .next (s.branch c 2 8 off (fun f => f != 0))

/-- CALL (R405). -/
def execCall (c : Fin 8) (off : Nat) (s : State) : Out :=
  let x := s.cores[c]
  .next (s.gins c 3 0 0 0 1 (fun _ _ s => .done s [] [x.after 3] (some (x.target 3 16 off))))

/-- RET (R405). -/
def execRet (c : Fin 8) (s : State) : Out := .next (s.gins c 1 0 0 1 0 (fun _ r s => .done s [] [] (some (inp r 0))))

/-- JMPI (R405, R427). -/
def execJmpi (c : Fin 8) (s : State) : Out :=
  let x := s.cores[c]
  .next (s.gins c 1 x.an 0 0 0 (fun i _ s => .done s [] [] (some (x.addrIn i 0))))

/-- CALLI (R405, R427). -/
def execCalli (c : Fin 8) (s : State) : Out :=
  let x := s.cores[c]
  .next (s.gins c 1 x.an 0 0 1 (fun i _ s => .done s [] [x.after 1] (some (x.addrIn i 0))))

/-- A trap whose TPC names the next instruction (R414). -/
def State.trapNext (s : State) (c : Fin 8) (cause taddr len : Nat) : Eff :=
  let t := s.trap c cause taddr (s.cores[c].after len)
  .done t [] [] (some t.cores[c].pc.toNat)

/-- TRAP (R405, R414, R415): SWTRAP with the immediate in TADDR. -/
def execTrap (c : Fin 8) (n : Nat) (s : State) : Out := .next (s.gins c 2 0 0 0 0 (fun _ _ s => s.trapNext c 0x0B (n % 256) 2))

/-- RETT (R415): ILLEGAL while TM is 0. -/
def execRett (c : Fin 8) (s : State) : Out :=
  .next (s.gins c 1 0 0 0 0 (fun _ _ s =>
    if s.cores[c].tm then
      let t := s.modCore c (fun x => x.rett)
      .done t [] [] (some t.cores[c].pc.toNat)
    else .trap s 1 0))

/-! ## Events, WAIT and special registers -/

/-- The cores other than the warden that are neither in WAIT, HELD nor FAULTED (R423). -/
def State.busyCores (s : State) : Nat :=
  setBit (s.coreBits (fun x => x.mode == .run || x.mode == .halted)) 4 false

/-- WAIT on the warden decides a power-state entry (R423). -/
def State.wardenWait (s : State) : State :=
  let c : Fin 8 := 4
  if s.o Obj.COR_ENTRY_REQ = 0 then s.setMode c .wait
  else if s.busyCores ≠ 0 then
    (((s.setO Obj.COR_ENTRY_RESULT 2).setO Obj.COR_ENTRY_BUSY s.busyCores).inc Obj.COR_ENTRY_REFUSED).setMode c .wait
  else (s.setMode c .wait).enterPower

/-- WAIT (R421, R423): with events queued it is a NOP. -/
def execWait (c : Fin 8) (s : State) : Out :=
  .next (s.gins c 1 0 0 0 0 (fun _ _ s =>
    if s.cores[c].queue.isEmpty then .done (if c = 4 then s.wardenWait else s.setMode c .wait) [] [] none
    else .done (if c = 4 && s.o Obj.COR_ENTRY_REQ ≠ 0 then s.setO Obj.COR_ENTRY_RESULT 3 else s) [] [] none))

/-- Take the oldest event; an entry freed after drops takes LOST (R418, R419). -/
def CoreSt.evget (x : CoreSt) : CoreEvent × CoreSt :=
  match x.queue with
  | [] => (⟨0, 0, 0⟩, x)
  | e :: r =>
    if x.lostSince = 0 then (e, { x with queue := r })
    else (e, { x with queue := r ++ [⟨1, 0, x.lostSince % 2 ^ 32⟩], lostSince := 0, lastN := 0 })

/-- EVGET (R418). -/
def execEvget (c : Fin 8) (s : State) : Out :=
  .next (s.only32 c (fun s => s.gins c 1 0 2 0 0 (fun _ _ s =>
    let (e, x) := s.cores[c].evget
    .done (s.modCore c (fun _ => x)) [e.arg, e.src * 65536 + e.code] [] none)))

/-- EVPOST (R422): a SOFT event at core (core AND 7), or 0 when its queue is full. -/
def execEvpost (c : Fin 8) (s : State) : Out :=
  .next (s.only32 c (fun s => s.gins c 1 2 1 0 0 (fun i _ s =>
    let d := asFin 8 (inp i 1)
    if 32 ≤ s.cores[d].queue.length then .done s [0] [] none
    else .done (s.toCore d ⟨2, c, inp i 0⟩) [1] [] none)))

/-- The special registers of R402, by number; none for a number that is not listed. -/
def State.special (s : State) (c : Fin 8) (n : Nat) : Option Nat :=
  let x := s.cores[c]
  match n with
  | 0 => some x.st.toNat | 1 => some x.dsp.toNat | 2 => some x.dsLo.toNat | 3 => some x.dsHi.toNat
  | 4 => some x.rsp.toNat | 5 => some x.rsLo.toNat | 6 => some x.rsHi.toNat | 7 => some x.vbase.toNat
  | 8 => some x.tcause | 9 => some x.taddr.toNat | 10 => some x.tpc.toNat | 11 => some x.tst.toNat
  | 12 => some c.val | 13 => some (s.cycles c % 2 ^ 32)
  | 14 => some ((x.cycleLatch.getD (s.cycles c / 2 ^ 32)) % 2 ^ 32)
  | 15 => some x.queue.length
  | _ => none

/-- The numbers that Sprout mode reaches (R427). -/
def sproutSpecial (n : Nat) : Bool := n == 0 || n == 8 || n == 12

/-- RDSR (R402, R403, R427): CYCLE_LO latches CYCLE_HI. -/
def execRdsr (c : Fin 8) (n : Nat) (s : State) : Out :=
  .next (s.gins c 2 0 1 0 0 (fun _ _ s =>
    if s.cores[c].sprout && !(sproutSpecial n) then .trap s 1 0
    else
      match s.special c n with
      | none => .trap s 1 0
      | some v =>
        let hi := s.cycles c / 2 ^ 32
        let s := if n = 13 then s.modCore c (fun x => { x with cycleLatch := some hi })
          else if n = 14 then s.modCore c (fun x => { x with cycleLatch := none }) else s
        .done s [v] [] none))

/-- Write a special register; none for one that WRSR may not write. A pointer takes its value after the pop. -/
def CoreSt.wrsr (x : CoreSt) (n v : Nat) : Option CoreSt :=
  let w : Word := BitVec.ofNat 32 v
  match n with
  | 0 => some (x.setSt v) | 1 => some { x with dsp := w - 4 } | 2 => some { x with dsLo := w } | 3 => some { x with dsHi := w }
  | 4 => some { x with rsp := w } | 5 => some { x with rsLo := w } | 6 => some { x with rsHi := w } | 7 => some { x with vbase := w }
  | 10 => some { x with tpc := w } | 11 => some { x with tst := w &&& 0xF }
  | _ => none

/-- WRSR (R402, R427). -/
def execWrsr (c : Fin 8) (n : Nat) (s : State) : Out :=
  .next (s.gins c 2 1 0 0 0 (fun i _ s =>
    let x := s.cores[c]
    if x.sprout && n ≠ 0 then .trap s 1 0
    else
      match x.wrsr n (inp i 0) with
      | none => .trap s 1 0
      | some y => .done (s.modCore c (fun _ => y)) [] [] none))

/-- BRK (R417): HALTED under an unlock, else the BREAK trap. -/
def execBrk (c : Fin 8) (s : State) : Out :=
  .next (s.gins c 1 0 0 0 0 (fun _ _ s =>
    let d := s.o Obj.SHL_DBG_STATE
    if d = 1 || d = 2 then .done (s.setMode c .halted) [] [] none else s.trapNext c 0x0C 0 1))

/-! ## Sprout mode only (R427, R429) -/

/-- The 32-bit value of four elements from place i. -/
def quad (l : List Nat) (i : Nat) : Nat := inp l i + 256 * inp l (i + 1) + 65536 * inp l (i + 2) + 16777216 * inp l (i + 3)

/-- The four elements of a 32-bit value. -/
def unquad (v : Nat) : List Nat := [v % 256, v / 256 % 256, v / 65536 % 256, v / 16777216 % 256]

/-- XLDW (R427). -/
def execXldw (c : Fin 8) (cb : Nat) (s : State) : Out :=
  .next (s.onlySprout c (fun s => s.gins c 1 4 4 0 0 (fun i _ s =>
    s.access (quad i 0) 4 (loadEff (s.load c (quad i 0) 4 cb) (quad i 0) unquad))))

/-- XSTW (R427). -/
def execXstw (c : Fin 8) (s : State) : Out :=
  .next (s.onlySprout c (fun s => s.gins c 1 8 0 0 0 (fun i _ s =>
    s.access (quad i 4) 4 (storeEff s (s.store c (quad i 4) 4 (quad i 0)) (quad i 4)))))

/-- The core after GROW (R429): 32-bit mode, ST clear, both stacks empty. The four elements that GROW takes are 16 bytes of the
stack in force when the inputs are removed. -/
def CoreSt.grow (x : CoreSt) : CoreSt :=
  { x with sprout := false, ov := false, c := false, tm := false, dsp := x.dsHi - 16, rsp := x.rsHi, sds := 0xFF00, srs := 0x10000 }

/-- GROW (R429): valid only when fetched from 0x0000-0xBFFF. -/
def execGrow (c : Fin 8) (s : State) : Out :=
  .next (s.onlySprout c (fun s =>
    if s.cores[c].inRom then s.gins c 1 4 0 0 0 (fun i _ s => .done (s.modCore c (fun x => x.grow)) [] [] (some (quad i 0)))
    else s.illegal c))

/-! ## Other rows -/

/-- RESERVED_OPCODE (R406). -/
def execReservedOpcode (c : Fin 8) (s : State) : Out := .next (s.illegal c)

/-- EVENT_ARRIVE (R418, R419, R421): an event reaches the queue of core c. -/
def execEventArrive (c : Fin 8) (code src arg : Nat) (s : State) : Out :=
  .next (s.toCore c ⟨code % 65536, src % 65536, arg % 2 ^ 32⟩)

/-! ## The instruction at the pc (R404-R406) -/

/-- Byte i of the instruction at core c's pc. -/
def State.codeByte (s : State) (c : Fin 8) (i : Nat) : Nat :=
  let x := s.cores[c]
  (s.rb (x.phys (x.pc.toNat + i))).toNat

/-- Core c executes the instruction at its pc. -/
def State.runOne (s : State) (c : Fin 8) : Out :=
  let b1 := s.codeByte c 1
  let h := b1 + 256 * s.codeByte c 2
  let w := h + 65536 * s.codeByte c 3 + 16777216 * s.codeByte c 4
  let op := s.codeByte c 0
  if 0x20 ≤ op && op < 0x30 then execLitn c (asFin 16 op) s
  else match op with
    | 0x00 => execNop c s | 0x01 => execDup c s | 0x02 => execDrop c s | 0x03 => execSwap c s | 0x04 => execOverElem c s
    | 0x05 => execRot c s | 0x06 => execNip c s | 0x07 => execPick c s | 0x08 => execDepth c s | 0x09 => execTor c s
    | 0x0A => execFromr c s | 0x0B => execRfetch c s
    | 0x10 => execLit8 c b1 s | 0x11 => execLit16 c h s | 0x12 => execLit32 c w s
    | 0x30 => execAdd c s | 0x31 => execSub c s | 0x32 => execNeg c s | 0x33 => execMul c s | 0x34 => execMull c s
    | 0x35 => execMullu c s | 0x36 => execDivs c s | 0x37 => execDivu c s
    | 0x40 => execAnd c s | 0x41 => execOr c s | 0x42 => execXor c s | 0x43 => execNot c s | 0x44 => execShl c s
    | 0x45 => execShr c s | 0x46 => execSar c s | 0x47 => execRol c s | 0x48 => execRor c s | 0x49 => execEq c s
    | 0x4A => execNe c s | 0x4B => execLt c s | 0x4C => execLtu c s | 0x4D => execGt c s | 0x4E => execGtu c s
    | 0x4F => execEqz c s
    | 0x50 => execLdw c 0 s | 0x51 => execLdh c 0 s | 0x52 => execLdhs c 0 s | 0x53 => execLdb c 0 s | 0x54 => execLdbs c 0 s
    | 0x55 => execStw c s | 0x56 => execSth c s | 0x57 => execStb c s | 0x58 => execLdd c 0 0 s | 0x59 => execStd c s
    | 0x5A => execSwp c s | 0x5B => execCas c s
    | 0x60 => execJmp c h s | 0x61 => execJz c h s | 0x62 => execJnz c h s | 0x63 => execCall c h s | 0x64 => execJmp8 c b1 s
    | 0x65 => execJz8 c b1 s | 0x66 => execJnz8 c b1 s | 0x67 => execRet c s | 0x68 => execJmpi c s | 0x69 => execCalli c s
    | 0x70 => execTrap c b1 s | 0x71 => execRett c s | 0x72 => execWait c s | 0x73 => execEvget c s | 0x74 => execEvpost c s
    | 0x75 => execRdsr c b1 s | 0x76 => execWrsr c b1 s | 0x77 => execBrk c s
    | 0x78 => execXldw c 0 s | 0x79 => execXstw c s | 0x7A => execGrow c s
    | _ => execReservedOpcode c s

end Sys2Proof.Machine
end

