-- ==== Sys2Proof/Machine/Plan.lean ====
section
/-!
DEFINITION. The Compass plan of the base firmware (18_power_compass.md R554-R556): computed on core 4 from the survey objects and
committed as one set, with the flash refresh beside it.
-/
namespace Sys2Proof.Machine

/-- A planned VCORE in mV from the plan in force, the slack minimum of its state and the target (R556). -/
def planVcore (v slack tgt : Nat) : Nat :=
  if slack < tgt then v + 10 * (tgt - slack) else if tgt + 3 ≤ slack then v - 10 else v

/-- The planned forward bias in mV for a mean junction temperature in eighths of a °C. -/
def planBias (tj : Int) : Nat := if tj ≤ 680 then 300 else if tj ≤ 800 then 200 else 100

/-- The planned DRM_TIMING_ADD from the narrowest eyes of the two channels. -/
def planTiming (v e0 e1 : Nat) : Nat :=
  if e0 < 18 || e1 < 18 then v + 1 else if 20 ≤ e0 && 20 ≤ e1 then v - 1 else v

/-- Microticks of a day. -/
abbrev dayT : Nat := 1440 * epochT

/-- A channel corrected more than 16 errors per day over a span. -/
def manyErrors (n span : Nat) : Bool := decide (16 * span < n * dayT)

/-- The planned DRM_REF_SCALE from the corrected errors of the two channels and the surveys without one. -/
def planRefresh (v c0 c1 span clean : Nat) : Nat :=
  if manyErrors c0 span || manyErrors c1 span then (if 4 < v then v - 1 else v)
  else if 30 ≤ clean then min 8 (v + 1)
  else v

/-- The planned PA backoff in 0.25 dB from a compression in 0.1 dB. -/
def planBackoff (comp : Int) : Nat := if comp ≤ 5 then 0 else ceilDiv ((comp - 5).toNat * 2) 5

/-- The planned FAB_HOLD_U from the change of the mean drift in 1/256 µt per superframe; 98,304 is 9,830.4 times ten. -/
def planHoldU (change : Nat) : Nat := max 10 (ceilDiv (2000 * change) 98304)

/-- The planned FAB_HOLD_TC from the slope of the drift. -/
def planHoldTc (slope : Nat) : Nat := (2 * 1000 * slope + 98304) / (2 * 98304) + 1

/-- The set that the plan commits (R556). -/
def State.planSet (s : State) : List (Key × Val) :=
  let p := s.power
  let tgt := s.o Obj.NBF_CPS_SLACK_TGT
  let drift := (s.oi 32 Obj.PWR_CPS_DRIFT_MEAN - p.driftLast).natAbs
  [(Obj.PWR_PLAN_VCORE_RUN, .num (planVcore (s.o Obj.PWR_PLAN_VCORE_RUN) (s.o Obj.PWR_CPS_SLACK_RUN) tgt)),
   (Obj.PWR_PLAN_VCORE_TRIM, .num (planVcore (s.o Obj.PWR_PLAN_VCORE_TRIM) (s.o Obj.PWR_CPS_SLACK_TRIM) tgt)),
   (Obj.PWR_PLAN_VCORE_DOZE, .num 650),
   (Obj.PWR_PLAN_BB_RUN, .num (planBias (s.oi 16 Obj.PWR_CPS_TJ_MEAN))),
   (Obj.PWR_PLAN_BB_DOZE, .num (ofI 16 (-600))),
   (Obj.DRM_TIMING_ADD, .num (planTiming (s.o Obj.DRM_TIMING_ADD) p.eyeSurvey[(0 : Fin 2)] p.eyeSurvey[(1 : Fin 2)])),
   (Obj.DRM_REF_SCALE, .num (planRefresh (s.o Obj.DRM_REF_SCALE) p.ceSurvey[(0 : Fin 2)] p.ceSurvey[(1 : Fin 2)] p.surveySpan
      p.cleanSurveys)),
   (Obj.FAB_HOLD_U, .num (planHoldU drift)),
   (Obj.FAB_HOLD_TC, .num (planHoldTc (s.oi 16 Obj.PWR_CPS_DRIFT_SLOPE).natAbs))] ++
  fin4.map (fun (n : Fin 4) => (Obj.SLCn_PA_BACKOFF_AGE n, .num (planBackoff (s.oi 16 (Obj.PWR_CPS_PACOMP n)))))

/-! ## Flash refresh (R478, R556) -/

/-- A sector with a warning: the epoch of its last FLASH_WARN, its area and its logical number. -/
abbrev Warned := Nat × Nat × Nat

/-- Area and logical number of the sector at place i of bank b. -/
def sectorAt (b : Fin 5) (i : Nat) : Nat × Nat := if b.val < 4 then (0, 60 * b.val + i) else (1, i)

/-- Place x of physical sector p among the mapped sectors. -/
def placeIn (l : List Nat) (p : Nat) : Option Nat := ((List.range l.length).zip l).find? (fun e => e.2 == p) |>.map (·.1)

/-- The mapped sectors of bank b with a warning, oldest set first as far as the bank knows. -/
def State.warnedIn (s : State) (b : Fin 5) : List Warned :=
  let x := s.flash.banks[b]
  let ps := (x.warnCb ++ x.warnPulse.filter (fun p => !(x.warnCb.contains p))).reverse
  ps.filterMap (fun p =>
    (placeIn x.used p).map (fun i => (((x.warnAt.find? (fun e => e.1 == p)).map (·.2)).getD 0, sectorAt b i)))

/-- Insert by epoch, after its equals. -/
def putWarned (w : Warned) : List Warned → List Warned
  | [] => [w]
  | e :: r => if w.1 < e.1 then w :: e :: r else e :: putWarned w r

/-- Every sector with a warning, oldest first. -/
def State.warned (s : State) : List Warned :=
  (fin5.flatMap (fun (b : Fin 5) => s.warnedIn b)).foldl (fun l w => putWarned w l) []

/-- The window address of main sector i of the rotation. -/
def scanBase (i : Nat) : Nat := sectorBase 0 (i % 240)

/-- Address a lies in one of the 16 sectors scanned from sector i. -/
def scanned (i a : Nat) : Bool :=
  (List.range 16).any (fun j => decide (scanBase (i + j) ≤ a) && decide (a < scanBase (i + j) + sectorLen 0))

/-- The scan of 16 main sectors in rotation: the wrong bits with which lines read, beside those noted before; a sector is read
up to its first lost line (R463). -/
def State.scanSectors (s : State) (lines : List (Nat × Nat)) : State :=
  let i := s.power.scanNext
  let s := (lines.filter (fun e => scanned i e.1)).foldl (fun (s : State) e => s.meetUnit e.1 e.2) s
  let s := (List.range 16).foldl (fun (s : State) j => (s.readOver (scanBase (i + j)) (scanBase (i + j) + sectorLen 0)).2) s
  s.modPower (fun p => { p with scanNext := (i + 16) % 240 })

/-- Relocate the sectors with a warning, oldest first, at most NBF_CPS_FL_MAX. -/
def State.refreshFlash (s : State) : State :=
  (s.warned.take (s.o Obj.NBF_CPS_FL_MAX)).foldl (fun (s : State) w => (s.flRelocate 4 w.2.2 w.2.1 0 0).2) s

/-- A set the base firmware committed, or none where R507 refused it: DRM_REF_SCALE raised starts its count of surveys anew. -/
def State.planned (s : State) (up : Bool) (r : Option State) : State :=
  r.elim s (fun t => if up then t.modPower (fun p => { p with cleanSurveys := 0 }) else t)

/-- COMPASS_PLAN (R554-R556): committed from core 4 as one set; a set refused under R507 changes nothing. -/
def execCompassPlan (lines : List (Nat × Nat)) (s : State) : Out :=
  let l := s.planSet
  let up := decide (s.o Obj.DRM_REF_SCALE < (setNum l Obj.DRM_REF_SCALE).getD 0)
  .next (((s.planned up (s.judgeSet l).toOption).scanSectors lines).refreshFlash)

end Sys2Proof.Machine
end

