-- ==== Sys2Proof/Machine/Routine.lean ====
section
/-!
DEFINITION. The ROM routines that a core calls: the flash routines and the image routines (16_flash.md R467, R468;
19_boot_update.md R572).
-/
namespace Sys2Proof.Machine

/-- Core c runs in 32-bit mode and stands at the entry of ROM routine n (R467). -/
def State.atRoutine (s : State) (c : Fin 8) (n : Nat) : Bool :=
  s.cores[c].mode == .run && !s.cores[c].sprout && s.cores[c].pc.toNat == s.rn (0x400 + 4 * n) 4

/-- n elements of 4 bytes below address p take free values, where they lie in system SRAM. -/
def State.clobber (s : State) (p n : Nat) : State := if inSram (p - 4 * n) (4 * n) then s.scramble (p - 4 * n) (4 * n) else s

/-- A routine uses up to 16 data elements beyond its inputs and 8 return elements: what they held is gone (R467). -/
def State.scratch (s : State) (c : Fin 8) : State :=
  let x := s.cores[c]
  (s.clobber x.dp (min 16 ((x.dp - x.dsLo.toNat) / 4))).clobber x.rp (min 8 ((x.rp - x.rsLo.toNat) / 4))

/-- Both stacks have the room that a routine may use. -/
def CoreSt.roomy (x : CoreSt) : Bool := x.dRoom 16 && x.rRoom 8

/-- Core c runs ROM routine n, which takes din elements and leaves dout, and returns to its caller (R467). On a stack without the
room that a routine may use it is a free choice whether it overflows (R400, log 229). -/
def State.routine (s : State) (c : Fin 8) (n din dout : Nat) (f : List Nat → State → List Nat × State) : State :=
  if s.atRoutine c n then
    s.gins c 1 din dout 1 0 (fun ins rets s =>
      let x := s.cores[c]
      if !x.roomy && s.freeBelow 2 = 1 then (if x.dRoom 16 then .trap s.drawn 4 x.rp else .trap s.drawn 2 x.dp)
      else
        let (outs, s) := f ins ((if x.roomy then s else s.drawn).scratch c)
        .done s outs [] (some (inp rets 0)))
  else s

/-- FL_PROGRAM (R470). -/
def execFlProgram (c : Fin 8) (s : State) : Out :=
  .next (s.routine c 0 3 2 (fun l s => s.flProgram c (inp l 0) (inp l 1) (inp l 2)))

/-- FL_ERASE (R474). -/
def execFlErase (c : Fin 8) (s : State) : Out :=
  .next (s.routine c 1 2 2 (fun l s => s.flErase c (inp l 0) (inp l 1)))

/-- FL_RELOCATE (R477). -/
def execFlRelocate (c : Fin 8) (s : State) : Out :=
  .next (s.routine c 2 4 2 (fun l s => s.flRelocate c (inp l 0) (inp l 1) (inp l 2) (inp l 3)))

/-- FL_CTRWORD (R473). -/
def execFlCtrword (c : Fin 8) (s : State) : Out :=
  .next (s.routine c 3 2 1 (fun l s => let r := s.flCtrword (inp l 0) (inp l 1); ([r.1], r.2)))

/-- FL_BLANK (R468). -/
def execFlBlank (c : Fin 8) (s : State) : Out := .next (s.routine c 4 2 2 (fun l s => (s.flBlank (inp l 0) (inp l 1), s)))

/-- FL_READCHK (R468). -/
def execFlReadchk (c : Fin 8) (cbs : List Nat) (s : State) : Out :=
  .next (s.routine c 5 3 2 (fun l s => s.flReadchk (inp l 0) (inp l 1) (inp l 2) cbs))

/-- FL_SECTOR (R468). -/
def execFlSector (c : Fin 8) (s : State) : Out := .next (s.routine c 6 2 4 (fun l s => (s.flSector (inp l 0) (inp l 1), s)))

/-- IM_CHECK (R572). -/
def execImCheck (c : Fin 8) (s : State) : Out :=
  .next (s.routine c 8 1 1 (fun l s => oneStatus (s.imCheck (inp l 0))))

/-- IM_SWITCH (R572) where the mode on the stack is this one. -/
def State.imSwitchRun (s : State) (c : Fin 8) (mode : Nat) : State :=
  if inp (s.dTop c 2) 1 = mode then
    s.routine c 9 2 1 (fun l s => oneStatus (s.imSwitch (inp l 0) mode))
  else s

/-- IM_SWITCH_ROLL (R572). -/
def execImSwitchRoll (c : Fin 8) (s : State) : Out := .next (s.imSwitchRun c 0)
/-- IM_SWITCH_RESET (R572). -/
def execImSwitchReset (c : Fin 8) (s : State) : Out := .next (s.imSwitchRun c 1)
/-- IM_CONFIRM (R572). -/
def execImConfirm (c : Fin 8) (s : State) : Out := .next (s.routine c 10 0 1 (fun _ s => oneStatus s.imConfirm))
/-- IM_ABANDON (R572). -/
def execImAbandon (c : Fin 8) (s : State) : Out := .next (s.routine c 11 0 1 (fun _ s => oneStatus s.imAbandon))

end Sys2Proof.Machine
end

