-- ==== Sys2Proof/Machine/Sop.lean ====
section
/-!
DEFINITION. The SOP engine (17_object_dictionary.md R498, R511-R520): sessions open, secured datagrams are judged, and each
request that waits, of a session or of the debug channel, is served. A row acts on the oldest datagram or request when that is
of its kind; what no row serves is dropped or refused on the way.
-/
namespace Sys2Proof.Machine

/-! ## Datagrams (R511) -/

/-- The state a datagram's session must be in: OPENING for OPEN_FIN, OPEN for SECURED. -/
def kindState (kind : Nat) : Nat := if kind = 3 then 1 else 2

/-- A datagram that the engine takes. -/
def State.sopTakes (s : State) (d : Bytes) : Bool :=
  let kind := fieldN d 1 1
  let x := fieldN d 2 1
  decide (8 ≤ d.length) && fieldN d 0 1 == 1 &&
  (kind == 1 || ((kind == 3 || kind == 4) && decide (24 ≤ d.length) && decide (x < 8) &&
    decide (s.o (Obj.COM_Ss_STATE x) = kindState kind)))

/-- Drop the datagrams at the front that the engine does not take, at most n (COM_RX_DROP). -/
def State.skipIn (s : State) : Nat → State
  | 0 => s
  | n + 1 =>
    match s.com.inbox with
    | [] => s
    | m :: r =>
      if s.sopTakes m.data then s
      else State.skipIn (((s.modCom (fun c => { c with inbox := r })).returnCells 4 m.cells).inc Obj.COM_RX_DROP) n

/-- Give the oldest datagram to f when it is of this kind and its answer has room. -/
def State.takeIn (s : State) (kind : Nat) (f : State → SopIn → State) : State :=
  let s := s.skipIn s.com.inbox.length
  match s.com.inbox with
  | [] => s
  | m :: r =>
    if fieldN m.data 1 1 ≠ kind || (kind = 1 && !(s.sopRoom m.port)) then s
    else f ((s.modCom (fun c => { c with inbox := r })).returnCells 4 m.cells) m

/-! ## Opening a session (R512, R513) -/

/-- The bytes of a datagram after its header. -/
def sopBody (d : Bytes) : Bytes := d.drop 8

/-- An OPEN_REQ of the right form. -/
def openFormOk (b : Bytes) : Bool :=
  decide (b.length = 148) && decide (1 ≤ fieldN b 0 1) && decide (fieldN b 0 1 ≤ 4) &&
  (Config.ecdh (leBytes 32 1) (sliceB b 20 64)).isSome

/-- An OPEN_RSP leaves for the endpoint that asked. -/
def State.openAnswer (s : State) (m : SopIn) (sess : Nat) (body : Bytes) : State :=
  let d := [1, 2] ++ leBytes 1 sess ++ [0] ++ leBytes 4 0 ++ body
  if m.port = 2 then ((s.modCom (fun c => { c with hspiOut := c.hspiOut ++ [d] })).irqPulse).hspiShow
  else s.udpSend (asFin 2 m.port) (sliceB m.peer 0 16) (fieldN m.peer 16 2) d

/-- An OPEN_RSP that takes no session; its fields after STATUS are not given. -/
def State.openRefuse (s : State) (m : SopIn) (status : Nat) : State :=
  { s with draws := s.draws + 339 }.openAnswer m 0xFF (leBytes 1 status ++ freeBytes s.draws 339)

/-- The lowest free session. -/
def State.freeSession (s : State) : Option (Fin 8) := fin8.find? (fun x => s.o (Obj.COM_Ss_STATE x) == 0)

/-- Agree a session key for session x; none when the Shell cannot (BUSY). -/
def State.openKey (s : State) (x : Fin 8) (b : Bytes) : Option (Bytes × Bytes × State) :=
  let k := 248 + x.val
  if s.slotState (240 + x.val) ≠ 0 || s.slotState k ≠ 0 || s.o Obj.SHL_STATE ≠ 1 || s.o Obj.SHL_RNG_STATE = 1 then none
  else
    let (priv, s) := s.drbg 32
    let (dn, s) := s.drbg 16
    match Config.ecdh priv (sliceB b 20 64) with
    | none => none
    | some z =>
      let key := Config.hkdf z [] (ascii "SOP1" ++ sliceB b 4 16 ++ dn) 16
      if s.duplicate k 0 0x80 key then none else some (dn, Config.p256Public priv, s.loadSlot k 0 0x80 0 2 key)

/-- Session x opens: the report is made and OPEN_RSP sent. -/
def State.openSession (s : State) (m : SopIn) (x : Fin 8) (dn deph : Bytes) : State :=
  let b := sopBody m.data
  let s := s.setBlob Obj.SHL_ATT_NONCE (sliceB (Config.sha256 (b ++ dn ++ deph)) 0 16)
  let s := s.setBlob Obj.SHL_ATT_REPORT s.report
  let rsp := leBytes 1 0 ++ leBytes 1 x.val ++ leBytes 2 0 ++ dn ++ deph ++ s.blob Obj.SHL_ATT_REPORT
  let s := s.modSess x (fun q => {
    q with
    openReq := b, openRsp := rsp, wantLevel := fieldN b 0 1, hauth := sliceB b 84 64, finBy := s.now + 76800000 })
  let s := ((s.setO (Obj.COM_Ss_STATE x) 1).setO (Obj.COM_Ss_PORT x) m.port).setBlob (Obj.COM_Ss_PEER x) m.peer
  s.openAnswer m x rsp

/-- OPEN_REQ (R512). -/
def execOpenReq (s : State) : Out :=
  .next (s.takeIn 1 (fun s m =>
    if !(openFormOk (sopBody m.data)) then s.openRefuse m 2
    else
      match s.freeSession with
      | none => s.openRefuse m 1
      | some x =>
        match s.openKey x (sopBody m.data) with
        | none => s.openRefuse m 1
        | some (dn, deph, s) => s.openSession m x dn deph))

/-- The bytes a host sealed in a datagram of session x; none when the MIC fails. -/
def State.sopUnseal (s : State) (x : Fin 8) (d : Bytes) : Option Bytes :=
  let k := 248 + x.val
  if s.permits k 7 then
    Config.ccmOpen (s.keyOf k) (sopNonce (s.dnonce x) (fieldN d 4 4) true) (d.take 8) ((d.drop 8).take (d.length - 24))
      (d.drop (d.length - 16))
  else none

/-- The highest level that the authority of session x grants under a signature; 0 none (R513). -/
def State.authGrant (s : State) (x : Fin 8) (sig : Bytes) : Nat :=
  let q := s.com.sessions[x]
  let a := Config.sha256 q.hauth
  let good := Config.ecdsaVerify q.hauth (Config.sha256 (q.openReq ++ q.openRsp)) sig
  if good && a == Config.vendorHash then 4
  else if good && a == s.blob Obj.COM_AUTH_INSTALL then 3
  else if zeroB (s.blob Obj.COM_AUTH_INSTALL) && s.o (Obj.COM_Ss_PORT x) = 2 then 3
  else if good && a == s.blob Obj.COM_AUTH_OPERATE then 2
  else if s.ob Obj.COM_VIEW_OPEN && zeroB q.hauth && zeroB sig then 1
  else 0

/-- Session x is open: READY carries the level granted. -/
def State.openDone (s : State) (x : Fin 8) : State :=
  let lev := s.com.sessions[x].wantLevel
  let s := ((s.setO (Obj.COM_Ss_STATE x) 2).setO (Obj.COM_Ss_LEVEL x) lev).setO (Obj.COM_Ss_KEY x) (248 + x.val)
  let s := (s.setO (Obj.COM_Ss_OPENED x) (tt64 s.now)).setO Obj.COM_SESS_OPEN (s.o Obj.COM_SESS_OPEN + 1)
  let s := s.modSess x (fun q => { q with winH := 0, winBits := 1, winAny := true, seen := s.now })
  ((s.raise 0x153 x lev).answer x ⟨0x0C, 0, leBytes 1 lev⟩).bskSession

/-- OPEN_FIN (R513): one with a bad MIC is dropped and its session waits on. -/
def execOpenFin (s : State) : Out :=
  .next (s.takeIn 3 (fun s m =>
    let x := asFin 8 (fieldN m.data 2 1)
    if m.data.length ≠ 88 || fieldN m.data 4 4 ≠ 0 then s.inc Obj.COM_RX_DROP
    else
      match s.sopUnseal x m.data with
      | none => s.inc Obj.COM_RX_DROP
      | some sig =>
        if s.com.sessions[x].wantLevel ≤ s.authGrant x sig then s.openDone x
        else ((s.freeHandlers x).sessFree x).inc Obj.COM_AUTH_FAILS))

/-! ## Secured datagrams (R514, R515) -/

/-- Session x accepts counter c in its window of 64; none for a duplicate or a replay. -/
def SessSt.accept (q : SessSt) (c : Nat) (now : Instant) : Option SessSt :=
  match (SeqWin.mk q.winH q.winBits 0 0).judge none 0 c with
  | (0, _, w) => some { q with winH := w.h, winBits := w.bits, seen := now }
  | _ => none

/-- A message accepted in session x waits to be served, or ends with FORMAT. -/
def State.sopArrived (s : State) (x : Fin 8) (b : Bytes) : State :=
  let len := fieldN b 2 2
  if b.length ≠ 4 + len || 996 < len then s.abortTo (.session x) (fieldN b 1 1) 0 0x0D
  else
    s.modCom (fun c => { c with requests := c.requests ++ [⟨.session x, ⟨fieldN b 0 1, fieldN b 1 1, b.drop 4⟩⟩] })

/-- SECURED_RX (R514). -/
def execSecuredRx (s : State) : Out :=
  .next (s.takeIn 4 (fun s m =>
    let x := asFin 8 (fieldN m.data 2 1)
    match s.sopUnseal x m.data with
    | none => s.inc Obj.COM_RX_DROP
    | some b =>
      match s.com.sessions[x].accept (fieldN m.data 4 4) s.now with
      | none => s.inc Obj.COM_RX_DROP
      | some q => (((s.modSess x (fun _ => q)).inc Obj.COM_RX_MSG).inc (Obj.COM_Ss_RX x)).sopArrived x b))

/-! ## Serving requests (R498, R515) -/

/-- The request types that a session may send. -/
def sessionTypes : List Nat := [1, 2, 3, 4, 5, 6, 7, 0x0A, 0x0B]
/-- The request types of the debug channel. -/
def debugTypes : List Nat := [1, 2, 3, 4, 5, 0x0B, 0x20, 0x21, 0x22]

/-- The debug channel is open: OWNER or VENDOR. -/
def State.unlocked (s : State) : Bool := s.o Obj.SHL_DBG_STATE == 1 || s.o Obj.SHL_DBG_STATE == 2

/-- The abort of a request that no type serves, or that the lock refuses. -/
def State.typeRefused (s : State) (r : SopReq) : Option Nat :=
  if r.who = .debug then
    if !(debugTypes.contains r.msg.ty) then some 0x0E
    else if !s.unlocked && 2 < r.msg.ty then some 2
    else none
  else if sessionTypes.contains r.msg.ty then none else some 0x0E

/-- The debug channel holds four answers; while it is full its requests wait. -/
def State.debugFull (s : State) (w : Writer) : Bool := w == .debug && decide (4 ≤ s.com.hspiDbg.length)

/-- Refuse the requests at the front that no type serves, at most n. -/
def State.skipReq (s : State) : Nat → State
  | 0 => s
  | n + 1 =>
    match s.com.requests with
    | [] => s
    | r :: l =>
      if s.debugFull r.who then s
      else
        match s.typeRefused r with
        | none => s
        | some e => State.skipReq ((s.modCom (fun c => { c with requests := l })).abortTo r.who r.msg.tag 0 e) n

/-- Serve the oldest request when it is of this type. -/
def State.sopServe (s : State) (ty : Nat) (f : State → Writer → Nat → Bytes → State) : State :=
  let s := s.skipReq s.com.requests.length
  match s.com.requests with
  | [] => s
  | r :: l =>
    if r.msg.ty ≠ ty || s.debugFull r.who then s
    else f (s.modCom (fun c => { c with requests := l })) r.who r.msg.tag r.msg.payload

/-- The object that a payload names at its front. -/
def payKey (p : Bytes) : Key := okey (fieldN p 0 2) (fieldN p 2 1)

/-- The bytes of a value in SOP. -/
def Val.spell (k : Key) : Val → Bytes
  | .num v => leBytes (match objFind k with | some (x, _, _) => x.ty.size | none => 0) v
  | .bytes b => b

/-- The value of a hardware-backed object in force; none when its read is refused. -/
def State.valueNow (s : State) (w : Writer) (k : Key) : Option (State × Bytes) :=
  match objFind k with
  | none => none
  | some (x, _, _) =>
    if x.ty.blob then s.readBlob w k
    else
      let (s, v) := s.readNum w k
      some (s, leBytes x.ty.size v)

/-- The value that a READ returns: the staged one when asked for and staged. -/
def State.valueFor (s : State) (w : Writer) (k : Key) (staged : Bool) : Option (State × Bytes) :=
  match (s.stageOf w).find? (fun e => staged && e.1 == k) with
  | some e => some (s, e.2.spell k)
  | none => s.valueNow w k

/-- A READ of a hardware-backed object. -/
def State.readHere (s : State) (w : Writer) (tag : Nat) (k : Key) (staged : Bool) (off cap : Nat) : State :=
  match s.valueFor w k staged with
  | none => s.abortTo w tag k 0x14
  | some (s, v) =>
    let part := (v.drop off).take cap
    let blob : Bool := match objFind k with | some (x, _, _) => x.ty.blob | none => true
    if !blob && (off ≠ 0 || cap < v.length) then s.abortTo w tag k 6
    else if 981 < part.length then s.abortTo w tag k 0x0F
    else
      s.respond w 1 tag (keyBytes k ++ leBytes 1 (typeCode k) ++ [0] ++ leBytes 4 v.length ++ leBytes 4 off ++
        leBytes 2 part.length ++ part)

/-- READ (R516). -/
def execRead (s : State) : Out :=
  .next (s.sopServe 1 (fun s w tag p =>
    let k := payKey p
    let off := fieldN p 4 4
    let cap := fieldN p 8 2
    if p.length ≠ 10 then s.abortTo w tag k 0x0D
    else
      match s.gate w k false with
      | some e => s.abortTo w tag k e
      | none =>
        if firmwareBacked k then s.ask w tag { op := 1, key := k, off := off, len := cap }
        else s.readHere w tag k (bitOf (fieldN p 3 1) 0) off cap))

/-- The value that a writer is writing piece by piece. -/
def State.domOf (s : State) : Writer → Option DomWrite
  | .session x => s.com.sessions[x].dom
  | .debug => s.com.debugDom
  | .core _ => none

/-- Put the value that a writer is writing piece by piece. -/
def State.putDom (s : State) (w : Writer) (d : Option DomWrite) : State :=
  match w with
  | .session x => s.modSess x (fun q => { q with dom := d })
  | .debug => s.modCom (fun c => { c with debugDom := d })
  | .core _ => s

/-- The value with one more piece; none out of sequence (R516). -/
def domPiece (cur : Option DomWrite) (k total off : Nat) (b : Bytes) : Option DomWrite :=
  if total < off + b.length then none
  else if off = 0 then some ⟨k, total, b⟩
  else
    match cur with
    | some d => if d.key = k && d.total = total && d.got.length = off then some { d with got := d.got ++ b } else none
    | none => none

/-- The status of a Shell command is returned in the response, which carries nothing more when it is OK (R350, R516). -/
def State.shellAnswer (s : State) (w : Writer) (tag : Nat) : State :=
  let st := s.o Obj.SHL_CMD_STATUS
  s.respond w 2 tag (keyBytes Obj.SHL_CMD ++ (if st = 0 then [] else leBytes 1 st))

/-- SHELL_CMD (R350): the command ends; a WRITE that started it gets its response. -/
def execShellCmd (s : State) : Out :=
  match s.shell.running, s.shell.asked with
  | some _, some (w, tag) => .next (({ s with shell := { s.shell with asked := none } }.shellEnd).shellAnswer w tag)
  | _, _ => .next s.shellEnd

/-- A host has written SHL_CMD: its response waits for the command that it started; BUSY is answered at once (R346, R350). -/
def State.shellAsked (s : State) (w : Writer) (tag : Nat) (busy : Bool) : State :=
  if busy then s.shellAnswer w tag else { s with shell := { s.shell with asked := some (w, tag) } }

/-- A host writes or stages a whole value of a hardware-backed object. -/
def State.writeHere (s : State) (w : Writer) (tag : Nat) (k : Key) (b : Bytes) : State :=
  match s.hostPut w k (match objFind k with | some (x, _, _) => if x.ty.blob then .bytes b else .num (leNat b) | none => .bytes b) with
  | (t, 0) =>
    if k = Obj.SHL_CMD then t.shellAsked w tag (s.shell.running.isSome || t.shell.running.isNone) else t.respond w 2 tag (keyBytes k)
  | (t, e) => t.abortTo w tag k e

/-- One piece of a STR or DOM value: it is written when whole; each piece for the base firmware goes to its handler. -/
def State.writePiece (s : State) (w : Writer) (tag : Nat) (k : Key) (total off : Nat) (b : Bytes) : State :=
  if (objFind k).isSome && blobMax k < total then s.abortTo w tag k 5
  else
    match domPiece (s.domOf w) k total off b with
    | none => s.abortTo w tag k 0x12
    | some d =>
      let whole : Bool := d.got.length = total
      let left := if whole then none else some d
      if firmwareBacked k then
        let a : Ask := { op := firmOp k, key := k, off := off, total := total, len := b.length, data := b, value := if whole then some d.got else none }
        match s.tryAsk w tag a with
        | none => s.abortTo w tag k 0x0C
        | some s => s.putDom w left
      else
        let s := s.putDom w left
        if whole then s.writeHere w tag k d.got else s.respond w 2 tag (keyBytes k)

/-- WRITE (R516). -/
def execWrite (s : State) : Out :=
  .next (s.sopServe 2 (fun s w tag p =>
    let k := payKey p
    let total := fieldN p 4 4
    let off := fieldN p 8 4
    let len := fieldN p 12 2
    let b := p.drop 14
    let blob : Bool := match objFind k with | some (x, _, _) => x.ty.blob | none => true
    if p.length ≠ 14 + len then s.abortTo w tag k 0x0D
    else
      match s.gate w k true with
      | some e => s.abortTo w tag k e
      | none =>
        if blob then s.writePiece w tag k total off b
        else if off ≠ 0 || len ≠ total || !(sizeOk k total) then s.abortTo w tag k 6
        else if firmwareBacked k then
          s.ask w tag { op := firmOp k, key := k, total := total, len := len, data := b, value := some b }
        else s.writeHere w tag k b))

/-! ## Blocks (R517) -/

/-- One entry of a block that is read. -/
def State.readEntry (s : State) (w : Writer) (k : Key) : State × Bytes :=
  match s.gate w k false with
  | some e => (s, blockEntry (k % 256) e [])
  | none =>
    match s.valueNow w k with
    | none => (s, blockEntry (k % 256) 0x14 [])
    | some (s, v) => (s, blockEntry (k % 256) 0 v)

/-- The entries of n subindexes from first. -/
def State.readEntries (s : State) (w : Writer) (i first n : Nat) : State × Bytes :=
  (List.range n).foldl (fun (a : State × Bytes) j =>
    let (s, e) := a.1.readEntry w (okey i ((first + j) % 256))
    (s, a.2 ++ e)) (s, [])

/-- An index whose objects the base firmware or policy firmware keeps. -/
def firmIndex (i : Nat) : Bool := firmwareBacked (okey i 0)

/-- BLOCK_READ (R517). -/
def execBlockRead (s : State) : Out :=
  .next (s.sopServe 3 (fun s w tag p =>
    let i := fieldN p 0 2
    let first := fieldN p 2 1
    let n := fieldN p 3 1
    if p.length ≠ 4 then s.abortTo w tag (payKey p) 0x0D
    else if firmIndex i && n ≠ 0 then s.blockNext w tag { read := true, index := i, first := first, count := n }
    else
      let (s, out) := s.readEntries w i first n
      if 992 < out.length then s.abortTo w tag (payKey p) 0x0F else s.respond w 3 tag (p ++ out)))

/-- The entries of a BLOCK_WRITE; none when they do not fill the payload. -/
def blockEntries (n : Nat) (b : Bytes) : Option (List (Nat × Bytes)) :=
  match n with
  | 0 => if b.isEmpty then some [] else none
  | n + 1 =>
    let len := fieldN b 1 2
    if b.length < 3 + len then none
    else (blockEntries n (b.drop (3 + len))).map (fun l => (fieldN b 0 1, (b.drop 3).take len) :: l)

/-- Write one entry: its abort code, 0 when written. -/
def State.writeEntry (s : State) (w : Writer) (k : Key) (b : Bytes) : State × Nat :=
  match s.gate w k true with
  | some e => (s, e)
  | none => if sizeOk k b.length then s.hostPut w k (valOf k b) else (s, 6)

/-- Write entries in order up to the first failure. -/
def State.writeEntries (s : State) (w : Writer) (tag i first done : Nat) (l : List (Nat × Bytes)) : State :=
  match l with
  | [] => s.respond w 4 tag (leBytes 2 i ++ leBytes 1 first ++ leBytes 1 done)
  | e :: r =>
    match s.writeEntry w (okey i e.1) e.2 with
    | (t, 0) => State.writeEntries t w tag i first (done + 1) r
    | (t, c) => t.abortTo w tag (okey i e.1) c

/-- BLOCK_WRITE (R517). -/
def execBlockWrite (s : State) : Out :=
  .next (s.sopServe 4 (fun s w tag p =>
    let i := fieldN p 0 2
    let first := fieldN p 2 1
    let n := fieldN p 3 1
    match blockEntries n (p.drop 4) with
    | none => s.abortTo w tag (payKey p) 0x0D
    | some l =>
      if p.length < 4 then s.abortTo w tag (payKey p) 0x0D
      else if firmIndex i && n ≠ 0 then
        s.blockNext w tag { read := false, index := i, first := first, count := n, todo := l }
      else s.writeEntries w tag i first 0 l))

/-! ## COMMIT, subscriptions, CLOSE, PING (R514, R518-R520) -/

/-- COMMIT (R518): a set with firmware-backed values is shown to their handlers first (R522). -/
def execCommit (s : State) : Out :=
  .next (s.sopServe 5 (fun s w tag p =>
    let l := s.stageOf w
    if !p.isEmpty then s.abortTo w tag 0 0x0D
    else if l.isEmpty then s.respond w 5 tag (leBytes 8 0)
    else if anyFirm l then s.ask w tag { op := 4, key := 0, total := 8, len := 8, data := leBytes 8 (tt64 s.commitTick) }
    else s.judgeSop w tag))

/-- The subscription that a SUBSCRIBE asks for, or its abort code. -/
def State.subOf (s : State) (w : Writer) (p : Bytes) : Except Nat Sub :=
  let k := payKey (p.drop 2)
  if fieldN p 1 1 = 0 then
    if p.length = 6 then .ok (.events (fieldN p 2 2) (fieldN p 4 2)) else .error 0x0D
  else if fieldN p 1 1 ≠ 1 || p.length ≠ 8 then .error 0x0D
  else
    match objFind k with
    | none => .error 1
    | some (x, _, _) =>
      if firmwareBacked k || x.ty.blob then .error 1
      else
        match s.gate w k false with
        | some e => .error e
        | none =>
          if 1 < fieldN p 5 1 || fieldN p 6 2 = 0 || 6000 < fieldN p 6 2 then .error 5
          else .ok (.object k (fieldN p 5 1) (fieldN p 6 2) 0 (s.readNum w k).2)

/-- SUBSCRIBE (R519). -/
def execSubscribe (s : State) : Out :=
  .next (s.sopServe 6 (fun s w tag p =>
    let k := if fieldN p 1 1 = 1 then payKey (p.drop 2) else 0
    let id := fieldN p 0 1
    match w with
    | .session x =>
      let q := s.com.sessions[x]
      (match s.subOf w p with
       | .error e => s.abortTo w tag k e
       | .ok u =>
         if 15 < id then s.abortTo w tag k (if 16 ≤ q.subs.length then 0x11 else 5)
         else
           (s.modSess x (fun q => { q with subs := q.subs.filter (fun e => e.1 != id) ++ [(id, u)] })).respond w 6 tag (leBytes 1 id))
    | _ => s))

/-- UNSUBSCRIBE (R519). -/
def execUnsubscribe (s : State) : Out :=
  .next (s.sopServe 7 (fun s w tag p =>
    let id := fieldN p 0 1
    match w with
    | .session x =>
      if p.length ≠ 1 then s.abortTo w tag 0 0x0D
      else if s.com.sessions[x].subs.any (fun e => e.1 == id) then
        (s.modSess x (fun q => { q with subs := q.subs.filter (fun e => e.1 != id) })).respond w 7 tag (leBytes 1 id)
      else s.abortTo w tag 0 0x10
    | _ => s))

/-- CLOSE (R514): no response. -/
def execClose (s : State) : Out :=
  .next (s.sopServe 0x0A (fun s w _ _ => match w with | .session x => s.sessClose x 0 | _ => s))

/-- PING (R520). -/
def execPing (s : State) : Out :=
  .next (s.sopServe 0x0B (fun s w tag p =>
    if p.isEmpty then s.respond w 0x0B tag (leBytes 8 (tt64 s.now)) else s.abortTo w tag 0 0x0D))

/-! ## Watched objects (R519, R520) -/

/-- A subscription at a tick, with the value its object has then: the subscription after it, and whether it notifies. -/
def Sub.tick (u : Sub) (v : Nat) : Sub × Bool :=
  match u with
  | .object k 0 p n last => (.object k 0 p n v, v != last)
  | .object k m p n last => if p ≤ n + 1 then (.object k m p 0 last, true) else (.object k m p (n + 1) last, false)
  | .events lo hi => (.events lo hi, false)

/-- The object that a subscription watches. -/
def Sub.key : Sub → Key
  | .object k .. => k
  | .events .. => 0

/-- A NOTIFY message of an object's value. -/
def notifyMsg (id : Nat) (k : Key) (at_ : Instant) (v : Bytes) : SopMsg :=
  ⟨9, 0, leBytes 1 id ++ keyBytes k ++ [0] ++ leBytes 8 (tt64 at_) ++ leBytes 2 v.length ++ v⟩

/-- Subscription id of session x at a tick. -/
def State.notifyOne (s : State) (x : Fin 8) (id : Nat) (u : Sub) : State :=
  let v := (s.readNum (.session x) u.key).2
  let (u', due) := u.tick v
  let s := s.modSess x (fun q => { q with subs := q.subs.map (fun e => if e.1 = id then (id, u') else e) })
  if !due then s
  else
    let room : Bool := decide (s.com.sessions[x].queue.length < 64)
    let s := s.toSession x (notifyMsg id u.key s.now ((Val.num v).spell u.key))
    if room then s.inc Obj.EVT_SOP_SENT else s

/-- NOTIFY (R519): the watched objects of every open session, once at each tick. -/
def execNotify (s : State) : Out :=
  if s.time.tickMark ≤ s.com.notified then .next s
  else
    let s := s.modCom (fun c => { c with notified := s.time.tickMark })
    .next (fin8.foldl (fun (s : State) (x : Fin 8) =>
      if s.o (Obj.COM_Ss_STATE x) = 2 then
        s.com.sessions[x].subs.foldl (fun (s : State) e => s.notifyOne x e.1 e.2) s
      else s) s)

/-! ## The debug channel (R498) -/

/-- An address that the debug channel may not touch: the counter copies of the Shell. -/
def debugBarred (a n : Nat) : Bool := decide (a < 0x08F10000) && decide (0x08F0E000 < a + n)

/-- n bytes from a lie in one region of the map of R409. -/
def inMap (a n : Nat) : Bool :=
  match regionOf a with
  | some (lo, hi) => decide (lo ≤ a) && decide (a + n ≤ hi)
  | none => false

/-- The abort code of a window trap. -/
def trapAbort (t : Nat) : Nat := if t = 8 then 7 else 1

/-- n words of the window from a, as the debug channel reads them; or an abort code. -/
def State.debugWords (s : State) (a : Nat) : Nat → Except Nat (State × Bytes)
  | 0 => .ok (s, [])
  | n + 1 =>
    match s.winRead .debug a 4 with
    | .error t => .error (trapAbort t)
    | .ok (s, v) =>
      match State.debugWords s (a + 4) n with
      | .error e => .error e
      | .ok (s, b) => .ok (s, leBytes 4 v ++ b)

/-- What MEM_READ reads: the bytes, or an abort code with the state it leaves. -/
def State.debugRead (s : State) (a n : Nat) : Except (State × Nat) (State × Bytes) :=
  if 512 < n then .error (s, 5)
  else if debugBarred a n then .error (s, 2)
  else if inWindow a then
    if a % 4 ≠ 0 || n % 4 ≠ 0 then .error (s, 6)
    else match s.debugWords a (n / 4) with
      | .error e => .error (s, e)
      | .ok x => .ok x
  else if !(inMap a n) || s.noDram a then .error (s, 5)
  else if !(s.powered a) then .error (s, 7)
  else match s.meet a n with
    | (true, s) => .error (s, 0x14)
    | (false, s) => .ok (s.sawBytes 8 a n, s.seenBytes 8 a n)

/-- MEM_READ (R498). -/
def execMemRead (s : State) : Out :=
  .next (s.sopServe 0x20 (fun s w tag p =>
    let a := fieldN p 0 4
    if p.length ≠ 6 then s.abortTo w tag 0 0x0D
    else
      match s.debugRead a (fieldN p 4 2) with
      | .error (s, e) => s.abortTo w tag 0 e
      | .ok (s, b) => s.respond w 0x20 tag (leBytes 4 a ++ leBytes 2 b.length ++ b)))

/-- The debug channel writes one word of the window: the state, the object and its abort code. -/
def State.debugWord (s : State) (a v : Nat) : State × Key × Nat :=
  match winAt a with
  | .none => (s, 0, 1)
  | .word k x =>
    if k / 256 = 0x1804 then (s, k, 7)
    else if x.acc = .ro || x.ty.blob then (s, k, 3)
    else if x.acc = .const then (s, k, 0x13)
    else if x.ty.wide then (s.wLatch k (some v), k, 0)
    else
      match wordFit x.ty 4 v with
      | none => (s, k, 5)
      | some v =>
        let (t, e) := s.hostPut .debug k (.num v)
        (t, k, e)
  | .high k x =>
    if k / 256 = 0x1804 then (s, k, 7)
    else if x.acc = .ro then (s, k, 3)
    else if x.acc = .const then (s, k, 0x13)
    else
      match latchOf s.time.writeLatch k with
      | none => (s, k, 0x14)
      | some lo =>
        let (t, e) := (s.wLatch k none).hostPut .debug k (.num (lo + 2 ^ 32 * v))
        (t, k, e)

/-- Words written to the window from a, up to the first failure. -/
def State.debugPut (s : State) (a : Nat) : List Nat → State × Key × Nat
  | [] => (s, 0, 0)
  | v :: r =>
    match s.debugWord a v with
    | (t, _, 0) => State.debugPut t (a + 4) r
    | x => x

/-- The words that bytes spell. -/
def wordsOf (b : Bytes) : List Nat := (List.range (b.length / 4)).map (fun i => fieldN b (4 * i) 4)

/-- What MEM_WRITE does: the state, the object and the abort code. -/
def State.debugWrite (s : State) (a : Nat) (b : Bytes) : State × Key × Nat :=
  let n := b.length
  if debugBarred a n then (s, 0, 2)
  else if inWindow a then (if a % 4 ≠ 0 || n % 4 ≠ 0 then (s, 0, 6) else s.debugPut a (wordsOf b))
  else if !(inMap a n) || s.noDram a then (s, 0, 5)
  else if a < 0x20000000 then (s, 0, 3)
  else if !(s.powered a) then (s, 0, 7)
  else (s.putBytes 8 a b, 0, 0)

/-- MEM_WRITE (R498). -/
def execMemWrite (s : State) : Out :=
  .next (s.sopServe 0x21 (fun s w tag p =>
    let a := fieldN p 0 4
    let n := fieldN p 4 2
    if p.length ≠ 6 + n then s.abortTo w tag 0 0x0D
    else
      match s.debugWrite a (p.drop 6) with
      | (s, _, 0) => s.respond w 0x21 tag (leBytes 4 a ++ leBytes 2 n)
      | (s, k, e) => s.abortTo w tag k e))

/-- A HALTED core runs one instruction and halts again, unless that faulted it. -/
def State.stepCore (s : State) (c : Fin 8) : State :=
  match (s.setMode c .run).runOne c with
  | .next t => if t.cores[c].mode = .faulted then t else t.setMode c .halted
  | _ => s

/-- STEP (R498). -/
def execStep (s : State) : Out :=
  .next (s.sopServe 0x22 (fun s w tag p =>
    let c := fieldN p 0 1
    if p.length ≠ 1 then s.abortTo w tag 0 0x0D
    else if 7 < c then s.abortTo w tag 0 5
    else if s.cores[asFin 8 c].mode ≠ .halted then s.abortTo w tag 0 0x14
    else (s.stepCore (asFin 8 c)).respond w 0x22 tag p))

end Sys2Proof.Machine
end

