-- ==== Sys2Proof/Machine/Start.lean ====
section
/-!
DEFINITION. The base firmware's steps after GROW (19_boot_update.md R569, R571, R575, R582): cores released, measurements
extended, keys imported again, the update supervisor rebuilt, configuration replayed, the fabric in LISTEN.
-/
namespace Sys2Proof.Machine

/-- A Shell command of core 4 runs to its end. -/
def State.firmShell (s : State) (slot : Nat) (f : State → Writer → State) : State :=
  (f (s.setO Obj.SHL_CMD_SLOT slot) (.core 4)).shellEnd

/-- Step 2 of R569: SHL_MEAS2 takes the digest of the POLICY part when there is one, SHL_MEAS3 the configuration digest, which
the spec does not define. -/
def State.startMeasure (s : State) : State :=
  let s := match partOf (s.header (s.o Obj.COR_IMG_RUN)) 1 with
    | some p => s.measExtend 2 p.digest
    | none => s
  let d := freeBytes s.draws 32
  { s.measExtend 3 d with draws := s.draws + 32 }

/-- Step 3 of R569: persistent keys are imported again, but not after a wake from HIBERNATE, and CTR_SYNC runs for each. -/
def State.startKeys (s : State) : State :=
  let s := if s.o Obj.COR_RESET_CAUSE = 4 then s
    else s.boot.keyBlobs.foldl (fun (s : State) e => (s.setBlob Obj.SHL_CMD_ARG e.2).firmShell e.1 State.shlImport) s
  (List.range 62).foldl (fun (s : State) i =>
    if s.slotHolds (i + 2) && s.persisted (i + 2) then s.firmShell (i + 2) State.shlCtrSync else s) s

/-- An object that takes a configuration value at once rather than by a commit. -/
def setAtOnce (k : Key) : Bool :=
  match objFind k with
  | some (x, _, _) => x.acc != .rwt
  | none => false

/-- Write one kept value at once. -/
def State.replayOne (s : State) (e : Key × Val) : State :=
  if firmwareBacked e.1 then (match e.2 with | .num v => s.setO e.1 v | .bytes b => s.setBlob e.1 b)
  else (s.putObject (.core 4) false 8 e.1 e.2).1

/-- Commit kept values in sets of at most 64 objects (R507, R571); n bounds the number of sets. -/
def State.replaySets (s : State) (l : List (Key × Val)) : Nat → State
  | 0 => s
  | n + 1 =>
    if l.isEmpty then s
    else
      let s := match s.judgeSet (l.take 64) with | .ok t => t | .error _ => s
      State.replaySets s (l.drop 64) n

/-- Step 4 of R569: configuration is replayed (R571). -/
def State.replay (s : State) : State :=
  let l := s.boot.config
  let s := (l.filter (fun e => setAtOnce e.1)).foldl State.replayOne s
  s.replaySets (l.filter (fun e => !(setAtOnce e.1))) (l.length / 64 + 1)

/-- An entry of FLS_INDET_LIST that names a page of the target slot (R575). -/
def State.indetInTarget (s : State) (e : Bytes) : Bool :=
  let a := fieldN e 4 4
  fieldN e 0 1 == 0 && fieldN e 1 1 == 0 && decide (slotBase s.target ≤ a) && decide (a < slotBase s.target + 0x780000)

/-- Relocate the sectors of indeterminate pages of the target slot with the page as the skip range, and remove their entries. -/
def State.mendPages (s : State) : Nat → State
  | 0 => s
  | i + 1 =>
    let e := sliceB (s.blob Obj.FLS_INDET_LIST) (16 * i) 16
    let s := if decide (16 * i < (s.blob Obj.FLS_INDET_LIST).length) && s.indetInTarget e then
        let r := s.flRelocate 4 (fieldN e 2 1) 0 (fieldN e 4 4) (fieldN e 8 4)
        (r.2.indetAck i).getD r.2
      else s
    State.mendPages s i

/-- IMAGE of the bundle in the target slot, from the marker of piece 0. -/
def State.targetImage (s : State) : Option Nat :=
  let i := fieldN (s.marker 0) 0 2
  if i = 0 || i = 0xFFFF then none else some i

/-- The update supervisor at start: the pieces held of the CATALOG in the parameter sectors (R575), a trial, or the rejection
that a FALLBACK record tells of (R582). -/
def State.startUpdate (s : State) : State :=
  let s := s.mendPages 8
  let d := s.boot.catalog
  let s := if d.isEmpty || cKind d ≠ 0 then s
    else
      let s := ((s.setO Obj.NBF_UPD_IMAGE (cImage d)).setO Obj.NBF_UPD_COUNT (cCount d)).modBoot (fun b => { b with size := cSize d })
      s.setO Obj.NBF_UPD_HAVE s.piecesHeld
  let st := s.recordSt
  if st = some 1 then s.updState 5
  else if st = some 2 then
    match s.targetImage with
    | some i => s.updReject i
    | none => s.updState 7
  else if s.o Obj.NBF_UPD_HAVE ≠ 0 then s.updState 1
  else s

/-- What the trial is judged against (R580). -/
def State.startTrial (s : State) : State :=
  s.modBoot (fun b => {
    b with healthRun := 0, progAll := true, faults := s.o Obj.COR_DBL_FAULTS, lost := s.o Obj.EVT_CORE_LOST })

/-- Every slice is PARKED, or will be once its link controller runs. -/
def State.startParked (s : State) : State :=
  fin4.foldl (fun (s : State) (n : Fin 4) => (s.lcPark n).getD (s.modSlice n (fun x => { x with park := true }))) s

/-- BASE_FIRMWARE_START (R569): only after core 4 has grown out of the ROM. -/
def execBaseFirmwareStart (s : State) : Out :=
  let x := s.cores[(4 : Fin 8)]
  if x.mode ≠ .run || x.sprout then .next s
  else
    let s := (s.release8 0xEF).startMeasure
    let s := ((s.startKeys).startUpdate).startTrial
    .next ((s.replay.startParked).addrState 1)

end Sys2Proof.Machine
end

