-- ==== Sys2Proof/Machine/Tick.lean ====
section
/-!
DEFINITION. The tick boundary, the slot boundary and FALLBACK_STALL (02_turath_time.md R31-R40, 06_frame_programs.md
R157-R177, 04_listeners.md R102, R111).
-/
namespace Sys2Proof.Machine

/-! ## The misses of the tick that ends (R38) -/

/-- ARG of a DEADLINE event of the tick that began at `from_` (R38, R523). -/
def MissGroup.arg (g : MissGroup) (from_ : Instant) : Nat :=
  g.cls + 256 * g.count + 65536 * (if g.earliest < from_ then 0 else min 65535 ((g.earliest - from_) / 8))

/-- One DEADLINE event for each class and source with misses in the tick that began at `from_`. -/
def State.deadlines (s : State) (from_ : Instant) : State :=
  let l := s.time.misses
  let s : State := { s with time := { s.time with misses := [] } }
  l.foldl (fun (s : State) g => s.raise 0x100 g.src (g.arg from_)) s

/-! ## The link controllers at the tick (R173, R175, R177, R386) -/

/-- Record i of the running half becomes FREE. -/
def State.sledFree (s : State) (n : Fin 4) (i : Nat) : State := s.wn (sledAddr n (s.ledIdx n i) + 4) 1 0

/-- Record i of the running half is written QUEUED. -/
def State.sledQueue (s : State) (n : Fin 4) (i kind ref : Nat) : State :=
  s.writeRecord (sledAddr n (s.ledIdx n i)) (s.slices[n].tick / frameT % 2 ^ 32) 1 kind 0 (8 + n.val) 0 0 0 ref 0

/-- Slots that start an UPLINK run. -/
def uplinkStarts (h : Bytes) : List Nat := (runStarts h).filter (fun k => pType h k == 1)

/-- The windows of a program whose frame starts at t (R159). -/
def uplinkWins (h : Bytes) (t : Instant) : List UpWin :=
  (uplinkStarts h).map (fun k => { slot := k, u := t + slotT * k, w := t + slotT * (runNext h k - 1) + 32400 })

/-- A BURST of no channel (R187). -/
def emptyBurst (e : Bytes) : Bool := eKind e == 2 && eNch e == 0

/-- The entries of a program whose frame starts at t, under SLCn_TX_TOL (R165, R170); a burst of no channel is over at once. -/
def entryRuns (p : Prog) (t : Instant) (txTol : Nat) : List EntryRun :=
  (List.zip (List.range p.entries.length) p.entries).map (fun x =>
    { index := x.1, body := x.2, start := t + eStart x.2, tol := tolOf txTol x.2, past := emptyBurst x.2 })

/-- The slice ledger of a new frame: its half FREE, then the entries and gang ACKs of the program QUEUED (R386); a burst of no
channel ends DONE at the tick (R187). -/
def State.sledStart (s : State) (n : Fin 4) (p : Option Prog) : State :=
  let s := (List.range 272).foldl (fun (s : State) i => s.sledFree n i) s
  match p with
  | none => s
  | some p =>
    let s := (List.zip (List.range p.entries.length) p.entries).foldl
      (fun (s : State) x =>
        let s := s.sledQueue n x.1 (if eKind x.2 = 2 then 0x11 else 0x10) x.1
        if emptyBurst x.2 then s.entryEnd n (s.ledIdx n x.1) 3 0 0 else s) s
    (uplinkStarts p.header).foldl (fun (s : State) k => s.sledQueue n (256 + k) 0x12 k) s

/-- The state of the link controller in the frame that starts (R175). -/
def State.lcNext (s : State) (n : Fin 4) : Nat :=
  let x := s.slices[n]
  if x.ready.isSome then 3
  else if s.o (Obj.SLCn_LC_STATE n) = 1 || x.park then 1
  else 2

/-- The frame that starts counts an FP_COMMIT miss (R173). -/
def State.lcMissed (s : State) (n : Fin 4) : Bool :=
  let x := s.slices[n]
  s.o (Obj.SLCn_LC_STATE n) != 0 && !x.ungated && s.lcNext n != 1 && (s.lcNext n == 2 || x.late)

/-- Slice n starts the frame of this instant in state st (R33, R175). -/
def State.frameBegin (s : State) (n : Fin 4) (st : Nat) : State :=
  let p := s.slices[n].ready
  let tol := s.o (Obj.SLCn_TX_TOL n)
  let run := if st = 2 then s.slices[n].fbRun + 1 else 0
  let s := s.modSlice n (fun x => {
    x with
    tick := s.now, ready := none, prog := p, late := false, park := false, ungated := false, fbRun := run
    stallDue := x.stallDue || (st == 2 && run % 100 == 0)
    runs := match p with | none => [] | some p => entryRuns p s.now tol
    wins := match p with | none => [] | some p => uplinkWins p.header s.now })
  let s := (s.setO (Obj.SLCn_LC_STATE n) st).sledStart n p
  let s := if p.isSome then (s.setO (Obj.SLCn_FP_FRAME n) (tt64 s.now)).fpStatus n (0xC, 0, 0xFFFF) else s
  let s := s.fpPipe n
  (s.inc (Obj.SLCn_CLOCKED_FRAMES n)).inc
    (if st = 3 then Obj.SLCn_PROGRAM_FRAMES n else if st = 1 then Obj.SLCn_PARKED_FRAMES n else Obj.SLCn_FB_FRAMES n)

/-- Slice n at the tick: judged for its commits, then its frame starts; a gated slice stays HALTED. -/
def State.lcTick (s : State) (n : Fin 4) : State :=
  if s.slices[n].gated then s.modSlice n (fun x => { x with tick := s.now, late := false })
  else
    let st := s.lcNext n
    let s := if s.lcMissed n then s.missSlice n 1 (s.fpDeadline n) else s
    s.frameBegin n st

/-- Every clocked slice ran the frame that ends in PROGRAM (R580). -/
def State.allProgram (s : State) : Bool :=
  fin4.all (fun (n : Fin 4) => s.slices[n].gated || s.o (Obj.SLCn_LC_STATE n) == 3)

/-! ## The superframe boundary -/

/-- A superframe boundary passes on port p with or without a HELLO (R269). -/
def State.wireBoundary (s : State) (p : Fin 2) : State :=
  if s.hasPeer p then
    s.modWire p (fun w => { w with quiet := if w.heard then 0 else w.quiet + 1, heard := false })
  else s

/-- Superframes without a transmission through each port of slice n (R69). -/
def State.idleBoundary (s : State) (n : Fin 4) : State :=
  s.modSlice n (fun x => {
    x with
    idle := fin2.foldl (fun v (p : Fin 2) => vmod v p (fun i => if x.used[p] then 0 else i + 1)) x.idle
    used := Vector.replicate 2 false })

/-- The corrected errors of the superframe just ended (R435). -/
def State.ceBoundary (s : State) (c : Fin 2) : State :=
  (s.setO (Obj.DRM_CHc_CE_SF c) (min 65535 s.dram.ceRun[c])).modDram (fun d => {
    d with ceRun := vmod d.ceRun c (fun _ => 0), ceRaised := vmod d.ceRaised c (fun _ => false) })

/-- The base firmware ends a key roll once no frame under the old slot has been accepted for one epoch (R224). -/
def State.rollBoundary (s : State) : State :=
  match s.roll with
  | some (_, b) =>
    if s.mac.rollAt + epochT ≤ s.run then
      (match s.judgeSet [(Obj.MAC_SEQ_ROLL_FROM, .num b)] with
       | .ok t => t
       | .error _ => s)
    else s
  | none => s

/-- What the superframe boundary does in hardware (R69, R112, R260, R269, R271, R435, R551); age is the reading of the ageing
oscillators. -/
def State.superBoundary (s : State) (age : Nat) : State :=
  let s := fin4.foldl (fun (s : State) (n : Fin 4) => (s.mapNew n).idleBoundary n) s
  let s := fin2.foldl (fun (s : State) (p : Fin 2) => s.wireBoundary p) s
  let s := fin2.foldl (fun (s : State) (c : Fin 2) => s.ceBoundary c) s.nbBoundary
  ((s.modSteps (fun x => { x with orig := 0 })).superMonitors age).rollBoundary.runBoundary

/-! ## TICK_BOUNDARY (R33) -/

/-- The frame whose tick boundary comes next: no frame has two. -/
def State.nextTick (s : State) : Nat := max s.time.tickMark (boundaryAt frameT s.now / frameT)

/-- What a new tick allows once more: one POOL_LOW per pool, one WRITE_DROPPED, one CTR_PERSIST per slot, one FLOOD_RING. -/
def State.tickFlags (s : State) : State :=
  let s : State := { s with
    com := { s.com with dropRaised := false }
    shell := { s.shell with persistTick := [] } }
  let s := fin5.foldl (fun (s : State) (p : Fin 5) => s.modPool p (fun q => { q with lowRaised := false })) s
  s.modSteps (fun x => { x with ring := false })

/-- What waits for a tick: the Trail copy (R282), the map store's changes (R146, R149), slices that ungate (R550). -/
def State.tickDue (s : State) : State :=
  let s := match s.fab.trailNext with
    | none => s
    | some v => (s.setO Obj.FAB_TRAIL_CUR v).modFab (fun x => { x with trailNext := none })
  s.mapTick.ungateDue

/-- The tick at the boundary that starts frame f (R33): snapshot, commits, frame programs. -/
def State.tickRun (s : State) (f age : Nat) : State :=
  let t := f * frameT
  let all := s.allProgram
  let s := (s.modBoot (fun b => { b with progAll := b.progAll && all })).tickFlags
  let s := if f % 100 = 0 && f ≠ 0 then fin4.foldl (fun (s : State) (n : Fin 4) => s.mapPublish n) s else s
  let s := s.countDue
  let s := if f % 100 = 0 && f ≠ 0 then s.reportBoundary else s
  let s := (s.snapLatch.airTurn.applyCommits t).tickDue
  let s := fin4.foldl (fun (s : State) (n : Fin 4) => s.lcTick n) s
  let s := if f % 100 = 0 && f ≠ 0 then s.superBoundary age else s
  ((s.dwlMax 0).dwlMax 1).hmpShow.drainAll.beaconTick

/-- TICK_BOUNDARY (R33, R38): the misses of the tick that ends, a reset asked for (R584), then the three things of R33. None
in HIBERNATE, where the main die is off. -/
def execTickBoundary (age : Nat) (s : State) : Out :=
  if s.pwr = 4 then .next s
  else
    let f := s.nextTick
    let s := s.upTo (f * frameT)
    let s : State := { s with time := { s.time with tickMark := f + 1 } }
    let s := (s.deadlines ((f - 1) * frameT)).tcTick (f % 100 == 0)
    if !(s.power.resetsDue.isEmpty) && decide (s.pwr ≤ 2) then .next s.resetsRun
    else .next (s.tickRun f age)

/-! ## SLOT_BOUNDARY (R31) -/

/-- The default listen set (R102). -/
def State.lsnDefault (s : State) (n : Fin 4) : List Nat := fin48.map (fun (k : Fin 48) => aClean (s.o (Obj.SLCn_LSNk_DEF n k)))

/-- The listen set of slot k (R102, R158, R176). -/
def State.lsnSet (s : State) (n : Fin 4) (k : Nat) : List Nat :=
  match s.slices[n].prog with
  | none => s.lsnDefault n
  | some p =>
    let i := pLset p.header (runFirst p.header k)
    if pCount p.header = 0 || i = 15 then s.lsnDefault n else (lsetWords (nth p.lsets i [])).map aClean

/-- The listen set of slot k applies to the listeners of slice n. -/
def State.lsnApply (s : State) (n : Fin 4) (ws : List Nat) : State :=
  fin48.foldl (fun (s : State) (k : Fin 48) => s.assign n k (nth ws k 0)) s

/-- Positions of the mapper bank that no assignment in force covers (R111). -/
def uncovered (bank : Nat) (ws : List Nat) : List Nat :=
  (List.range 32).filter (fun c => !(ws.any (fun w => aMode w == 1 && aBank w == bank && aChan w == c)))

/-- What IDLE listener j surveys in the slot of linear count l: a position of u, or none (R111). -/
def surveyOf (u : List Nat) (j l : Nat) : Option Nat :=
  if j < u.length then some (nth u ((j + l) % u.length) 0) else none

/-- Listener k surveys a position, or none. -/
def State.putSurvey (s : State) (n : Fin 4) (k : Fin 48) (v : Option Nat) : State :=
  if s.slices[n].lsn[k].survey = v then s
  else s.modLsn n k (fun l => { l with survey := v, since := if s.lsnState n k = 0 then s.now else l.since })

/-- The surveys of the slot (R111). -/
def State.surveys (s : State) (n : Fin 4) (ws : List Nat) : State :=
  let u := match s.mapBank n with
    | some b => if s.ob (Obj.SLCn_SURVEY n) then uncovered b ws else []
    | none => []
  let idle := fin48.filter (fun k => s.lsnState n k == 0)
  let s := fin48.foldl (fun (s : State) (k : Fin 48) => if s.lsnState n k = 0 then s else s.putSurvey n k none) s
  (List.zip (List.range idle.length) idle).foldl
    (fun (s : State) x => s.putSurvey n x.2 (surveyOf u x.1 (s.now / slotT))) s

/-- The slot counts as QUIET for a pending calibration (R62, R162). -/
def State.calSlot (s : State) (n : Fin 4) : Bool :=
  let st := s.o (Obj.SLCn_LC_STATE n)
  st == 1 || st == 2 || s.quietSlot n (slotOf s.now)

/-- A calibration that the slot starts: one pending in a QUIET slot, or one retried (R61, R62). -/
def State.calStart (s : State) (n : Fin 4) : State :=
  if s.syn n = 1 then (if s.slices[n].calAgain then s.beginCal n else s)
  else if 2 ≤ s.syn n && s.o (Obj.SLCn_CAL_PENDING n) ≠ 0 && s.calSlot n then s.beginCal n
  else s

/-- The temperature of slice n in eighths of a °C: a move of 8 °C or more from the last calibration raises a request (R58, R62,
R530). -/
def State.slotTemp (s : State) (n : Fin 4) (t : Int) : State :=
  let was := s.tempMoved n
  let s := s.setI 16 (Obj.SLCn_TEMP n) t
  let s := s.setI 16 (Obj.SLCn_TEMP_MAX n) (max (s.oi 16 (Obj.SLCn_TEMP_MAX n)) (s.oi 16 (Obj.SLCn_TEMP n)))
  if !was && s.tempMoved n then s.calRequest n 1 else s

/-- Slice n at the slot boundary of this instant. -/
def State.slotSlice (s : State) (n : Fin 4) (t : Int) : State :=
  if s.slices[n].gated then s
  else
    let s := s.slotTemp n t
    if s.o (Obj.SLCn_LC_STATE n) = 0 then s
    else
      let ws := s.lsnSet n (slotOf s.now)
      ((((s.capAdvance n).calStart n).tunerTake n).lsnApply n ws).surveys n ws

/-- The slot whose boundary comes next. -/
def State.nextSlot (s : State) : Nat := max s.time.slotMark (boundaryAt slotT s.now / slotT)

/-- SLOT_BOUNDARY (R31, R58, R102, R111, R297, R551): with the readings of VIN, V5, the hottest sensor, the slack of the slot
that ended and the four slices. None in HIBERNATE. -/
def execSlotBoundary (vin v5 : Nat) (tj : Int) (slack : Nat) (temps : List Int) (s : State) : Out :=
  if s.pwr = 4 then .next s
  else
    let k := s.nextSlot
    let s := s.upTo (k * slotT)
    let s := (State.tcSlot { s with time := { s.time with slotMark := k + 1 } }).slewSlot
    let s := fin4.foldl (fun (s : State) (n : Fin 4) => s.slotSlice n (nth temps n 0)) s
    .next ((s.slotMonitors vin v5 tj slack).holdSlot)

/-! ## FALLBACK_STALL (R40) -/

/-- FALLBACK_STALL (R40). -/
def execFallbackStall (n : Fin 4) (s : State) : Out :=
  if s.slices[n].stallDue then
    .next ((s.modSlice n (fun x => { x with stallDue := false })).raise 0x101 n s.slices[n].fbRun)
  else .next s

end Sys2Proof.Machine
end

