-- ==== Sys2Proof/Machine/Dispatch.lean ====
section
/-!
DEFINITION. One arm per command: a direct call of its meaning.
-/
namespace Sys2Proof.Machine

/-- What a command does to everything but the queue. -/
def exec (i : Instr) (s : State) : Host.Outcome State Fault Refusal :=
  match i with
  | .tickBoundary age => Sys2Proof.Machine.execTickBoundary age s
  | .slotBoundary vin v5 tj slack temps => Sys2Proof.Machine.execSlotBoundary vin v5 tj slack temps s
  | .missCounterClear who slice cls v => Sys2Proof.Machine.execMissCounterClear who slice cls v s
  | .wideReadLowLatch who k => Sys2Proof.Machine.execWideReadLowLatch who k s
  | .wideWriteLow who k v => Sys2Proof.Machine.execWideWriteLow who k v s
  | .wideWriteHigh who k v => Sys2Proof.Machine.execWideWriteHigh who k v s
  | .fallbackStall n => Sys2Proof.Machine.execFallbackStall n s
  | .counterSourceEvent n => Sys2Proof.Machine.execCounterSourceEvent n s
  | .counterCapture n => Sys2Proof.Machine.execCounterCapture n s
  | .tcRun who n run => Sys2Proof.Machine.execTcRun who n run s
  | .tcClear who n => Sys2Proof.Machine.execTcClear who n s
  | .tcSwcap who n => Sys2Proof.Machine.execTcSwcap who n s
  | .tcCountWrite who n v => Sys2Proof.Machine.execTcCountWrite who n v s
  | .tcCountRead n => Sys2Proof.Machine.execTcCountRead n s
  | .tcCapRead n capture => Sys2Proof.Machine.execTcCapRead n capture s
  | .tcFlagsClear n v => Sys2Proof.Machine.execTcFlagsClear n v s
  | .panelDebounceExpiry k => Sys2Proof.Machine.execPanelDebounceExpiry k s
  | .panelHoldExpiry k => Sys2Proof.Machine.execPanelHoldExpiry k s
  | .touchScanStart k => Sys2Proof.Machine.execTouchScanStart k s
  | .touchMeasurementDone k cap => Sys2Proof.Machine.execTouchMeasurementDone k cap s
  | .touchFault k => Sys2Proof.Machine.execTouchFault k s
  | .synCmdCalibrate n => Sys2Proof.Machine.execSynCmdCalibrate n s
  | .calForced n => Sys2Proof.Machine.execCalForced n s
  | .synthCalDone n lock => Sys2Proof.Machine.execSynthCalDone n lock s
  | .synthSettleDone n => Sys2Proof.Machine.execSynthSettleDone n s
  | .synthSettleTimeout n => Sys2Proof.Machine.execSynthSettleTimeout n s
  | .unlock n => Sys2Proof.Machine.execUnlock n s
  | .entryPrepare n => Sys2Proof.Machine.execEntryPrepare n s
  | .txRampStart n => Sys2Proof.Machine.execTxRampStart n s
  | .txStartDeadline n => Sys2Proof.Machine.execTxStartDeadline n s
  | .txEnd n => Sys2Proof.Machine.execTxEnd n s
  | .txPaOff n rl fwd => Sys2Proof.Machine.execTxPaOff n rl fwd s
  | .blankingEnd n => Sys2Proof.Machine.execBlankingEnd n s
  | .aerialSwitchSettled n => Sys2Proof.Machine.execAerialSwitchSettled n s
  | .probe n p rl => Sys2Proof.Machine.execProbe n p rl s
  | .tunerSearch n rls => Sys2Proof.Machine.execTunerSearch n rls s
  | .gainStepDown n => Sys2Proof.Machine.execGainStepDown n s
  | .gainWindowEnd n rms => Sys2Proof.Machine.execGainWindowEnd n rms s
  | .gainForcedUp n => Sys2Proof.Machine.execGainForcedUp n s
  | .preambleDetected n k first => Sys2Proof.Machine.execPreambleDetected n k first s
  | .aerialDecision n k ea eb => Sys2Proof.Machine.execAerialDecision n k ea eb s
  | .qualifier n k h => Sys2Proof.Machine.execQualifier n k h s
  | .syncTimeout n k => Sys2Proof.Machine.execSyncTimeout n k s
  | .mapResolve n k addr check => Sys2Proof.Machine.execMapResolve n k addr check s
  | .frameLastSample n k endAt => Sys2Proof.Machine.execFrameLastSample n k endAt s
  | .drainDone n k raw m sc => Sys2Proof.Machine.execDrainDone n k raw m sc s
  | .gridOutputsValid n bank => Sys2Proof.Machine.execGridOutputsValid n bank s
  | .mapperBlockAdmit n chan start p => Sys2Proof.Machine.execMapperBlockAdmit n chan start p s
  | .captureArm who n => Sys2Proof.Machine.execCaptureArm who n s
  | .captureTriggerNow n => Sys2Proof.Machine.execCaptureTriggerNow n s
  | .captureStop n data => Sys2Proof.Machine.execCaptureStop n data s
  | .captureAtExpiry n => Sys2Proof.Machine.execCaptureAtExpiry n s
  | .captureDone n data => Sys2Proof.Machine.execCaptureDone n data s
  | .captureOverrun n data => Sys2Proof.Machine.execCaptureOverrun n data s
  | .fpCommit who n addr => Sys2Proof.Machine.execFpCommit who n addr s
  | .fpCheckDone n => Sys2Proof.Machine.execFpCheckDone n s
  | .commitDeadline n => Sys2Proof.Machine.execCommitDeadline n s
  | .withdraw who n => Sys2Proof.Machine.execWithdraw who n s
  | .stop who n => Sys2Proof.Machine.execStop who n s
  | .park who n => Sys2Proof.Machine.execPark who n s
  | .uplinkWindowClose n => Sys2Proof.Machine.execUplinkWindowClose n s
  | .ackVerdictCutoff n => Sys2Proof.Machine.execAckVerdictCutoff n s
  | .ccaAssess n pw => Sys2Proof.Machine.execCcaAssess n pw s
  | .airtimeBinTurnover => Sys2Proof.Machine.execAirtimeBinTurnover s
  | .micVerifyDone n slot => Sys2Proof.Machine.execMicVerifyDone n slot s
  | .seqJudge => Sys2Proof.Machine.execSeqJudge s
  | .coldLookupDone n slot => Sys2Proof.Machine.execColdLookupDone n slot s
  | .rxqPublish n => Sys2Proof.Machine.execRxqPublish n s
  | .rxqConsWrite who n v => Sys2Proof.Machine.execRxqConsWrite who n v s
  | .hotPin who h => Sys2Proof.Machine.execHotPin who h s
  | .hotUnpin who h => Sys2Proof.Machine.execHotUnpin who h s
  | .cipherSchedBlock tag sf drift tsync => Sys2Proof.Machine.execCipherSchedBlock tag sf drift tsync s
  | .reportMapInstall addr map => Sys2Proof.Machine.execReportMapInstall addr map s
  | .mapCompute n addr q => Sys2Proof.Machine.execMapCompute n addr q s
  | .floodTake => Sys2Proof.Machine.execFloodTake s
  | .floodWiredSend p => Sys2Proof.Machine.execFloodWiredSend p s
  | .floodWiredDeadline t p => Sys2Proof.Machine.execFloodWiredDeadline t p s
  | .floodJitterEnd t => Sys2Proof.Machine.execFloodJitterEnd t s
  | .relayBind who n ix => Sys2Proof.Machine.execRelayBind who n ix s
  | .relayDeadline n ix => Sys2Proof.Machine.execRelayDeadline n ix s
  | .relayBoundSettle n ix => Sys2Proof.Machine.execRelayBoundSettle n ix s
  | .fldDqConsWrite who v => Sys2Proof.Machine.execFldDqConsWrite who v s
  | .helloSend p => Sys2Proof.Machine.execHelloSend p s
  | .fabricDatagramRx p hop sumOk payload => Sys2Proof.Machine.execFabricDatagramRx p hop sumOk payload s
  | .helloRx p => Sys2Proof.Machine.execHelloRx p s
  | .peerLost p => Sys2Proof.Machine.execPeerLost p s
  | .radioNeighbourUpdate n ix => Sys2Proof.Machine.execRadioNeighbourUpdate n ix s
  | .addrListenEnd => Sys2Proof.Machine.execAddrListenEnd s
  | .addrClaimWaitEnd => Sys2Proof.Machine.execAddrClaimWaitEnd s
  | .claimRx ix => Sys2Proof.Machine.execClaimRx ix s
  | .conflictOriginate => Sys2Proof.Machine.execConflictOriginate s
  | .conflictWaitEnd => Sys2Proof.Machine.execConflictWaitEnd s
  | .lsaOriginate => Sys2Proof.Machine.execLsaOriginate s
  | .lsdbUpdate ix => Sys2Proof.Machine.execLsdbUpdate ix s
  | .lsdbRecordExpire a => Sys2Proof.Machine.execLsdbRecordExpire a s
  | .spfRun => Sys2Proof.Machine.execSpfRun s
  | .fabTrailCommit who v => Sys2Proof.Machine.execFabTrailCommit who v s
  | .unicastTake => Sys2Proof.Machine.execUnicastTake s
  | .unicastWiredSend p => Sys2Proof.Machine.execUnicastWiredSend p s
  | .forwardBind who n ix => Sys2Proof.Machine.execForwardBind who n ix s
  | .forwardDeadline n ix => Sys2Proof.Machine.execForwardDeadline n ix s
  | .forwardBoundSettle n ix => Sys2Proof.Machine.execForwardBoundSettle n ix s
  | .fabUqConsWrite who v => Sys2Proof.Machine.execFabUqConsWrite who v s
  | .timeReqSend p => Sys2Proof.Machine.execTimeReqSend p s
  | .timeReqRx p => Sys2Proof.Machine.execTimeReqRx p s
  | .timeRspSend p => Sys2Proof.Machine.execTimeRspSend p s
  | .timeRspRx p => Sys2Proof.Machine.execTimeRspRx p s
  | .timeExchangeMiss p => Sys2Proof.Machine.execTimeExchangeMiss p s
  | .beaconTimeMeasure n ix => Sys2Proof.Machine.execBeaconTimeMeasure n ix s
  | .timingSuperframeCheck => Sys2Proof.Machine.execTimingSuperframeCheck s
  | .parentSwitch => Sys2Proof.Machine.execParentSwitch s
  | .referenceTake => Sys2Proof.Machine.execReferenceTake s
  | .fabTimeSet who v => Sys2Proof.Machine.execFabTimeSet who v s
  | .rosterCheck => Sys2Proof.Machine.execRosterCheck s
  | .rosterRx ix => Sys2Proof.Machine.execRosterRx ix s
  | .rosterAdopt => Sys2Proof.Machine.execRosterAdopt s
  | .handoverRx ix => Sys2Proof.Machine.execHandoverRx ix s
  | .handoverTimeout shard q => Sys2Proof.Machine.execHandoverTimeout shard q s
  | .tagfwdSend n ix => Sys2Proof.Machine.execTagfwdSend n ix s
  | .tagfwdRx ix => Sys2Proof.Machine.execTagfwdRx ix s
  | .pressCount => Sys2Proof.Machine.execPressCount s
  | .rollupSend => Sys2Proof.Machine.execRollupSend s
  | .rollupRx ix => Sys2Proof.Machine.execRollupRx ix s
  | .hcReport => Sys2Proof.Machine.execHcReport s
  | .qOpen who q => Sys2Proof.Machine.execQOpen who q s
  | .qCancel who q => Sys2Proof.Machine.execQCancel who q s
  | .questionReflood => Sys2Proof.Machine.execQuestionReflood s
  | .questionRx ix => Sys2Proof.Machine.execQuestionRx ix s
  | .questionOpenAt q => Sys2Proof.Machine.execQuestionOpenAt q s
  | .questionCloseAt q => Sys2Proof.Machine.execQuestionCloseAt q s
  | .questionFinal q => Sys2Proof.Machine.execQuestionFinal q s
  | .ltnSend who => Sys2Proof.Machine.execLtnSend who s
  | .cueRx ix => Sys2Proof.Machine.execCueRx ix s
  | .cueFire => Sys2Proof.Machine.execCueFire s
  | .hmpStart who => Sys2Proof.Machine.execHmpStart who s
  | .hmpStop who => Sys2Proof.Machine.execHmpStop who s
  | .catalogReflood => Sys2Proof.Machine.execCatalogReflood s
  | .pieceSeed => Sys2Proof.Machine.execPieceSeed s
  | .pieceRx flood ix => Sys2Proof.Machine.execPieceRx flood ix s
  | .pieceReqSend => Sys2Proof.Machine.execPieceReqSend s
  | .pieceReqRx ix => Sys2Proof.Machine.execPieceReqRx ix s
  | .tagPieceSend tag k => Sys2Proof.Machine.execTagPieceSend tag k s
  | .homeDecide tag fcnt => Sys2Proof.Machine.execHomeDecide tag fcnt s
  | .homeRx ix => Sys2Proof.Machine.execHomeRx ix s
  | .homeLapse tag => Sys2Proof.Machine.execHomeLapse tag s
  | .bskUpRx ix => Sys2Proof.Machine.execBskUpRx ix s
  | .bskRecordSend => Sys2Proof.Machine.execBskRecordSend s
  | .bskAckedWrite who v => Sys2Proof.Machine.execBskAckedWrite who v s
  | .bskStatusSend => Sys2Proof.Machine.execBskStatusSend s
  | .bskDnSend who => Sys2Proof.Machine.execBskDnSend who s
  | .bskDownRx page ix => Sys2Proof.Machine.execBskDownRx page ix s
  | .bskDownTx req fcnt => Sys2Proof.Machine.execBskDownTx req fcnt s
  | .dnAckRx n ix => Sys2Proof.Machine.execDnAckRx n ix s
  | .bskDnExpire req => Sys2Proof.Machine.execBskDnExpire req s
  | .shlGenerate who => Sys2Proof.Machine.execShlGenerate who s
  | .shlImport who => Sys2Proof.Machine.execShlImport who s
  | .shlExport who => Sys2Proof.Machine.execShlExport who s
  | .shlAgree who => Sys2Proof.Machine.execShlAgree who s
  | .shlDerive who => Sys2Proof.Machine.execShlDerive who s
  | .shlErase who => Sys2Proof.Machine.execShlErase who s
  | .shlRestrict who => Sys2Proof.Machine.execShlRestrict who s
  | .shlCtrSync who => Sys2Proof.Machine.execShlCtrSync who s
  | .shlPermit who => Sys2Proof.Machine.execShlPermit who s
  | .shlAttest who => Sys2Proof.Machine.execShlAttest who s
  | .shlPubkey who => Sys2Proof.Machine.execShlPubkey who s
  | .shlSign who => Sys2Proof.Machine.execShlSign who s
  | .shlVerify who => Sys2Proof.Machine.execShlVerify who s
  | .shlSetOwner who => Sys2Proof.Machine.execShlSetOwner who s
  | .shellCmd => Sys2Proof.Machine.execShellCmd s
  | .shellReady => Sys2Proof.Machine.execShellReady s
  | .drbgReseed => Sys2Proof.Machine.execDrbgReseed s
  | .rngFail => Sys2Proof.Machine.execRngFail s
  | .rngRecover windows => Sys2Proof.Machine.execRngRecover windows s
  | .alarmSourceDetect src stopped => Sys2Proof.Machine.execAlarmSourceDetect src stopped s
  | .alarmLatch src => Sys2Proof.Machine.execAlarmLatch src s
  | .keyBusClose cuts => Sys2Proof.Machine.execKeyBusClose cuts s
  | .slotZeroise => Sys2Proof.Machine.execSlotZeroise s
  | .fusePurge => Sys2Proof.Machine.execFusePurge s
  | .measExtend who ix v => Sys2Proof.Machine.execMeasExtend who ix v s
  | .debugChallenge => Sys2Proof.Machine.execDebugChallenge s
  | .debugResponse b => Sys2Proof.Machine.execDebugResponse b s
  | .debugUnlockEnd => Sys2Proof.Machine.execDebugUnlockEnd s
  | .jobCopy who a => Sys2Proof.Machine.execJobCopy who a s
  | .jobFill who a => Sys2Proof.Machine.execJobFill who a s
  | .jobCipher who a => Sys2Proof.Machine.execJobCipher who a s
  | .jobHash who a => Sys2Proof.Machine.execJobHash who a s
  | .jobCrcFeed who a => Sys2Proof.Machine.execJobCrcFeed who a s
  | .jobCrcAppend who a => Sys2Proof.Machine.execJobCrcAppend who a s
  | .jobCrcStrip who a => Sys2Proof.Machine.execJobCrcStrip who a s
  | .jobFlood who a => Sys2Proof.Machine.execJobFlood who a s
  | .jobSend who a => Sys2Proof.Machine.execJobSend who a s
  | .jobStart => Sys2Proof.Machine.execJobStart s
  | .jobEnd t units begun lines => Sys2Proof.Machine.execJobEnd t units begun lines s
  | .jobDeadline t => Sys2Proof.Machine.execJobDeadline t s
  | .jobRecovery => Sys2Proof.Machine.execJobRecovery s
  | .jobLedConsWrite who v => Sys2Proof.Machine.execJobLedConsWrite who v s
  | .snapshotPublish => Sys2Proof.Machine.execSnapshotPublish s
  | .poolFree who p c => Sys2Proof.Machine.execPoolFree who p c s
  | .crcDataFeed who u width v => Sys2Proof.Machine.execCrcDataFeed who u width v s
  | .crcStart who u => Sys2Proof.Machine.execCrcStart who u s
  | .crcFlagsClear u v => Sys2Proof.Machine.execCrcFlagsClear u v s
  | .nop c => Sys2Proof.Machine.execNop c s
  | .dup c => Sys2Proof.Machine.execDup c s
  | .drop c => Sys2Proof.Machine.execDrop c s
  | .swap c => Sys2Proof.Machine.execSwap c s
  | .overElem c => Sys2Proof.Machine.execOverElem c s
  | .rot c => Sys2Proof.Machine.execRot c s
  | .nip c => Sys2Proof.Machine.execNip c s
  | .pick c => Sys2Proof.Machine.execPick c s
  | .depth c => Sys2Proof.Machine.execDepth c s
  | .tor c => Sys2Proof.Machine.execTor c s
  | .fromr c => Sys2Proof.Machine.execFromr c s
  | .rfetch c => Sys2Proof.Machine.execRfetch c s
  | .lit8 c ix => Sys2Proof.Machine.execLit8 c ix s
  | .lit16 c ix => Sys2Proof.Machine.execLit16 c ix s
  | .lit32 c ix => Sys2Proof.Machine.execLit32 c ix s
  | .litn c n => Sys2Proof.Machine.execLitn c n s
  | .add c => Sys2Proof.Machine.execAdd c s
  | .sub c => Sys2Proof.Machine.execSub c s
  | .neg c => Sys2Proof.Machine.execNeg c s
  | .mul c => Sys2Proof.Machine.execMul c s
  | .mull c => Sys2Proof.Machine.execMull c s
  | .mullu c => Sys2Proof.Machine.execMullu c s
  | .divs c => Sys2Proof.Machine.execDivs c s
  | .divu c => Sys2Proof.Machine.execDivu c s
  | .and c => Sys2Proof.Machine.execAnd c s
  | .or c => Sys2Proof.Machine.execOr c s
  | .xor c => Sys2Proof.Machine.execXor c s
  | .not c => Sys2Proof.Machine.execNot c s
  | .shl c => Sys2Proof.Machine.execShl c s
  | .shr c => Sys2Proof.Machine.execShr c s
  | .sar c => Sys2Proof.Machine.execSar c s
  | .rol c => Sys2Proof.Machine.execRol c s
  | .ror c => Sys2Proof.Machine.execRor c s
  | .eq c => Sys2Proof.Machine.execEq c s
  | .ne c => Sys2Proof.Machine.execNe c s
  | .lt c => Sys2Proof.Machine.execLt c s
  | .ltu c => Sys2Proof.Machine.execLtu c s
  | .gt c => Sys2Proof.Machine.execGt c s
  | .gtu c => Sys2Proof.Machine.execGtu c s
  | .eqz c => Sys2Proof.Machine.execEqz c s
  | .ldw c cb => Sys2Proof.Machine.execLdw c cb s
  | .ldh c cb => Sys2Proof.Machine.execLdh c cb s
  | .ldhs c cb => Sys2Proof.Machine.execLdhs c cb s
  | .ldb c cb => Sys2Proof.Machine.execLdb c cb s
  | .ldbs c cb => Sys2Proof.Machine.execLdbs c cb s
  | .stw c => Sys2Proof.Machine.execStw c s
  | .sth c => Sys2Proof.Machine.execSth c s
  | .stb c => Sys2Proof.Machine.execStb c s
  | .ldd c cb0 cb1 => Sys2Proof.Machine.execLdd c cb0 cb1 s
  | .std c => Sys2Proof.Machine.execStd c s
  | .swp c => Sys2Proof.Machine.execSwp c s
  | .cas c => Sys2Proof.Machine.execCas c s
  | .jmp c off => Sys2Proof.Machine.execJmp c off s
  | .jz c off => Sys2Proof.Machine.execJz c off s
  | .jnz c off => Sys2Proof.Machine.execJnz c off s
  | .call c off => Sys2Proof.Machine.execCall c off s
  | .jmp8 c off => Sys2Proof.Machine.execJmp8 c off s
  | .jz8 c off => Sys2Proof.Machine.execJz8 c off s
  | .jnz8 c off => Sys2Proof.Machine.execJnz8 c off s
  | .ret c => Sys2Proof.Machine.execRet c s
  | .jmpi c => Sys2Proof.Machine.execJmpi c s
  | .calli c => Sys2Proof.Machine.execCalli c s
  | .trap c n => Sys2Proof.Machine.execTrap c n s
  | .rett c => Sys2Proof.Machine.execRett c s
  | .wait c => Sys2Proof.Machine.execWait c s
  | .evget c => Sys2Proof.Machine.execEvget c s
  | .evpost c => Sys2Proof.Machine.execEvpost c s
  | .rdsr c n => Sys2Proof.Machine.execRdsr c n s
  | .wrsr c n => Sys2Proof.Machine.execWrsr c n s
  | .brk c => Sys2Proof.Machine.execBrk c s
  | .xldw c cb => Sys2Proof.Machine.execXldw c cb s
  | .xstw c => Sys2Proof.Machine.execXstw c s
  | .grow c => Sys2Proof.Machine.execGrow c s
  | .eventArrive c code src arg => Sys2Proof.Machine.execEventArrive c code src arg s
  | .corRestart who c => Sys2Proof.Machine.execCorRestart who c s
  | .corHold who c => Sys2Proof.Machine.execCorHold who c s
  | .corRelease who v => Sys2Proof.Machine.execCorRelease who v s
  | .dramRequest c arrived => Sys2Proof.Machine.execDramRequest c arrived s
  | .scrubRead fill err => Sys2Proof.Machine.execScrubRead fill err s
  | .dramInit => Sys2Proof.Machine.execDramInit s
  | .dramReady => Sys2Proof.Machine.execDramReady s
  | .dramPanic n level waited => Sys2Proof.Machine.execDramPanic n level waited s
  | .rhVictimRefresh => Sys2Proof.Machine.execRhVictimRefresh s
  | .rhWindowStart => Sys2Proof.Machine.execRhWindowStart s
  | .dramRefresh c bank base => Sys2Proof.Machine.execDramRefresh c bank base s
  | .dramRetrainPause eye temp0 temp1 => Sys2Proof.Machine.execDramRetrainPause eye temp0 temp1 s
  | .dramFenceCheck => Sys2Proof.Machine.execDramFenceCheck s
  | .dramFenced c => Sys2Proof.Machine.execDramFenced c s
  | .drmRtnMaxlevelReset who n v => Sys2Proof.Machine.execDrmRtnMaxlevelReset who n v s
  | .flProgram c => Sys2Proof.Machine.execFlProgram c s
  | .flErase c => Sys2Proof.Machine.execFlErase c s
  | .flRelocate c => Sys2Proof.Machine.execFlRelocate c s
  | .flCtrword c => Sys2Proof.Machine.execFlCtrword c s
  | .flBlank c => Sys2Proof.Machine.execFlBlank c s
  | .flReadchk c cbs => Sys2Proof.Machine.execFlReadchk c cbs s
  | .flSector c => Sys2Proof.Machine.execFlSector c s
  | .flashPageProgram t pulses => Sys2Proof.Machine.execFlashPageProgram t pulses s
  | .flashMappingRecord t q => Sys2Proof.Machine.execFlashMappingRecord t q s
  | .backgroundErase b => Sys2Proof.Machine.execBackgroundErase b s
  | .backgroundEraseDone b => Sys2Proof.Machine.execBackgroundEraseDone b s
  | .flashReadSuspend b => Sys2Proof.Machine.execFlashReadSuspend b s
  | .flashResume b => Sys2Proof.Machine.execFlashResume b s
  | .flsLockWrite who v rom => Sys2Proof.Machine.execFlsLockWrite who v rom s
  | .flsIndetAck who v => Sys2Proof.Machine.execFlsIndetAck who v s
  | .ethFrameRx p frame fcsOk => Sys2Proof.Machine.execEthFrameRx p frame fcsOk s
  | .neighborSolicitationRx p => Sys2Proof.Machine.execNeighborSolicitationRx p s
  | .echoRequestRx p => Sys2Proof.Machine.execEchoRequestRx p s
  | .linkUp p level sqi reversed => Sys2Proof.Machine.execLinkUp p level sqi reversed s
  | .linkDown p => Sys2Proof.Machine.execLinkDown p s
  | .hspiStatus ready => Sys2Proof.Machine.execHspiStatus ready s
  | .hspiWrite data crc cut ready => Sys2Proof.Machine.execHspiWrite data crc cut ready s
  | .hspiRead cut => Sys2Proof.Machine.execHspiRead cut s
  | .hspiDbgWrite data crc cut ready => Sys2Proof.Machine.execHspiDbgWrite data crc cut ready s
  | .hspiDbgRead cut => Sys2Proof.Machine.execHspiDbgRead cut s
  | .memRead => Sys2Proof.Machine.execMemRead s
  | .memWrite => Sys2Proof.Machine.execMemWrite s
  | .step => Sys2Proof.Machine.execStep s
  | .openReq => Sys2Proof.Machine.execOpenReq s
  | .openFin => Sys2Proof.Machine.execOpenFin s
  | .sessionOpenTimeout x => Sys2Proof.Machine.execSessionOpenTimeout x s
  | .securedRx => Sys2Proof.Machine.execSecuredRx s
  | .read => Sys2Proof.Machine.execRead s
  | .write => Sys2Proof.Machine.execWrite s
  | .blockRead => Sys2Proof.Machine.execBlockRead s
  | .blockWrite => Sys2Proof.Machine.execBlockWrite s
  | .commit => Sys2Proof.Machine.execCommit s
  | .subscribe => Sys2Proof.Machine.execSubscribe s
  | .unsubscribe => Sys2Proof.Machine.execUnsubscribe s
  | .close => Sys2Proof.Machine.execClose s
  | .ping => Sys2Proof.Machine.execPing s
  | .notify => Sys2Proof.Machine.execNotify s
  | .sessionIdleTimeout x => Sys2Proof.Machine.execSessionIdleTimeout x s
  | .comSsClose x => Sys2Proof.Machine.execComSsClose x s
  | .comHndDone who slot => Sys2Proof.Machine.execComHndDone who slot s
  | .handlerTimeout => Sys2Proof.Machine.execHandlerTimeout s
  | .stageWrite who k v b => Sys2Proof.Machine.execStageWrite who k v b s
  | .comCommit who v => Sys2Proof.Machine.execComCommit who v s
  | .comDomSel who v => Sys2Proof.Machine.execComDomSel who v s
  | .comDomLen who v => Sys2Proof.Machine.execComDomLen who v s
  | .comDomDataWrite who v => Sys2Proof.Machine.execComDomDataWrite who v s
  | .comDomDataRead who => Sys2Proof.Machine.execComDomDataRead who s
  | .comFwVal who v => Sys2Proof.Machine.execComFwVal who v s
  | .registerWrite who k v b => Sys2Proof.Machine.execRegisterWrite who k v b s
  | .evtPost who b => Sys2Proof.Machine.execEvtPost who b s
  | .evtLogClear who v => Sys2Proof.Machine.execEvtLogClear who v s
  | .evtRouteReset who v => Sys2Proof.Machine.execEvtRouteReset who v s
  | .evtDropClear who v => Sys2Proof.Machine.execEvtDropClear who v s
  | .gpioEdge p level => Sys2Proof.Machine.execGpioEdge p level s
  | .gioSet who v => Sys2Proof.Machine.execGioSet who v s
  | .gioClr who v => Sys2Proof.Machine.execGioClr who v s
  | .gioToggle who v => Sys2Proof.Machine.execGioToggle who v s
  | .gioAtWrite who p v => Sys2Proof.Machine.execGioAtWrite who p v s
  | .gpioTimedDrive p => Sys2Proof.Machine.execGpioTimedDrive p s
  | .buckStart vin => Sys2Proof.Machine.execBuckStart vin s
  | .powerUpSequence => Sys2Proof.Machine.execPowerUpSequence s
  | .pgGood resetN => Sys2Proof.Machine.execPgGood resetN s
  | .powerFail cause vin => Sys2Proof.Machine.execPowerFail cause vin s
  | .buckStop => Sys2Proof.Machine.execBuckStop s
  | .railFault rail => Sys2Proof.Machine.execRailFault rail s
  | .railFaultRestart => Sys2Proof.Machine.execRailFaultRestart s
  | .thermalShutdown => Sys2Proof.Machine.execThermalShutdown s
  | .thermalRestart => Sys2Proof.Machine.execThermalRestart s
  | .sccp vin ok => Sys2Proof.Machine.execSccp vin ok s
  | .sccpClassWrite who v => Sys2Proof.Machine.execSccpClassWrite who v s
  | .pstate => Sys2Proof.Machine.execPstate s
  | .dozeEntry => Sys2Proof.Machine.execDozeEntry s
  | .hibernateEntry => Sys2Proof.Machine.execHibernateEntry s
  | .wakeSource c => Sys2Proof.Machine.execWakeSource c s
  | .dozeWake => Sys2Proof.Machine.execDozeWake s
  | .hibernateWake cycles => Sys2Proof.Machine.execHibernateWake cycles s
  | .pwrTableWrite who b => Sys2Proof.Machine.execPwrTableWrite who b s
  | .marginGuard => Sys2Proof.Machine.execMarginGuard s
  | .pwrCpsSurveyCmd who v => Sys2Proof.Machine.execPwrCpsSurveyCmd who v s
  | .compassSurvey => Sys2Proof.Machine.execCompassSurvey s
  | .compassPlan lines => Sys2Proof.Machine.execCompassPlan lines s
  | .vcoreLowerStep => Sys2Proof.Machine.execVcoreLowerStep s
  | .pinReset width => Sys2Proof.Machine.execPinReset width s
  | .corResetCmd who v => Sys2Proof.Machine.execCorResetCmd who v s
  | .romBoot mode time => Sys2Proof.Machine.execRomBoot mode time s
  | .baseFirmwareStart => Sys2Proof.Machine.execBaseFirmwareStart s
  | .recStatus => Sys2Proof.Machine.execRecStatus s
  | .recWrite off data crc => Sys2Proof.Machine.execRecWrite off data crc s
  | .recDone total time => Sys2Proof.Machine.execRecDone total time s
  | .imCheck c => Sys2Proof.Machine.execImCheck c s
  | .imSwitchRoll c => Sys2Proof.Machine.execImSwitchRoll c s
  | .imSwitchReset c => Sys2Proof.Machine.execImSwitchReset c s
  | .imConfirm c => Sys2Proof.Machine.execImConfirm c s
  | .imAbandon c => Sys2Proof.Machine.execImAbandon c s
  | .updPieceWrite x b => Sys2Proof.Machine.execUpdPieceWrite x b s
  | .bundleComplete => Sys2Proof.Machine.execBundleComplete s
  | .updActAtWrite x v => Sys2Proof.Machine.execUpdActAtWrite x v s
  | .updCheck x => Sys2Proof.Machine.execUpdCheck x s
  | .updCancel x => Sys2Proof.Machine.execUpdCancel x s
  | .updAbandon x => Sys2Proof.Machine.execUpdAbandon x s
  | .updClear x => Sys2Proof.Machine.execUpdClear x s
  | .updateActivate => Sys2Proof.Machine.execUpdateActivate s
  | .rollStep soft => Sys2Proof.Machine.execRollStep soft s
  | .healthCheck => Sys2Proof.Machine.execHealthCheck s
  | .healthDeadline => Sys2Proof.Machine.execHealthDeadline s
  | .sampleClockLockLost n => Sys2Proof.Machine.execSampleClockLockLost n s
  | .sampleClockLockReturn n => Sys2Proof.Machine.execSampleClockLockReturn n s
  | .xo32kStart => Sys2Proof.Machine.execXo32kStart s
  | .buckRestart vin => Sys2Proof.Machine.execBuckRestart vin s
  | .reservedOpcode c => Sys2Proof.Machine.execReservedOpcode c s
  | .vcoreRampDone => Sys2Proof.Machine.execVcoreRampDone s

end Sys2Proof.Machine
end

