-- ==== Sys2Proof/Safety.lean ====
section
/-!
DEFINITION. What claims call a good state and a safe run.
-/
namespace Sys2Proof.Machine

/-- Memory and both object stores stand in their canonical form (log 6, log 7). -/
def State.canonical (s : State) : Bool :=
  Memory.wf s.mem && Sparse.wf objDefault s.objs && Sparse.wf blobDefault s.blobs

/-- A run of n steps ends in a next state. -/
def State.runs (s : State) : Nat → Bool
  | 0 => true
  | n + 1 => match step s with
    | .next s' => State.runs s' n
    | _ => false

/-- Core c runs and can execute an instruction of `len` bytes at its pc that takes din and rin elements of its stacks and leaves
dout and rout: the fetch, the code and both stacks raise no trap (R400, R406, R409, R412, R421). -/
def State.ready (s : State) (c : Fin 8) (len din dout rin rout : Nat) : Bool :=
  s.cores[c].mode == .run && s.sysclk && (s.fetchTrap c len).isNone &&
  (s.cores[c].sprout || (!(s.held s.cores[c].pc.toNat len) && s.sound s.cores[c].pc.toNat len)) &&
  (s.cores[c].stackTrap din dout rin rout).isNone

/-- Core c can run ROM routine n, which takes din elements and leaves dout: it stands at the routine's entry in 32-bit mode, and its
stacks have the room that a routine may use (R467). -/
def State.callable (s : State) (c : Fin 8) (n din dout : Nat) : Bool :=
  s.atRoutine c n && s.ready c 1 din dout 1 0 && s.cores[c].roomy

/-- Core c retires an instruction: its inputs leave the stacks, its outputs enter them, and it goes on at an address. -/
def State.retired (s : State) (c : Fin 8) (din : Nat) (outs : List Nat) (rin : Nat) (routs : List Nat) (goto : Nat) : State :=
  ((s.dSwap c din outs).rSwap c rin routs).modCore c (fun x => { x with pc := BitVec.ofNat 32 goto })

/-- Key k names a hardware-backed object of the window, outside the Shell's reach, whose row has a property. -/
def objIs (k : Key) (f : ObjRow → Bool) : Bool :=
  !(firmwareBacked k) && k / 256 != 0x1804 &&
  (match objFind k with
   | some (x, _, _) => f x
   | none => false)

/-- Core c executes nothing that another core's stack could disturb at n bytes from a (R401). -/
def State.undisturbed (s : State) (c : Fin 8) (a n : Nat) : Bool := (List.range n).all (fun i => !(s.privateTo c (a + i)))

/-- n bytes from a of system SRAM, slice SRAM or DRAM that core c can load now: aligned, powered, without errors. -/
def State.loadable (s : State) (c : Fin 8) (a n : Nat) : Bool :=
  !(inWindow a) && !(flashPort a) && !(inFlash a n) && (s.loadTrap c a n).isNone && !(s.held a n) && s.sound a n &&
  s.undisturbed c a n

/-- n bytes from a that core c can store now. -/
def State.storable (s : State) (c : Fin 8) (a n : Nat) : Bool :=
  !(inWindow a) && !(flashPort a) && (s.storeTrap c a n).isNone && !(s.held a n) && s.powered a && s.undisturbed c a n

/-- The request in front of the SOP engine is this one, a type serves it, and its answer has room (R498, R515). -/
def State.offers (s : State) (w : Writer) (ty tag : Nat) (p : Bytes) (l : List SopReq) : Bool :=
  s.com.requests == ⟨w, ⟨ty, tag, p⟩⟩ :: l && (s.typeRefused ⟨w, ⟨ty, tag, p⟩⟩).isNone && !(s.debugFull w)

/-- The state once the request in front is taken: l waits on. -/
def State.served (s : State) (l : List SopReq) : State := s.modCom (fun c => { c with requests := l })

/-- The datagram in front of the SOP engine is this one of this kind, the engine takes it, and an OPEN_RSP would have room
(R511, R512). -/
def State.delivers (s : State) (kind : Nat) (m : SopIn) (l : List SopIn) : Bool :=
  s.com.inbox == m :: l && s.sopTakes m.data && fieldN m.data 1 1 == kind && (kind != 1 || s.sopRoom m.port)

/-- The state once the datagram m in front is taken: its cells are free again, and l waits on. -/
def State.received (s : State) (m : SopIn) (l : List SopIn) : State :=
  (s.modCom (fun c => { c with inbox := l })).returnCells 4 m.cells

/-- The Shell takes a command of this level from a writer: no command runs, its state is READY, and the writer has the level
(R346, R350). -/
def State.shellFree (s : State) (w : Writer) (level : Nat) : Bool :=
  s.shell.running.isNone && s.o Obj.SHL_STATE == 1 && decide (level ≤ s.rankOf w)

/-- The state in which a command of the Shell works: SHL_CMD_OUT is empty. -/
def State.shellOut (s : State) : State := s.setBlob Obj.SHL_CMD_OUT []

/-- A command of the Shell runs, to end with a status. -/
def State.shellRuns (s : State) (code st : Nat) : State := { s with shell := { s.shell with running := some (code, st) } }

/-- The ledger's record of a submission, QUEUED, and the state with the ticket that core c reads (R375, R379). -/
def State.ticketed (s : State) (c : Fin 8) (a : Nat) : Option Nat × State :=
  let d := s.descAt a
  let r := (s.sawBytes 8 a 64).newRecord 1 (dKind d) c (selOf d) 0 (fieldN d 4 4)
  (r.1, r.2.setTicket c (r.1.getD 0))

/-- Core c's data job at a passes the checks of R377 and has work to do. -/
def State.accepts (s : State) (c : Fin 8) (a : Nat) : Bool :=
  s.descUsable a && (s.ticketed c a).1.isSome && argOk (s.descAt a) && addressOk (s.descAt a) &&
  !((s.ticketed c a).2.beyondDram (s.descAt a)) &&
  (dKind (s.descAt a) != 3 || (s.ticketed c a).2.permits (fieldN (s.descAt a) 28 1) 5) && decide (0 < dLen (s.descAt a))

/-- The state in which that job waits for a channel. -/
def State.queued (s : State) (c : Fin 8) (a : Nat) : State :=
  (s.ticketed c a).2.modJobs (fun j => { j with queue := j.queue ++ [
    { ticket := (s.ticketed c a).1.getD 0, core := c, desc := s.descAt a }] })

end Sys2Proof.Machine
end

