-- ==== Sys2Proof/Certificates/Slice0/Obligations.lean ====
section
/-!
DEFINITION. The statements about the block: what each command of the table does to the state, and what every step keeps.
-/
open Sys2Proof Sys2Proof.Machine

/-- The counter block's commands complete with the values of R41-R49 and change nothing else -/
def Obligations.CounterCommandsComplete : Prop :=
  (∀ (s : State) (n : Fin 16), s.tcOwned n = false → s.tcSrc n ≠ 0 → s.tcSrc n < 4 →
    bitOf (s.o (Obj.TMB_TCn_CTRL n)) 0 = true → s.tcClocked n = true → bitOf (s.o (Obj.TMB_TCn_CFG n)) 21 = false →
    s.o (Obj.TMB_TCn_COUNT n) + 1 < 2 ^ 32 → s.o (Obj.TMB_TCn_COUNT n) + 1 ≠ s.o (Obj.TMB_TCn_CMP n) →
    exec (.counterSourceEvent n) s =
      .next ((s.setO (Obj.TMB_TCn_COUNT n) (s.o (Obj.TMB_TCn_COUNT n) + 1)).modTc n (fun t => { t with matched := false }))) ∧
  (∀ (s : State) (n : Fin 16), s.tcOwned n = true ∨ s.tcSrc n = 0 ∨ 4 ≤ s.tcSrc n →
    exec (.counterSourceEvent n) s = .next s) ∧
  (∀ (s : State) (n : Fin 16), s.tcCapSrc n ≠ 0 → s.tcCapSrc n ≠ 5 →
    exec (.counterCapture n) s = .next (State.tcCapture 16 n s)) ∧
  (∀ (s : State) (who : Fin 8) (n : Fin 16) (run : Bool), s.tcOwned n = false →
    exec (.tcRun who n run) s = .next (s.setO (Obj.TMB_TCn_CTRL n) (b2n run))) ∧
  (∀ (s : State) (who : Fin 8) (n : Fin 16), s.tcOwned n = false →
    exec (.tcClear who n) s = .next (s.setO (Obj.TMB_TCn_COUNT n) 0)) ∧
  (∀ (s : State) (who : Fin 8) (n : Fin 16), s.tcOwned n = false →
    exec (.tcSwcap who n) s = .next (State.tcCapture 16 n s)) ∧
  (∀ (s : State) (who : Fin 8) (n : Fin 16) (v : Nat), s.tcOwned n = false →
    ∃ t, exec (.tcCountWrite who n v) s = .next t ∧ t.o (Obj.TMB_TCn_COUNT n) = v % 2 ^ 32 ∧
      bitOf (t.o (Obj.TMB_TCn_FLAGS n)) 4 = false ∧ t.time.tcs[n].countLatch = none ∧
      (∀ k, k ≠ Obj.TMB_TCn_COUNT n → k ≠ Obj.TMB_TCn_FLAGS n → t.o k = s.o k)) ∧
  (∀ (s : State) (n : Fin 16) (v : Nat), s.tcSrc n = 7 → s.time.tcs[n].countLatch = some v →
    ∃ t, exec (.tcCountRead n) s = .next t ∧ t.rdata = v ∧ t.time.tcs[n].countLatch = none ∧
      bitOf (t.o (Obj.TMB_TCn_FLAGS n)) 4 = false ∧ (∀ k, k ≠ Obj.TMB_TCn_FLAGS n → t.o k = s.o k)) ∧
  (∀ (s : State) (n : Fin 16), s.tcSrc n ≠ 7 → s.tcChain 16 n = [] →
    exec (.tcCapRead n false) s = .next { s.tcFlag n 0 false with rdata := s.o (Obj.TMB_TCn_CAP n) }) ∧
  (∀ (s : State) (n : Fin 16) (v : Nat),
    ∃ t, exec (.tcFlagsClear n v) s = .next t ∧
      (∀ b, bitOf (t.o (Obj.TMB_TCn_FLAGS n)) b =
        (bitOf (s.o (Obj.TMB_TCn_FLAGS n)) b && !(decide (b < 4) && bitOf v b))) ∧
      (∀ k, k ≠ Obj.TMB_TCn_FLAGS n → t.o k = s.o k))

/-- Writes to a counter that a TOUCH panel owns are dropped with the address kept -/
def Obligations.OwnedCounterWritesDropped : Prop :=
  ∀ (s : State) (who : Fin 8) (n : Fin 16) (run : Bool) (v : Nat), s.tcOwned n = true →
    exec (.tcRun who n run) s = .next (s.dropped (windowAddr (Obj.TMB_TCn_CTRL n)) (b2n run) who 4) ∧
      exec (.tcClear who n) s = .next (s.dropped (windowAddr (Obj.TMB_TCn_CTRL n)) 2 who 4) ∧
      exec (.tcSwcap who n) s = .next (s.dropped (windowAddr (Obj.TMB_TCn_CTRL n)) 4 who 4) ∧
      exec (.tcCountWrite who n v) s = .next (s.dropped (windowAddr (Obj.TMB_TCn_COUNT n)) v who 4)

/-- Panel inputs, touch scans and the clearing of miss counters take effect as R37 and R53-R56 say -/
def Obligations.PanelAndMissCommandsComplete : Prop :=
  (∀ (s : State) (who : Fin 8) (cls : Nat), 1 ≤ cls → cls ≤ 12 →
    exec (.missCounterClear who none cls 0) s = .next (s.setO (Obj.TMB_MISS cls) 0)) ∧
  (∀ (s : State) (who : Fin 8) (n : Fin 4) (cls : Nat), 1 ≤ cls → cls ≤ 4 →
    exec (.missCounterClear who (some n) cls 0) s = .next (s.setO (sliceMissKey n cls) 0)) ∧
  (∀ (s : State) (who : Fin 8) (cls v : Nat), 1 ≤ cls → cls ≤ 12 → v ≠ 0 →
    exec (.missCounterClear who none cls v) s = .next (s.dropped (windowAddr (Obj.TMB_MISS cls)) v who 3)) ∧
  (∀ (s : State) (k : Fin 4) (since : Nat), s.o (Obj.TMB_PNLk_MODE k) = 1 → s.power.xo32k = true →
    bitOf (s.o (Obj.TMB_PNLk_STATE k)) 0 = false →
    exec (.panelDebounceExpiry ⟨k, true, since⟩) s =
      .next ((s.slpTo (max since s.time.panels[k].changedAt + s.o (Obj.TMB_PNLk_DEBOUNCE k) * 38400)).panelPress k)) ∧
  (∀ (s : State) (k : Fin 4) (since : Nat), s.o (Obj.TMB_PNLk_MODE k) = 1 → s.power.xo32k = true →
    bitOf (s.o (Obj.TMB_PNLk_STATE k)) 0 = true →
    exec (.panelDebounceExpiry ⟨k, false, since⟩) s =
      .next ((s.slpTo (max since s.time.panels[k].changedAt + s.o (Obj.TMB_PNLk_DEBOUNCE k) * 38400)).panelRelease k)) ∧
  (∀ (s : State) (k : Fin 4) (since : Nat),
    exec (.panelDebounceExpiry ⟨k, bitOf (s.o (Obj.TMB_PNLk_STATE k)) 0, since⟩) s = .next s) ∧
  (∀ (s : State) (k : Fin 4), s.o (Obj.TMB_PNLk_MODE k) = 1 → s.o (Obj.TMB_PNLk_HOLD k) ≠ 0 →
    bitOf (s.o (Obj.TMB_PNLk_STATE k)) 0 = true → bitOf (s.o (Obj.TMB_PNLk_STATE k)) 1 = false →
    exec (.panelHoldExpiry k) s =
      .next (((s.slpTo (s.time.panels[k].pressedAt + s.o (Obj.TMB_PNLk_HOLD k) * 38400)).panelBit k 1 true).panelEvent k 0x106)) ∧
  (∀ (s u : State) (k : Fin 4), s.o (Obj.TMB_PNLk_MODE k) = 2 → s.time.panels[k].measuring = false → s.pwr ≤ 3 →
    (u = if s.time.panels[k].scanned then s.upTo (s.time.panels[k].startedAt + s.o (Obj.TMB_PNLk_SCAN k) * 38400) else s) →
    exec (.touchScanStart k) s =
      .next ((u.setO (Obj.TMB_TCn_COUNT (12 + k)) 0).modPanel k (fun p => { p with
        measuring := true, startedAt := u.now, scanned := true }))) ∧
  (∀ (s : State) (k : Fin 4) (cap : Nat), s.o (Obj.TMB_PNLk_MODE k) = 2 → s.time.panels[k].measuring = true →
    s.time.panels[k].first = true → s.pwr ≤ 3 →
    exec (.touchMeasurementDone k cap) s =
      .next ((((State.tcCapture 16 (touchTc k) ((s.upTo (s.time.panels[k].startedAt + s.touchMeas k cap)).setO
        (Obj.TMB_TCn_COUNT (12 + k)) (s.touchMeas k cap))).setO (Obj.TMB_PNLk_MEAS k) (s.touchMeas k cap)).panelBit k 2 false).setO
        (Obj.TMB_PNLk_BASE k) (s.touchMeas k cap) |>.modPanel k (fun p => { p with measuring := false, first := false, streak := 0 }))) ∧
  (∀ (s : State) (k : Fin 4), s.o (Obj.TMB_PNLk_MODE k) = 2 → s.time.panels[k].measuring = true →
    bitOf (s.o (Obj.TMB_PNLk_STATE k)) 0 = false → s.pwr ≤ 3 →
    exec (.touchFault k) s =
      .next ((((s.upTo (s.time.panels[k].startedAt + s.o (Obj.TMB_PNLk_SCAN k) * 38400)).modPanel k (fun p => { p with measuring := false, streak := 0 })).panelBit k 2 true).panelEvent k 0x107)) ∧
  (∀ (s : State) (k : Fin 4), s.o (Obj.TMB_PNLk_MODE k) = 2 → s.time.panels[k].measuring = true →
    bitOf (s.o (Obj.TMB_PNLk_STATE k)) 0 = true → s.pwr ≤ 3 →
    exec (.touchFault k) s =
      .next (((((s.upTo (s.time.panels[k].startedAt + s.o (Obj.TMB_PNLk_SCAN k) * 38400)).modPanel k (fun p => { p with measuring := false, streak := 0 })).panelRelease k).panelBit k 2 true).panelEvent k 0x107))

/-- A tick boundary raises the misses of the tick that ends and runs the steps of R33 at the next frame, a slot boundary acts at the next slot, and a stall is raised once for each 100 frames -/
def Obligations.TickCommandsComplete : Prop :=
  (∀ (s : State) (age : Nat), s.pwr ≠ 4 → s.power.resetsDue = [] →
    exec (.tickBoundary age) s =
      .next (({ s.upTo (s.nextTick * frameT) with
        time := { s.time with tickMark := s.nextTick + 1 } } : State).deadlines ((s.nextTick - 1) * frameT)
        |>.tcTick (s.nextTick % 100 == 0) |>.tickRun s.nextTick age)) ∧
  (∀ (s : State) (vin v5 : Nat) (tj : Int) (slack : Nat) (temps : List Int), s.pwr ≠ 4 →
    exec (.slotBoundary vin v5 tj slack temps) s =
      .next ((fin4.foldl (fun (u : State) (n : Fin 4) => u.slotSlice n (nth temps n 0))
        (State.tcSlot { s.upTo (s.nextSlot * slotT) with time := { s.time with slotMark := s.nextSlot + 1 } } |>.slewSlot)).slotMonitors
          vin v5 tj slack).holdSlot) ∧
  (∀ (s : State) (age vin v5 : Nat) (tj : Int) (slack : Nat) (temps : List Int), s.pwr = 4 →
    exec (.tickBoundary age) s = .next s ∧ exec (.slotBoundary vin v5 tj slack temps) s = .next s) ∧
  (∀ (s : State) (n : Fin 4), s.slices[n].stallDue = false →
    exec (.fallbackStall n) s = .next s) ∧
  (∀ (s : State) (n : Fin 4), s.slices[n].stallDue = true →
    exec (.fallbackStall n) s =
      .next ((s.modSlice n (fun x => { x with stallDue := false })).raise 0x101 n s.slices[n].fbRun))

/-- Settling and calibration end in LOCK or are retried, a request that waits too long forces a calibration, and a lost lock cuts the transmission on the air within 24 µt -/
def Obligations.SynthesizerSettlesAndCalibrates : Prop :=
  (∀ (s : State) (n : Fin 4),
    ∃ t, exec (.synCmdCalibrate n) s = .next t ∧ bitOf (t.o (Obj.SLCn_CAL_PENDING n)) 0 = true ∧
      (∀ k, k ≠ Obj.SLCn_CAL_PENDING n → t.o k = s.o k) ∧ t.mem = s.mem) ∧
  (∀ (s : State) (n : Fin 4), s.syn n = 2 →
    exec (.synthSettleDone n) s =
      .next ((((s.upTo s.slices[n].readyAt).modSlice n (fun x => { x with retries := 0 })).setSyn n 3).release n)) ∧
  (∀ (s : State) (n : Fin 4), s.syn n = 2 → s.slices[n].retries < 2 →
    exec (.synthSettleTimeout n) s = .next
      (((s.upTo s.slices[n].readyAt).modSlice n (fun x => { x with retries := x.retries + 1 })).beginSettle n s.slices[n].settle)) ∧
  (∀ (s : State) (n : Fin 4), s.syn n = 2 → 2 ≤ s.slices[n].retries →
    exec (.synthSettleTimeout n) s = .next
      ((((s.upTo s.slices[n].readyAt).modSlice n (fun x => { x with retries := 0 })).beginCal n).synEvent n 0x110)) ∧
  (∀ (s : State) (n : Fin 4), s.syn n = 1 → s.slices[n].calAgain = false →
    ∃ (t u : State), exec (.synthCalDone n true) s = .next t ∧ t = (u.setSyn n 3).release n ∧
      u.o (Obj.SLCn_CAL_PENDING n) =
        natOr s.slices[n].raised (natAnd (s.o (Obj.SLCn_CAL_PENDING n)) (0xF - s.slices[n].covers % 16)) ∧
      u.o (Obj.SLCn_CAL_TEMP n) = s.o (Obj.SLCn_TEMP n) ∧ u.o (Obj.SLCn_CAL_AT n) = tt64 (max s.now s.slices[n].readyAt)) ∧
  (∀ (s : State) (n : Fin 4), s.syn n = 1 → s.slices[n].calAgain = false →
    exec (.synthCalDone n false) s = .next
      (((s.upTo s.slices[n].readyAt).modSlice n (fun x => { x with calAgain := true })).synEvent n 0x110)) ∧
  (∀ (s u : State) (n : Fin 4) (t : Instant), s.slices[n].oldest = some t → 2 ≤ s.syn n →
    u = s.upTo (boundaryAt slotT (max s.now (t + superT))) → u.onAir n = false →
    exec (.calForced n) s = .next
      (((((u.beginCal n).loseSlot n (slotStart u.now)).missSlice n 4 (t + superT)).inc (Obj.SLCn_CAL_FORCED n)).synEvent n 0x111)) ∧
  (∀ (s : State) (n : Fin 4), s.syn n = 3 →
    exec (.unlock n) s = .next
      ((((((s.drawn.modTxs n (fun l => l.map (fun t => if t.ramp.isSome && !t.ended && t.cut.isNone then
          { t with cut := some (s.now + s.freeBelow 25) } else t))).calRequest n 2).inc (Obj.SLCn_UNLOCK_COUNT n)).beginSettle n 1536).synEvent n 0x112))) ∧
  (∀ (s : State) (n : Fin 4),
    exec (.sampleClockLockLost n) s = .next ((s.modSlice n (fun x => { x with clock := false })).reblank n)) ∧
  (∀ (s : State) (n : Fin 4),
    exec (.sampleClockLockReturn n) s = .next (((s.modSlice n (fun x => { x with clock := true })).reblank n).release n))

/-- A prepared transmission ramps 96 µt before its start in LOCK, is abandoned at its deadline without it, ends, turns its PA off and frees what it blanked; ports are probed and tuned in QUIET slots -/
def Obligations.TransmissionsRampAndEnd : Prop :=
  (∀ (s : State) (n : Fin 4) (t : TxSt), s.nextRamp n = some t → t.lbt = false →
    (s.upTo (t.start - 96)).canSend n = true → (s.upTo (t.start - 96)).now + 96 ≤ t.start + t.tol →
    exec (.txRampStart n) s = .next ((s.upTo (t.start - 96)).rampUp n t)) ∧
  (∀ (s : State) (n : Fin 4) (t : TxSt), s.nextRamp n = some t → (s.upTo (t.start + t.tol - 96)).canSend n = false →
    t.kind ≠ 0x12 → t.kind ≠ 0x13 →
    exec (.txStartDeadline n) s = .next
      (((s.upTo (t.start + t.tol - 96)).txAbandon n t 1 (some (t.start + t.tol))).inc (Obj.SLCn_SYNBUSY_COUNT n))) ∧
  (∀ (s : State) (n : Fin 4) (t : TxSt), s.nextRamp n = some t → (s.upTo (t.start + t.tol - 96)).canSend n = false →
    t.kind = 0x13 →
    exec (.txStartDeadline n) s = .next ((s.upTo (t.start + t.tol - 96)).txAbandon n t 1 none)) ∧
  (∀ (s : State) (n : Fin 4) (t : TxSt), s.running n = some t → t.cut = none → t.ended = false →
    exec (.txEnd n) s = .next ((s.upTo (t.ramp.getD 0 + 96 + t.dur)).putTx n { t with ended := true })) ∧
  (∀ (s : State) (n : Fin 4) (t : TxSt) (rl : Nat) (fwd : Int), s.running n = some t → t.cut ≠ none →
    exec (.txPaOff n rl fwd) s = .next
      (if ((s.paOff n t 0x0F).portMeasure n (asFin 2 t.port) rl).o (Obj.SLCn_AERIAL_MODE n) = 1 then
        ((s.paOff n t 0x0F).portMeasure n (asFin 2 t.port) rl).setI 16 (Obj.SLCn_MON_FWD n) fwd
      else (s.paOff n t 0x0F).portMeasure n (asFin 2 t.port) rl)) ∧
  (∀ (s u : State) (n : Fin 4) (t : TxSt) (rl : Nat) (fwd : Int), s.running n = some t → t.cut = none → t.codes = [] →
    u = ((s.paOff n t 0x0F).portMeasure n (asFin 2 t.port) rl).paCompress n t fwd →
    exec (.txPaOff n rl fwd) s = .next (if u.o (Obj.SLCn_AERIAL_MODE n) = 1 then u.setI 16 (Obj.SLCn_MON_FWD n) fwd else u)) ∧
  (∀ (s : State) (n : Fin 4) (t : TxSt), s.slices[n].lastTx = some t → s.slices[n].blanks.contains n.val = true →
    exec (.blankingEnd n) s = .next ((s.upTo (t.at_ + 192)).unblankRow n)) ∧
  (∀ (s : State) (n : Fin 4) (t : Instant), s.slices[n].switchEnd = some t →
    exec (.aerialSwitchSettled n) s = .next (((s.upTo t).modSlice n (fun x => { x with switchEnd := none })).blankOff n 8)) ∧
  (∀ (s : State) (n : Fin 4) (p : Fin 2) (rl : Nat), s.toneOk n 2400 = true → s.probeDue n p = true →
    exec (.probe n p rl) s = .next (s.toneSend n p 2400 [rl])) ∧
  (∀ (s : State) (n : Fin 4) (rls : List Nat), s.toneOk n 4800 = true → s.o (Obj.SLCn_AERIAL_MODE n) = 1 →
    s.o (Obj.SLCn_TUNER_SET n) = 0xFF → s.slices[n].tunerDue = true → rls.length = 64 →
    exec (.tunerSearch n rls) s = .next (s.toneSend n (asFin 2 (s.o (Obj.SLCn_TX_PORT n))) 4800 rls)) ∧
  (∀ (s u : State) (n : Fin 4) (t : TxSt) (rl : Nat) (fwd : Int), s.running n = some t → t.cut = none →
    t.codes.length = 64 →
    u = (((s.paOff n t 0x0F).portMeasure n (asFin 2 t.port) (t.codes.foldl max 0)).tunerKeep n t.codes).paCompress n t fwd →
    exec (.txPaOff n rl fwd) s = .next (if u.o (Obj.SLCn_AERIAL_MODE n) = 1 then u.setI 16 (Obj.SLCn_MON_FWD n) fwd else u)) ∧
  (∀ (s u : State) (n : Fin 4) (t : TxSt) (found rl : Nat) (fwd : Int), s.running n = some t → t.cut = none →
    t.codes = [found] → u = ((s.paOff n t 0x0F).portMeasure n (asFin 2 t.port) found).paCompress n t fwd →
    exec (.txPaOff n rl fwd) s = .next (if u.o (Obj.SLCn_AERIAL_MODE n) = 1 then u.setI 16 (Obj.SLCn_MON_FWD n) fwd else u))

/-- A listener in SEARCH goes to SYNC at a preamble, chooses its port, holds the packet on a good header or leaves it, resolves its map, drains at the last sample, and the mapper admits only blocks that R110 admits -/
def Obligations.ListenersTakePackets : Prop :=
  (∀ (s : State) (n : Fin 4) (k : Fin 48) (first : Instant), (s.upTo first).lsnState n k = 1 →
    (s.upTo first).blankNow n = false → (s.upTo first).bankValid n k = true →
    (s.upTo first).clearFrom n first (s.upTo first).now = true → (s.upTo first).hasPort n = true →
    (s.upTo first).now ≤ first + preSymbol (aMode ((s.upTo first).lsnNow n k)) →
    ∃ t, exec (.preambleDetected n k first) s = .next t ∧ t.lsnState n k = 2 ∧ t.now = max s.now first) ∧
  (∀ (s : State) (n : Fin 4) (k : Fin 48) (ea eb : Nat), s.lsnState n k = 2 → s.o (Obj.SLCn_AERIAL_MODE n) = 0 →
    s.slices[n].lsn[k].decided = false → s.hasPort n = true →
    exec (.aerialDecision n k ea eb) s = .next
      ((if aMode (s.lsnNow n k) = 1 then s.upTo (s.slices[n].lsn[k].first + 2400) else s).modLsn n k (fun l => { l with
        port := if s.portState n 0 = 3 then 1 else if s.portState n 1 = 3 then 0 else if ea < eb then 1 else 0
        decided := true }))) ∧
  (∀ (s : State) (n : Fin 4) (k : Fin 48) (ea eb : Nat), s.o (Obj.SLCn_AERIAL_MODE n) = 1 →
    exec (.aerialDecision n k ea eb) s = .next s) ∧
  (∀ (s : State) (n : Fin 4) (k : Fin 48) (bits : Nat), s.lsnState n k = 2 → aMode (s.lsnNow n k) = 1 →
    headOk bits = true →
    exec (.qualifier n k (.lofdm bits)) s = .next ((s.upTo (s.slices[n].lsn[k].first + 7200)).hold n k (fld bits 10 0) (fun l => { l with
      len := fld bits 10 0, mapId := fld bits 18 11, rate := fld bits 20 19, seed := fld bits 27 21, fcs := 0
      endAt := if fld bits 18 11 < 4 then
        some (s.slices[n].lsn[k].first + lofdmDur (fld bits 10 0) (fld bits 20 19) (fixedBits (fld bits 18 11))) else none }))) ∧
  (∀ (s : State) (n : Fin 4) (k : Fin 48) (bits : Nat), s.lsnState n k = 2 → aMode (s.lsnNow n k) = 1 →
    headOk bits = false →
    exec (.qualifier n k (.lofdm bits)) s = .next ((s.upTo (s.slices[n].lsn[k].first + 7200)).headFail n k)) ∧
  (∀ (s : State) (n : Fin 4) (k : Fin 48) (x : RxHead) (p : StdPhr) (q : Nat), s.lsnState n k = 2 →
    s.stdPhr n (aMode (s.lsnNow n k)) x = some p → p.sw = false → p.ok = true →
    phrLenOk (aMode (s.lsnNow n k)) p.len p.fcs = true →
    q = s.slices[n].lsn[k].first + phrEnd (aMode (s.lsnNow n k)) p.pre →
    exec (.qualifier n k x) s = .next ((s.upTo q).hold n k (p.len - p.fcs) (fun l => { l with
        len := p.len - p.fcs, mapId := 0, fcs := p.fcs, resolved := true
        endAt := some (q + psduTime (aMode (s.lsnNow n k)) p.rate p.len) }))) ∧
  (∀ (s : State) (n : Fin 4) (k : Fin 48) (x : RxHead) (p : StdPhr), s.lsnState n k = 2 →
    s.stdPhr n (aMode (s.lsnNow n k)) x = some p → p.sw = false →
    p.ok = false ∨ phrLenOk (aMode (s.lsnNow n k)) p.len p.fcs = false →
    exec (.qualifier n k x) s = .next
      ((s.upTo (s.slices[n].lsn[k].first + phrEnd (aMode (s.lsnNow n k)) p.pre)).headFail n k)) ∧
  (∀ (s : State) (n : Fin 4) (k : Fin 48) (x : RxHead) (p : StdPhr), s.lsnState n k = 2 →
    s.stdPhr n (aMode (s.lsnNow n k)) x = some p → p.sw = true →
    exec (.qualifier n k x) s = .next
      (((s.upTo (s.slices[n].lsn[k].first + phrEnd (aMode (s.lsnNow n k)) p.pre)).inc (Obj.SLCn_PHY_MODESW n)).toSearch n k)) ∧
  (∀ (s : State) (n : Fin 4) (k : Fin 48), s.lsnState n k = 2 →
    exec (.syncTimeout n k) s = .next
      (((s.upTo (s.slices[n].lsn[k].lastSync.getD 0 + s.syncLimit n (aMode (s.lsnNow n k)))).inc (Obj.SLCn_RX_SYNC_TO n)).toSearch n k)) ∧
  (∀ (s : State) (n : Fin 4) (k : Fin 48) (addr check : Nat), s.lsnState n k = 3 → aMode (s.lsnNow n k) = 1 →
    s.slices[n].lsn[k].resolved = false → check % 64 = leadCheck (addr % 2 ^ 32) → s.slices[n].lsn[k].mapId < 16 →
    exec (.mapResolve n k addr check) s = .next
      ((s.upTo (s.slices[n].lsn[k].first + 9600)).resolved n k (addr % 2 ^ 32) (fixedBits s.slices[n].lsn[k].mapId) none)) ∧
  (∀ (s : State) (n : Fin 4) (k : Fin 48) (addr check : Nat), s.lsnState n k = 3 → aMode (s.lsnNow n k) = 1 →
    s.slices[n].lsn[k].resolved = false → check % 64 ≠ leadCheck (addr % 2 ^ 32) →
    exec (.mapResolve n k addr check) s = .next
      (((s.upTo (s.slices[n].lsn[k].first + 9600)).inc (Obj.SLCn_PHY_LCSFAIL n)).giveUp n k)) ∧
  (∀ (s : State) (n : Fin 4) (k : Fin 48) (e : Instant), s.lsnState n k = 3 → s.slices[n].lsn[k].resolved = true →
    s.slices[n].lsn[k].endAt = some e →
    exec (.frameLastSample n k e) s = .next
      (((s.upTo (e + gridLat (s.grid n (aBank (s.lsnNow n k))))).modLsn n k (fun l => { l with agc := none })).setLsn n k 4)) ∧
  (∀ (s : State) (n : Fin 4) (bank : Fin 2) (t : Instant), s.slices[n].invalid[bank] = some t →
    exec (.gridOutputsValid n bank) s = .next ((s.upTo t).modSlice n (fun x => { x with invalid := x.invalid.set bank none }))) ∧
  (∀ (s u : State) (n : Fin 4) (chan : Fin 32) (start : Instant) (p : List Nat) (b : Nat), u = s.upTo (start + 4320) →
    u.mapBank n = some b → u.ob (Obj.SLCn_MAP_ENABLE n) = true → p.length = 48 → u.slices[n].accFrom ≤ start →
    u.slices[n].validFrom[asFin 2 b] ≤ start → fin48.any (fun k => u.stoodOn n b chan start k) = true →
    fin48.any (fun k => u.syncedOn n b chan start k) = false → u.clearFrom n start (start + 1920) = true →
    u.steppedIn n start (start + 1919) = false → u.belowMean n chan (sumL p) = true →
    exec (.mapperBlockAdmit n chan start p) s = .next (u.modSlice n (fun x => { x with acc := accAdd x.acc chan p })))

/-- A clip steps the gain down, a quiet window or SLCn_GAIN_HOLD steps it up, and a capture arms, triggers, stops and ends -/
def Obligations.GainAndCaptureFollowTheirRules : Prop :=
  (∀ (s : State) (n : Fin 4), s.blankNow n = false → s.gainAuto n = true → s.o (Obj.SLCn_GAIN_NOW n) ≠ 0 →
    s.o (Obj.SLCn_CAP_TRIG n) ≠ 3 →
    ∃ t, exec (.gainStepDown n) s = .next t ∧ t.o (Obj.SLCn_GAIN_NOW n) = s.o (Obj.SLCn_GAIN_NOW n) - 1 ∧
      t.o (Obj.SLCn_GAIN_DN_COUNT n) = (s.o (Obj.SLCn_GAIN_DN_COUNT n) + 1) % 2 ^ 32 ∧
      (∀ k, k ≠ Obj.SLCn_GAIN_NOW n → k ≠ Obj.SLCn_GAIN_DN_COUNT n → t.o k = s.o k) ∧ t.mem = s.mem) ∧
  (∀ (s : State) (n : Fin 4), s.blankNow n = false → s.gainAuto n = true → s.o (Obj.SLCn_GAIN_NOW n) ≠ 0 →
    s.o (Obj.SLCn_CAP_TRIG n) = 3 →
    exec (.gainStepDown n) s = .next
      (((s.gainSet n (s.o (Obj.SLCn_GAIN_NOW n) - 1)).inc (Obj.SLCn_GAIN_DN_COUNT n)).capTrigger n)) ∧
  (∀ (s : State) (n : Fin 4), s.blankNow n = true →
    exec (.gainStepDown n) s = .next s) ∧
  (∀ (s : State) (n : Fin 4), s.blankNow n = false → s.gainAuto n = false ∨ s.o (Obj.SLCn_GAIN_NOW n) = 0 →
    exec (.gainStepDown n) s = .next (s.inc (Obj.SLCn_CLIP_COUNT n))) ∧
  (∀ (s v u : State) (n : Fin 4) (rms : Int), v = s.upTo (boundaryAt 960 s.now) →
    (u = if v.gainMeasured n && !(v.blankNow n) then v.gainJudge n rms else v) → u.slices[n].upPending.isSome = true →
    u.anyHolds n = false → u.gainAuto n = true → u.blankNow n = false →
    exec (.gainWindowEnd n rms) s = .next (u.gainUp n)) ∧
  (∀ (s v u : State) (n : Fin 4) (rms : Int), v = s.upTo (boundaryAt 960 s.now) →
    (u = if v.gainMeasured n && !(v.blankNow n) then v.gainJudge n rms else v) →
    u.slices[n].upPending = none ∨ u.anyHolds n = true ∨ u.gainAuto n = false ∨ u.blankNow n = true →
    exec (.gainWindowEnd n rms) s = .next u) ∧
  (∀ (s u : State) (n : Fin 4) (t : Instant), s.slices[n].upPending = some t → s.o (Obj.SLCn_GAIN_HOLD n) ≠ 0 →
    s.anyHolds n = true → s.gainAuto n = true → u = s.upTo (boundaryAt 960 (t + s.o (Obj.SLCn_GAIN_HOLD n))) →
    u.blankNow n = false → u.o (Obj.SLCn_GAIN_NOW n) < 10 →
    exec (.gainForcedUp n) s = .next ((u.gainUp n).inc (Obj.SLCn_GAIN_FORCED_UP n))) ∧
  (∀ (s : State) (who : Fin 8) (n : Fin 4), s.o Obj.DRM_STATE ≠ 3 → s.capRuns n = false →
    exec (.captureArm who n) s = .next
      ((s.setO (Obj.SLCn_CAP_STATE n) 1).modSlice n (fun x => { x with capAt := s.now, capFill := 0, capLeft := 0 }))) ∧
  (∀ (s : State) (who : Fin 8) (n : Fin 4), s.o Obj.DRM_STATE = 3 →
    exec (.captureArm who n) s = .next (s.dropped (windowAddr (Obj.SLCn_CAP_CMD n)) 1 who 6)) ∧
  (∀ (s u : State) (n : Fin 4), s.o (Obj.SLCn_CAP_STATE n) = 1 → u = s.capAdvance n →
    exec (.captureTriggerNow n) s = .next
      (((u.setO (Obj.SLCn_CAP_STATE n) 2).setO (Obj.SLCn_CAP_TRIG_AT n) (tt64 u.now)).modSlice n (fun x => { x with
        capLeft := u.o (Obj.SLCn_CAP_LEN n) * (16 - u.o (Obj.SLCn_CAP_PRE n)) / 16 }))) ∧
  (∀ (s : State) (n : Fin 4), s.o (Obj.SLCn_CAP_TRIG n) = 1 →
    exec (.captureAtExpiry n) s = .next ((s.upTo (linear (s.o (Obj.SLCn_CAP_AT n)))).capTrigger n)) ∧
  (∀ (s u : State) (n : Fin 4) (data : List Nat), u = s.capFeed n data →
    exec (.captureStop n data) s = .next (if u.capRuns n then u.capEnd n 5 else u.setO (Obj.SLCn_CAP_STATE n) 5)) ∧
  (∀ (s : State) (n : Fin 4) (data : List Nat), s.o (Obj.SLCn_CAP_STATE n) = 2 →
    exec (.captureDone n data) s = .next (((s.upTo (sampleAt (s.capRate n).2
      (sampleNo (s.capRate n).2 s.slices[n].capAt + ceilDiv s.slices[n].capLeft (s.capRate n).1))).capFeed n data).capEnd n 3)) ∧
  (∀ (s : State) (n : Fin 4) (data : List Nat), s.capRuns n = true →
    exec (.captureOverrun n data) s = .next (((s.capFeed n data).capEnd n 4).inc (Obj.DRM_RTn_OVERFLOW n)))

/-- A program committed before the deadline enters its check, one committed after it is late, the deadline makes a program that passes its second check ready, and WITHDRAW, STOP and PARK take effect or are dropped -/
def Obligations.FrameProgramsAreCommitted : Prop :=
  (∀ (s : State) (who : Fin 8) (n : Fin 4) (addr : Nat), s.o (Obj.SLCn_LC_STATE n) ≠ 0 → s.now < s.fpDeadline n →
    exec (.fpCommit who n addr) s = .next ((s.modSlice n (fun x => { x with
      checking := some ((s.fpCheck n addr).1, (s.fpCheck n addr).2.1, (s.fpCheck n addr).2.2.1, (s.fpCheck n addr).2.2.2) })).fpPipe n)) ∧
  (∀ (s : State) (who : Fin 8) (n : Fin 4) (addr : Nat), s.o (Obj.SLCn_LC_STATE n) ≠ 0 → s.fpDeadline n ≤ s.now →
    exec (.fpCommit who n addr) s = .next ((s.modSlice n (fun x => { x with late := true })).fpRefuse n (2, 0, 0xFFFF))) ∧
  (∀ (s : State) (who : Fin 8) (n : Fin 4) (addr : Nat), s.o (Obj.SLCn_LC_STATE n) = 0 →
    exec (.fpCommit who n addr) s = .next (s.dropped (windowAddr (Obj.SLCn_FP_COMMIT n)) addr who 6)) ∧
  (∀ (s : State) (n : Fin 4) (p : Prog) (sl en : Nat), s.slices[n].checking = some (p, 1, sl, en) →
    exec (.fpCheckDone n) s = .next
      (((s.modSlice n (fun x => { x with checking := none, pend := some p })).fpStatus n (1, sl, en)).fpPipe n)) ∧
  (∀ (s : State) (n : Fin 4) (p : Prog) (c sl en : Nat), s.slices[n].checking = some (p, c, sl, en) → c ≠ 1 →
    exec (.fpCheckDone n) s = .next
      (((s.modSlice n (fun x => { x with checking := none, pend := x.pend })).fpRefuse n (c, sl, en)).fpPipe n)) ∧
  (∀ (s u : State) (n : Fin 4) (p : Prog), s.o (Obj.SLCn_LC_STATE n) ≠ 0 → u = (s.upTo (s.fpDeadline n)).fpChecked n →
    u.slices[n].pend = some p →
    exec (.commitDeadline n) s = .next (
      match (u.modSlice n (fun x => { x with pend := none })).deadlineCheck n (u.modSlice n (fun x => { x with pend := none })).willBe p with
      | some f => ((u.modSlice n (fun x => { x with pend := none })).fpRefuse n f).fpPipe n
      | none => ((u.modSlice n (fun x => { x with pend := none })).modSlice n (fun x => { x with ready := some p })).fpPipe n)) ∧
  (∀ (s t : State) (who : Fin 8) (n : Fin 4), s.withdraw n = some t →
    exec (.withdraw who n) s = .next t) ∧
  (∀ (s : State) (who : Fin 8) (n : Fin 4), s.withdraw n = none →
    exec (.withdraw who n) s = .next (s.dropped (windowAddr (Obj.SLCn_FP_CMD n)) 1 who 6)) ∧
  (∀ (s t : State) (who : Fin 8) (n : Fin 4), s.lcStop n = some t →
    exec (.stop who n) s = .next t) ∧
  (∀ (s t : State) (who : Fin 8) (n : Fin 4), s.lcPark n = some t →
    exec (.park who n) s = .next t)

/-- An entry is prepared or stopped by the first check that fails, an uplink window closes and its gang ACK is fixed, an assessment that finds the channels clear ramps and one that does not backs off -/
def Obligations.EntriesAreSentAndAcknowledged : Prop :=
  (∀ (s u : State) (n : Fin 4) (r : EntryRun) (c : Nat), s.nextEntry n = some r →
    u = (s.upTo (r.start - 384)).modSlice n (fun x => { x with
        runs := x.runs.map (fun y => if y.index = r.index then { y with past := true } else y) }) →
    u.entryStops n r = some c →
    exec (.entryPrepare n) s = .next (u.entryEnd n ((s.upTo (r.start - 384)).ledIdx n r.index) 5 c 0)) ∧
  (∀ (s u : State) (n : Fin 4) (r : EntryRun), s.nextEntry n = some r →
    u = (s.upTo (r.start - 384)).modSlice n (fun x => { x with
        runs := x.runs.map (fun y => if y.index = r.index then { y with past := true } else y) }) →
    u.entryStops n r = none →
    exec (.entryPrepare n) s = .next (u.entryGo n r ((s.upTo (r.start - 384)).ledIdx n r.index))) ∧
  (∀ (s : State) (n : Fin 4) (w : UpWin), s.slices[n].wins.find? (fun w => !w.closed) = some w →
    exec (.uplinkWindowClose n) s = .next ((s.upTo w.w).modSlice n (fun x => { x with
        wins := x.wins.map (fun y => if y.u = w.u then { y with closed := true } else y) }))) ∧
  (∀ (s : State) (n : Fin 4) (w : UpWin), s.slices[n].wins.find? (fun w => !w.fixed) = some w →
    s.ob (Obj.SLCn_ACK_ENABLE n) = false →
    ∃ (u : State), exec (.ackVerdictCutoff n) s = .next (u.ackMake n w []) ∧ u.now = max s.now (w.w + 384) ∧
      (∀ k, k ≠ Obj.SLCn_ACK_LATEVERDICT n → k ≠ Obj.SLCn_ACK_CROWDED n → u.o k = s.o k)) ∧
  (∀ (s u : State) (n : Fin 4) (w : UpWin) (good : List RxElem), s.slices[n].wins.find? (fun w => !w.fixed) = some w →
    u = (s.upTo (w.w + 384)).modSlice n (fun x => { x with
        wins := x.wins.map (fun y => if y.u = w.u then { y with closed := true, fixed := true } else y) }) →
    s.ob (Obj.SLCn_ACK_ENABLE n) = true →
    good = (u.slices[n].rx.filter (fun e => e.window == some w.u && e.mayAck)).filter (fun e => e.readyBy (w.w + 384) && u.ackKey e) →
    ∃ (v : State), exec (.ackVerdictCutoff n) s = .next (v.ackMake n w (good.filter (fun e => good.all (fun f => e.wins f)))) ∧
      (∀ k, k ≠ Obj.SLCn_ACK_LATEVERDICT n → k ≠ Obj.SLCn_ACK_CROWDED n → v.o k = u.o k)) ∧
  (∀ (s : State) (n : Fin 4) (pw : List Int) (t : TxSt), s.nextAssess n = some t → (s.upTo t.at_).canSend n = true →
    ((List.zip (List.range t.chans.length) t.chans).map (fun x => (s.upTo t.at_).assess n x.2.bank x.2.chan (nth pw x.1 0))).all (fun x => x.2) = true →
    exec (.ccaAssess n pw) s = .next ((s.upTo t.at_).rampUp n t)) ∧
  (∀ (s u : State) (n : Fin 4) (pw : List Int) (t : TxSt), s.nextAssess n = some t → t.be ≤ 5 →
    (s.upTo t.at_).canSend n = true →
    ((List.zip (List.range t.chans.length) t.chans).map (fun x => (s.upTo t.at_).assess n x.2.bank x.2.chan (nth pw x.1 0))).all (fun x => x.2) = false →
    u = (if ((List.zip (List.range t.chans.length) t.chans).map (fun x => (s.upTo t.at_).assess n x.2.bank x.2.chan (nth pw x.1 0))).any (fun x => !x.1)
        then ((s.upTo t.at_).inc Obj.AIR_CCA_BUSY).inc Obj.AIR_CCA_NOMEAS else (s.upTo t.at_).inc Obj.AIR_CCA_BUSY) →
    t.at_ + 2 ^ t.be * 2458 + 96 ≤ t.start + t.tol →
    exec (.ccaAssess n pw) s = .next (u.drawnReq.putTx n { t with
      at_ := t.at_ + (u.freeBelow (2 ^ t.be) + 1) * 2458, be := min 5 (t.be + 1) })) ∧
  (∀ (s : State),
    exec .airtimeBinTurnover s = .next s.airTurn)

/-- A hot entry is pinned unless it would fill its set with pinned ways, an unpin clears the flag, a reported map is installed into an open slot and a computed one is offered -/
def Obligations.HotEntriesAndMapsAreKept : Prop :=
  (∀ (s : State) (who : Fin 8) (h : Nat), h < 8192 → bitOf (s.hotFlags h) 0 = true →
    (s.setHotFlag h 1 true).hotFull (h / 8) = false →
    exec (.hotPin who h) s = .next (s.setHotFlag h 1 true)) ∧
  (∀ (s : State) (who : Fin 8) (h : Nat),
    8192 ≤ h ∨ bitOf (s.hotFlags h) 0 = false ∨ (s.setHotFlag h 1 true).hotFull (h / 8) = true →
    exec (.hotPin who h) s = .next (s.dropped (windowAddr Obj.MAC_HOT_PIN) h who 3)) ∧
  (∀ (s : State) (who : Fin 8) (h : Nat), h < 8192 → bitOf (s.hotFlags h) 0 = true →
    exec (.hotUnpin who h) s = .next (s.setHotFlag h 1 false)) ∧
  (∀ (s : State) (addr h i : Nat) (map : Bytes), s.hotLookup (addr % 2 ^ 32) = some h →
    s.hwHas (s.mapRec h) 128 = true → mapOk (sliceB map 0 24) = true → s.recordOf h (addr % 2 ^ 32) = true →
    s.holdsUp h (sliceB map 0 24) = false → s.openSlot h = some i →
    exec (.reportMapInstall addr map) s = .next
      (((s.installMap h i (addr % 2 ^ 32) (sliceB map 0 24) false).hotPin h).getD
        (s.installMap h i (addr % 2 ^ 32) (sliceB map 0 24) false))) ∧
  (∀ (s : State) (n : Fin 4) (addr h : Nat) (q : MapAsk), s.hotLookup (addr % 2 ^ 32) = some h →
    s.hwHas (s.mapRec h) 128 = true → s.recordOf h (addr % 2 ^ 32) = true →
    q.asked = true ∨ s.mapPeriodOver (addr % 2 ^ 32) q.dn.isSome = true →
    exec (.mapCompute n addr q) s = .next (match q.dn with
      | none => (s.mapNoted (addr % 2 ^ 32) false).computeUp n h (addr % 2 ^ 32)
      | some (snr, ps) => (s.mapNoted (addr % 2 ^ 32) true).computeDown n h (addr % 2 ^ 32) snr ps)) ∧
  (∀ (s : State) (n : Fin 4) (addr : Nat) (q : MapAsk), q.asked = false →
    s.mapPeriodOver (addr % 2 ^ 32) q.dn.isSome = false →
    exec (.mapCompute n addr q) s = .next s)

/-- A drained frame takes its element, its MIC is checked, it is judged by R214, its cold lookup settles, it is published in order, and a tag's rendezvous is computed -/
def Obligations.ReceivedFramesAreJudgedAndPublished : Prop :=
  (∀ (s : State) (n : Fin 4) (k : Fin 48) (raw p : Bytes) (m : RxMeas) (sc : List Nat), s.lsnState n k = 4 →
    s.rxDecode n k raw = (p, true) →
    exec (.drainDone n k raw m sc) s = .next (s.rxTake n k p m sc)) ∧
  (∀ (s : State) (n : Fin 4) (k : Fin 48) (raw p : Bytes) (m : RxMeas) (sc : List Nat), s.lsnState n k = 4 →
    s.rxDecode n k raw = (p, false) →
    exec (.drainDone n k raw m sc) s = .next
      (((s.fillCells n.castSucc s.slices[n].lsn[k].cells p).inc (Obj.SLCn_RX_BADCRC n)).giveUp n k)) ∧
  (∀ (s : State) (n : Fin 4) (slot : Nat) (e : RxElem), s.rxAt n slot = some e → e.mic = none →
    exec (.micVerifyDone n slot) s = .next ((s.fillCells n.castSucc e.cells e.micOf.2).modRx n slot (fun q => { q with
      mic := some e.micOf.1, micAt := (s.fillCells n.castSucc e.cells e.micOf.2).now, psdu := e.micOf.2
      rcd := q.rcd.take 22 ++ leBytes 1 (setFld (fieldN q.rcd 22 1) 3 2 e.micOf.1) ++ q.rcd.drop 23 }))) ∧
  (∀ (s : State) (n : Fin 4) (e : RxElem), s.nextJudge = some (n, e) →
    exec .seqJudge s = .next (s.judge n e)) ∧
  (∀ (s : State) (n : Fin 4) (slot : Nat) (e : RxElem), s.rxAt n slot = some e → e.cold = true →
    s.coldBehind n e = false → s.hotLookup (fSender e.psdu) = none → s.dramSleeps = false →
    s.hotFull (hotSet (fSender e.psdu)) = true →
    exec (.coldLookupDone n slot) s = .next (s.judgeScratch n e (fSender e.psdu))) ∧
  (∀ (s : State) (n : Fin 4) (slot : Nat) (e : RxElem), s.rxAt n slot = some e → e.cold = true →
    s.coldBehind n e = false → s.hotLookup (fSender e.psdu) = none → s.dramSleeps = false →
    s.hotFull (hotSet (fSender e.psdu)) = false →
    exec (.coldLookupDone n slot) s = .next (
      if (s.promote (fSender e.psdu)).2.1.isSome then (s.promote (fSender e.psdu)).2.2.judgeHot n e (s.promote (fSender e.psdu)).1 true
      else (s.promote (fSender e.psdu)).2.2.judgeFresh n e (s.promote (fSender e.psdu)).1)) ∧
  (∀ (s : State) (n : Fin 4) (e : RxElem) (l : List RxElem) (v : Nat), s.slices[n].rx = e :: l → e.verdict = some v →
    s.winOver n e = true →
    exec (.rxqPublish n) s = .next (s.publish n e v)) ∧
  (∀ (s : State) (who : Fin 8) (n : Fin 4) (v : Nat),
    consOk 65536 (s.o (Obj.MAC_RXQn_CONS n)) (s.o (Obj.MAC_RXQn_PROD n)) v = true →
    exec (.rxqConsWrite who n v) s = .next (s.setO (Obj.MAC_RXQn_CONS n) v)) ∧
  (∀ (s : State) (tag sf drift tsync : Nat), s.o Obj.MAC_RDV_SLOTS = 0 →
    exec (.cipherSchedBlock tag sf drift tsync) s = .next { s with rbytes := [] }) ∧
  (∀ (s : State) (tag sf drift tsync : Nat) (o place : Bytes), s.o Obj.MAC_RDV_SLOTS ≠ 0 →
    s.permits (s.o Obj.MAC_RDV_KEY) 3 = true → o = Config.aesBlock (s.keyOf (s.o Obj.MAC_RDV_KEY)) (rdvBlock tag sf) →
    s.guard drift tsync ≤ s.o Obj.MAC_RDV_GMAX →
    place = leBytes 8 (tt64 (superStart (linear sf) + frameT * (fieldN o 0 2 % 100) +
        slotT * setBitNo (s.o Obj.MAC_RDV_SLOTS) (fieldN o 2 1 % popCount 8 (s.o Obj.MAC_RDV_SLOTS)) +
        (if fieldN o 3 1 % 2 = 0 then 1200 else 24000))) ++
      leBytes 4 (s.o Obj.MAC_RDV_BASE_HZ + 1000000 * (fieldN o 4 2 % s.o Obj.MAC_RDV_NCH)) ++ leBytes 4 (s.guard drift tsync) →
    exec (.cipherSchedBlock tag sf drift tsync) s = .next { s with rbytes := sliceB o 0 16 ++ place })

/-- A counter that a sequence window has accepted is a duplicate when it comes again, one below its floor or 64 or more behind the highest is a replay, and the highest counter never falls -/
def Obligations.SequenceWindowTakesACounterOnce : Prop :=
  (∀ (w v : SeqWin) (roll : Option (Nat × Nat)) (k c : Nat) (r : Bool), w.floor ≤ w.h → w.judge roll k c = (0, r, v) →
    v.judge roll k c = (1, false, v) ∧ v.floor ≤ v.h) ∧
  (∀ (w : SeqWin) (roll : Option (Nat × Nat)) (c : Nat), c ≤ w.h → c + 64 ≤ w.h ∨ c < w.floor →
    w.judge roll w.key c = (2, false, w)) ∧
  (∀ (w v : SeqWin) (roll : Option (Nat × Nat)) (c n : Nat) (r : Bool), w.judge roll w.key c = (n, r, v) →
    w.h ≤ v.h ∧ v.key = w.key ∧ v.floor = w.floor)

/-- A flood message in front is dropped by the first check that fails, counted as a duplicate, or delivered once and relayed; its wired and radio steps are sent, bound and end at their deadlines -/
def Obligations.FloodMessagesAreTakenOnce : Prop :=
  (∀ (s t : State) (m : InMsg) (code : Nat), s.sysclk = true → s.takeMsg (fun m => m.flood) = (some m, t) →
    t.floodCheck m.msg = some code →
    exec .floodTake s = .next (t.floodDrop m code)) ∧
  (∀ (s t : State) (m : InMsg), s.sysclk = true → s.takeMsg (fun m => m.flood) = (some m, t) →
    t.floodCheck m.msg = none → t.huskHit m.msg = true →
    exec .floodTake s = .next (t.floodDup m)) ∧
  (∀ (s t : State) (m : InMsg), s.sysclk = true → s.takeMsg (fun m => m.flood) = (some m, t) →
    t.floodCheck m.msg = none → t.huskHit m.msg = false → t.ringUsed Obj.FLD_DQ_PROD Obj.FLD_DQ_CONS < 256 →
    exec .floodTake s = .next (t.floodNew m)) ∧
  (∀ (s : State), s.sysclk = false →
    exec .floodTake s = .next s) ∧
  (∀ (s : State) (p : Fin 2) (j : StepJob), s.wireJob p = some j → ¬ j.wireBy < s.now → s.hasPeer p = true →
    s.fab.wires[p].avail ≠ 0 → s.ctrReady (s.o Obj.FAB_KEY) 4 = true →
    ∃ t, s.wireSend p j.msg true = some t ∧ exec (.floodWiredSend p) s = .next (t.stepEnd j.ticket p 0)) ∧
  (∀ (s : State) (p : Fin 2) (j : StepJob), s.wireJob p = some j → j.wireBy < s.now →
    exec (.floodWiredSend p) s = .next (s.stepEnd j.ticket p 0x14)) ∧
  (∀ (s : State) (t : Nat) (p : Fin 2) (j : StepJob), s.stepJob t = some j → j.fabric = false →
    exec (.floodWiredDeadline t p) s = .next ((s.upTo j.wireBy).stepEnd t p 0x14)) ∧
  (∀ (s u : State) (t : Nat) (j : StepJob),
    s.steps.jobs.find? (fun j => j.ticket == t && j.jitter && !j.fabric) = some j →
    u = (s.upTo j.e).modJob t (fun j => { j with jitter := false }) → u.recState (ledAddr t) ≠ 1 →
    u.o (Obj.FLD_Cc_SUPPRESS j.cls) = 0 →
    exec (.floodJitterEnd t) s = .next ((fin4.filter (fun n => bitOf j.sel (2 + n.val))).foldl
      (fun s n => s.radioStep j n (2 + n.val) j.cls 0xFFF) u)) ∧
  (∀ (s : State) (who : Fin 8) (n : Fin 4) (i : Nat) (j : StepJob), i ≤ 15 → s.descState false n i = 1 →
    s.descJob false n i = some j → ttValid (s.rn (s.descAddr false n i + 24) 8) = true →
    j.e + 384 ≤ linear (s.rn (s.descAddr false n i + 24) 8) →
    linear (s.rn (s.descAddr false n i + 24) 8) + s.rn (s.descAddr false n i + 6) 2 ≤ j.x →
    exec (.relayBind who n i) s = .next ((s.setDesc false n i 2).modSteps (fun x => { x with
      binds := x.binds ++ [⟨false, n, i, j.ticket, radioStepNo false n, linear (s.rn (s.descAddr false n i + 24) 8), none⟩] }))) ∧
  (∀ (s : State) (n : Fin 4) (i : Nat) (j : StepJob), s.descState false n i = 1 → s.descJob false n i = some j →
    exec (.relayDeadline n i) s = .next ((((s.upTo j.x).setDesc false n i 0).miss 9 5 j.x).stepEnd j.ticket (2 + n) 0x10)) ∧
  (∀ (s : State) (n : Fin 4) (i : Nat) (b : BindSt),
    s.steps.binds.find? (fun b => b.fabric == false && b.slice == n && b.desc == i && b.follows.isNone) = some b →
    (s.upTo (b.at_ - 384)).slices[n].runs.find? (fun r => decide (r.start = b.at_) && eKind r.body == 1 &&
      fieldN r.body 28 4 == (s.upTo (b.at_ - 384)).bufAddr false n i) = none →
    exec (.relayBoundSettle n i) s = .next ((((s.upTo (b.at_ - 384)).unbind b).miss 9 5 (b.at_ - 384)).stepEnd b.ticket b.step 0x13)) ∧
  (∀ (s : State) (who : Fin 8) (v : Nat), consOk 65536 (s.o Obj.FLD_DQ_CONS) (s.o Obj.FLD_DQ_PROD) v = true →
    exec (.fldDqConsWrite who v) s = .next (s.setO Obj.FLD_DQ_CONS v)) ∧
  (∀ (s : State) (who : Fin 8) (v : Nat), consOk 65536 (s.o Obj.FLD_DQ_CONS) (s.o Obj.FLD_DQ_PROD) v = false →
    exec (.fldDqConsWrite who v) s = .next (s.dropped (windowAddr Obj.FLD_DQ_CONS) v who 3)) ∧
  (∀ (s : State) (who : Fin 8) (a : Nat) (x : JobSt), (s.submitKind who a 7).engineJob who = some x →
    dKind x.desc = 7 →
    exec (.jobFlood who a) s = .next ((s.submitKind who a 7).floodAccept x)) ∧
  (∀ (s : State) (who : Fin 8) (a : Nat) (x : JobSt), (s.submitKind who a 8).engineJob who = some x →
    dKind x.desc = 8 →
    exec (.jobSend who a) s = .next ((s.submitKind who a 8).sendAccept x))

/-- The fabric takes datagrams on a port that is up, sends and takes HELLOs, loses a silent peer and accepts a Trail commit -/
def Obligations.FabricDatagramsAndPeers : Prop :=
  (∀ (s : State) (p : Fin 2) (hop : Nat) (sumOk : Bool) (d : Bytes), s.portUp p = true →
    exec (.fabricDatagramRx p hop sumOk d) s = .next (s.fabricRx p hop sumOk d)) ∧
  (∀ (s : State) (p : Fin 2) (hop : Nat) (sumOk : Bool) (d : Bytes), s.portUp p = true → 1024 < d.length →
    exec (.fabricDatagramRx p hop sumOk d) s = .next (s.inc (Obj.FAB_Wp_RXDROP p))) ∧
  (∀ (s : State) (p : Fin 2), 3 ≤ s.fab.wires[p].quiet → s.hasPeer p = true → s.o Obj.FAB_PARENT_VIA ≠ p →
    ∃ t, exec (.peerLost p) s = .next t ∧ t.o (Obj.FAB_Wp_STATE p) = 1 ∧ t.o (Obj.FAB_Wp_PEER p) = 0 ∧
      t.o (Obj.FAB_Wp_PEER_UID p) = 0 ∧ t.mem = s.mem ∧ t.cores = s.cores) ∧
  (∀ (s : State) (p : Fin 2), s.portUp p = true → s.ctrReady (s.o Obj.FAB_KEY) 4 = true →
    ∃ t, s.wireSend p (s.hello p) false = some t ∧ exec (.helloSend p) s = .next t) ∧
  (∀ (s t : State) (p : Fin 2) (m : InMsg), s.takeMsg (fun m => m.kind == 1 && m.src == 4 + p.val) = (some m, t) →
    m.msg.length = 22 →
    exec (.helloRx p) s = .next ((t.dropMsg m).helloTake p m)) ∧
  (∀ (s : State) (who : Fin 8) (v : Nat), v ≤ 1 → v ≠ s.o Obj.FAB_TRAIL_CUR →
    exec (.fabTrailCommit who v) s = .next (s.modFab (fun x => { x with trailNext := some v }))) ∧
  (∀ (s : State) (who : Fin 8) (v : Nat), 1 < v →
    exec (.fabTrailCommit who v) s = .next (s.dropped (windowAddr Obj.FAB_TRAIL_COMMIT) v who 3))

/-- An anchor that has listened claims an address, holds it after the claim wait, and CLAIM and CONFLICT messages are judged; a conflict that stays open after FAB_CONFLICT_WAIT loses the address -/
def Obligations.AddressesAreTakenAndDefended : Prop :=
  (∀ (s : State) (a k : Nat), s.o Obj.FAB_ADDR_STATE = 1 → s.fab.stateSf + s.o Obj.FAB_LISTEN ≤ s.runSf →
    s.addrPick = some (a, k) →
    exec .addrListenEnd s = .next
      ((((((s.putAddr a).setO Obj.FAB_HELD_SINCE (tt64 s.now)).addrState 2).modFab (fun x => { x with attempt := k })).firmFlood 5 1 15
        ([0, 0] ++ leBytes 2 a ++
          leBytes 8 ((((s.putAddr a).setO Obj.FAB_HELD_SINCE (tt64 s.now)).addrState 2).modFab (fun x => { x with attempt := k })
            |>.o Obj.ID_UID) ++
          leBytes 8 ((((s.putAddr a).setO Obj.FAB_HELD_SINCE (tt64 s.now)).addrState 2).modFab (fun x => { x with attempt := k })
            |>.o Obj.FAB_HELD_SINCE))))) ∧
  (∀ (s : State), s.o Obj.FAB_ADDR_STATE = 2 → s.fab.stateSf + s.o Obj.FAB_CLAIM_WAIT ≤ s.runSf →
    exec .addrClaimWaitEnd s = .next (s.addrState 3).unparkAll) ∧
  (∀ (s : State) (i : Nat), fieldN (s.floodElem i) 1 1 = 1 → (s.elemPayload (s.floodElem i)).length = 20 →
    fieldN (s.elemPayload (s.floodElem i)) 0 1 = 0 →
    exec (.claimRx i) s = .next (s.claimTake (conflictOf (s.elemPayload (s.floodElem i))))) ∧
  (∀ (s : State) (i : Nat), fieldN (s.floodElem i) 1 1 = 1 → (s.elemPayload (s.floodElem i)).length = 36 →
    fieldN (s.elemPayload (s.floodElem i)) 0 1 = 1 →
    exec (.claimRx i) s = .next (s.conflictTake (conflictOf (s.elemPayload (s.floodElem i))))) ∧
  (∀ (s : State) (d : ConflictDue), firstDue s.fab.due = some d →
    exec .conflictOriginate s = .next
      ((((s.upTo d.at_).modFab (fun x => { x with
          due := s.fab.due.erase d
          sent := ((conflictOf d.body).pair, (s.upTo d.at_).runSf) :: x.sent.filter (fun y => y.1 != (conflictOf d.body).pair) })).firmFlood
        5 1 15 d.body).conflictTake (conflictOf d.body))) ∧
  (∀ (s : State), s.o Obj.FAB_ADDR_STATE = 4 → s.fab.stateSf + s.o Obj.FAB_CONFLICT_WAIT ≤ s.runSf →
    exec .conflictWaitEnd s = .next ((s.drawn).conflictEvent (s.ownConflict 1 (s.freeBelow (2 ^ 64)) 0)).addrLose)

/-- A UNICAST for this anchor is delivered, one for another is forwarded by its route, and the forward queue's descriptors are bound and end at their deadline -/
def Obligations.UnicastsAreForwardedOrDelivered : Prop :=
  (∀ (s t u v : State) (m : InMsg) (due : Nat), s.takeMsg (fun m => m.kind == 5) = (some m, t) → 18 ≤ m.msg.length →
    fieldN m.msg 16 2 + 18 = m.msg.length → uniAddr (fieldN m.msg 4 2) = true → uniAddr (fieldN m.msg 2 2) = true →
    t.dueMiss (fieldN m.msg 8 8) m.at_ = (due, u) → u.holdsAddr = true → fieldN m.msg 4 2 % 4096 = u.o Obj.FAB_ADDR →
    u.uniDeliver m.src m.msg (m.addrOf 18) = some v →
    exec .unicastTake s = .next (v.keepMsg m)) ∧
  (∀ (s t u : State) (m : InMsg) (due : Nat), s.takeMsg (fun m => m.kind == 5) = (some m, t) → 18 ≤ m.msg.length →
    fieldN m.msg 16 2 + 18 = m.msg.length → uniAddr (fieldN m.msg 4 2) = true → uniAddr (fieldN m.msg 2 2) = true →
    t.dueMiss (fieldN m.msg 8 8) m.at_ = (due, u) → fieldN m.msg 4 2 % 4096 ≠ u.o Obj.FAB_ADDR →
    exec .unicastTake s = .next (u.uniForward m due)) ∧
  (∀ (s : State) (p : Fin 2) (j : StepJob), s.steps.jobs.find? (fun j => j.fabric && j.cls == p.val) = some j →
    ¬ j.wireBy < s.now → s.creditFor p = true →
    exec (.unicastWiredSend p) s = .next ((s.dueMiss j.due s.now).2.wireStep p j 0)) ∧
  (∀ (s : State) (p : Fin 2) (j : StepJob), s.steps.jobs.find? (fun j => j.fabric && j.cls == p.val) = some j →
    ¬ j.wireBy < s.now → s.creditFor p = false →
    exec (.unicastWiredSend p) s = .next (s.wireStep p j 0)) ∧
  (∀ (s : State) (p : Fin 2) (j : StepJob), s.steps.jobs.find? (fun j => j.fabric && j.cls == p.val) = some j →
    j.wireBy < s.now →
    exec (.unicastWiredSend p) s = .next (s.stepEnd j.ticket 0 0x14)) ∧
  (∀ (s : State) (who : Fin 8) (n : Fin 4) (i : Nat) (j : StepJob), i ≤ 15 → s.descState true n i = 1 →
    s.descJob true n i = some j → ttValid (s.rn (s.descAddr true n i + 24) 8) = true →
    j.e + 384 ≤ linear (s.rn (s.descAddr true n i + 24) 8) →
    linear (s.rn (s.descAddr true n i + 24) 8) + s.rn (s.descAddr true n i + 6) 2 ≤ j.x →
    exec (.forwardBind who n i) s = .next ((s.setDesc true n i 2).modSteps (fun x => { x with
      binds := x.binds ++ [⟨true, n, i, j.ticket, radioStepNo true n, linear (s.rn (s.descAddr true n i + 24) 8), none⟩] }))) ∧
  (∀ (s : State) (n : Fin 4) (i : Nat) (j : StepJob), s.descState true n i = 1 → s.descJob true n i = some j →
    exec (.forwardDeadline n i) s = .next (((s.upTo j.x).setDesc true n i 0).stepEnd j.ticket 0 0x10)) ∧
  (∀ (s : State) (n : Fin 4) (i : Nat) (b : BindSt),
    s.steps.binds.find? (fun b => b.fabric == true && b.slice == n && b.desc == i && b.follows.isNone) = some b →
    (s.upTo (b.at_ - 384)).slices[n].runs.find? (fun r => decide (r.start = b.at_) && eKind r.body == 1 &&
      fieldN r.body 28 4 == (s.upTo (b.at_ - 384)).bufAddr true n i) = none →
    exec (.forwardBoundSettle n i) s = .next (((s.upTo (b.at_ - 384)).unbind b).stepEnd b.ticket b.step 0x13))

/-- A parent is chosen by the keys of R292, an anchor without candidates becomes the reference, TIME_REQ and TIME_RSP carry the instants of R294, and the superframe check counts misses -/
def Obligations.TimingFollowsParents : Prop :=
  (∀ (s : State) (d : Cand), s.splitCand = none → firstCand s.cands = some d → s.o Obj.TMB_SYNC_STATE ≠ 3 →
    s.o Obj.FAB_PARENT_VIA = 0xFF →
    exec .parentSwitch s = .next (s.takeParent d).chosenState) ∧
  (∀ (s : State) (d p : Cand), s.splitCand = none → firstCand s.cands = some d → s.o Obj.TMB_SYNC_STATE ≠ 3 →
    s.o Obj.TMB_SYNC_STATE ≠ 5 → s.o Obj.FAB_PARENT_VIA ≠ 0xFF → s.parentCand = some p →
    exec .parentSwitch s = .next (if (d.via ≠ p.via ∨ d.addr ≠ p.addr) ∧ s.betterThan p d = true then s.takeParent d else s)) ∧
  (∀ (s : State), s.o Obj.FAB_TIME_RANK < 255 → s.o Obj.TMB_SYNC_STATE = 0 → s.holdsAddr = true → s.cands = [] →
    s.outranked = false →
    exec .referenceTake s = .next
      (((((s.noParent.syncState 3).setO Obj.FAB_ERR 0).setO Obj.FAB_HOPS 0)).setO Obj.FAB_TREF (s.o Obj.FAB_ADDR))) ∧
  (∀ (s : State) (p : Fin 2), s.hasPeer p = true → s.o Obj.FAB_PARENT_VIA = p ∨ s.prospect p = true →
    s.ctrReady (s.o Obj.FAB_KEY) 4 = true →
    ∃ t, s.wireSend p ([2] ++ leBytes 1 ((s.fab.wires[p].tseq + 1) % 256) ++ [0, 0]) false = some t ∧
      exec (.timeReqSend p) s = .next (t.modWire p (fun w => { w with
        tseq := (s.fab.wires[p].tseq + 1) % 256, t1 := if s.portWaits p = true then none else some t.now, reqHeld := s.portWaits p }))) ∧
  (∀ (s t : State) (p : Fin 2) (m : InMsg), s.takeMsg (fun m => m.kind == 2 && m.src == 4 + p.val) = (some m, t) →
    m.msg.length = 4 →
    exec (.timeReqRx p) s = .next ((t.dropMsg m).modWire p (fun w => { w with rsp := some (fieldN m.msg 1 1, m.at_) }))) ∧
  (∀ (s : State) (p : Fin 2) (q : Nat) (t2 : Instant), s.fab.wires[p].rsp = some (q, t2) →
    s.ctrReady (s.o Obj.FAB_KEY) 4 = true →
    ∃ t, ((s.modWire p (fun w => { w with rsp := none })).upTo (t2 + 76800)).wireSend p
        ([3] ++ leBytes 1 q ++ [0, 0] ++ leBytes 8 (tt64 t2) ++ leBytes 8 (tt64 (t2 + 76800))) false = some t ∧
      exec (.timeRspSend p) s = .next (t.portFree p)) ∧
  (∀ (s t : State) (p : Fin 2) (m : InMsg) (t1 : Instant),
    s.takeMsg (fun m => m.kind == 3 && m.src == 4 + p.val) = (some m, t) → (t.dropMsg m).fab.wires[p].t1 = some t1 →
    m.msg.length = 20 → fieldN m.msg 1 1 = (t.dropMsg m).fab.wires[p].tseq →
    m.uid = (t.dropMsg m).o (Obj.FAB_Wp_PEER_UID p) → ttValid (fieldN m.msg 4 8) = true →
    ttValid (fieldN m.msg 12 8) = true → m.at_ ≤ t1 + 384000 →
    exec (.timeRspRx p) s = .next (((t.dropMsg m).modWire p (fun w => { w with t1 := none })).timeRsp p t1
      (linear (fieldN m.msg 4 8)) (linear (fieldN m.msg 12 8)) m.at_)) ∧
  (∀ (s : State) (p : Fin 2) (t1 : Instant), s.fab.wires[p].t1 = some t1 → s.o Obj.FAB_PARENT_VIA = p →
    exec (.timeExchangeMiss p) s = .next (((s.upTo (t1 + 384000)).modWire p (fun w => { w with t1 := none })).timeMiss)) ∧
  (∀ (s : State) (n : Fin 4) (i a e : Nat) (body : Bytes) (x : RadioNb) (th : Int),
    s.beaconAt n i = some (a, e, body) →
    th = 2 * ((linear (fieldN body 0 8) : Int) - ((e : Int) - lofdmDur (fieldN (s.rxElemAt n i) 8 2) 0 88)) →
    ttValid (fieldN body 0 8) = true → s.fab.nbs.find? (fun x => x.addr == a) = some x →
    ¬ (s.o Obj.FAB_PARENT_VIA = 2 ∧ s.o Obj.FAB_PARENT = a) →
    exec (.beaconTimeMeasure n i) s = .next (s.modFab (fun f => { f with
      nbs := f.nbs.map (fun y => if y.addr = a then { y with theta := some (y.theta.getD th) } else y) }))) ∧
  (∀ (s : State), s.o Obj.FAB_PARENT_VIA = 0xFF →
    exec .timingSuperframeCheck s = .next (s.modFab (fun x => { x with measured := false, missed := false }))) ∧
  (∀ (s : State), s.o Obj.FAB_PARENT_VIA ≠ 0xFF → s.countMisses.o Obj.FAB_PARENT_VIA ≠ 0xFF →
    3 ≤ s.countMisses.o Obj.FAB_MISSES →
    exec .timingSuperframeCheck s = .next (s.countMisses.thirdMiss.modFab (fun x => { x with measured := false, missed := false }))) ∧
  (∀ (s : State) (who : Fin 8) (v : Nat), ttValid v = true → s.mayStep = true → s.fab.acquired = false →
    exec (.fabTimeSet who v) s = .next (s.stepTime (linear v))) ∧
  (∀ (s : State) (who : Fin 8) (v : Nat), ttValid v = false →
    exec (.fabTimeSet who v) s = .next (s.dropped (windowAddr Obj.FAB_TIME_SET) v who 3)) ∧
  (∀ (s : State) (who : Fin 8) (v : Nat), ttValid v = true → s.mayStep = false ∨ s.fab.acquired = true →
    exec (.fabTimeSet who v) s = .next (s.dropped (windowAddr Obj.FAB_TIME_SET) v who 6))

/-- A beacon updates its radio neighbour, LINKSTATE records are originated, stored and expired, a change of the database starts a route run, and the unicast ring's consumer index moves -/
def Obligations.RoutesFollowTheLinkStates : Prop :=
  (∀ (s : State) (n : Fin 4) (i a t : Nat) (body : Bytes), s.beaconAt n i = some (a, t, body) →
    exec (.radioNeighbourUpdate n i) s = .next
      ((let x := ((s.fab.nbs.find? (fun y => y.addr == a)).getD { addr := a }).hear n (toI 16 (fieldN (s.rxElemAt n i) 16 2)) t body
        (s.modFab (fun f => { f with nbs := x :: f.nbs.filter (fun y => y.addr != a) })).rnbPut x))) ∧
  (∀ (s v u : State), s.o Obj.FAB_ADDR_STATE = 3 → s.fab.lsaSf = none → v = s.firmFlood 5 0 15 s.lsaNow →
    u = v.lsdbWrite (v.o Obj.FAB_ADDR) (stampOf s.now) s.lsaNow →
    exec .lsaOriginate s = .next (u.modFab (fun x => { x with lsaSf := some u.runSf, lsaAt := u.run, lsaBody := s.lsaNow }))) ∧
  (∀ (s : State) (t : Nat), s.fab.lsaSf = some t → s.run < s.fab.lsaAt + 2 * superT →
    exec .lsaOriginate s = .next s) ∧
  (∀ (s : State) (i : Nat), fieldN (s.floodElem i) 1 1 = 0 → 24 ≤ (s.elemPayload (s.floodElem i)).length →
    (s.elemPayload (s.floodElem i)).length = 24 + 4 * fieldN (s.elemPayload (s.floodElem i)) 22 1 →
    (s.elemPayload (s.floodElem i)).length ≤ 152 →
    (s.detectLsdb (fieldN (s.floodElem i) 2 2 % 4096) (fieldN (s.elemPayload (s.floodElem i)) 0 8) (fieldN (s.elemPayload (s.floodElem i)) 8 8) 1).lsdbValid (fieldN (s.floodElem i) 2 2 % 4096) = false →
    exec (.lsdbUpdate i) s = .next ((s.detectLsdb (fieldN (s.floodElem i) 2 2 % 4096) (fieldN (s.elemPayload (s.floodElem i)) 0 8)
        (fieldN (s.elemPayload (s.floodElem i)) 8 8) 1).lsdbWrite (fieldN (s.floodElem i) 2 2 % 4096) (s.elemStamp (s.floodElem i))
          (s.elemPayload (s.floodElem i)))) ∧
  (∀ (s : State) (a : Nat), s.lsdbValid a = true →
    ((2400 * s.o Obj.FAB_LSA_PERIOD : Nat) : Int) ≤ stampDiff (stampOf s.now) (s.rn (s.lsdbAddr a) 4) →
    exec (.lsdbRecordExpire a) s = .next (s.lsdbDrop a)) ∧
  (∀ (s : State) (l : List (Nat × Bytes)), s.fab.spfTick ≠ some (s.now / frameT) → s.fab.spf = some l →
    exec .spfRun s = .next ((s.modFab (fun x => { x with spfTick := some (s.now / frameT) })).spfShare l)) ∧
  (∀ (s u : State), s.fab.spfTick ≠ some (s.now / frameT) → s.fab.spf = none → s.fab.spfGen ≠ s.o Obj.FAB_LSDB_GEN →
    u = s.modFab (fun x => { x with spfTick := some (s.now / frameT) }) →
    exec .spfRun s = .next (({ u with draws := u.draws + 8192 }.modFab (fun x => { x with spfGen := s.o Obj.FAB_LSDB_GEN })).spfShare u.spfPlan)) ∧
  (∀ (s : State), s.fab.spfTick = some (s.now / frameT) →
    exec .spfRun s = .next s) ∧
  (∀ (s : State) (who : Fin 8) (v : Nat), consOk 65536 (s.o Obj.FAB_UQ_CONS) (s.o Obj.FAB_UQ_PROD) v = true →
    exec (.fabUqConsWrite who v) s = .next (s.setO Obj.FAB_UQ_CONS v))

/-- Each stack and literal instruction that is ready pops its inputs, pushes its outputs and goes on at the next instruction, and changes nothing else -/
def Obligations.GragilStackInstructionsComplete : Prop :=
  (∀ (s : State) (c : Fin 8), s.ready c 1 0 0 0 0 = true →
    exec (.nop c) s = .next (s.retired c 0 [] 0 [] (s.cores[c].after 1))) ∧
  (∀ (s : State) (c : Fin 8) (a : Nat), s.ready c 1 1 2 0 0 = true → s.dTop c 1 = [a] →
    exec (.dup c) s = .next (s.retired c 1 [a, a] 0 [] (s.cores[c].after 1))) ∧
  (∀ (s : State) (c : Fin 8) (a : Nat), s.ready c 1 1 0 0 0 = true → s.dTop c 1 = [a] →
    exec (.drop c) s = .next (s.retired c 1 [] 0 [] (s.cores[c].after 1))) ∧
  (∀ (s : State) (c : Fin 8) (a b : Nat), s.ready c 1 2 2 0 0 = true → s.dTop c 2 = [a, b] →
    exec (.swap c) s = .next (s.retired c 2 [b, a] 0 [] (s.cores[c].after 1))) ∧
  (∀ (s : State) (c : Fin 8) (a b : Nat), s.ready c 1 2 3 0 0 = true → s.dTop c 2 = [a, b] →
    exec (.overElem c) s = .next (s.retired c 2 [a, b, a] 0 [] (s.cores[c].after 1))) ∧
  (∀ (s : State) (c : Fin 8) (a b d : Nat), s.ready c 1 3 3 0 0 = true → s.dTop c 3 = [a, b, d] →
    exec (.rot c) s = .next (s.retired c 3 [b, d, a] 0 [] (s.cores[c].after 1))) ∧
  (∀ (s : State) (c : Fin 8) (a b : Nat), s.ready c 1 2 1 0 0 = true → s.dTop c 2 = [a, b] →
    exec (.nip c) s = .next (s.retired c 2 [b] 0 [] (s.cores[c].after 1))) ∧
  (∀ (s : State) (c : Fin 8) (n : Nat), s.ready c 1 1 1 0 0 = true → s.dTop c 1 = [n] → n < s.cores[c].dDepth - 1 →
    exec (.pick c) s =
      .next (s.retired c 1 [s.stackGet s.cores[c] (s.cores[c].dp + s.cores[c].de * (n + 1)) s.cores[c].de] 0 []
        (s.cores[c].after 1))) ∧
  (∀ (s : State) (c : Fin 8), s.ready c 1 0 1 0 0 = true →
    exec (.depth c) s = .next (s.retired c 0 [s.cores[c].dDepth % 2 ^ s.cores[c].w] 0 [] (s.cores[c].after 1))) ∧
  (∀ (s : State) (c : Fin 8) (a : Nat), s.ready c 1 1 0 0 1 = true → s.dTop c 1 = [a] →
    exec (.tor c) s = .next (s.retired c 1 [] 0 [a] (s.cores[c].after 1))) ∧
  (∀ (s : State) (c : Fin 8) (a : Nat), s.ready c 1 0 1 1 0 = true → s.rTop c 1 = [a] → a < 2 ^ s.cores[c].w →
    exec (.fromr c) s = .next (s.drawn.retired c 0 [a] 1 [] (s.cores[c].after 1))) ∧
  (∀ (s : State) (c : Fin 8) (a : Nat), s.ready c 1 0 1 1 1 = true → s.rTop c 1 = [a] → a < 2 ^ s.cores[c].w →
    exec (.rfetch c) s = .next (s.drawn.retired c 0 [a] 1 [a] (s.cores[c].after 1))) ∧
  (∀ (s : State) (c : Fin 8) (i : Nat), s.ready c 2 0 1 0 0 = true →
    exec (.lit8 c i) s = .next (s.retired c 0 [sextW 8 s.cores[c].w i] 0 [] (s.cores[c].after 2))) ∧
  (∀ (s : State) (c : Fin 8) (i : Nat), s.cores[c].sprout = false → s.ready c 3 0 1 0 0 = true →
    exec (.lit16 c i) s = .next (s.retired c 0 [sextW 16 32 i] 0 [] (s.cores[c].after 3))) ∧
  (∀ (s : State) (c : Fin 8) (i : Nat), s.cores[c].sprout = true → s.ready c 3 0 2 0 0 = true →
    exec (.lit16 c i) s = .next (s.retired c 0 [i % 256, i / 256 % 256] 0 [] (s.cores[c].after 3))) ∧
  (∀ (s : State) (c : Fin 8) (i : Nat), s.cores[c].sprout = false → s.ready c 5 0 1 0 0 = true →
    exec (.lit32 c i) s = .next (s.retired c 0 [i % 2 ^ 32] 0 [] (s.cores[c].after 5))) ∧
  (∀ (s : State) (c : Fin 8) (n : Fin 16), s.ready c 1 0 1 0 0 = true →
    exec (.litn c n) s = .next (s.retired c 0 [n.val] 0 [] (s.cores[c].after 1)))

/-- Each arithmetic instruction that is ready pushes the result of R405 with OV and C as R407 and R408 set them, for elements of 32 bits and of 8 in Sprout mode -/
def Obligations.GragilArithmeticCompletes : Prop :=
  (∀ (s : State) (c : Fin 8) (w a b : Nat), w = s.cores[c].w → s.ready c 1 2 1 0 0 = true → s.dTop c 2 = [a, b] →
    exec (.add c) s = .next ((s.modCore c (fun x => { x with
        ov := sOut w (toI w a + toI w b)
        c := decide (2 ^ w ≤ a + b) })).retired c 2 [(a + b) % 2 ^ w] 0 []
          (s.cores[c].after 1))) ∧
  (∀ (s : State) (c : Fin 8) (w a b : Nat), w = s.cores[c].w → s.ready c 1 2 1 0 0 = true → s.dTop c 2 = [a, b] →
    exec (.sub c) s = .next ((s.modCore c (fun x => { x with
        ov := sOut w (toI w a - toI w b)
        c := decide (a < b) })).retired c 2 [(a + 2 ^ w - b) % 2 ^ w] 0 []
          (s.cores[c].after 1))) ∧
  (∀ (s : State) (c : Fin 8) (w a : Nat), w = s.cores[c].w → s.ready c 1 1 1 0 0 = true → s.dTop c 1 = [a] →
    exec (.neg c) s = .next ((s.modCore c (fun x => { x with
        ov := decide (a = 2 ^ (w - 1))
        c := decide (a ≠ 0) })).retired c 1 [(2 ^ w - a) % 2 ^ w] 0 []
          (s.cores[c].after 1))) ∧
  (∀ (s : State) (c : Fin 8) (w a b : Nat), w = s.cores[c].w → s.ready c 1 2 1 0 0 = true → s.dTop c 2 = [a, b] →
    exec (.mul c) s = .next ((s.modCore c (fun x => { x with
        ov := sOut w (toI w a * toI w b)
        c := decide (2 ^ w ≤ a * b) })).retired c 2 [a * b % 2 ^ w] 0 []
          (s.cores[c].after 1))) ∧
  (∀ (s : State) (c : Fin 8) (w a b : Nat), w = s.cores[c].w → s.ready c 1 2 2 0 0 = true → s.dTop c 2 = [a, b] →
    exec (.mull c) s = .next ((s.modCore c (fun x => { x with
        ov := false
        c := false })).retired c 2 [ofI (2 * w) (toI w a * toI w b) % 2 ^ w, ofI (2 * w) (toI w a * toI w b) / 2 ^ w] 0 []
          (s.cores[c].after 1))) ∧
  (∀ (s : State) (c : Fin 8) (w a b : Nat), w = s.cores[c].w → s.ready c 1 2 2 0 0 = true → s.dTop c 2 = [a, b] →
    exec (.mullu c) s = .next ((s.modCore c (fun x => { x with
        ov := false
        c := false })).retired c 2 [a * b % 2 ^ w, a * b / 2 ^ w % 2 ^ w] 0 []
          (s.cores[c].after 1))) ∧
  (∀ (s : State) (c : Fin 8) (w a b : Nat), w = s.cores[c].w → s.ready c 1 2 2 0 0 = true → s.dTop c 2 = [a, b] →
    b ≠ 0 →
    exec (.divs c) s = .next ((s.modCore c (fun x => { x with
        ov := sOut w ((toI w a).tdiv (toI w b))
        c := false })).retired c 2 [ofI w (toI w a - (toI w a).tdiv (toI w b) * toI w b), ofI w ((toI w a).tdiv (toI w b))] 0 []
          (s.cores[c].after 1))) ∧
  (∀ (s : State) (c : Fin 8) (w a b : Nat), w = s.cores[c].w → s.ready c 1 2 2 0 0 = true → s.dTop c 2 = [a, b] →
    b ≠ 0 →
    exec (.divu c) s = .next ((s.modCore c (fun x => { x with
        ov := false
        c := false })).retired c 2 [a % b, a / b] 0 []
          (s.cores[c].after 1)))

/-- A division by 0 takes the DIVZERO trap at its own pc and leaves OV, C and the stacks to the trap -/
def Obligations.GragilDivisionByZeroTraps : Prop :=
  ∀ (s : State) (c : Fin 8) (a : Nat), s.ready c 1 2 2 0 0 = true → s.dTop c 2 = [a, 0] →
    exec (.divs c) s = .next (s.trap c 9 0 s.cores[c].pc.toNat) ∧ exec (.divu c) s = .next (s.trap c 9 0 s.cores[c].pc.toNat)

/-- Each logic, shift, rotate and compare instruction that is ready pushes its result and writes no flag; comparisons leave 1 or 0 -/
def Obligations.GragilLogicAndComparesComplete : Prop :=
  (∀ (s : State) (c : Fin 8) (w a b : Nat), w = s.cores[c].w → s.ready c 1 2 1 0 0 = true → s.dTop c 2 = [a, b] →
    exec (.and c) s = .next (s.retired c 2 [natAnd a b] 0 [] (s.cores[c].after 1))) ∧
  (∀ (s : State) (c : Fin 8) (w a b : Nat), w = s.cores[c].w → s.ready c 1 2 1 0 0 = true → s.dTop c 2 = [a, b] →
    exec (.or c) s = .next (s.retired c 2 [natOr a b] 0 [] (s.cores[c].after 1))) ∧
  (∀ (s : State) (c : Fin 8) (w a b : Nat), w = s.cores[c].w → s.ready c 1 2 1 0 0 = true → s.dTop c 2 = [a, b] →
    exec (.xor c) s = .next (s.retired c 2 [a ^^^ b] 0 [] (s.cores[c].after 1))) ∧
  (∀ (s : State) (c : Fin 8) (w a : Nat), w = s.cores[c].w → s.ready c 1 1 1 0 0 = true → s.dTop c 1 = [a] →
    exec (.not c) s = .next (s.retired c 1 [2 ^ w - 1 - a] 0 [] (s.cores[c].after 1))) ∧
  (∀ (s : State) (c : Fin 8) (w a b : Nat), w = s.cores[c].w → s.ready c 1 2 1 0 0 = true → s.dTop c 2 = [a, b] →
    exec (.shl c) s = .next (s.retired c 2 [if w ≤ b then 0 else a * 2 ^ b % 2 ^ w] 0 [] (s.cores[c].after 1))) ∧
  (∀ (s : State) (c : Fin 8) (w a b : Nat), w = s.cores[c].w → s.ready c 1 2 1 0 0 = true → s.dTop c 2 = [a, b] →
    exec (.shr c) s = .next (s.retired c 2 [if w ≤ b then 0 else a / 2 ^ b] 0 [] (s.cores[c].after 1))) ∧
  (∀ (s : State) (c : Fin 8) (w a b : Nat), w = s.cores[c].w → s.ready c 1 2 1 0 0 = true → s.dTop c 2 = [a, b] →
    exec (.sar c) s = .next (s.retired c 2 [ofI w (toI w a / ((2 ^ (min b w) : Nat) : Int))] 0 [] (s.cores[c].after 1))) ∧
  (∀ (s : State) (c : Fin 8) (w a b : Nat), w = s.cores[c].w → s.ready c 1 2 1 0 0 = true → s.dTop c 2 = [a, b] →
    exec (.rol c) s = .next (s.retired c 2 [(a * 2 ^ (b % w) + a / 2 ^ (w - b % w)) % 2 ^ w] 0 [] (s.cores[c].after 1))) ∧
  (∀ (s : State) (c : Fin 8) (w a b : Nat), w = s.cores[c].w → s.ready c 1 2 1 0 0 = true → s.dTop c 2 = [a, b] →
    exec (.ror c) s = .next (s.retired c 2 [rolW w a (w - b % w)] 0 [] (s.cores[c].after 1))) ∧
  (∀ (s : State) (c : Fin 8) (w a b : Nat), w = s.cores[c].w → s.ready c 1 2 1 0 0 = true → s.dTop c 2 = [a, b] →
    exec (.eq c) s = .next (s.retired c 2 [b2n (a == b)] 0 [] (s.cores[c].after 1))) ∧
  (∀ (s : State) (c : Fin 8) (w a b : Nat), w = s.cores[c].w → s.ready c 1 2 1 0 0 = true → s.dTop c 2 = [a, b] →
    exec (.ne c) s = .next (s.retired c 2 [b2n (a != b)] 0 [] (s.cores[c].after 1))) ∧
  (∀ (s : State) (c : Fin 8) (w a b : Nat), w = s.cores[c].w → s.ready c 1 2 1 0 0 = true → s.dTop c 2 = [a, b] →
    exec (.lt c) s = .next (s.retired c 2 [b2n (decide (toI w a < toI w b))] 0 [] (s.cores[c].after 1))) ∧
  (∀ (s : State) (c : Fin 8) (w a b : Nat), w = s.cores[c].w → s.ready c 1 2 1 0 0 = true → s.dTop c 2 = [a, b] →
    exec (.ltu c) s = .next (s.retired c 2 [b2n (decide (a < b))] 0 [] (s.cores[c].after 1))) ∧
  (∀ (s : State) (c : Fin 8) (w a b : Nat), w = s.cores[c].w → s.ready c 1 2 1 0 0 = true → s.dTop c 2 = [a, b] →
    exec (.gt c) s = .next (s.retired c 2 [b2n (decide (toI w b < toI w a))] 0 [] (s.cores[c].after 1))) ∧
  (∀ (s : State) (c : Fin 8) (w a b : Nat), w = s.cores[c].w → s.ready c 1 2 1 0 0 = true → s.dTop c 2 = [a, b] →
    exec (.gtu c) s = .next (s.retired c 2 [b2n (decide (b < a))] 0 [] (s.cores[c].after 1))) ∧
  (∀ (s : State) (c : Fin 8) (w a : Nat), w = s.cores[c].w → s.ready c 1 1 1 0 0 = true → s.dTop c 1 = [a] →
    exec (.eqz c) s = .next (s.retired c 1 [b2n (a == 0)] 0 [] (s.cores[c].after 1)))

/-- Each load of memory that is ready pushes what stands there, least significant byte first, extended as its name says, and leaves memory alone -/
def Obligations.GragilLoadsComplete : Prop :=
  (∀ (s : State) (c : Fin 8) (a cb : Nat), s.cores[c].sprout = false → s.ready c 1 1 1 0 0 = true → s.dTop c 1 = [a] →
    a < 2 ^ 32 → s.loadable c a 4 = true →
    exec (.ldw c cb) s = .next (s.retired c 1 [s.rn a 4] 0 [] (s.cores[c].after 1))) ∧
  (∀ (s : State) (c : Fin 8) (a cb : Nat), s.cores[c].sprout = false → s.ready c 1 1 1 0 0 = true → s.dTop c 1 = [a] →
    a < 2 ^ 32 → s.loadable c a 2 = true →
    exec (.ldh c cb) s = .next (s.retired c 1 [s.rn a 2] 0 [] (s.cores[c].after 1))) ∧
  (∀ (s : State) (c : Fin 8) (a cb : Nat), s.cores[c].sprout = false → s.ready c 1 1 1 0 0 = true → s.dTop c 1 = [a] →
    a < 2 ^ 32 → s.loadable c a 2 = true →
    exec (.ldhs c cb) s = .next (s.retired c 1 [sextW 16 32 (s.rn a 2)] 0 [] (s.cores[c].after 1))) ∧
  (∀ (s : State) (c : Fin 8) (a cb : Nat), s.cores[c].sprout = false → s.ready c 1 1 1 0 0 = true → s.dTop c 1 = [a] →
    a < 2 ^ 32 → s.loadable c a 1 = true →
    exec (.ldb c cb) s = .next (s.retired c 1 [s.rn a 1] 0 [] (s.cores[c].after 1))) ∧
  (∀ (s : State) (c : Fin 8) (a cb : Nat), s.cores[c].sprout = false → s.ready c 1 1 1 0 0 = true → s.dTop c 1 = [a] →
    a < 2 ^ 32 → s.loadable c a 1 = true →
    exec (.ldbs c cb) s = .next (s.retired c 1 [sextW 8 s.cores[c].w (s.rn a 1)] 0 [] (s.cores[c].after 1))) ∧
  (∀ (s : State) (c : Fin 8) (a cb0 cb1 : Nat), s.cores[c].sprout = false → s.ready c 1 1 2 0 0 = true →
    s.dTop c 1 = [a] → s.loadable c a 4 = true → s.loadable c (second a) 4 = true → s.held a 8 = false →
    exec (.ldd c cb0 cb1) s = .next (s.retired c 1 [s.rn a 4, s.rn (second a) 4] 0 [] (s.cores[c].after 1))) ∧
  (∀ (s : State) (c : Fin 8) (l : List Nat) (cb : Nat), s.cores[c].sprout = true → s.ready c 1 4 4 0 0 = true →
    s.dTop c 4 = l → s.loadable c (quad l 0) 4 = true →
    exec (.xldw c cb) s = .next (s.retired c 4 (unquad (s.rn (quad l 0) 4)) 0 [] (s.cores[c].after 1)))

/-- Each store that is ready writes the low bytes of its value at the address, least significant byte first; SWP and CAS push the old word, and CAS writes only when it equals the value compared -/
def Obligations.GragilStoresComplete : Prop :=
  (∀ (s : State) (c : Fin 8) (v a : Nat), s.cores[c].sprout = false → s.ready c 1 2 0 0 0 = true →
    s.dTop c 2 = [v, a] → a < 2 ^ 32 → s.storable c a 4 = true →
    exec (.stw c) s = .next ((s.wn a 4 (v % 2 ^ 32)).retired c 2 [] 0 [] (s.cores[c].after 1))) ∧
  (∀ (s : State) (c : Fin 8) (v a : Nat), s.cores[c].sprout = false → s.ready c 1 2 0 0 0 = true →
    s.dTop c 2 = [v, a] → a < 2 ^ 32 → s.storable c a 2 = true →
    exec (.sth c) s = .next ((s.wn a 2 (v % 2 ^ 16)).retired c 2 [] 0 [] (s.cores[c].after 1))) ∧
  (∀ (s : State) (c : Fin 8) (v a : Nat), s.cores[c].sprout = false → s.ready c 1 2 0 0 0 = true →
    s.dTop c 2 = [v, a] → a < 2 ^ 32 → s.storable c a 1 = true →
    exec (.stb c) s = .next ((s.wn a 1 (v % 2 ^ 8)).retired c 2 [] 0 [] (s.cores[c].after 1))) ∧
  (∀ (s : State) (c : Fin 8) (lo hi a : Nat), s.cores[c].sprout = false → s.ready c 1 3 0 0 0 = true →
    s.dTop c 3 = [lo, hi, a] → s.storable c a 4 = true → s.storable c (second a) 4 = true →
    (s.wn a 4 (lo % 2 ^ 32)).storable c (second a) 4 = true → s.held a 8 = false →
    exec (.std c) s = .next (((s.wn a 4 (lo % 2 ^ 32)).wn (second a) 4 (hi % 2 ^ 32)).retired c 3 [] 0 [] (s.cores[c].after 1))) ∧
  (∀ (s : State) (c : Fin 8) (v a : Nat), s.cores[c].sprout = false → s.ready c 1 2 1 0 0 = true →
    s.dTop c 2 = [v, a] → s.loadable c a 4 = true → a % 4 = 0 → writableMem a = true →
    exec (.swp c) s = .next ((s.wn a 4 v).retired c 2 [s.rn a 4] 0 [] (s.cores[c].after 1))) ∧
  (∀ (s : State) (c : Fin 8) (e v a : Nat), s.cores[c].sprout = false → s.ready c 1 3 1 0 0 = true →
    s.dTop c 3 = [e, v, a] → s.loadable c a 4 = true → a % 4 = 0 → writableMem a = true →
    exec (.cas c) s = .next ((if s.rn a 4 = e then s.wn a 4 v else s).retired c 3 [s.rn a 4] 0 [] (s.cores[c].after 1))) ∧
  (∀ (s : State) (c : Fin 8) (l : List Nat), s.cores[c].sprout = true → s.ready c 1 8 0 0 0 = true → s.dTop c 8 = l →
    s.storable c (quad l 4) 4 = true →
    exec (.xstw c) s = .next ((s.wn (quad l 4) 4 (quad l 0 % 2 ^ 32)).retired c 8 [] 0 [] (s.cores[c].after 1)))

/-- Each jump, branch, call and return that is ready goes on where R404 and R405 say: the signed offset counts from the next instruction -/
def Obligations.GragilControlFlowCompletes : Prop :=
  (∀ (s : State) (c : Fin 8) (off : Nat), s.ready c 3 0 0 0 0 = true →
    exec (.jmp c off) s = .next (s.retired c 0 [] 0 [] (s.cores[c].target 3 16 off))) ∧
  (∀ (s : State) (c : Fin 8) (off f : Nat), s.ready c 3 1 0 0 0 = true → s.dTop c 1 = [f] →
    exec (.jz c off) s =
      .next (s.retired c 1 [] 0 [] (if f = 0 then s.cores[c].target 3 16 off else s.cores[c].after 3))) ∧
  (∀ (s : State) (c : Fin 8) (off f : Nat), s.ready c 3 1 0 0 0 = true → s.dTop c 1 = [f] →
    exec (.jnz c off) s =
      .next (s.retired c 1 [] 0 [] (if f ≠ 0 then s.cores[c].target 3 16 off else s.cores[c].after 3))) ∧
  (∀ (s : State) (c : Fin 8) (off : Nat), s.ready c 2 0 0 0 0 = true →
    exec (.jmp8 c off) s = .next (s.retired c 0 [] 0 [] (s.cores[c].target 2 8 off))) ∧
  (∀ (s : State) (c : Fin 8) (off f : Nat), s.ready c 2 1 0 0 0 = true → s.dTop c 1 = [f] →
    exec (.jz8 c off) s =
      .next (s.retired c 1 [] 0 [] (if f = 0 then s.cores[c].target 2 8 off else s.cores[c].after 2))) ∧
  (∀ (s : State) (c : Fin 8) (off f : Nat), s.ready c 2 1 0 0 0 = true → s.dTop c 1 = [f] →
    exec (.jnz8 c off) s =
      .next (s.retired c 1 [] 0 [] (if f ≠ 0 then s.cores[c].target 2 8 off else s.cores[c].after 2))) ∧
  (∀ (s : State) (c : Fin 8) (off : Nat), s.ready c 3 0 0 0 1 = true →
    exec (.call c off) s = .next (s.retired c 0 [] 0 [s.cores[c].after 3] (s.cores[c].target 3 16 off))) ∧
  (∀ (s : State) (c : Fin 8) (a : Nat), s.ready c 1 0 0 1 0 = true → s.rTop c 1 = [a] →
    exec (.ret c) s = .next (s.retired c 0 [] 1 [] a)) ∧
  (∀ (s : State) (c : Fin 8) (l : List Nat), s.ready c 1 s.cores[c].an 0 0 0 = true → s.dTop c s.cores[c].an = l →
    exec (.jmpi c) s = .next (s.retired c s.cores[c].an [] 0 [] (s.cores[c].addrIn l 0))) ∧
  (∀ (s : State) (c : Fin 8) (l : List Nat), s.ready c 1 s.cores[c].an 0 0 1 = true → s.dTop c s.cores[c].an = l →
    exec (.calli c) s = .next (s.retired c s.cores[c].an [] 0 [s.cores[c].after 1] (s.cores[c].addrIn l 0)))

/-- Traps, returns, WAIT, events and special registers: each that is ready takes its effect, and TRAP, BRK and a reserved opcode take their traps -/
def Obligations.GragilSystemInstructionsComplete : Prop :=
  (∀ (s : State) (c : Fin 8) (n : Nat), s.ready c 2 0 0 0 0 = true →
    exec (.trap c n) s = .next ((s.trap c 0x0B (n % 256) (s.cores[c].after 2)).retired c 0 [] 0 []
        (s.trap c 0x0B (n % 256) (s.cores[c].after 2)).cores[c].pc.toNat)) ∧
  (∀ (s : State) (c : Fin 8), s.ready c 1 0 0 0 0 = true → s.cores[c].tm = true →
    exec (.rett c) s = .next ((s.modCore c (fun x => x.rett)).retired c 0 [] 0 [] (s.cores[c].rett).pc.toNat)) ∧
  (∀ (s : State) (c : Fin 8), s.ready c 1 0 0 0 0 = true → s.cores[c].queue = [] → c ≠ 4 →
    exec (.wait c) s = .next ((s.setMode c .wait).retired c 0 [] 0 [] (s.cores[c].after 1))) ∧
  (∀ (s : State) (c : Fin 8) (e : CoreEvent) (r : List CoreEvent), s.cores[c].sprout = false →
    s.ready c 1 0 2 0 0 = true → s.cores[c].queue = e :: r → s.cores[c].lostSince = 0 →
    exec (.evget c) s = .next ((s.modCore c (fun x => { x with queue := r })).retired c 0
        [e.arg, e.src * 65536 + e.code] 0 [] (s.cores[c].after 1))) ∧
  (∀ (s : State) (c : Fin 8) (n v : Nat), s.cores[c].sprout = false → s.ready c 2 0 1 0 0 = true → n ≠ 13 → n ≠ 14 →
    s.special c n = some v →
    exec (.rdsr c n) s = .next (s.retired c 0 [v] 0 [] (s.cores[c].after 2))) ∧
  (∀ (s : State) (c : Fin 8) (n v : Nat) (y : CoreSt), s.cores[c].sprout = false → s.ready c 2 1 0 0 0 = true →
    s.dTop c 1 = [v] → s.cores[c].wrsr n v = some y →
    exec (.wrsr c n) s = .next ((s.modCore c (fun _ => y)).retired c 1 [] 0 [] (s.cores[c].after 2))) ∧
  (∀ (s : State) (c : Fin 8) (l : List Nat), s.cores[c].sprout = true → s.cores[c].inRom = true →
    s.ready c 1 4 0 0 0 = true → s.dTop c 4 = l →
    exec (.grow c) s = .next ((s.modCore c (fun x => x.grow)).retired c 4 [] 0 [] (quad l 0))) ∧
  (∀ (s : State) (c : Fin 8), s.ready c 1 0 0 0 0 = true →
    exec (.reservedOpcode c) s = .next (s.trap c 1 0 s.cores[c].pc.toNat)) ∧
  (∀ (s : State) (c : Fin 8) (code src arg : Nat), s.cores[c].queue.length < 32 → s.cores[c].mode ≠ .wait →
    ∃ t, exec (.eventArrive c code src arg) s = .next t ∧
      t.cores[c].queue = (if code % 65536 = 2 ∨ s.cores[c].lastAt ≠ s.now then s.cores[c].queue ++ [⟨code % 65536, src % 65536, arg % 2 ^ 32⟩]
        else s.cores[c].queue.take (s.cores[c].queue.length - s.cores[c].lastN) ++ putCode ⟨code % 65536, src % 65536, arg % 2 ^ 32⟩
          (s.cores[c].queue.drop (s.cores[c].queue.length - s.cores[c].lastN))) ∧ t.cores[c].mode = s.cores[c].mode ∧
      t = { s with cores := t.cores }) ∧
  (∀ (s : State) (c : Fin 8) (code src arg : Nat), s.cores[c].queue.length < 32 → s.cores[c].mode = .wait →
    s.wakesCores = true →
    ∃ t, exec (.eventArrive c code src arg) s = .next t ∧
      t.cores[c].queue = (s.cores[c].enqueue ⟨code % 65536, src % 65536, arg % 2 ^ 32⟩ s.now).queue ∧ t.cores[c].mode = .run) ∧
  (∀ (s : State) (c : Fin 8) (code src arg : Nat), 32 ≤ s.cores[c].queue.length →
    ∃ t, exec (.eventArrive c code src arg) s = .next t ∧ t.cores[c].queue = s.cores[c].queue ∧
      t.cores[c].lostSince = s.cores[c].lostSince + 1 ∧
      t.o (Obj.COR_c_EVLOST c) = (s.o (Obj.COR_c_EVLOST c) + 1) % 2 ^ 32 ∧
      t.o Obj.EVT_CORE_LOST = (s.o Obj.EVT_CORE_LOST + 1) % 2 ^ 32)

/-- What an instruction pushes on a data stack in system SRAM is what stands on top, the last pushed topmost, and no byte outside the elements pushed changes -/
def Obligations.DataStackReadBack : Prop :=
  ∀ (s : State) (c : Fin 8) (n : Nat) (outs : List Nat), s.cores[c].sprout = false → (∀ v ∈ outs, v < 2 ^ 32) →
    0x20000000 + 4 * outs.length ≤ s.cores[c].dsp.toNat + 4 * n → s.cores[c].dsp.toNat + 4 * n ≤ 0x20200000 →
    (s.dSwap c n outs).dTop c outs.length = outs ∧
      (∀ a, (a < s.cores[c].dsp.toNat + 4 * n - 4 * outs.length ∨ s.cores[c].dsp.toNat + 4 * n ≤ a) →
        (s.dSwap c n outs).rb a = s.rb a) ∧
      (∀ d : Fin 8, d ≠ c → (s.dSwap c n outs).cores[d] = s.cores[d])

/-- A reserved opcode in 32-bit mode takes the ILLEGAL trap: the cause, TADDR, the pc and ST are saved, TM is set, OV and C are cleared, COR_c_TRAPS counts, and the core goes on at the handler whose address stands at VBASE plus four times the cause -/
def Obligations.TrapEntry : Prop :=
  (∀ (s t0 : State) (c : Fin 8) (a : Nat), s.ready c 1 0 0 0 0 = true → s.cores[c].sprout = false →
    s.cores[c].tm = false → t0 = s.modCore c (fun x => x.trapped 1 0 s.cores[c].pc.toNat) →
    t0.load c ((s.cores[c].vbase.toNat / 4 * 4 + 4) % 2 ^ 32) 4 (t0.metAt (readUnit ((s.cores[c].vbase.toNat / 4 * 4 + 4) % 2 ^ 32))) = .ok (t0, a) →
    ∃ t, exec (.reservedOpcode c) s = .next t ∧ t.cores[c] = { s.cores[c] with
        tcause := 1, taddr := 0, tpc := s.cores[c].pc, tst := s.cores[c].st, tm := true, ov := false, c := false
        pc := BitVec.ofNat 32 a } ∧
      t.o (Obj.COR_c_TRAPS c) = (s.o (Obj.COR_c_TRAPS c) + 1) % 2 ^ 32 ∧
      t = { s with cores := t.cores, objs := t.objs } ∧ (∀ d : Fin 8, d ≠ c → t.cores[d] = s.cores[d]) ∧
      (∀ k, k ≠ Obj.COR_c_TRAPS c → t.o k = s.o k)) ∧
  (∀ (s t0 u : State) (c : Fin 8) (x : Nat), s.ready c 1 0 0 0 0 = true → s.cores[c].sprout = false →
    s.cores[c].tm = false → t0 = s.modCore c (fun x => x.trapped 1 0 s.cores[c].pc.toNat) →
    t0.load c ((s.cores[c].vbase.toNat / 4 * 4 + 4) % 2 ^ 32) 4 (t0.metAt (readUnit ((s.cores[c].vbase.toNat / 4 * 4 + 4) % 2 ^ 32))) = .error (u, x) →
    exec (.reservedOpcode c) s = .next (u.doubleFault c x))

/-- An instruction that lacks inputs or room on its data stack takes the DSUNF or DSOVF trap from the state it found, TADDR the stack pointer -/
def Obligations.StackTrapsComeBeforeAnyChange : Prop :=
  (∀ (s : State) (c : Fin 8), s.cores[c].mode = .run → s.sysclk = true → s.fetchTrap c 1 = none →
    s.cores[c].sprout = true ∨ (s.held s.cores[c].pc.toNat 1 = false ∧ s.sound s.cores[c].pc.toNat 1 = true) →
    s.cores[c].dDepth < 2 →
    exec (.add c) s = .next (s.trap c 3 s.cores[c].dp s.cores[c].pc.toNat) ∧
      exec (.swap c) s = .next (s.trap c 3 s.cores[c].dp s.cores[c].pc.toNat) ∧
      exec (.eq c) s = .next (s.trap c 3 s.cores[c].dp s.cores[c].pc.toNat)) ∧
  (∀ (s : State) (c : Fin 8), s.cores[c].mode = .run → s.sysclk = true → s.fetchTrap c 1 = none →
    s.cores[c].sprout = true ∨ (s.held s.cores[c].pc.toNat 1 = false ∧ s.sound s.cores[c].pc.toNat 1 = true) →
    1 ≤ s.cores[c].dDepth → s.cores[c].dRoom 1 = false →
    exec (.dup c) s = .next (s.trap c 2 s.cores[c].dp s.cores[c].pc.toNat) ∧
      exec (.depth c) s = .next (s.trap c 2 s.cores[c].dp s.cores[c].pc.toNat))

/-- A low-word read of a 64-bit object answers its low half and latches the high half; a low-word write is only held; the high-word write joins the two halves and writes the object once -/
def Obligations.WideObjectsPassThroughTheirLatches : Prop :=
  (∀ (s t : State) (who : Fin 8) (k v : Nat), objIs k (fun x => x.ty.wide && !x.ty.blob && x.acc != .wo) = true →
    k / 256 ≠ 0x101 → s.readNum (.core who) k = (t, v) → k / 256 < 65536 →
    exec (.wideReadLowLatch who k) s = .next { t.rLatch k (some (v / 2 ^ 32)) with rdata := v % 2 ^ 32 }) ∧
  (∀ (s : State) (who : Fin 8) (k v : Nat),
    objIs k (fun x => x.ty.wide && !x.ty.blob && x.acc != .ro && x.acc != .const) = true → k / 256 < 65536 →
    exec (.wideWriteLow who k v) s = .next (s.wLatch k (some (v % 2 ^ 32)))) ∧
  (∀ (s : State) (who : Fin 8) (k v lo : Nat), objIs k (fun x => x.ty.wide && x.acc != .ro && x.acc != .const) = true →
    objFind (k + 1) = none → firmwareBacked (k + 1) = false → k % 256 < 255 → latchOf s.time.writeLatch k = some lo →
    k / 256 < 65536 →
    exec (.wideWriteHigh who k v) s =
      .next ((s.wLatch k none).corePut who false 8 k (.num (lo + 2 ^ 32 * (v % 2 ^ 32)))))

/-- A core's write of an RWT object enters its staging set and changes no object and no byte of memory; a commit judges the set whole, empties it and reports, and an empty set answers 3 -/
def Obligations.StagedValuesWaitForACommit : Prop :=
  (∀ (s : State) (c : Fin 8) (k v : Nat) (l : List (Key × Val)),
    objIs k (fun x => x.acc == .rwt && !x.ty.blob && decide (v < 2 ^ x.ty.width) && x.ty != .tt64) = true →
    ¬ (0x320 ≤ k / 256 ∧ k / 256 ≤ 0x32F) → stagePut s.cores[c].stage k (.num (cleanBits k v)) = some l →
    exec (.stageWrite (.core c) k v []) s = .next (s.modCore c (fun x => { x with stage := l }))) ∧
  (∀ (s : State) (c : Fin 8), s.cores[c].stage ≠ [] → s.setBad s.cores[c].stage = none →
    exec (.comCommit c 1) s = .next (({ s with com := { s.com with
        accepted := s.com.accepted ++ [⟨s.now, s.cores[c].stage⟩] } } : State).modCore c
          (fun x => { x with commitResult := 1, stage := [] }))) ∧
  (∀ (s : State) (c : Fin 8) (k : Key), s.cores[c].stage ≠ [] → s.setBad s.cores[c].stage = some k →
    accountKey k = false →
    exec (.comCommit c 1) s =
      .next (s.modCore c (fun x => { x with commitResult := 2 + 256 * (k % 256) + 65536 * (k / 256), stage := [] }))) ∧
  (∀ (s : State) (c : Fin 8) (k : Key), s.cores[c].stage ≠ [] → s.setBad s.cores[c].stage = some k →
    accountKey k = true →
    exec (.comCommit c 1) s = .next ((s.modCore c (fun x => { x with
      commitResult := 2 + 256 * (k % 256) + 65536 * (k / 256), stage := [] })).dropped (windowAddr k) (setValue s.cores[c].stage k) c 3)) ∧
  (∀ (s : State) (c : Fin 8), s.cores[c].stage = [] →
    exec (.comCommit c 1) s = .next (s.modCore c (fun x => { x with commitResult := 3 })))

/-- Writes of RW and WO objects by a core take effect at once: the dictionary engine, posts, the clearing of the log, the routes and the drop record, and the control of cores -/
def Obligations.RegisterAndEngineWritesTakeEffectAtOnce : Prop :=
  (∀ (s t : State) (c : Fin 8) (k v : Nat),
    objIs k (fun x => (x.acc == .rw || x.acc == .wo) && !x.ty.blob && !x.ty.wide) = true → k / 256 ≠ 0x101 →
    s.putObject (.core c) false 4 k (.num v) = (t, none) →
    exec (.registerWrite (.core c) k v []) s = .next t) ∧
  (∀ (s t : State) (c : Fin 8) (k v : Nat) (e : Refuse),
    objIs k (fun x => (x.acc == .rw || x.acc == .wo) && !x.ty.blob && !x.ty.wide) = true → k / 256 ≠ 0x101 →
    s.putObject (.core c) false 4 k (.num v) = (t, some e) →
    exec (.registerWrite (.core c) k v []) s = .next (t.dropped (windowAddr k) (v % 2 ^ 32) c e.cause)) ∧
  (∀ (s : State) (c : Fin 8) (k v : Nat), objIs k (fun x => x.acc == .ro && !x.ty.blob) = true → k / 256 ≠ 0x101 →
    exec (.registerWrite (.core c) k v []) s = .next (s.dropped (windowAddr k) (v % 2 ^ 32) c 2)) ∧
  (∀ (s : State) (c : Fin 8) (v : Nat), v < 2 ^ 32 → domObject (selKey v) = true → selKey v / 256 ≠ 0x1804 →
    exec (.comDomSel c v) s = .next (s.modCore c (fun x => { x with domSel := selClean v, domPos := 0, domNew := none }))) ∧
  (∀ (s : State) (c : Fin 8) (v : Nat), domObject (selKey s.cores[c].domSel) = true → 0 < v → v < 65536 →
    v ≤ blobMax (selKey s.cores[c].domSel) →
    exec (.comDomLen c v) s =
      .next { s.modCore c (fun x => { x with domPos := 0, domNew := some (v, freeBytes s.draws v) }) with draws := s.draws + v }) ∧
  (∀ (s : State) (c : Fin 8) (v n : Nat) (b : Bytes), v < 2 ^ 32 → domObject (selKey s.cores[c].domSel) = true →
    s.cores[c].domNew = some (n, b) → s.cores[c].domPos + 4 < n →
    exec (.comDomDataWrite c v) s = .next (s.modCore c (fun x =>
        { x with domPos := s.cores[c].domPos + 4, domNew := some (n, patch b s.cores[c].domPos (leBytes 4 v)) }))) ∧
  (∀ (s : State) (c : Fin 8),
    exec (.comDomDataRead c) s = .next { s.modCore c (fun x => { x with domPos := x.domPos + 4 }) with
        rdata := fieldN (s.domValue c) s.cores[c].domPos 4 }) ∧
  (∀ (s u : State) (c : Fin 8) (v n : Nat) (b : Bytes), v < 2 ^ 32 → domObject (selKey s.cores[c].domSel) = true →
    s.cores[c].domNew = some (n, b) → n ≤ s.cores[c].domPos + 4 →
    u = s.modCore c (fun x => { x with domPos := s.cores[c].domPos + 4, domNew := none }) →
    exec (.comDomDataWrite c v) s = .next (u.corePut c false 4 (selKey s.cores[c].domSel)
        (.bytes (patch b s.cores[c].domPos (leBytes 4 v))))) ∧
  (∀ (s : State) (c : Fin 8) (v : Nat),
    selKey s.cores[c].fwSel = Obj.FAB_CONFLICTS ∨ selKey s.cores[c].fwSel = Obj.FAB_LSDB_GEN → v < 2 ^ 32 →
    exec (.comFwVal c v) s = .next (s.setO (selKey s.cores[c].fwSel) v)) ∧
  (∀ (s : State) (c : Fin 8) (v : Nat), selKey s.cores[c].fwSel = Obj.FAB_ADDR → v < 2 ^ 16 →
    exec (.comFwVal c v) s = .next (s.setO Obj.FAB_ADDR v)) ∧
  (∀ (s : State) (c : Fin 8) (v : Nat), selKey s.cores[c].fwSel = Obj.FAB_HELD_SINCE + 1 → v < 2 ^ 32 →
    exec (.comFwVal c v) s = .next (s.setO Obj.FAB_HELD_SINCE (s.cores[c].fwLow + 2 ^ 32 * v))) ∧
  (∀ (s : State) (c : Fin 8) (b : Bytes), 8 ≤ b.length → b.length ≤ 908 → 0x800 ≤ fieldN b 0 2 →
    exec (.evtPost (.core c) b) s =
      .next (s.raiseFw (fieldN b 0 2) (fieldN b 2 2) (fieldN b 4 4) (b.drop 8))) ∧
  (∀ (s : State) (c : Fin 8) (b : Bytes), 8 ≤ b.length → b.length ≤ 908 → fieldN b 0 2 = 0x100 →
    fieldN b 4 4 % 256 ∈ [5, 6, 7, 10, 11] →
    exec (.evtPost (.core c) b) s =
      .next (s.miss (fieldN b 4 4 % 256) (fieldN b 2 2) (frameStart s.now + 8 * fld (fieldN b 4 4) 31 16))) ∧
  (∀ (s : State) (c : Fin 8) (b : Bytes), 8 ≤ b.length → b.length ≤ 908 → fieldN b 0 2 = 0x133 →
    exec (.evtPost (.core c) b) s = .next (s.raiseE ⟨0x133, fieldN b 2 2, fieldN b 4 4, s.now, b.drop 8⟩)) ∧
  (∀ (s : State) (c : Fin 8) (b : Bytes), b.length < 8 →
    exec (.evtPost (.core c) b) s =
      .next ((s.inc Obj.EVT_POST_REFUSED).dropped (windowAddr Obj.EVT_POST) (leNat (b.take 4)) c 3)) ∧
  (∀ (s : State) (c : Fin 8),
    exec (.evtLogClear (.core c) 1) s = .next s.logClear) ∧
  (∀ (s : State) (c : Fin 8),
    exec (.evtRouteReset (.core c) 1) s = .next s.routeReset) ∧
  (∀ (s : State) (c : Fin 8),
    exec (.evtDropClear (.core c) 1) s = .next ((s.setO Obj.EVT_DROP_COUNT 0).setO Obj.EVT_DROP_FIRST 0)) ∧
  (∀ (s : State) (c d : Fin 8), d ≠ 4 → d ≠ c →
    exec (.corRestart (.core c) d) s = .next (s.coreStart d)) ∧
  (∀ (s : State) (c d : Fin 8), d ≠ 4 → d ≠ c →
    exec (.corHold (.core c) d) s = .next (if s.cores[d].mode = .faulted then s else s.setMode d .held)) ∧
  (∀ (s : State) (c : Fin 8) (v : Nat), v < 256 →
    exec (.corRelease (.core c) v) s = .next (s.release8 v)) ∧
  (∀ (s : State) (c d : Fin 8) (v : Nat), d = 4 ∨ d = c → v = 1 ∨ v = 2 →
    (if v = 1 then exec (.corRestart (.core c) d) s else exec (.corHold (.core c) d) s) =
      .next (s.dropped (windowAddr (Obj.COR_c_CTRL d)) v c 6))

/-- OPEN_REQ takes the lowest free session or is refused, OPEN_FIN opens or frees its session, and a session's timeouts and closes free it -/
def Obligations.SessionsOpenAndClose : Prop :=
  (∀ (s : State) (m : SopIn) (l : List SopIn), s.delivers 1 m l = true →
    exec .openReq s = .next (
      if openFormOk (sopBody m.data) then
        match (s.received m l).freeSession with
        | none => (s.received m l).openRefuse m 1
        | some x =>
          match (s.received m l).openKey x (sopBody m.data) with
          | none => (s.received m l).openRefuse m 1
          | some (dn, deph, u) => u.openSession m x dn deph
      else (s.received m l).openRefuse m 2)) ∧
  (∀ (s : State) (m : SopIn) (l : List SopIn), s.delivers 3 m l = true → m.data.length = 88 → fieldN m.data 4 4 = 0 →
    exec .openFin s = .next (
      match (s.received m l).sopUnseal (asFin 8 (fieldN m.data 2 1)) m.data with
      | none => (s.received m l).inc Obj.COM_RX_DROP
      | some sig =>
        if (s.received m l).com.sessions[asFin 8 (fieldN m.data 2 1)].wantLevel ≤ (s.received m l).authGrant (asFin 8 (fieldN m.data 2 1)) sig then
          (s.received m l).openDone (asFin 8 (fieldN m.data 2 1))
        else (((s.received m l).freeHandlers (asFin 8 (fieldN m.data 2 1))).sessFree (asFin 8 (fieldN m.data 2 1))).inc Obj.COM_AUTH_FAILS)) ∧
  (∀ (s : State) (m : SopIn) (l : List SopIn), s.delivers 4 m l = true →
    exec .securedRx s = .next (
      match (s.received m l).sopUnseal (asFin 8 (fieldN m.data 2 1)) m.data with
      | none => (s.received m l).inc Obj.COM_RX_DROP
      | some b =>
        match (s.received m l).com.sessions[asFin 8 (fieldN m.data 2 1)].accept (fieldN m.data 4 4) (s.received m l).now with
        | none => (s.received m l).inc Obj.COM_RX_DROP
        | some q =>
          ((((s.received m l).modSess (asFin 8 (fieldN m.data 2 1)) (fun _ => q)).inc Obj.COM_RX_MSG).inc
            (Obj.COM_Ss_RX (asFin 8 (fieldN m.data 2 1)))).sopArrived (asFin 8 (fieldN m.data 2 1)) b)) ∧
  (∀ (s : State) (x : Fin 8), s.o (Obj.COM_Ss_STATE x) = 1 →
    exec (.sessionOpenTimeout x) s =
      .next ((((s.upTo s.com.sessions[x].finBy).freeHandlers x).sessFree x).inc Obj.COM_AUTH_FAILS)) ∧
  (∀ (s : State) (x : Fin 8), s.o (Obj.COM_Ss_STATE x) = 2 →
    exec (.sessionIdleTimeout x) s = .next
      ((let u := ((s.upTo (s.com.sessions[x].seen + s.o Obj.COM_IDLE_LIMIT * superT)).freeHandlers x).sessFree x
        (u.setO Obj.COM_SESS_OPEN (u.o Obj.COM_SESS_OPEN - 1)).raise 0x154 x 1))) ∧
  (∀ (s : State) (x : Fin 8), s.o (Obj.COM_Ss_STATE x) = 2 →
    exec (.comSsClose x) s = .next
      ((let u := (s.freeHandlers x).sessFree x
        (u.setO Obj.COM_SESS_OPEN (u.o Obj.COM_SESS_OPEN - 1)).raise 0x154 x 3))) ∧
  (∀ (s : State) (x : Fin 8) (tag : Nat) (p : Bytes) (l : List SopReq), s.offers (.session x) 0x0A tag p l = true →
    s.o (Obj.COM_Ss_STATE x) = 2 →
    exec .close s = .next
      ((let u := ((s.served l).freeHandlers x).sessFree x
        (u.setO Obj.COM_SESS_OPEN (u.o Obj.COM_SESS_OPEN - 1)).raise 0x154 x 0)))

/-- The request in front of the SOP engine is served: its response carries what its type says, and a request of a wrong length ends with FORMAT -/
def Obligations.RequestsAreServed : Prop :=
  (∀ (s t : State) (w : Writer) (tag : Nat) (p v : Bytes) (l : List SopReq), s.offers w 1 tag p l = true →
    p.length = 10 → (s.served l).gate w (payKey p) false = none → objIs (payKey p) (fun x => !x.ty.blob) = true →
    (s.served l).valueFor w (payKey p) (bitOf (fieldN p 3 1) 0) = some (t, v) → fieldN p 4 4 = 0 →
    v.length ≤ fieldN p 8 2 → v.length ≤ 981 →
    exec .read s = .next (t.respond w 1 tag (keyBytes (payKey p) ++ leBytes 1 (typeCode (payKey p)) ++ [0] ++ leBytes 4 v.length ++
      leBytes 4 0 ++ leBytes 2 v.length ++ v))) ∧
  (∀ (s : State) (w : Writer) (tag : Nat) (p : Bytes) (l : List SopReq), s.offers w 1 tag p l = true → p.length = 10 →
    (s.served l).gate w (payKey p) false = none → firmwareBacked (payKey p) = true →
    exec .read s = .next ((s.served l).ask w tag { op := 1, key := payKey p, off := fieldN p 4 4, len := fieldN p 8 2 })) ∧
  (∀ (s : State) (w : Writer) (tag : Nat) (p : Bytes) (l : List SopReq), s.offers w 1 tag p l = true → p.length ≠ 10 →
    exec .read s = .next ((s.served l).abortTo w tag (payKey p) 0x0D)) ∧
  (∀ (s t : State) (w : Writer) (tag : Nat) (p : Bytes) (l : List SopReq), s.offers w 2 tag p l = true →
    p.length = 14 + fieldN p 12 2 → (s.served l).gate w (payKey p) true = none →
    objIs (payKey p) (fun x => !x.ty.blob && x.ty.size == fieldN p 4 4) = true → fieldN p 8 4 = 0 →
    fieldN p 12 2 = fieldN p 4 4 → (s.served l).hostPut w (payKey p) (.num (leNat (p.drop 14))) = (t, 0) →
    exec .write s = .next (if payKey p = Obj.SHL_CMD then
        t.shellAsked w tag ((s.served l).shell.running.isSome || t.shell.running.isNone)
      else t.respond w 2 tag (keyBytes (payKey p)))) ∧
  (∀ (s : State) (w : Writer) (tag : Nat) (p : Bytes) (l : List SopReq), s.offers w 2 tag p l = true →
    p.length ≠ 14 + fieldN p 12 2 →
    exec .write s = .next ((s.served l).abortTo w tag (payKey p) 0x0D)) ∧
  (∀ (s : State) (w : Writer) (tag : Nat) (p : Bytes) (l : List SopReq), s.offers w 3 tag p l = true → p.length = 4 →
    firmIndex (fieldN p 0 2) = false →
    ((s.served l).readEntries w (fieldN p 0 2) (fieldN p 2 1) (fieldN p 3 1)).2.length ≤ 992 →
    exec .blockRead s = .next
      (((s.served l).readEntries w (fieldN p 0 2) (fieldN p 2 1) (fieldN p 3 1)).1.respond w 3 tag
        (p ++ ((s.served l).readEntries w (fieldN p 0 2) (fieldN p 2 1) (fieldN p 3 1)).2))) ∧
  (∀ (s : State) (w : Writer) (tag : Nat) (p : Bytes) (l : List SopReq) (es : List (Nat × Bytes)),
    s.offers w 4 tag p l = true → 4 ≤ p.length → blockEntries (fieldN p 3 1) (p.drop 4) = some es →
    firmIndex (fieldN p 0 2) = false →
    exec .blockWrite s = .next ((s.served l).writeEntries w tag (fieldN p 0 2) (fieldN p 2 1) 0 es)) ∧
  (∀ (s : State) (w : Writer) (tag : Nat) (l : List SopReq), s.offers w 5 tag [] l = true →
    (s.served l).stageOf w = [] →
    exec .commit s = .next ((s.served l).respond w 5 tag (leBytes 8 0))) ∧
  (∀ (s : State) (w : Writer) (tag : Nat) (l : List SopReq), s.offers w 5 tag [] l = true →
    (s.served l).stageOf w ≠ [] → anyFirm ((s.served l).stageOf w) = false →
    exec .commit s = .next (
      match (s.served l).judgeSet ((s.served l).stageOf w) with
      | .ok t => ((t.setStage w []).keepConfig ((s.served l).stageOf w)).respond w 5 tag (leBytes 8 (tt64 (s.served l).commitTick))
      | .error k => ((s.served l).setStage w []).abortTo w tag k (commitAbort k))) ∧
  (∀ (s : State) (x : Fin 8) (tag : Nat) (p : Bytes) (l : List SopReq) (u : Sub),
    s.offers (.session x) 6 tag p l = true → (s.served l).subOf (.session x) p = .ok u → fieldN p 0 1 ≤ 15 →
    exec .subscribe s = .next (((s.served l).modSess x (fun q => { q with
        subs := q.subs.filter (fun e => e.1 != fieldN p 0 1) ++ [(fieldN p 0 1, u)] })).respond (.session x) 6 tag (leBytes 1 (fieldN p 0 1)))) ∧
  (∀ (s : State) (x : Fin 8) (tag : Nat) (p : Bytes) (l : List SopReq), s.offers (.session x) 7 tag p l = true →
    p.length = 1 →
    exec .unsubscribe s = .next (
      if (s.served l).com.sessions[x].subs.any (fun e => e.1 == fieldN p 0 1) then
        ((s.served l).modSess x (fun q => { q with subs := q.subs.filter (fun e => e.1 != fieldN p 0 1) })).respond
          (.session x) 7 tag (leBytes 1 (fieldN p 0 1))
      else (s.served l).abortTo (.session x) tag 0 0x10)) ∧
  (∀ (s : State) (w : Writer) (tag : Nat) (l : List SopReq), s.offers w 0x0B tag [] l = true →
    exec .ping s = .next ((s.served l).respond w 0x0B tag (leBytes 8 (tt64 s.now)))) ∧
  (∀ (s : State), s.com.notified < s.time.tickMark →
    exec .notify s = .next (fin8.foldl (fun (u : State) (x : Fin 8) =>
      if u.o (Obj.COM_Ss_STATE x) = 2 then u.com.sessions[x].subs.foldl (fun (v : State) e => v.notifyOne x e.1 e.2) u else u)
      (s.modCom (fun c => { c with notified := s.time.tickMark })))) ∧
  (∀ (s t : State) (w : Writer) (tag : Nat) (p b : Bytes) (l : List SopReq), s.offers w 0x20 tag p l = true →
    p.length = 6 → (s.served l).debugRead (fieldN p 0 4) (fieldN p 4 2) = .ok (t, b) →
    exec .memRead s = .next (t.respond w 0x20 tag (leBytes 4 (fieldN p 0 4) ++ leBytes 2 b.length ++ b))) ∧
  (∀ (s t : State) (w : Writer) (tag : Nat) (p : Bytes) (k : Key) (l : List SopReq), s.offers w 0x21 tag p l = true →
    p.length = 6 + fieldN p 4 2 → (s.served l).debugWrite (fieldN p 0 4) (p.drop 6) = (t, k, 0) →
    exec .memWrite s = .next (t.respond w 0x21 tag (leBytes 4 (fieldN p 0 4) ++ leBytes 2 (fieldN p 4 2)))) ∧
  (∀ (s : State) (w : Writer) (tag : Nat) (p : Bytes) (l : List SopReq), s.offers w 0x22 tag p l = true →
    p.length = 1 → fieldN p 0 1 ≤ 7 → (s.served l).cores[asFin 8 (fieldN p 0 1)].mode = .halted →
    exec .step s = .next (((s.served l).stepCore (asFin 8 (fieldN p 0 1))).respond w 0x22 tag p)) ∧
  (∀ (s : State) (who : Fin 8) (slot : Nat) (r : HandlerReq), s.com.handlers.find? (fun h => h.slot == slot) = some r →
    exec (.comHndDone who slot) s = .next ((s.freeSlot r).handled r (s.rn (handlerAddr slot + 7) 1))) ∧
  (∀ (s : State) (r : HandlerReq) (l : List HandlerReq), s.com.handlers = r :: l →
    exec .handlerTimeout s = .next (((s.upTo r.by_).freeSlot r).handled r 0x0B))

/-- A refused OPEN or CANCEL is dropped with its address kept, which the clauses for refusal say. -/
def Obligations.QuestionsRunFromOpenToFinal : Prop :=
  (∀ (s u : State) (who : Fin 8) (q : Fin 16), s.svcOn 0 = true → s.openRefused q = false →
    u = s.qHold q ((s.o (Obj.SVC_Qq_ROUND q) + 1) % 65536) (s.o (Obj.SVC_Qq_NOPT q)) (s.o (Obj.SVC_Qq_OPEN_AT q)) (s.o (Obj.SVC_Qq_CLOSE_AT q)) (s.o (Obj.SVC_Qq_TAG_LO q)) (s.o (Obj.SVC_Qq_SPAN q)) 1 →
    exec (.qOpen who q) s = .next (u.firmFlood 6 2 15 (u.qBody q 0))) ∧
  (∀ (s : State) (who : Fin 8) (q : Fin 16), s.svcOn 0 = false ∨ s.openRefused q = true →
    exec (.qOpen who q) s = .next (s.refuse who (Obj.SVC_Qq_CMD q) 1)) ∧
  (∀ (s : State) (who : Fin 8) (q : Fin 16), s.svcOn 0 = true → s.isRoot = true → s.qActive q = true →
    exec (.qCancel who q) s = .next ((s.firmFlood 6 2 15 (s.qBody q 1)).setO (Obj.SVC_Qq_STATE q) 5)) ∧
  (∀ (s : State), s.svcOn 0 = true → s.isRoot = true →
    exec .questionReflood s = .next (fin16.foldl (fun (t : State) (q : Fin 16) => if t.qActive q then t.firmFlood 6 2 15 (t.qBody q 0) else t) s)) ∧
  (∀ (s : State) (i : Nat) (e b : Bytes) (q : Fin 16), e = s.floodElem i → b = s.elemPayload e → fieldN e 1 1 = 2 →
    b.length = 32 → fieldN b 0 1 ≤ 15 → q = asFin 16 (fieldN b 0 1) → s.svcOn 0 = true →
    exec (.questionRx i) s = .next (
      if s.qState q = 0 || above (fieldN b 2 2) (s.o (Obj.SVC_Qq_ROUND q)) then
        s.qHold q (fieldN b 2 2) (fieldN b 1 1) (fieldN b 8 8) (fieldN b 16 8) (fieldN b 24 4) (fieldN b 28 4)
          (if bitOf (fieldN b 4 1) 0 then 5 else 1)
      else if fieldN b 2 2 = s.o (Obj.SVC_Qq_ROUND q) && bitOf (fieldN b 4 1) 0 then s.setO (Obj.SVC_Qq_STATE q) 5
      else s)) ∧
  (∀ (s : State) (q : Fin 16), s.qState q = 1 →
    exec (.questionOpenAt q) s = .next ((s.upTo (linear s.svc.quests[q].openAt)).setO (Obj.SVC_Qq_STATE q) 2)) ∧
  (∀ (s : State) (q : Fin 16), s.qState q = 2 →
    exec (.questionCloseAt q) s = .next ((s.upTo (linear s.svc.quests[q].closeAt)).setO (Obj.SVC_Qq_STATE q) 3)) ∧
  (∀ (s : State) (q : Fin 16), s.qState q = 3 →
    exec (.questionFinal q) s = .next ((s.upTo (boundaryAt frameT (linear s.svc.quests[q].closeAt + 2 * superT))).setO (Obj.SVC_Qq_STATE q) 4))

/-- The roster is published, taken and adopted; a press goes to the owner and the shadow of its shard, is redirected once, held while its shard waits, and counted at the tick; counts go up the tally tree and the root reports them -/
def Obligations.HeadcountCountsPressesUpTheTallyTree : Prop :=
  (∀ (s : State), s.holdsAddr = true → s.rootOf s.memberSet = s.me → s.svc.cur = none → s.svc.published = false →
    exec .rosterCheck s = .next (s.publishRoster s.memberSet)) ∧
  (∀ (s : State) (i : Nat) (e b : Bytes), e = s.floodElem i → b = s.elemPayload e → fieldN e 1 1 = 6 →
    fieldN b 0 1 = 1 → b.length = 28 →
    exec (.rosterRx i) s = .next (s.takeRoster (rosterOf b))) ∧
  (∀ (s : State) (i : Nat) (e b : Bytes), e = s.floodElem i → b = s.elemPayload e → fieldN e 1 1 = 6 →
    fieldN b 0 1 = 2 → b.length = 44 → s.svcOn 2 = true → 1 ≤ cPsize (b.drop 4) →
    exec (.rosterRx i) s = .next (s.takeCatalog (b.drop 4))) ∧
  (∀ (s u : State) (r : Roster), s.svc.pend = some r → linear r.eff ≤ s.now → u = s.upTo (boundaryAt frameT s.now) →
    exec .rosterAdopt s = .next (if r.fits u.memberSet then u.adoptRoster r u.memberSet else u.setO Obj.SVC_ROSTER_STATE 3)) ∧
  (∀ (s : State) (r : Roster), s.svc.pend = some r → s.now < linear r.eff →
    exec .rosterAdopt s = .next s) ∧
  (∀ (s : State) (n : Fin 4) (i o w : Nat) (e p t : Bytes), e = s.rxElemAt n i →
    fieldN e 48 1 = 0 ∨ fieldN e 48 1 = 6 → fieldN e 50 1 = 2 → bitOf (fieldN e 51 1) 0 = false → p = s.rxPsdu n e →
    t = tagfwd e p 0 → s.holders (shardOf (fieldN p 0 4)) = (o, w) → s.svcOn 0 = true →
    exec (.tagfwdSend n i) s = .next (if s.pressOk t then (s.sendTag o t).sendTag w t else s.inc Obj.SVC_HC_INVALID)) ∧
  (∀ (s : State) (n : Fin 4) (i o w : Nat) (e p : Bytes), e = s.rxElemAt n i → fieldN e 48 1 = 0 ∨ fieldN e 48 1 = 6 →
    (fieldN e 50 1 = 3 ∧ reportOk p = true) ∨ (fieldN e 50 1 = 1 ∧ (frameElements p).1.any (fun x => x.1 == 1) = true ∧ (fBody p).length ≤ 902) →
    bitOf (fieldN e 51 1) 0 = false → p = s.rxPsdu n e → s.holders (shardOf (fieldN p 0 4)) = (o, w) →
    s.svcOn 3 = true →
    exec (.tagfwdSend n i) s = .next (s.sendTag (s.dataTarget o w) (tagfwd e p 0))) ∧
  (∀ (s : State) (i : Nat) (e t : Bytes), e = s.uniElem i → t = s.elemPayload e → fieldN e 1 1 = 1 → 24 ≤ t.length →
    s.holds (shardOf (fieldN t 0 4)) = true →
    exec (.tagfwdRx i) s = .next (s.takeTag t (fieldN e 2 2 % 4096))) ∧
  (∀ (s : State) (i : Nat) (e t : Bytes), e = s.uniElem i → t = s.elemPayload e → fieldN e 1 1 = 1 → 24 ≤ t.length →
    s.holds (shardOf (fieldN t 0 4)) = false → bitOf (fieldN t 6 1) 0 = true →
    exec (.tagfwdRx i) s = .next (s.inc Obj.SVC_MISROUTED)) ∧
  (∀ (s : State) (i h : Nat) (q : Fin 16) (e b : Bytes) (counts offs : List Nat) (u : State), e = s.uniElem i →
    b = s.elemPayload e → fieldN e 1 1 = 3 → 48 ≤ b.length → q = asFin 16 (fieldN b 4 1) → h = fieldN b 8 2 →
    s.svc.waits.any (fun w => w.shard == h && w.q == q.val) = true → fieldN b 6 2 = s.o (Obj.SVC_Qq_ROUND q) →
    counts = (List.range 8).map (fun c => fieldN b (12 + 4 * c) 4) →
    offs = (List.range (fieldN b 44 2)).map (fun j => fieldN b (48 + 3 * j) 3) →
    u = s.modQ q (fun x => { x with counts := (h, counts) :: x.counts.filter (fun c => c.1 != h), bits := offs.filter (fun d => !(x.bits.contains d)) ++ x.bits }) →
    exec (.handoverRx i) s = .next (if fieldN b 11 1 = 1 then u.waitOver h [q] else u)) ∧
  (∀ (s : State) (shard q : Nat) (qs : List (Fin 16)), s.waitLate shard q = true →
    qs = fin16.filter (fun (x : Fin 16) => s.waitLate shard x) →
    exec (.handoverTimeout shard q) s = .next ((((qs.foldl (fun (t : State) q => t.emptyShard shard q) s).inc Obj.SVC_SHARDS_LOST).modSvc (fun x => { x with empty := true })).waitOver shard qs)) ∧
  (∀ (s : State) (l : List (Nat × Bytes)), l = s.svc.presses.filter (fun x => decide (x.1 < s.now / frameT)) →
    exec .pressCount s = .next (l.foldl (fun (t : State) x => t.countPress x.2)
      (s.modSvc (fun x => { x with presses := x.presses.filter (fun y => !(decide (y.1 < s.now / frameT))) })))) ∧
  (∀ (s u : State) (qs : List (Fin 16)) (recs : Bytes) (sums : List Nat), s.svcOn 0 = true → s.svc.cur ≠ none →
    s.o Obj.SVC_TALLY_PARENT ≠ 0 → qs = fin16.filter (fun (q : Fin 16) => s.qState q != 0) →
    recs = qs.flatMap (fun (q : Fin 16) => s.totalRec q) → sums = fin16.flatMap (fun (q : Fin 16) => s.totals q) →
    u = qs.foldl (fun (t : State) (q : Fin 16) => t.putTotals q (t.totals q) s.nodes) s →
    exec .rollupSend s = .next (
      if sums = u.svc.lastTotals && frameOf u.now ≠ 0 then u
      else (u.modSvc (fun x => { x with lastTotals := sums })).send 6 (s.o Obj.SVC_TALLY_PARENT) 2 0
        (leBytes 4 (u.o Obj.SVC_ROSTER_GEN) ++ leBytes 8 (tt64 (frameStart u.now)) ++ leBytes 2 s.nodes ++ leBytes 1 qs.length ++ [0] ++ recs))) ∧
  (∀ (s u : State) (i : Nat) (e b : Bytes), e = s.uniElem i → b = s.elemPayload e → fieldN e 1 1 = 2 → 16 ≤ b.length →
    s.svcOn 0 = true → fieldN b 0 4 = s.o Obj.SVC_ROSTER_GEN → s.isChild (fieldN e 2 2 % 4096) = true →
    u = (if linear (fieldN b 4 8) + 384000 < s.now then s.miss 6 0x16 (linear (fieldN b 4 8) + 384000) else s) →
    ∃ recs, exec (.rollupRx i) s = .next (u.modSvc (fun x => { x with children := ⟨fieldN e 2 2 % 4096, fieldN b 12 2, recs, u.sf⟩ :: x.children.filter (fun y => y.addr != fieldN e 2 2 % 4096) })) ∧
      recs.length = fieldN b 14 1) ∧
  (∀ (s : State) (i : Nat) (e b : Bytes), e = s.uniElem i → b = s.elemPayload e → fieldN e 1 1 = 2 → 16 ≤ b.length →
    s.svcOn 0 = true → fieldN b 0 4 ≠ s.o Obj.SVC_ROSTER_GEN ∨ s.isChild (fieldN e 2 2 % 4096) = false →
    exec (.rollupRx i) s = .next (s.inc Obj.SVC_HC_ROLLUP_STALE)) ∧
  (∀ (s : State) (r : Report), s.svc.report = some r → s.hostSession = true → s.now < r.formed + frameT →
    exec .hcReport s = .next ((r.ended.foldl (fun (t : State) q => t.modQ q (fun y => { y with reported := true }))
      (((r.totals.foldl (fun (t : State) x => t.putTotals x.1 x.2 r.nodes) s).raiseFw 0x800 0x16 0 r.body).inc Obj.SVC_HC_REPORTS)).modSvc
        (fun x => { x with report := none }))) ∧
  (∀ (s : State) (r : Report), s.svc.report = some r → s.hostSession = false ∨ r.formed + frameT ≤ s.now →
    exec .hcReport s = .next ((s.miss 7 0x16 (r.formed + frameT)).modSvc (fun x => { x with report := none, empty := x.empty || r.empty }))) ∧
  (∀ (s : State) (qs : List (Fin 16)) (nodes flags : Nat), qs = s.reportQs →
    nodes = 1 + sumL ((s.svc.children.filter (fun c => c.sf + 1 == s.sf)).map (fun c => c.nodes)) →
    flags = b2n (s.svc.adoptedSf == some (s.sf - 1)) + 2 * b2n s.svc.empty →
    s.formReport.formed = superStart s.now ∧ s.formReport.totals = qs.map (fun (q : Fin 16) => (q, s.totals q)) ∧
      s.formReport.body = leBytes 8 (tt64 (superStart s.now - superT)) ++ leBytes 2 s.me ++ leBytes 4 (s.o Obj.SVC_ROSTER_GEN) ++
        leBytes 2 nodes ++ leBytes 2 (s.o Obj.SVC_ROSTER_N) ++ leBytes 1 qs.length ++ leBytes 1 flags ++
        qs.flatMap (fun (q : Fin 16) => s.totalRec q))

/-- The root floods the staged cue and takes it itself, every anchor takes a cue in time while fewer than 32 wait, and a waiting cue drives its pin at FIRE_AT -/
def Obligations.LanternFiresCues : Prop :=
  (∀ (s : State) (who : Fin 8) (b : Bytes), b = s.blob Obj.SVC_LTN_STAGE → s.svcOn 1 = true → s.isRoot = true →
    fieldN b 3 1 ≤ 16 → b.length = 24 + fieldN b 3 1 → s.now + 2 * s.o Obj.SVC_LTN_MIN_LEAD ≤ cueAt b →
    fieldN b 12 4 ≤ fieldN b 16 4 → s.svc.cues.length < 32 →
    exec (.ltnSend who) s = .next ((s.firmFlood 6 3 15 s.stagedCue).cueTake s.stagedCue)) ∧
  (∀ (s : State) (who : Fin 8), s.svcOn 1 = false ∨ s.isRoot = false →
    exec (.ltnSend who) s = .next (s.refuse who Obj.SVC_LTN_CMD 1)) ∧
  (∀ (s : State) (i : Nat) (e b : Bytes), e = s.floodElem i → b = s.elemPayload e → fieldN e 1 1 = 3 →
    b.length = 24 + fieldN b 3 1 → fieldN b 3 1 ≤ 16 → s.svcOn 1 = true →
    exec (.cueRx i) s = .next (s.cueTake b)) ∧
  (∀ (s u : State) (b : Bytes), s.nextCue = some b →
    u = (s.upTo (cueAt b)).setCues (s.svc.cues.filter (fun x => cueId x != cueId b)) → bitOf (fieldN b 2 1) 1 = true →
    ¬ cueAt b < s.now → u.sysclk = true →
    u.o (Obj.GIO_p_CFG (fieldN b 20 1 % 16)) % 4 = 1 ∨ u.o (Obj.GIO_p_CFG (fieldN b 20 1 % 16)) % 4 = 2 →
    exec .cueFire s = .next ((u.latch (fieldN b 20 1 % 16) (bitOf (fieldN b 20 1) 4)).inc Obj.SVC_LTN_FIRED)) ∧
  (∀ (s u : State) (b : Bytes), s.nextCue = some b →
    u = (s.upTo (cueAt b)).setCues (s.svc.cues.filter (fun x => cueId x != cueId b)) → bitOf (fieldN b 2 1) 1 = true →
    cueAt b < s.now ∨ u.sysclk = false →
    exec .cueFire s = .next (u.miss 10 0x16 (cueAt b))) ∧
  (∀ (s u : State) (b : Bytes), s.nextCue = some b →
    u = (s.upTo (cueAt b)).setCues (s.svc.cues.filter (fun x => cueId x != cueId b)) → bitOf (fieldN b 2 1) 1 = false →
    exec .cueFire s = .next u)

/-- The owner of a tag names the strongest hearer its home and lets it lapse, the root keeps records until they are acknowledged, and a downlink request goes to the home, into a DOWN frame, and is over at its DN_ACK or after EXPIRE -/
def Obligations.BasketCarriesRecordsUpAndRequestsDown : Prop :=
  (∀ (s u : State) (tag fcnt : Nat) (h h2 : Home) (l : List Offer) (b : Offer),
    s.svc.homes.find? (fun y => y.tag == tag) = some h → l = h.offers.filter (fun y => y.fcnt == fcnt) →
    l.foldl (fun (m : Option Offer) y => match m with | none => some y | some z => if z.rssi < y.rssi then some y else some z) none = some b →
    h2 = { h with home := b.hearer, rssi := b.rssi, heard := l.foldl (fun m y => max m y.endAt) h.heard, offers := h.offers.filter (fun y => y.fcnt != fcnt) } →
    u = (s.upTo (l.foldl (fun m y => max m (offerEnd y.endAt)) 0)).modSvc (fun y => { y with homes := h2 :: y.homes.filter (fun z => z.tag != tag) }) →
    exec (.homeDecide tag fcnt) s = .next (
      if h.home = b.hearer then u
      else if h.home = 0 then u.send 7 b.hearer 4 0 (homeBody tag 1)
      else (u.send 7 b.hearer 4 0 (homeBody tag 1)).send 7 h.home 4 0 (homeBody tag 0))) ∧
  (∀ (s : State) (i : Nat) (e b : Bytes) (l : List Nat), e = s.uniElem i → b = s.elemPayload e → fieldN e 1 1 = 4 →
    b.length = 5 → s.svcOn 3 = true → l = s.svc.homesHere.filter (fun y => y != fieldN b 0 4) →
    exec (.homeRx i) s = .next (s.modSvc (fun y => { y with homesHere := if fieldN b 4 1 = 1 then fieldN b 0 4 :: l else l }))) ∧
  (∀ (s u : State) (tag : Nat) (h : Home), s.homeOf tag = some h →
    u = s.upTo (h.heard + epochT * s.o Obj.SVC_HOME_AGE) →
    exec (.homeLapse tag) s = .next (u.modSvc (fun y => { y with homes := y.homes.map (fun z => if z.tag = tag then { z with home := 0 } else z) }))) ∧
  (∀ (s : State) (i : Nat) (e b : Bytes), e = s.uniElem i → b = s.elemPayload e → fieldN e 1 1 = 5 → 26 ≤ b.length →
    s.svcOn 3 = true → s.tallyRoot = true →
    exec (.bskUpRx i) s = .next (s.addRecord b)) ∧
  (∀ (s : State) (r : Bytes), s.recordDue = some r → s.svcOn 3 = true → s.tallyRoot = true → s.hostSession = true →
    exec .bskRecordSend s = .next ((s.raiseFw 0x801 0x17 0 r).modSvc (fun y => { y with recNext := (y.recNext + 1) % 2 ^ 32 }))) ∧
  (∀ (s : State) (who : Fin 8) (v a : Nat), a = s.o Obj.SVC_BSK_ACKED →
    consOk (2 ^ 32) a (s.o Obj.SVC_BSK_NEXT) v = true →
    exec (.bskAckedWrite who v) s = .next ((s.setO Obj.SVC_BSK_ACKED v).modSvc (fun y => { y with records := y.records.filter (fun r => decide ((v + 2 ^ 32 - a) % 2 ^ 32 ≤ (r.1 + 2 ^ 32 - a) % 2 ^ 32)), recNext := if (y.recNext + 2 ^ 32 - a) % 2 ^ 32 < (v + 2 ^ 32 - a) % 2 ^ 32 then v else y.recNext }))) ∧
  (∀ (s : State) (who : Fin 8) (v : Nat), consOk (2 ^ 32) (s.o Obj.SVC_BSK_ACKED) (s.o Obj.SVC_BSK_NEXT) v = false →
    exec (.bskAckedWrite who v) s = .next (s.dropped (windowAddr Obj.SVC_BSK_ACKED) v who 3)) ∧
  (∀ (s : State), s.svcOn 3 = true → s.tallyRoot = true → s.hostSession = true → frameOf s.now = 0 →
    exec .bskStatusSend s = .next (s.raiseFw 0x802 0x17 0 (leBytes 4 (s.o Obj.SVC_BSK_NEXT) ++ leBytes 4 (s.o Obj.SVC_BSK_ACKED) ++ leBytes 4 (s.o Obj.SVC_BSK_DROPPED)))) ∧
  (∀ (s u : State) (who : Fin 8) (b : Bytes), b = s.blob Obj.SVC_BSK_DN_STAGE → s.svcOn 3 = true → s.isRoot = true →
    fieldN b 16 2 ≤ 200 → 20 + fieldN b 16 2 ≤ b.length → s.now < linear (fieldN b 8 8) → s.svc.opens.length < 1024 →
    u = s.setOpens (s.svc.opens ++ [dnOf b]) →
    exec (.bskDnSend who) s = .next (if (u.holders (shardOf (dnOf b).tag)).1 = 0 then u
      else u.send 7 (u.holders (shardOf (dnOf b).tag)).1 6 0 (dnOf b).body)) ∧
  (∀ (s : State) (i : Nat) (e b : Bytes), e = s.floodElem i → b = s.elemPayload e → s.svcOn 3 = true →
    fieldN e 1 1 = 4 → 20 ≤ b.length →
    exec (.bskDownRx true i) s = .next (s.serve { dnOf b with paged := true })) ∧
  (∀ (s : State) (i : Nat) (e b : Bytes), e = s.uniElem i → b = s.elemPayload e → s.svcOn 3 = true → fieldN e 1 1 = 6 →
    20 ≤ b.length →
    exec (.bskDownRx false i) s = .next (s.downTake (dnOf b))) ∧
  (∀ (s : State) (i : Nat) (e b : Bytes) (r : DnReq), e = s.uniElem i → b = s.elemPayload e → s.svcOn 3 = true →
    fieldN e 1 1 = 7 → b.length = 5 → s.svc.opens.find? (fun y => y.req == fieldN b 0 4) = some r →
    exec (.bskDownRx false i) s = .next (s.dnOver r (fieldN e 2 2 % 4096) (fieldN b 4 1))) ∧
  (∀ (s u : State) (req fcnt : Nat) (r : DnReq) (v : Instant × Nat),
    s.svc.serves.find? (fun y => y.req == req && decide (s.now < linear y.expire) && (!y.paged || s.heardLately y.tag)) = some r →
    s.rdvNow r.tag (s.listenK r.tag 0) = some v → s.downFits r.tag (2 + r.data.length) = true →
    u = s.downSend r.tag v (s.downBody r.tag ([1] ++ leBytes 1 r.data.length ++ r.data)) →
    exec (.bskDownTx req fcnt) s = .next (u.modSvc (fun y => { y with
      serves := y.serves.map (fun z => if z.req = req ∧ z.tag = r.tag then { z with sent := fcnt :: z.sent } else z) }))) ∧
  (∀ (s : State) (req fcnt : Nat) (r : DnReq) (v : Instant × Nat),
    s.svc.serves.find? (fun y => y.req == req && decide (s.now < linear y.expire) && (!y.paged || s.heardLately y.tag)) = some r →
    s.rdvNow r.tag (s.listenK r.tag 0) = some v → s.downFits r.tag (2 + r.data.length) = false →
    exec (.bskDownTx req fcnt) s = .next (s.downMaps r.tag v)) ∧
  (∀ (s : State) (req fcnt : Nat) (r : DnReq),
    s.svc.serves.find? (fun y => y.req == req && decide (s.now < linear y.expire) && (!y.paged || s.heardLately y.tag)) = some r →
    s.rdvNow r.tag (s.listenK r.tag 0) = none →
    exec (.bskDownTx req fcnt) s = .next { s with rbytes := [] }) ∧
  (∀ (s : State) (req fcnt : Nat),
    s.svc.serves.find? (fun y => y.req == req && decide (s.now < linear y.expire) && (!y.paged || s.heardLately y.tag)) = none →
    exec (.bskDownTx req fcnt) s = .next { s with rbytes := [] }) ∧
  (∀ (s : State) (n : Fin 4) (i : Nat) (e p : Bytes), e = s.rxElemAt n i → fieldN e 48 1 = 0 ∨ fieldN e 48 1 = 6 →
    fieldN e 50 1 = 1 → bitOf (fieldN e 51 1) 0 = false → s.svcOn 3 = true → p = s.rxPsdu n e →
    exec (.dnAckRx n i) s = .next ((frameElements p).1.foldl (fun (t : State) y => if y.1 = 4 then t.dnAck (fieldN p 0 4) y.2 else t) s)) ∧
  (∀ (s : State) (req : Nat) (r : DnReq), s.svc.opens.find? (fun y => y.req == req) = some r →
    exec (.bskDnExpire req) s = .next ((s.upTo (linear r.expire + 2 * superT)).dnOver r 0 1))

/-- The root starts and stops a campaign and floods its CATALOG again, seeds RATE pieces in a superframe, and an anchor takes pieces, asks its neighbour for those it lacks after the pass, answers the requests of others and offers tags their pieces -/
def Obligations.HamperSpreadsAnImage : Prop :=
  (∀ (s u : State) (who : Fin 8) (d image : Bytes), d = s.stagedCampaign → s.svcOn 2 = true → s.isRoot = true →
    (s.blob Obj.SVC_HMP_STAGE).length = 40 → s.campRuns = false → cImage d ≠ 0 → cKind d ≤ 1 → cSize d ≠ 0 →
    cPsizeOk d = true → cCount d ≤ 65535 → cStart d < cEnd d → s.imageHere d = true →
    image = (if cKind d = 0 then [] else s.blob Obj.SVC_HMP_IMAGE) → u = s.firmFlood 7 6 15 (catalogBody d) →
    exec (.hmpStart who) s = .next ((u.modSvc (fun x => { x with camp := some { desc := d, image := image, root := true } })).takeCatalog d)) ∧
  (∀ (s : State) (who : Fin 8), s.svcOn 2 = false ∨ s.isRoot = false →
    exec (.hmpStart who) s = .next (s.refuse who Obj.SVC_HMP_CMD 1)) ∧
  (∀ (s : State) (who : Fin 8) (k : Campaign) (d : Bytes), s.svc.camp = some k → s.svcOn 2 = true → s.isRoot = true →
    s.campRuns = true → d = sliceB k.desc 0 20 ++ leBytes 8 (tt64 s.now) ++ sliceB (k.desc.drop 28) 0 12 →
    exec (.hmpStop who) s = .next ((s.firmFlood 7 6 15 (catalogBody d)).takeCatalog d)) ∧
  (∀ (s : State) (k : Campaign), s.svc.camp = some k → s.svcOn 2 = true → s.isRoot = true → s.campRuns = true →
    exec .catalogReflood s = .next (s.firmFlood 7 6 15 (catalogBody k.desc))) ∧
  (∀ (s u : State) (k : Campaign), s.svc.camp = some k → s.svcOn 2 = true → s.isRoot = true → k.root = true →
    s.campRuns = true → cStart k.desc ≤ s.now → k.seedSf ≠ some s.sf →
    u = ((List.range (cRate k.desc)).map (fun j => k.next + j)).foldl (fun (t : State) i => match t.pieceOf k i with | some p => t.firmFlood 7 5 15 (pieceBody k.desc i p) | none => t) s →
    exec .pieceSeed s = .next (u.modCamp (fun y => { y with next := min (cCount y.desc) (y.next + cRate y.desc), seedSf := some u.sf })).hmpShow) ∧
  (∀ (s : State) (flood : Bool) (i : Nat) (e b : Bytes), e = (if flood then s.floodElem i else s.uniElem i) →
    b = s.elemPayload e → fieldN e 1 1 = (if flood then 5 else 9) → 9 ≤ b.length → s.svcOn 2 = true →
    exec (.pieceRx flood i) s = .next (s.takePiece b)) ∧
  (∀ (s u : State) (k : Campaign) (l : List Nat) (r : Route), s.svc.camp = some k → l = k.missing.take (cRate k.desc) →
    s.svcOn 2 = true → s.campRuns = true → cPassEnd k.desc ≤ s.now → l ≠ [] → k.reqSf ≠ some s.sf →
    s.route (s.o Obj.SVC_ROOT) = some r → u = s.modCamp (fun y => { y with reqSf := some s.sf }) →
    exec .pieceReqSend s = .next ((u.inc Obj.SVC_HMP_REQ).send 7 r.hop 8 0 (leBytes 2 (cImage k.desc) ++ leBytes 1 l.length ++ l.flatMap (fun i => leBytes 2 i)))) ∧
  (∀ (s : State) (i n : Nat) (e b : Bytes) (k : Campaign), e = s.uniElem i → b = s.elemPayload e →
    s.svc.camp = some k → n = fieldN b 2 1 → fieldN e 1 1 = 8 → s.svcOn 2 = true → s.campRuns = true →
    fieldN b 0 2 = cImage k.desc → 1 ≤ n → n ≤ 64 → b.length = 3 + 2 * n →
    exec (.pieceReqRx i) s = .next (((List.range n).map (fun j => fieldN b (3 + 2 * j) 2)).foldl (fun (t : State) j => t.answerPiece (fieldN e 2 2 % 4096) j) s)) ∧
  (∀ (s : State) (tag k m : Nat) (v : Instant × Nat) (g : Campaign) (p : Bytes), m = s.listenK tag (k % 7) →
    s.rdvNow tag m = some v → s.carousel tag = some g → s.pieceOf g (s.sf / 2 ^ m % cCount g.desc) = some p →
    s.downFits tag (12 + p.length) = true →
    exec (.tagPieceSend tag k) s = .next ((s.inc Obj.SVC_HMP_TAG_SENT).downSend tag v
      (s.downBody tag (pieceElem g.desc (s.sf / 2 ^ m % cCount g.desc) p)))) ∧
  (∀ (s : State) (tag k m : Nat) (v : Instant × Nat) (g : Campaign), m = s.listenK tag (k % 7) →
    s.rdvNow tag m = some v → s.carousel tag = some g →
    (s.pieceOf g (s.sf / 2 ^ m % cCount g.desc)).filter (fun p => s.downFits tag (12 + p.length)) = none →
    exec (.tagPieceSend tag k) s = .next ((s.inc Obj.SVC_HMP_TAG_SKIP).downMaps tag v)) ∧
  (∀ (s : State) (tag k : Nat), s.rdvNow tag (s.listenK tag (k % 7)) = none →
    exec (.tagPieceSend tag k) s = .next { s with rbytes := [] })

/-- A command is taken when none runs, the Shell is READY and the writer has the level. The clause of IMPORT names the work by its function, since the unwrapping is an opaque function of the key (log 10). -/
def Obligations.ShellCommandsActOnKeySlots : Prop :=
  (∀ (s t : State) (who : Writer) (u : State) (ty uses fl : Nat) (key : Bytes), s.shellFree who 3 = true →
    t = s.shellOut → ty = fieldN t.arg 0 1 → uses = fieldN t.arg 1 2 → fl = fieldN t.arg 3 1 → 1 < t.tgt →
    t.slotState t.tgt = 0 → 4 ≤ t.arg.length → keyArgOk ty uses fl = true → t.o Obj.SHL_RNG_STATE ≠ 1 →
    t.drbg (keyLen ty) = (key, u) →
    exec (.shlGenerate who) s = .next (((if ty = 2 then u.setBlob Obj.SHL_CMD_OUT (Config.p256Public key) else u).loadChecked ty uses fl 0 key).2.shellRuns 1 ((if ty = 2 then u.setBlob Obj.SHL_CMD_OUT (Config.p256Public key) else u).loadChecked ty uses fl 0 key).1)) ∧
  (∀ (s t : State) (who : Writer), s.shellFree who 3 = true → t = s.shellOut →
    exec (.shlImport who) s = .next ((t.importBody).2.shellRuns 2 (t.importBody).1)) ∧
  (∀ (s t : State) (who : Writer) (w ty : Nat) (head : Bytes), s.shellFree who 3 = true → t = s.shellOut →
    w = fieldN t.arg 0 1 → 1 < t.tgt → w ≠ 0 → t.slotState t.tgt = 1 → 1 ≤ t.arg.length →
    ¬ (w = 1 ∧ t.o Obj.SHL_WRAP_GEN = 32) → t.permits w 6 = true →
    bitOf (t.slotAttr t.tgt) (if w = 1 then 4 else 5) = true → ty = t.slotType t.tgt →
    head = leBytes 1 1 ++ leBytes 1 ty ++ leBytes 2 (fld (t.slotAttr t.tgt) 31 16) ++ leBytes 1 (fld (t.slotAttr t.tgt) 5 4) ++ leBytes 1 (if w = 1 then t.o Obj.SHL_WRAP_GEN else 0xFF) ++ leBytes 2 0 →
    exec (.shlExport who) s = .next ((((0 : Nat), t.setBlob Obj.SHL_CMD_OUT (head ++ sliceB (Config.keyWrap (t.keyOf w) (head ++ sliceB (t.keyOf t.tgt) 0 32)) 0 48 ++ kcvOf ty (t.keyOf t.tgt) ++ leBytes 4 0))).2.shellRuns 3 (((0 : Nat), t.setBlob Obj.SHL_CMD_OUT (head ++ sliceB (Config.keyWrap (t.keyOf w) (head ++ sliceB (t.keyOf t.tgt) 0 32)) 0 48 ++ kcvOf ty (t.keyOf t.tgt) ++ leBytes 4 0))).1)) ∧
  (∀ (s t : State) (who : Writer) (p ty uses fl il : Nat) (r : Nat × State), s.shellFree who 3 = true →
    t = s.shellOut → p = fieldN t.arg 0 1 → ty = fieldN t.arg 1 1 → uses = fieldN t.arg 2 2 → fl = fieldN t.arg 4 1 →
    il = fieldN t.arg 5 1 → 1 < t.tgt → p ≠ 0 → t.slotState t.tgt = 0 → 70 + il ≤ t.arg.length → il ≤ 64 →
    keyArgOk ty uses fl = true → t.permits p 9 = true →
    (r = if onCurve (sliceB t.arg 6 64) then (match Config.ecdh (t.keyOf p) (sliceB t.arg 6 64) with
        | none => (3, t)
        | some z => t.loadChecked ty uses fl 2 (Config.hkdf z [] (sliceB t.arg 70 il) (keyLen ty))) else (3, t)) →
    exec (.shlAgree who) s = .next (r.2.shellRuns 4 r.1)) ∧
  (∀ (s t : State) (who : Writer) (p ty uses fl il : Nat), s.shellFree who 3 = true → t = s.shellOut →
    p = fieldN t.arg 0 1 → ty = fieldN t.arg 1 1 → uses = fieldN t.arg 2 2 → fl = fieldN t.arg 4 1 →
    il = fieldN t.arg 5 1 → 1 < t.tgt → p ≠ 0 → t.slotState t.tgt = 0 → 6 + il ≤ t.arg.length →
    keyArgOk ty uses fl = true → t.permits p 10 = true →
    exec (.shlDerive who) s = .next ((t.loadChecked ty uses fl 2 (Config.hkdf (t.keyOf p) [] (sliceB t.arg 6 il) (keyLen ty))).2.shellRuns 5 (t.loadChecked ty uses fl 2 (Config.hkdf (t.keyOf p) [] (sliceB t.arg 6 il) (keyLen ty))).1)) ∧
  (∀ (s t : State) (who : Writer), s.shellFree who 3 = true → t = s.shellOut → 1 < t.tgt →
    exec (.shlErase who) s = .next ((((0 : Nat), ((t.emptySlot t.tgt).countSlots).keepBlob t.tgt none)).2.shellRuns 6 (((0 : Nat), ((t.emptySlot t.tgt).countSlots).keepBlob t.tgt none)).1)) ∧
  (∀ (s t : State) (who : Writer) (mask : Nat), s.shellFree who 3 = true → t = s.shellOut → mask = fieldN t.arg 0 2 →
    1 < t.tgt → t.slotState t.tgt = 1 → 2 ≤ t.arg.length → natAnd mask 0xF800 = 0 →
    exec (.shlRestrict who) s = .next ((((0 : Nat), t.setO (Obj.SHL_SLOTk_ATTR t.tgt) (setFld (t.slotAttr t.tgt) 31 16 (natAnd (fld (t.slotAttr t.tgt) 31 16) (0xFFFF - mask))))).2.shellRuns 7 (((0 : Nat), t.setO (Obj.SHL_SLOTk_ATTR t.tgt) (setFld (t.slotAttr t.tgt) 31 16 (natAnd (fld (t.slotAttr t.tgt) 31 16) (0xFFFF - mask))))).1)) ∧
  (∀ (s t : State) (who : Writer), s.shellFree who 2 = true → t = s.shellOut → 1 < t.tgt → t.tgt ≤ 63 →
    t.slotState t.tgt = 0 ∨ t.persisted t.tgt = false →
    exec (.shlCtrSync who) s = .next ((((0 : Nat), t)).2.shellRuns 8 (((0 : Nat), t)).1)) ∧
  (∀ (s t : State) (who : Writer) (v : Nat), s.shellFree who 2 = true → t = s.shellOut → 1 < t.tgt → t.tgt ≤ 63 →
    t.slotState t.tgt ≠ 0 → t.persisted t.tgt = true → t.findMark (kcvOf (t.slotType t.tgt) (t.keyOf t.tgt)) = some v →
    exec (.shlCtrSync who) s = .next ((((0 : Nat), ((t.setMark t.tgt (some v)).setO (Obj.SHL_SLOTk_LIMIT t.tgt) (max ((t.setMark t.tgt (some v)).o (Obj.SHL_SLOTk_LIMIT t.tgt)) (min (v + 65536) 0xFFFFFFFF))).judgeCtr t.tgt)).2.shellRuns 8 (((0 : Nat), ((t.setMark t.tgt (some v)).setO (Obj.SHL_SLOTk_LIMIT t.tgt) (max ((t.setMark t.tgt (some v)).o (Obj.SHL_SLOTk_LIMIT t.tgt)) (min (v + 65536) 0xFFFFFFFF))).judgeCtr t.tgt)).1)) ∧
  (∀ (s t : State) (who : Writer) (k : Nat), s.shellFree who 2 = true → t = s.shellOut → k = fieldN t.arg 0 1 →
    1 ≤ t.arg.length → k ≤ 1 → t.coveredBy (1 - k) = true →
    exec (.shlPermit who) s = .next ((((0 : Nat), { t with shell := { t.shell with permit := setBit t.shell.permit k true } })).2.shellRuns 9 (((0 : Nat), { t with shell := { t.shell with permit := setBit t.shell.permit k true } })).1)) ∧
  (∀ (s t : State) (who : Writer), s.shellFree who 1 = true → t = s.shellOut →
    exec (.shlAttest who) s = .next ((((0 : Nat), t.setBlob Obj.SHL_ATT_REPORT t.report)).2.shellRuns 10 (((0 : Nat), t.setBlob Obj.SHL_ATT_REPORT t.report)).1)) ∧
  (∀ (s t : State) (who : Writer), s.shellFree who 1 = true → t = s.shellOut → 1 < t.tgt → t.slotState t.tgt = 1 →
    t.slotType t.tgt = 2 →
    exec (.shlPubkey who) s = .next ((((0 : Nat), t.setBlob Obj.SHL_CMD_OUT (Config.p256Public (t.keyOf t.tgt)))).2.shellRuns 11 (((0 : Nat), t.setBlob Obj.SHL_CMD_OUT (Config.p256Public (t.keyOf t.tgt)))).1)) ∧
  (∀ (s t : State) (who : Writer), s.shellFree who 2 = true → t = s.shellOut → 1 < t.tgt → t.slotState t.tgt = 1 →
    t.slotType t.tgt = 2 → t.arg.length = 32 → t.permits t.tgt 8 = true →
    exec (.shlSign who) s = .next ((((0 : Nat), t.setBlob Obj.SHL_CMD_OUT (Config.ecdsaSign (t.keyOf t.tgt) t.arg))).2.shellRuns 12 (((0 : Nat), t.setBlob Obj.SHL_CMD_OUT (Config.ecdsaSign (t.keyOf t.tgt) t.arg))).1)) ∧
  (∀ (s t : State) (who : Writer) (pub : Bytes), s.shellFree who 1 = true → t = s.shellOut → pub = sliceB t.arg 0 64 →
    t.arg.length = 160 →
    exec (.shlVerify who) s = .next (((if !(onCurve pub) then ((3 : Nat), t) else if Config.ecdsaVerify pub (sliceB t.arg 64 32) (sliceB t.arg 96 64) then (0, t) else (9, t))).2.shellRuns 13 ((if !(onCurve pub) then ((3 : Nat), t) else if Config.ecdsaVerify pub (sliceB t.arg 64 32) (sliceB t.arg 96 64) then (0, t) else (9, t))).1)) ∧
  (∀ (s t : State) (who : Writer), s.shellFree who 3 = true → t = s.shellOut → t.arg.length = 32 →
    t.shell.ownerHash = none →
    exec (.shlSetOwner who) s = .next ((((0 : Nat), { t with shell := { t.shell with ownerHash := some t.arg } })).2.shellRuns 14 (((0 : Nat), { t with shell := { t.shell with ownerHash := some t.arg } })).1)) ∧
  (∀ (s : State) (who : Writer), s.shell.running.isSome = true ∨ s.o Obj.SHL_STATE = 0 →
    exec (.shlErase who) s = .next ((s.setO Obj.SHL_CMD_STATUS 1).raise 0x120 0 (6 + 256 * 1)) ∧ exec (.shlSign who) s = .next ((s.setO Obj.SHL_CMD_STATUS 1).raise 0x120 0 (12 + 256 * 1))) ∧
  (∀ (s : State) (code st : Nat), s.shell.running = some (code, st) → s.shell.asked = none →
    exec .shellCmd s = .next (({ s with shell := { s.shell with running := none } }.setO Obj.SHL_CMD_STATUS st).raise 0x120 0 (code + 256 * st))) ∧
  (∀ (s u : State) (w : Writer) (tag code st : Nat), s.shell.running = some (code, st) →
    s.shell.asked = some (w, tag) →
    u = ({ s with shell := { s.shell with running := none, asked := none } }.setO Obj.SHL_CMD_STATUS st).raise 0x120 0 (code + 256 * st) →
    exec .shellCmd s = .next (u.respond w 2 tag (keyBytes Obj.SHL_CMD ++ (if u.o Obj.SHL_CMD_STATUS = 0 then [] else leBytes 1 (u.o Obj.SHL_CMD_STATUS))))) ∧
  (∀ (s u : State), s.o Obj.SHL_STATE = 0 → u = s.loadSlot 0 2 0 0 3 Config.deviceKey →
    exec .shellReady s = .next ((if u.o Obj.SHL_WRAP_GEN < 32 then u.loadSlot 1 1 0x40 0 3 (wrapKey (u.o Obj.SHL_WRAP_GEN)) else (u.emptySlot 1).countSlots).setO Obj.SHL_STATE 1)) ∧
  (∀ (s : State), 65536 ≤ s.shell.drbgReq → s.o Obj.SHL_RNG_STATE = 0 →
    exec .drbgReseed s = .next { s with shell := { s.shell with drbgReq := 0 } }) ∧
  (∀ (s : State) (who : Writer) (i : Fin 4) (v : Bytes), (∀ x, who ≠ .session x) → v.length = 32 →
    exec (.measExtend who i v) s = .next (s.setBlob (Obj.SHL_MEAS i) (Config.sha256 (sliceB (s.blob (Obj.SHL_MEAS i)) 0 32 ++ v))))

/-- An alarm latches its source at D after its filter, closes the key bus, zeroises every slot with one event, and a PURGE blows a fuse; the random source fails and recovers; a debug unlock is challenged, answered and ended -/
def Obligations.AlarmsErasePurgeAndUnlocksEnd : Prop :=
  (∀ (s : State) (src : Nat) (stopped : Bool), s.alarmWatches src stopped = true → s.alarmAct src ≠ 0 →
    exec (.alarmSourceDetect src stopped) s = .next (s.modShell (fun x => { x with sources := (src, s.now + s.alarmFilter src stopped) :: x.sources.filter (fun p => p.1 != src) }))) ∧
  (∀ (s : State) (p : Fin 2) (stopped : Bool), s.o (Obj.SHL_TAMPp_MODE p) = 0 →
    exec (.alarmSourceDetect (5 + p) stopped) s = .next s) ∧
  (∀ (s r u : State) (src : Nat) (d : Instant), s.shell.sources.find? (fun p => p.1 == src) = some (src, d) →
    r = (s.upTo d).modShell (fun x => { x with sources := x.sources.filter (fun p => p.1 != src) }) →
    r.alarmAct src = 1 → (u = if src = 7 then r.airStop 0x1B else r) →
    ∃ t, t = ((u.setO Obj.SHL_ALARM_AT (tt64 u.now)).setO Obj.SHL_ALARM_SRC (setBit ((u.setO Obj.SHL_ALARM_AT (tt64 u.now)).o Obj.SHL_ALARM_SRC) (src - 1) true)).inc Obj.SHL_ALARM_TOTAL ∧ exec (.alarmLatch src) s = .next (t.raise 0x121 src 1)) ∧
  (∀ (s r u t : State) (src act : Nat) (d : Instant), s.shell.sources.find? (fun p => p.1 == src) = some (src, d) →
    r = (s.upTo d).modShell (fun x => { x with sources := x.sources.filter (fun p => p.1 != src) }) →
    r.alarmAct src = act → 2 ≤ act → (u = if src = 7 then r.airStop 0x1B else r) →
    t = ((u.setO Obj.SHL_ALARM_AT (tt64 u.now)).setO Obj.SHL_ALARM_SRC (setBit ((u.setO Obj.SHL_ALARM_AT (tt64 u.now)).o Obj.SHL_ALARM_SRC) (src - 1) true)).inc Obj.SHL_ALARM_TOTAL →
    exec (.alarmLatch src) s = .next (t.unlockEnd.modShell (fun x => { x with alarms := x.alarms.map (fun a => { a with unlock := none }) ++ [{ src := src, act := act, d := u.now }] }))) ∧
  (∀ (s : State) (cuts : List (Nat × Nat × Bool)) (a : AlarmRun), s.shell.alarms.find? (fun a => !a.closed) = some a →
    exec (.keyBusClose cuts) s = .next (((s.upTo (a.d + 3)).keyAbort cuts).modShell (fun x => { x with alarms := alarmMod (fun b => !b.closed) (fun b => { b with closed := true }) x.alarms }))) ∧
  (∀ (s u : State) (a : AlarmRun), s.shell.alarms.find? (fun a => a.closed && !a.zeroised) = some a →
    u = (s.upTo (a.d + 39)).zeroise.setO Obj.SHL_STATE 2 →
    ∃ t : State, exec .slotZeroise s = .next (t.raise 0x121 a.src a.act) ∧ t.objs = u.objs ∧ t.shell.keys = u.shell.keys ∧ t.shell.drbgReq = 0 ∧ t.shell.running = u.shell.running.map (fun r => (r.1, 0x0A))) ∧
  (∀ (s u v : State) (a : AlarmRun), s.shell.alarms.find? (fun a => a.zeroised && a.act == 3) = some a →
    u = s.upTo (a.d + 768) →
    v = (u.setO Obj.SHL_WRAP_GEN (min 32 (u.o Obj.SHL_WRAP_GEN + 1))).modShell (fun x => { x with alarms := x.alarms.filter (fun b => b != a) }) →
    exec .fusePurge s = .next (match a.unlock with | none => v | some dur => v.unlock 2 dur)) ∧
  (∀ (s u : State), u = (s.setO Obj.SHL_RNG_STATE 1).inc Obj.SHL_RNG_FAILS →
    exec .rngFail s = .next (u.raise 0x124 0 (u.o Obj.SHL_RNG_FAILS))) ∧
  (∀ (s : State) (windows : Nat), s.o Obj.SHL_RNG_STATE = 1 → 4 ≤ windows →
    exec (.rngRecover windows) s = .next { s.setO Obj.SHL_RNG_STATE 0 with shell := { s.shell with drbgReq := 0 } }) ∧
  (∀ (s u : State) (b : Bytes), s.challenge = some (b, u) →
    exec .debugChallenge s = .next { u with rbytes := b }) ∧
  (∀ (s : State), s.o Obj.SHL_DBG_STATE = 3 ∨ s.o Obj.SHL_RNG_STATE = 1 →
    exec .debugChallenge s = .next { s with rbytes := [] }) ∧
  (∀ (s u : State) (b : Bytes) (n : Nat), u = s.modShell (fun x => { x with challenge := none }) →
    n = u.o Obj.SHL_DBG_FAILS + 1 →
    exec (.debugResponse b) s = .next (
      if s.responseOk b then
        if fieldN b 24 1 = 1 then u.unlock 1 (fieldN b 28 4)
        else u.modShell (fun x => { x with alarms := x.alarms ++ [{ src := 0, act := 3, d := u.now, unlock := some (fieldN b 28 4) }] })
      else (if 3 ≤ n then ((u.setO Obj.SHL_DBG_FAILS (min 255 n)).setO Obj.SHL_DBG_STATE 3).setO Obj.SHL_DBG_UNTIL 0
            else u.setO Obj.SHL_DBG_FAILS (min 255 n)).raise 0x125 0 (min 255 n))) ∧
  (∀ (s : State), s.o Obj.SHL_DBG_STATE = 1 ∨ s.o Obj.SHL_DBG_STATE = 2 → s.o Obj.SHL_DBG_UNTIL ≠ 0 →
    exec .debugUnlockEnd s = .next (s.upTo (linear (s.o Obj.SHL_DBG_UNTIL))).unlockEnd)

/-- A submission that passes the checks takes a record and a ticket and waits, a free channel runs it, its end writes its work and its record, a START_BY cancels it, a reset's open records are recovered; the consumer index, cells and CRC units obey their rules -/
def Obligations.JobsRunFromSubmissionToTheLedger : Prop :=
  (∀ (s : State) (who : Fin 8) (a : Nat), s.accepts who a = true → dKind (s.descAt a) = 1 →
    exec (.jobCopy who a) s = .next (s.queued who a)) ∧
  (∀ (s : State) (who : Fin 8) (a : Nat), s.accepts who a = true → dKind (s.descAt a) = 2 →
    exec (.jobFill who a) s = .next (s.queued who a)) ∧
  (∀ (s : State) (who : Fin 8) (a : Nat), s.accepts who a = true → dKind (s.descAt a) = 3 →
    exec (.jobCipher who a) s = .next (s.queued who a)) ∧
  (∀ (s : State) (who : Fin 8) (a : Nat), s.accepts who a = true → dKind (s.descAt a) = 4 →
    exec (.jobHash who a) s = .next (s.queued who a)) ∧
  (∀ (s : State) (who : Fin 8) (a : Nat), s.accepts who a = true → dKind (s.descAt a) = 5 →
    fieldN (s.descAt a) 30 1 = 0 →
    exec (.jobCrcFeed who a) s = .next (s.queued who a)) ∧
  (∀ (s : State) (who : Fin 8) (a : Nat), s.accepts who a = true → dKind (s.descAt a) = 5 →
    fieldN (s.descAt a) 30 1 = 1 →
    exec (.jobCrcAppend who a) s = .next (s.queued who a)) ∧
  (∀ (s : State) (who : Fin 8) (a : Nat), s.accepts who a = true → dKind (s.descAt a) = 5 →
    fieldN (s.descAt a) 30 1 = 2 →
    exec (.jobCrcStrip who a) s = .next (s.queued who a)) ∧
  (∀ (s : State) (who : Fin 8) (a : Nat), a % 4 ≠ 0 →
    exec (.jobCopy who a) s = .next ((s.setTicket who 0).dropped (windowAddr Obj.JOB_SUBMIT) a who 3)) ∧
  (∀ (s u v : State) (x : JobSt), fin8.findSome? (fun k => s.engineJob k) = none → s.runningJobs < 4 → s.pwr ≤ 2 →
    s.nextJob = some x → s.jobLate x = false →
    u = (s.recordState (ledAddr x.ticket) 2).modJobs (fun j => { j with lastCore := x.core, queue := j.queue.map (fun y => if y.ticket = x.ticket then { y with running := true } else y) }) →
    v = u.setO Obj.JOB_RUNNING u.runningJobs →
    exec .jobStart s = .next (if dKind x.desc = 5 then v.crcOwn (asFin 2 (fieldN x.desc 28 1)) (some x.ticket) else v)) ∧
  (∀ (s : State) (x : JobSt), fin8.findSome? (fun k => s.engineJob k) = none → s.runningJobs < 4 → s.pwr ≤ 2 →
    s.nextJob = some x → s.jobLate x = true →
    exec .jobStart s = .next ((s.miss 12 7 (linear (dStartBy x.desc))).jobOver x.core x.ticket x.desc 5 0x10 0 0)) ∧
  (∀ (s u : State) (t units : Nat) (begun : Bool) (lines : List (Nat × Nat)) (x : JobSt),
    s.jobs.queue.find? (fun y => y.ticket == t && y.running && decide (dKind y.desc < 7) && decide (s.pwr ≤ 2)) = some x →
    u = (lines.filter (fun p => decide (dSrc x.desc ≤ p.1 + 15) && decide (p.1 < dSrc x.desc + dLen x.desc))).foldl (fun (s : State) p => s.meetUnit p.1 p.2) s →
    u.jobFault x.desc 0 = none →
    exec (.jobEnd t units begun lines) s = .next (((u.readSrc x.desc (dLen x.desc)).jobWrites x (dLen x.desc) true).jobOver x.core t x.desc 3 0 (dLen x.desc) 0)) ∧
  (∀ (s u : State) (t : Nat) (x : JobSt),
    s.jobs.queue.find? (fun y => y.ticket == t && !y.running && decide (dStartBy y.desc ≠ 0)) = some x →
    u = s.upTo (linear (dStartBy x.desc)) →
    exec (.jobDeadline t) s = .next ((u.miss 12 7 (linear (dStartBy x.desc))).jobOver x.core x.ticket x.desc 5 0x10 0 0)) ∧
  (∀ (s u : State), s.jobs.recover = true → u = s.modJobs (fun j => { j with recover := false }) →
    exec .jobRecovery s = .next ((List.range 2048).foldl (fun (t : State) i => t.recoverRecord i) u)) ∧
  (∀ (s : State) (who : Fin 8) (v : Nat),
    exec (.jobLedConsWrite who v) s = .next (if consOk (2 ^ 32) (s.o Obj.JOB_LED_CONS) (s.o Obj.JOB_LED_PROD) v then s.setO Obj.JOB_LED_CONS v else s.dropped (windowAddr Obj.JOB_LED_CONS) v who 3)) ∧
  (∀ (s u : State) (who : Fin 8) (p : Fin 5) (k : Nat), s.jobs.pools[p].held.any (fun l => l.head? == some k) = true →
    u = s.modPool p (fun q => { q with held := dropChain q.held k, credit := q.credit.filter (fun x => x.1 != k) }) →
    exec (.poolFree who p k) s = .next (if p = 4 then u.syncHeld else u)) ∧
  (∀ (s : State) (who : Fin 8) (p : Fin 5) (k : Nat), s.jobs.pools[p].held.any (fun l => l.head? == some k) = false →
    exec (.poolFree who p k) s = .next ((s.inc (Obj.JOB_POOLn_BADFREE p)).dropped (windowAddr (Obj.JOB_POOLn_FREE_CMD p)) k who 3)) ∧
  (∀ (s : State) (who : Fin 8) (u : Fin 2) (width v : Nat), width = 1 ∨ width = 2 ∨ width = 4 →
    exec (.crcDataFeed who u width v) s = .next (if s.jobs.crcs[u].owner.isSome then s.dropped (windowAddr (Obj.JOB_CRCu_DATA u)) v who 4 else s.crcFeed u (leBytes width v))) ∧
  (∀ (s : State) (who : Fin 8) (u : Fin 2),
    exec (.crcStart who u) s = .next (if s.jobs.crcs[u].owner.isSome then s.dropped (windowAddr (Obj.JOB_CRCu_CMD u)) 1 who 4 else s.crcStart u)) ∧
  (∀ (s : State) (u : Fin 2) (v : Nat),
    exec (.crcFlagsClear u v) s = .next ([0, 1, 2].foldl (fun (t : State) k => if bitOf v k then t.crcFlag u k false else t) s))

/-- The controller serves the request it picks, patrols and fills clean units, trains, refreshes victims, retrains step by step in its gap, panics for a slice port and fences a degraded channel -/
def Obligations.DramServesPatrolsRetrainsAndFences : Prop :=
  (∀ (s u v : State) (k : Fin 2) (arrived : List DramReq) (q : DramReq), s.dramOn = true → s.fenceNear = false →
    u = arrived.foldl (fun (s : State) q => s.dramAccept q) s → u.dramPick k (u.dramReady k) = some q →
    v = { u.modDram (fun d => { d with ptr := vmod d.ptr k (fun _ => (u.reqBank q + 1) % 8) }) with rdata := q.addr } →
    exec (.dramRequest k arrived) s = .next (match q.data with
      | none => (v.modDram (fun d => { d with queue := dropReq q d.queue })).dramRead k q
      | some _ => (v.modDram (fun d => { d with wbuf := dropReq q d.wbuf })).touchRow q.addr q.req)) ∧
  (∀ (s : State) (k : Fin 2) (arrived : List DramReq), s.dramOn = true → s.fenceNear = true →
    exec (.dramRequest k arrived) s = .next s.dramFlush) ∧
  (∀ (s u : State) (err a : Nat), s.dramOn = true → a = 0x80000000 + 64 * (s.dram.scrub % (s.o Obj.DRM_SIZE / 64)) →
    u = s.modDram (fun d => { d with scrub := d.scrub + 1 }) →
    exec (.scrubRead false err) s = .next (if u.unitClean a then u else ((u.touchRow a 15).dramCheck (asFin 2 (u.dramAt a).ch) a err).2)) ∧
  (∀ (s : State) (err u : Nat), s.dramOn = true → u = nextClean s.dram.dirty s.dram.dirty.length s.dram.fill →
    u < s.unitTotal →
    exec (.scrubRead true err) s = .next ((s.openRowAt (s.unitRow u).1 (s.unitRow u).2 15).modDram (fun d => { d with fill := u + 1, dirty := d.dirty.filter (fun x => decide (u < x)) }))) ∧
  (∀ (s u : State), s.o Obj.DRM_STATE = 0 → s.pwr ≤ 2 → s.o (Obj.DRM_CHc_STATE 0) ≠ 2 ∨ s.o (Obj.DRM_CHc_STATE 1) ≠ 2 →
    u = (s.setO Obj.DRM_STATE 1).setO Obj.DRM_GRAIN_NOW (s.o Obj.DRM_GRAIN) →
    exec .dramInit s = .next (((u.setO (Obj.DRM_CHc_STATE 0) 0).setO (Obj.DRM_CHc_STATE 1) 0).setO Obj.DRM_SIZE 0x38000000)) ∧
  (∀ (s : State), s.o Obj.DRM_STATE = 1 →
    exec .dramReady s = .next ((s.dramBlank.setO Obj.DRM_STATE 2).modDram (fun d => { d with began := #v[s.now / superT, s.now / superT], round := Vector.replicate 2 none, wakeDue := Vector.replicate 2 false }))) ∧
  (∀ (s : State) (v : Victim) (l : List Victim), s.dram.due = v :: l →
    exec .rhVictimRefresh s = .next (s.victimRefresh v)) ∧
  (∀ (s : State),
    exec .rhWindowStart s = .next (s.modDram (fun d => { d with rows := Vector.replicate 16 [], throttled := [], rhRaised := [] }))) ∧
  (∀ (s u : State) (n : Fin 4) (level lv : Nat) (waited : Bool), lv = min level 4096 →
    u = (s.setO (Obj.DRM_RTn_LEVEL n) lv).setO (Obj.DRM_RTn_MAXLEVEL n) (max lv (s.o (Obj.DRM_RTn_MAXLEVEL n))) →
    ∃ f : Bool → State, (∀ x, f x = u.modDram (fun d => { d with panic := vmod d.panic n (fun _ => x) })) ∧ exec (.dramPanic n level waited) s = .next (
      if u.dram.panic[n] then (if !waited && lv + 1024 < u.o (Obj.DRM_RTn_PANIC n) then f false else u)
      else if waited || u.o (Obj.DRM_RTn_PANIC n) ≤ lv then (f true).inc (Obj.DRM_RTn_PANICS n) else u)) ∧
  (∀ (s : State) (who : Fin 8) (n : Fin 4) (v : Nat),
    exec (.drmRtnMaxlevelReset who n v) s = .next (if v = 0 then s.setO (Obj.DRM_RTn_MAXLEVEL n) 0 else s.dropped (windowAddr (Obj.DRM_RTn_MAXLEVEL n)) v who 3)) ∧
  (∀ (s : State) (k : Fin 2) (bank : Fin 8) (base : Nat), s.dramOn = true → s.o (Obj.DRM_CHc_STATE k) ≠ 2 →
    exec (.dramRefresh k bank base) s = .next ((s.modDram (fun d => { d with tempInt := vmod d.tempInt k (fun _ => base), openRow := vmod d.openRow (asFin 16 (8 * k.val + bank.val)) (fun _ => none) })).refInt k)) ∧
  (∀ (s u v w : State) (eye : Option Nat) (temp0 temp1 : Int) (k : Fin 2) (step : Nat), s.dramOn = true →
    s.dram.gapAt ≠ some (frameStart s.now + 383924) → s.now ≤ frameStart s.now + 383924 →
    u = (((s.upTo (frameStart s.now + 383924)).modDram (fun d => { d with gapAt := some (frameStart s.now + 383924) })).tempFirst 0 temp0).tempFirst 1 temp1 →
    u.roundChan (u.dramMoved 0 temp0) (u.dramMoved 1 temp1) = some k → step = u.dram.round[k].getD 0 →
    v = (if u.dram.round[k].isSome then u else u.modDram (fun d => { d with round := vmod d.round k (fun _ => some 0), roundBad := vmod d.roundBad k (fun _ => false), began := vmod d.began k (fun _ => u.now / superT), wakeDue := vmod d.wakeDue k (fun _ => false), temp := vmod d.temp k (fun _ => some (if k = 0 then temp0 else temp1)), lastRound := k.val })) →
    v.gapFree = true → w = (v.inc (Obj.DRM_CHc_PAUSES k)).retrainStep k step eye →
    exec (.dramRetrainPause eye temp0 temp1) s = .next (if step = 15 then w.roundEnd k else w.modDram (fun d => { d with round := vmod d.round k (fun _ => some (step + 1)) }))) ∧
  (∀ (s : State) (eye : Option Nat) (temp0 temp1 : Int), s.dram.gapAt = some (frameStart s.now + 383924) →
    exec (.dramRetrainPause eye temp0 temp1) s = .next s) ∧
  (∀ (s : State) (due : List (Fin 2)), s.dramOn = true → frameOf s.now = 0 →
    due = fin2.filter (fun (k : Fin 2) => s.o (Obj.DRM_CHc_STATE k) == 1 && decide (s.o (Obj.DRM_CHc_FENCE_CE k) ≤ s.o (Obj.DRM_CHc_CE_SF k)) && !(s.dram.fenceDue.any (fun p => p.1 == k.val))) →
    exec .dramFenceCheck s = .next (s.modDram (fun d => { d with fenceDue := d.fenceDue ++ due.map (fun (k : Fin 2) => (k.val, nextFrame s.now)) }))) ∧
  (∀ (s u : State) (c : Fin 2) (k : Nat) (t : Instant), s.dram.fenceDue.find? (fun x => x.1 == c.val) = some (k, t) →
    u = (s.upTo t).modDram (fun d => { d with fenceDue := d.fenceDue.filter (fun x => x.1 != c.val) }) →
    exec (.dramFenced c) s = .next (u.fence c)) ∧
  (∀ (s : State) (c : Fin 2), s.dram.fenceDue.find? (fun x => x.1 == c.val) = none →
    exec (.dramFenced c) s = .next s)

/-- A ROM routine that passes its checks leaves a ticket and status 0 and a FLASH job, or a word, a blank offset, bytes or a sector's state; pages, mappings and erases end their jobs; banks suspend and resume; the lock is written once and an entry of the journal is acknowledged -/
def Obligations.FlashRoutinesAndJobsObeyTheJournal : Prop :=
  (∀ (s q u : State) (k : Fin 8) (src a len r t : Nat), s.callable k 0 3 2 = true → q = s.scratch k →
    s.dTop k 3 = [src, a, len] → s.rTop k 1 = [r] → len ≠ 0 → inFlash a len = true → len ≤ 65536 →
    sectorOf (a + len - 1) = sectorOf a → areaOf (a + len - 1) = areaOf a → writableMem src = true →
    inRegion src len = true → a % 16 = 0 → len % 16 = 0 → src % 4 = 0 → wordMode (areaOf a) (sectorOf a) = false →
    q.locked (areaOf a) (sectorOf a) = false → q.sectorBusy (areaOf a) (sectorOf a) = false →
    q.firstNotBlank a 16 (len / 16) 0 = len →
    q.newRecord 1 6 14 len 0 (flashTag 0 (areaOf a) (sectorOf a)) = (some t, u) →
    exec (.flProgram k) s = .next ((u.modFlash (fun x => { x with jobs := x.jobs ++ [{ ticket := t, core := k, op := 0, area := areaOf a, sector := sectorOf a, src := src, addr := a, len := len }] })).retired k 3 [t, 0] 1 [] r)) ∧
  (∀ (s q u : State) (k : Fin 8) (l area r t : Nat), s.callable k 1 2 2 = true → q = s.scratch k →
    s.dTop k 2 = [l, area] → s.rTop k 1 = [r] → sectorOk area l = true → q.locked area l = false →
    q.noPermit area l = false → q.sectorBusy area l = false → q.newRecord 1 6 14 1 0 (flashTag 1 area l) = (some t, u) →
    exec (.flErase k) s = .next ((u.modFlash (fun x => { x with jobs := x.jobs ++ [{ ticket := t, core := k, op := 1, area := area, sector := l }] })).retired k 2 [t, 0] 1 [] r)) ∧
  (∀ (s q u : State) (k : Fin 8) (l area skip len r t : Nat), s.callable k 2 4 2 = true → q = s.scratch k →
    s.dTop k 4 = [l, area, skip, len] → s.rTop k 1 = [r] → sectorOk area l = true →
    len = 0 ∨ (sectorBase area l ≤ skip ∧ skip + len ≤ sectorBase area l + sectorLen area) → len = 0 ∨ skip % 16 = 0 →
    len % 16 = 0 → q.locked area l = false → len = 0 ∨ q.noPermit area l = false → q.sectorBusy area l = false →
    q.newRecord 1 6 14 1 0 (flashTag 2 area l) = (some t, u) →
    exec (.flRelocate k) s = .next ((u.modFlash (fun x => { x with jobs := x.jobs ++ [{ ticket := t, core := k, op := 2, area := area, sector := l, len := len, skip := skip }] })).retired k 4 [t, 0] 1 [] r)) ∧
  (∀ (s q : State) (k : Fin 8) (v a r old : Nat), s.callable k 3 2 1 = true → q = s.scratch k → s.dTop k 2 = [v, a] →
    s.rTop k 1 = [r] → inFlash a 4 = true → a % 4 = 0 → wordMode (areaOf a) (sectorOf a) = true →
    q.sectorBusy (areaOf a) (sectorOf a) = false → old = q.rn a 4 → natAnd v (0xFFFFFFFF - old) = 0 → v ≠ old →
    exec (.flCtrword k) s = .next (((q.putWord a v).inc Obj.FLS_RECORDS).retired k 2 [0] 1 [] r)) ∧
  (∀ (s q : State) (k : Fin 8) (a len n r : Nat), s.callable k 4 2 2 = true → q = s.scratch k → s.dTop k 2 = [a, len] →
    s.rTop k 1 = [r] → n = (if wordMode (areaOf a) (sectorOf a) then 4 else 16) → len ≠ 0 → inFlash a len = true →
    sectorOf (a + len - 1) = sectorOf a → areaOf (a + len - 1) = areaOf a → a % n = 0 → len % n = 0 →
    exec (.flBlank k) s = .next (q.retired k 2 [q.firstNotBlank a n (len / n) 0, 0] 1 [] r)) ∧
  (∀ (s q : State) (k : Fin 8) (cbs : List Nat) (src dst len r : Nat), s.callable k 5 3 2 = true → q = s.scratch k →
    s.dTop k 3 = [src, dst, len] → s.rTop k 1 = [r] →
    exec (.flReadchk k cbs) s = .next ((q.flReadchk src dst len cbs).2.retired k 3 (q.flReadchk src dst len cbs).1 1 [] r)) ∧
  (∀ (s q : State) (k : Fin 8) (l area r : Nat), s.callable k 6 2 4 = true → q = s.scratch k → s.dTop k 2 = [l, area] →
    s.rTop k 1 = [r] →
    exec (.flSector k) s = .next (q.retired k 2 (q.flSector l area) 1 [] r)) ∧
  (∀ (s u v w : State) (t d : Nat) (pulses : List Nat) (j : FlashJob), s.flashTurn t = some j → j.op = 0 →
    u = (s.pageOpen j).flashShow → u.programLines j (pageEnd j) j.done pulses = (d, false, v) →
    w = (v.modFj t (fun j => { j with done := d })).wn (ledAddr t + 12) 4 d →
    exec (.flashPageProgram t pulses) s = .next (
      if d = j.len then (if pageEnd j ≤ j.addr + d then w.closeIntent t else w).flashEnd j 3 0 d 0
      else (if pageEnd j ≤ j.addr + d then w.closeIntent t else w).flashShow)) ∧
  (∀ (s u : State) (t : Nat) (met : List (Nat × Nat)) (j : FlashJob), s.flashTurn t = some j → j.op ≠ 0 →
    u = (if j.running then s else ((s.recordState (ledAddr t) 2).modFj t (fun j => { j with running := true })).openIntent ⟨j.op, j.area, j.sector, sectorBase j.area j.sector, sectorLen j.area, t, false⟩) →
    exec (.flashMappingRecord t ⟨false, met⟩) s = .next u.flashShow ∧ exec (.flashMappingRecord t ⟨true, met⟩) s =
      .next (if j.op = 1 then (u.eraseRecord j).dropPermit j else (u.meetAll j met).relocateRecord j).flashShow) ∧
  (∀ (s : State) (k : Fin 5), s.flash.banks[k].dirty ≠ [] → s.flash.banks[k].erasing = false → s.sysclk = true →
    exec (.backgroundErase k) s = .next ((s.modBank k (fun x => { x with erasing := true })).inc Obj.FLS_RECORDS).flashShow) ∧
  (∀ (s : State) (k : Fin 5), s.flash.banks[k].erasing = true → s.flash.banks[k].suspended = false →
    exec (.backgroundEraseDone k) s = .next (s.dirtyDone k).flashShow) ∧
  (∀ (s : State) (k : Fin 5), s.bankBusy k = true → s.flash.banks[k].suspended = false →
    s.flash.banks[k].resumedAt ≤ s.now →
    exec (.flashReadSuspend k) s = .next ((s.modBank k (fun x => { x with suspended := true })).inc (Obj.FLS_BKb_SUSPENDS k))) ∧
  (∀ (s : State) (k : Fin 5), s.flash.banks[k].suspended = true → s.sysclk = true →
    exec (.flashResume k) s = .next (s.modBank k (fun x => { x with suspended := false, resumedAt := s.now + 1920 }))) ∧
  (∀ (s : State) (who : Fin 8) (v : Nat) (rom : Bool),
    exec (.flsLockWrite who v rom) s = .next (if rom && !s.flash.lockWritten then (s.setO Obj.FLS_LOCK (v % 2 ^ 17)).modFlash (fun x => { x with lockWritten := true }) else s.dropped (windowAddr Obj.FLS_LOCK) v who 3)) ∧
  (∀ (s u : State) (who : Fin 8) (v : Nat) (l : Bytes), l = s.blob Obj.FLS_INDET_LIST → 16 * v + 16 ≤ l.length →
    u = s.modFlash (fun x => { x with intents := dropIntent (sliceB l (16 * v) 16) x.intents }) →
    exec (.flsIndetAck who v) s = .next ((u.setBlob Obj.FLS_INDET_LIST (l.take (16 * v) ++ l.drop (16 * v + 16))).setO Obj.FLS_INDET_N (u.o Obj.FLS_INDET_N - 1)))

/-- A port counts and takes the frames on its line, answers solicitations and echoes, and its link comes up with address detection and goes down with its sessions and its peer -/
def Obligations.PortsTakeFramesAndLinksComeAndGo : Prop :=
  (∀ (s : State) (p : Fin 2) (frame : Bytes), s.o (Obj.COM_Tp_LINK p) ≠ 0 → s.pwr ≠ 3 →
    exec (.ethFrameRx p frame true) s = .next ((s.inc (Obj.COM_Tp_RX_FRAMES p)).frameTake p frame)) ∧
  (∀ (s : State) (p : Fin 2) (frame : Bytes), s.o (Obj.COM_Tp_LINK p) ≠ 0 →
    exec (.ethFrameRx p frame false) s = .next (s.inc (Obj.COM_Tp_RX_FCS p))) ∧
  (∀ (s u v : State) (p : Fin 2) (k : Bytes) (dst : Bytes), s.icmpNext p 135 = (some k, u) → fieldN k 7 1 = 255 →
    v = (if fieldN k 64 1 = 1 && 72 ≤ k.length then (u.inc (Obj.COM_Tp_ND_RX p)).learn p (sliceB k 8 16) (sliceB k 66 6) else u.inc (Obj.COM_Tp_ND_RX p)) →
    v.ownsAddr p (sliceB k 48 16) = true → dst = (if zeroB (sliceB k 8 16) then allNodes else sliceB k 8 16) →
    exec (.neighborSolicitationRx p) s = .next (v.ndSend p (sliceB k 48 16) dst 136 ([if zeroB (sliceB k 8 16) then 0x20 else 0x60, 0, 0, 0] ++ sliceB k 48 16 ++ [2, 1] ++ v.macOf p))) ∧
  (∀ (s u : State) (p : Fin 2) (k me hop : Bytes), s.icmpNext p 128 = (some k, u) → u.ob (Obj.COM_Tp_ECHO p) = true →
    me = (if u.ownsAddr p (sliceB k 24 16) then sliceB k 24 16 else u.srcAddr p (sliceB k 8 16)) →
    u.nextHop p (sliceB k 8 16) = some hop →
    exec (.echoRequestRx p) s = .next (u.portSend p (.icmp (sliceB k 8 16) (icmpMsg me (sliceB k 8 16) 129 (k.drop 44))))) ∧
  (∀ (s u u2 v w : State) (p : Fin 2) (level sqi : Nat) (reversed : Bool) (own : List Bytes),
    s.ob (Obj.COM_Tp_ENABLE p) = true → s.pwr < 4 → level = 1 ∨ level = 2 →
    s.o (Obj.COM_Tp_AMPL p) = 0 ∨ s.o (Obj.COM_Tp_AMPL p) = level → s.o (Obj.COM_Tp_LINK p) = 0 →
    u = (((s.setO (Obj.COM_Tp_LINK p) level).setO (Obj.COM_Tp_SQI p) (min 7 sqi)).setO (Obj.COM_Tp_POL p) (b2n reversed)).inc (Obj.COM_Tp_UPS p) →
    u2 = u.setO (Obj.COM_Tp_UP_SINCE p) (tt64 s.now) →
    v = (u2.setO (Obj.COM_Tp_DAD p) 0).modPort p (fun x => { x with tentative := s.now + 38400000, nbrs := [] }) →
    own = v.llAddr p :: (if zeroB (v.staticAddr p) then [] else [v.staticAddr p]) →
    w = own.foldl (fun (t : State) a => t.ndSend p (List.replicate 16 0) (solicited a) 135 (List.replicate 4 0 ++ a)) v →
    exec (.linkUp p level sqi reversed) s = .next ((w.setO (Obj.FAB_Wp_STATE p) 1).raise 0x150 p level)) ∧
  (∀ (s u v w : State) (p : Fin 2), s.o (Obj.COM_Tp_LINK p) ≠ 0 →
    u = (s.setO (Obj.COM_Tp_LINK p) 0).inc (Obj.COM_Tp_DOWNS p) →
    v = fin8.foldl (fun (t : State) (x : Fin 8) => if t.o (Obj.COM_Ss_STATE x) ≠ 0 && t.o (Obj.COM_Ss_PORT x) = p.val then t.sessClose x 2 else t) u →
    w = (((v.com.inbox.filter (fun m => m.port == p.val)).foldl (fun (t : State) m => t.returnCells 4 m.cells) v).modCom (fun k => { k with inbox := k.inbox.filter (fun m => m.port != p.val) })).modPort p (fun x => { x with icmp := [], nbrs := [], held := [], after := [] }) →
    exec (.linkDown p) s = .next ((((w.wireStepsDown p).peerGone p).setO (Obj.FAB_Wp_STATE p) 0).raise 0x151 p 0))

/-- HSPI answers its status, discards and counts a bad write, queues a good one and gives up a message once it is read whole; pins keep latches, edges raise events, and an armed instant drives its pin -/
def Obligations.HostLinkAndPinsObeyTheirRegisters : Prop :=
  (∀ (s : State) (ready : Bool), s.boot.recovery = false → s.ob Obj.COM_H_ENABLE = true →
    exec (.hspiStatus ready) s = .next { s.hspiShow with rdata := s.hspiShow.o Obj.COM_H_WAITING + 65536 * b2n (s.hspiShow.hspiReady ready) + 131072 * b2n (!s.hspiShow.com.hspiDbg.isEmpty) }) ∧
  (∀ (s : State) (data : Bytes) (crc : Nat), s.boot.recovery = false → s.ob Obj.COM_H_ENABLE = true → s.sysclk = true →
    4 ≤ data.length → data.length ≤ 1024 → crc = crc32 data →
    exec (.hspiWrite data crc false true) s = .next ((s.inc Obj.COM_H_RX_MSG).modCom (fun x => { x with inbox := x.inbox ++ [{ port := 2, peer := [], data := data }] }))) ∧
  (∀ (s : State) (data : Bytes) (crc : Nat), s.boot.recovery = false → s.ob Obj.COM_H_ENABLE = true → s.sysclk = true →
    data.length < 4 ∨ 1024 < data.length ∨ crc ≠ crc32 data →
    exec (.hspiWrite data crc false true) s = .next (s.inc Obj.COM_H_CRC_ERR) ∧ exec (.hspiWrite data crc true true) s = .next (s.inc Obj.COM_H_ABORTED) ∧ exec (.hspiWrite data crc false false) s = .next (s.inc Obj.COM_H_OVERRUN)) ∧
  (∀ (s u : State) (d : Bytes) (l : List Bytes), s.boot.recovery = false → s.ob Obj.COM_H_ENABLE = true →
    s.com.hspiOut = d :: l → u = { s with rbytes := leBytes 2 d.length ++ d ++ leBytes 4 (crc32 d) } →
    exec (.hspiRead false) s = .next ((u.modCom (fun x => { x with hspiOut := l })).inc Obj.COM_H_TX_MSG).hspiShow ∧ exec (.hspiRead true) s = .next u) ∧
  (∀ (s : State) (data : Bytes) (crc : Nat), s.boot.recovery = false → s.sysclk = true → 4 ≤ data.length →
    data.length ≤ 1024 → crc = crc32 data →
    exec (.hspiDbgWrite data crc false true) s = .next ((s.inc Obj.COM_H_DBG_MSG).modCom (fun x => { x with requests := x.requests ++ [⟨.debug, ⟨fieldN data 0 1, fieldN data 1 1, (data.drop 4).take (fieldN data 2 2)⟩⟩] }))) ∧
  (∀ (s u : State) (cut : Bool), s.boot.recovery = false → u = { s with rbytes := hspiFrame s.com.hspiDbg } →
    exec (.hspiDbgRead cut) s = .next (if cut || s.com.hspiDbg.isEmpty then u else u.modCom (fun x => { x with hspiDbg := x.hspiDbg.drop 1 }))) ∧
  (∀ (s u : State) (p : Fin 16) (level : Bool), bitOf (s.o Obj.GIO_IN) p ≠ level →
    u = (s.setO Obj.GIO_IN (setBit (s.o Obj.GIO_IN) p level)).tcGpio p level →
    exec (.gpioEdge p level) s = .next (if fld (u.o (Obj.GIO_p_CFG p)) 1 0 = 0 && bitOf (fld (u.o (Obj.GIO_p_CFG p)) 5 4) (if level then 0 else 1) then (u.inc Obj.GIO_EDGES).raise 0x156 p (b2n level) else u)) ∧
  (∀ (s : State) (who : Fin 8) (v : Nat),
    exec (.gioSet who v) s = .next (if v < 65536 then s.setO Obj.GIO_OUT (natOr (s.o Obj.GIO_OUT) v) else s.dropped (windowAddr Obj.GIO_SET) v who 3) ∧ exec (.gioClr who v) s = .next (if v < 65536 then s.setO Obj.GIO_OUT (natAnd (s.o Obj.GIO_OUT) (65535 - v)) else s.dropped (windowAddr Obj.GIO_CLR) v who 3) ∧ exec (.gioToggle who v) s = .next (if v < 65536 then s.setO Obj.GIO_OUT (s.o Obj.GIO_OUT ^^^ v) else s.dropped (windowAddr Obj.GIO_TOGGLE) v who 3)) ∧
  (∀ (s : State) (who : Fin 8) (p : Fin 16) (v : Nat),
    exec (.gioAtWrite who p v) s = .next (if v = 0 then s.setO (Obj.GIO_p_AT p) 0 else if ttValid v && s.now < linear v then s.setO (Obj.GIO_p_AT p) v else s.dropped (windowAddr (Obj.GIO_p_AT p)) v who 3)) ∧
  (∀ (s u : State) (p : Fin 16), s.o (Obj.GIO_p_AT p) ≠ 0 →
    u = (s.upTo (linear (s.o (Obj.GIO_p_AT p)))).setO (Obj.GIO_p_AT p) 0 →
    exec (.gpioTimedDrive p) s = .next (if u.sysclk then (u.latch p (u.ob (Obj.GIO_p_AT_LEVEL p))).inc Obj.GIO_TIMED_DONE else u.inc Obj.GIO_TIMED_LATE))

/-- The buck starts at E0 and forgets an unanswered class, the rails rise in their steps, PG_N falls with the last one and leaves on a loss, the rails fall at F plus 100 µs, a rail fault and an overheat are latched and restart the buck later, and the class and the power table take only legal values -/
def Obligations.PowerDieStartsStopsAndRestarts : Prop :=
  (∀ (s : State) (vin : Nat), s.power.buck = false → s.power.restartAt = none → s.power.past = false → 850 ≤ vin →
    vin ≤ 6200 →
    ∃ t, exec (.buckStart vin) s = .next t ∧ t.power.buck = true ∧ t.power.e0 = s.now ∧ t.power.rails = 0 ∧ t.power.vin = vin ∧ t.power.sccpDone = false ∧ (s.power.sccpDone = true → t.o Obj.PWR_SCCP_STATE = s.o Obj.PWR_SCCP_STATE) ∧ (s.power.sccpDone = false → t.o Obj.PWR_SCCP_STATE = 0)) ∧
  (∀ (s : State) (vin : Nat), s.power.buck = false → s.power.restartAt = none → s.power.past = true → 850 ≤ vin →
    vin < 6100 →
    exec (.buckRestart vin) s = .next (s.buckStart vin) ∧ (s.buckStart vin).power.past = false) ∧
  (∀ (s u : State), s.power.buck = true → s.power.rails < 5 → s.power.failAt = none →
    u = (s.upTo (s.power.e0 + railStep s.power.rails)).modPower (fun p => { p with rails := s.power.rails + 1 }) →
    exec .powerUpSequence s = .next (if s.power.rails = 3 then (u.setO Obj.PWR_VCORE_NOW 800).setO Obj.PWR_BB_NOW 0 else u)) ∧
  (∀ (s u : State) (resetN : Bool), s.power.buck = true → s.power.rails = 5 → s.power.failAt = none →
    u = (s.upTo (s.power.e0 + railStep 5)).modPower (fun p => { p with rails := 6, pgGood := true, porDue := !resetN }) →
    exec (.pgGood resetN) s = .next (if resetN then u.mainReset 1 else u)) ∧
  (∀ (s u : State) (cause vin : Nat), s.power.pgGood = true →
    (cause = 1 ∧ vin < 800) ∨ cause = 2 ∨ (cause = 3 ∧ 6200 < vin) →
    u = s.modPower (fun p => { p with vin := vin, en := cause != 2, past := cause == 3 }) →
    exec (.powerFail cause vin) s = .next u.powerFail) ∧
  (∀ (s u : State) (f : Instant), s.power.failAt = some f →
    u = (s.upTo (f + usT 100)).modPower (fun p => { p with buck := false, rails := 0, failAt := none, xo32k := false, ramp := none, entry := none, wakes := [], wakeAt := none, resetsDue := [] }) →
    exec .buckStop s = .next (let v : State := { u.setO Obj.PWR_VCORE_NOW 0 with cores := u.cores.map (fun c => { c with mode := .held }) }
    if s.power.vin ≤ 300 then (v.setO Obj.PWR_RAIL_FAULT 0).modPower (fun p => { p with railFaultReport := false, sccpDone := false }) else v)) ∧
  (∀ (s u : State) (rail : Nat), s.power.pgGood = true → rail < 11 →
    u = s.setO Obj.PWR_RAIL_FAULT (setBit (s.o Obj.PWR_RAIL_FAULT) rail true) →
    exec (.railFault rail) s = .next (u.modPower (fun p => { p with restartAt := some (s.now + usT 100000), railFaultReport := true })).powerFail) ∧
  (∀ (s : State) (t : Instant), s.power.restartAt = some t → s.power.buck = false → s.power.thermal = false →
    s.power.failAt = none →
    exec .railFaultRestart s = .next ((s.upTo t).buckStart s.power.vin)) ∧
  (∀ (s u : State), s.power.pgGood = true → u = s.powerFail →
    exec .thermalShutdown s = .next ((u.setO Obj.PWR_RAIL_FAULT (setBit (u.o Obj.PWR_RAIL_FAULT) 15 true)).modPower (fun p => { p with thermal := true, restartAt := some (u.now + usT 100000), railFaultReport := true }))) ∧
  (∀ (s : State) (t : Instant), s.power.restartAt = some t → s.power.buck = false → s.power.thermal = true →
    s.power.failAt = none →
    exec .thermalRestart s = .next ((s.upTo t).buckStart s.power.vin)) ∧
  (∀ (s : State) (vin : Nat) (ok : Bool), s.power.buck = false → 300 ≤ vin → vin ≤ 800 →
    ∃ t, exec (.sccp vin ok) s = .next t ∧ t.o Obj.PWR_SCCP_STATE = (if ok then 1 else 2) ∧ t.rdata = s.o Obj.PWR_SCCP_CLASS ∧ t.power.sccpDone = true ∧ t.power.sccpReport = true) ∧
  (∀ (s : State) (who : Fin 8) (v : Nat), 10 ≤ v → v ≤ 15 → 0 < s.o Obj.PWR_SCCP_WRITES →
    exec (.sccpClassWrite who v) s = .next ((s.setO Obj.PWR_SCCP_CLASS v).setO Obj.PWR_SCCP_WRITES (s.o Obj.PWR_SCCP_WRITES - 1))) ∧
  (∀ (s : State) (who : Fin 8) (v : Nat), v < 10 ∨ 15 < v ∨ s.o Obj.PWR_SCCP_WRITES = 0 →
    exec (.sccpClassWrite who v) s = .next (s.dropped (windowAddr Obj.PWR_SCCP_CLASS) v who 3)) ∧
  (∀ (s : State) (who : Fin 8) (b : Bytes), tableOk b = true →
    exec (.pwrTableWrite who b) s = .next (s.setBlob Obj.PWR_TABLE (b.take 6 ++ [0, 0]))) ∧
  (∀ (s : State) (who : Fin 8) (b : Bytes), tableOk b = false →
    exec (.pwrTableWrite who b) s = .next (s.dropped (windowAddr Obj.PWR_TABLE) (leNat (b.take 4)) who 3)) ∧
  (∀ (s : State), 2 ≤ s.power.rails →
    exec .xo32kStart s = .next (s.modPower (fun p => { p with xo32k := true }))) ∧
  (∀ (s : State) (r : Ramp), s.power.ramp = some r →
    exec .vcoreRampDone s = .next ((((s.upTo r.by_).setO Obj.PWR_VCORE_NOW r.vcore).setI 16 Obj.PWR_BB_NOW r.bias).modPower (fun p => { p with ramp := none }))) ∧
  (∀ (s r u : State) (v : Nat), s.o Obj.PWR_PLAN_STEP = 1 → s.pwr ≤ 2 →
    (r = if s.power.stepSf = some s.sf then s.upTo (boundaryAt superT (s.now + 1)) else s) →
    u = r.modPower (fun p => { p with stepSf := some r.sf }) →
    u.o Obj.PWR_CPS_SLACK_FLOOR + 2 < u.o Obj.PWR_CPS_SLACK_NOW → v = max (u.planV u.pwr) (u.o Obj.PWR_VCORE_NOW - 10) →
    exec .vcoreLowerStep s = .next ((u.setO Obj.PWR_VCORE_NOW v).setO Obj.PWR_PLAN_STEP (b2n (decide (u.planV u.pwr < v))))) ∧
  (∀ (s r u : State), s.o Obj.PWR_PLAN_STEP = 1 → s.pwr ≤ 2 →
    (r = if s.power.stepSf = some s.sf then s.upTo (boundaryAt superT (s.now + 1)) else s) →
    u = r.modPower (fun p => { p with stepSf := some r.sf }) →
    u.o Obj.PWR_CPS_SLACK_NOW ≤ u.o Obj.PWR_CPS_SLACK_FLOOR + 2 →
    exec .vcoreLowerStep s = .next u) ∧
  (∀ (s r u : State) (slack : Nat), slack = s.o Obj.PWR_CPS_SLACK_NOW → slack < s.o Obj.PWR_CPS_SLACK_FLOOR →
    s.pwr ≠ 4 → s.power.guardDone = false → s.o Obj.PWR_VCORE_NOW < s.vcoreCeil →
    r = s.modPower (fun p => { p with guardDone := true }) →
    u = ((r.setO Obj.PWR_VCORE_NOW (min s.vcoreCeil (s.o Obj.PWR_VCORE_NOW + 10))).addO 8 Obj.PWR_CPS_GUARD_MV 10).inc Obj.PWR_CPS_GUARD_UPS →
    exec .marginGuard s = .next (if s.power.guardRaised then u else (u.modPower (fun p => { p with guardRaised := true })).raise 0x163 0 slack)) ∧
  (∀ (s : State), s.power.guardDone = true →
    exec .marginGuard s = .next s) ∧
  (∀ (s r : State) (slack : Nat), slack = s.o Obj.PWR_CPS_SLACK_NOW → slack < s.o Obj.PWR_CPS_SLACK_FLOOR → s.pwr ≠ 4 →
    s.power.guardDone = false → s.vcoreCeil ≤ s.o Obj.PWR_VCORE_NOW →
    r = s.modPower (fun p => { p with guardDone := true }) →
    exec .marginGuard s = .next (if s.power.lostRaised then r else (r.modPower (fun p => { p with lostRaised := true })).raise 0x164 0 slack))

/-- RUN and TRIM take force at the tick and the warden hears of it, DOZE and HIBERNATE are reached with their voltages and counted, enabled sources stay pending and wake the chip with one event that tells them, and Compass surveys and plans as a set -/
def Obligations.PowerStatesAreEnteredAndLeft : Prop :=
  (∀ (s : State) (e : Entry), s.power.entry = some e → e.target < 3 ∨ e.target = s.pwr →
    exec .pstate s = .next ((((s.upTo e.at_).modPower (fun p => { p with entry := none })).pstateTake e.target).toCore 4 ⟨6, 0, e.target⟩)) ∧
  (∀ (s : State) (target : Nat), target ≠ s.pwr →
    (s.pstateTake target).o Obj.PWR_PLAN_STEP = 0) ∧
  (∀ (s u : State) (e : Entry), s.power.entry = some e → e.target = 3 → s.pwr ≠ 3 → u = s.dozeStop e.at_ →
    ∃ t, exec .dozeEntry s = .next t ∧ t.o Obj.PWR_STATE = 3 ∧ t.o Obj.PWR_VCORE_NOW = u.planV 3 ∧ t.now = u.now) ∧
  (∀ (s u : State) (e : Entry), s.power.entry = some e → e.target = 4 → s.pwr ≠ 4 → u = s.hibStop e.at_ →
    exec .hibernateEntry s = .next ((((u.setO Obj.PWR_STATE 4).setO Obj.PWR_VCORE_NOW 0).setO Obj.PWR_BB_NOW 0).inc Obj.PWR_HIBS)) ∧
  (∀ (s : State) (c : Nat), 3 ≤ c ∨ s.panelWoke c = true → s.sleepState ≠ 0 → wakeUsable s.sleepState c = true →
    bitOf (s.wakeMask s.sleepState) (c - 1) = true →
    exec (.wakeSource c) s = .next (s.modPower (fun p => { p with wakes := if p.wakes.contains c then p.wakes else p.wakes ++ [c], wakeAt := if 3 ≤ s.pwr then some (p.wakeAt.getD s.now) else p.wakeAt }))) ∧
  (∀ (s u : State) (w : Instant) (ws : List Nat), s.pwr = 3 → s.power.wakes = ws → ws ≠ [] → s.power.wakeAt = some w →
    u = ((s.dozeResume w ws).portsWake).toCore 4 ⟨5, 0, wakeLow ws⟩ →
    exec .dozeWake s = .next (u.raise 0x169 0 (wakeBits ws))) ∧
  (∀ (s u : State) (w : Instant) (ws : List Nat),
    u = (((s.upTo w).setO Obj.PWR_WAKE_SRC (wakeBits ws)).setO Obj.PWR_WAKE_AT (tt64 w)).unkept.dramWake →
    (s.dozeResume w ws).power.wakes = [] ∧ (s.dozeResume w ws).power.ungateAt = some (w + usT (40 + u.slowUs))) ∧
  (∀ (s u : State) (cycles : Nat) (ws : List Nat), s.pwr = 4 → s.power.wakes = ws → ws ≠ [] →
    u = s.hibAdvance (if s.power.xo32k then cycles else 0) →
    exec (.hibernateWake cycles) s = .next ((((u.mainReset 4).setO Obj.PWR_WAKE_SRC (wakeBits ws)).setO Obj.PWR_WAKE_AT (tt64 u.now)).raise 0x169 0 (wakeBits ws))) ∧
  (∀ (s : State) (who : Fin 8) (v : Nat),
    exec (.pwrCpsSurveyCmd who v) s = .next (if v = 1 then s.modPower (fun p => { p with surveyAsked := some (p.surveyAsked.getD s.now) }) else s.dropped (windowAddr Obj.PWR_CPS_CMD) v who 3)) ∧
  (∀ (s u : State), s.surveyDue = true → s.pwr ≤ 2 →
    u = (match s.power.surveyAsked with | some t => s.upTo (nextFrame t) | none => s).surveyTake →
    exec .compassSurvey s = .next (u.raise 0x165 0 (u.o Obj.PWR_CPS_SURVEYS))) ∧
  (∀ (s : State) (lines : List (Nat × Nat)) (l : List (Key × Val)) (up : Bool), l = s.planSet →
    up = decide (s.o Obj.DRM_REF_SCALE < (setNum l Obj.DRM_REF_SCALE).getD 0) →
    exec (.compassPlan lines) s = .next (((s.planned up (s.judgeSet l).toOption).scanSectors lines).refreshFlash)) ∧
  (∀ (s r : State) (up : Bool),
    s.planned up none = s ∧ s.planned false (some r) = r ∧ (s.planned true (some r)).power.cleanSurveys = 0)

/-- A pin or commanded reset takes its cause, the ROM boots the slot that its records choose, else the other, else waits in recovery, recovery takes pieces and boots slot B, the image routines answer their callers, and the tick snapshot is published -/
def Obligations.ResetsBootAndRecoveryComplete : Prop :=
  (∀ (s : State) (width : Nat), s.power.pgGood = true → 1000 ≤ width →
    exec (.pinReset width) s = .next ((s.modPower (fun p => { p with porDue := false })).mainReset (if s.power.porDue then 1 else 2))) ∧
  (∀ (s : State) (width : Nat), width < 200 →
    exec (.pinReset width) s = .next s) ∧
  (∀ (s : State) (who : Fin 8) (v : Nat),
    exec (.corResetCmd who v) s = .next (if v = 1 then s.askReset 6 else s.dropped (windowAddr Obj.COR_RESET_CMD) v who 3)) ∧
  (∀ (s u : State) (time : Nat) (m : CoreSt), m = s.cores[(4 : Fin 8)] → m.mode = .run → m.sprout = true →
    s.boot.recovery = false → u = (s.modPower (fun p => { p with mode := 1 })).journalScan →
    exec (.romBoot 1 time) s = .next u.enterRecovery) ∧
  (∀ (s u v : State) (mode time r cause : Nat) (m : CoreSt), m = s.cores[(4 : Fin 8)] → m.mode = .run →
    m.sprout = true → s.boot.recovery = false → mode % 4 ≠ 1 →
    u = (s.modPower (fun p => { p with mode := mode % 4 })).journalScan → cause = u.o Obj.COR_RESET_CAUSE →
    r = (u.chooseSlot cause).1 → v = (u.chooseSlot cause).2 →
    exec (.romBoot mode time) s = .next (v.bootChosen r time cause (u.newest.isNone && cause != 4))) ∧
  (∀ (s x : State) (r time cause e : Nat) (first : Bool), s.checkSlot r = (e, x) →
    s.bootChosen r time cause first = (
      if e = 0 then (if first then x.appendRecord r 0 0 (hVer (x.header r)) else x).bootInto r time
      else if (x.checkSlot (1 - r)).1 = 0 then ((x.checkSlot (1 - r)).2.appendFallback (1 - r) cause).bootInto (1 - r) time
      else (x.checkSlot (1 - r)).2.enterRecovery)) ∧
  (∀ (s : State), s.boot.recovery = true →
    exec .recStatus s = .next { s with rbytes := leBytes 1 (s.o Obj.COR_IMG_CHECK_A) ++ leBytes 1 (s.o Obj.COR_IMG_CHECK_B) ++ leBytes 1 s.boot.recStatus ++ [0] ++ leBytes 4 s.boot.recTop }) ∧
  (∀ (s : State) (off crc : Nat) (data : Bytes), s.boot.recovery = true → s.recWriteStatus off data crc = 0 → off ≠ 0 →
    exec (.recWrite off data crc) s = .next (((s.modBoot (fun b => { b with recStatus := 0 })).wbs (slotBase 1 + off) data).modBoot (fun b => { b with recTop := max b.recTop (off + data.length) }))) ∧
  (∀ (s u : State) (crc : Nat) (data : Bytes), s.boot.recovery = true → s.recWriteStatus 0 data crc = 0 →
    u = (s.modBoot (fun b => { b with recStatus := 0 })).eraseSlot 1 →
    exec (.recWrite 0 data crc) s = .next (((u.modBoot (fun b => { b with recTop := 0 })).wbs (slotBase 1) data).modBoot (fun b => { b with recTop := max b.recTop data.length }))) ∧
  (∀ (s : State) (off crc st : Nat) (data : Bytes), s.boot.recovery = true → s.recWriteStatus off data crc = st →
    st ≠ 0 →
    exec (.recWrite off data crc) s = .next (s.modBoot (fun b => { b with recStatus := st }))) ∧
  (∀ (s u : State) (e total time : Nat) (h : Bytes), s.boot.recovery = true → s.checkSlot 1 = (e, u) → h = u.header 1 →
    exec (.recDone total time) s = .next (if e = 0 ∧ hTotal h = total then (u.appendRecord 1 1 1 (hVer h)).bootInto 1 time else u)) ∧
  (∀ (s q u : State) (k : Fin 8) (slot e r : Nat), s.callable k 8 1 1 = true → q = s.scratch k → s.dTop k 1 = [slot] →
    s.rTop k 1 = [r] → slot ≤ 1 → q.checkSlot slot = (e, u) →
    exec (.imCheck k) s = .next (u.retired k 1 [e] 1 [] r)) ∧
  (∀ (s q u : State) (k : Fin 8) (slot e r : Nat), s.callable k 9 2 1 = true → q = s.scratch k →
    s.dTop k 2 = [slot, 0] → s.rTop k 1 = [r] → slot ≤ 1 → q.recordSt = some 0 ∨ q.recordSt = some 2 →
    slot ≠ q.o Obj.COR_IMG_RUN → q.checkSlot slot = (e, u) →
    exec (.imSwitchRoll k) s = .next (if e = 0 then (u.switchRoll slot).retired k 2 [0] 1 [] r else u.retired k 2 [e] 1 [] r)) ∧
  (∀ (s q u : State) (k : Fin 8) (slot e r : Nat), s.callable k 9 2 1 = true → q = s.scratch k →
    s.dTop k 2 = [slot, 1] → s.rTop k 1 = [r] → slot ≤ 1 → q.recordSt = some 0 ∨ q.recordSt = some 2 →
    slot ≠ q.o Obj.COR_IMG_RUN → q.checkSlot slot = (e, u) →
    exec (.imSwitchReset k) s = .next (if e = 0 then (u.switchReset slot).retired k 2 [0] 1 [] r else u.retired k 2 [e] 1 [] r)) ∧
  (∀ (s q : State) (k : Fin 8) (a r : Nat) (b : Bytes), s.callable k 10 0 1 = true → q = s.scratch k →
    s.rTop k 1 = [r] → q.healthOver = false → q.newest = some (a, b) → bState b = 1 →
    exec (.imConfirm k) s = .next ((q.confirmRun b).retired k 0 [0] 1 [] r)) ∧
  (∀ (s q : State) (k : Fin 8) (r : Nat), s.callable k 11 0 1 = true → q = s.scratch k → s.rTop k 1 = [r] →
    q.recordSt = some 1 →
    exec (.imAbandon k) s = .next ((q.askReset 8).retired k 0 [0] 1 [] r)) ∧
  (∀ (s : State) (b : Bytes) (cur : Nat), s.jobs.snap = some b → cur = 1 - s.o Obj.JOB_SNAP_CUR →
    exec .snapshotPublish s = .next ((((s.wbs (0x200E1000 + 0x400 * cur) b).setO Obj.JOB_SNAP_CUR cur).setO Obj.JOB_SNAP_SEQ (fieldN b 8 4)).modJobs (fun j => { j with snap := none })))

/-- The base firmware starts, the update supervisor serves hosts at level INSTALL, checks a complete bundle, activates it at E by a roll or a reset, rolls core by core, judges the trial each superframe and loses it at the deadline -/
def Obligations.UpdatesAreTakenActivatedAndJudged : Prop :=
  (∀ (s u : State) (m : CoreSt), m = s.cores[(4 : Fin 8)] → m.mode = .run → m.sprout = false →
    u = ((((s.release8 0xEF).startMeasure).startKeys).startUpdate).startTrial →
    exec .baseFirmwareStart s = .next ((u.replay.startParked).addrState 1)) ∧
  (∀ (s : State) (x : Fin 8) (b : Bytes), s.sessMay x 3 = true → 13 ≤ b.length → b.length ≤ 780 → fieldN b 0 2 ≠ 0 →
    1 ≤ fieldN b 4 2 → fieldN b 4 2 ≤ 9984 →
    exec (.updPieceWrite x b) s = .next { s.updPiece (fieldN b 0 2) (fieldN b 2 2) (fieldN b 4 2) (fieldN b 8 4) (b.drop 12) with rdata := 0 }) ∧
  (∀ (s : State) (x : Fin 8) (b : Bytes), s.sessMay x 3 = false →
    exec (.updPieceWrite x b) s = .next { s with rdata := 2 } ∧ exec (.updCheck x) s = .next { s with rdata := 2 } ∧ exec (.updCancel x) s = .next { s with rdata := 2 } ∧ exec (.updAbandon x) s = .next { s with rdata := 2 } ∧ exec (.updClear x) s = .next { s with rdata := 2 }) ∧
  (∀ (s : State) (x : Fin 8) (v : Nat), s.sessMay x 3 = true → s.o Obj.NBF_UPD_STATE = 2 → ttValid v = true →
    linear v % epochT = 0 → s.now + superT ≤ linear v →
    exec (.updActAtWrite x v) s = .next { s.setO Obj.NBF_UPD_ACT_AT v with rdata := 0 }) ∧
  (∀ (s : State) (x : Fin 8) (v : Nat), s.sessMay x 3 = true → s.o Obj.NBF_UPD_STATE ≠ 2 →
    exec (.updActAtWrite x v) s = .next { s with rdata := 0x14 }) ∧
  (∀ (s u : State) (x : Fin 8) (e : Nat), s.sessMay x 3 = true → s.checkSlot s.target = (e, u) →
    exec (.updCheck x) s = .next { (if e = 0 then u else u.setO Obj.NBF_UPD_LAST_FAIL e) with rdata := 0 }) ∧
  (∀ (s : State) (x : Fin 8), s.sessMay x 3 = true →
    exec (.updCancel x) s = .next { s.setO Obj.NBF_UPD_ACT_AT 0 with rdata := 0 }) ∧
  (∀ (s : State) (x : Fin 8), s.sessMay x 3 = true →
    exec (.updAbandon x) s = .next { (if s.recordSt = some 1 then s.askReset 8 else s.setO Obj.NBF_UPD_LAST_FAIL 0x36) with rdata := 0 }) ∧
  (∀ (s u : State) (x : Fin 8), s.sessMay x 3 = true → s.o Obj.COR_IMG_STATE ≠ 1 → s.targetLocked = false →
    u = s.eraseSlot s.target →
    exec (.updClear x) s = .next { (((((u.setO Obj.NBF_UPD_IMAGE 0).setO Obj.NBF_UPD_HAVE 0).setO Obj.NBF_UPD_COUNT 0).modBoot (fun b => { b with rejected := none, size := 0 })).updState 0) with rdata := 0 }) ∧
  (∀ (s : State) (x : Fin 8), s.sessMay x 3 = true → s.o Obj.COR_IMG_STATE = 1 ∨ s.targetLocked = true →
    exec (.updClear x) s = .next { s with rdata := 0x14 }) ∧
  (∀ (s u : State) (e n : Nat) (h g : Bytes), s.o Obj.NBF_UPD_STATE = 1 → n = s.o Obj.NBF_UPD_COUNT → 0 < n →
    s.piecesHeld = n → (s.setO Obj.NBF_UPD_HAVE n).checkSlot (s.setO Obj.NBF_UPD_HAVE n).target = (e, u) →
    h = u.header u.target → g = u.header (1 - u.target) →
    exec .bundleComplete s = .next (if e = 0 then (if hVer h = hVer g ∧ hDigest h = hDigest g then u.updState 0 else (u.updState 2).actFromCatalog) else u.updFailed e)) ∧
  (∀ (s u v : State) (e f mode : Nat) (h : Bytes), e = s.o Obj.NBF_UPD_ACT_AT → e ≠ 0 → s.pwr ≤ 2 →
    s.o Obj.NBF_UPD_STATE = 2 → u = (s.upTo (linear e)).setO Obj.NBF_UPD_ACT_AT 0 → h = u.header u.target →
    mode = (if hStateMin h ≤ s.o Obj.COR_IMG_STATE_VER ∧ bitOf (hFlags h) 2 = false then 0 else 1) →
    (u.setO Obj.NBF_UPD_MODE mode).imSwitch u.target mode = (f, v) →
    exec .updateActivate s = .next (if f = 0 then (if mode = 0 then (v.modBoot (fun b => { b with roll := some ⟨0, none⟩ })).updState 4 else v) else v.updFailed f)) ∧
  (∀ (s u : State) (e : Nat), e = s.o Obj.NBF_UPD_ACT_AT → e ≠ 0 → 3 ≤ s.pwr →
    u = (s.upTo (linear e)).setO Obj.NBF_UPD_ACT_AT 0 →
    exec .updateActivate s = .next (u.raiseFw 0x805 0 (e % 2 ^ 32) [])) ∧
  (∀ (s u v : State) (c : Nat) (soft : Bool), s.boot.roll = some ⟨c, none⟩ → c < 4 →
    s.o (Obj.SLCn_LC_STATE (asFin 4 c)) ≠ 0 →
    u = ((s.coreHold (asFin 8 c)).lcPark (asFin 4 c)).getD (s.coreHold (asFin 8 c)) →
    v = (u.setO (Obj.COR_c_START (asFin 8 c)) (u.entryOf (u.o Obj.COR_IMG_RUN))).coreStart (asFin 8 c) →
    exec (.rollStep soft) s = .next (v.setRoll (some ⟨c, some (frameStart v.now)⟩))) ∧
  (∀ (s : State) (c : Nat) (t : Instant) (soft : Bool), s.boot.roll = some ⟨c, some t⟩ → c < 4 → t + frameT < s.now →
    s.o (Obj.SLCn_LC_STATE (asFin 4 c)) = 3 →
    exec (.rollStep soft) s = .next (s.setRoll (some ⟨rollNext c, none⟩))) ∧
  (∀ (s u : State) (c : Nat) (soft : Bool), s.boot.roll = some ⟨c, none⟩ → 4 < c → u = s.rollCore (asFin 8 c) →
    exec (.rollStep soft) s = .next (u.setRoll (some ⟨c, some (frameStart s.now)⟩))) ∧
  (∀ (s : State) (t : Option Instant) (soft : Bool), s.boot.roll = some ⟨4, t⟩ →
    exec (.rollStep soft) s = .next (((s.modCore 4 (fun x => { x with pc := BitVec.ofNat 32 (s.entryOf (s.o Obj.COR_IMG_RUN)) })).setRoll none).updState 5)) ∧
  (∀ (s : State) (m now run : Nat), s.o Obj.COR_IMG_STATE = 1 → s.o Obj.COR_IMG_HEALTH_AT ≠ 0 →
    m = s.o Obj.NBF_UPD_HEALTH_MASK → now = s.criteria → bitOf m 3 = false ∨ bitOf now 3 = true →
    run = (if natAnd m now = m then s.boot.healthRun + 1 else 0) → run < s.o Obj.NBF_UPD_HEALTH_HOLD →
    exec .healthCheck s = .next ((s.setO Obj.NBF_UPD_HEALTH_NOW now).modBoot (fun b => { b with healthRun := run, progAll := true }))) ∧
  (∀ (s u : State) (m now run : Nat), s.o Obj.COR_IMG_STATE = 1 → s.o Obj.COR_IMG_HEALTH_AT ≠ 0 →
    m = s.o Obj.NBF_UPD_HEALTH_MASK → now = s.criteria → bitOf m 3 = false ∨ bitOf now 3 = true →
    run = (if natAnd m now = m then s.boot.healthRun + 1 else 0) → s.o Obj.NBF_UPD_HEALTH_HOLD ≤ run →
    u = ((s.setO Obj.NBF_UPD_HEALTH_NOW now).modBoot (fun b => { b with healthRun := run, progAll := true })).imConfirm.2 →
    exec .healthCheck s = .next (u.updState (if u.targetLocked then 6 else 0))) ∧
  (∀ (s u : State) (v : Nat), v = s.o Obj.COR_IMG_HEALTH_AT → v ≠ 0 → u = (s.upTo (linear v)).miss 11 0x14 (linear v) →
    (u.logEvent ⟨0x100, 0x14, 11 + 256, u.now, []⟩).pwr ≤ 2 →
    exec .healthDeadline s = .next ((u.logEvent ⟨0x100, 0x14, 11 + 256, u.now, []⟩).mainReset 5))

/-- A step with a command at the front of the queue is that command's effect on the state with the queue's rest (the queue itself is the model's, log 1) -/
def Obligations.StepTakesTheFrontCommand : Prop :=
  ∀ (c : Instr) (s : State) (rest : List Instr), s.pending = c :: rest →
    step s = exec c { s with pending := rest }

/-- On an empty queue the block idles: nothing changes (the model's choice, log 1; time moves only with the commands that name an instant) -/
def Obligations.StepOnAnEmptyQueueIdles : Prop :=
  ∀ (s : State), s.pending = [] →
    step s = .next s

/-- EVPOST queues a SOFT event at core (core & 7), whatever that core does and be it the poster itself, and pushes 1; on a full queue it pushes 0 and nothing counts at the target; what is queued is kept through a restart -/
def Obligations.PostsAreQueuedOrRefused : Prop :=
  (∀ (s : State) (c d : Fin 8) (v k : Nat), s.cores[c].sprout = false → s.ready c 1 2 1 0 0 = true →
    s.dTop c 2 = [v, k] → d.val = k % 8 → s.cores[d].queue.length < 32 →
    exec (.evpost c) s = .next ((s.toCore d ⟨2, c, v⟩).retired c 2 [1] 0 [] (s.cores[c].after 1)) ∧ (s.toCore d ⟨2, c, v⟩).cores[d].queue = s.cores[d].queue ++ [⟨2, c, v⟩]) ∧
  (∀ (s : State) (c d : Fin 8) (v k : Nat), s.cores[c].sprout = false → s.ready c 1 2 1 0 0 = true →
    s.dTop c 2 = [v, k] → d.val = k % 8 → 32 ≤ s.cores[d].queue.length →
    ∃ t, exec (.evpost c) s = .next t ∧ t = s.retired c 2 [0] 0 [] (s.cores[c].after 1) ∧ t.cores[d].queue = s.cores[d].queue ∧ t.cores[d].lostSince = s.cores[d].lostSince ∧ t.objs = s.objs) ∧
  (∀ (s : State) (d : Fin 8),
    (s.coreStart d).cores[d].queue = s.cores[d].queue)

/-- BRK halts the core in state HALTED while SHL_DBG_STATE is OWNER or VENDOR, and traps BREAK otherwise -/
def Obligations.BreakpointsHaltOrTrap : Prop :=
  (∀ (s : State) (c : Fin 8), s.ready c 1 0 0 0 0 = true → s.o Obj.SHL_DBG_STATE ≠ 1 → s.o Obj.SHL_DBG_STATE ≠ 2 →
    exec (.brk c) s = .next ((s.trap c 0x0C 0 (s.cores[c].after 1)).retired c 0 [] 0 []
        (s.trap c 0x0C 0 (s.cores[c].after 1)).cores[c].pc.toNat)) ∧
  (∀ (s : State) (c : Fin 8), s.ready c 1 0 0 0 0 = true → s.o Obj.SHL_DBG_STATE = 1 ∨ s.o Obj.SHL_DBG_STATE = 2 →
    exec (.brk c) s = .next ((s.setMode c .halted).retired c 0 [] 0 [] (s.cores[c].after 1)))

/-- A store that is ready leaves every byte outside its own, every object, every other core and every register of its own core but the data stack pointer and the pc as they were -/
def Obligations.StoresChangeOnlyTheirBytes : Prop :=
  (∀ (s t : State) (c : Fin 8) (v a : Nat), s.cores[c].sprout = false → s.ready c 1 2 0 0 0 = true →
    s.dTop c 2 = [v, a] → a < 2 ^ 32 → s.storable c a 4 = true → exec (.stw c) s = .next t →
    (∀ j, j < a ∨ a + 4 ≤ j → t.rb j = s.rb j) ∧ t.objs = s.objs ∧ t.blobs = s.blobs ∧ (∀ d : Fin 8, d ≠ c → t.cores[d] = s.cores[d]) ∧ t.cores[c] = { s.cores[c] with dsp := t.cores[c].dsp, pc := t.cores[c].pc }) ∧
  (∀ (s t : State) (c : Fin 8) (v a : Nat), s.cores[c].sprout = false → s.ready c 1 2 0 0 0 = true →
    s.dTop c 2 = [v, a] → a < 2 ^ 32 → s.storable c a 2 = true → exec (.sth c) s = .next t →
    (∀ j, j < a ∨ a + 2 ≤ j → t.rb j = s.rb j) ∧ t.objs = s.objs ∧ t.blobs = s.blobs ∧ (∀ d : Fin 8, d ≠ c → t.cores[d] = s.cores[d]) ∧ t.cores[c] = { s.cores[c] with dsp := t.cores[c].dsp, pc := t.cores[c].pc }) ∧
  (∀ (s t : State) (c : Fin 8) (v a : Nat), s.cores[c].sprout = false → s.ready c 1 2 0 0 0 = true →
    s.dTop c 2 = [v, a] → a < 2 ^ 32 → s.storable c a 1 = true → exec (.stb c) s = .next t →
    (∀ j, j < a ∨ a + 1 ≤ j → t.rb j = s.rb j) ∧ t.objs = s.objs ∧ t.blobs = s.blobs ∧ (∀ d : Fin 8, d ≠ c → t.cores[d] = s.cores[d]) ∧ t.cores[c] = { s.cores[c] with dsp := t.cores[c].dsp, pc := t.cores[c].pc })

/-- The TT64 value of every instant of the range is well formed and spells that instant, and two well-formed TT64 values compare as unsigned integers as their instants do -/
def Obligations.TurathTimeCountsInOrder : Prop :=
  (∀ (t : Instant), t < ttRange →
    ttValid (tt64 t) = true ∧ linear (tt64 t) = t) ∧
  (∀ (v w : Nat), ttValid v = true → ttValid w = true →
    (v < w ↔ linear v < linear w))

/-- Right after reset the stores are in their canonical form, no command waits, every object has its default, and core 4 alone runs, in Sprout mode at address 0 -/
def Obligations.CanonicalAtReset : Prop :=
  State.reset.canonical = true ∧ State.reset.pending = [] ∧ (∀ k, State.reset.o k = objDefault k) ∧ (∀ c : Fin 8, State.reset.cores[c].mode = if c = 4 then .run else .held) ∧ State.reset.cores[(4 : Fin 8)].sprout = true ∧ State.reset.cores[(4 : Fin 8)].pc = 0

/-- Every step that answers a next state keeps the canonical form of memory, of the object store and of the values of STR and DOM objects: addresses strictly rising and no entry at the value that an unlisted one reads as (the form is the model's own, log 6 and 7) -/
def Obligations.StepKeepsCanonicalForm : Prop :=
  ∀ (s t : State), s.canonical = true → step s = .next t →
    t.canonical = true

/-- Each of the 406 commands, with any operands and in any state, answers a next state: none ends a run by a fault or a refusal of the model (what the spec refuses is an effect: a dropped write, a count, a result) -/
def Obligations.EveryCommandAnswersANextState : Prop :=
  ∀ (c : Instr) (s : State),
    ∃ t, exec c s = .next t
end

