-- ==== Sys2Proof/Laws/Sparse.lean ====
section
/-!
SUPPORT. What reading and writing a sparse map do, and that every way of changing one keeps its canonical form.
-/
namespace Sys2Proof.Machine

variable {α : Type} {d : Nat → α}

@[simp] theorem Sparse.get_nil (k : Nat) : Sparse.get d [] k = d k := rfl

theorem Sparse.get_drop (m : List (Nat × α)) (k j : Nat) :
    Sparse.get d (Sparse.drop m k) j = if j = k then d k else Sparse.get d m j := by
  induction m with
  | nil => by_cases h : j = k <;> simp [Sparse.drop, Sparse.get, h]
  | cons e r ih =>
    by_cases hk : e.1 = k
    · simp only [Sparse.drop, hk, ↓reduceIte, ih, Sparse.get]
      by_cases hj : j = k <;> simp [hj]
      intro h; exact absurd h.symm hj
    · by_cases hj : j = k
      · subst hj
        simp [Sparse.drop, Sparse.get, hk, ih]
      · by_cases he : e.1 = j <;> simp [Sparse.drop, Sparse.get, hk, he, hj, ih]

theorem Sparse.get_place (m : List (Nat × α)) (k j : Nat) (v : α) (h : ∀ e ∈ m, e.1 ≠ k) :
    Sparse.get d (Sparse.place m k v) j = if j = k then v else Sparse.get d m j := by
  induction m with
  | nil => by_cases hj : j = k <;> simp [Sparse.place, Sparse.get, hj]; intro h; exact absurd h.symm hj
  | cons e r ih =>
    have he : e.1 ≠ k := h e (by simp)
    have ih := ih (fun x hx => h x (by simp [hx]))
    by_cases hlt : k < e.1
    · by_cases hj : j = k <;> simp [Sparse.place, Sparse.get, hlt, hj]; intro h; exact absurd h.symm hj
    · by_cases hj : j = k
      · subst hj; simp [Sparse.place, Sparse.get, hlt, he, ih]
      · simp only [Sparse.place, hlt, ↓reduceIte, Sparse.get, ih, hj]

theorem Sparse.drop_no_key (m : List (Nat × α)) (k : Nat) : ∀ e ∈ Sparse.drop m k, e.1 ≠ k := by
  induction m with
  | nil => simp [Sparse.drop]
  | cons e r ih =>
    by_cases h : e.1 = k
    · simpa [Sparse.drop, h] using ih
    · intro x hx
      simp only [Sparse.drop, h, ↓reduceIte, List.mem_cons] at hx
      rcases hx with rfl | hx
      · exact h
      · exact ih x hx

/-- A read after a write: the value written at its key, every other key as before. -/
theorem Sparse.get_set [DecidableEq α] (m : List (Nat × α)) (k j : Nat) (v : α) :
    Sparse.get d (Sparse.set d m k v) j = if j = k then v else Sparse.get d m j := by
  by_cases hv : v = d k
  · simp [Sparse.set, hv, Sparse.get_drop]
  · simp only [Sparse.set, hv, ↓reduceIte, Sparse.get_place _ _ _ _ (Sparse.drop_no_key m k), Sparse.get_drop]
    by_cases hj : j = k <;> simp [hj]

/-! ## The canonical form -/

variable [DecidableEq α]

theorem Sparse.wfFrom_le {m : List (Nat × α)} {lo lo' : Nat} (h : lo' ≤ lo) (w : Sparse.wfFrom d lo m = true) :
    Sparse.wfFrom d lo' m = true := by
  cases m with
  | nil => rfl
  | cons e r => simp [Sparse.wfFrom] at w ⊢; exact ⟨⟨by omega, w.1.2⟩, w.2⟩

theorem Sparse.wfFrom_drop {m : List (Nat × α)} {lo k : Nat} (w : Sparse.wfFrom d lo m = true) :
    Sparse.wfFrom d lo (Sparse.drop m k) = true := by
  induction m generalizing lo with
  | nil => rfl
  | cons e r ih =>
    simp only [Sparse.wfFrom, Bool.and_eq_true, decide_eq_true_eq] at w
    by_cases h : e.1 = k
    · simp only [Sparse.drop, h, ↓reduceIte]
      exact Sparse.wfFrom_le (by omega) (ih w.2)
    · simp only [Sparse.drop, h, ↓reduceIte, Sparse.wfFrom, Bool.and_eq_true, decide_eq_true_eq]
      exact ⟨w.1, ih w.2⟩

theorem Sparse.wfFrom_place {m : List (Nat × α)} {lo k : Nat} {v : α} (w : Sparse.wfFrom d lo m = true) (hk : lo ≤ k)
    (hv : v ≠ d k) (hm : ∀ e ∈ m, e.1 ≠ k) : Sparse.wfFrom d lo (Sparse.place m k v) = true := by
  induction m generalizing lo with
  | nil => simp [Sparse.place, Sparse.wfFrom, hk, hv]
  | cons e r ih =>
    simp only [Sparse.wfFrom, Bool.and_eq_true, decide_eq_true_eq] at w
    have he : e.1 ≠ k := hm e (by simp)
    by_cases h : k < e.1
    · simp only [Sparse.place, h, ↓reduceIte, Sparse.wfFrom, Bool.and_eq_true, decide_eq_true_eq, Bool.not_eq_true',
        decide_eq_false_iff_not]
      exact ⟨⟨hk, hv⟩, ⟨by omega, by simpa using w.1.2⟩, w.2⟩
    · simp only [Sparse.place, h, ↓reduceIte, Sparse.wfFrom, Bool.and_eq_true, decide_eq_true_eq]
      exact ⟨w.1, ih w.2 (by omega) (fun x hx => hm x (by simp [hx]))⟩

/-- A write keeps the canonical form. -/
theorem Sparse.wf_set {m : List (Nat × α)} (k : Nat) (v : α) (w : Sparse.wf d m = true) :
    Sparse.wf d (Sparse.set d m k v) = true := by
  by_cases hv : v = d k
  · simp only [Sparse.set, hv, ↓reduceIte]
    exact Sparse.wfFrom_drop w
  · simp only [Sparse.set, hv, ↓reduceIte]
    exact Sparse.wfFrom_place (Sparse.wfFrom_drop w) (Nat.zero_le k) hv (Sparse.drop_no_key m k)

/-- Keeping only some entries keeps the canonical form. -/
theorem Sparse.wfFrom_filter {m : List (Nat × α)} (p : Nat × α → Bool) {lo : Nat} (w : Sparse.wfFrom d lo m = true) :
    Sparse.wfFrom d lo (m.filter p) = true := by
  induction m generalizing lo with
  | nil => rfl
  | cons e r ih =>
    simp only [Sparse.wfFrom, Bool.and_eq_true, decide_eq_true_eq] at w
    by_cases h : p e = true
    · simp only [List.filter_cons, h, ↓reduceIte, Sparse.wfFrom, Bool.and_eq_true, decide_eq_true_eq]
      exact ⟨w.1, ih w.2⟩
    · simp only [List.filter_cons, h, Bool.false_eq_true, ↓reduceIte]
      exact Sparse.wfFrom_le (by omega) (ih w.2)

theorem Sparse.wf_filter {m : List (Nat × α)} (p : Nat × α → Bool) (w : Sparse.wf d m = true) :
    Sparse.wf d (m.filter p) = true := Sparse.wfFrom_filter p w

/-- Two canonical lists stand one behind the other when every key of the first lies below the second's bound. -/
theorem Sparse.wfFrom_append {m n : List (Nat × α)} {lo hi : Nat} (w : Sparse.wfFrom d lo m = true)
    (wn : Sparse.wfFrom d hi n = true) (hm : ∀ e ∈ m, e.1 < hi) (hlo : lo ≤ hi) :
    Sparse.wfFrom d lo (m ++ n) = true := by
  induction m generalizing lo with
  | nil => exact Sparse.wfFrom_le hlo wn
  | cons e r ih =>
    simp only [Sparse.wfFrom, Bool.and_eq_true, decide_eq_true_eq] at w
    simp only [List.cons_append, Sparse.wfFrom, Bool.and_eq_true, decide_eq_true_eq]
    exact ⟨w.1, ih w.2 (fun x hx => hm x (by simp [hx])) (by have := hm e (by simp); omega)⟩

/-- A filter by a lower bound on the keys is canonical from that bound. -/
theorem Sparse.wfFrom_above {m : List (Nat × α)} {lo b : Nat} (w : Sparse.wfFrom d lo m = true) :
    Sparse.wfFrom d b (m.filter (fun c => decide (b ≤ c.1))) = true := by
  induction m generalizing lo with
  | nil => rfl
  | cons e r ih =>
    simp only [Sparse.wfFrom, Bool.and_eq_true, decide_eq_true_eq] at w
    by_cases h : b ≤ e.1
    · simp only [List.filter_cons, h, decide_true, ↓reduceIte, Sparse.wfFrom, Bool.and_eq_true]
      refine ⟨⟨trivial, w.1.2⟩, ?_⟩
      exact Sparse.wfFrom_filter _ w.2
    · simp only [List.filter_cons, h, decide_false, Bool.false_eq_true, ↓reduceIte]
      exact ih w.2

end Sys2Proof.Machine
end

