-- ==== Sys2Proof/Laws/Boot.lean ====
section
/-!
SUPPORT. The newest boot record of record sectors that hold one record.
-/
namespace Sys2Proof.Machine

variable {s : State}

/-- An address between the listed ones reads as its unlisted value. -/
theorem Sparse.get_gap {α : Type} {d : Nat → α} {lo hi k : Nat} (hk : lo ≤ k ∧ k < hi) : ∀ {m : List (Nat × α)},
    m.all (fun e => decide (e.1 < lo) || decide (hi ≤ e.1)) = true → Sparse.get d m k = d k
  | [], _ => rfl
  | e :: r, h => by
    simp only [List.all_cons, Bool.and_eq_true, Bool.or_eq_true, decide_eq_true_eq] at h
    simp only [Sparse.get]
    rw [if_neg (by omega), Sparse.get_gap hk h.2]

/-- Flash between the listed bytes reads as blank. -/
theorem State.rbs_blank {lo hi : Nat} (h : s.mem.all (fun e => decide (e.1 < lo) || decide (hi ≤ e.1)) = true) :
    ∀ {n a : Nat}, lo ≤ a → 0x08000000 ≤ a → a + n ≤ hi → hi ≤ 0x09000000 → s.rbs a n = List.replicate n 0xFF
  | 0, _, _, _, _, _ => rfl
  | n + 1, a, h1, h2, h3, h4 => by
    have b : s.rb a = 0xFF := by
      unfold State.rb
      rw [Sparse.get_gap ⟨h1, by omega⟩ h]
      unfold memDefault
      rw [if_neg (by omega), if_pos (by omega)]
    rw [State.rbs, b, State.rbs_blank h (by omega) (by omega) (by omega) h4]
    rfl

/-- A blank line is no boot record. -/
theorem recordOk_blank : recordOk (List.replicate 16 0xFF) = false := by decide +kernel

/-- Lines that hold no record leave the newest as it stands. -/
theorem newest_skip (m : Option (Nat × Bytes)) : ∀ {l : List Nat}, (∀ a ∈ l, recordOk (s.rbs a 16) = false) →
    l.foldl (fun (m : Option (Nat × Bytes)) a =>
      let b := s.rbs a 16
      if recordOk b then
        match m with
        | none => some (a, b)
        | some (_, c) => if fieldN c 0 4 < fieldN b 0 4 then some (a, b) else m
      else m) m = m
  | [], _ => rfl
  | a :: r, h => by
    simp only [List.foldl_cons, h a (List.mem_cons_self), Bool.false_eq_true, if_false]
    exact newest_skip m (fun x hx => h x (List.mem_cons_of_mem _ hx))

/-- The only record, on the first line, is the newest. -/
theorem State.newest_first (h : s.mem.all (fun e => decide (e.1 < 0x08F0A010) || decide (0x08F0C000 ≤ e.1)) = true)
    (ok : recordOk (s.rbs 0x08F0A000 16) = true) : s.newest = some (0x08F0A000, s.rbs 0x08F0A000 16) := by
  have e : recordAddrs = 0x08F0A000 :: (List.range 511).map (fun i => 0x08F0A010 + 16 * i) := by decide +kernel
  unfold State.newest
  rw [e, List.foldl_cons]
  simp only [ok, if_true]
  apply newest_skip
  intro a ha
  rw [List.mem_map] at ha
  obtain ⟨i, hi, rfl⟩ := ha
  rw [List.mem_range] at hi
  rw [State.rbs_blank h (by omega) (by omega) (by omega) (by omega)]
  exact recordOk_blank

end Sys2Proof.Machine
end

