-- ==== Sys2Proof/Laws/State.lean ====
section
/-!
SUPPORT. What each update of the state changes and what it leaves alone: one lemma per field per update, and the reads of
objects, values and memory through them.
-/
namespace Sys2Proof.Machine

variable (s : State)

/-! ## Vectors -/

/-- Reading a vector after one element changed. -/
@[simp] theorem vmod_getElem {α : Type} {n : Nat} (v : Vector α n) (i : Fin n) (f : α → α) (j : Nat) (h : j < n) :
    (vmod v i f)[j] = if j = i.val then f v[i.val] else v[j] := by
  by_cases e : j = i.val
  · subst e; simp [vmod]
  · simp [vmod, e, Ne.symm e]

theorem vmod_get {α : Type} {n : Nat} (v : Vector α n) (i j : Fin n) (f : α → α) :
    (vmod v i f)[j] = if j = i then f v[i] else v[j] := by
  simp [Fin.ext_iff]

/-! ## setO -/

@[simp] theorem State.setO_now (k : Key) (v : Nat) : (s.setO k v).now = s.now := (rfl)
@[simp] theorem State.setO_draws (k : Key) (v : Nat) : (s.setO k v).draws = s.draws := (rfl)
@[simp] theorem State.setO_rdata (k : Key) (v : Nat) : (s.setO k v).rdata = s.rdata := (rfl)
@[simp] theorem State.setO_rbytes (k : Key) (v : Nat) : (s.setO k v).rbytes = s.rbytes := (rfl)
@[simp] theorem State.setO_blobs (k : Key) (v : Nat) : (s.setO k v).blobs = s.blobs := (rfl)
@[simp] theorem State.setO_mem (k : Key) (v : Nat) : (s.setO k v).mem = s.mem := (rfl)
@[simp] theorem State.setO_time (k : Key) (v : Nat) : (s.setO k v).time = s.time := (rfl)
@[simp] theorem State.setO_com (k : Key) (v : Nat) : (s.setO k v).com = s.com := (rfl)
@[simp] theorem State.setO_cores (k : Key) (v : Nat) : (s.setO k v).cores = s.cores := (rfl)
@[simp] theorem State.setO_slices (k : Key) (v : Nat) : (s.setO k v).slices = s.slices := (rfl)
@[simp] theorem State.setO_air (k : Key) (v : Nat) : (s.setO k v).air = s.air := (rfl)
@[simp] theorem State.setO_jobs (k : Key) (v : Nat) : (s.setO k v).jobs = s.jobs := (rfl)
@[simp] theorem State.setO_mac (k : Key) (v : Nat) : (s.setO k v).mac = s.mac := (rfl)
@[simp] theorem State.setO_steps (k : Key) (v : Nat) : (s.setO k v).steps = s.steps := (rfl)
@[simp] theorem State.setO_fab (k : Key) (v : Nat) : (s.setO k v).fab = s.fab := (rfl)
@[simp] theorem State.setO_svc (k : Key) (v : Nat) : (s.setO k v).svc = s.svc := (rfl)
@[simp] theorem State.setO_shell (k : Key) (v : Nat) : (s.setO k v).shell = s.shell := (rfl)
@[simp] theorem State.setO_dram (k : Key) (v : Nat) : (s.setO k v).dram = s.dram := (rfl)
@[simp] theorem State.setO_flash (k : Key) (v : Nat) : (s.setO k v).flash = s.flash := (rfl)
@[simp] theorem State.setO_power (k : Key) (v : Nat) : (s.setO k v).power = s.power := (rfl)
@[simp] theorem State.setO_boot (k : Key) (v : Nat) : (s.setO k v).boot = s.boot := (rfl)
@[simp] theorem State.setO_pending (k : Key) (v : Nat) : (s.setO k v).pending = s.pending := (rfl)
@[simp] theorem State.setO_blob (k : Key) (v : Nat) (j : Key) : (s.setO k v).blob j = s.blob j := (rfl)
@[simp] theorem State.setO_rb (k : Key) (v : Nat) (j : Nat) : (s.setO k v).rb j = s.rb j := (rfl)

/-! ## inc -/

@[simp] theorem State.inc_now (k : Key) : (s.inc k).now = s.now := (rfl)
@[simp] theorem State.inc_draws (k : Key) : (s.inc k).draws = s.draws := (rfl)
@[simp] theorem State.inc_rdata (k : Key) : (s.inc k).rdata = s.rdata := (rfl)
@[simp] theorem State.inc_rbytes (k : Key) : (s.inc k).rbytes = s.rbytes := (rfl)
@[simp] theorem State.inc_blobs (k : Key) : (s.inc k).blobs = s.blobs := (rfl)
@[simp] theorem State.inc_mem (k : Key) : (s.inc k).mem = s.mem := (rfl)
@[simp] theorem State.inc_time (k : Key) : (s.inc k).time = s.time := (rfl)
@[simp] theorem State.inc_com (k : Key) : (s.inc k).com = s.com := (rfl)
@[simp] theorem State.inc_cores (k : Key) : (s.inc k).cores = s.cores := (rfl)
@[simp] theorem State.inc_slices (k : Key) : (s.inc k).slices = s.slices := (rfl)
@[simp] theorem State.inc_air (k : Key) : (s.inc k).air = s.air := (rfl)
@[simp] theorem State.inc_jobs (k : Key) : (s.inc k).jobs = s.jobs := (rfl)
@[simp] theorem State.inc_mac (k : Key) : (s.inc k).mac = s.mac := (rfl)
@[simp] theorem State.inc_steps (k : Key) : (s.inc k).steps = s.steps := (rfl)
@[simp] theorem State.inc_fab (k : Key) : (s.inc k).fab = s.fab := (rfl)
@[simp] theorem State.inc_svc (k : Key) : (s.inc k).svc = s.svc := (rfl)
@[simp] theorem State.inc_shell (k : Key) : (s.inc k).shell = s.shell := (rfl)
@[simp] theorem State.inc_dram (k : Key) : (s.inc k).dram = s.dram := (rfl)
@[simp] theorem State.inc_flash (k : Key) : (s.inc k).flash = s.flash := (rfl)
@[simp] theorem State.inc_power (k : Key) : (s.inc k).power = s.power := (rfl)
@[simp] theorem State.inc_boot (k : Key) : (s.inc k).boot = s.boot := (rfl)
@[simp] theorem State.inc_pending (k : Key) : (s.inc k).pending = s.pending := (rfl)
@[simp] theorem State.inc_blob (k : Key) (j : Key) : (s.inc k).blob j = s.blob j := (rfl)
@[simp] theorem State.inc_rb (k : Key) (j : Nat) : (s.inc k).rb j = s.rb j := (rfl)

/-! ## addO -/

@[simp] theorem State.addO_now (w : Nat) (k : Key) (d : Nat) : (s.addO w k d).now = s.now := (rfl)
@[simp] theorem State.addO_draws (w : Nat) (k : Key) (d : Nat) : (s.addO w k d).draws = s.draws := (rfl)
@[simp] theorem State.addO_rdata (w : Nat) (k : Key) (d : Nat) : (s.addO w k d).rdata = s.rdata := (rfl)
@[simp] theorem State.addO_rbytes (w : Nat) (k : Key) (d : Nat) : (s.addO w k d).rbytes = s.rbytes := (rfl)
@[simp] theorem State.addO_blobs (w : Nat) (k : Key) (d : Nat) : (s.addO w k d).blobs = s.blobs := (rfl)
@[simp] theorem State.addO_mem (w : Nat) (k : Key) (d : Nat) : (s.addO w k d).mem = s.mem := (rfl)
@[simp] theorem State.addO_time (w : Nat) (k : Key) (d : Nat) : (s.addO w k d).time = s.time := (rfl)
@[simp] theorem State.addO_com (w : Nat) (k : Key) (d : Nat) : (s.addO w k d).com = s.com := (rfl)
@[simp] theorem State.addO_cores (w : Nat) (k : Key) (d : Nat) : (s.addO w k d).cores = s.cores := (rfl)
@[simp] theorem State.addO_slices (w : Nat) (k : Key) (d : Nat) : (s.addO w k d).slices = s.slices := (rfl)
@[simp] theorem State.addO_air (w : Nat) (k : Key) (d : Nat) : (s.addO w k d).air = s.air := (rfl)
@[simp] theorem State.addO_jobs (w : Nat) (k : Key) (d : Nat) : (s.addO w k d).jobs = s.jobs := (rfl)
@[simp] theorem State.addO_mac (w : Nat) (k : Key) (d : Nat) : (s.addO w k d).mac = s.mac := (rfl)
@[simp] theorem State.addO_steps (w : Nat) (k : Key) (d : Nat) : (s.addO w k d).steps = s.steps := (rfl)
@[simp] theorem State.addO_fab (w : Nat) (k : Key) (d : Nat) : (s.addO w k d).fab = s.fab := (rfl)
@[simp] theorem State.addO_svc (w : Nat) (k : Key) (d : Nat) : (s.addO w k d).svc = s.svc := (rfl)
@[simp] theorem State.addO_shell (w : Nat) (k : Key) (d : Nat) : (s.addO w k d).shell = s.shell := (rfl)
@[simp] theorem State.addO_dram (w : Nat) (k : Key) (d : Nat) : (s.addO w k d).dram = s.dram := (rfl)
@[simp] theorem State.addO_flash (w : Nat) (k : Key) (d : Nat) : (s.addO w k d).flash = s.flash := (rfl)
@[simp] theorem State.addO_power (w : Nat) (k : Key) (d : Nat) : (s.addO w k d).power = s.power := (rfl)
@[simp] theorem State.addO_boot (w : Nat) (k : Key) (d : Nat) : (s.addO w k d).boot = s.boot := (rfl)
@[simp] theorem State.addO_pending (w : Nat) (k : Key) (d : Nat) : (s.addO w k d).pending = s.pending := (rfl)
@[simp] theorem State.addO_blob (w : Nat) (k : Key) (d : Nat) (j : Key) : (s.addO w k d).blob j = s.blob j := (rfl)
@[simp] theorem State.addO_rb (w : Nat) (k : Key) (d : Nat) (j : Nat) : (s.addO w k d).rb j = s.rb j := (rfl)

/-! ## setI -/

@[simp] theorem State.setI_now (w : Nat) (k : Key) (v : Int) : (s.setI w k v).now = s.now := (rfl)
@[simp] theorem State.setI_draws (w : Nat) (k : Key) (v : Int) : (s.setI w k v).draws = s.draws := (rfl)
@[simp] theorem State.setI_rdata (w : Nat) (k : Key) (v : Int) : (s.setI w k v).rdata = s.rdata := (rfl)
@[simp] theorem State.setI_rbytes (w : Nat) (k : Key) (v : Int) : (s.setI w k v).rbytes = s.rbytes := (rfl)
@[simp] theorem State.setI_blobs (w : Nat) (k : Key) (v : Int) : (s.setI w k v).blobs = s.blobs := (rfl)
@[simp] theorem State.setI_mem (w : Nat) (k : Key) (v : Int) : (s.setI w k v).mem = s.mem := (rfl)
@[simp] theorem State.setI_time (w : Nat) (k : Key) (v : Int) : (s.setI w k v).time = s.time := (rfl)
@[simp] theorem State.setI_com (w : Nat) (k : Key) (v : Int) : (s.setI w k v).com = s.com := (rfl)
@[simp] theorem State.setI_cores (w : Nat) (k : Key) (v : Int) : (s.setI w k v).cores = s.cores := (rfl)
@[simp] theorem State.setI_slices (w : Nat) (k : Key) (v : Int) : (s.setI w k v).slices = s.slices := (rfl)
@[simp] theorem State.setI_air (w : Nat) (k : Key) (v : Int) : (s.setI w k v).air = s.air := (rfl)
@[simp] theorem State.setI_jobs (w : Nat) (k : Key) (v : Int) : (s.setI w k v).jobs = s.jobs := (rfl)
@[simp] theorem State.setI_mac (w : Nat) (k : Key) (v : Int) : (s.setI w k v).mac = s.mac := (rfl)
@[simp] theorem State.setI_steps (w : Nat) (k : Key) (v : Int) : (s.setI w k v).steps = s.steps := (rfl)
@[simp] theorem State.setI_fab (w : Nat) (k : Key) (v : Int) : (s.setI w k v).fab = s.fab := (rfl)
@[simp] theorem State.setI_svc (w : Nat) (k : Key) (v : Int) : (s.setI w k v).svc = s.svc := (rfl)
@[simp] theorem State.setI_shell (w : Nat) (k : Key) (v : Int) : (s.setI w k v).shell = s.shell := (rfl)
@[simp] theorem State.setI_dram (w : Nat) (k : Key) (v : Int) : (s.setI w k v).dram = s.dram := (rfl)
@[simp] theorem State.setI_flash (w : Nat) (k : Key) (v : Int) : (s.setI w k v).flash = s.flash := (rfl)
@[simp] theorem State.setI_power (w : Nat) (k : Key) (v : Int) : (s.setI w k v).power = s.power := (rfl)
@[simp] theorem State.setI_boot (w : Nat) (k : Key) (v : Int) : (s.setI w k v).boot = s.boot := (rfl)
@[simp] theorem State.setI_pending (w : Nat) (k : Key) (v : Int) : (s.setI w k v).pending = s.pending := (rfl)
@[simp] theorem State.setI_blob (w : Nat) (k : Key) (v : Int) (j : Key) : (s.setI w k v).blob j = s.blob j := (rfl)
@[simp] theorem State.setI_rb (w : Nat) (k : Key) (v : Int) (j : Nat) : (s.setI w k v).rb j = s.rb j := (rfl)

/-! ## setBlob -/

@[simp] theorem State.setBlob_now (k : Key) (b : Bytes) : (s.setBlob k b).now = s.now := (rfl)
@[simp] theorem State.setBlob_draws (k : Key) (b : Bytes) : (s.setBlob k b).draws = s.draws := (rfl)
@[simp] theorem State.setBlob_rdata (k : Key) (b : Bytes) : (s.setBlob k b).rdata = s.rdata := (rfl)
@[simp] theorem State.setBlob_rbytes (k : Key) (b : Bytes) : (s.setBlob k b).rbytes = s.rbytes := (rfl)
@[simp] theorem State.setBlob_objs (k : Key) (b : Bytes) : (s.setBlob k b).objs = s.objs := (rfl)
@[simp] theorem State.setBlob_mem (k : Key) (b : Bytes) : (s.setBlob k b).mem = s.mem := (rfl)
@[simp] theorem State.setBlob_time (k : Key) (b : Bytes) : (s.setBlob k b).time = s.time := (rfl)
@[simp] theorem State.setBlob_com (k : Key) (b : Bytes) : (s.setBlob k b).com = s.com := (rfl)
@[simp] theorem State.setBlob_cores (k : Key) (b : Bytes) : (s.setBlob k b).cores = s.cores := (rfl)
@[simp] theorem State.setBlob_slices (k : Key) (b : Bytes) : (s.setBlob k b).slices = s.slices := (rfl)
@[simp] theorem State.setBlob_air (k : Key) (b : Bytes) : (s.setBlob k b).air = s.air := (rfl)
@[simp] theorem State.setBlob_jobs (k : Key) (b : Bytes) : (s.setBlob k b).jobs = s.jobs := (rfl)
@[simp] theorem State.setBlob_mac (k : Key) (b : Bytes) : (s.setBlob k b).mac = s.mac := (rfl)
@[simp] theorem State.setBlob_steps (k : Key) (b : Bytes) : (s.setBlob k b).steps = s.steps := (rfl)
@[simp] theorem State.setBlob_fab (k : Key) (b : Bytes) : (s.setBlob k b).fab = s.fab := (rfl)
@[simp] theorem State.setBlob_svc (k : Key) (b : Bytes) : (s.setBlob k b).svc = s.svc := (rfl)
@[simp] theorem State.setBlob_shell (k : Key) (b : Bytes) : (s.setBlob k b).shell = s.shell := (rfl)
@[simp] theorem State.setBlob_dram (k : Key) (b : Bytes) : (s.setBlob k b).dram = s.dram := (rfl)
@[simp] theorem State.setBlob_flash (k : Key) (b : Bytes) : (s.setBlob k b).flash = s.flash := (rfl)
@[simp] theorem State.setBlob_power (k : Key) (b : Bytes) : (s.setBlob k b).power = s.power := (rfl)
@[simp] theorem State.setBlob_boot (k : Key) (b : Bytes) : (s.setBlob k b).boot = s.boot := (rfl)
@[simp] theorem State.setBlob_pending (k : Key) (b : Bytes) : (s.setBlob k b).pending = s.pending := (rfl)
@[simp] theorem State.setBlob_o (k : Key) (b : Bytes) (j : Key) : (s.setBlob k b).o j = s.o j := (rfl)
@[simp] theorem State.setBlob_rb (k : Key) (b : Bytes) (j : Nat) : (s.setBlob k b).rb j = s.rb j := (rfl)

/-! ## drawn -/

@[simp] theorem State.drawn_now  : (s.drawn ).now = s.now := (rfl)
@[simp] theorem State.drawn_rdata  : (s.drawn ).rdata = s.rdata := (rfl)
@[simp] theorem State.drawn_rbytes  : (s.drawn ).rbytes = s.rbytes := (rfl)
@[simp] theorem State.drawn_objs  : (s.drawn ).objs = s.objs := (rfl)
@[simp] theorem State.drawn_blobs  : (s.drawn ).blobs = s.blobs := (rfl)
@[simp] theorem State.drawn_mem  : (s.drawn ).mem = s.mem := (rfl)
@[simp] theorem State.drawn_time  : (s.drawn ).time = s.time := (rfl)
@[simp] theorem State.drawn_com  : (s.drawn ).com = s.com := (rfl)
@[simp] theorem State.drawn_cores  : (s.drawn ).cores = s.cores := (rfl)
@[simp] theorem State.drawn_slices  : (s.drawn ).slices = s.slices := (rfl)
@[simp] theorem State.drawn_air  : (s.drawn ).air = s.air := (rfl)
@[simp] theorem State.drawn_jobs  : (s.drawn ).jobs = s.jobs := (rfl)
@[simp] theorem State.drawn_mac  : (s.drawn ).mac = s.mac := (rfl)
@[simp] theorem State.drawn_steps  : (s.drawn ).steps = s.steps := (rfl)
@[simp] theorem State.drawn_fab  : (s.drawn ).fab = s.fab := (rfl)
@[simp] theorem State.drawn_svc  : (s.drawn ).svc = s.svc := (rfl)
@[simp] theorem State.drawn_shell  : (s.drawn ).shell = s.shell := (rfl)
@[simp] theorem State.drawn_dram  : (s.drawn ).dram = s.dram := (rfl)
@[simp] theorem State.drawn_flash  : (s.drawn ).flash = s.flash := (rfl)
@[simp] theorem State.drawn_power  : (s.drawn ).power = s.power := (rfl)
@[simp] theorem State.drawn_boot  : (s.drawn ).boot = s.boot := (rfl)
@[simp] theorem State.drawn_pending  : (s.drawn ).pending = s.pending := (rfl)
@[simp] theorem State.drawn_o  (j : Key) : (s.drawn ).o j = s.o j := (rfl)
@[simp] theorem State.drawn_blob  (j : Key) : (s.drawn ).blob j = s.blob j := (rfl)
@[simp] theorem State.drawn_rb  (j : Nat) : (s.drawn ).rb j = s.rb j := (rfl)

/-! ## upTo -/

@[simp] theorem State.upTo_draws (t : Instant) : (s.upTo t).draws = s.draws := (rfl)
@[simp] theorem State.upTo_rdata (t : Instant) : (s.upTo t).rdata = s.rdata := (rfl)
@[simp] theorem State.upTo_rbytes (t : Instant) : (s.upTo t).rbytes = s.rbytes := (rfl)
@[simp] theorem State.upTo_objs (t : Instant) : (s.upTo t).objs = s.objs := (rfl)
@[simp] theorem State.upTo_blobs (t : Instant) : (s.upTo t).blobs = s.blobs := (rfl)
@[simp] theorem State.upTo_mem (t : Instant) : (s.upTo t).mem = s.mem := (rfl)
@[simp] theorem State.upTo_time (t : Instant) : (s.upTo t).time = s.time := (rfl)
@[simp] theorem State.upTo_com (t : Instant) : (s.upTo t).com = s.com := (rfl)
@[simp] theorem State.upTo_cores (t : Instant) : (s.upTo t).cores = s.cores := (rfl)
@[simp] theorem State.upTo_slices (t : Instant) : (s.upTo t).slices = s.slices := (rfl)
@[simp] theorem State.upTo_air (t : Instant) : (s.upTo t).air = s.air := (rfl)
@[simp] theorem State.upTo_jobs (t : Instant) : (s.upTo t).jobs = s.jobs := (rfl)
@[simp] theorem State.upTo_mac (t : Instant) : (s.upTo t).mac = s.mac := (rfl)
@[simp] theorem State.upTo_steps (t : Instant) : (s.upTo t).steps = s.steps := (rfl)
@[simp] theorem State.upTo_fab (t : Instant) : (s.upTo t).fab = s.fab := (rfl)
@[simp] theorem State.upTo_svc (t : Instant) : (s.upTo t).svc = s.svc := (rfl)
@[simp] theorem State.upTo_shell (t : Instant) : (s.upTo t).shell = s.shell := (rfl)
@[simp] theorem State.upTo_dram (t : Instant) : (s.upTo t).dram = s.dram := (rfl)
@[simp] theorem State.upTo_flash (t : Instant) : (s.upTo t).flash = s.flash := (rfl)
@[simp] theorem State.upTo_power (t : Instant) : (s.upTo t).power = s.power := (rfl)
@[simp] theorem State.upTo_boot (t : Instant) : (s.upTo t).boot = s.boot := (rfl)
@[simp] theorem State.upTo_pending (t : Instant) : (s.upTo t).pending = s.pending := (rfl)
@[simp] theorem State.upTo_o (t : Instant) (j : Key) : (s.upTo t).o j = s.o j := (rfl)
@[simp] theorem State.upTo_blob (t : Instant) (j : Key) : (s.upTo t).blob j = s.blob j := (rfl)
@[simp] theorem State.upTo_rb (t : Instant) (j : Nat) : (s.upTo t).rb j = s.rb j := (rfl)

/-! ## modTc -/

@[simp] theorem State.modTc_now (n : Fin 16) (f : TcSt → TcSt) : (s.modTc n f).now = s.now := (rfl)
@[simp] theorem State.modTc_draws (n : Fin 16) (f : TcSt → TcSt) : (s.modTc n f).draws = s.draws := (rfl)
@[simp] theorem State.modTc_rdata (n : Fin 16) (f : TcSt → TcSt) : (s.modTc n f).rdata = s.rdata := (rfl)
@[simp] theorem State.modTc_rbytes (n : Fin 16) (f : TcSt → TcSt) : (s.modTc n f).rbytes = s.rbytes := (rfl)
@[simp] theorem State.modTc_objs (n : Fin 16) (f : TcSt → TcSt) : (s.modTc n f).objs = s.objs := (rfl)
@[simp] theorem State.modTc_blobs (n : Fin 16) (f : TcSt → TcSt) : (s.modTc n f).blobs = s.blobs := (rfl)
@[simp] theorem State.modTc_mem (n : Fin 16) (f : TcSt → TcSt) : (s.modTc n f).mem = s.mem := (rfl)
@[simp] theorem State.modTc_com (n : Fin 16) (f : TcSt → TcSt) : (s.modTc n f).com = s.com := (rfl)
@[simp] theorem State.modTc_cores (n : Fin 16) (f : TcSt → TcSt) : (s.modTc n f).cores = s.cores := (rfl)
@[simp] theorem State.modTc_slices (n : Fin 16) (f : TcSt → TcSt) : (s.modTc n f).slices = s.slices := (rfl)
@[simp] theorem State.modTc_air (n : Fin 16) (f : TcSt → TcSt) : (s.modTc n f).air = s.air := (rfl)
@[simp] theorem State.modTc_jobs (n : Fin 16) (f : TcSt → TcSt) : (s.modTc n f).jobs = s.jobs := (rfl)
@[simp] theorem State.modTc_mac (n : Fin 16) (f : TcSt → TcSt) : (s.modTc n f).mac = s.mac := (rfl)
@[simp] theorem State.modTc_steps (n : Fin 16) (f : TcSt → TcSt) : (s.modTc n f).steps = s.steps := (rfl)
@[simp] theorem State.modTc_fab (n : Fin 16) (f : TcSt → TcSt) : (s.modTc n f).fab = s.fab := (rfl)
@[simp] theorem State.modTc_svc (n : Fin 16) (f : TcSt → TcSt) : (s.modTc n f).svc = s.svc := (rfl)
@[simp] theorem State.modTc_shell (n : Fin 16) (f : TcSt → TcSt) : (s.modTc n f).shell = s.shell := (rfl)
@[simp] theorem State.modTc_dram (n : Fin 16) (f : TcSt → TcSt) : (s.modTc n f).dram = s.dram := (rfl)
@[simp] theorem State.modTc_flash (n : Fin 16) (f : TcSt → TcSt) : (s.modTc n f).flash = s.flash := (rfl)
@[simp] theorem State.modTc_power (n : Fin 16) (f : TcSt → TcSt) : (s.modTc n f).power = s.power := (rfl)
@[simp] theorem State.modTc_boot (n : Fin 16) (f : TcSt → TcSt) : (s.modTc n f).boot = s.boot := (rfl)
@[simp] theorem State.modTc_pending (n : Fin 16) (f : TcSt → TcSt) : (s.modTc n f).pending = s.pending := (rfl)
@[simp] theorem State.modTc_o (n : Fin 16) (f : TcSt → TcSt) (j : Key) : (s.modTc n f).o j = s.o j := (rfl)
@[simp] theorem State.modTc_blob (n : Fin 16) (f : TcSt → TcSt) (j : Key) : (s.modTc n f).blob j = s.blob j := (rfl)
@[simp] theorem State.modTc_rb (n : Fin 16) (f : TcSt → TcSt) (j : Nat) : (s.modTc n f).rb j = s.rb j := (rfl)

/-! ## modPanel -/

@[simp] theorem State.modPanel_now (k : Fin 4) (f : PanelSt → PanelSt) : (s.modPanel k f).now = s.now := (rfl)
@[simp] theorem State.modPanel_draws (k : Fin 4) (f : PanelSt → PanelSt) : (s.modPanel k f).draws = s.draws := (rfl)
@[simp] theorem State.modPanel_rdata (k : Fin 4) (f : PanelSt → PanelSt) : (s.modPanel k f).rdata = s.rdata := (rfl)
@[simp] theorem State.modPanel_rbytes (k : Fin 4) (f : PanelSt → PanelSt) : (s.modPanel k f).rbytes = s.rbytes := (rfl)
@[simp] theorem State.modPanel_objs (k : Fin 4) (f : PanelSt → PanelSt) : (s.modPanel k f).objs = s.objs := (rfl)
@[simp] theorem State.modPanel_blobs (k : Fin 4) (f : PanelSt → PanelSt) : (s.modPanel k f).blobs = s.blobs := (rfl)
@[simp] theorem State.modPanel_mem (k : Fin 4) (f : PanelSt → PanelSt) : (s.modPanel k f).mem = s.mem := (rfl)
@[simp] theorem State.modPanel_com (k : Fin 4) (f : PanelSt → PanelSt) : (s.modPanel k f).com = s.com := (rfl)
@[simp] theorem State.modPanel_cores (k : Fin 4) (f : PanelSt → PanelSt) : (s.modPanel k f).cores = s.cores := (rfl)
@[simp] theorem State.modPanel_slices (k : Fin 4) (f : PanelSt → PanelSt) : (s.modPanel k f).slices = s.slices := (rfl)
@[simp] theorem State.modPanel_air (k : Fin 4) (f : PanelSt → PanelSt) : (s.modPanel k f).air = s.air := (rfl)
@[simp] theorem State.modPanel_jobs (k : Fin 4) (f : PanelSt → PanelSt) : (s.modPanel k f).jobs = s.jobs := (rfl)
@[simp] theorem State.modPanel_mac (k : Fin 4) (f : PanelSt → PanelSt) : (s.modPanel k f).mac = s.mac := (rfl)
@[simp] theorem State.modPanel_steps (k : Fin 4) (f : PanelSt → PanelSt) : (s.modPanel k f).steps = s.steps := (rfl)
@[simp] theorem State.modPanel_fab (k : Fin 4) (f : PanelSt → PanelSt) : (s.modPanel k f).fab = s.fab := (rfl)
@[simp] theorem State.modPanel_svc (k : Fin 4) (f : PanelSt → PanelSt) : (s.modPanel k f).svc = s.svc := (rfl)
@[simp] theorem State.modPanel_shell (k : Fin 4) (f : PanelSt → PanelSt) : (s.modPanel k f).shell = s.shell := (rfl)
@[simp] theorem State.modPanel_dram (k : Fin 4) (f : PanelSt → PanelSt) : (s.modPanel k f).dram = s.dram := (rfl)
@[simp] theorem State.modPanel_flash (k : Fin 4) (f : PanelSt → PanelSt) : (s.modPanel k f).flash = s.flash := (rfl)
@[simp] theorem State.modPanel_power (k : Fin 4) (f : PanelSt → PanelSt) : (s.modPanel k f).power = s.power := (rfl)
@[simp] theorem State.modPanel_boot (k : Fin 4) (f : PanelSt → PanelSt) : (s.modPanel k f).boot = s.boot := (rfl)
@[simp] theorem State.modPanel_pending (k : Fin 4) (f : PanelSt → PanelSt) : (s.modPanel k f).pending = s.pending := (rfl)
@[simp] theorem State.modPanel_o (k : Fin 4) (f : PanelSt → PanelSt) (j : Key) : (s.modPanel k f).o j = s.o j := (rfl)
@[simp] theorem State.modPanel_blob (k : Fin 4) (f : PanelSt → PanelSt) (j : Key) : (s.modPanel k f).blob j = s.blob j := (rfl)
@[simp] theorem State.modPanel_rb (k : Fin 4) (f : PanelSt → PanelSt) (j : Nat) : (s.modPanel k f).rb j = s.rb j := (rfl)

/-! ## modCore -/

@[simp] theorem State.modCore_now (c : Fin 8) (f : CoreSt → CoreSt) : (s.modCore c f).now = s.now := (rfl)
@[simp] theorem State.modCore_draws (c : Fin 8) (f : CoreSt → CoreSt) : (s.modCore c f).draws = s.draws := (rfl)
@[simp] theorem State.modCore_rdata (c : Fin 8) (f : CoreSt → CoreSt) : (s.modCore c f).rdata = s.rdata := (rfl)
@[simp] theorem State.modCore_rbytes (c : Fin 8) (f : CoreSt → CoreSt) : (s.modCore c f).rbytes = s.rbytes := (rfl)
@[simp] theorem State.modCore_objs (c : Fin 8) (f : CoreSt → CoreSt) : (s.modCore c f).objs = s.objs := (rfl)
@[simp] theorem State.modCore_blobs (c : Fin 8) (f : CoreSt → CoreSt) : (s.modCore c f).blobs = s.blobs := (rfl)
@[simp] theorem State.modCore_mem (c : Fin 8) (f : CoreSt → CoreSt) : (s.modCore c f).mem = s.mem := (rfl)
@[simp] theorem State.modCore_time (c : Fin 8) (f : CoreSt → CoreSt) : (s.modCore c f).time = s.time := (rfl)
@[simp] theorem State.modCore_com (c : Fin 8) (f : CoreSt → CoreSt) : (s.modCore c f).com = s.com := (rfl)
@[simp] theorem State.modCore_slices (c : Fin 8) (f : CoreSt → CoreSt) : (s.modCore c f).slices = s.slices := (rfl)
@[simp] theorem State.modCore_air (c : Fin 8) (f : CoreSt → CoreSt) : (s.modCore c f).air = s.air := (rfl)
@[simp] theorem State.modCore_jobs (c : Fin 8) (f : CoreSt → CoreSt) : (s.modCore c f).jobs = s.jobs := (rfl)
@[simp] theorem State.modCore_mac (c : Fin 8) (f : CoreSt → CoreSt) : (s.modCore c f).mac = s.mac := (rfl)
@[simp] theorem State.modCore_steps (c : Fin 8) (f : CoreSt → CoreSt) : (s.modCore c f).steps = s.steps := (rfl)
@[simp] theorem State.modCore_fab (c : Fin 8) (f : CoreSt → CoreSt) : (s.modCore c f).fab = s.fab := (rfl)
@[simp] theorem State.modCore_svc (c : Fin 8) (f : CoreSt → CoreSt) : (s.modCore c f).svc = s.svc := (rfl)
@[simp] theorem State.modCore_shell (c : Fin 8) (f : CoreSt → CoreSt) : (s.modCore c f).shell = s.shell := (rfl)
@[simp] theorem State.modCore_dram (c : Fin 8) (f : CoreSt → CoreSt) : (s.modCore c f).dram = s.dram := (rfl)
@[simp] theorem State.modCore_flash (c : Fin 8) (f : CoreSt → CoreSt) : (s.modCore c f).flash = s.flash := (rfl)
@[simp] theorem State.modCore_power (c : Fin 8) (f : CoreSt → CoreSt) : (s.modCore c f).power = s.power := (rfl)
@[simp] theorem State.modCore_boot (c : Fin 8) (f : CoreSt → CoreSt) : (s.modCore c f).boot = s.boot := (rfl)
@[simp] theorem State.modCore_pending (c : Fin 8) (f : CoreSt → CoreSt) : (s.modCore c f).pending = s.pending := (rfl)
@[simp] theorem State.modCore_o (c : Fin 8) (f : CoreSt → CoreSt) (j : Key) : (s.modCore c f).o j = s.o j := (rfl)
@[simp] theorem State.modCore_blob (c : Fin 8) (f : CoreSt → CoreSt) (j : Key) : (s.modCore c f).blob j = s.blob j := (rfl)
@[simp] theorem State.modCore_rb (c : Fin 8) (f : CoreSt → CoreSt) (j : Nat) : (s.modCore c f).rb j = s.rb j := (rfl)

/-! ## modSess -/

@[simp] theorem State.modSess_now (x : Fin 8) (f : SessSt → SessSt) : (s.modSess x f).now = s.now := (rfl)
@[simp] theorem State.modSess_draws (x : Fin 8) (f : SessSt → SessSt) : (s.modSess x f).draws = s.draws := (rfl)
@[simp] theorem State.modSess_rdata (x : Fin 8) (f : SessSt → SessSt) : (s.modSess x f).rdata = s.rdata := (rfl)
@[simp] theorem State.modSess_rbytes (x : Fin 8) (f : SessSt → SessSt) : (s.modSess x f).rbytes = s.rbytes := (rfl)
@[simp] theorem State.modSess_objs (x : Fin 8) (f : SessSt → SessSt) : (s.modSess x f).objs = s.objs := (rfl)
@[simp] theorem State.modSess_blobs (x : Fin 8) (f : SessSt → SessSt) : (s.modSess x f).blobs = s.blobs := (rfl)
@[simp] theorem State.modSess_mem (x : Fin 8) (f : SessSt → SessSt) : (s.modSess x f).mem = s.mem := (rfl)
@[simp] theorem State.modSess_time (x : Fin 8) (f : SessSt → SessSt) : (s.modSess x f).time = s.time := (rfl)
@[simp] theorem State.modSess_cores (x : Fin 8) (f : SessSt → SessSt) : (s.modSess x f).cores = s.cores := (rfl)
@[simp] theorem State.modSess_slices (x : Fin 8) (f : SessSt → SessSt) : (s.modSess x f).slices = s.slices := (rfl)
@[simp] theorem State.modSess_air (x : Fin 8) (f : SessSt → SessSt) : (s.modSess x f).air = s.air := (rfl)
@[simp] theorem State.modSess_jobs (x : Fin 8) (f : SessSt → SessSt) : (s.modSess x f).jobs = s.jobs := (rfl)
@[simp] theorem State.modSess_mac (x : Fin 8) (f : SessSt → SessSt) : (s.modSess x f).mac = s.mac := (rfl)
@[simp] theorem State.modSess_steps (x : Fin 8) (f : SessSt → SessSt) : (s.modSess x f).steps = s.steps := (rfl)
@[simp] theorem State.modSess_fab (x : Fin 8) (f : SessSt → SessSt) : (s.modSess x f).fab = s.fab := (rfl)
@[simp] theorem State.modSess_svc (x : Fin 8) (f : SessSt → SessSt) : (s.modSess x f).svc = s.svc := (rfl)
@[simp] theorem State.modSess_shell (x : Fin 8) (f : SessSt → SessSt) : (s.modSess x f).shell = s.shell := (rfl)
@[simp] theorem State.modSess_dram (x : Fin 8) (f : SessSt → SessSt) : (s.modSess x f).dram = s.dram := (rfl)
@[simp] theorem State.modSess_flash (x : Fin 8) (f : SessSt → SessSt) : (s.modSess x f).flash = s.flash := (rfl)
@[simp] theorem State.modSess_power (x : Fin 8) (f : SessSt → SessSt) : (s.modSess x f).power = s.power := (rfl)
@[simp] theorem State.modSess_boot (x : Fin 8) (f : SessSt → SessSt) : (s.modSess x f).boot = s.boot := (rfl)
@[simp] theorem State.modSess_pending (x : Fin 8) (f : SessSt → SessSt) : (s.modSess x f).pending = s.pending := (rfl)
@[simp] theorem State.modSess_o (x : Fin 8) (f : SessSt → SessSt) (j : Key) : (s.modSess x f).o j = s.o j := (rfl)
@[simp] theorem State.modSess_blob (x : Fin 8) (f : SessSt → SessSt) (j : Key) : (s.modSess x f).blob j = s.blob j := (rfl)
@[simp] theorem State.modSess_rb (x : Fin 8) (f : SessSt → SessSt) (j : Nat) : (s.modSess x f).rb j = s.rb j := (rfl)

/-! ## modCom -/

@[simp] theorem State.modCom_now (f : ComSt → ComSt) : (s.modCom f).now = s.now := (rfl)
@[simp] theorem State.modCom_draws (f : ComSt → ComSt) : (s.modCom f).draws = s.draws := (rfl)
@[simp] theorem State.modCom_rdata (f : ComSt → ComSt) : (s.modCom f).rdata = s.rdata := (rfl)
@[simp] theorem State.modCom_rbytes (f : ComSt → ComSt) : (s.modCom f).rbytes = s.rbytes := (rfl)
@[simp] theorem State.modCom_objs (f : ComSt → ComSt) : (s.modCom f).objs = s.objs := (rfl)
@[simp] theorem State.modCom_blobs (f : ComSt → ComSt) : (s.modCom f).blobs = s.blobs := (rfl)
@[simp] theorem State.modCom_mem (f : ComSt → ComSt) : (s.modCom f).mem = s.mem := (rfl)
@[simp] theorem State.modCom_time (f : ComSt → ComSt) : (s.modCom f).time = s.time := (rfl)
@[simp] theorem State.modCom_cores (f : ComSt → ComSt) : (s.modCom f).cores = s.cores := (rfl)
@[simp] theorem State.modCom_slices (f : ComSt → ComSt) : (s.modCom f).slices = s.slices := (rfl)
@[simp] theorem State.modCom_air (f : ComSt → ComSt) : (s.modCom f).air = s.air := (rfl)
@[simp] theorem State.modCom_jobs (f : ComSt → ComSt) : (s.modCom f).jobs = s.jobs := (rfl)
@[simp] theorem State.modCom_mac (f : ComSt → ComSt) : (s.modCom f).mac = s.mac := (rfl)
@[simp] theorem State.modCom_steps (f : ComSt → ComSt) : (s.modCom f).steps = s.steps := (rfl)
@[simp] theorem State.modCom_fab (f : ComSt → ComSt) : (s.modCom f).fab = s.fab := (rfl)
@[simp] theorem State.modCom_svc (f : ComSt → ComSt) : (s.modCom f).svc = s.svc := (rfl)
@[simp] theorem State.modCom_shell (f : ComSt → ComSt) : (s.modCom f).shell = s.shell := (rfl)
@[simp] theorem State.modCom_dram (f : ComSt → ComSt) : (s.modCom f).dram = s.dram := (rfl)
@[simp] theorem State.modCom_flash (f : ComSt → ComSt) : (s.modCom f).flash = s.flash := (rfl)
@[simp] theorem State.modCom_power (f : ComSt → ComSt) : (s.modCom f).power = s.power := (rfl)
@[simp] theorem State.modCom_boot (f : ComSt → ComSt) : (s.modCom f).boot = s.boot := (rfl)
@[simp] theorem State.modCom_pending (f : ComSt → ComSt) : (s.modCom f).pending = s.pending := (rfl)
@[simp] theorem State.modCom_o (f : ComSt → ComSt) (j : Key) : (s.modCom f).o j = s.o j := (rfl)
@[simp] theorem State.modCom_blob (f : ComSt → ComSt) (j : Key) : (s.modCom f).blob j = s.blob j := (rfl)
@[simp] theorem State.modCom_rb (f : ComSt → ComSt) (j : Nat) : (s.modCom f).rb j = s.rb j := (rfl)

/-! ## modSlice -/

@[simp] theorem State.modSlice_now (n : Fin 4) (f : SliceSt → SliceSt) : (s.modSlice n f).now = s.now := (rfl)
@[simp] theorem State.modSlice_draws (n : Fin 4) (f : SliceSt → SliceSt) : (s.modSlice n f).draws = s.draws := (rfl)
@[simp] theorem State.modSlice_rdata (n : Fin 4) (f : SliceSt → SliceSt) : (s.modSlice n f).rdata = s.rdata := (rfl)
@[simp] theorem State.modSlice_rbytes (n : Fin 4) (f : SliceSt → SliceSt) : (s.modSlice n f).rbytes = s.rbytes := (rfl)
@[simp] theorem State.modSlice_objs (n : Fin 4) (f : SliceSt → SliceSt) : (s.modSlice n f).objs = s.objs := (rfl)
@[simp] theorem State.modSlice_blobs (n : Fin 4) (f : SliceSt → SliceSt) : (s.modSlice n f).blobs = s.blobs := (rfl)
@[simp] theorem State.modSlice_mem (n : Fin 4) (f : SliceSt → SliceSt) : (s.modSlice n f).mem = s.mem := (rfl)
@[simp] theorem State.modSlice_time (n : Fin 4) (f : SliceSt → SliceSt) : (s.modSlice n f).time = s.time := (rfl)
@[simp] theorem State.modSlice_com (n : Fin 4) (f : SliceSt → SliceSt) : (s.modSlice n f).com = s.com := (rfl)
@[simp] theorem State.modSlice_cores (n : Fin 4) (f : SliceSt → SliceSt) : (s.modSlice n f).cores = s.cores := (rfl)
@[simp] theorem State.modSlice_air (n : Fin 4) (f : SliceSt → SliceSt) : (s.modSlice n f).air = s.air := (rfl)
@[simp] theorem State.modSlice_jobs (n : Fin 4) (f : SliceSt → SliceSt) : (s.modSlice n f).jobs = s.jobs := (rfl)
@[simp] theorem State.modSlice_mac (n : Fin 4) (f : SliceSt → SliceSt) : (s.modSlice n f).mac = s.mac := (rfl)
@[simp] theorem State.modSlice_steps (n : Fin 4) (f : SliceSt → SliceSt) : (s.modSlice n f).steps = s.steps := (rfl)
@[simp] theorem State.modSlice_fab (n : Fin 4) (f : SliceSt → SliceSt) : (s.modSlice n f).fab = s.fab := (rfl)
@[simp] theorem State.modSlice_svc (n : Fin 4) (f : SliceSt → SliceSt) : (s.modSlice n f).svc = s.svc := (rfl)
@[simp] theorem State.modSlice_shell (n : Fin 4) (f : SliceSt → SliceSt) : (s.modSlice n f).shell = s.shell := (rfl)
@[simp] theorem State.modSlice_dram (n : Fin 4) (f : SliceSt → SliceSt) : (s.modSlice n f).dram = s.dram := (rfl)
@[simp] theorem State.modSlice_flash (n : Fin 4) (f : SliceSt → SliceSt) : (s.modSlice n f).flash = s.flash := (rfl)
@[simp] theorem State.modSlice_power (n : Fin 4) (f : SliceSt → SliceSt) : (s.modSlice n f).power = s.power := (rfl)
@[simp] theorem State.modSlice_boot (n : Fin 4) (f : SliceSt → SliceSt) : (s.modSlice n f).boot = s.boot := (rfl)
@[simp] theorem State.modSlice_pending (n : Fin 4) (f : SliceSt → SliceSt) : (s.modSlice n f).pending = s.pending := (rfl)
@[simp] theorem State.modSlice_o (n : Fin 4) (f : SliceSt → SliceSt) (j : Key) : (s.modSlice n f).o j = s.o j := (rfl)
@[simp] theorem State.modSlice_blob (n : Fin 4) (f : SliceSt → SliceSt) (j : Key) : (s.modSlice n f).blob j = s.blob j := (rfl)
@[simp] theorem State.modSlice_rb (n : Fin 4) (f : SliceSt → SliceSt) (j : Nat) : (s.modSlice n f).rb j = s.rb j := (rfl)

/-! ## modJobs -/

@[simp] theorem State.modJobs_now (f : JobsSt → JobsSt) : (s.modJobs f).now = s.now := (rfl)
@[simp] theorem State.modJobs_draws (f : JobsSt → JobsSt) : (s.modJobs f).draws = s.draws := (rfl)
@[simp] theorem State.modJobs_rdata (f : JobsSt → JobsSt) : (s.modJobs f).rdata = s.rdata := (rfl)
@[simp] theorem State.modJobs_rbytes (f : JobsSt → JobsSt) : (s.modJobs f).rbytes = s.rbytes := (rfl)
@[simp] theorem State.modJobs_objs (f : JobsSt → JobsSt) : (s.modJobs f).objs = s.objs := (rfl)
@[simp] theorem State.modJobs_blobs (f : JobsSt → JobsSt) : (s.modJobs f).blobs = s.blobs := (rfl)
@[simp] theorem State.modJobs_mem (f : JobsSt → JobsSt) : (s.modJobs f).mem = s.mem := (rfl)
@[simp] theorem State.modJobs_time (f : JobsSt → JobsSt) : (s.modJobs f).time = s.time := (rfl)
@[simp] theorem State.modJobs_com (f : JobsSt → JobsSt) : (s.modJobs f).com = s.com := (rfl)
@[simp] theorem State.modJobs_cores (f : JobsSt → JobsSt) : (s.modJobs f).cores = s.cores := (rfl)
@[simp] theorem State.modJobs_slices (f : JobsSt → JobsSt) : (s.modJobs f).slices = s.slices := (rfl)
@[simp] theorem State.modJobs_air (f : JobsSt → JobsSt) : (s.modJobs f).air = s.air := (rfl)
@[simp] theorem State.modJobs_mac (f : JobsSt → JobsSt) : (s.modJobs f).mac = s.mac := (rfl)
@[simp] theorem State.modJobs_steps (f : JobsSt → JobsSt) : (s.modJobs f).steps = s.steps := (rfl)
@[simp] theorem State.modJobs_fab (f : JobsSt → JobsSt) : (s.modJobs f).fab = s.fab := (rfl)
@[simp] theorem State.modJobs_svc (f : JobsSt → JobsSt) : (s.modJobs f).svc = s.svc := (rfl)
@[simp] theorem State.modJobs_shell (f : JobsSt → JobsSt) : (s.modJobs f).shell = s.shell := (rfl)
@[simp] theorem State.modJobs_dram (f : JobsSt → JobsSt) : (s.modJobs f).dram = s.dram := (rfl)
@[simp] theorem State.modJobs_flash (f : JobsSt → JobsSt) : (s.modJobs f).flash = s.flash := (rfl)
@[simp] theorem State.modJobs_power (f : JobsSt → JobsSt) : (s.modJobs f).power = s.power := (rfl)
@[simp] theorem State.modJobs_boot (f : JobsSt → JobsSt) : (s.modJobs f).boot = s.boot := (rfl)
@[simp] theorem State.modJobs_pending (f : JobsSt → JobsSt) : (s.modJobs f).pending = s.pending := (rfl)
@[simp] theorem State.modJobs_o (f : JobsSt → JobsSt) (j : Key) : (s.modJobs f).o j = s.o j := (rfl)
@[simp] theorem State.modJobs_blob (f : JobsSt → JobsSt) (j : Key) : (s.modJobs f).blob j = s.blob j := (rfl)
@[simp] theorem State.modJobs_rb (f : JobsSt → JobsSt) (j : Nat) : (s.modJobs f).rb j = s.rb j := (rfl)

/-! ## modAir -/

@[simp] theorem State.modAir_now (f : AirSt → AirSt) : (s.modAir f).now = s.now := (rfl)
@[simp] theorem State.modAir_draws (f : AirSt → AirSt) : (s.modAir f).draws = s.draws := (rfl)
@[simp] theorem State.modAir_rdata (f : AirSt → AirSt) : (s.modAir f).rdata = s.rdata := (rfl)
@[simp] theorem State.modAir_rbytes (f : AirSt → AirSt) : (s.modAir f).rbytes = s.rbytes := (rfl)
@[simp] theorem State.modAir_objs (f : AirSt → AirSt) : (s.modAir f).objs = s.objs := (rfl)
@[simp] theorem State.modAir_blobs (f : AirSt → AirSt) : (s.modAir f).blobs = s.blobs := (rfl)
@[simp] theorem State.modAir_mem (f : AirSt → AirSt) : (s.modAir f).mem = s.mem := (rfl)
@[simp] theorem State.modAir_time (f : AirSt → AirSt) : (s.modAir f).time = s.time := (rfl)
@[simp] theorem State.modAir_com (f : AirSt → AirSt) : (s.modAir f).com = s.com := (rfl)
@[simp] theorem State.modAir_cores (f : AirSt → AirSt) : (s.modAir f).cores = s.cores := (rfl)
@[simp] theorem State.modAir_slices (f : AirSt → AirSt) : (s.modAir f).slices = s.slices := (rfl)
@[simp] theorem State.modAir_jobs (f : AirSt → AirSt) : (s.modAir f).jobs = s.jobs := (rfl)
@[simp] theorem State.modAir_mac (f : AirSt → AirSt) : (s.modAir f).mac = s.mac := (rfl)
@[simp] theorem State.modAir_steps (f : AirSt → AirSt) : (s.modAir f).steps = s.steps := (rfl)
@[simp] theorem State.modAir_fab (f : AirSt → AirSt) : (s.modAir f).fab = s.fab := (rfl)
@[simp] theorem State.modAir_svc (f : AirSt → AirSt) : (s.modAir f).svc = s.svc := (rfl)
@[simp] theorem State.modAir_shell (f : AirSt → AirSt) : (s.modAir f).shell = s.shell := (rfl)
@[simp] theorem State.modAir_dram (f : AirSt → AirSt) : (s.modAir f).dram = s.dram := (rfl)
@[simp] theorem State.modAir_flash (f : AirSt → AirSt) : (s.modAir f).flash = s.flash := (rfl)
@[simp] theorem State.modAir_power (f : AirSt → AirSt) : (s.modAir f).power = s.power := (rfl)
@[simp] theorem State.modAir_boot (f : AirSt → AirSt) : (s.modAir f).boot = s.boot := (rfl)
@[simp] theorem State.modAir_pending (f : AirSt → AirSt) : (s.modAir f).pending = s.pending := (rfl)
@[simp] theorem State.modAir_o (f : AirSt → AirSt) (j : Key) : (s.modAir f).o j = s.o j := (rfl)
@[simp] theorem State.modAir_blob (f : AirSt → AirSt) (j : Key) : (s.modAir f).blob j = s.blob j := (rfl)
@[simp] theorem State.modAir_rb (f : AirSt → AirSt) (j : Nat) : (s.modAir f).rb j = s.rb j := (rfl)

/-! ## modSteps -/

@[simp] theorem State.modSteps_now (f : StepsSt → StepsSt) : (s.modSteps f).now = s.now := (rfl)
@[simp] theorem State.modSteps_draws (f : StepsSt → StepsSt) : (s.modSteps f).draws = s.draws := (rfl)
@[simp] theorem State.modSteps_rdata (f : StepsSt → StepsSt) : (s.modSteps f).rdata = s.rdata := (rfl)
@[simp] theorem State.modSteps_rbytes (f : StepsSt → StepsSt) : (s.modSteps f).rbytes = s.rbytes := (rfl)
@[simp] theorem State.modSteps_objs (f : StepsSt → StepsSt) : (s.modSteps f).objs = s.objs := (rfl)
@[simp] theorem State.modSteps_blobs (f : StepsSt → StepsSt) : (s.modSteps f).blobs = s.blobs := (rfl)
@[simp] theorem State.modSteps_mem (f : StepsSt → StepsSt) : (s.modSteps f).mem = s.mem := (rfl)
@[simp] theorem State.modSteps_time (f : StepsSt → StepsSt) : (s.modSteps f).time = s.time := (rfl)
@[simp] theorem State.modSteps_com (f : StepsSt → StepsSt) : (s.modSteps f).com = s.com := (rfl)
@[simp] theorem State.modSteps_cores (f : StepsSt → StepsSt) : (s.modSteps f).cores = s.cores := (rfl)
@[simp] theorem State.modSteps_slices (f : StepsSt → StepsSt) : (s.modSteps f).slices = s.slices := (rfl)
@[simp] theorem State.modSteps_air (f : StepsSt → StepsSt) : (s.modSteps f).air = s.air := (rfl)
@[simp] theorem State.modSteps_jobs (f : StepsSt → StepsSt) : (s.modSteps f).jobs = s.jobs := (rfl)
@[simp] theorem State.modSteps_mac (f : StepsSt → StepsSt) : (s.modSteps f).mac = s.mac := (rfl)
@[simp] theorem State.modSteps_fab (f : StepsSt → StepsSt) : (s.modSteps f).fab = s.fab := (rfl)
@[simp] theorem State.modSteps_svc (f : StepsSt → StepsSt) : (s.modSteps f).svc = s.svc := (rfl)
@[simp] theorem State.modSteps_shell (f : StepsSt → StepsSt) : (s.modSteps f).shell = s.shell := (rfl)
@[simp] theorem State.modSteps_dram (f : StepsSt → StepsSt) : (s.modSteps f).dram = s.dram := (rfl)
@[simp] theorem State.modSteps_flash (f : StepsSt → StepsSt) : (s.modSteps f).flash = s.flash := (rfl)
@[simp] theorem State.modSteps_power (f : StepsSt → StepsSt) : (s.modSteps f).power = s.power := (rfl)
@[simp] theorem State.modSteps_boot (f : StepsSt → StepsSt) : (s.modSteps f).boot = s.boot := (rfl)
@[simp] theorem State.modSteps_pending (f : StepsSt → StepsSt) : (s.modSteps f).pending = s.pending := (rfl)
@[simp] theorem State.modSteps_o (f : StepsSt → StepsSt) (j : Key) : (s.modSteps f).o j = s.o j := (rfl)
@[simp] theorem State.modSteps_blob (f : StepsSt → StepsSt) (j : Key) : (s.modSteps f).blob j = s.blob j := (rfl)
@[simp] theorem State.modSteps_rb (f : StepsSt → StepsSt) (j : Nat) : (s.modSteps f).rb j = s.rb j := (rfl)

/-! ## modFab -/

@[simp] theorem State.modFab_now (f : FabSt → FabSt) : (s.modFab f).now = s.now := (rfl)
@[simp] theorem State.modFab_draws (f : FabSt → FabSt) : (s.modFab f).draws = s.draws := (rfl)
@[simp] theorem State.modFab_rdata (f : FabSt → FabSt) : (s.modFab f).rdata = s.rdata := (rfl)
@[simp] theorem State.modFab_rbytes (f : FabSt → FabSt) : (s.modFab f).rbytes = s.rbytes := (rfl)
@[simp] theorem State.modFab_objs (f : FabSt → FabSt) : (s.modFab f).objs = s.objs := (rfl)
@[simp] theorem State.modFab_blobs (f : FabSt → FabSt) : (s.modFab f).blobs = s.blobs := (rfl)
@[simp] theorem State.modFab_mem (f : FabSt → FabSt) : (s.modFab f).mem = s.mem := (rfl)
@[simp] theorem State.modFab_time (f : FabSt → FabSt) : (s.modFab f).time = s.time := (rfl)
@[simp] theorem State.modFab_com (f : FabSt → FabSt) : (s.modFab f).com = s.com := (rfl)
@[simp] theorem State.modFab_cores (f : FabSt → FabSt) : (s.modFab f).cores = s.cores := (rfl)
@[simp] theorem State.modFab_slices (f : FabSt → FabSt) : (s.modFab f).slices = s.slices := (rfl)
@[simp] theorem State.modFab_air (f : FabSt → FabSt) : (s.modFab f).air = s.air := (rfl)
@[simp] theorem State.modFab_jobs (f : FabSt → FabSt) : (s.modFab f).jobs = s.jobs := (rfl)
@[simp] theorem State.modFab_mac (f : FabSt → FabSt) : (s.modFab f).mac = s.mac := (rfl)
@[simp] theorem State.modFab_steps (f : FabSt → FabSt) : (s.modFab f).steps = s.steps := (rfl)
@[simp] theorem State.modFab_svc (f : FabSt → FabSt) : (s.modFab f).svc = s.svc := (rfl)
@[simp] theorem State.modFab_shell (f : FabSt → FabSt) : (s.modFab f).shell = s.shell := (rfl)
@[simp] theorem State.modFab_dram (f : FabSt → FabSt) : (s.modFab f).dram = s.dram := (rfl)
@[simp] theorem State.modFab_flash (f : FabSt → FabSt) : (s.modFab f).flash = s.flash := (rfl)
@[simp] theorem State.modFab_power (f : FabSt → FabSt) : (s.modFab f).power = s.power := (rfl)
@[simp] theorem State.modFab_boot (f : FabSt → FabSt) : (s.modFab f).boot = s.boot := (rfl)
@[simp] theorem State.modFab_pending (f : FabSt → FabSt) : (s.modFab f).pending = s.pending := (rfl)
@[simp] theorem State.modFab_o (f : FabSt → FabSt) (j : Key) : (s.modFab f).o j = s.o j := (rfl)
@[simp] theorem State.modFab_blob (f : FabSt → FabSt) (j : Key) : (s.modFab f).blob j = s.blob j := (rfl)
@[simp] theorem State.modFab_rb (f : FabSt → FabSt) (j : Nat) : (s.modFab f).rb j = s.rb j := (rfl)

/-! ## modSvc -/

@[simp] theorem State.modSvc_now (f : SvcSt → SvcSt) : (s.modSvc f).now = s.now := (rfl)
@[simp] theorem State.modSvc_draws (f : SvcSt → SvcSt) : (s.modSvc f).draws = s.draws := (rfl)
@[simp] theorem State.modSvc_rdata (f : SvcSt → SvcSt) : (s.modSvc f).rdata = s.rdata := (rfl)
@[simp] theorem State.modSvc_rbytes (f : SvcSt → SvcSt) : (s.modSvc f).rbytes = s.rbytes := (rfl)
@[simp] theorem State.modSvc_objs (f : SvcSt → SvcSt) : (s.modSvc f).objs = s.objs := (rfl)
@[simp] theorem State.modSvc_blobs (f : SvcSt → SvcSt) : (s.modSvc f).blobs = s.blobs := (rfl)
@[simp] theorem State.modSvc_mem (f : SvcSt → SvcSt) : (s.modSvc f).mem = s.mem := (rfl)
@[simp] theorem State.modSvc_time (f : SvcSt → SvcSt) : (s.modSvc f).time = s.time := (rfl)
@[simp] theorem State.modSvc_com (f : SvcSt → SvcSt) : (s.modSvc f).com = s.com := (rfl)
@[simp] theorem State.modSvc_cores (f : SvcSt → SvcSt) : (s.modSvc f).cores = s.cores := (rfl)
@[simp] theorem State.modSvc_slices (f : SvcSt → SvcSt) : (s.modSvc f).slices = s.slices := (rfl)
@[simp] theorem State.modSvc_air (f : SvcSt → SvcSt) : (s.modSvc f).air = s.air := (rfl)
@[simp] theorem State.modSvc_jobs (f : SvcSt → SvcSt) : (s.modSvc f).jobs = s.jobs := (rfl)
@[simp] theorem State.modSvc_mac (f : SvcSt → SvcSt) : (s.modSvc f).mac = s.mac := (rfl)
@[simp] theorem State.modSvc_steps (f : SvcSt → SvcSt) : (s.modSvc f).steps = s.steps := (rfl)
@[simp] theorem State.modSvc_fab (f : SvcSt → SvcSt) : (s.modSvc f).fab = s.fab := (rfl)
@[simp] theorem State.modSvc_shell (f : SvcSt → SvcSt) : (s.modSvc f).shell = s.shell := (rfl)
@[simp] theorem State.modSvc_dram (f : SvcSt → SvcSt) : (s.modSvc f).dram = s.dram := (rfl)
@[simp] theorem State.modSvc_flash (f : SvcSt → SvcSt) : (s.modSvc f).flash = s.flash := (rfl)
@[simp] theorem State.modSvc_power (f : SvcSt → SvcSt) : (s.modSvc f).power = s.power := (rfl)
@[simp] theorem State.modSvc_boot (f : SvcSt → SvcSt) : (s.modSvc f).boot = s.boot := (rfl)
@[simp] theorem State.modSvc_pending (f : SvcSt → SvcSt) : (s.modSvc f).pending = s.pending := (rfl)
@[simp] theorem State.modSvc_o (f : SvcSt → SvcSt) (j : Key) : (s.modSvc f).o j = s.o j := (rfl)
@[simp] theorem State.modSvc_blob (f : SvcSt → SvcSt) (j : Key) : (s.modSvc f).blob j = s.blob j := (rfl)
@[simp] theorem State.modSvc_rb (f : SvcSt → SvcSt) (j : Nat) : (s.modSvc f).rb j = s.rb j := (rfl)

/-! ## modShell -/

@[simp] theorem State.modShell_now (f : ShellSt → ShellSt) : (s.modShell f).now = s.now := (rfl)
@[simp] theorem State.modShell_draws (f : ShellSt → ShellSt) : (s.modShell f).draws = s.draws := (rfl)
@[simp] theorem State.modShell_rdata (f : ShellSt → ShellSt) : (s.modShell f).rdata = s.rdata := (rfl)
@[simp] theorem State.modShell_rbytes (f : ShellSt → ShellSt) : (s.modShell f).rbytes = s.rbytes := (rfl)
@[simp] theorem State.modShell_objs (f : ShellSt → ShellSt) : (s.modShell f).objs = s.objs := (rfl)
@[simp] theorem State.modShell_blobs (f : ShellSt → ShellSt) : (s.modShell f).blobs = s.blobs := (rfl)
@[simp] theorem State.modShell_mem (f : ShellSt → ShellSt) : (s.modShell f).mem = s.mem := (rfl)
@[simp] theorem State.modShell_time (f : ShellSt → ShellSt) : (s.modShell f).time = s.time := (rfl)
@[simp] theorem State.modShell_com (f : ShellSt → ShellSt) : (s.modShell f).com = s.com := (rfl)
@[simp] theorem State.modShell_cores (f : ShellSt → ShellSt) : (s.modShell f).cores = s.cores := (rfl)
@[simp] theorem State.modShell_slices (f : ShellSt → ShellSt) : (s.modShell f).slices = s.slices := (rfl)
@[simp] theorem State.modShell_air (f : ShellSt → ShellSt) : (s.modShell f).air = s.air := (rfl)
@[simp] theorem State.modShell_jobs (f : ShellSt → ShellSt) : (s.modShell f).jobs = s.jobs := (rfl)
@[simp] theorem State.modShell_mac (f : ShellSt → ShellSt) : (s.modShell f).mac = s.mac := (rfl)
@[simp] theorem State.modShell_steps (f : ShellSt → ShellSt) : (s.modShell f).steps = s.steps := (rfl)
@[simp] theorem State.modShell_fab (f : ShellSt → ShellSt) : (s.modShell f).fab = s.fab := (rfl)
@[simp] theorem State.modShell_svc (f : ShellSt → ShellSt) : (s.modShell f).svc = s.svc := (rfl)
@[simp] theorem State.modShell_dram (f : ShellSt → ShellSt) : (s.modShell f).dram = s.dram := (rfl)
@[simp] theorem State.modShell_flash (f : ShellSt → ShellSt) : (s.modShell f).flash = s.flash := (rfl)
@[simp] theorem State.modShell_power (f : ShellSt → ShellSt) : (s.modShell f).power = s.power := (rfl)
@[simp] theorem State.modShell_boot (f : ShellSt → ShellSt) : (s.modShell f).boot = s.boot := (rfl)
@[simp] theorem State.modShell_pending (f : ShellSt → ShellSt) : (s.modShell f).pending = s.pending := (rfl)
@[simp] theorem State.modShell_o (f : ShellSt → ShellSt) (j : Key) : (s.modShell f).o j = s.o j := (rfl)
@[simp] theorem State.modShell_blob (f : ShellSt → ShellSt) (j : Key) : (s.modShell f).blob j = s.blob j := (rfl)
@[simp] theorem State.modShell_rb (f : ShellSt → ShellSt) (j : Nat) : (s.modShell f).rb j = s.rb j := (rfl)

/-! ## modDram -/

@[simp] theorem State.modDram_now (f : DramSt → DramSt) : (s.modDram f).now = s.now := (rfl)
@[simp] theorem State.modDram_draws (f : DramSt → DramSt) : (s.modDram f).draws = s.draws := (rfl)
@[simp] theorem State.modDram_rdata (f : DramSt → DramSt) : (s.modDram f).rdata = s.rdata := (rfl)
@[simp] theorem State.modDram_rbytes (f : DramSt → DramSt) : (s.modDram f).rbytes = s.rbytes := (rfl)
@[simp] theorem State.modDram_objs (f : DramSt → DramSt) : (s.modDram f).objs = s.objs := (rfl)
@[simp] theorem State.modDram_blobs (f : DramSt → DramSt) : (s.modDram f).blobs = s.blobs := (rfl)
@[simp] theorem State.modDram_mem (f : DramSt → DramSt) : (s.modDram f).mem = s.mem := (rfl)
@[simp] theorem State.modDram_time (f : DramSt → DramSt) : (s.modDram f).time = s.time := (rfl)
@[simp] theorem State.modDram_com (f : DramSt → DramSt) : (s.modDram f).com = s.com := (rfl)
@[simp] theorem State.modDram_cores (f : DramSt → DramSt) : (s.modDram f).cores = s.cores := (rfl)
@[simp] theorem State.modDram_slices (f : DramSt → DramSt) : (s.modDram f).slices = s.slices := (rfl)
@[simp] theorem State.modDram_air (f : DramSt → DramSt) : (s.modDram f).air = s.air := (rfl)
@[simp] theorem State.modDram_jobs (f : DramSt → DramSt) : (s.modDram f).jobs = s.jobs := (rfl)
@[simp] theorem State.modDram_mac (f : DramSt → DramSt) : (s.modDram f).mac = s.mac := (rfl)
@[simp] theorem State.modDram_steps (f : DramSt → DramSt) : (s.modDram f).steps = s.steps := (rfl)
@[simp] theorem State.modDram_fab (f : DramSt → DramSt) : (s.modDram f).fab = s.fab := (rfl)
@[simp] theorem State.modDram_svc (f : DramSt → DramSt) : (s.modDram f).svc = s.svc := (rfl)
@[simp] theorem State.modDram_shell (f : DramSt → DramSt) : (s.modDram f).shell = s.shell := (rfl)
@[simp] theorem State.modDram_flash (f : DramSt → DramSt) : (s.modDram f).flash = s.flash := (rfl)
@[simp] theorem State.modDram_power (f : DramSt → DramSt) : (s.modDram f).power = s.power := (rfl)
@[simp] theorem State.modDram_boot (f : DramSt → DramSt) : (s.modDram f).boot = s.boot := (rfl)
@[simp] theorem State.modDram_pending (f : DramSt → DramSt) : (s.modDram f).pending = s.pending := (rfl)
@[simp] theorem State.modDram_o (f : DramSt → DramSt) (j : Key) : (s.modDram f).o j = s.o j := (rfl)
@[simp] theorem State.modDram_blob (f : DramSt → DramSt) (j : Key) : (s.modDram f).blob j = s.blob j := (rfl)
@[simp] theorem State.modDram_rb (f : DramSt → DramSt) (j : Nat) : (s.modDram f).rb j = s.rb j := (rfl)

/-! ## modFlash -/

@[simp] theorem State.modFlash_now (f : FlashSt → FlashSt) : (s.modFlash f).now = s.now := (rfl)
@[simp] theorem State.modFlash_draws (f : FlashSt → FlashSt) : (s.modFlash f).draws = s.draws := (rfl)
@[simp] theorem State.modFlash_rdata (f : FlashSt → FlashSt) : (s.modFlash f).rdata = s.rdata := (rfl)
@[simp] theorem State.modFlash_rbytes (f : FlashSt → FlashSt) : (s.modFlash f).rbytes = s.rbytes := (rfl)
@[simp] theorem State.modFlash_objs (f : FlashSt → FlashSt) : (s.modFlash f).objs = s.objs := (rfl)
@[simp] theorem State.modFlash_blobs (f : FlashSt → FlashSt) : (s.modFlash f).blobs = s.blobs := (rfl)
@[simp] theorem State.modFlash_mem (f : FlashSt → FlashSt) : (s.modFlash f).mem = s.mem := (rfl)
@[simp] theorem State.modFlash_time (f : FlashSt → FlashSt) : (s.modFlash f).time = s.time := (rfl)
@[simp] theorem State.modFlash_com (f : FlashSt → FlashSt) : (s.modFlash f).com = s.com := (rfl)
@[simp] theorem State.modFlash_cores (f : FlashSt → FlashSt) : (s.modFlash f).cores = s.cores := (rfl)
@[simp] theorem State.modFlash_slices (f : FlashSt → FlashSt) : (s.modFlash f).slices = s.slices := (rfl)
@[simp] theorem State.modFlash_air (f : FlashSt → FlashSt) : (s.modFlash f).air = s.air := (rfl)
@[simp] theorem State.modFlash_jobs (f : FlashSt → FlashSt) : (s.modFlash f).jobs = s.jobs := (rfl)
@[simp] theorem State.modFlash_mac (f : FlashSt → FlashSt) : (s.modFlash f).mac = s.mac := (rfl)
@[simp] theorem State.modFlash_steps (f : FlashSt → FlashSt) : (s.modFlash f).steps = s.steps := (rfl)
@[simp] theorem State.modFlash_fab (f : FlashSt → FlashSt) : (s.modFlash f).fab = s.fab := (rfl)
@[simp] theorem State.modFlash_svc (f : FlashSt → FlashSt) : (s.modFlash f).svc = s.svc := (rfl)
@[simp] theorem State.modFlash_shell (f : FlashSt → FlashSt) : (s.modFlash f).shell = s.shell := (rfl)
@[simp] theorem State.modFlash_dram (f : FlashSt → FlashSt) : (s.modFlash f).dram = s.dram := (rfl)
@[simp] theorem State.modFlash_power (f : FlashSt → FlashSt) : (s.modFlash f).power = s.power := (rfl)
@[simp] theorem State.modFlash_boot (f : FlashSt → FlashSt) : (s.modFlash f).boot = s.boot := (rfl)
@[simp] theorem State.modFlash_pending (f : FlashSt → FlashSt) : (s.modFlash f).pending = s.pending := (rfl)
@[simp] theorem State.modFlash_o (f : FlashSt → FlashSt) (j : Key) : (s.modFlash f).o j = s.o j := (rfl)
@[simp] theorem State.modFlash_blob (f : FlashSt → FlashSt) (j : Key) : (s.modFlash f).blob j = s.blob j := (rfl)
@[simp] theorem State.modFlash_rb (f : FlashSt → FlashSt) (j : Nat) : (s.modFlash f).rb j = s.rb j := (rfl)

/-! ## modPower -/

@[simp] theorem State.modPower_now (f : PowerSt → PowerSt) : (s.modPower f).now = s.now := (rfl)
@[simp] theorem State.modPower_draws (f : PowerSt → PowerSt) : (s.modPower f).draws = s.draws := (rfl)
@[simp] theorem State.modPower_rdata (f : PowerSt → PowerSt) : (s.modPower f).rdata = s.rdata := (rfl)
@[simp] theorem State.modPower_rbytes (f : PowerSt → PowerSt) : (s.modPower f).rbytes = s.rbytes := (rfl)
@[simp] theorem State.modPower_objs (f : PowerSt → PowerSt) : (s.modPower f).objs = s.objs := (rfl)
@[simp] theorem State.modPower_blobs (f : PowerSt → PowerSt) : (s.modPower f).blobs = s.blobs := (rfl)
@[simp] theorem State.modPower_mem (f : PowerSt → PowerSt) : (s.modPower f).mem = s.mem := (rfl)
@[simp] theorem State.modPower_time (f : PowerSt → PowerSt) : (s.modPower f).time = s.time := (rfl)
@[simp] theorem State.modPower_com (f : PowerSt → PowerSt) : (s.modPower f).com = s.com := (rfl)
@[simp] theorem State.modPower_cores (f : PowerSt → PowerSt) : (s.modPower f).cores = s.cores := (rfl)
@[simp] theorem State.modPower_slices (f : PowerSt → PowerSt) : (s.modPower f).slices = s.slices := (rfl)
@[simp] theorem State.modPower_air (f : PowerSt → PowerSt) : (s.modPower f).air = s.air := (rfl)
@[simp] theorem State.modPower_jobs (f : PowerSt → PowerSt) : (s.modPower f).jobs = s.jobs := (rfl)
@[simp] theorem State.modPower_mac (f : PowerSt → PowerSt) : (s.modPower f).mac = s.mac := (rfl)
@[simp] theorem State.modPower_steps (f : PowerSt → PowerSt) : (s.modPower f).steps = s.steps := (rfl)
@[simp] theorem State.modPower_fab (f : PowerSt → PowerSt) : (s.modPower f).fab = s.fab := (rfl)
@[simp] theorem State.modPower_svc (f : PowerSt → PowerSt) : (s.modPower f).svc = s.svc := (rfl)
@[simp] theorem State.modPower_shell (f : PowerSt → PowerSt) : (s.modPower f).shell = s.shell := (rfl)
@[simp] theorem State.modPower_dram (f : PowerSt → PowerSt) : (s.modPower f).dram = s.dram := (rfl)
@[simp] theorem State.modPower_flash (f : PowerSt → PowerSt) : (s.modPower f).flash = s.flash := (rfl)
@[simp] theorem State.modPower_boot (f : PowerSt → PowerSt) : (s.modPower f).boot = s.boot := (rfl)
@[simp] theorem State.modPower_pending (f : PowerSt → PowerSt) : (s.modPower f).pending = s.pending := (rfl)
@[simp] theorem State.modPower_o (f : PowerSt → PowerSt) (j : Key) : (s.modPower f).o j = s.o j := (rfl)
@[simp] theorem State.modPower_blob (f : PowerSt → PowerSt) (j : Key) : (s.modPower f).blob j = s.blob j := (rfl)
@[simp] theorem State.modPower_rb (f : PowerSt → PowerSt) (j : Nat) : (s.modPower f).rb j = s.rb j := (rfl)

/-! ## modBoot -/

@[simp] theorem State.modBoot_now (f : BootSt → BootSt) : (s.modBoot f).now = s.now := (rfl)
@[simp] theorem State.modBoot_draws (f : BootSt → BootSt) : (s.modBoot f).draws = s.draws := (rfl)
@[simp] theorem State.modBoot_rdata (f : BootSt → BootSt) : (s.modBoot f).rdata = s.rdata := (rfl)
@[simp] theorem State.modBoot_rbytes (f : BootSt → BootSt) : (s.modBoot f).rbytes = s.rbytes := (rfl)
@[simp] theorem State.modBoot_objs (f : BootSt → BootSt) : (s.modBoot f).objs = s.objs := (rfl)
@[simp] theorem State.modBoot_blobs (f : BootSt → BootSt) : (s.modBoot f).blobs = s.blobs := (rfl)
@[simp] theorem State.modBoot_mem (f : BootSt → BootSt) : (s.modBoot f).mem = s.mem := (rfl)
@[simp] theorem State.modBoot_time (f : BootSt → BootSt) : (s.modBoot f).time = s.time := (rfl)
@[simp] theorem State.modBoot_com (f : BootSt → BootSt) : (s.modBoot f).com = s.com := (rfl)
@[simp] theorem State.modBoot_cores (f : BootSt → BootSt) : (s.modBoot f).cores = s.cores := (rfl)
@[simp] theorem State.modBoot_slices (f : BootSt → BootSt) : (s.modBoot f).slices = s.slices := (rfl)
@[simp] theorem State.modBoot_air (f : BootSt → BootSt) : (s.modBoot f).air = s.air := (rfl)
@[simp] theorem State.modBoot_jobs (f : BootSt → BootSt) : (s.modBoot f).jobs = s.jobs := (rfl)
@[simp] theorem State.modBoot_mac (f : BootSt → BootSt) : (s.modBoot f).mac = s.mac := (rfl)
@[simp] theorem State.modBoot_steps (f : BootSt → BootSt) : (s.modBoot f).steps = s.steps := (rfl)
@[simp] theorem State.modBoot_fab (f : BootSt → BootSt) : (s.modBoot f).fab = s.fab := (rfl)
@[simp] theorem State.modBoot_svc (f : BootSt → BootSt) : (s.modBoot f).svc = s.svc := (rfl)
@[simp] theorem State.modBoot_shell (f : BootSt → BootSt) : (s.modBoot f).shell = s.shell := (rfl)
@[simp] theorem State.modBoot_dram (f : BootSt → BootSt) : (s.modBoot f).dram = s.dram := (rfl)
@[simp] theorem State.modBoot_flash (f : BootSt → BootSt) : (s.modBoot f).flash = s.flash := (rfl)
@[simp] theorem State.modBoot_power (f : BootSt → BootSt) : (s.modBoot f).power = s.power := (rfl)
@[simp] theorem State.modBoot_pending (f : BootSt → BootSt) : (s.modBoot f).pending = s.pending := (rfl)
@[simp] theorem State.modBoot_o (f : BootSt → BootSt) (j : Key) : (s.modBoot f).o j = s.o j := (rfl)
@[simp] theorem State.modBoot_blob (f : BootSt → BootSt) (j : Key) : (s.modBoot f).blob j = s.blob j := (rfl)
@[simp] theorem State.modBoot_rb (f : BootSt → BootSt) (j : Nat) : (s.modBoot f).rb j = s.rb j := (rfl)

/-! ## wb -/

@[simp] theorem State.wb_now (a : Nat) (b : Byte) : (s.wb a b).now = s.now := (rfl)
@[simp] theorem State.wb_draws (a : Nat) (b : Byte) : (s.wb a b).draws = s.draws := (rfl)
@[simp] theorem State.wb_rdata (a : Nat) (b : Byte) : (s.wb a b).rdata = s.rdata := (rfl)
@[simp] theorem State.wb_rbytes (a : Nat) (b : Byte) : (s.wb a b).rbytes = s.rbytes := (rfl)
@[simp] theorem State.wb_objs (a : Nat) (b : Byte) : (s.wb a b).objs = s.objs := (rfl)
@[simp] theorem State.wb_blobs (a : Nat) (b : Byte) : (s.wb a b).blobs = s.blobs := (rfl)
@[simp] theorem State.wb_time (a : Nat) (b : Byte) : (s.wb a b).time = s.time := (rfl)
@[simp] theorem State.wb_com (a : Nat) (b : Byte) : (s.wb a b).com = s.com := (rfl)
@[simp] theorem State.wb_cores (a : Nat) (b : Byte) : (s.wb a b).cores = s.cores := (rfl)
@[simp] theorem State.wb_slices (a : Nat) (b : Byte) : (s.wb a b).slices = s.slices := (rfl)
@[simp] theorem State.wb_air (a : Nat) (b : Byte) : (s.wb a b).air = s.air := (rfl)
@[simp] theorem State.wb_jobs (a : Nat) (b : Byte) : (s.wb a b).jobs = s.jobs := (rfl)
@[simp] theorem State.wb_mac (a : Nat) (b : Byte) : (s.wb a b).mac = s.mac := (rfl)
@[simp] theorem State.wb_steps (a : Nat) (b : Byte) : (s.wb a b).steps = s.steps := (rfl)
@[simp] theorem State.wb_fab (a : Nat) (b : Byte) : (s.wb a b).fab = s.fab := (rfl)
@[simp] theorem State.wb_svc (a : Nat) (b : Byte) : (s.wb a b).svc = s.svc := (rfl)
@[simp] theorem State.wb_shell (a : Nat) (b : Byte) : (s.wb a b).shell = s.shell := (rfl)
@[simp] theorem State.wb_flash (a : Nat) (b : Byte) : (s.wb a b).flash = s.flash := (rfl)
@[simp] theorem State.wb_power (a : Nat) (b : Byte) : (s.wb a b).power = s.power := (rfl)
@[simp] theorem State.wb_boot (a : Nat) (b : Byte) : (s.wb a b).boot = s.boot := (rfl)
@[simp] theorem State.wb_pending (a : Nat) (b : Byte) : (s.wb a b).pending = s.pending := (rfl)
@[simp] theorem State.wb_o (a : Nat) (b : Byte) (j : Key) : (s.wb a b).o j = s.o j := (rfl)
@[simp] theorem State.wb_blob (a : Nat) (b : Byte) (j : Key) : (s.wb a b).blob j = s.blob j := (rfl)

/-! ## A field replaced -/

@[simp] theorem State.now_o (x : Instant) (k : Key) : ({ s with now := x } : State).o k = s.o k := (rfl)
@[simp] theorem State.now_blob (x : Instant) (k : Key) : ({ s with now := x } : State).blob k = s.blob k := (rfl)
@[simp] theorem State.now_rb (x : Instant) (k : Nat) : ({ s with now := x } : State).rb k = s.rb k := (rfl)
@[simp] theorem State.draws_o (x : Nat) (k : Key) : ({ s with draws := x } : State).o k = s.o k := (rfl)
@[simp] theorem State.draws_blob (x : Nat) (k : Key) : ({ s with draws := x } : State).blob k = s.blob k := (rfl)
@[simp] theorem State.draws_rb (x : Nat) (k : Nat) : ({ s with draws := x } : State).rb k = s.rb k := (rfl)
@[simp] theorem State.rdata_o (x : Nat) (k : Key) : ({ s with rdata := x } : State).o k = s.o k := (rfl)
@[simp] theorem State.rdata_blob (x : Nat) (k : Key) : ({ s with rdata := x } : State).blob k = s.blob k := (rfl)
@[simp] theorem State.rdata_rb (x : Nat) (k : Nat) : ({ s with rdata := x } : State).rb k = s.rb k := (rfl)
@[simp] theorem State.rbytes_o (x : Bytes) (k : Key) : ({ s with rbytes := x } : State).o k = s.o k := (rfl)
@[simp] theorem State.rbytes_blob (x : Bytes) (k : Key) : ({ s with rbytes := x } : State).blob k = s.blob k := (rfl)
@[simp] theorem State.rbytes_rb (x : Bytes) (k : Nat) : ({ s with rbytes := x } : State).rb k = s.rb k := (rfl)
@[simp] theorem State.time_o (x : TimeSt) (k : Key) : ({ s with time := x } : State).o k = s.o k := (rfl)
@[simp] theorem State.time_blob (x : TimeSt) (k : Key) : ({ s with time := x } : State).blob k = s.blob k := (rfl)
@[simp] theorem State.time_rb (x : TimeSt) (k : Nat) : ({ s with time := x } : State).rb k = s.rb k := (rfl)
@[simp] theorem State.com_o (x : ComSt) (k : Key) : ({ s with com := x } : State).o k = s.o k := (rfl)
@[simp] theorem State.com_blob (x : ComSt) (k : Key) : ({ s with com := x } : State).blob k = s.blob k := (rfl)
@[simp] theorem State.com_rb (x : ComSt) (k : Nat) : ({ s with com := x } : State).rb k = s.rb k := (rfl)
@[simp] theorem State.cores_o (x : Vector CoreSt 8) (k : Key) : ({ s with cores := x } : State).o k = s.o k := (rfl)
@[simp] theorem State.cores_blob (x : Vector CoreSt 8) (k : Key) : ({ s with cores := x } : State).blob k = s.blob k := (rfl)
@[simp] theorem State.cores_rb (x : Vector CoreSt 8) (k : Nat) : ({ s with cores := x } : State).rb k = s.rb k := (rfl)
@[simp] theorem State.slices_o (x : Vector SliceSt 4) (k : Key) : ({ s with slices := x } : State).o k = s.o k := (rfl)
@[simp] theorem State.slices_blob (x : Vector SliceSt 4) (k : Key) : ({ s with slices := x } : State).blob k = s.blob k := (rfl)
@[simp] theorem State.slices_rb (x : Vector SliceSt 4) (k : Nat) : ({ s with slices := x } : State).rb k = s.rb k := (rfl)
@[simp] theorem State.air_o (x : AirSt) (k : Key) : ({ s with air := x } : State).o k = s.o k := (rfl)
@[simp] theorem State.air_blob (x : AirSt) (k : Key) : ({ s with air := x } : State).blob k = s.blob k := (rfl)
@[simp] theorem State.air_rb (x : AirSt) (k : Nat) : ({ s with air := x } : State).rb k = s.rb k := (rfl)
@[simp] theorem State.jobs_o (x : JobsSt) (k : Key) : ({ s with jobs := x } : State).o k = s.o k := (rfl)
@[simp] theorem State.jobs_blob (x : JobsSt) (k : Key) : ({ s with jobs := x } : State).blob k = s.blob k := (rfl)
@[simp] theorem State.jobs_rb (x : JobsSt) (k : Nat) : ({ s with jobs := x } : State).rb k = s.rb k := (rfl)
@[simp] theorem State.mac_o (x : MacSt) (k : Key) : ({ s with mac := x } : State).o k = s.o k := (rfl)
@[simp] theorem State.mac_blob (x : MacSt) (k : Key) : ({ s with mac := x } : State).blob k = s.blob k := (rfl)
@[simp] theorem State.mac_rb (x : MacSt) (k : Nat) : ({ s with mac := x } : State).rb k = s.rb k := (rfl)
@[simp] theorem State.steps_o (x : StepsSt) (k : Key) : ({ s with steps := x } : State).o k = s.o k := (rfl)
@[simp] theorem State.steps_blob (x : StepsSt) (k : Key) : ({ s with steps := x } : State).blob k = s.blob k := (rfl)
@[simp] theorem State.steps_rb (x : StepsSt) (k : Nat) : ({ s with steps := x } : State).rb k = s.rb k := (rfl)
@[simp] theorem State.fab_o (x : FabSt) (k : Key) : ({ s with fab := x } : State).o k = s.o k := (rfl)
@[simp] theorem State.fab_blob (x : FabSt) (k : Key) : ({ s with fab := x } : State).blob k = s.blob k := (rfl)
@[simp] theorem State.fab_rb (x : FabSt) (k : Nat) : ({ s with fab := x } : State).rb k = s.rb k := (rfl)
@[simp] theorem State.svc_o (x : SvcSt) (k : Key) : ({ s with svc := x } : State).o k = s.o k := (rfl)
@[simp] theorem State.svc_blob (x : SvcSt) (k : Key) : ({ s with svc := x } : State).blob k = s.blob k := (rfl)
@[simp] theorem State.svc_rb (x : SvcSt) (k : Nat) : ({ s with svc := x } : State).rb k = s.rb k := (rfl)
@[simp] theorem State.shell_o (x : ShellSt) (k : Key) : ({ s with shell := x } : State).o k = s.o k := (rfl)
@[simp] theorem State.shell_blob (x : ShellSt) (k : Key) : ({ s with shell := x } : State).blob k = s.blob k := (rfl)
@[simp] theorem State.shell_rb (x : ShellSt) (k : Nat) : ({ s with shell := x } : State).rb k = s.rb k := (rfl)
@[simp] theorem State.dram_o (x : DramSt) (k : Key) : ({ s with dram := x } : State).o k = s.o k := (rfl)
@[simp] theorem State.dram_blob (x : DramSt) (k : Key) : ({ s with dram := x } : State).blob k = s.blob k := (rfl)
@[simp] theorem State.dram_rb (x : DramSt) (k : Nat) : ({ s with dram := x } : State).rb k = s.rb k := (rfl)
@[simp] theorem State.flash_o (x : FlashSt) (k : Key) : ({ s with flash := x } : State).o k = s.o k := (rfl)
@[simp] theorem State.flash_blob (x : FlashSt) (k : Key) : ({ s with flash := x } : State).blob k = s.blob k := (rfl)
@[simp] theorem State.flash_rb (x : FlashSt) (k : Nat) : ({ s with flash := x } : State).rb k = s.rb k := (rfl)
@[simp] theorem State.power_o (x : PowerSt) (k : Key) : ({ s with power := x } : State).o k = s.o k := (rfl)
@[simp] theorem State.power_blob (x : PowerSt) (k : Key) : ({ s with power := x } : State).blob k = s.blob k := (rfl)
@[simp] theorem State.power_rb (x : PowerSt) (k : Nat) : ({ s with power := x } : State).rb k = s.rb k := (rfl)
@[simp] theorem State.boot_o (x : BootSt) (k : Key) : ({ s with boot := x } : State).o k = s.o k := (rfl)
@[simp] theorem State.boot_blob (x : BootSt) (k : Key) : ({ s with boot := x } : State).blob k = s.blob k := (rfl)
@[simp] theorem State.boot_rb (x : BootSt) (k : Nat) : ({ s with boot := x } : State).rb k = s.rb k := (rfl)
@[simp] theorem State.pending_o (x : List Instr) (k : Key) : ({ s with pending := x } : State).o k = s.o k := (rfl)
@[simp] theorem State.pending_blob (x : List Instr) (k : Key) : ({ s with pending := x } : State).blob k = s.blob k := (rfl)
@[simp] theorem State.pending_rb (x : List Instr) (k : Nat) : ({ s with pending := x } : State).rb k = s.rb k := (rfl)

/-! ## Objects -/

/-- An object after a write of an object. -/
@[simp] theorem State.setO_o (k : Key) (v : Nat) (j : Key) : (s.setO k v).o j = if j = k then v else s.o j :=
  Sparse.get_set _ _ _ _

/-- A STR or DOM object after a write of one. -/
@[simp] theorem State.setBlob_blob (k : Key) (b : Bytes) (j : Key) :
    (s.setBlob k b).blob j = if j = k then b else s.blob j := Sparse.get_set _ _ _ _

/-- A counter after it counts. -/
@[simp] theorem State.inc_o (k j : Key) : (s.inc k).o j = if j = k then (s.o k + 1) % 2 ^ 32 else s.o j := by
  simp [State.inc, State.addO]

@[simp] theorem State.addO_o (w : Nat) (k : Key) (d : Nat) (j : Key) :
    (s.addO w k d).o j = if j = k then (s.o k + d) % 2 ^ w else s.o j := by simp [State.addO]

@[simp] theorem State.setI_o (w : Nat) (k : Key) (v : Int) (j : Key) :
    (s.setI w k v).o j = if j = k then ofI w v else s.o j := by simp [State.setI]

/-! ## Memory -/

/-- A byte after a write of one. -/
@[simp] theorem State.wb_rb (a : Nat) (b : Byte) (j : Nat) : (s.wb a b).rb j = if j = a then b else s.rb j :=
  Sparse.get_set _ _ _ _

/-- The instant after a jump ahead. -/
@[simp] theorem State.upTo_now (t : Instant) : (s.upTo t).now = max s.now t := (rfl)

@[simp] theorem State.modCore_cores (c : Fin 8) (f : CoreSt → CoreSt) : (s.modCore c f).cores = vmod s.cores c f := (rfl)
@[simp] theorem State.modSlice_slices (n : Fin 4) (f : SliceSt → SliceSt) : (s.modSlice n f).slices = vmod s.slices n f := (rfl)
@[simp] theorem State.modJobs_jobs (f : JobsSt → JobsSt) : (s.modJobs f).jobs = f s.jobs := (rfl)
@[simp] theorem State.modAir_air (f : AirSt → AirSt) : (s.modAir f).air = f s.air := (rfl)
@[simp] theorem State.modSteps_steps (f : StepsSt → StepsSt) : (s.modSteps f).steps = f s.steps := (rfl)
@[simp] theorem State.modFab_fab (f : FabSt → FabSt) : (s.modFab f).fab = f s.fab := (rfl)
@[simp] theorem State.modSvc_svc (f : SvcSt → SvcSt) : (s.modSvc f).svc = f s.svc := (rfl)
@[simp] theorem State.modShell_shell (f : ShellSt → ShellSt) : (s.modShell f).shell = f s.shell := (rfl)
@[simp] theorem State.modDram_dram (f : DramSt → DramSt) : (s.modDram f).dram = f s.dram := (rfl)
@[simp] theorem State.modFlash_flash (f : FlashSt → FlashSt) : (s.modFlash f).flash = f s.flash := (rfl)
@[simp] theorem State.modPower_power (f : PowerSt → PowerSt) : (s.modPower f).power = f s.power := (rfl)
@[simp] theorem State.modBoot_boot (f : BootSt → BootSt) : (s.modBoot f).boot = f s.boot := (rfl)
@[simp] theorem State.modCom_com (f : ComSt → ComSt) : (s.modCom f).com = f s.com := (rfl)
@[simp] theorem State.modTc_time (n : Fin 16) (f : TcSt → TcSt) :
    (s.modTc n f).time = { s.time with tcs := vmod s.time.tcs n f } := (rfl)
@[simp] theorem State.modPanel_time (k : Fin 4) (f : PanelSt → PanelSt) :
    (s.modPanel k f).time = { s.time with panels := vmod s.time.panels k f } := (rfl)
@[simp] theorem State.modSess_com (x : Fin 8) (f : SessSt → SessSt) :
    (s.modSess x f).com = { s.com with sessions := vmod s.com.sessions x f } := (rfl)

end Sys2Proof.Machine
end

