-- ==== Sys2Proof/Laws/Ops.lean ====
section
/-!
SUPPORT. What the shared operations of Ops.lean can do: events touch only the cores' queues, the sessions, the fault log and
the objects that count them (R418, R519, R523-R526); misses only the objects of R37 and R38; a dropped write only those of R527.
-/
namespace Sys2Proof.Machine

/-! ## Events change only cores, sessions, the log and objects -/

/-- t is s but for its objects, cores and communication block. -/
def Noted (s t : State) : Prop := ∃ os cs cm, t = { s with objs := os, cores := cs, com := cm }

theorem Noted.refl (s : State) : Noted s s := ⟨s.objs, s.cores, s.com, rfl⟩
theorem Noted.trans {s t u : State} (h : Noted s t) (g : Noted t u) : Noted s u := by
  obtain ⟨a, b, c, rfl⟩ := h
  obtain ⟨d, e, f, rfl⟩ := g
  exact ⟨d, e, f, rfl⟩
theorem Noted.setO {s t : State} (h : Noted s t) (k : Key) (v : Nat) : Noted s (t.setO k v) :=
  h.trans ⟨_, t.cores, t.com, rfl⟩
theorem Noted.inc {s t : State} (h : Noted s t) (k : Key) : Noted s (t.inc k) := h.setO _ _
theorem Noted.com {s t : State} (h : Noted s t) (x : ComSt) : Noted s { t with com := x } := h.trans ⟨t.objs, t.cores, x, rfl⟩
theorem Noted.cores {s t : State} (h : Noted s t) (x : Vector CoreSt 8) : Noted s { t with cores := x } :=
  h.trans ⟨t.objs, x, t.com, rfl⟩

/-- A fold of such steps. -/
theorem Noted.foldl {α : Type} (f : State → α → State) (h : ∀ s x, Noted s (f s x)) (l : List α) (s : State) :
    Noted s (l.foldl f s) := by
  induction l generalizing s with
  | nil => exact Noted.refl s
  | cons a r ih => exact (h s a).trans (ih (f s a))

variable (s : State)

theorem toCore_noted (c : Fin 8) (e : CoreEvent) : Noted s (s.toCore c e) := by
  unfold State.toCore
  dsimp only
  split
  · exact (((Noted.refl s).cores _).inc _).inc _
  · exact (Noted.refl s).cores _

theorem toSession_noted (x : Fin 8) (m : SopMsg) : Noted s (s.toSession x m) := by
  unfold State.toSession
  dsimp only
  split
  · exact (Noted.refl s).com _
  · exact (((Noted.refl s).com _).inc _).inc _

theorem toSessions_noted (e : Event) : Noted s (s.toSessions e) := by
  refine Noted.foldl _ (fun s x => ?_) _ _
  dsimp only
  split
  · split
    · exact ((toSession_noted s _ _).inc _).com _
    · exact toSession_noted s _ _
  · exact Noted.refl s

theorem logEvent_noted (e : Event) : Noted s (s.logEvent e) := by
  unfold State.logEvent
  dsimp only
  split
  · exact (Noted.refl s).inc _
  · split
    · exact (((((Noted.refl s).com _).setO _ _).setO _ _).setO _ _).inc _
    · exact ((((Noted.refl s).com _).setO _ _).setO _ _).setO _ _

theorem raiseE_noted (e : Event) : Noted s (s.raiseE e) := by
  unfold State.raiseE
  dsimp only
  have h : ∀ (u : State) (r x : Nat) (e : CoreEvent), Noted u (fin8.foldl
      (fun (s : State) (c : Fin 8) => if routeCore r x c then s.toCore c e else s) u) := by
    intro u r x e
    refine Noted.foldl _ (fun s c => ?_) _ _
    split
    · exact toCore_noted s _ _
    · exact Noted.refl s
  have h1 := ((Noted.refl s).inc Obj.EVT_RAISED).trans (h _ (s.o (Obj.EVT_ROUTE e.code)) e.src
    ⟨e.code, e.src % 65536, e.arg % 2 ^ 32⟩)
  split <;> split
  · exact (h1.trans (toSessions_noted _ _)).trans (logEvent_noted _ _)
  · exact h1.trans (logEvent_noted _ _)
  · exact h1.trans (toSessions_noted _ _)
  · exact h1

theorem raise_noted (code src arg : Nat) : Noted s (s.raise code src arg) := raiseE_noted s _

theorem raiseFw_noted (code src arg : Nat) (b : Bytes) : Noted s (s.raiseFw code src arg b) :=
  ((Noted.refl s).inc _).trans (toSessions_noted _ _)

theorem dropRecord_noted (a v w c : Nat) : Noted s (s.dropRecord a v w c) := by
  have f : Noted s (if s.o Obj.EVT_DROP_COUNT = 0 then s.setO Obj.EVT_DROP_FIRST a else s) := by
    split
    · exact (Noted.refl s).setO _ _
    · exact Noted.refl s
  exact (((((f.inc _).setO _ _).setO _ _).setO _ _).setO _ _).setO _ _

theorem dropped_noted (a v w c : Nat) : Noted s (s.dropped a v w c) := by
  have h := dropRecord_noted s a v w c
  unfold State.dropped
  generalize s.dropRecord a v w c = t at h
  dsimp only
  split
  · exact h
  · exact (h.com _).trans (raise_noted _ _ _ _)

/-! ## The fields that they leave alone -/

theorem Noted.now {s t : State} (h : Noted s t) : t.now = s.now := by obtain ⟨a, b, c, rfl⟩ := h; rfl
theorem Noted.draws {s t : State} (h : Noted s t) : t.draws = s.draws := by obtain ⟨a, b, c, rfl⟩ := h; rfl
theorem Noted.rdata {s t : State} (h : Noted s t) : t.rdata = s.rdata := by obtain ⟨a, b, c, rfl⟩ := h; rfl
theorem Noted.rbytes {s t : State} (h : Noted s t) : t.rbytes = s.rbytes := by obtain ⟨a, b, c, rfl⟩ := h; rfl
theorem Noted.blobs {s t : State} (h : Noted s t) : t.blobs = s.blobs := by obtain ⟨a, b, c, rfl⟩ := h; rfl
theorem Noted.mem {s t : State} (h : Noted s t) : t.mem = s.mem := by obtain ⟨a, b, c, rfl⟩ := h; rfl
theorem Noted.time {s t : State} (h : Noted s t) : t.time = s.time := by obtain ⟨a, b, c, rfl⟩ := h; rfl
theorem Noted.slices {s t : State} (h : Noted s t) : t.slices = s.slices := by obtain ⟨a, b, c, rfl⟩ := h; rfl
theorem Noted.air {s t : State} (h : Noted s t) : t.air = s.air := by obtain ⟨a, b, c, rfl⟩ := h; rfl
theorem Noted.jobs {s t : State} (h : Noted s t) : t.jobs = s.jobs := by obtain ⟨a, b, c, rfl⟩ := h; rfl
theorem Noted.mac {s t : State} (h : Noted s t) : t.mac = s.mac := by obtain ⟨a, b, c, rfl⟩ := h; rfl
theorem Noted.steps {s t : State} (h : Noted s t) : t.steps = s.steps := by obtain ⟨a, b, c, rfl⟩ := h; rfl
theorem Noted.fab {s t : State} (h : Noted s t) : t.fab = s.fab := by obtain ⟨a, b, c, rfl⟩ := h; rfl
theorem Noted.svc {s t : State} (h : Noted s t) : t.svc = s.svc := by obtain ⟨a, b, c, rfl⟩ := h; rfl
theorem Noted.shell {s t : State} (h : Noted s t) : t.shell = s.shell := by obtain ⟨a, b, c, rfl⟩ := h; rfl
theorem Noted.dram {s t : State} (h : Noted s t) : t.dram = s.dram := by obtain ⟨a, b, c, rfl⟩ := h; rfl
theorem Noted.flash {s t : State} (h : Noted s t) : t.flash = s.flash := by obtain ⟨a, b, c, rfl⟩ := h; rfl
theorem Noted.power {s t : State} (h : Noted s t) : t.power = s.power := by obtain ⟨a, b, c, rfl⟩ := h; rfl
theorem Noted.boot {s t : State} (h : Noted s t) : t.boot = s.boot := by obtain ⟨a, b, c, rfl⟩ := h; rfl
theorem Noted.pending {s t : State} (h : Noted s t) : t.pending = s.pending := by obtain ⟨a, b, c, rfl⟩ := h; rfl

@[simp] theorem State.toCore_now (c : Fin 8) (e : CoreEvent) : (s.toCore c e).now = s.now := (toCore_noted s c e).now
@[simp] theorem State.toCore_draws (c : Fin 8) (e : CoreEvent) : (s.toCore c e).draws = s.draws := (toCore_noted s c e).draws
@[simp] theorem State.toCore_rdata (c : Fin 8) (e : CoreEvent) : (s.toCore c e).rdata = s.rdata := (toCore_noted s c e).rdata
@[simp] theorem State.toCore_rbytes (c : Fin 8) (e : CoreEvent) : (s.toCore c e).rbytes = s.rbytes := (toCore_noted s c e).rbytes
@[simp] theorem State.toCore_blobs (c : Fin 8) (e : CoreEvent) : (s.toCore c e).blobs = s.blobs := (toCore_noted s c e).blobs
@[simp] theorem State.toCore_mem (c : Fin 8) (e : CoreEvent) : (s.toCore c e).mem = s.mem := (toCore_noted s c e).mem
@[simp] theorem State.toCore_time (c : Fin 8) (e : CoreEvent) : (s.toCore c e).time = s.time := (toCore_noted s c e).time
@[simp] theorem State.toCore_slices (c : Fin 8) (e : CoreEvent) : (s.toCore c e).slices = s.slices := (toCore_noted s c e).slices
@[simp] theorem State.toCore_air (c : Fin 8) (e : CoreEvent) : (s.toCore c e).air = s.air := (toCore_noted s c e).air
@[simp] theorem State.toCore_jobs (c : Fin 8) (e : CoreEvent) : (s.toCore c e).jobs = s.jobs := (toCore_noted s c e).jobs
@[simp] theorem State.toCore_mac (c : Fin 8) (e : CoreEvent) : (s.toCore c e).mac = s.mac := (toCore_noted s c e).mac
@[simp] theorem State.toCore_steps (c : Fin 8) (e : CoreEvent) : (s.toCore c e).steps = s.steps := (toCore_noted s c e).steps
@[simp] theorem State.toCore_fab (c : Fin 8) (e : CoreEvent) : (s.toCore c e).fab = s.fab := (toCore_noted s c e).fab
@[simp] theorem State.toCore_svc (c : Fin 8) (e : CoreEvent) : (s.toCore c e).svc = s.svc := (toCore_noted s c e).svc
@[simp] theorem State.toCore_shell (c : Fin 8) (e : CoreEvent) : (s.toCore c e).shell = s.shell := (toCore_noted s c e).shell
@[simp] theorem State.toCore_dram (c : Fin 8) (e : CoreEvent) : (s.toCore c e).dram = s.dram := (toCore_noted s c e).dram
@[simp] theorem State.toCore_flash (c : Fin 8) (e : CoreEvent) : (s.toCore c e).flash = s.flash := (toCore_noted s c e).flash
@[simp] theorem State.toCore_power (c : Fin 8) (e : CoreEvent) : (s.toCore c e).power = s.power := (toCore_noted s c e).power
@[simp] theorem State.toCore_boot (c : Fin 8) (e : CoreEvent) : (s.toCore c e).boot = s.boot := (toCore_noted s c e).boot
@[simp] theorem State.toCore_pending (c : Fin 8) (e : CoreEvent) : (s.toCore c e).pending = s.pending := (toCore_noted s c e).pending
@[simp] theorem State.toCore_blob (c : Fin 8) (e : CoreEvent) (k : Key) : (s.toCore c e).blob k = s.blob k := by simp only [State.blob, State.toCore_blobs]
@[simp] theorem State.toCore_rb (c : Fin 8) (e : CoreEvent) (k : Nat) : (s.toCore c e).rb k = s.rb k := by simp only [State.rb, State.toCore_mem]

@[simp] theorem State.raise_now (code src arg : Nat) : (s.raise code src arg).now = s.now := (raise_noted s code src arg).now
@[simp] theorem State.raise_draws (code src arg : Nat) : (s.raise code src arg).draws = s.draws := (raise_noted s code src arg).draws
@[simp] theorem State.raise_rdata (code src arg : Nat) : (s.raise code src arg).rdata = s.rdata := (raise_noted s code src arg).rdata
@[simp] theorem State.raise_rbytes (code src arg : Nat) : (s.raise code src arg).rbytes = s.rbytes := (raise_noted s code src arg).rbytes
@[simp] theorem State.raise_blobs (code src arg : Nat) : (s.raise code src arg).blobs = s.blobs := (raise_noted s code src arg).blobs
@[simp] theorem State.raise_mem (code src arg : Nat) : (s.raise code src arg).mem = s.mem := (raise_noted s code src arg).mem
@[simp] theorem State.raise_time (code src arg : Nat) : (s.raise code src arg).time = s.time := (raise_noted s code src arg).time
@[simp] theorem State.raise_slices (code src arg : Nat) : (s.raise code src arg).slices = s.slices := (raise_noted s code src arg).slices
@[simp] theorem State.raise_air (code src arg : Nat) : (s.raise code src arg).air = s.air := (raise_noted s code src arg).air
@[simp] theorem State.raise_jobs (code src arg : Nat) : (s.raise code src arg).jobs = s.jobs := (raise_noted s code src arg).jobs
@[simp] theorem State.raise_mac (code src arg : Nat) : (s.raise code src arg).mac = s.mac := (raise_noted s code src arg).mac
@[simp] theorem State.raise_steps (code src arg : Nat) : (s.raise code src arg).steps = s.steps := (raise_noted s code src arg).steps
@[simp] theorem State.raise_fab (code src arg : Nat) : (s.raise code src arg).fab = s.fab := (raise_noted s code src arg).fab
@[simp] theorem State.raise_svc (code src arg : Nat) : (s.raise code src arg).svc = s.svc := (raise_noted s code src arg).svc
@[simp] theorem State.raise_shell (code src arg : Nat) : (s.raise code src arg).shell = s.shell := (raise_noted s code src arg).shell
@[simp] theorem State.raise_dram (code src arg : Nat) : (s.raise code src arg).dram = s.dram := (raise_noted s code src arg).dram
@[simp] theorem State.raise_flash (code src arg : Nat) : (s.raise code src arg).flash = s.flash := (raise_noted s code src arg).flash
@[simp] theorem State.raise_power (code src arg : Nat) : (s.raise code src arg).power = s.power := (raise_noted s code src arg).power
@[simp] theorem State.raise_boot (code src arg : Nat) : (s.raise code src arg).boot = s.boot := (raise_noted s code src arg).boot
@[simp] theorem State.raise_pending (code src arg : Nat) : (s.raise code src arg).pending = s.pending := (raise_noted s code src arg).pending
@[simp] theorem State.raise_blob (code src arg : Nat) (k : Key) : (s.raise code src arg).blob k = s.blob k := by simp only [State.blob, State.raise_blobs]
@[simp] theorem State.raise_rb (code src arg : Nat) (k : Nat) : (s.raise code src arg).rb k = s.rb k := by simp only [State.rb, State.raise_mem]

@[simp] theorem State.raiseFw_now (code src arg : Nat) (b : Bytes) : (s.raiseFw code src arg b).now = s.now := (raiseFw_noted s code src arg b).now
@[simp] theorem State.raiseFw_draws (code src arg : Nat) (b : Bytes) : (s.raiseFw code src arg b).draws = s.draws := (raiseFw_noted s code src arg b).draws
@[simp] theorem State.raiseFw_rdata (code src arg : Nat) (b : Bytes) : (s.raiseFw code src arg b).rdata = s.rdata := (raiseFw_noted s code src arg b).rdata
@[simp] theorem State.raiseFw_rbytes (code src arg : Nat) (b : Bytes) : (s.raiseFw code src arg b).rbytes = s.rbytes := (raiseFw_noted s code src arg b).rbytes
@[simp] theorem State.raiseFw_blobs (code src arg : Nat) (b : Bytes) : (s.raiseFw code src arg b).blobs = s.blobs := (raiseFw_noted s code src arg b).blobs
@[simp] theorem State.raiseFw_mem (code src arg : Nat) (b : Bytes) : (s.raiseFw code src arg b).mem = s.mem := (raiseFw_noted s code src arg b).mem
@[simp] theorem State.raiseFw_time (code src arg : Nat) (b : Bytes) : (s.raiseFw code src arg b).time = s.time := (raiseFw_noted s code src arg b).time
@[simp] theorem State.raiseFw_slices (code src arg : Nat) (b : Bytes) : (s.raiseFw code src arg b).slices = s.slices := (raiseFw_noted s code src arg b).slices
@[simp] theorem State.raiseFw_air (code src arg : Nat) (b : Bytes) : (s.raiseFw code src arg b).air = s.air := (raiseFw_noted s code src arg b).air
@[simp] theorem State.raiseFw_jobs (code src arg : Nat) (b : Bytes) : (s.raiseFw code src arg b).jobs = s.jobs := (raiseFw_noted s code src arg b).jobs
@[simp] theorem State.raiseFw_mac (code src arg : Nat) (b : Bytes) : (s.raiseFw code src arg b).mac = s.mac := (raiseFw_noted s code src arg b).mac
@[simp] theorem State.raiseFw_steps (code src arg : Nat) (b : Bytes) : (s.raiseFw code src arg b).steps = s.steps := (raiseFw_noted s code src arg b).steps
@[simp] theorem State.raiseFw_fab (code src arg : Nat) (b : Bytes) : (s.raiseFw code src arg b).fab = s.fab := (raiseFw_noted s code src arg b).fab
@[simp] theorem State.raiseFw_svc (code src arg : Nat) (b : Bytes) : (s.raiseFw code src arg b).svc = s.svc := (raiseFw_noted s code src arg b).svc
@[simp] theorem State.raiseFw_shell (code src arg : Nat) (b : Bytes) : (s.raiseFw code src arg b).shell = s.shell := (raiseFw_noted s code src arg b).shell
@[simp] theorem State.raiseFw_dram (code src arg : Nat) (b : Bytes) : (s.raiseFw code src arg b).dram = s.dram := (raiseFw_noted s code src arg b).dram
@[simp] theorem State.raiseFw_flash (code src arg : Nat) (b : Bytes) : (s.raiseFw code src arg b).flash = s.flash := (raiseFw_noted s code src arg b).flash
@[simp] theorem State.raiseFw_power (code src arg : Nat) (b : Bytes) : (s.raiseFw code src arg b).power = s.power := (raiseFw_noted s code src arg b).power
@[simp] theorem State.raiseFw_boot (code src arg : Nat) (b : Bytes) : (s.raiseFw code src arg b).boot = s.boot := (raiseFw_noted s code src arg b).boot
@[simp] theorem State.raiseFw_pending (code src arg : Nat) (b : Bytes) : (s.raiseFw code src arg b).pending = s.pending := (raiseFw_noted s code src arg b).pending
@[simp] theorem State.raiseFw_blob (code src arg : Nat) (b : Bytes) (k : Key) : (s.raiseFw code src arg b).blob k = s.blob k := by simp only [State.blob, State.raiseFw_blobs]
@[simp] theorem State.raiseFw_rb (code src arg : Nat) (b : Bytes) (k : Nat) : (s.raiseFw code src arg b).rb k = s.rb k := by simp only [State.rb, State.raiseFw_mem]

@[simp] theorem State.dropped_now (a v w c : Nat) : (s.dropped a v w c).now = s.now := (dropped_noted s a v w c).now
@[simp] theorem State.dropped_draws (a v w c : Nat) : (s.dropped a v w c).draws = s.draws := (dropped_noted s a v w c).draws
@[simp] theorem State.dropped_rdata (a v w c : Nat) : (s.dropped a v w c).rdata = s.rdata := (dropped_noted s a v w c).rdata
@[simp] theorem State.dropped_rbytes (a v w c : Nat) : (s.dropped a v w c).rbytes = s.rbytes := (dropped_noted s a v w c).rbytes
@[simp] theorem State.dropped_blobs (a v w c : Nat) : (s.dropped a v w c).blobs = s.blobs := (dropped_noted s a v w c).blobs
@[simp] theorem State.dropped_mem (a v w c : Nat) : (s.dropped a v w c).mem = s.mem := (dropped_noted s a v w c).mem
@[simp] theorem State.dropped_time (a v w c : Nat) : (s.dropped a v w c).time = s.time := (dropped_noted s a v w c).time
@[simp] theorem State.dropped_slices (a v w c : Nat) : (s.dropped a v w c).slices = s.slices := (dropped_noted s a v w c).slices
@[simp] theorem State.dropped_air (a v w c : Nat) : (s.dropped a v w c).air = s.air := (dropped_noted s a v w c).air
@[simp] theorem State.dropped_jobs (a v w c : Nat) : (s.dropped a v w c).jobs = s.jobs := (dropped_noted s a v w c).jobs
@[simp] theorem State.dropped_mac (a v w c : Nat) : (s.dropped a v w c).mac = s.mac := (dropped_noted s a v w c).mac
@[simp] theorem State.dropped_steps (a v w c : Nat) : (s.dropped a v w c).steps = s.steps := (dropped_noted s a v w c).steps
@[simp] theorem State.dropped_fab (a v w c : Nat) : (s.dropped a v w c).fab = s.fab := (dropped_noted s a v w c).fab
@[simp] theorem State.dropped_svc (a v w c : Nat) : (s.dropped a v w c).svc = s.svc := (dropped_noted s a v w c).svc
@[simp] theorem State.dropped_shell (a v w c : Nat) : (s.dropped a v w c).shell = s.shell := (dropped_noted s a v w c).shell
@[simp] theorem State.dropped_dram (a v w c : Nat) : (s.dropped a v w c).dram = s.dram := (dropped_noted s a v w c).dram
@[simp] theorem State.dropped_flash (a v w c : Nat) : (s.dropped a v w c).flash = s.flash := (dropped_noted s a v w c).flash
@[simp] theorem State.dropped_power (a v w c : Nat) : (s.dropped a v w c).power = s.power := (dropped_noted s a v w c).power
@[simp] theorem State.dropped_boot (a v w c : Nat) : (s.dropped a v w c).boot = s.boot := (dropped_noted s a v w c).boot
@[simp] theorem State.dropped_pending (a v w c : Nat) : (s.dropped a v w c).pending = s.pending := (dropped_noted s a v w c).pending
@[simp] theorem State.dropped_blob (a v w c : Nat) (k : Key) : (s.dropped a v w c).blob k = s.blob k := by simp only [State.blob, State.dropped_blobs]
@[simp] theorem State.dropped_rb (a v w c : Nat) (k : Nat) : (s.dropped a v w c).rb k = s.rb k := by simp only [State.rb, State.dropped_mem]

/-! ## The objects that they leave alone -/

/-- The objects that count events, their losses and the fault log. -/
def noteKey (k : Key) : Bool :=
  (k / 256 == 0x200) || (decide (0x140 ≤ k / 256) && decide (k / 256 ≤ 0x147) && k % 256 == 10) ||
  (decide (0x1C10 ≤ k / 256) && decide (k / 256 ≤ 0x1C17) && k % 256 == 9)

theorem ne_of_noteKey {k j : Key} (h : noteKey k = false) (hj : noteKey j = true) : k ≠ j := by
  rintro rfl; simp [h] at hj

theorem noteKey_core (c : Fin 8) : noteKey (Obj.COR_c_EVLOST c) = true := by revert c; decide
theorem noteKey_sess (x : Fin 8) : noteKey (Obj.COM_Ss_EVLOST x) = true := by revert x; decide

/-- A fold keeps what each of its steps keeps. -/
theorem foldl_keeps {α β σ : Type} (p : σ → β) (f : σ → α → σ) (h : ∀ s x, p (f s x) = p s) (l : List α) (s : σ) :
    p (l.foldl f s) = p s := by
  induction l generalizing s with
  | nil => rfl
  | cons a r ih => exact (ih (f s a)).trans (h s a)


section
variable {k : Key} (h : noteKey k = false)
include h

theorem State.toCore_o (c : Fin 8) (e : CoreEvent) : (s.toCore c e).o k = s.o k := by
  have h1 := ne_of_noteKey h (noteKey_core c)
  have h2 : k ≠ Obj.EVT_CORE_LOST := ne_of_noteKey h rfl
  unfold State.toCore
  dsimp only
  split
  · rw [State.inc_o, if_neg h2, State.inc_o, if_neg h1]; rfl
  · rfl

theorem State.toSession_o (x : Fin 8) (m : SopMsg) : (s.toSession x m).o k = s.o k := by
  have h1 := ne_of_noteKey h (noteKey_sess x)
  have h2 : k ≠ Obj.EVT_SOP_LOST := ne_of_noteKey h rfl
  unfold State.toSession
  dsimp only
  split
  · rfl
  · rw [State.inc_o, if_neg h2, State.inc_o, if_neg h1]; rfl

theorem State.toSessions_o (e : Event) : (s.toSessions e).o k = s.o k := by
  have h2 : k ≠ Obj.EVT_SOP_SENT := ne_of_noteKey h rfl
  refine foldl_keeps (fun s : State => s.o k) _ (fun s x => ?_) _ _
  dsimp only
  split
  · split
    · rw [State.com_o, State.inc_o, if_neg h2, State.toSession_o _ h]
    · exact State.toSession_o _ h _ _
  · rfl

theorem State.logEvent_o (e : Event) : (s.logEvent e).o k = s.o k := by
  have h1 : k ≠ Obj.EVT_LOG_LOST := ne_of_noteKey h rfl
  have h2 : k ≠ Obj.EVT_LOG_NEXT := ne_of_noteKey h rfl
  have h3 : k ≠ Obj.EVT_LOG_N := ne_of_noteKey h rfl
  have h4 : k ≠ Obj.EVT_LOG_LAST := ne_of_noteKey h rfl
  unfold State.logEvent
  dsimp only
  split
  · rw [State.inc_o, if_neg h1]
  · split
    · rw [State.inc_o, if_neg h1, State.setO_o, if_neg h4, State.setO_o, if_neg h3, State.setO_o, if_neg h2]; rfl
    · rw [State.setO_o, if_neg h4, State.setO_o, if_neg h3, State.setO_o, if_neg h2]; rfl

theorem State.raiseE_o (e : Event) : (s.raiseE e).o k = s.o k := by
  have h1 : k ≠ Obj.EVT_RAISED := ne_of_noteKey h rfl
  have hc : ∀ (u : State) (r x : Nat) (e : CoreEvent), (fin8.foldl
      (fun (s : State) (c : Fin 8) => if routeCore r x c then s.toCore c e else s) u).o k = u.o k := by
    intro u r x e
    refine foldl_keeps (fun s : State => s.o k) _ (fun s c => ?_) _ _
    split
    · exact State.toCore_o s h _ _
    · rfl
  unfold State.raiseE
  dsimp only
  split <;> split
  · rw [State.logEvent_o _ h, State.toSessions_o _ h, hc, State.inc_o, if_neg h1]
  · rw [State.logEvent_o _ h, hc, State.inc_o, if_neg h1]
  · rw [State.toSessions_o _ h, hc, State.inc_o, if_neg h1]
  · rw [hc, State.inc_o, if_neg h1]

theorem State.raise_o (code src arg : Nat) : (s.raise code src arg).o k = s.o k := State.raiseE_o s h _

theorem State.raiseFw_o (code src arg : Nat) (b : Bytes) : (s.raiseFw code src arg b).o k = s.o k := by
  have h1 : k ≠ Obj.EVT_RAISED := ne_of_noteKey h rfl
  unfold State.raiseFw
  rw [State.toSessions_o _ h, State.inc_o, if_neg h1]

end

/-! ## A core's queue (R418, R419) -/

@[simp] theorem CoreSt.sync_queue (x : CoreSt) (t : Instant) (r : Bool) : (x.sync t r).queue = x.queue := (rfl)
@[simp] theorem CoreSt.sync_mode (x : CoreSt) (t : Instant) (r : Bool) : (x.sync t r).mode = x.mode := (rfl)
@[simp] theorem CoreSt.sync_lostSince (x : CoreSt) (t : Instant) (r : Bool) : (x.sync t r).lostSince = x.lostSince := (rfl)

theorem CoreSt.take_room {x : CoreSt} (e : CoreEvent) (t : Instant) (r : Bool) (h : x.queue.length < 32) :
    x.take e t r = { x.enqueue e t with mode := if x.mode = .wait ∧ r then .run else x.mode } := if_pos h

/-- A SOFT event stands last. -/
theorem CoreSt.enqueue_soft {x : CoreSt} {e : CoreEvent} (t : Instant) (h : e.code = 2) :
    x.enqueue e t = { x with queue := x.queue ++ [e], lastN := 0 } := if_pos h

theorem CoreSt.take_full {x : CoreSt} (e : CoreEvent) (t : Instant) (r : Bool) (h : ¬ x.queue.length < 32) :
    x.take e t r = { x with lostSince := x.lostSince + 1 } := if_neg h

theorem State.toCore_cores (c : Fin 8) (e : CoreEvent) :
    (s.toCore c e).cores = vmod s.cores c (fun x => (x.sync s.now s.sysclk).take e s.now s.wakesCores) := by
  unfold State.toCore
  dsimp only
  split
  · rw [State.inc_cores, State.inc_cores]
  · rfl

/-- The core that an event reaches. -/
theorem State.toCore_core (c : Fin 8) (e : CoreEvent) :
    (s.toCore c e).cores[c] = (s.cores[c].sync s.now s.sysclk).take e s.now s.wakesCores := by
  simp only [State.toCore_cores, vmod_get, if_true]

/-! ## Misses -/

@[simp] theorem State.miss_now (cls src : Nat) (t : Instant) : (s.miss cls src t).now = s.now := by simp only [State.miss, State.setO_now]
@[simp] theorem State.miss_draws (cls src : Nat) (t : Instant) : (s.miss cls src t).draws = s.draws := by simp only [State.miss, State.setO_draws]
@[simp] theorem State.miss_rdata (cls src : Nat) (t : Instant) : (s.miss cls src t).rdata = s.rdata := by simp only [State.miss, State.setO_rdata]
@[simp] theorem State.miss_rbytes (cls src : Nat) (t : Instant) : (s.miss cls src t).rbytes = s.rbytes := by simp only [State.miss, State.setO_rbytes]
@[simp] theorem State.miss_mem (cls src : Nat) (t : Instant) : (s.miss cls src t).mem = s.mem := by simp only [State.miss, State.setO_mem]
@[simp] theorem State.miss_slices (cls src : Nat) (t : Instant) : (s.miss cls src t).slices = s.slices := by simp only [State.miss, State.setO_slices]
@[simp] theorem State.miss_air (cls src : Nat) (t : Instant) : (s.miss cls src t).air = s.air := by simp only [State.miss, State.setO_air]
@[simp] theorem State.miss_jobs (cls src : Nat) (t : Instant) : (s.miss cls src t).jobs = s.jobs := by simp only [State.miss, State.setO_jobs]
@[simp] theorem State.miss_mac (cls src : Nat) (t : Instant) : (s.miss cls src t).mac = s.mac := by simp only [State.miss, State.setO_mac]
@[simp] theorem State.miss_steps (cls src : Nat) (t : Instant) : (s.miss cls src t).steps = s.steps := by simp only [State.miss, State.setO_steps]
@[simp] theorem State.miss_fab (cls src : Nat) (t : Instant) : (s.miss cls src t).fab = s.fab := by simp only [State.miss, State.setO_fab]
@[simp] theorem State.miss_svc (cls src : Nat) (t : Instant) : (s.miss cls src t).svc = s.svc := by simp only [State.miss, State.setO_svc]
@[simp] theorem State.miss_shell (cls src : Nat) (t : Instant) : (s.miss cls src t).shell = s.shell := by simp only [State.miss, State.setO_shell]
@[simp] theorem State.miss_dram (cls src : Nat) (t : Instant) : (s.miss cls src t).dram = s.dram := by simp only [State.miss, State.setO_dram]
@[simp] theorem State.miss_flash (cls src : Nat) (t : Instant) : (s.miss cls src t).flash = s.flash := by simp only [State.miss, State.setO_flash]
@[simp] theorem State.miss_power (cls src : Nat) (t : Instant) : (s.miss cls src t).power = s.power := by simp only [State.miss, State.setO_power]
@[simp] theorem State.miss_boot (cls src : Nat) (t : Instant) : (s.miss cls src t).boot = s.boot := by simp only [State.miss, State.setO_boot]
@[simp] theorem State.miss_pending (cls src : Nat) (t : Instant) : (s.miss cls src t).pending = s.pending := by simp only [State.miss, State.setO_pending]
@[simp] theorem State.miss_blobs (cls src : Nat) (t : Instant) : (s.miss cls src t).blobs = s.blobs := by simp only [State.miss, State.setO_blobs]
@[simp] theorem State.miss_com (cls src : Nat) (t : Instant) : (s.miss cls src t).com = s.com := by simp only [State.miss, State.setO_com]
@[simp] theorem State.miss_cores (cls src : Nat) (t : Instant) : (s.miss cls src t).cores = s.cores := by simp only [State.miss, State.setO_cores]
@[simp] theorem State.missSlice_now (n : Fin 4) (cls : Nat) (t : Instant) : (s.missSlice n cls t).now = s.now := by simp only [State.missSlice, State.setO_now, State.miss_now]
@[simp] theorem State.missSlice_draws (n : Fin 4) (cls : Nat) (t : Instant) : (s.missSlice n cls t).draws = s.draws := by simp only [State.missSlice, State.setO_draws, State.miss_draws]
@[simp] theorem State.missSlice_rdata (n : Fin 4) (cls : Nat) (t : Instant) : (s.missSlice n cls t).rdata = s.rdata := by simp only [State.missSlice, State.setO_rdata, State.miss_rdata]
@[simp] theorem State.missSlice_rbytes (n : Fin 4) (cls : Nat) (t : Instant) : (s.missSlice n cls t).rbytes = s.rbytes := by simp only [State.missSlice, State.setO_rbytes, State.miss_rbytes]
@[simp] theorem State.missSlice_mem (n : Fin 4) (cls : Nat) (t : Instant) : (s.missSlice n cls t).mem = s.mem := by simp only [State.missSlice, State.setO_mem, State.miss_mem]
@[simp] theorem State.missSlice_slices (n : Fin 4) (cls : Nat) (t : Instant) : (s.missSlice n cls t).slices = s.slices := by simp only [State.missSlice, State.setO_slices, State.miss_slices]
@[simp] theorem State.missSlice_air (n : Fin 4) (cls : Nat) (t : Instant) : (s.missSlice n cls t).air = s.air := by simp only [State.missSlice, State.setO_air, State.miss_air]
@[simp] theorem State.missSlice_jobs (n : Fin 4) (cls : Nat) (t : Instant) : (s.missSlice n cls t).jobs = s.jobs := by simp only [State.missSlice, State.setO_jobs, State.miss_jobs]
@[simp] theorem State.missSlice_mac (n : Fin 4) (cls : Nat) (t : Instant) : (s.missSlice n cls t).mac = s.mac := by simp only [State.missSlice, State.setO_mac, State.miss_mac]
@[simp] theorem State.missSlice_steps (n : Fin 4) (cls : Nat) (t : Instant) : (s.missSlice n cls t).steps = s.steps := by simp only [State.missSlice, State.setO_steps, State.miss_steps]
@[simp] theorem State.missSlice_fab (n : Fin 4) (cls : Nat) (t : Instant) : (s.missSlice n cls t).fab = s.fab := by simp only [State.missSlice, State.setO_fab, State.miss_fab]
@[simp] theorem State.missSlice_svc (n : Fin 4) (cls : Nat) (t : Instant) : (s.missSlice n cls t).svc = s.svc := by simp only [State.missSlice, State.setO_svc, State.miss_svc]
@[simp] theorem State.missSlice_shell (n : Fin 4) (cls : Nat) (t : Instant) : (s.missSlice n cls t).shell = s.shell := by simp only [State.missSlice, State.setO_shell, State.miss_shell]
@[simp] theorem State.missSlice_dram (n : Fin 4) (cls : Nat) (t : Instant) : (s.missSlice n cls t).dram = s.dram := by simp only [State.missSlice, State.setO_dram, State.miss_dram]
@[simp] theorem State.missSlice_flash (n : Fin 4) (cls : Nat) (t : Instant) : (s.missSlice n cls t).flash = s.flash := by simp only [State.missSlice, State.setO_flash, State.miss_flash]
@[simp] theorem State.missSlice_power (n : Fin 4) (cls : Nat) (t : Instant) : (s.missSlice n cls t).power = s.power := by simp only [State.missSlice, State.setO_power, State.miss_power]
@[simp] theorem State.missSlice_boot (n : Fin 4) (cls : Nat) (t : Instant) : (s.missSlice n cls t).boot = s.boot := by simp only [State.missSlice, State.setO_boot, State.miss_boot]
@[simp] theorem State.missSlice_pending (n : Fin 4) (cls : Nat) (t : Instant) : (s.missSlice n cls t).pending = s.pending := by simp only [State.missSlice, State.setO_pending, State.miss_pending]
@[simp] theorem State.missSlice_blobs (n : Fin 4) (cls : Nat) (t : Instant) : (s.missSlice n cls t).blobs = s.blobs := by simp only [State.missSlice, State.setO_blobs, State.miss_blobs]
@[simp] theorem State.missSlice_com (n : Fin 4) (cls : Nat) (t : Instant) : (s.missSlice n cls t).com = s.com := by simp only [State.missSlice, State.setO_com, State.miss_com]
@[simp] theorem State.missSlice_cores (n : Fin 4) (cls : Nat) (t : Instant) : (s.missSlice n cls t).cores = s.cores := by simp only [State.missSlice, State.setO_cores, State.miss_cores]

/-- The counters of a miss (R37, R38). -/
theorem State.miss_o (cls src : Nat) (t : Instant) (k : Key) :
    (s.miss cls src t).o k =
      if k = Obj.TMB_LAST_MISS_AT then tt64 t
      else if k = Obj.TMB_LAST_MISS_CLASS then cls
      else if k = Obj.TMB_MISS cls then min 0xFFFFFFFF (s.o (Obj.TMB_MISS cls) + 1)
      else s.o k := by
  unfold State.miss
  dsimp only
  rw [State.time_o, State.setO_o, State.setO_o, State.setO_o]

/-! ## The drop record (R527) -/

theorem State.dropRecord_o (a v w c : Nat) (k : Key) :
    (s.dropRecord a v w c).o k =
      if k = Obj.EVT_DROP_AT then tt64 s.now
      else if k = Obj.EVT_DROP_CAUSE then c
      else if k = Obj.EVT_DROP_CORE then w
      else if k = Obj.EVT_DROP_DATA then v % 2 ^ 32
      else if k = Obj.EVT_DROP_ADDR then a
      else if k = Obj.EVT_DROP_COUNT then (s.o Obj.EVT_DROP_COUNT + 1) % 2 ^ 32
      else if k = Obj.EVT_DROP_FIRST ∧ s.o Obj.EVT_DROP_COUNT = 0 then a
      else s.o k := by
  have n : Obj.EVT_DROP_COUNT ≠ Obj.EVT_DROP_FIRST := by decide
  have hn : (if s.o Obj.EVT_DROP_COUNT = 0 then s.setO Obj.EVT_DROP_FIRST a else s).now = s.now := by
    split <;> simp
  have f : ∀ j, (if s.o Obj.EVT_DROP_COUNT = 0 then s.setO Obj.EVT_DROP_FIRST a else s).o j =
      if j = Obj.EVT_DROP_FIRST ∧ s.o Obj.EVT_DROP_COUNT = 0 then a else s.o j := by
    intro j
    split
    · next h => rw [State.setO_o]; simp only [h, and_true]
    · next h => simp only [h, and_false, ↓reduceIte]
  have fc : (if s.o Obj.EVT_DROP_COUNT = 0 then s.setO Obj.EVT_DROP_FIRST a else s).o Obj.EVT_DROP_COUNT =
      s.o Obj.EVT_DROP_COUNT := by
    rw [f, if_neg]
    rintro ⟨h, -⟩
    exact n h
  unfold State.dropRecord
  dsimp only
  rw [State.setO_o, State.setO_o, State.setO_o, State.setO_o, State.setO_o, State.inc_o, State.setO_now, State.setO_now,
    State.setO_now, State.inc_now, hn, fc, f]

/-- An object that no event counts, after a dropped write. -/
theorem State.dropped_o (a v w c : Nat) (k : Key) (hk : noteKey k = false) :
    (s.dropped a v w c).o k = (s.dropRecord a v w c).o k := by
  unfold State.dropped
  generalize s.dropRecord a v w c = t
  dsimp only
  split
  · rfl
  · rw [State.raise_o _ hk]
    exact State.com_o t _ k

end Sys2Proof.Machine
end

