-- ==== Sys2Proof/Laws/Core.lean ====
section
/-!
SUPPORT. What every Gragil instruction does: one that is ready retires or traps, and the reads and writes of memory that no other
core's stack disturbs.
-/
namespace Sys2Proof.Machine

variable {s : State} {c : Fin 8}

/-- Of units of which nothing is noted a read changes nothing. -/
theorem State.readOver_clean {a e : Nat} (h : s.cleanUnits a e = true) : s.readOver a e = (none, s) := by
  simp only [State.cleanUnits, Bool.and_eq_true, List.all_eq_true, Bool.or_eq_true, decide_eq_true_eq] at h
  have hl : s.flash.ue.find? (fun u => decide (readUnit a ≤ u) && decide (u < e)) = none := by
    rw [List.find?_eq_none]
    intro u hu
    have := h.1 u hu
    simp only [Bool.and_eq_true, decide_eq_true_eq]
    omega
  have hm : s.flash.met.filter (fun m => decide (readUnit a ≤ m.1) && decide (m.1 < e)) = [] := by
    rw [List.filter_eq_nil_iff]
    intro m hm
    have := h.2 m hm
    simp only [Bool.and_eq_true, decide_eq_true_eq]
    omega
  simp only [State.readOver, hl, Option.getD_none, hm, List.foldl_nil]

/-- A sound read changes nothing. -/
theorem State.meet_sound {a n : Nat} (h : s.sound a n = true) : s.meet a n = (false, s) := by
  simp only [State.sound, Bool.and_eq_true, Bool.not_eq_true'] at h
  simp only [State.meet, h.1, Bool.false_eq_true, if_false, State.readOver_clean h.2, Option.isSome_none]

/-- What a ready instruction does is what its body answers. -/
theorem State.gins_ready {len din dout rin rout : Nat} {f : List Nat → List Nat → State → Eff}
    (h : s.ready c len din dout rin rout = true) :
    s.gins c len din dout rin rout f =
      match f (s.dTop c din) (s.rTop c rin) s with
      | .trap u t a => u.trap c t a s.cores[c].pc.toNat
      | .wait => s
      | .done u outs routs goto => u.retired c din outs rin routs (goto.getD (s.cores[c].after len)) := by
  simp only [State.ready, Bool.and_eq_true, beq_iff_eq, Bool.or_eq_true, Option.isNone_iff_eq_none, Bool.not_eq_true'] at h
  obtain ⟨⟨⟨⟨hm, hc⟩, hft⟩, hl⟩, hst⟩ := h
  have hh : (!s.cores[c].sprout && s.held s.cores[c].pc.toNat len) = false := by
    rcases hl with h | h
    · rw [h]; rfl
    · rw [h.1, Bool.and_false]
  have hl' : (if s.cores[c].sprout then (false, s) else s.meet s.cores[c].pc.toNat len) = (false, s) := by
    rcases hl with h | h
    · rw [if_pos h]
    · split
      · rfl
      · exact State.meet_sound h.2
  simp only [State.gins, hm, hc, decide_true, Bool.and_self, if_true, State.gexec, hft, hh, Bool.false_eq_true, if_false, hl', hst,
    State.retired]
  all_goals (generalize f (s.dTop c din) (s.rTop c rin) s = e; cases e <;> rfl)

/-- A ready instruction whose body completes retires (R400, R404). -/
theorem State.gins_done {len din dout rin rout : Nat} {f : List Nat → List Nat → State → Eff} {u : State} {outs routs : List Nat}
    {goto : Option Nat} (h : s.ready c len din dout rin rout = true)
    (hf : f (s.dTop c din) (s.rTop c rin) s = .done u outs routs goto) :
    s.gins c len din dout rin rout f = u.retired c din outs rin routs (goto.getD (s.cores[c].after len)) := by
  simp only [State.gins_ready h, hf]

/-- A ready instruction whose body traps takes the trap, the pc of the instruction saved (R414, R415). -/
theorem State.gins_trap {len din dout rin rout : Nat} {f : List Nat → List Nat → State → Eff} {u : State} {t a : Nat}
    (h : s.ready c len din dout rin rout = true) (hf : f (s.dTop c din) (s.rTop c rin) s = .trap u t a) :
    s.gins c len din dout rin rout f = u.trap c t a s.cores[c].pc.toNat := by
  simp only [State.gins_ready h, hf]

/-- An access that does not wait has its effect. -/
theorem State.access_free {a n : Nat} {e : Eff} (h : s.held a n = false) : s.access a n e = e := by
  simp only [State.access, h, Bool.false_eq_true, if_false]

/-- The pure instructions. -/
theorem State.pureOp_done {len din dout : Nat} {f : List Nat → List Nat} (h : s.ready c len din dout 0 0 = true) :
    s.pureOp c len din dout f = s.retired c din (f (s.dTop c din)) 0 [] (s.cores[c].after len) :=
  State.gins_done (goto := none) h rfl

/-- The arithmetic instructions that have a result. -/
theorem State.arithOp_done {din dout : Nat} {f : Nat → List Nat → Option Arith} {r : Arith}
    (h : s.ready c 1 din dout 0 0 = true) (hf : f s.cores[c].w (s.dTop c din) = some r) :
    s.arithOp c din dout f =
      (s.modCore c (fun x => { x with ov := r.ov, c := r.c })).retired c din r.outs 0 [] (s.cores[c].after 1) :=
  State.gins_done (goto := none) h (by simp only [hf])

/-- The row of an object of the window. -/
theorem objIs_row {k : Key} {f : ObjRow → Bool} (h : objIs k f = true) :
    firmwareBacked k = false ∧ k / 256 ≠ 0x1804 ∧ ∃ x p, objFind k = some (x, p) ∧ f x = true := by
  simp only [objIs, Bool.and_eq_true, Bool.not_eq_true', bne_iff_ne] at h
  obtain ⟨⟨h1, h2⟩, h3⟩ := h
  refine ⟨h1, h2, ?_⟩
  split at h3
  · next x a b e => exact ⟨x, (a, b), e, h3⟩
  · cases h3

theorem State.undisturbed_at {a n i : Nat} (h : s.undisturbed c a n = true) (hi : i < n) : s.privateTo c (a + i) = false := by
  have := List.all_eq_true.mp h i (List.mem_range.mpr hi)
  simpa using this

/-- Bytes that no other core's stack holds are read as they stand. -/
theorem State.seenBytes_eq {w : Nat} : ∀ {n a : Nat}, (∀ i, i < n → s.privateTo w (a + i) = false) →
    s.seenBytes w a n = s.rbs a n
  | 0, _, _ => rfl
  | n + 1, a, h => by
    have h0 : s.privateTo w a = false := h 0 (by omega)
    have ht : s.seenBytes w (a + 1) n = s.rbs (a + 1) n :=
      State.seenBytes_eq (fun i hi => by have := h (i + 1) (by omega); rwa [show a + 1 + i = a + (i + 1) by omega])
    simp only [State.seenBytes, h0, Bool.false_eq_true, if_false, ht, State.rbs]

theorem State.sawBytes_eq {w a n : Nat} (h : ∀ i, i < n → s.privateTo w (a + i) = false) : s.sawBytes w a n = s := by
  have : (List.range n).any (fun i => s.privateTo w (a + i)) = false := by
    rw [List.any_eq_false]
    intro i hi
    simp [h i (List.mem_range.mp hi)]
  simp only [State.sawBytes, this, Bool.false_eq_true, if_false]

/-- A write leaves every core's stacks alone. -/
theorem State.wb_privateTo (a : Nat) (b : Byte) (w j : Nat) : (s.wb a b).privateTo w j = s.privateTo w j := by
  simp only [State.privateTo, State.wb_cores]

/-- Bytes that no other core's stack holds are written as they stand. -/
theorem State.putBytes_eq {w : Nat} : ∀ {l : Bytes} {a : Nat} {s : State}, (∀ i, i < l.length → s.privateTo w (a + i) = false) →
    s.putBytes w a l = s.wbs a l
  | [], _, _, _ => rfl
  | b :: r, a, s, h => by
    have h0 : s.privateTo w a = false := h 0 (by simp)
    simp only [State.putBytes, h0, Bool.false_eq_true, if_false, State.wbs]
    apply State.putBytes_eq
    intro i hi
    rw [State.wb_privateTo]
    have := h (i + 1) (by simp; omega)
    rwa [show a + 1 + i = a + (i + 1) by omega]

theorem leBytes_length : ∀ (n v : Nat), (leBytes n v).length = n
  | 0, _ => rfl
  | n + 1, v => by simp [leBytes, leBytes_length n]

/-- A load of an address that traps answers the trap and changes nothing. -/
theorem State.load_trap {a n cb x : Nat} (h : s.loadTrap c a n = some x) : s.load c a n cb = .error (s, x) := by
  simp only [State.load, h]

theorem vmod_vmod {α : Type} {n : Nat} (v : Vector α n) (i : Fin n) (f g : α → α) : vmod (vmod v i f) i g = vmod v i (fun x => g (f x)) := by
  ext j h
  simp only [vmod_getElem]
  split <;> simp

/-- Two changes of one core are one change. -/
theorem State.modCore_modCore (f g : CoreSt → CoreSt) : (s.modCore c f).modCore c g = s.modCore c (fun x => g (f x)) := by
  simp only [State.modCore, vmod_vmod]

/-- A load from memory answers what stands there. -/
theorem State.load_eq {a n cb : Nat} (h : s.loadable c a n = true) : s.load c a n cb = .ok (s, s.rn a n) := by
  simp only [State.loadable, Bool.and_eq_true, Bool.not_eq_true', Option.isNone_iff_eq_none] at h
  obtain ⟨⟨⟨⟨⟨⟨hw, hp⟩, hf⟩, ht⟩, -⟩, hl⟩, hu⟩ := h
  have hb := fun i hi => State.undisturbed_at (s := s) (i := i) hu hi
  simp only [State.load, ht, hw, Bool.false_eq_true, if_false, hp, hf, State.meet_sound hl, State.sawBytes_eq hb,
    State.seenBytes_eq hb, State.rn]

/-- A load that may be made does not wait. -/
theorem State.loadable_free {a n : Nat} (h : s.loadable c a n = true) : s.held a n = false := by
  simp only [State.loadable, Bool.and_eq_true, Bool.not_eq_true'] at h
  exact h.1.1.2

/-- A load that may be made does not trap. -/
theorem State.loadable_trap {a n : Nat} (h : s.loadable c a n = true) : s.loadTrap c a n = none := by
  simp only [State.loadable, Bool.and_eq_true, Option.isNone_iff_eq_none] at h
  exact h.1.1.1.2

/-- A load that may be made meets no other core's stack. -/
theorem State.loadable_undisturbed {a n : Nat} (h : s.loadable c a n = true) : s.undisturbed c a n = true := by
  simp only [State.loadable, Bool.and_eq_true] at h
  exact h.2

/-- A store to memory writes the value, least significant byte first. -/
theorem State.store_eq {a n v : Nat} (h : s.storable c a n = true) : s.store c a n v = .ok (s.wn a n (v % 2 ^ (8 * n))) := by
  simp only [State.storable, Bool.and_eq_true, Bool.not_eq_true', Option.isNone_iff_eq_none] at h
  obtain ⟨⟨⟨⟨⟨hw, hp⟩, ht⟩, -⟩, hpw⟩, hu⟩ := h
  have hb : ∀ i, i < (leBytes n (v % 2 ^ (8 * n))).length → s.privateTo c (a + i) = false :=
    fun i hi => State.undisturbed_at hu (by rwa [leBytes_length] at hi)
  simp only [State.store, ht, hw, Bool.false_eq_true, if_false, hp, hpw, Bool.not_true, State.putBytes_eq hb, State.wn]

/-- A store that may be made does not wait. -/
theorem State.storable_free {a n : Nat} (h : s.storable c a n = true) : s.held a n = false := by
  simp only [State.storable, Bool.and_eq_true, Bool.not_eq_true'] at h
  exact h.1.1.2

/-- A store that may be made does not trap. -/
theorem State.storable_trap {a n : Nat} (h : s.storable c a n = true) : s.storeTrap c a n = none := by
  simp only [State.storable, Bool.and_eq_true, Option.isNone_iff_eq_none] at h
  exact h.1.1.1.2

/-- A store that may be made finds its memory powered. -/
theorem State.storable_lit {a n : Nat} (h : s.storable c a n = true) : s.dark a = false := by
  simp only [State.storable, Bool.and_eq_true] at h
  simp [State.dark, h.1.2]

end Sys2Proof.Machine
end

