-- ==== Sys2Proof/Laws/Fabric.lean ====
section
/-!
SUPPORT. Counters and datagrams: a counter that is ready is assigned, and a datagram whose counter is ready leaves.
-/
namespace Sys2Proof.Machine

variable {s : State}

/-- A counter that is ready is assigned: its old value. -/
theorem State.assignCtr_some {k use : Nat} (h : s.ctrReady k use = true) :
    ∃ t, s.assignCtr k use = some (s.o (Obj.SHL_SLOTk_CTR k), t) := by
  unfold State.assignCtr
  rw [if_pos h]
  dsimp only
  split
  · exact ⟨_, rfl⟩
  · exact ⟨_, rfl⟩

/-- A datagram leaves when the counter of FAB_KEY is ready. -/
theorem State.wireSend_some {p : Fin 2} {m : Bytes} {spend : Bool} (h : s.ctrReady (s.o Obj.FAB_KEY) 4 = true) :
    ∃ t, s.wireSend p m spend = some t := by
  obtain ⟨t, e⟩ := State.assignCtr_some h
  unfold State.wireSend
  dsimp only
  rw [e]
  exact ⟨_, rfl⟩

/-- Starting a frame on a port counts it and changes no other object, no memory and no core. -/
theorem State.portStart_keeps (s : State) (p : Fin 2) (w : WireOut) :
    (s.portStart p w).mem = s.mem ∧ (s.portStart p w).cores = s.cores ∧
    ∀ k, k ≠ Obj.COM_Tp_TX_FRAMES p → (s.portStart p w).o k = s.o k :=
  ⟨rfl, rfl, fun _ h => (State.setO_o _ _ _ _).trans (if_neg h)⟩

/-- The frames that waited start; nothing else changes but their count. -/
theorem State.portFlush_keeps (s : State) (p : Fin 2) :
    (s.portFlush p).mem = s.mem ∧ (s.portFlush p).cores = s.cores ∧
    ∀ k, k ≠ Obj.COM_Tp_TX_FRAMES p → (s.portFlush p).o k = s.o k :=
  ⟨foldl_keeps (fun s : State => s.mem) _ (fun s w => (s.portStart_keeps p w).1) _ _,
   foldl_keeps (fun s : State => s.cores) _ (fun s w => (s.portStart_keeps p w).2.1) _ _,
   fun k h => foldl_keeps (fun s : State => s.o k) _ (fun s w => (s.portStart_keeps p w).2.2 k h) _ _⟩

end Sys2Proof.Machine
end

