-- ==== Sys2Proof/Laws/Flash.lean ====
section
/-!
SUPPORT. What a ROM flash routine does on a core that can run it.
-/
namespace Sys2Proof.Machine

variable {s : State} {c : Fin 8}

/-- A routine takes its arguments from the data stack, leaves its results there and returns to its caller. -/
theorem State.routine_done {n din dout : Nat} {f : List Nat → State → List Nat × State} {outs : List Nat} {u : State}
    (h : s.callable c n din dout = true) (hf : f (s.dTop c din) (s.scratch c) = (outs, u)) :
    s.routine c n din dout f = u.retired c din outs 1 [] (inp (s.rTop c 1) 0) := by
  simp only [State.callable, Bool.and_eq_true] at h
  obtain ⟨⟨ha, hr⟩, hm⟩ := h
  rw [State.routine, if_pos ha]
  rw [State.gins_done (u := u) (outs := outs) (routs := []) (goto := some (inp (s.rTop c 1) 0)) hr
    (by simp only [hm, Bool.not_true, Bool.false_and, Bool.false_eq_true, if_false, if_true, hf])]
  rfl

/-- The record of a FLASH job that the ledger has room for. -/
theorem State.flashJob_some {j : FlashJob} {t : Nat} {u : State}
    (h : s.newRecord 1 6 14 (if j.op = 0 then j.len else 1) 0 (flashTag j.op j.area j.sector) = (some t, u)) :
    s.flashJob j = ([t, 0], u.modFlash (fun x => { x with jobs := x.jobs ++ [{ j with ticket := t }] })) := by
  unfold State.flashJob
  dsimp only
  rw [h]
  rfl

end Sys2Proof.Machine
end

