-- ==== Sys2Proof/Laws/Jobs.lean ====
section
/-!
SUPPORT. What a submission that the job engine accepts leaves.
-/
namespace Sys2Proof.Machine

variable {s : State} {c : Fin 8} {a : Nat}

/-- A job that passes every check waits in the queue under its ticket. -/
theorem State.acceptJob_some {t : Nat} {u : State} {d : Bytes} (hd : d = s.descAt a)
    (hr : (s.sawBytes 8 a 64).newRecord 1 (dKind d) c (selOf d) 0 (fieldN d 4 4) = (some t, u)) (ha : argOk d = true)
    (hb : addressOk d = true) (h1 : (u.setTicket c t).beyondDram d = false)
    (hk : dKind d ≠ 3 ∨ (u.setTicket c t).permits (fieldN d 28 1) 5 = true) (hl : 0 < dLen d) :
    s.acceptJob c a = (some t, (u.setTicket c t).modJobs (fun j => { j with queue := j.queue ++ [
      { ticket := t, core := c, desc := d }] })) := by
  unfold State.acceptJob
  dsimp only
  rw [← hd, hr]
  show (u.setTicket c t).checkJob c d t = _
  unfold State.checkJob
  rw [if_neg (by rw [ha]; decide), if_neg (by rw [hb, h1]; simp),
    if_neg (by rcases hk with hk | hk <;> simp [hk]), if_neg (by simp only [Bool.and_eq_true, decide_eq_true_eq]; omega)]

/-- The same of a write of JOB_SUBMIT. -/
theorem State.jobSubmit_accepts (h : s.accepts c a = true) :
    s.jobSubmit c a = (some ((s.ticketed c a).1.getD 0), s.queued c a) := by
  simp only [State.accepts, Bool.and_eq_true, Bool.or_eq_true, decide_eq_true_eq, Bool.not_eq_true', bne_iff_ne] at h
  obtain ⟨⟨⟨⟨⟨⟨hu, ht⟩, ha⟩, hb⟩, hd⟩, hk⟩, hl⟩ := h
  have e : s.jobSubmit c a = s.acceptJob c a := if_pos hu
  rw [e]
  obtain ⟨o, u, hr⟩ : ∃ o u, (s.sawBytes 8 a 64).newRecord 1 (dKind (s.descAt a)) c (selOf (s.descAt a)) 0
      (fieldN (s.descAt a) 4 4) = (o, u) := ⟨_, _, (Prod.eta _).symm⟩
  have hq : s.ticketed c a = (o, u.setTicket c (o.getD 0)) := by
    unfold State.ticketed
    dsimp only
    rw [hr]
  unfold State.queued
  rw [hq] at ht hd hk ⊢
  cases o with
  | none => exact absurd ht (by simp)
  | some t => exact State.acceptJob_some rfl hr ha hb hd hk hl

/-- Whether a fault ends a job does not depend on the bytes done. -/
theorem State.jobFault_none {d : Bytes} (h : s.jobFault d 0 = none) (n : Nat) : s.jobFault d n = none := by
  unfold State.jobFault at h ⊢
  repeat' split at h
  all_goals first
    | (exfalso; exact Option.some_ne_none _ h)
    | simp only [*, Bool.false_eq_true, if_false]

end Sys2Proof.Machine
end

