-- ==== Sys2Proof/Laws/Memory.lean ====
section
/-!
SUPPORT. Memory after a write of several bytes, and that every operation on memory and objects keeps the canonical form.
-/
namespace Sys2Proof.Machine

/-! ## Reads after writes (R7) -/

/-- A byte that a write does not reach. -/
theorem State.wbs_rb_off : ∀ {l : Bytes} {s : State} {a j : Nat}, (j < a ∨ a + l.length ≤ j) → (s.wbs a l).rb j = s.rb j
  | [], _, _, _, _ => rfl
  | b :: r, s, a, j, h => by
    have hl : (b :: r).length = r.length + 1 := rfl
    simp only [State.wbs]
    rw [State.wbs_rb_off (by omega), State.wb_rb, if_neg (by omega)]

/-- The bytes that a write leaves. -/
theorem State.wbs_rbs : ∀ {l : Bytes} {s : State} {a : Nat}, (s.wbs a l).rbs a l.length = l
  | [], _, _ => rfl
  | b :: r, s, a => by
    simp only [State.wbs, List.length_cons, State.rbs]
    rw [State.wbs_rbs, State.wbs_rb_off (by omega), State.wb_rb, if_pos rfl]

/-- Bytes that a write does not reach. -/
theorem State.wbs_rbs_off {l : Bytes} {s : State} {a : Nat} : ∀ {n b : Nat}, (b + n ≤ a ∨ a + l.length ≤ b) →
    (s.wbs a l).rbs b n = s.rbs b n
  | 0, _, _ => rfl
  | n + 1, b, h => by
    simp only [State.rbs]
    rw [State.wbs_rb_off (by omega), State.wbs_rbs_off (by omega)]

theorem leBytes_len : ∀ (n v : Nat), (leBytes n v).length = n
  | 0, _ => rfl
  | n + 1, v => by simp only [leBytes, List.length_cons, leBytes_len n]

/-- A number's bytes spell it, modulo their width. -/
theorem leNat_leBytes : ∀ (n v : Nat), leNat (leBytes n v) = v % 256 ^ n
  | 0, v => by rw [Nat.pow_zero, Nat.mod_one]; rfl
  | n + 1, v => by
    simp only [leBytes, leNat, leNat_leBytes n, BitVec.toNat_ofNat, Nat.reducePow]
    rw [Nat.pow_succ, Nat.mul_comm (256 ^ n) 256, Nat.mod_mul]

theorem State.wn_rn (s : State) (a n v : Nat) : (s.wn a n v).rn a n = v % 256 ^ n := by
  have h := State.wbs_rbs (l := leBytes n v) (s := s) (a := a)
  rw [leBytes_len] at h
  simp only [State.rn, State.wn, h, leNat_leBytes]

theorem State.wn_rn_off (s : State) {a b n m : Nat} (v : Nat) (h : b + m ≤ a ∨ a + n ≤ b) :
    (s.wn a n v).rn b m = s.rn b m := by
  simp only [State.rn, State.wn]
  rw [State.wbs_rbs_off (by rw [leBytes_len]; exact h)]

theorem State.wn_rb_off (s : State) {a j n : Nat} (v : Nat) (h : j < a ∨ a + n ≤ j) : (s.wn a n v).rb j = s.rb j :=
  State.wbs_rb_off (by rw [leBytes_len]; exact h)

/-! ## The canonical form (log 6, log 7) -/

theorem canonical_iff (s : State) : s.canonical = true ↔
    Memory.wf s.mem = true ∧ Sparse.wf objDefault s.objs = true ∧ Sparse.wf blobDefault s.blobs = true := by
  simp only [State.canonical, Bool.and_eq_true, and_assoc]

/-- t is in canonical form when s is. -/
def Keeps (s t : State) : Prop := s.canonical = true → t.canonical = true

theorem Keeps.refl (s : State) : Keeps s s := id
theorem Keeps.trans {s t u : State} (h : Keeps s t) (g : Keeps t u) : Keeps s u := fun x => g (h x)

/-- A state with the same stores. -/
theorem Keeps.same {s t u : State} (h : Keeps s t) (m : u.mem = t.mem) (o : u.objs = t.objs) (b : u.blobs = t.blobs) : Keeps s u := by
  intro x
  have := h x
  rw [canonical_iff] at this ⊢
  rw [m, o, b]; exact this

theorem Keeps.setO {s t : State} (h : Keeps s t) (k : Key) (v : Nat) : Keeps s (t.setO k v) := by
  intro x
  have := h x
  rw [canonical_iff] at this ⊢
  exact ⟨this.1, Sparse.wf_set _ _ this.2.1, this.2.2⟩

theorem Keeps.setBlob {s t : State} (h : Keeps s t) (k : Key) (b : Bytes) : Keeps s (t.setBlob k b) := by
  intro x
  have := h x
  rw [canonical_iff] at this ⊢
  exact ⟨this.1, this.2.1, Sparse.wf_set _ _ this.2.2⟩

theorem Keeps.wb {s t : State} (h : Keeps s t) (a : Nat) (b : Byte) : Keeps s (t.wb a b) := by
  intro x
  have := h x
  rw [canonical_iff] at this ⊢
  exact ⟨Sparse.wf_set _ _ this.1, this.2.1, this.2.2⟩

/-- Memory of which only some bytes stay listed. -/
theorem Keeps.memFilter {s t : State} (h : Keeps s t) (p : Host.Cell → Bool) : Keeps s { t with mem := t.mem.filter p } := by
  intro x
  have := h x
  rw [canonical_iff] at this ⊢
  exact ⟨Sparse.wf_filter _ this.1, this.2.1, this.2.2⟩

theorem Keeps.foldl {α : Type} {s : State} (f : State → α → State) (h : ∀ t x, Keeps t (f t x)) (l : List α) {t : State}
    (g : Keeps s t) : Keeps s (l.foldl f t) := by
  induction l generalizing t with
  | nil => exact g
  | cons a r ih => exact ih (g.trans (h t a))

theorem Keeps.wbs {s : State} : ∀ {l : Bytes} {t : State} {a : Nat}, Keeps s t → Keeps s (t.wbs a l)
  | [], _, _, h => h
  | b :: r, t, a, h => by
    have g : Keeps s (t.wb a b) := h.wb a b
    exact Keeps.wbs (l := r) (a := a + 1) g

theorem Keeps.wn {s t : State} (h : Keeps s t) (a n v : Nat) : Keeps s (t.wn a n v) := h.wbs

theorem Keeps.putBytes {s : State} {w : Nat} : ∀ {l : Bytes} {t : State} {a : Nat}, Keeps s t → Keeps s (t.putBytes w a l)
  | [], _, _, h => h
  | b :: r, t, a, h => by
    have hd : Keeps s ({ t with draws := t.draws + 1 } : State) := h.same rfl rfl rfl
    simp only [State.putBytes]
    split
    · split
      · exact Keeps.putBytes (hd.wb _ _)
      · exact Keeps.putBytes hd
    · exact Keeps.putBytes (h.wb _ _)

theorem Keeps.scramble {s t : State} (h : Keeps s t) (a n : Nat) : Keeps s (t.scramble a n) :=
  Keeps.same (h.wbs (l := freeBytes t.draws n) (a := a)) rfl rfl rfl

/-- Free bytes put over a region stand in canonical form. -/
theorem spoilMem_wf (d lo n : Nat) {m : List Host.Cell} (w : Memory.wf m = true) : Memory.wf (spoilMem d lo n m) = true := by
  have hmid : ∀ (k i : Nat), Sparse.wfFrom memDefault (lo + i) ((List.range' i k).filterMap (fun i =>
      let b : Byte := BitVec.ofNat 8 (Config.freeNat (d + i))
      if b = memDefault (lo + i) then none else some (lo + i, b))) = true := by
    intro k
    induction k with
    | zero => intro i; rfl
    | succ k ih =>
      intro i
      rw [List.range'_succ, List.filterMap_cons]
      by_cases hb : BitVec.ofNat 8 (Config.freeNat (d + i)) = memDefault (lo + i)
      · simp only [hb, if_true]
        exact Sparse.wfFrom_le (by omega) (ih (i + 1))
      · simp only [hb, if_false, Sparse.wfFrom, Bool.and_eq_true, decide_eq_true_eq]
        exact ⟨⟨Nat.le_refl _, by simp⟩, ih (i + 1)⟩
  have hlt : ∀ e ∈ (List.range n).filterMap (fun i =>
      let b : Byte := BitVec.ofNat 8 (Config.freeNat (d + i))
      if b = memDefault (lo + i) then none else some (lo + i, b)), e.1 < lo + n := by
    intro e he
    obtain ⟨i, hi, h⟩ := List.mem_filterMap.mp he
    rw [List.mem_range] at hi
    dsimp only at h
    split at h
    · cases h
    · cases h; exact Nat.add_lt_add_left hi lo
  have h1 : Sparse.wfFrom memDefault 0 (m.filter (fun c => decide (c.1 < lo))) = true := Sparse.wfFrom_filter _ w
  have h2 := hmid n 0
  rw [← List.range_eq_range'] at h2
  have h3 : Sparse.wfFrom memDefault (lo + n) (m.filter (fun c => decide (lo + n ≤ c.1))) = true := Sparse.wfFrom_above w
  have h4 := Sparse.wfFrom_append h2 h3 hlt (by omega)
  rw [spoilMem, List.append_assoc]
  refine Sparse.wfFrom_append h1 h4 ?_ (by omega)
  intro e he
  simpa using (List.mem_filter.mp he).2

theorem Keeps.spoil {s t : State} (h : Keeps s t) (lo n : Nat) : Keeps s (t.spoil lo n) := by
  intro x
  have := h x
  rw [canonical_iff] at this ⊢
  exact ⟨spoilMem_wf _ _ _ this.1, this.2.1, this.2.2⟩

end Sys2Proof.Machine
end

