-- ==== Sys2Proof/Laws/Shell.lean ====
section
/-!
SUPPORT. What the Shell does with a command that it takes.
-/
namespace Sys2Proof.Machine

variable {s : State}

/-- A command that is taken does its work on an empty output and runs until its end. -/
theorem State.shellCmd_free {w : Writer} {code level : Nat} {body : State → Nat × State} (h : s.shellFree w level = true) :
    s.shellCmd w code level body = (body s.shellOut).2.shellRuns code (body s.shellOut).1 := by
  simp only [State.shellFree, Bool.and_eq_true, beq_iff_eq, decide_eq_true_eq, Option.isNone_iff_eq_none] at h
  have hl : ¬ s.rankOf w < level := Nat.not_lt.mpr h.2
  simp only [State.shellCmd, h.1.1, h.1.2, Option.isSome_none, Bool.false_or, decide_eq_true_eq, Nat.one_ne_zero,
    Nat.reduceEqDiff, hl, if_false]
  rfl

/-- A command in a busy Shell ends at once with BUSY, and nothing else changes. -/
theorem State.shellCmd_busy {w : Writer} {code level : Nat} {body : State → Nat × State}
    (h : s.shell.running.isSome = true ∨ s.o Obj.SHL_STATE = 0) :
    s.shellCmd w code level body = (s.setO Obj.SHL_CMD_STATUS 1).raise 0x120 0 (code + 256 * 1) := by
  have : (s.shell.running.isSome || decide (s.o Obj.SHL_STATE = 0)) = true := by
    rcases h with h | h <;> simp [h]
  rw [State.shellCmd, if_pos this]

end Sys2Proof.Machine
end

