-- ==== Sys2Proof/Laws/Sop.lean ====
section
/-!
SUPPORT. What the SOP engine does with the request and with the datagram that stand in front.
-/
namespace Sys2Proof.Machine

variable {s : State}

/-- A request in front that some type serves stays in front. -/
theorem State.skipReq_front {r : SopReq} {l : List SopReq} (h : s.com.requests = r :: l) (ht : s.typeRefused r = none) :
    ∀ n, s.skipReq n = s := by
  intro n
  cases n with
  | zero => rfl
  | succ n => simp only [State.skipReq, h, ht]; split <;> rfl

/-- The request in front is served by its type. -/
theorem State.sopServe_front {r : SopReq} {l : List SopReq} {f : State → Writer → Nat → Bytes → State}
    (h : s.com.requests = r :: l) (ht : s.typeRefused r = none) (hd : s.debugFull r.who = false) :
    s.sopServe r.msg.ty f = f (s.modCom (fun c => { c with requests := l })) r.who r.msg.tag r.msg.payload := by
  simp only [State.sopServe, State.skipReq_front h ht, h, ne_eq, not_true_eq_false, decide_false, hd, Bool.or_self,
    Bool.false_eq_true, if_false]

/-- A datagram in front that the engine takes stays in front. -/
theorem State.skipIn_front {m : SopIn} {l : List SopIn} (h : s.com.inbox = m :: l) (ht : s.sopTakes m.data = true) :
    ∀ n, s.skipIn n = s := by
  intro n
  cases n with
  | zero => rfl
  | succ n => simp only [State.skipIn, h, ht, if_true]

/-- The datagram in front is taken by its kind. -/
theorem State.takeIn_front {m : SopIn} {l : List SopIn} {kind : Nat} {f : State → SopIn → State}
    (h : s.com.inbox = m :: l) (ht : s.sopTakes m.data = true) (hk : fieldN m.data 1 1 = kind) (hr : kind = 1 → s.sopRoom m.port = true) :
    s.takeIn kind f = f ((s.modCom (fun c => { c with inbox := l })).returnCells 4 m.cells) m := by
  have : (decide (kind = 1) && !s.sopRoom m.port) = false := by
    by_cases hk : kind = 1
    · simp [hk, hr hk]
    · simp [hk]
  simp only [State.takeIn, State.skipIn_front h ht, h, hk, ne_eq, not_true_eq_false, decide_false, this, Bool.or_self,
    Bool.false_eq_true, if_false]

/-- A request that is offered is served. -/
theorem State.sopServe_offers {w : Writer} {ty tag : Nat} {p : Bytes} {l : List SopReq}
    {f : State → Writer → Nat → Bytes → State} (h : s.offers w ty tag p l = true) :
    s.sopServe ty f = f (s.served l) w tag p := by
  simp only [State.offers, Bool.and_eq_true, beq_iff_eq, Bool.not_eq_true', Option.isNone_iff_eq_none] at h
  exact State.sopServe_front (r := ⟨w, ⟨ty, tag, p⟩⟩) h.1.1 h.1.2 h.2

/-- A datagram that is delivered is taken. -/
theorem State.takeIn_delivers {m : SopIn} {l : List SopIn} {kind : Nat} {f : State → SopIn → State}
    (h : s.delivers kind m l = true) : s.takeIn kind f = f (s.received m l) m := by
  simp only [State.delivers, Bool.and_eq_true, beq_iff_eq, Bool.or_eq_true, bne_iff_ne, ne_eq] at h
  exact State.takeIn_front h.1.1.1 h.1.1.2 h.1.2 (fun e => h.2.resolve_left (fun g => g e))

end Sys2Proof.Machine
end

