-- ==== Sys2Proof/Laws/Timebase.lean ====
section
/-!
SUPPORT. What the counter block keeps: its events and captures touch no power state.
-/
namespace Sys2Proof.Machine
variable (s : State)

@[simp] theorem State.tcFlag_power (n : Fin 16) (b : Nat) (x : Bool) : (s.tcFlag n b x).power = s.power :=
  State.setO_power s _ _

theorem State.tcStep_power (n : Fin 16) : (s.tcStep n).1.power = s.power := by
  unfold State.tcStep
  dsimp only
  repeat' split
  all_goals simp only [State.raise_power, State.tcFlag_power, State.modTc_power, State.setO_power]

theorem State.tcEvent_power (f : Nat) : ∀ (n : Fin 16) (s : State), (State.tcEvent f n s).power = s.power := by
  induction f with
  | zero => exact fun _ _ => rfl
  | succ f ih =>
    intro n s
    have h := s.tcStep_power n
    unfold State.tcEvent
    split
    · dsimp only
      split
      · rw [ih]; exact h
      · exact h
    · rfl

theorem State.tcCapture_power (f : Nat) : ∀ (n : Fin 16) (s : State), (State.tcCapture f n s).power = s.power := by
  have h1 : ∀ (s : State) (n : Fin 16), (s.tcCapture1 n).power = s.power := by
    intro s n
    unfold State.tcCapture1
    dsimp only
    split <;> simp only [State.tcFlag_power, State.setO_power]
  induction f with
  | zero => exact fun _ _ => rfl
  | succ f ih =>
    intro n s
    unfold State.tcCapture
    dsimp only
    split
    · split
      · rw [ih, h1]
      · exact h1 s n
    · exact h1 s n

theorem State.tcSourceAll_power (src : Nat) (hit : Nat → Nat → Bool) : (s.tcSourceAll src hit).power = s.power := by
  refine foldl_keeps (fun s : State => s.power) _ (fun s n => ?_) _ _
  dsimp only
  split
  · exact State.tcEvent_power _ _ _
  · rfl

theorem State.tcCaptureAll_power (src : Nat) (hit : Nat → Nat → Bool) : (s.tcCaptureAll src hit).power = s.power := by
  refine foldl_keeps (fun s : State => s.power) _ (fun s n => ?_) _ _
  dsimp only
  split
  · exact State.tcCapture_power _ _ _
  · rfl

@[simp] theorem State.tcTick_power (sf : Bool) : (s.tcTick sf).power = s.power := by
  unfold State.tcTick
  dsimp only
  split <;> simp only [State.tcCaptureAll_power, State.tcSourceAll_power]

@[simp] theorem State.tcSlot_power : s.tcSlot.power = s.power := by
  simp only [State.tcSlot, State.tcCaptureAll_power, State.tcSourceAll_power]

end Sys2Proof.Machine
end

