-- ==== Sys2Proof/WellFormed.lean ====
section
/-!
DEFINITION. Well-formed commands: every operand within the width of the register, field or reading that it stands for. The
meanings are total on every command; a sender gives only well-formed ones.
-/
namespace Sys2Proof

/-- v fits in w bits. -/
def fits (w v : Nat) : Bool := decide (v < 2 ^ w)

/-- A value of an object fits in one SOP value (R516). -/
def shortB (b : Bytes) : Bool := decide (b.length < 2 ^ 24)

/-- A miss class (R36): 1-12 for the anchor, 1-4 for a slice (R168). -/
def classOf (slice : Option (Fin 4)) (cls : Nat) : Bool :=
  match slice with
  | none => decide (1 ≤ cls) && decide (cls ≤ 12)
  | some _ => decide (1 ≤ cls) && decide (cls ≤ 4)

/-- The operands of a command are within their widths. -/
def Instr.wf (i : Instr) : Bool :=
  match i with
  | .tickBoundary age => fits 16 age
  | .slotBoundary vin v5 _ slack temps => fits 16 vin && fits 16 v5 && fits 6 slack && (temps.length == 4)
  | .missCounterClear _ slice cls v => classOf slice cls && fits 32 v
  | .wideReadLowLatch _ k => fits 24 k
  | .wideWriteLow _ k v => fits 24 k && fits 32 v
  | .wideWriteHigh _ k v => fits 24 k && fits 32 v
  | .tcCountWrite _ _ v => fits 32 v
  | .tcFlagsClear _ v => fits 32 v
  | .rxqConsWrite _ _ v => fits 32 v
  | .fldDqConsWrite _ v => fits 32 v
  | .fabTrailCommit _ v => fits 32 v
  | .fabUqConsWrite _ v => fits 32 v
  | .bskAckedWrite _ v => fits 32 v
  | .jobLedConsWrite _ v => fits 32 v
  | .crcFlagsClear _ v => fits 32 v
  | .corRelease _ v => fits 32 v
  | .drmRtnMaxlevelReset _ _ v => fits 32 v
  | .flsLockWrite _ v _ => fits 32 v
  | .flsIndetAck _ v => fits 32 v
  | .comCommit _ v => fits 32 v
  | .comDomSel _ v => fits 32 v
  | .comDomLen _ v => fits 32 v
  | .comDomDataWrite _ v => fits 32 v
  | .comFwVal _ v => fits 32 v
  | .evtLogClear _ v => fits 32 v
  | .evtRouteReset _ v => fits 32 v
  | .evtDropClear _ v => fits 32 v
  | .gioSet _ v => fits 32 v
  | .gioClr _ v => fits 32 v
  | .gioToggle _ v => fits 32 v
  | .sccpClassWrite _ v => fits 32 v
  | .pwrCpsSurveyCmd _ v => fits 32 v
  | .corResetCmd _ v => fits 32 v
  | .touchMeasurementDone _ cap => fits 32 cap
  | .txPaOff _ rl _ => fits 16 rl
  | .probe _ _ rl => fits 16 rl
  | .tunerSearch _ rls => (rls.length == 64)
  | .aerialDecision _ _ ea eb => fits 64 ea && fits 64 eb
  | .mapResolve _ _ addr check => fits 32 addr && fits 8 check
  | .mapperBlockAdmit _ _ _ p => (p.length == 48)
  | .fpCommit _ _ addr => fits 32 addr
  | .reportMapInstall addr _ => fits 32 addr
  | .mapCompute _ addr _ => fits 32 addr
  | .micVerifyDone _ slot => fits 8 slot
  | .coldLookupDone _ slot => fits 8 slot
  | .comHndDone _ slot => fits 8 slot
  | .hotPin _ h => fits 32 h
  | .hotUnpin _ h => fits 32 h
  | .cipherSchedBlock tag sf drift tsync => fits 32 tag && fits 32 sf && fits 32 drift && fits 32 tsync
  | .floodWiredDeadline t _ => fits 32 t
  | .floodJitterEnd t => fits 32 t
  | .jobDeadline t => fits 32 t
  | .flashPageProgram t _ => fits 32 t
  | .flashMappingRecord t _ => fits 32 t
  | .relayBind _ _ i => fits 32 i
  | .relayDeadline _ i => fits 32 i
  | .relayBoundSettle _ i => fits 32 i
  | .radioNeighbourUpdate _ i => fits 32 i
  | .claimRx i => fits 32 i
  | .lsdbUpdate i => fits 32 i
  | .forwardBind _ _ i => fits 32 i
  | .forwardDeadline _ i => fits 32 i
  | .forwardBoundSettle _ i => fits 32 i
  | .beaconTimeMeasure _ i => fits 32 i
  | .rosterRx i => fits 32 i
  | .handoverRx i => fits 32 i
  | .tagfwdSend _ i => fits 32 i
  | .tagfwdRx i => fits 32 i
  | .rollupRx i => fits 32 i
  | .questionRx i => fits 32 i
  | .cueRx i => fits 32 i
  | .pieceRx _ i => fits 32 i
  | .pieceReqRx i => fits 32 i
  | .homeRx i => fits 32 i
  | .bskUpRx i => fits 32 i
  | .bskDownRx _ i => fits 32 i
  | .dnAckRx _ i => fits 32 i
  | .lit32 _ i => fits 32 i
  | .fabricDatagramRx _ hop _ _ => fits 8 hop
  | .lsdbRecordExpire a => fits 32 a
  | .jobCopy _ a => fits 32 a
  | .jobFill _ a => fits 32 a
  | .jobCipher _ a => fits 32 a
  | .jobHash _ a => fits 32 a
  | .jobCrcFeed _ a => fits 32 a
  | .jobCrcAppend _ a => fits 32 a
  | .jobCrcStrip _ a => fits 32 a
  | .jobFlood _ a => fits 32 a
  | .jobSend _ a => fits 32 a
  | .fabTimeSet _ v => fits 64 v
  | .gioAtWrite _ _ v => fits 64 v
  | .updActAtWrite _ v => fits 64 v
  | .handoverTimeout shard q => fits 16 shard && fits 8 q
  | .tagPieceSend tag k => fits 32 tag && fits 16 k
  | .homeDecide tag fcnt => fits 32 tag && fits 32 fcnt
  | .homeLapse tag => fits 32 tag
  | .bskDownTx req fcnt => fits 32 req && fits 32 fcnt
  | .bskDnExpire req => fits 32 req
  | .alarmSourceDetect src _ => fits 16 src
  | .alarmLatch src => fits 16 src
  | .jobEnd t units _ _ => fits 32 t && fits 32 units
  | .poolFree _ _ c => fits 32 c
  | .crcDataFeed _ _ width v => (width == 1 || width == 2 || width == 4) && fits 32 v
  | .lit8 _ i => fits 8 i
  | .lit16 _ i => fits 16 i
  | .ldw _ cb => fits 8 cb
  | .ldh _ cb => fits 8 cb
  | .ldhs _ cb => fits 8 cb
  | .ldb _ cb => fits 8 cb
  | .ldbs _ cb => fits 8 cb
  | .xldw _ cb => fits 8 cb
  | .ldd _ cb0 cb1 => fits 8 cb0 && fits 8 cb1
  | .jmp _ off => fits 16 off
  | .jz _ off => fits 16 off
  | .jnz _ off => fits 16 off
  | .call _ off => fits 16 off
  | .jmp8 _ off => fits 8 off
  | .jz8 _ off => fits 8 off
  | .jnz8 _ off => fits 8 off
  | .trap _ n => fits 8 n
  | .rdsr _ n => fits 8 n
  | .wrsr _ n => fits 8 n
  | .eventArrive _ code src arg => fits 16 code && fits 16 src && fits 32 arg
  | .scrubRead _ err => fits 2 err
  | .dramPanic _ level _ => fits 13 level
  | .dramRefresh _ _ base => fits 32 base
  | .linkUp _ level sqi _ => fits 16 level && fits 8 sqi
  | .hspiWrite _ crc _ _ => fits 32 crc
  | .hspiDbgWrite _ crc _ _ => fits 32 crc
  | .stageWrite _ k v b => fits 24 k && fits 64 v && shortB b
  | .registerWrite _ k v b => fits 24 k && fits 64 v && shortB b
  | .evtPost _ b => shortB b
  | .buckStart vin => fits 16 vin
  | .sccp vin _ => fits 16 vin
  | .buckRestart vin => fits 16 vin
  | .powerFail cause vin => fits 8 cause && fits 16 vin
  | .railFault rail => fits 4 rail
  | .wakeSource c => fits 5 c
  | .pwrTableWrite _ b => (b.length == 8)
  | .romBoot mode _ => fits 2 mode
  | .recWrite off _ crc => fits 32 off && fits 32 crc
  | .recDone total _ => fits 32 total
  | .fallbackStall _ | .counterSourceEvent _ | .counterCapture _ | .tcRun _ _ _ | .tcClear _ _ | .tcSwcap _ _
  | .tcCountRead _ | .tcCapRead _ _ | .panelDebounceExpiry _ | .panelHoldExpiry _ | .touchScanStart _ | .touchFault _
  | .synCmdCalibrate _ | .calForced _ | .synthCalDone _ _ | .synthSettleDone _ | .synthSettleTimeout _ | .unlock _
  | .entryPrepare _ | .txRampStart _ | .txStartDeadline _ | .txEnd _ | .blankingEnd _ | .aerialSwitchSettled _
  | .gainStepDown _ | .gainWindowEnd _ _ | .gainForcedUp _ | .preambleDetected _ _ _ | .qualifier _ _ _
  | .syncTimeout _ _ | .frameLastSample _ _ _ | .drainDone _ _ _ _ _ | .gridOutputsValid _ _ | .captureArm _ _
  | .captureTriggerNow _ | .captureStop _ _ | .captureAtExpiry _ | .captureDone _ _ | .captureOverrun _ _
  | .fpCheckDone _ | .commitDeadline _ | .withdraw _ _ | .stop _ _ | .park _ _ | .uplinkWindowClose _
  | .ackVerdictCutoff _ | .ccaAssess _ _ | .airtimeBinTurnover | .seqJudge | .rxqPublish _ | .floodTake
  | .floodWiredSend _ | .helloSend _ | .helloRx _ | .peerLost _ | .addrListenEnd | .addrClaimWaitEnd
  | .conflictOriginate | .conflictWaitEnd | .lsaOriginate | .spfRun | .unicastTake | .unicastWiredSend _
  | .timeReqSend _ | .timeReqRx _ | .timeRspSend _ | .timeRspRx _ | .timeExchangeMiss _ | .timingSuperframeCheck
  | .parentSwitch | .referenceTake | .rosterCheck | .rosterAdopt | .pressCount | .rollupSend | .hcReport | .qOpen _ _
  | .qCancel _ _ | .questionReflood | .questionOpenAt _ | .questionCloseAt _ | .questionFinal _ | .ltnSend _
  | .cueFire | .hmpStart _ | .hmpStop _ | .catalogReflood | .pieceSeed | .pieceReqSend | .bskRecordSend
  | .bskStatusSend | .bskDnSend _ | .shlGenerate _ | .shlImport _ | .shlExport _ | .shlAgree _ | .shlDerive _
  | .shlErase _ | .shlRestrict _ | .shlCtrSync _ | .shlPermit _ | .shlAttest _ | .shlPubkey _ | .shlSign _
  | .shlVerify _ | .shlSetOwner _ | .shellCmd | .shellReady | .drbgReseed | .rngFail | .rngRecover _ | .keyBusClose _
  | .slotZeroise | .fusePurge | .measExtend _ _ _ | .debugChallenge | .debugResponse _ | .debugUnlockEnd | .jobStart
  | .jobRecovery | .snapshotPublish | .crcStart _ _ | .nop _ | .dup _ | .drop _ | .swap _ | .overElem _ | .rot _
  | .nip _ | .pick _ | .depth _ | .tor _ | .fromr _ | .rfetch _ | .litn _ _ | .add _ | .sub _ | .neg _ | .mul _
  | .mull _ | .mullu _ | .divs _ | .divu _ | .and _ | .or _ | .xor _ | .not _ | .shl _ | .shr _ | .sar _ | .rol _
  | .ror _ | .eq _ | .ne _ | .lt _ | .ltu _ | .gt _ | .gtu _ | .eqz _ | .stw _ | .sth _ | .stb _ | .std _ | .swp _
  | .cas _ | .ret _ | .jmpi _ | .calli _ | .rett _ | .wait _ | .evget _ | .evpost _ | .brk _ | .xstw _ | .grow _
  | .corRestart _ _ | .corHold _ _ | .dramRequest _ _ | .dramInit | .dramReady | .rhVictimRefresh | .rhWindowStart
  | .dramRetrainPause _ _ _ | .dramFenceCheck | .dramFenced _ | .flProgram _ | .flErase _ | .flRelocate _
  | .flCtrword _ | .flBlank _ | .flReadchk _ _ | .flSector _ | .backgroundErase _ | .backgroundEraseDone _
  | .flashReadSuspend _ | .flashResume _ | .ethFrameRx _ _ _ | .neighborSolicitationRx _ | .echoRequestRx _
  | .linkDown _ | .hspiStatus _ | .hspiRead _ | .hspiDbgRead _ | .memRead | .memWrite | .step | .openReq | .openFin
  | .sessionOpenTimeout _ | .securedRx | .read | .write | .blockRead | .blockWrite | .commit | .subscribe
  | .unsubscribe | .close | .ping | .notify | .sessionIdleTimeout _ | .comSsClose _ | .handlerTimeout
  | .comDomDataRead _ | .gpioEdge _ _ | .gpioTimedDrive _ | .powerUpSequence | .pgGood _ | .buckStop
  | .railFaultRestart | .thermalShutdown | .thermalRestart | .pstate | .dozeEntry | .hibernateEntry | .dozeWake
  | .hibernateWake _ | .marginGuard | .compassSurvey | .compassPlan _ | .vcoreLowerStep | .pinReset _
  | .baseFirmwareStart | .recStatus | .imCheck _ | .imSwitchRoll _ | .imSwitchReset _ | .imConfirm _ | .imAbandon _
  | .updPieceWrite _ _ | .bundleComplete | .updCheck _ | .updCancel _ | .updAbandon _ | .updClear _ | .updateActivate
  | .rollStep _ | .healthCheck | .healthDeadline | .sampleClockLockLost _ | .sampleClockLockReturn _ | .xo32kStart
  | .reservedOpcode _ | .vcoreRampDone => true

end Sys2Proof
end

