-- ==== Sys2Proof/Tests/Slice0.lean ====
section
/-!
SUPPORT. The model's own tests: the well-formedness checks, a witness for the hypotheses of each clause of the statements,
and single steps whose results stand in the spec.
-/
open Sys2Proof Sys2Proof.Machine

namespace Sys2Proof.Tests

set_option Elab.async false

/-- The first three hypotheses of a witness are shown together, before the rest. -/
theorem and3 {a b c rest : Prop} (h : a ∧ b ∧ c) (t : rest) : a ∧ b ∧ c ∧ rest := ⟨h.1, h.2.1, h.2.2, t⟩

/-- The state after reset with these values in objects. -/
def withO (l : List (Key × Nat)) : State := { State.reset with objs := l }

/-- Core 0 runs in system SRAM with 16 elements on each stack. -/
def runCore : State :=
  { State.reset with cores := vmod State.reset.cores 0 (fun x =>
    { x with mode := .run, pc := 0x20000000, dsp := x.dsp - 64, rsp := x.rsp - 64 }) }

/-- runCore with 1 on top of its data stack. -/
def runCore1 : State := { runCore with mem := [(0x20010FC0, 1)] }

/-- runCore with address 0x20000100 on top. -/
def loadCore : State := { runCore with mem := [(0x20010FC1, 1), (0x20010FC3, 32)] }

/-- The warden in Sprout mode with the address 0x20000100 in four elements. -/
def sproutCore : State :=
  { State.reset with
    cores := vmod State.reset.cores 4 (fun x => { x with sds := 0xFEFC })
    mem := [(0x20003EFC, 32), (0x20003EFE, 1)] }

/-- The warden in Sprout mode with eight elements, the address on top. -/
def sproutCore8 : State :=
  { sproutCore with cores := vmod State.reset.cores 4 (fun x => { x with sds := 0xFEF8 }), mem := [(0x20003EF8, 32), (0x20003EFA, 1)] }

/-- runCore in a trap handler. -/
def trapCore : State := { runCore with cores := vmod runCore.cores 0 (fun x => { x with tm := true }) }

/-- runCore with one event queued. -/
def eventCore : State := { runCore with cores := vmod runCore.cores 0 (fun x => { x with queue := [⟨2, 1, 7⟩] }) }

/-- Core 0 in WAIT. -/
def waitCore : State := { runCore with cores := vmod runCore.cores 0 (fun x => { x with mode := .wait }) }

/-- runCore with a full event queue. -/
def fullCore : State :=
  { runCore with cores := vmod runCore.cores 0 (fun x => { x with queue := List.replicate 32 ⟨2, 1, 7⟩ }) }

/-- Session 2 is open at level OPERATE, and one request waits. -/
def sessReq (ty tag : Nat) (p : Bytes) : State :=
  { withO [(Obj.COM_Ss_STATE 2, 2), (Obj.COM_Ss_LEVEL 2, 2)] with com := { requests := [⟨.session 2, ⟨ty, tag, p⟩⟩] } }

/-- The debug channel is open to the owner, and one request waits there. -/
def debugReq (ty tag : Nat) (p : Bytes) : State :=
  { withO [(Obj.SHL_DBG_STATE, 1)] with com := { requests := [⟨.debug, ⟨ty, tag, p⟩⟩] } }

/-- Element 0 of slice 0's receive ring is a NEW beacon of 26 bytes. -/
def beaconState : State :=
  { State.reset with mem := [(State.reset.o (Obj.MAC_RXQn_ADDR 0) + 8, 26), (State.reset.o (Obj.MAC_RXQn_ADDR 0) + 50, 6)] }

/-- An element of slice 3's receive queue. -/
def rxElem (mic verdict : Option Nat) (cold : Bool) : RxElem :=
  { slot := 255, listener := 0, chan := 0, freq := 0, legacy := false, rcd := [], psdu := [], endAt := 0, cells := [],
    mic := mic, verdict := verdict, cold := cold }

/-- That element waits alone, and DRAM is awake. -/
def rxState (mic verdict : Option Nat) (cold : Bool) : State :=
  { withO [(Obj.DRM_STATE, 2)] with slices := vmod State.reset.slices 3 (fun x => { x with rx := [rxElem mic verdict cold] }) }

/-- A transmission that waits, or that ramped at an instant. -/
def waitTx (ramp : Option Instant) : TxSt :=
  { kind := 0x10, led := 0, start := 9600, tol := 384, dur := 960, lbt := false, be := 0, at_ := 0, ramp := ramp, ended := false,
    cut := none, port := 0, charge := 1152, bkts := [], cells := [], chans := [], sel := 960 }

/-- Slice 2 holds that transmission, with its synthesizer in a state. -/
def txState (syn : Nat) (ramp : Option Instant) : State :=
  { withO [(Obj.SLCn_SYN_STATE 2, syn)] with
    slices := vmod State.reset.slices 2 (fun x => { x with txs := [waitTx ramp] })
    power := { State.reset.power with pgGood := true } }

/-- Slice 2 runs a program whose slots are all QUIET, with both ports idle for long. -/
def quietState : State :=
  { withO [(Obj.SLCn_SYN_STATE 2, 3), (Obj.SLCn_LC_STATE 2, 3), (Obj.SLCn_PROBE_INT 2, 4), (Obj.SLCn_AERIAL_MODE 2, 1),
      (Obj.SLCn_TUNER_SET 2, 0xFF), (Obj.SLCn_CENTRE_HZ 2, 868000000), (Obj.AIR_REGION, 1), (Obj.AIR_BKTk_LO_HZ 0, 860000000),
      (Obj.AIR_BKTk_HI_HZ 0, 870000000), (Obj.AIR_BKTk_ENABLE 0, 1), (Obj.AIR_BKTk_LIMIT 0, 1000000)] with
    slices := vmod State.reset.slices 2 (fun x => { x with idle := Vector.replicate 2 9, prog := some ⟨List.replicate 64 3, [], []⟩ }) }

/-- Slice 2 is unblanked, with listener 47 in a state under an assignment. -/
def lsnState (st asg : Nat) (l : LsnSt) : State :=
  { withO [(Obj.SLCn_SYN_STATE 2, 3), (Obj.SLCn_LSNk_STATE 2 47, st), (Obj.SLCn_LSNk_NOW 2 47, asg)] with
    slices := vmod State.reset.slices 2 (fun x => { x with spans := [], lsn := vmod x.lsn 47 (fun _ => l) }) }

/-- Slice 2 in LOCK, unblanked, has automatic gain at an index, after its capture trigger. -/
def gainState (g trig : Nat) : State :=
  { withO [(Obj.SLCn_SYN_STATE 2, 3), (Obj.SLCn_GAIN_NOW 2, g), (Obj.SLCn_GAIN_FIX 2, 0xFF), (Obj.SLCn_CAP_TRIG 2, trig)] with
    slices := vmod State.reset.slices 2 (fun x => { x with spans := [] }) }

/-- Listener 47 of slice 3 drains an LOFDM frame whose PSDU is its address alone. -/
def drainState : State :=
  { withO [(Obj.SLCn_LSNk_STATE 3 47, 4), (Obj.SLCn_LSNk_NOW 3 47, 0x200)] with
    slices := vmod State.reset.slices 3 (fun x => { x with lsn := vmod x.lsn 47 (fun l => { l with len := 4 }) }) }

/-- The mapper of slice 2 runs and listener 0 searches on channel 0 of its bank. -/
def mapState : State :=
  { withO [(Obj.SLCn_BANK0_GRID 2, 3), (Obj.SLCn_MAP_ENABLE 2, 1), (Obj.SLCn_LSNk_STATE 2 0, 1), (Obj.SLCn_LSNk_NOW 2 0, 0x200)] with
    slices := vmod State.reset.slices 2 (fun x => { x with spans := [] }) }

/-- An entry of slice 2 waits for its preparation. -/
def entryState (syn : Nat) : State :=
  { withO [(Obj.SLCn_SYN_STATE 2, syn)] with slices := vmod State.reset.slices 2 (fun x => { x with runs := [⟨7, [1], 480, 0, false⟩] }) }

/-- The gang ACK of a window of slice 2 is to be fixed. -/
def ackState : State :=
  { withO [(Obj.SLCn_ACK_ENABLE 2, 1)] with slices := vmod State.reset.slices 2 (fun x => { x with wins := [⟨0, 5, 9, false, false⟩] }) }

/-- A transmission under listen-before-talk on one channel, far from its deadline. -/
def ccaTx : TxSt := { waitTx none with lbt := true, be := 3, tol := 90000, chans := [{ chan := 0, bank := 0, mode := 0, lo := 0, hi := 0, dur := 0, power := 0, psdu := [] }] }

/-- This anchor holds address 1, alone, and is the service root, with every service enabled. -/
def rootO (l : List (Key × Nat)) : State := withO ([(Obj.FAB_ADDR, 1), (Obj.FAB_ADDR_STATE, 2), (Obj.SVC_ENABLE, 15), (Obj.SVC_ROOT, 1)] ++ l)

/-- A ring element at an address, of a class or service, whose payload stands in the relay buffer. -/
def elemMem (a : Nat) (kind origin : Byte) (p : List Byte) : List (Nat × Byte) :=
  p.mapIdx (fun i b => (0x20080000 + i, b)) ++
    [(a + 1, kind), (a + 2, origin), (a + 10, BitVec.ofNat 8 p.length), (a + 11, BitVec.ofNat 8 (p.length / 256)), (a + 14, 8), (a + 15, 32)]

/-- Element 0 of the delivery ring. -/
def floodState (kind : Byte) (p : List Byte) : State := { rootO [] with mem := elemMem 0x20130000 kind 2 p }

/-- Element 0 of the unicast ring. -/
def uniState (kind : Byte) (p : List Byte) : State := { rootO [] with mem := elemMem 0x20110000 kind 2 p }

/-- Element 0 of slice 0's receive ring is a NEW frame of a type whose PSDU has 40 bytes of zeros. -/
def frameState (ty : Byte) : State :=
  { rootO [] with mem := [((rootO []).o (Obj.MAC_RXQn_ADDR 0) + 8, 40), ((rootO []).o (Obj.MAC_RXQn_ADDR 0) + 50, ty)] }

/-- Element 0 of slice 0's receive ring is a NEW frame of type 3 with a report that the base firmware forwards. -/
def dataState : State :=
  { rootO [] with
    mem := [((rootO []).o (Obj.MAC_RXQn_ADDR 0) + 8, 64), ((rootO []).o (Obj.MAC_RXQn_ADDR 0) + 50, 3)] }

/-- The slack lies below its floor at a core voltage. -/
def guardState (v : Nat) : State :=
  withO [(Obj.PWR_STATE, 1), (Obj.PWR_CPS_SLACK_NOW, 3), (Obj.PWR_CPS_SLACK_FLOOR, 4), (Obj.PWR_VCORE_NOW, v)]

/-- The services of a root, alone in its roster. -/
def rosterState (f : SvcSt → SvcSt) : State :=
  { rootO [] with svc := f { cur := some ⟨1, 0, 0, 1, []⟩, members := [1], published := true } }

/-- A KIND 1 campaign of image 7, 32 bytes in two pieces, for every tag. -/
def campDesc : List Byte :=
  [7, 0, 1, 1, 32, 0, 0, 0, 16, 0, 0, 0] ++ List.replicate 15 0 ++ [9] ++ [0, 0, 0, 0, 255, 255, 255, 255] ++ List.replicate 4 0

/-- That campaign, at the root that started it or at another anchor. -/
def campState (root : Bool) (m : List (Nat × Byte)) : State :=
  { rootO [] with mem := m, svc := { camp := some { desc := campDesc, image := List.replicate 32 5, root := root } } }

/-- The rendezvous key stands in slot 2, and one slot is for rendezvous, with any guard. -/
def rdvO : List (Key × Nat) :=
  [(Obj.MAC_RDV_KEY, 2), (Obj.SHL_SLOTk_ATTR 2, 0x80001), (Obj.TMB_SYNC_STATE, 2), (Obj.MAC_RDV_SLOTS, 1), (Obj.MAC_RDV_GMAX, 0xFFFF)]

/-- The service root at time 0, which knows every rendezvous. -/
def rdvState (v : SvcSt) : State := { rootO rdvO with svc := v }

/-- At time 0 no rendezvous of the superframe has passed. -/
theorem rdvNow_at0 {s : State} {tag k : Nat} (h0 : s.now = 0)
    (h1 : (decide (s.sf % 2 ^ k ≠ tag % 2 ^ k) || decide (s.o Obj.MAC_RDV_GMAX < s.guardOf tag)) = false)
    (h2 : (decide (s.o Obj.MAC_RDV_SLOTS = 0) || !(s.permits (s.o Obj.MAC_RDV_KEY) 3)) = false) :
    s.rdvNow tag k = some ((s.rdvNow tag k).getD (0, 0)) := by
  unfold State.rdvNow State.rdvPlace
  dsimp only
  rw [if_neg (by rw [h1]; decide), if_neg (by rw [h2]; decide)]
  dsimp only
  rw [if_neg (by rw [h0]; exact Nat.not_lt_zero _)]
  rfl

/-- The root of that campaign serves tag 0, whose downlink map A carries 4 bits on every carrier. -/
def tagState : State :=
  { withO ([(Obj.FAB_ADDR, 1), (Obj.FAB_ADDR_STATE, 2), (Obj.SVC_ENABLE, 15), (Obj.SVC_ROOT, 1), (Obj.DRM_STATE, 2), (Obj.DRM_SIZE, 0x38000000)] ++ rdvO) with
    mem := [(0x201C0015, 1), (2148532228, 4), (2148532288, 16)] ++ (List.range 22).map (fun i => (2148532290 + i, 0x44))
    svc := { camp := some { desc := campDesc, image := List.replicate 32 5, root := true }, homesHere := [0] } }

/-- A descriptor of 16 bytes from 0x20000100 to 0x20000200 stands at 0x20000000; slot 9 holds a key for bulk ciphers. -/
def jobState (kind b28 b29 b30 : Byte) : State :=
  { withO [(Obj.SHL_SLOTk_ATTR 9, 0x200001)] with
    mem := [(0x20000000, kind), (0x20000011, 1), (0x20000013, 32), (0x20000015, 2), (0x20000017, 32), (0x20000018, 16),
      (0x2000001C, b28), (0x2000001D, b29), (0x2000001E, b30)] }

/-- That job waits or runs under ticket 0. -/
def openJob (running : Bool) : State :=
  { jobState 1 0 0 0 with jobs := { queue := [{ ticket := 0, core := 2, desc := (jobState 1 0 0 0).rbs 0x20000000 64, running := running }] } }

/-- Core 0 stands at the entry of ROM routine n with these elements on its data stack, the top one first, and nothing below. -/
def stackCore (n : Nat) (l : List Nat) : State :=
  { State.reset with
    cores := vmod State.reset.cores 0 (fun x => { x with
      mode := .run, pc := 0x20001000, dsp := 0x20000000, dsLo := 0x1FFFFF00, rsp := 0x20000000, rsLo := 0x1FFFFF00 })
    mem := [(0x400 + 4 * n, 0), (0x401 + 4 * n, 16), (0x402 + 4 * n, 0), (0x403 + 4 * n, 32)] ++ (List.range (4 * l.length)).map (fun i =>
      (0x20000000 + i, BitVec.ofNat 8 (l.getD (i / 4) 0 / 256 ^ (i % 4)))) }

/-- DRAM serves requests. -/
def dramState : State := withO [(Obj.DRM_STATE, 2), (Obj.DRM_SIZE, 0x38000000)]

/-- A FLASH job of one line in main sector 0. -/
def flashJob0 : FlashJob := { ticket := 5, core := 2, op := 0, area := 0, sector := 0, src := 0x20000100, addr := 0x08000000, len := 16 }

/-- That job, as a routine of this operation, is its bank's turn. -/
def flashState (op : Nat) : State := { withO [] with flash := { jobs := [{ flashJob0 with op := op }] } }

/-- Port 1 is up and answers echoes; one ICMPv6 packet waits there. -/
def icmpState (k : List Byte) : State :=
  { withO [(Obj.COM_Tp_LINK 1, 1), (Obj.COM_Tp_ECHO 1, 1), (Obj.COM_Tp_MAC 1, 0x020000000001)] with
    com := { ports := vmod State.reset.com.ports 1 (fun x => { x with icmp := if k = [] then [] else [k] }) } }

/-- A solicitation of port 1's link-local address, with hop limit 255. -/
def nsPacket (ty : Byte) : List Byte :=
  List.replicate 7 0 ++ [255] ++ List.replicate 16 1 ++ List.replicate 16 2 ++ [ty] ++ List.replicate 7 0 ++ (icmpState []).llAddr 1

/-- An echo request from a link-local address. -/
def echoPacket : List Byte :=
  List.replicate 8 0 ++ [0xFE, 0x80] ++ List.replicate 14 0 ++ (icmpState []).llAddr 1 ++ [128] ++ List.replicate 7 0

/-- Port 1 with a MAC address, before it comes up. -/
def linkS : State := withO [(Obj.COM_Tp_MAC 1, 0x020000000001)]

/-- Port 1 just up, before its addresses are tentative. -/
def linkU : State :=
  (((linkS.setO (Obj.COM_Tp_LINK 1) 2).setO (Obj.COM_Tp_SQI 1) (min 7 3)).setO (Obj.COM_Tp_POL 1) (b2n false)).inc (Obj.COM_Tp_UPS 1)

/-- Port 1 with tentative addresses. -/
def linkV : State :=
  ((linkU.setO (Obj.COM_Tp_UP_SINCE 1) (tt64 linkU.now)).setO (Obj.COM_Tp_DAD 1) 0).modPort 1 (fun x => { x with tentative := linkU.now + 38400000, nbrs := [] })

/-- Port 1 just down. -/
def linkD : State := ((withO [(Obj.COM_Tp_LINK 1, 1)]).setO (Obj.COM_Tp_LINK 1) 0).inc (Obj.COM_Tp_DOWNS 1)


/-- A boot record of slot 0 in this state. -/
def bootRecord (st : Byte) : Bytes := [1, 0, 0, 0, 0, st, 1, 0, 7, 0, 0, 0] ++ leBytes 4 (crc32 [1, 0, 0, 0, 0, st, 1, 0, 7, 0, 0, 0])

/-- stackCore with that record as the only one. -/
def imCore (n : Nat) (l : List Nat) (st : Byte) : State := (stackCore n l).wbs 0x08F0A000 (bootRecord st)

/-- The newest record of imCore. -/
theorem imCore_newest {n : Nat} {l : List Nat} {st : Byte}
    (h : (imCore n l st).mem.all (fun e => decide (e.1 < 0x08F0A010) || decide (0x08F0C000 ≤ e.1)) = true)
    (e : (imCore n l st).rbs 0x08F0A000 16 = bootRecord st) (ok : recordOk (bootRecord st) = true) :
    (imCore n l st).newest = some (0x08F0A000, bootRecord st) := by
  rw [State.newest_first h (by rw [e]; exact ok), e]

theorem imCore_recordSt {r : Nat} {l : List Nat} {st : Byte} {n : Nat}
    (h : (imCore r l st).mem.all (fun e => decide (e.1 < 0x08F0A010) || decide (0x08F0C000 ≤ e.1)) = true)
    (e : (imCore r l st).rbs 0x08F0A000 16 = bootRecord st) (ok : recordOk (bootRecord st) = true)
    (k : bState (bootRecord st) = n) : (imCore r l st).recordSt = some n := by
  unfold State.recordSt
  rw [imCore_newest h e ok, ← k]; rfl

/-- Every core runs in 32-bit mode. -/
def bigState : State := { withO [] with cores := State.reset.cores.map (fun c => { c with mode := .run, sprout := false }) }

/-- Session 3 is open at level INSTALL. -/
def hostState : State := withO [(Obj.COM_Ss_STATE 3, 2), (Obj.COM_Ss_LEVEL 3, 3)]

/-- A bundle is staged and session 3 asks. -/
def stagedState : State := hostState.setO Obj.NBF_UPD_STATE 2

/-- A campaign of one piece of one byte, all of it held: byte 0xFF of slot B. -/
def heldState : State :=
  ((withO [(Obj.NBF_UPD_STATE, 1), (Obj.NBF_UPD_COUNT, 1), (Obj.NBF_UPD_IMAGE, 5)]).modBoot (fun b => { b with size := 1 })).wbs
    (markerBase 1) (leBytes 2 5 ++ leBytes 2 0 ++ leBytes 4 (crc32 [0xFF]) ++ leBytes 4 1)

/-- A staged bundle activates at the first epoch boundary. -/
def actState : State := withO [(Obj.NBF_UPD_STATE, 2), (Obj.PWR_STATE, 1), (Obj.NBF_UPD_ACT_AT, tt64 epochT)]

/-- That instant has come. -/
def actU : State := (actState.upTo (linear (tt64 epochT))).setO Obj.NBF_UPD_ACT_AT 0

/-- The mode of that switch. -/
def actMode : Nat :=
  if hStateMin (actU.header actU.target) ≤ actState.o Obj.COR_IMG_STATE_VER ∧ bitOf (hFlags (actU.header actU.target)) 2 = false then 0 else 1

/-- A roll stands here, slice 0 parked. -/
def rollState (r : Roll) : State := (withO [(Obj.SLCn_LC_STATE 0, 1)]).modBoot (fun b => { b with roll := some r })

/-- A trial to be judged until the end of the first superframe. -/
def trialState : State :=
  withO [(Obj.COR_IMG_STATE, 1), (Obj.COR_IMG_HEALTH_AT, tt64 superT), (Obj.PWR_STATE, 1), (Obj.NBF_UPD_HEALTH_HOLD, 9)]

/-- A trial that has held long enough. -/
def holdState : State := trialState.setO Obj.NBF_UPD_HEALTH_HOLD 0

-- WITNESSES

theorem witness_counterSourceEvent : ∃ (s : State) (n : Fin 16),
    s.tcOwned n = false ∧
    s.tcSrc n ≠ 0 ∧
    s.tcSrc n < 4 ∧
    bitOf (s.o (Obj.TMB_TCn_CTRL n)) 0 = true ∧
    s.tcClocked n = true ∧
    bitOf (s.o (Obj.TMB_TCn_CFG n)) 21 = false ∧
    s.o (Obj.TMB_TCn_COUNT n) + 1 < 2 ^ 32 ∧
    s.o (Obj.TMB_TCn_COUNT n) + 1 ≠ s.o (Obj.TMB_TCn_CMP n) :=
  ⟨withO [(Obj.TMB_TCn_CTRL 3, 1), (Obj.TMB_TCn_CFG 3, 1), (Obj.TMB_TCn_COUNT 3, 0xFFFFFFFE), (Obj.TMB_TCn_CMP 3, 9)], 3, by decide +kernel⟩

theorem witness_counterSourceOther : ∃ (s : State) (n : Fin 16),
    (s.tcOwned n = true ∨ s.tcSrc n = 0 ∨ 4 ≤ s.tcSrc n) :=
  ⟨withO [], 3, by decide +kernel⟩

theorem witness_counterCapture : ∃ (s : State) (n : Fin 16),
    s.tcCapSrc n ≠ 0 ∧
    s.tcCapSrc n ≠ 5 :=
  ⟨withO [(Obj.TMB_TCn_CFG 15, 1024)], 15, by decide +kernel⟩

theorem witness_tcRun : ∃ (s : State) (n : Fin 16),
    s.tcOwned n = false :=
  ⟨withO [], 11, by decide +kernel⟩

theorem witness_tcClear : ∃ (s : State) (n : Fin 16),
    s.tcOwned n = false :=
  ⟨withO [], 15, by decide +kernel⟩

theorem witness_tcSwcap : ∃ (s : State) (n : Fin 16),
    s.tcOwned n = false :=
  ⟨withO [], 0, by decide +kernel⟩

theorem witness_tcCountWrite : ∃ (s : State) (n : Fin 16),
    s.tcOwned n = false :=
  ⟨withO [], 0, by decide +kernel⟩

theorem witness_tcCountRead : ∃ (s : State) (n : Fin 16) (v : Nat),
    s.tcSrc n = 7 ∧
    s.time.tcs[n].countLatch = some v :=
  ⟨({ withO [(Obj.TMB_TCn_CFG 5, 7)] with time := { tcs := vmod (Vector.replicate 16 {}) 5 (fun t => { t with countLatch := some 3 }) } }), 5, 3, by decide +kernel⟩

theorem witness_tcCapRead : ∃ (s : State) (n : Fin 16),
    s.tcSrc n ≠ 7 ∧
    s.tcChain 16 n = [] :=
  ⟨withO [], 15, by decide +kernel⟩

theorem witness_ownedDropped : ∃ (s : State) (n : Fin 16),
    s.tcOwned n = true :=
  ⟨withO [(Obj.TMB_PNLk_MODE 0, 2)], 12, by decide +kernel⟩

theorem witness_missCounterClear : ∃ (cls : Nat),
    1 ≤ cls ∧
    cls ≤ 12 :=
  ⟨12, by decide +kernel⟩

theorem witness_missCounterClearSlice : ∃ (cls : Nat),
    1 ≤ cls ∧
    cls ≤ 4 :=
  ⟨4, by decide +kernel⟩

theorem witness_missCounterRefused : ∃ (cls : Nat) (v : Nat),
    1 ≤ cls ∧
    cls ≤ 12 ∧
    v ≠ 0 :=
  ⟨1, 1, by decide +kernel⟩

theorem witness_panelPress : ∃ (s : State) (k : Fin 4),
    s.o (Obj.TMB_PNLk_MODE k) = 1 ∧
    s.power.xo32k = true ∧
    bitOf (s.o (Obj.TMB_PNLk_STATE k)) 0 = false :=
  ⟨{ withO [(Obj.TMB_PNLk_MODE 3, 1)] with power := { xo32k := true } }, 3, by decide +kernel⟩

theorem witness_panelRelease : ∃ (s : State) (k : Fin 4),
    s.o (Obj.TMB_PNLk_MODE k) = 1 ∧
    s.power.xo32k = true ∧
    bitOf (s.o (Obj.TMB_PNLk_STATE k)) 0 = true :=
  ⟨{ withO [(Obj.TMB_PNLk_MODE 0, 1), (Obj.TMB_PNLk_STATE 0, 3)] with power := { xo32k := true } }, 0, by decide +kernel⟩

theorem witness_panelHold : ∃ (s : State) (k : Fin 4),
    s.o (Obj.TMB_PNLk_MODE k) = 1 ∧
    s.o (Obj.TMB_PNLk_HOLD k) ≠ 0 ∧
    bitOf (s.o (Obj.TMB_PNLk_STATE k)) 0 = true ∧
    bitOf (s.o (Obj.TMB_PNLk_STATE k)) 1 = false :=
  ⟨withO [(Obj.TMB_PNLk_MODE 0, 1), (Obj.TMB_PNLk_HOLD 0, 1), (Obj.TMB_PNLk_STATE 0, 1)], 0, by decide +kernel⟩

theorem witness_touchScan : ∃ (s : State) (u : State) (k : Fin 4),
    s.o (Obj.TMB_PNLk_MODE k) = 2 ∧
    s.time.panels[k].measuring = false ∧
    s.pwr ≤ 3 ∧
    (u = if s.time.panels[k].scanned then s.upTo (s.time.panels[k].startedAt + s.o (Obj.TMB_PNLk_SCAN k) * 38400) else s) :=
  ⟨{ withO [(Obj.TMB_PNLk_MODE 2, 2)] with time := { panels := Vector.replicate 4 { first := true } } }, _, 2, and3 (by decide +kernel) rfl⟩

theorem witness_touchFirst : ∃ (s : State) (k : Fin 4),
    s.o (Obj.TMB_PNLk_MODE k) = 2 ∧
    s.time.panels[k].measuring = true ∧
    s.time.panels[k].first = true ∧
    s.pwr ≤ 3 :=
  ⟨{ withO [(Obj.TMB_PNLk_MODE 2, 2)] with time := { panels := Vector.replicate 4 { first := true, measuring := true } } }, 2, by decide +kernel⟩

theorem witness_touchFault : ∃ (s : State) (k : Fin 4),
    s.o (Obj.TMB_PNLk_MODE k) = 2 ∧
    s.time.panels[k].measuring = true ∧
    bitOf (s.o (Obj.TMB_PNLk_STATE k)) 0 = false ∧
    s.pwr ≤ 3 :=
  ⟨{ withO [(Obj.TMB_PNLk_MODE 2, 2)] with time := { panels := Vector.replicate 4 { first := true, measuring := true } } }, 2, by decide +kernel⟩

theorem witness_touchFaultTouched : ∃ (s : State) (k : Fin 4),
    s.o (Obj.TMB_PNLk_MODE k) = 2 ∧
    s.time.panels[k].measuring = true ∧
    bitOf (s.o (Obj.TMB_PNLk_STATE k)) 0 = true ∧
    s.pwr ≤ 3 :=
  ⟨{ withO [(Obj.TMB_PNLk_MODE 2, 2), (Obj.TMB_PNLk_STATE 2, 1)] with time := { panels := Vector.replicate 4 { measuring := true } } }, 2, by decide +kernel⟩

theorem witness_tickBoundary : ∃ (s : State),
    s.pwr ≠ 4 ∧
    s.power.resetsDue = [] :=
  ⟨withO [], by decide +kernel⟩

theorem witness_slotBoundary : ∃ (s : State),
    s.pwr ≠ 4 :=
  ⟨withO [], by decide +kernel⟩

theorem witness_boundariesInHibernate : ∃ (s : State),
    s.pwr = 4 :=
  ⟨withO [(Obj.PWR_STATE, 4)], by decide +kernel⟩

theorem witness_fallbackNone : ∃ (s : State) (n : Fin 4),
    s.slices[n].stallDue = false :=
  ⟨withO [], 3, by decide +kernel⟩

theorem witness_fallbackStall : ∃ (s : State) (n : Fin 4),
    s.slices[n].stallDue = true :=
  ⟨{ withO [] with slices := Vector.replicate 4 { stallDue := true } }, 3, by decide +kernel⟩

theorem witness_synthSettleDone : ∃ (s : State) (n : Fin 4),
    s.syn n = 2 :=
  ⟨withO [(Obj.SLCn_SYN_STATE 3, 2)], 3, by decide +kernel⟩

theorem witness_synthSettleRetry : ∃ (s : State) (n : Fin 4),
    s.syn n = 2 ∧
    s.slices[n].retries < 2 :=
  ⟨withO [(Obj.SLCn_SYN_STATE 3, 2)], 3, by decide +kernel⟩

theorem witness_synthSettleTimeout : ∃ (s : State) (n : Fin 4),
    s.syn n = 2 ∧
    2 ≤ s.slices[n].retries :=
  ⟨{ withO [(Obj.SLCn_SYN_STATE 3, 2)] with slices := Vector.replicate 4 { retries := 2 } }, 3, by decide +kernel⟩

theorem witness_synthCalDone : ∃ (s : State) (n : Fin 4),
    s.syn n = 1 ∧
    s.slices[n].calAgain = false :=
  ⟨withO [(Obj.SLCn_SYN_STATE 3, 1)], 3, by decide +kernel⟩

theorem witness_synthCalAgain : ∃ (s : State) (n : Fin 4),
    s.syn n = 1 ∧
    s.slices[n].calAgain = false :=
  ⟨withO [(Obj.SLCn_SYN_STATE 3, 1)], 3, by decide +kernel⟩

theorem witness_calForced : ∃ (s : State) (u : State) (n : Fin 4) (t : Instant),
    s.slices[n].oldest = some t ∧
    2 ≤ s.syn n ∧
    u = s.upTo (boundaryAt slotT (max s.now (t + superT))) ∧
    u.onAir n = false :=
  ⟨{ withO [(Obj.SLCn_SYN_STATE 3, 3)] with slices := Vector.replicate 4 { oldest := some 0 } }, ({ withO [(Obj.SLCn_SYN_STATE 3, 3)] with slices := Vector.replicate 4 { oldest := some 0 } } : State).upTo (boundaryAt slotT (max 0 (0 + superT))), 3, 0, by decide +kernel⟩

theorem witness_unlock : ∃ (s : State) (n : Fin 4),
    s.syn n = 3 :=
  ⟨withO [(Obj.SLCn_SYN_STATE 3, 3)], 3, by decide +kernel⟩

theorem witness_txRampStart : ∃ (s : State) (n : Fin 4) (t : TxSt),
    s.nextRamp n = some t ∧
    t.lbt = false ∧
    (s.upTo (t.start - 96)).canSend n = true ∧
    (s.upTo (t.start - 96)).now + 96 ≤ t.start + t.tol :=
  ⟨txState 3 none, 2, waitTx none, by decide +kernel⟩

theorem witness_txStartDeadline : ∃ (s : State) (n : Fin 4) (t : TxSt),
    s.nextRamp n = some t ∧
    (s.upTo (t.start + t.tol - 96)).canSend n = false ∧
    t.kind ≠ 0x12 ∧
    t.kind ≠ 0x13 :=
  ⟨txState 2 none, 2, waitTx none, by decide +kernel⟩

theorem witness_toneDeadline : ∃ (s : State) (n : Fin 4) (t : TxSt),
    s.nextRamp n = some t ∧
    (s.upTo (t.start + t.tol - 96)).canSend n = false ∧
    t.kind = 0x13 :=
  ⟨{ withO [(Obj.SLCn_SYN_STATE 2, 2)] with slices := vmod State.reset.slices 2 (fun x => { x with txs := [{ waitTx none with kind := 0x13 }] }), power := { State.reset.power with pgGood := true } }, 2, { waitTx none with kind := 0x13 }, by decide +kernel⟩

theorem witness_txEnd : ∃ (s : State) (n : Fin 4) (t : TxSt),
    s.running n = some t ∧
    t.cut = none ∧
    t.ended = false :=
  ⟨txState 3 (some 5), 2, waitTx (some 5), by decide +kernel⟩

theorem witness_txPaOff : ∃ (s : State) (n : Fin 4) (t : TxSt),
    s.running n = some t ∧
    t.cut ≠ none :=
  ⟨{ txState 3 none with slices := vmod State.reset.slices 2 (fun x => { x with txs := [{ waitTx (some 5) with cut := some 9 }] }) }, 2, { waitTx (some 5) with cut := some 9 }, by decide +kernel⟩

theorem witness_txPaOffEnded : ∃ (s : State) (u : State) (n : Fin 4) (t : TxSt) (rl : Nat) (fwd : Int),
    s.running n = some t ∧
    t.cut = none ∧
    t.codes = [] ∧
    u = ((s.paOff n t 0x0F).portMeasure n (asFin 2 t.port) rl).paCompress n t fwd :=
  ⟨{ txState 3 none with slices := vmod State.reset.slices 2 (fun x => { x with txs := [{ waitTx (some 5) with ended := true }] }) }, _, 2, { waitTx (some 5) with ended := true }, 9, 3, by decide +kernel, rfl, rfl, rfl⟩

theorem witness_blankingEnd : ∃ (s : State) (n : Fin 4) (t : TxSt),
    s.slices[n].lastTx = some t ∧
    s.slices[n].blanks.contains n.val = true :=
  ⟨{ withO [] with slices := Vector.replicate 4 { blanks := [2], lastTx := some (waitTx none) } }, 2, waitTx none, by decide +kernel⟩

theorem witness_aerialSwitchSettled : ∃ (s : State) (n : Fin 4) (t : Instant),
    s.slices[n].switchEnd = some t :=
  ⟨{ withO [] with slices := Vector.replicate 4 { switchEnd := some 5 } }, 2, 5, by decide +kernel⟩

theorem witness_probe : ∃ (s : State) (n : Fin 4) (p : Fin 2),
    s.toneOk n 2400 = true ∧
    s.probeDue n p = true :=
  ⟨quietState, 2, 0, by decide +kernel⟩

theorem witness_tunerSearch : ∃ (s : State) (n : Fin 4) (rls : List Nat),
    s.toneOk n 4800 = true ∧
    s.o (Obj.SLCn_AERIAL_MODE n) = 1 ∧
    s.o (Obj.SLCn_TUNER_SET n) = 0xFF ∧
    s.slices[n].tunerDue = true ∧
    rls.length = 64 :=
  ⟨quietState, 2, List.replicate 64 7, by decide +kernel⟩

theorem witness_tunerKept : ∃ (s : State) (u : State) (n : Fin 4) (t : TxSt) (fwd : Int),
    s.running n = some t ∧
    t.cut = none ∧
    t.codes.length = 64 ∧
    u = (((s.paOff n t 0x0F).portMeasure n (asFin 2 t.port) (t.codes.foldl max 0)).tunerKeep n t.codes).paCompress n t fwd :=
  ⟨{ txState 3 none with slices := vmod State.reset.slices 2 (fun x => { x with txs := [{ waitTx (some 5) with codes := List.replicate 64 4 }] }) }, _, 2, { waitTx (some 5) with codes := List.replicate 64 4 }, 3, by decide +kernel, rfl, rfl, rfl⟩

theorem witness_probeFound : ∃ (s : State) (u : State) (n : Fin 4) (t : TxSt) (found : Nat) (fwd : Int),
    s.running n = some t ∧
    t.cut = none ∧
    t.codes = [found] ∧
    u = ((s.paOff n t 0x0F).portMeasure n (asFin 2 t.port) found).paCompress n t fwd :=
  ⟨{ txState 3 none with slices := vmod State.reset.slices 2 (fun x => { x with txs := [{ waitTx (some 5) with codes := [4] }] }) }, _, 2, { waitTx (some 5) with codes := [4] }, 4, 3, by decide +kernel, rfl, rfl, rfl⟩

theorem witness_preambleDetected : ∃ (s : State) (n : Fin 4) (k : Fin 48) (first : Instant),
    (s.upTo first).lsnState n k = 1 ∧
    (s.upTo first).blankNow n = false ∧
    (s.upTo first).bankValid n k = true ∧
    (s.upTo first).clearFrom n first (s.upTo first).now = true ∧
    (s.upTo first).hasPort n = true ∧
    (s.upTo first).now ≤ first + preSymbol (aMode ((s.upTo first).lsnNow n k)) :=
  ⟨lsnState 1 0x200 {}, 2, 47, 0, by decide +kernel⟩

theorem witness_aerialDecision : ∃ (s : State) (n : Fin 4) (k : Fin 48),
    s.lsnState n k = 2 ∧
    s.o (Obj.SLCn_AERIAL_MODE n) = 0 ∧
    s.slices[n].lsn[k].decided = false ∧
    s.hasPort n = true :=
  ⟨lsnState 2 0x200 {}, 2, 47, by decide +kernel⟩

theorem witness_aerialTuned : ∃ (s : State) (n : Fin 4),
    s.o (Obj.SLCn_AERIAL_MODE n) = 1 :=
  ⟨withO [(Obj.SLCn_AERIAL_MODE 2, 1)], 2, by decide +kernel⟩

theorem witness_qualifierGood : ∃ (s : State) (n : Fin 4) (k : Fin 48) (bits : Nat),
    s.lsnState n k = 2 ∧
    aMode (s.lsnNow n k) = 1 ∧
    headOk bits = true :=
  ⟨lsnState 2 0x200 {}, 2, 47, 0x200004 + hcsOf 0x200004 * 2 ^ 30, by decide +kernel⟩

theorem witness_qualifierBad : ∃ (s : State) (n : Fin 4) (k : Fin 48) (bits : Nat),
    s.lsnState n k = 2 ∧
    aMode (s.lsnNow n k) = 1 ∧
    headOk bits = false :=
  ⟨lsnState 2 0x200 {}, 2, 47, 0, by decide +kernel⟩

theorem witness_qualifierStd : ∃ (s : State) (n : Fin 4) (k : Fin 48) (x : RxHead) (p : StdPhr) (q : Nat),
    s.lsnState n k = 2 ∧
    s.stdPhr n (aMode (s.lsnNow n k)) x = some p ∧
    p.sw = false ∧
    p.ok = true ∧
    phrLenOk (aMode (s.lsnNow n k)) p.len p.fcs = true ∧
    q = s.slices[n].lsn[k].first + phrEnd (aMode (s.lsnNow n k)) p.pre :=
  ⟨lsnState 2 0x400 {}, 2, 47, .oqpsk 20, { ok := true, len := 20, fcs := 2 }, 7373, by decide +kernel⟩

theorem witness_qualifierOther : ∃ (s : State) (n : Fin 4) (k : Fin 48) (x : RxHead) (p : StdPhr),
    s.lsnState n k = 2 ∧
    s.stdPhr n (aMode (s.lsnNow n k)) x = some p ∧
    p.sw = false ∧
    (p.ok = false ∨ phrLenOk (aMode (s.lsnNow n k)) p.len p.fcs = false) :=
  ⟨lsnState 2 0x400 {}, 2, 47, .oqpsk 128, { ok := false, len := 0, fcs := 2 }, by decide +kernel⟩

theorem witness_qualifierSwitch : ∃ (s : State) (n : Fin 4) (k : Fin 48) (x : RxHead) (p : StdPhr),
    s.lsnState n k = 2 ∧
    s.stdPhr n (aMode (s.lsnNow n k)) x = some p ∧
    p.sw = true :=
  ⟨lsnState 2 0x600 {}, 2, 47, .fsk 1 4 (State.reset.o (Obj.SLCn_FSK_SFD 2)), { sw := true, ok := true, len := 0, fcs := 4, pre := 4 }, by decide +kernel⟩

theorem witness_syncTimeout : ∃ (s : State) (n : Fin 4) (k : Fin 48),
    s.lsnState n k = 2 :=
  ⟨lsnState 2 0x400 {}, 2, 47, by decide +kernel⟩

theorem witness_mapFixed : ∃ (s : State) (n : Fin 4) (k : Fin 48) (addr : Nat) (check : Nat),
    s.lsnState n k = 3 ∧
    aMode (s.lsnNow n k) = 1 ∧
    s.slices[n].lsn[k].resolved = false ∧
    check % 64 = leadCheck (addr % 2 ^ 32) ∧
    s.slices[n].lsn[k].mapId < 16 :=
  ⟨lsnState 3 0x200 {}, 2, 47, 0, leadCheck 0, by decide +kernel⟩

theorem witness_mapBadCheck : ∃ (s : State) (n : Fin 4) (k : Fin 48) (addr : Nat) (check : Nat),
    s.lsnState n k = 3 ∧
    aMode (s.lsnNow n k) = 1 ∧
    s.slices[n].lsn[k].resolved = false ∧
    check % 64 ≠ leadCheck (addr % 2 ^ 32) :=
  ⟨lsnState 3 0x200 {}, 2, 47, 0, leadCheck 0 + 1, by decide +kernel⟩

theorem witness_frameLastSample : ∃ (s : State) (n : Fin 4) (k : Fin 48) (e : Instant),
    s.lsnState n k = 3 ∧
    s.slices[n].lsn[k].resolved = true ∧
    s.slices[n].lsn[k].endAt = some e :=
  ⟨lsnState 3 0x200 { resolved := true, endAt := some 5 }, 2, 47, 5, by decide +kernel⟩

theorem witness_gridOutputsValid : ∃ (s : State) (n : Fin 4) (bank : Fin 2) (t : Instant),
    s.slices[n].invalid[bank] = some t :=
  ⟨{ withO [] with slices := Vector.replicate 4 { invalid := Vector.replicate 2 (some 5) } }, 2, 1, 5, by decide +kernel⟩

theorem witness_mapperBlockAdmit : ∃ (s : State) (u : State) (n : Fin 4) (chan : Fin 32) (start : Instant) (p : List Nat) (b : Nat),
    u = s.upTo (start + 4320) ∧
    u.mapBank n = some b ∧
    u.ob (Obj.SLCn_MAP_ENABLE n) = true ∧
    p.length = 48 ∧
    u.slices[n].accFrom ≤ start ∧
    u.slices[n].validFrom[asFin 2 b] ≤ start ∧
    fin48.any (fun k => u.stoodOn n b chan start k) = true ∧
    fin48.any (fun k => u.syncedOn n b chan start k) = false ∧
    u.clearFrom n start (start + 1920) = true ∧
    u.steppedIn n start (start + 1919) = false ∧
    u.belowMean n chan (sumL p) = true :=
  ⟨mapState, mapState.upTo 4320, 2, 0, 0, List.replicate 48 0, 0, by decide +kernel⟩

theorem witness_gainStepDown : ∃ (s : State) (n : Fin 4),
    s.blankNow n = false ∧
    s.gainAuto n = true ∧
    s.o (Obj.SLCn_GAIN_NOW n) ≠ 0 ∧
    s.o (Obj.SLCn_CAP_TRIG n) ≠ 3 :=
  ⟨gainState 5 0, 2, by decide +kernel⟩

theorem witness_gainStepCaptures : ∃ (s : State) (n : Fin 4),
    s.blankNow n = false ∧
    s.gainAuto n = true ∧
    s.o (Obj.SLCn_GAIN_NOW n) ≠ 0 ∧
    s.o (Obj.SLCn_CAP_TRIG n) = 3 :=
  ⟨gainState 5 3, 2, by decide +kernel⟩

theorem witness_gainBlanked : ∃ (s : State) (n : Fin 4),
    s.blankNow n = true :=
  ⟨withO [], 2, by decide +kernel⟩

theorem witness_gainClipAtFloor : ∃ (s : State) (n : Fin 4),
    s.blankNow n = false ∧
    (s.gainAuto n = false ∨ s.o (Obj.SLCn_GAIN_NOW n) = 0) :=
  ⟨gainState 0 0, 2, by decide +kernel⟩

theorem witness_gainWindowUp : ∃ (s : State) (v : State) (u : State) (n : Fin 4) (rms : Int),
    v = s.upTo (boundaryAt 960 s.now) ∧
    (u = if v.gainMeasured n && !(v.blankNow n) then v.gainJudge n rms else v) ∧
    u.slices[n].upPending.isSome = true ∧
    u.anyHolds n = false ∧
    u.gainAuto n = true ∧
    u.blankNow n = false :=
  ⟨gainState 5 0, (gainState 5 0).upTo 0, _, 2, -200, rfl, rfl, by decide +kernel⟩

theorem witness_gainWindowQuiet : ∃ (s : State) (v : State) (u : State) (n : Fin 4) (rms : Int),
    v = s.upTo (boundaryAt 960 s.now) ∧
    (u = if v.gainMeasured n && !(v.blankNow n) then v.gainJudge n rms else v) ∧
    (u.slices[n].upPending = none ∨ u.anyHolds n = true ∨ u.gainAuto n = false ∨ u.blankNow n = true) :=
  ⟨gainState 5 0, (gainState 5 0).upTo 0, _, 2, -100, rfl, rfl, by decide +kernel⟩

theorem witness_gainForcedUp : ∃ (s : State) (u : State) (n : Fin 4) (t : Instant),
    s.slices[n].upPending = some t ∧
    s.o (Obj.SLCn_GAIN_HOLD n) ≠ 0 ∧
    s.anyHolds n = true ∧
    s.gainAuto n = true ∧
    u = s.upTo (boundaryAt 960 (t + s.o (Obj.SLCn_GAIN_HOLD n))) ∧
    u.blankNow n = false ∧
    u.o (Obj.SLCn_GAIN_NOW n) < 10 :=
  ⟨{ withO [(Obj.SLCn_SYN_STATE 2, 3), (Obj.SLCn_GAIN_NOW 2, 5), (Obj.SLCn_GAIN_HOLD 2, 5), (Obj.SLCn_LSN_HOLDING 2, 1), (Obj.SLCn_GAIN_FIX 2, 0xFF)] with slices := Vector.replicate 4 { upPending := some 5, spans := [] } }, _, 2, 5, and3 (by decide +kernel) ⟨by decide +kernel, rfl, by decide +kernel, by decide +kernel⟩⟩

theorem witness_captureArm : ∃ (s : State) (n : Fin 4),
    s.o Obj.DRM_STATE ≠ 3 ∧
    s.capRuns n = false :=
  ⟨withO [(Obj.DRM_STATE, 2)], 2, by decide +kernel⟩

theorem witness_captureArmAsleep : ∃ (s : State),
    s.o Obj.DRM_STATE = 3 :=
  ⟨withO [(Obj.DRM_STATE, 3)], by decide +kernel⟩

theorem witness_captureTriggerNow : ∃ (s : State) (u : State) (n : Fin 4),
    s.o (Obj.SLCn_CAP_STATE n) = 1 ∧
    u = s.capAdvance n :=
  ⟨withO [(Obj.SLCn_CAP_STATE 2, 1)], (withO [(Obj.SLCn_CAP_STATE 2, 1)]).capAdvance 2, 2, by decide +kernel⟩

theorem witness_captureAtExpiry : ∃ (s : State) (n : Fin 4),
    s.o (Obj.SLCn_CAP_TRIG n) = 1 :=
  ⟨withO [(Obj.SLCn_CAP_TRIG 2, 1)], 2, by decide +kernel⟩

theorem witness_captureStop : ∃ (s : State) (u : State) (n : Fin 4) (data : List Nat),
    u = s.capFeed n data :=
  ⟨withO [(Obj.SLCn_CAP_STATE 2, 2)], _, 2, [7], rfl⟩

theorem witness_captureDone : ∃ (s : State) (n : Fin 4),
    s.o (Obj.SLCn_CAP_STATE n) = 2 :=
  ⟨withO [(Obj.SLCn_CAP_STATE 2, 2)], 2, by decide +kernel⟩

theorem witness_captureOverrun : ∃ (s : State) (n : Fin 4),
    s.capRuns n = true :=
  ⟨withO [(Obj.SLCn_CAP_STATE 2, 2)], 2, by decide +kernel⟩

theorem witness_fpCommit : ∃ (s : State) (n : Fin 4),
    s.o (Obj.SLCn_LC_STATE n) ≠ 0 ∧
    s.now < s.fpDeadline n :=
  ⟨{ withO [(Obj.SLCn_LC_STATE 2, 2)] with slices := vmod State.reset.slices 2 (fun x => { x with tick := 0 }) }, 2, by decide +kernel⟩

theorem witness_fpCommitLate : ∃ (s : State) (n : Fin 4),
    s.o (Obj.SLCn_LC_STATE n) ≠ 0 ∧
    s.fpDeadline n ≤ s.now :=
  ⟨{ withO [(Obj.SLCn_LC_STATE 2, 2)] with now := 400000 }, 2, by decide +kernel⟩

theorem witness_fpCommitHalted : ∃ (s : State) (n : Fin 4),
    s.o (Obj.SLCn_LC_STATE n) = 0 :=
  ⟨withO [(Obj.SLCn_LC_STATE 2, 0)], 2, by decide +kernel⟩

theorem witness_fpCheckDone : ∃ (s : State) (n : Fin 4) (p : Prog) (sl : Nat) (en : Nat),
    s.slices[n].checking = some (p, 1, sl, en) :=
  ⟨{ withO [] with slices := Vector.replicate 4 { checking := some (⟨[], [], []⟩, 1, 0, 0) } }, 2, ⟨[], [], []⟩, 0, 0, by decide +kernel⟩

theorem witness_fpCheckRefuses : ∃ (s : State) (n : Fin 4) (p : Prog) (c : Nat) (sl : Nat) (en : Nat),
    s.slices[n].checking = some (p, c, sl, en) ∧
    c ≠ 1 :=
  ⟨{ withO [] with slices := Vector.replicate 4 { checking := some (⟨[], [], []⟩, 3, 0, 0) } }, 2, ⟨[], [], []⟩, 3, 0, 0, by decide +kernel⟩

theorem witness_commitDeadline : ∃ (s : State) (u : State) (n : Fin 4) (p : Prog),
    s.o (Obj.SLCn_LC_STATE n) ≠ 0 ∧
    u = (s.upTo (s.fpDeadline n)).fpChecked n ∧
    u.slices[n].pend = some p :=
  ⟨{ withO [(Obj.SLCn_LC_STATE 2, 2)] with slices := Vector.replicate 4 { pend := some ⟨[], [], []⟩ } }, ({ withO [(Obj.SLCn_LC_STATE 2, 2)] with slices := Vector.replicate 4 { pend := some ⟨[], [], []⟩ } } : State).upTo (({ withO [(Obj.SLCn_LC_STATE 2, 2)] with slices := Vector.replicate 4 { pend := some ⟨[], [], []⟩ } } : State).fpDeadline 2), 2, ⟨[], [], []⟩, by decide +kernel⟩

theorem witness_withdraw : ∃ (s : State) (t : State) (n : Fin 4),
    s.withdraw n = some t :=
  ⟨{ withO [(Obj.SLCn_LC_STATE 2, 2)] with slices := Vector.replicate 4 { pend := some ⟨[], [], []⟩ } }, (({ withO [(Obj.SLCn_LC_STATE 2, 2)] with slices := Vector.replicate 4 { pend := some ⟨[], [], []⟩ } } : State).withdraw 2).getD State.reset, 2, by decide +kernel⟩

theorem witness_withdrawRefused : ∃ (s : State) (n : Fin 4),
    s.withdraw n = none :=
  ⟨{ withO [] with slices := Vector.replicate 4 { ready := some ⟨[], [], []⟩ } }, 2, by decide +kernel⟩

theorem witness_stop : ∃ (s : State) (t : State) (n : Fin 4),
    s.lcStop n = some t :=
  ⟨withO [(Obj.SLCn_LC_STATE 2, 3)], ((withO [(Obj.SLCn_LC_STATE 2, 3)]).lcStop 2).getD State.reset, 2, by decide +kernel⟩

theorem witness_park : ∃ (s : State) (t : State) (n : Fin 4),
    s.lcPark n = some t :=
  ⟨withO [(Obj.SLCn_LC_STATE 2, 3)], ((withO [(Obj.SLCn_LC_STATE 2, 3)]).lcPark 2).getD State.reset, 2, by decide +kernel⟩

theorem witness_entryStopped : ∃ (s : State) (u : State) (n : Fin 4) (r : EntryRun) (c : Nat),
    s.nextEntry n = some r ∧
    (u = (s.upTo (r.start - 384)).modSlice n (fun x => { x with
      runs := x.runs.map (fun y => if y.index = r.index then { y with past := true } else y) })) ∧
    u.entryStops n r = some c :=
  ⟨entryState 0, ((entryState 0).upTo 96).modSlice 2 (fun x => { x with runs := x.runs.map (fun y => if y.index = 7 then { y with past := true } else y) }), 2, ⟨7, [1], 480, 0, false⟩, 2, by decide +kernel⟩

theorem witness_entryPrepare : ∃ (s : State) (u : State) (n : Fin 4) (r : EntryRun),
    s.nextEntry n = some r ∧
    (u = (s.upTo (r.start - 384)).modSlice n (fun x => { x with
      runs := x.runs.map (fun y => if y.index = r.index then { y with past := true } else y) })) ∧
    u.entryStops n r = none :=
  ⟨entryState 3, ((entryState 3).upTo 96).modSlice 2 (fun x => { x with runs := x.runs.map (fun y => if y.index = 7 then { y with past := true } else y) }), 2, ⟨7, [1], 480, 0, false⟩, by decide +kernel⟩

theorem witness_uplinkWindowClose : ∃ (s : State) (n : Fin 4) (w : UpWin),
    s.slices[n].wins.find? (fun w => !w.closed) = some w :=
  ⟨{ withO [] with slices := Vector.replicate 4 { wins := [⟨0, 5, 9, false, false⟩] } }, 2, ⟨0, 5, 9, false, false⟩, by decide +kernel⟩

theorem witness_ackCutoffOff : ∃ (s : State) (n : Fin 4) (w : UpWin),
    s.slices[n].wins.find? (fun w => !w.fixed) = some w ∧
    s.ob (Obj.SLCn_ACK_ENABLE n) = false :=
  ⟨{ withO [(Obj.SLCn_ACK_ENABLE 2, 0)] with slices := Vector.replicate 4 { wins := [⟨0, 5, 9, false, false⟩] } }, 2, ⟨0, 5, 9, false, false⟩, by decide +kernel⟩

theorem witness_ackVerdictCutoff : ∃ (s : State) (u : State) (n : Fin 4) (w : UpWin) (good : List RxElem),
    s.slices[n].wins.find? (fun w => !w.fixed) = some w ∧
    (u = (s.upTo (w.w + 384)).modSlice n (fun x => { x with
      wins := x.wins.map (fun y => if y.u = w.u then { y with closed := true, fixed := true } else y) })) ∧
    s.ob (Obj.SLCn_ACK_ENABLE n) = true ∧
    good = (u.slices[n].rx.filter (fun e => e.window == some w.u && e.mayAck)).filter (fun e => e.readyBy (w.w + 384) && u.ackKey e) :=
  ⟨ackState, (ackState.upTo 393).modSlice 2 (fun x => { x with wins := [⟨0, 5, 9, true, true⟩] }), 2, ⟨0, 5, 9, false, false⟩, [], by decide +kernel⟩

theorem witness_ccaClear : ∃ (s : State) (n : Fin 4) (pw : List Int) (t : TxSt),
    s.nextAssess n = some t ∧
    (s.upTo t.at_).canSend n = true ∧
    ((List.zip (List.range t.chans.length) t.chans).map (fun x => (s.upTo t.at_).assess n x.2.bank x.2.chan (nth pw x.1 0))).all (fun x => x.2) = true :=
  ⟨{ txState 3 none with slices := vmod State.reset.slices 2 (fun x => { x with txs := [{ waitTx none with lbt := true }] }) }, 2, [], { waitTx none with lbt := true }, by decide +kernel⟩

theorem witness_ccaBusy : ∃ (s : State) (u : State) (n : Fin 4) (pw : List Int) (t : TxSt),
    s.nextAssess n = some t ∧
    t.be ≤ 5 ∧
    (s.upTo t.at_).canSend n = true ∧
    ((List.zip (List.range t.chans.length) t.chans).map (fun x => (s.upTo t.at_).assess n x.2.bank x.2.chan (nth pw x.1 0))).all (fun x => x.2) = false ∧
    u = (if ((List.zip (List.range t.chans.length) t.chans).map (fun x => (s.upTo t.at_).assess n x.2.bank x.2.chan (nth pw x.1 0))).any (fun x => !x.1)
      then ((s.upTo t.at_).inc Obj.AIR_CCA_BUSY).inc Obj.AIR_CCA_NOMEAS else (s.upTo t.at_).inc Obj.AIR_CCA_BUSY) ∧
    t.at_ + 2 ^ t.be * 2458 + 96 ≤ t.start + t.tol :=
  ⟨{ txState 3 none with slices := vmod State.reset.slices 2 (fun x => { x with txs := [ccaTx] }) }, (((txState 3 none).upTo 0).inc Obj.AIR_CCA_BUSY |>.inc Obj.AIR_CCA_NOMEAS |> fun s => { s with slices := vmod State.reset.slices 2 (fun x => { x with txs := [ccaTx] }) }), 2, [400], ccaTx, by decide +kernel⟩

theorem witness_hotPin : ∃ (s : State) (h : Nat),
    h < 8192 ∧
    bitOf (s.hotFlags h) 0 = true ∧
    (s.setHotFlag h 1 true).hotFull (h / 8) = false :=
  ⟨{ withO [] with mem := [(hotAddr 8 + 21, 1)] }, 8, by decide +kernel⟩

theorem witness_hotPinRefused : ∃ (s : State) (h : Nat),
    (8192 ≤ h ∨ bitOf (s.hotFlags h) 0 = false ∨ (s.setHotFlag h 1 true).hotFull (h / 8) = true) :=
  ⟨withO [], 8, by decide +kernel⟩

theorem witness_hotUnpin : ∃ (s : State) (h : Nat),
    h < 8192 ∧
    bitOf (s.hotFlags h) 0 = true :=
  ⟨{ withO [] with mem := [(hotAddr 8 + 21, 1)] }, 8, by decide +kernel⟩

theorem witness_reportMapInstall : ∃ (s : State) (addr : Nat) (h : Nat) (i : Nat) (map : Bytes),
    s.hotLookup (addr % 2 ^ 32) = some h ∧
    s.hwHas (s.mapRec h) 128 = true ∧
    mapOk (sliceB map 0 24) = true ∧
    s.recordOf h (addr % 2 ^ 32) = true ∧
    s.holdsUp h (sliceB map 0 24) = false ∧
    s.openSlot h = some i :=
  ⟨{ withO [(Obj.DRM_STATE, 2), (Obj.DRM_SIZE, 0x38000000)] with mem := [(hotAddr 0 + 21, 1)] }, 0, 0, 0, 16 :: 0 :: List.replicate 22 0x11, by decide +kernel⟩

theorem witness_mapCompute : ∃ (s : State) (addr : Nat) (h : Nat) (q : MapAsk),
    s.hotLookup (addr % 2 ^ 32) = some h ∧
    s.hwHas (s.mapRec h) 128 = true ∧
    s.recordOf h (addr % 2 ^ 32) = true ∧
    (q.asked = true ∨ s.mapPeriodOver (addr % 2 ^ 32) q.dn.isSome = true) :=
  ⟨{ withO [(Obj.DRM_STATE, 2), (Obj.DRM_SIZE, 0x38000000)] with mem := [(hotAddr 0 + 21, 1)] }, 0, 0, ⟨true, none⟩, by decide +kernel⟩

theorem witness_mapComputeNotDue : ∃ (s : State) (addr : Nat) (q : MapAsk),
    q.asked = false ∧
    s.mapPeriodOver (addr % 2 ^ 32) q.dn.isSome = false :=
  ⟨withO [(Obj.NBF_LOAD_PERIOD, 0)], 0, ⟨false, none⟩, by decide +kernel⟩

theorem witness_drainGood : ∃ (s : State) (n : Fin 4) (k : Fin 48) (raw : Bytes) (p : Bytes),
    s.lsnState n k = 4 ∧
    s.rxDecode n k raw = (p, true) :=
  ⟨drainState, 3, 47, descrambled 0 (leBytes 4 (crc32 [0, 0, 0, 0])), [0, 0, 0, 0], by decide +kernel⟩

theorem witness_drainBad : ∃ (s : State) (n : Fin 4) (k : Fin 48) (raw : Bytes) (p : Bytes),
    s.lsnState n k = 4 ∧
    s.rxDecode n k raw = (p, false) :=
  ⟨drainState, 3, 47, [], [0, 0, 0, 0], by decide +kernel⟩

theorem witness_micVerifyDone : ∃ (s : State) (n : Fin 4) (slot : Nat) (e : RxElem),
    s.rxAt n slot = some e ∧
    e.mic = none :=
  ⟨rxState none none false, 3, 255, rxElem none none false, by decide +kernel⟩

theorem witness_seqJudge : ∃ (s : State) (n : Fin 4) (e : RxElem),
    s.nextJudge = some (n, e) :=
  ⟨rxState (some 1) none false, 3, rxElem (some 1) none false, by decide +kernel⟩

theorem witness_coldLookupFull : ∃ (s : State) (n : Fin 4) (slot : Nat) (e : RxElem),
    s.rxAt n slot = some e ∧
    e.cold = true ∧
    s.coldBehind n e = false ∧
    s.hotLookup (fSender e.psdu) = none ∧
    s.dramSleeps = false ∧
    s.hotFull (hotSet (fSender e.psdu)) = true :=
  ⟨{ rxState none none true with mem := (List.range 8).flatMap (fun w => [(hotAddr w, 1), (hotAddr w + 21, 3)]) }, 3, 255, rxElem none none true, by decide +kernel⟩

theorem witness_coldLookupPromotes : ∃ (s : State) (n : Fin 4) (slot : Nat) (e : RxElem),
    s.rxAt n slot = some e ∧
    e.cold = true ∧
    s.coldBehind n e = false ∧
    s.hotLookup (fSender e.psdu) = none ∧
    s.dramSleeps = false ∧
    s.hotFull (hotSet (fSender e.psdu)) = false :=
  ⟨rxState none none true, 3, 255, rxElem none none true, by decide +kernel⟩

theorem witness_rxqPublish : ∃ (s : State) (n : Fin 4) (e : RxElem) (l : List RxElem) (v : Nat),
    s.slices[n].rx = e :: l ∧
    e.verdict = some v ∧
    s.winOver n e = true :=
  ⟨rxState (some 1) (some 0) false, 3, rxElem (some 1) (some 0) false, [], 0, by decide +kernel⟩

theorem witness_rxqConsWrite : ∃ (s : State) (n : Fin 4) (v : Nat),
    consOk 65536 (s.o (Obj.MAC_RXQn_CONS n)) (s.o (Obj.MAC_RXQn_PROD n)) v = true :=
  ⟨withO [(Obj.MAC_RXQn_PROD 0, 3)], 0, 3, by decide +kernel⟩

theorem witness_cipherSchedNone : ∃ (s : State),
    s.o Obj.MAC_RDV_SLOTS = 0 :=
  ⟨withO [(Obj.MAC_RDV_SLOTS, 0)], by decide +kernel⟩

theorem witness_cipherSchedBlock : ∃ (s : State) (tag : Nat) (sf : Nat) (drift : Nat) (tsync : Nat) (o : Bytes) (place : Bytes),
    s.o Obj.MAC_RDV_SLOTS ≠ 0 ∧
    s.permits (s.o Obj.MAC_RDV_KEY) 3 = true ∧
    o = Config.aesBlock (s.keyOf (s.o Obj.MAC_RDV_KEY)) (rdvBlock tag sf) ∧
    s.guard drift tsync ≤ s.o Obj.MAC_RDV_GMAX ∧
    place = leBytes 8 (tt64 (superStart (linear sf) + frameT * (fieldN o 0 2 % 100) +
      slotT * setBitNo (s.o Obj.MAC_RDV_SLOTS) (fieldN o 2 1 % popCount 8 (s.o Obj.MAC_RDV_SLOTS)) +
      (if fieldN o 3 1 % 2 = 0 then 1200 else 24000))) ++
    leBytes 4 (s.o Obj.MAC_RDV_BASE_HZ + 1000000 * (fieldN o 4 2 % s.o Obj.MAC_RDV_NCH)) ++ leBytes 4 (s.guard drift tsync) :=
  ⟨withO [(Obj.MAC_RDV_KEY, 2), (Obj.SHL_SLOTk_ATTR 2, 0x80001), (Obj.TMB_SYNC_STATE, 2), (Obj.MAC_RDV_SLOTS, 1), (Obj.MAC_RDV_GMAX, 0xFFFF)], 1, 0, 0, 0, Config.aesBlock [] (rdvBlock 1 0), _, by decide, by decide, rfl, by decide, rfl⟩

theorem witness_acceptedOnce : ∃ (w : SeqWin) (v : SeqWin) (roll : Option (Nat × Nat)) (k : Nat) (c : Nat) (r : Bool),
    w.floor ≤ w.h ∧
    w.judge roll k c = (0, r, v) :=
  ⟨⟨5, 1, 5, 2⟩, ⟨6, 3, 5, 2⟩, none, 2, 6, false, by decide +kernel⟩

theorem witness_replayBehind : ∃ (w : SeqWin) (c : Nat),
    c ≤ w.h ∧
    (c + 64 ≤ w.h ∨ c < w.floor) :=
  ⟨⟨80, 1, 5, 2⟩, 16, by decide +kernel⟩

theorem witness_highestNeverFalls : ∃ (w : SeqWin) (v : SeqWin) (roll : Option (Nat × Nat)) (c : Nat) (n : Nat) (r : Bool),
    w.judge roll w.key c = (n, r, v) :=
  ⟨⟨80, 1, 5, 2⟩, ⟨80, 1, 5, 2⟩, none, 16, 2, false, by decide +kernel⟩

theorem witness_floodTakeDrop : ∃ (s : State) (t : State) (m : InMsg) (code : Nat),
    s.sysclk = true ∧
    s.takeMsg (fun m => m.flood) = (some m, t) ∧
    t.floodCheck m.msg = some code :=
  ⟨{ withO [(Obj.FLD_ENABLE, 0)] with fab := { inbox := [⟨5, 7, [0xF0], [], 0, 1, 2, 3⟩] } }, withO [(Obj.FLD_ENABLE, 0)], ⟨5, 7, [0xF0], [], 0, 1, 2, 3⟩, 1, by decide +kernel⟩

theorem witness_floodTakeDup : ∃ (s : State) (t : State) (m : InMsg),
    s.sysclk = true ∧
    s.takeMsg (fun m => m.flood) = (some m, t) ∧
    t.floodCheck m.msg = none ∧
    t.huskHit m.msg = true :=
  ⟨{ withO [(Obj.FLD_ENABLE, 1), (Obj.FLD_Cc_CFG 0, 1)] with mem := [(huskAddr (huskSet 1 0) 0, 1), (huskAddr (huskSet 1 0) 0 + 1, 16)], fab := { inbox := [⟨5, 7, [0xF0, 0, 1] ++ List.replicate 9 0, [], 0, 1, 2, 3⟩] } }, { withO [(Obj.FLD_ENABLE, 1), (Obj.FLD_Cc_CFG 0, 1)] with mem := [(huskAddr (huskSet 1 0) 0, 1), (huskAddr (huskSet 1 0) 0 + 1, 16)] }, ⟨5, 7, [0xF0, 0, 1] ++ List.replicate 9 0, [], 0, 1, 2, 3⟩, by decide +kernel⟩

theorem witness_floodTakeNew : ∃ (s : State) (t : State) (m : InMsg),
    s.sysclk = true ∧
    s.takeMsg (fun m => m.flood) = (some m, t) ∧
    t.floodCheck m.msg = none ∧
    t.huskHit m.msg = false ∧
    t.ringUsed Obj.FLD_DQ_PROD Obj.FLD_DQ_CONS < 256 :=
  ⟨{ withO [(Obj.FLD_ENABLE, 1), (Obj.FLD_Cc_CFG 0, 1)] with fab := { inbox := [⟨5, 7, [0xF0, 0, 1] ++ List.replicate 9 0, [], 0, 1, 2, 3⟩] } }, withO [(Obj.FLD_ENABLE, 1), (Obj.FLD_Cc_CFG 0, 1)], ⟨5, 7, [0xF0, 0, 1] ++ List.replicate 9 0, [], 0, 1, 2, 3⟩, by decide +kernel⟩

theorem witness_floodTakeAsleep : ∃ (s : State),
    s.sysclk = false :=
  ⟨withO [(Obj.PWR_STATE, 3)], by decide +kernel⟩

theorem witness_floodWiredSend : ∃ (s : State) (p : Fin 2) (j : StepJob),
    s.wireJob p = some j ∧
    ¬ j.wireBy < s.now ∧
    s.hasPeer p = true ∧
    s.fab.wires[p].avail ≠ 0 ∧
    s.ctrReady (s.o Obj.FAB_KEY) 4 = true :=
  ⟨{ withO [(Obj.FAB_Wp_STATE 1, 2), (Obj.FAB_KEY, 2), (Obj.SHL_SLOTk_ATTR 2, 0x100001)] with fab := { wires := Vector.replicate 2 { grant := 5 } }, steps := { jobs := [{ ticket := 4, fabric := false, owner := none, sel := 2, arrival := 0, e := 0, x := 9, msg := [] }] } }, 1, { ticket := 4, fabric := false, owner := none, sel := 2, arrival := 0, e := 0, x := 9, msg := [] }, by decide +kernel⟩

theorem witness_floodWiredLate : ∃ (s : State) (p : Fin 2) (j : StepJob),
    s.wireJob p = some j ∧
    j.wireBy < s.now :=
  ⟨{ withO [] with now := 100000000000, steps := { jobs := [{ ticket := 4, fabric := false, owner := none, sel := 2, arrival := 0, e := 0, x := 9, msg := [] }] } }, 1, { ticket := 4, fabric := false, owner := none, sel := 2, arrival := 0, e := 0, x := 9, msg := [] }, by decide +kernel⟩

theorem witness_floodWiredDeadline : ∃ (s : State) (t : Nat) (j : StepJob),
    s.stepJob t = some j ∧
    j.fabric = false :=
  ⟨{ withO [] with steps := { jobs := [{ ticket := 4, fabric := false, owner := none, sel := 2, arrival := 0, e := 0, x := 9, msg := [] }] } }, 4, { ticket := 4, fabric := false, owner := none, sel := 2, arrival := 0, e := 0, x := 9, msg := [] }, by decide +kernel⟩

theorem witness_floodJitterEnd : ∃ (s : State) (u : State) (t : Nat) (j : StepJob),
    s.steps.jobs.find? (fun j => j.ticket == t && j.jitter && !j.fabric) = some j ∧
    u = (s.upTo j.e).modJob t (fun j => { j with jitter := false }) ∧
    u.recState (ledAddr t) ≠ 1 ∧
    u.o (Obj.FLD_Cc_SUPPRESS j.cls) = 0 :=
  ⟨{ withO [(Obj.FLD_Cc_SUPPRESS 0, 0)] with steps := { jobs := [{ ticket := 4, fabric := false, owner := none, sel := 2, arrival := 0, e := 0, x := 9, msg := [], jitter := true }] } }, ({ withO [(Obj.FLD_Cc_SUPPRESS 0, 0)] with steps := { jobs := [{ ticket := 4, fabric := false, owner := none, sel := 2, arrival := 0, e := 0, x := 9, msg := [], jitter := true }] } } : State).modJob 4 (fun j => { j with jitter := false }), 4, { ticket := 4, fabric := false, owner := none, sel := 2, arrival := 0, e := 0, x := 9, msg := [], jitter := true }, by decide +kernel⟩

theorem witness_relayBind : ∃ (s : State) (n : Fin 4) (i : Nat) (j : StepJob),
    i ≤ 15 ∧
    s.descState false n i = 1 ∧
    s.descJob false n i = some j ∧
    ttValid (s.rn (s.descAddr false n i + 24) 8) = true ∧
    j.e + 384 ≤ linear (s.rn (s.descAddr false n i + 24) 8) ∧
    linear (s.rn (s.descAddr false n i + 24) 8) + s.rn (s.descAddr false n i + 6) 2 ≤ j.x :=
  ⟨{ withO [] with mem := [(0x24074000, 1), (0x24074018, 0x80), (0x24074019, 1)], steps := { jobs := [{ ticket := 0, fabric := false, owner := none, sel := 4, arrival := 0, e := 0, x := 999999, msg := [] }] } }, 0, 0, { ticket := 0, fabric := false, owner := none, sel := 4, arrival := 0, e := 0, x := 999999, msg := [] }, by decide +kernel⟩

theorem witness_relayDeadline : ∃ (s : State) (n : Fin 4) (i : Nat) (j : StepJob),
    s.descState false n i = 1 ∧
    s.descJob false n i = some j :=
  ⟨{ withO [] with mem := [(0x24074000, 1)], steps := { jobs := [{ ticket := 0, fabric := false, owner := none, sel := 4, arrival := 0, e := 0, x := 999999, msg := [] }] } }, 0, 0, { ticket := 0, fabric := false, owner := none, sel := 4, arrival := 0, e := 0, x := 999999, msg := [] }, by decide +kernel⟩

theorem witness_relayBoundSettle : ∃ (s : State) (n : Fin 4) (i : Nat) (b : BindSt),
    s.steps.binds.find? (fun b => b.fabric == false && b.slice == n && b.desc == i && b.follows.isNone) = some b ∧
    (s.upTo (b.at_ - 384)).slices[n].runs.find? (fun r => decide (r.start = b.at_) && eKind r.body == 1 &&
    fieldN r.body 28 4 == (s.upTo (b.at_ - 384)).bufAddr false n i) = none :=
  ⟨{ withO [] with steps := { binds := [⟨false, 3, 15, 4, 0, 999, none⟩] } }, 3, 15, ⟨false, 3, 15, 4, 0, 999, none⟩, by decide +kernel⟩

theorem witness_fldDqConsWrite : ∃ (s : State) (v : Nat),
    consOk 65536 (s.o Obj.FLD_DQ_CONS) (s.o Obj.FLD_DQ_PROD) v = true :=
  ⟨withO [(Obj.FLD_DQ_PROD, 3)], 3, by decide +kernel⟩

theorem witness_fldDqConsRefused : ∃ (s : State) (v : Nat),
    consOk 65536 (s.o Obj.FLD_DQ_CONS) (s.o Obj.FLD_DQ_PROD) v = false :=
  ⟨withO [(Obj.FLD_DQ_PROD, 3)], 4, by decide +kernel⟩

theorem witness_jobFlood : ∃ (s : State) (who : Fin 8) (a : Nat) (x : JobSt),
    (s.submitKind who a 7).engineJob who = some x ∧
    dKind x.desc = 7 :=
  ⟨{ withO [] with jobs := { queue := [{ ticket := 0, core := 4, desc := [7] }] } }, 4, 0x10000000, { ticket := 0, core := 4, desc := [7] }, by decide +kernel⟩

theorem witness_jobSend : ∃ (s : State) (who : Fin 8) (a : Nat) (x : JobSt),
    (s.submitKind who a 8).engineJob who = some x ∧
    dKind x.desc = 8 :=
  ⟨{ withO [] with jobs := { queue := [{ ticket := 0, core := 4, desc := [8] }] } }, 4, 0x10000000, { ticket := 0, core := 4, desc := [8] }, by decide +kernel⟩

theorem witness_fabricDatagramRx : ∃ (s : State) (p : Fin 2),
    s.portUp p = true :=
  ⟨withO [(Obj.FAB_Wp_STATE 1, 1)], 1, by decide +kernel⟩

theorem witness_fabricTooLong : ∃ (s : State) (p : Fin 2) (d : Bytes),
    s.portUp p = true ∧
    1024 < d.length :=
  ⟨withO [(Obj.FAB_Wp_STATE 1, 1)], 1, List.replicate 1025 0, by decide +kernel⟩

theorem witness_peerLost : ∃ (s : State) (p : Fin 2),
    3 ≤ s.fab.wires[p].quiet ∧
    s.hasPeer p = true ∧
    s.o Obj.FAB_PARENT_VIA ≠ p :=
  ⟨{ withO [(Obj.FAB_Wp_STATE 1, 2)] with fab := { wires := Vector.replicate 2 { quiet := 3 } } }, 1, by decide +kernel⟩

theorem witness_helloSend : ∃ (s : State) (p : Fin 2),
    s.portUp p = true ∧
    s.ctrReady (s.o Obj.FAB_KEY) 4 = true :=
  ⟨withO [(Obj.FAB_Wp_STATE 1, 1), (Obj.FAB_KEY, 2), (Obj.SHL_SLOTk_ATTR 2, 0x100001)], 1, by decide +kernel⟩

theorem witness_helloRx : ∃ (s : State) (t : State) (p : Fin 2) (m : InMsg),
    s.takeMsg (fun m => m.kind == 1 && m.src == 4 + p.val) = (some m, t) ∧
    m.msg.length = 22 :=
  ⟨{ withO [] with fab := { inbox := [⟨5, 7, 1 :: List.replicate 21 0, [], 0, 1, 2, 3⟩] } }, withO [], 1, ⟨5, 7, 1 :: List.replicate 21 0, [], 0, 1, 2, 3⟩, by decide +kernel⟩

theorem witness_fabTrailCommit : ∃ (s : State) (v : Nat),
    v ≤ 1 ∧
    v ≠ s.o Obj.FAB_TRAIL_CUR :=
  ⟨withO [], 1, by decide +kernel⟩

theorem witness_fabTrailRefused : ∃ (v : Nat),
    1 < v :=
  ⟨2, by decide +kernel⟩

theorem witness_addrListenEnd : ∃ (s : State) (a : Nat) (k : Nat),
    s.o Obj.FAB_ADDR_STATE = 1 ∧
    s.fab.stateSf + s.o Obj.FAB_LISTEN ≤ s.runSf ∧
    s.addrPick = some (a, k) :=
  ⟨withO [(Obj.FAB_ADDR_STATE, 1), (Obj.FAB_ADDR_PREF, 9), (Obj.FAB_LISTEN, 0)], 9, 0, by decide +kernel⟩

theorem witness_addrClaimWaitEnd : ∃ (s : State),
    s.o Obj.FAB_ADDR_STATE = 2 ∧
    s.fab.stateSf + s.o Obj.FAB_CLAIM_WAIT ≤ s.runSf :=
  ⟨withO [(Obj.FAB_ADDR_STATE, 2), (Obj.FAB_CLAIM_WAIT, 0)], by decide +kernel⟩

theorem witness_claimRx : ∃ (s : State) (i : Nat),
    fieldN (s.floodElem i) 1 1 = 1 ∧
    (s.elemPayload (s.floodElem i)).length = 20 ∧
    fieldN (s.elemPayload (s.floodElem i)) 0 1 = 0 :=
  ⟨{ withO [] with mem := [(0x20130001, 1), (0x2013000A, 20), (0x2013000E, 8), (0x2013000F, 0x20)] }, 0, by decide +kernel⟩

theorem witness_conflictRx : ∃ (s : State) (i : Nat),
    fieldN (s.floodElem i) 1 1 = 1 ∧
    (s.elemPayload (s.floodElem i)).length = 36 ∧
    fieldN (s.elemPayload (s.floodElem i)) 0 1 = 1 :=
  ⟨{ withO [] with mem := [(0x20080000, 1), (0x20130001, 1), (0x2013000A, 36), (0x2013000E, 8), (0x2013000F, 0x20)] }, 0, by decide +kernel⟩

theorem witness_conflictOriginate : ∃ (s : State) (d : ConflictDue),
    firstDue s.fab.due = some d :=
  ⟨{ withO [] with fab := { due := [⟨9, [2]⟩, ⟨7, [1]⟩] } }, ⟨7, [1]⟩, by decide +kernel⟩

theorem witness_conflictWaitEnd : ∃ (s : State),
    s.o Obj.FAB_ADDR_STATE = 4 ∧
    s.fab.stateSf + s.o Obj.FAB_CONFLICT_WAIT ≤ s.runSf :=
  ⟨withO [(Obj.FAB_ADDR_STATE, 4), (Obj.FAB_CONFLICT_WAIT, 0)], by decide +kernel⟩

theorem witness_unicastDelivered : ∃ (s : State) (t : State) (u : State) (v : State) (m : InMsg) (due : Nat),
    s.takeMsg (fun m => m.kind == 5) = (some m, t) ∧
    18 ≤ m.msg.length ∧
    fieldN m.msg 16 2 + 18 = m.msg.length ∧
    uniAddr (fieldN m.msg 4 2) = true ∧
    uniAddr (fieldN m.msg 2 2) = true ∧
    t.dueMiss (fieldN m.msg 8 8) m.at_ = (due, u) ∧
    u.holdsAddr = true ∧
    fieldN m.msg 4 2 % 4096 = u.o Obj.FAB_ADDR ∧
    u.uniDeliver m.src m.msg (m.addrOf 18) = some v :=
  ⟨{ withO [(Obj.FAB_ADDR, 9), (Obj.FAB_ADDR_STATE, 3)] with fab := { inbox := [⟨5, 7, [5, 0, 1, 0, 9, 0, 200] ++ List.replicate 11 0, [], 0, 1, 2, 3⟩] } }, { withO [(Obj.FAB_ADDR, 9), (Obj.FAB_ADDR_STATE, 3)] with fab := {} }, { withO [(Obj.FAB_ADDR, 9), (Obj.FAB_ADDR_STATE, 3)] with fab := {} }, (({ withO [(Obj.FAB_ADDR, 9), (Obj.FAB_ADDR_STATE, 3)] with fab := {} } : State).uniDeliver 5 ([5, 0, 1, 0, 9, 0, 200] ++ List.replicate 11 0) (InMsg.addrOf ⟨5, 7, [5, 0, 1, 0, 9, 0, 200] ++ List.replicate 11 0, [], 0, 1, 2, 3⟩ 18)).getD State.reset, ⟨5, 7, [5, 0, 1, 0, 9, 0, 200] ++ List.replicate 11 0, [], 0, 1, 2, 3⟩, 0, by decide +kernel⟩

theorem witness_unicastForwarded : ∃ (s : State) (t : State) (u : State) (m : InMsg) (due : Nat),
    s.takeMsg (fun m => m.kind == 5) = (some m, t) ∧
    18 ≤ m.msg.length ∧
    fieldN m.msg 16 2 + 18 = m.msg.length ∧
    uniAddr (fieldN m.msg 4 2) = true ∧
    uniAddr (fieldN m.msg 2 2) = true ∧
    t.dueMiss (fieldN m.msg 8 8) m.at_ = (due, u) ∧
    fieldN m.msg 4 2 % 4096 ≠ u.o Obj.FAB_ADDR :=
  ⟨{ withO [] with fab := { inbox := [⟨5, 7, [5, 0, 1, 0, 9, 0, 200] ++ List.replicate 11 0, [], 0, 1, 2, 3⟩] } }, { withO [] with fab := {} }, { withO [] with fab := {} }, ⟨5, 7, [5, 0, 1, 0, 9, 0, 200] ++ List.replicate 11 0, [], 0, 1, 2, 3⟩, 0, by decide +kernel⟩

theorem witness_unicastWiredSend : ∃ (s : State) (p : Fin 2) (j : StepJob),
    s.steps.jobs.find? (fun j => j.fabric && j.cls == p.val) = some j ∧
    ¬ j.wireBy < s.now ∧
    s.creditFor p = true :=
  ⟨{ withO [(Obj.FAB_Wp_STATE 1, 2)] with fab := { wires := Vector.replicate 2 { grant := 3 } }, steps := { jobs := [{ ticket := 4, fabric := true, owner := none, sel := 1, arrival := 0, e := 0, x := 9, msg := [], cls := 1 }] } }, 1, { ticket := 4, fabric := true, owner := none, sel := 1, arrival := 0, e := 0, x := 9, msg := [], cls := 1 }, by decide +kernel⟩

theorem witness_unicastWiredNoCredit : ∃ (s : State) (p : Fin 2) (j : StepJob),
    s.steps.jobs.find? (fun j => j.fabric && j.cls == p.val) = some j ∧
    ¬ j.wireBy < s.now ∧
    s.creditFor p = false :=
  ⟨{ withO [] with steps := { jobs := [{ ticket := 4, fabric := true, owner := none, sel := 1, arrival := 0, e := 0, x := 9, msg := [], cls := 1 }] } }, 1, { ticket := 4, fabric := true, owner := none, sel := 1, arrival := 0, e := 0, x := 9, msg := [], cls := 1 }, by decide +kernel⟩

theorem witness_unicastWiredLate : ∃ (s : State) (p : Fin 2) (j : StepJob),
    s.steps.jobs.find? (fun j => j.fabric && j.cls == p.val) = some j ∧
    j.wireBy < s.now :=
  ⟨{ withO [] with now := 100000000000, steps := { jobs := [{ ticket := 4, fabric := true, owner := none, sel := 1, arrival := 0, e := 0, x := 9, msg := [], cls := 1 }] } }, 1, { ticket := 4, fabric := true, owner := none, sel := 1, arrival := 0, e := 0, x := 9, msg := [], cls := 1 }, by decide +kernel⟩

theorem witness_forwardBind : ∃ (s : State) (n : Fin 4) (i : Nat) (j : StepJob),
    i ≤ 15 ∧
    s.descState true n i = 1 ∧
    s.descJob true n i = some j ∧
    ttValid (s.rn (s.descAddr true n i + 24) 8) = true ∧
    j.e + 384 ≤ linear (s.rn (s.descAddr true n i + 24) 8) ∧
    linear (s.rn (s.descAddr true n i + 24) 8) + s.rn (s.descAddr true n i + 6) 2 ≤ j.x :=
  ⟨{ withO [] with mem := [(0x24070000, 1), (0x24070018, 0x80), (0x24070019, 1)], steps := { jobs := [{ ticket := 0, fabric := true, owner := none, sel := 1, arrival := 0, e := 0, x := 999999, msg := [], cls := 1 }] } }, 0, 0, { ticket := 0, fabric := true, owner := none, sel := 1, arrival := 0, e := 0, x := 999999, msg := [], cls := 1 }, by decide +kernel⟩

theorem witness_forwardDeadline : ∃ (s : State) (n : Fin 4) (i : Nat) (j : StepJob),
    s.descState true n i = 1 ∧
    s.descJob true n i = some j :=
  ⟨{ withO [] with mem := [(0x24070000, 1)], steps := { jobs := [{ ticket := 0, fabric := true, owner := none, sel := 1, arrival := 0, e := 0, x := 999999, msg := [], cls := 1 }] } }, 0, 0, { ticket := 0, fabric := true, owner := none, sel := 1, arrival := 0, e := 0, x := 999999, msg := [], cls := 1 }, by decide +kernel⟩

theorem witness_forwardBoundSettle : ∃ (s : State) (n : Fin 4) (i : Nat) (b : BindSt),
    s.steps.binds.find? (fun b => b.fabric == true && b.slice == n && b.desc == i && b.follows.isNone) = some b ∧
    (s.upTo (b.at_ - 384)).slices[n].runs.find? (fun r => decide (r.start = b.at_) && eKind r.body == 1 &&
    fieldN r.body 28 4 == (s.upTo (b.at_ - 384)).bufAddr true n i) = none :=
  ⟨{ withO [] with steps := { binds := [⟨true, 3, 15, 4, 0, 999, none⟩] } }, 3, 15, ⟨true, 3, 15, 4, 0, 999, none⟩, by decide +kernel⟩

theorem witness_parentFirst : ∃ (s : State) (d : Cand),
    s.splitCand = none ∧
    firstCand s.cands = some d ∧
    s.o Obj.TMB_SYNC_STATE ≠ 3 ∧
    s.o Obj.FAB_PARENT_VIA = 0xFF :=
  ⟨{ withO [(Obj.FAB_Wp_STATE 1, 2), (Obj.FAB_Wp_PEER 1, 9)] with fab := { wires := Vector.replicate 2 { advert := some { sync := 3, trank := 4, tref := 8, hops := 1 }, theta := some 0 } } }, ⟨9, 1, { sync := 3, trank := 4, tref := 8, hops := 1 }, some 0⟩, by decide +kernel⟩

theorem witness_parentBetter : ∃ (s : State) (d : Cand) (p : Cand),
    s.splitCand = none ∧
    firstCand s.cands = some d ∧
    s.o Obj.TMB_SYNC_STATE ≠ 3 ∧
    s.o Obj.TMB_SYNC_STATE ≠ 5 ∧
    s.o Obj.FAB_PARENT_VIA ≠ 0xFF ∧
    s.parentCand = some p :=
  ⟨{ withO [(Obj.FAB_PARENT, 9), (Obj.FAB_PARENT_VIA, 1), (Obj.FAB_Wp_STATE 1, 2), (Obj.FAB_Wp_PEER 1, 9)] with fab := { wires := Vector.replicate 2 { advert := some { sync := 3, trank := 4, tref := 8, hops := 1 }, theta := some 0 } } }, ⟨9, 1, { sync := 3, trank := 4, tref := 8, hops := 1 }, some 0⟩, ⟨9, 1, { sync := 3, trank := 4, tref := 8, hops := 1 }, some 0⟩, by decide +kernel⟩

theorem witness_referenceTake : ∃ (s : State),
    s.o Obj.FAB_TIME_RANK < 255 ∧
    s.o Obj.TMB_SYNC_STATE = 0 ∧
    s.holdsAddr = true ∧
    s.cands = [] ∧
    s.outranked = false :=
  ⟨withO [(Obj.FAB_TIME_RANK, 4), (Obj.FAB_ADDR_STATE, 3), (Obj.FAB_ADDR, 9)], by decide +kernel⟩

theorem witness_timeReqSend : ∃ (s : State) (p : Fin 2),
    s.hasPeer p = true ∧
    (s.o Obj.FAB_PARENT_VIA = p ∨ s.prospect p = true) ∧
    s.ctrReady (s.o Obj.FAB_KEY) 4 = true :=
  ⟨withO [(Obj.FAB_PARENT_VIA, 1), (Obj.FAB_Wp_STATE 1, 2), (Obj.FAB_KEY, 2), (Obj.SHL_SLOTk_ATTR 2, 0x100001)], 1, by decide +kernel⟩

theorem witness_timeReqRx : ∃ (s : State) (t : State) (p : Fin 2) (m : InMsg),
    s.takeMsg (fun m => m.kind == 2 && m.src == 4 + p.val) = (some m, t) ∧
    m.msg.length = 4 :=
  ⟨{ withO [] with fab := { inbox := [⟨5, 7, [2, 9, 0, 0], [], 0, 1, 2, 3⟩] } }, withO [], 1, ⟨5, 7, [2, 9, 0, 0], [], 0, 1, 2, 3⟩, by decide +kernel⟩

theorem witness_timeRspSend : ∃ (s : State) (p : Fin 2) (q : Nat) (t2 : Instant),
    s.fab.wires[p].rsp = some (q, t2) ∧
    s.ctrReady (s.o Obj.FAB_KEY) 4 = true :=
  ⟨{ withO [(Obj.FAB_Wp_STATE 1, 2), (Obj.FAB_KEY, 2), (Obj.SHL_SLOTk_ATTR 2, 0x100001)] with fab := { wires := Vector.replicate 2 { rsp := some (5, 77) } } }, 1, 5, 77, by decide +kernel⟩

theorem witness_timeRspRx : ∃ (s : State) (t : State) (p : Fin 2) (m : InMsg) (t1 : Instant),
    s.takeMsg (fun m => m.kind == 3 && m.src == 4 + p.val) = (some m, t) ∧
    (t.dropMsg m).fab.wires[p].t1 = some t1 ∧
    m.msg.length = 20 ∧
    fieldN m.msg 1 1 = (t.dropMsg m).fab.wires[p].tseq ∧
    m.uid = (t.dropMsg m).o (Obj.FAB_Wp_PEER_UID p) ∧
    ttValid (fieldN m.msg 4 8) = true ∧
    ttValid (fieldN m.msg 12 8) = true ∧
    m.at_ ≤ t1 + 384000 :=
  ⟨{ withO [(Obj.FAB_Wp_PEER_UID 1, 6)] with fab := { wires := Vector.replicate 2 { t1 := some 5 }, inbox := [⟨5, 7, 3 :: List.replicate 19 0, [], 0, 6, 2, 3⟩] } }, { withO [(Obj.FAB_Wp_PEER_UID 1, 6)] with fab := { wires := Vector.replicate 2 { t1 := some 5 } } }, 1, ⟨5, 7, 3 :: List.replicate 19 0, [], 0, 6, 2, 3⟩, 5, by decide +kernel⟩

theorem witness_timeExchangeMiss : ∃ (s : State) (p : Fin 2) (t1 : Instant),
    s.fab.wires[p].t1 = some t1 ∧
    s.o Obj.FAB_PARENT_VIA = p :=
  ⟨{ withO [(Obj.FAB_PARENT_VIA, 1)] with fab := { wires := Vector.replicate 2 { t1 := some 5 } } }, 1, 5, by decide +kernel⟩

theorem witness_beaconTimeMeasure : ∃ (s : State) (n : Fin 4) (i : Nat) (a : Nat) (e : Nat) (body : Bytes) (x : RadioNb) (th : Int),
    s.beaconAt n i = some (a, e, body) ∧
    th = 2 * ((linear (fieldN body 0 8) : Int) - ((e : Int) - lofdmDur (fieldN (s.rxElemAt n i) 8 2) 0 88)) ∧
    ttValid (fieldN body 0 8) = true ∧
    s.fab.nbs.find? (fun x => x.addr == a) = some x ∧
    (¬ (s.o Obj.FAB_PARENT_VIA = 2 ∧ s.o Obj.FAB_PARENT = a)) :=
  ⟨{ beaconState with fab := { nbs := [{ addr := 0 }] } }, 0, 0, 0, 0, List.replicate 21 0, { addr := 0 }, 2 * ((0 : Int) - ((0 : Int) - lofdmDur 26 0 88)), by decide +kernel⟩

theorem witness_timingSuperframeCheck : ∃ (s : State),
    s.o Obj.FAB_PARENT_VIA = 0xFF :=
  ⟨withO [(Obj.FAB_PARENT_VIA, 0xFF)], by decide +kernel⟩

theorem witness_timingThirdMiss : ∃ (s : State),
    s.o Obj.FAB_PARENT_VIA ≠ 0xFF ∧
    s.countMisses.o Obj.FAB_PARENT_VIA ≠ 0xFF ∧
    3 ≤ s.countMisses.o Obj.FAB_MISSES :=
  ⟨withO [(Obj.FAB_PARENT_VIA, 1), (Obj.FAB_MISSES, 3)], by decide +kernel⟩

theorem witness_fabTimeSet : ∃ (s : State) (v : Nat),
    ttValid v = true ∧
    s.mayStep = true ∧
    s.fab.acquired = false :=
  ⟨withO [], 0, by decide +kernel⟩

theorem witness_fabTimeInvalid : ∃ (v : Nat),
    ttValid v = false :=
  ⟨0xFFFFFFFFFFFFFFFF, by decide +kernel⟩

theorem witness_fabTimeRefused : ∃ (s : State) (v : Nat),
    ttValid v = true ∧
    (s.mayStep = false ∨ s.fab.acquired = true) :=
  ⟨{ withO [] with slices := Vector.replicate 4 { heard := true } }, 0, by decide +kernel⟩

theorem witness_radioNeighbourUpdate : ∃ (s : State) (n : Fin 4) (i : Nat) (a : Nat) (t : Nat) (body : Bytes),
    s.beaconAt n i = some (a, t, body) :=
  ⟨beaconState, 0, 0, 0, 0, List.replicate 21 0, by decide +kernel⟩

theorem witness_lsaOriginate : ∃ (s : State) (v : State) (u : State),
    s.o Obj.FAB_ADDR_STATE = 3 ∧
    s.fab.lsaSf = none ∧
    v = s.firmFlood 5 0 15 s.lsaNow ∧
    u = v.lsdbWrite (v.o Obj.FAB_ADDR) (stampOf s.now) s.lsaNow :=
  ⟨withO [(Obj.FAB_ADDR_STATE, 3)], _, _, by decide +kernel, by decide +kernel, rfl, rfl⟩

theorem witness_lsaHeldBack : ∃ (s : State) (t : Nat),
    s.fab.lsaSf = some t ∧
    s.run < s.fab.lsaAt + 2 * superT :=
  ⟨{ withO [(Obj.FAB_ADDR_STATE, 3)] with fab := { lsaSf := some 0, lsaAt := 0 } }, 0, by decide +kernel⟩

theorem witness_lsdbUpdate : ∃ (s : State) (i : Nat),
    fieldN (s.floodElem i) 1 1 = 0 ∧
    24 ≤ (s.elemPayload (s.floodElem i)).length ∧
    (s.elemPayload (s.floodElem i)).length = 24 + 4 * fieldN (s.elemPayload (s.floodElem i)) 22 1 ∧
    (s.elemPayload (s.floodElem i)).length ≤ 152 ∧
    (s.detectLsdb (fieldN (s.floodElem i) 2 2 % 4096) (fieldN (s.elemPayload (s.floodElem i)) 0 8) (fieldN (s.elemPayload (s.floodElem i)) 8 8) 1).lsdbValid (fieldN (s.floodElem i) 2 2 % 4096) = false :=
  ⟨{ withO [] with mem := [(0x2013000A, 24), (0x2013000E, 8), (0x2013000F, 0x20)] }, 0, by decide +kernel⟩

theorem witness_lsdbRecordExpire : ∃ (s : State) (a : Nat),
    s.lsdbValid a = true ∧
    ((2400 * s.o Obj.FAB_LSA_PERIOD : Nat) : Int) ≤ stampDiff (stampOf s.now) (s.rn (s.lsdbAddr a) 4) :=
  ⟨{ withO [(Obj.FAB_LSA_PERIOD, 0), (Obj.DRM_STATE, 2), (Obj.DRM_SIZE, 0x38000000)] with mem := [(State.reset.o Obj.FAB_LSDB_BASE + 256 * 9 + 6, 1)] }, 9, by decide +kernel⟩

theorem witness_spfRun : ∃ (s : State) (l : List (Nat × Bytes)),
    s.fab.spfTick ≠ some (s.now / frameT) ∧
    s.fab.spf = some l :=
  ⟨{ withO [] with fab := { spf := some [(3, [1])] } }, [(3, [1])], by decide +kernel⟩

theorem witness_spfBegin : ∃ (s : State) (u : State),
    s.fab.spfTick ≠ some (s.now / frameT) ∧
    s.fab.spf = none ∧
    s.fab.spfGen ≠ s.o Obj.FAB_LSDB_GEN ∧
    u = s.modFab (fun x => { x with spfTick := some (s.now / frameT) }) :=
  ⟨withO [(Obj.FAB_LSDB_GEN, 4)], _, and3 (by decide +kernel) rfl⟩

theorem witness_spfOnceATick : ∃ (s : State),
    s.fab.spfTick = some (s.now / frameT) :=
  ⟨{ withO [] with fab := { spfTick := some 0 } }, by decide +kernel⟩

theorem witness_fabUqConsWrite : ∃ (s : State) (v : Nat),
    consOk 65536 (s.o Obj.FAB_UQ_CONS) (s.o Obj.FAB_UQ_PROD) v = true :=
  ⟨withO [(Obj.FAB_UQ_PROD, 3)], 3, by decide +kernel⟩

theorem witness_nop : ∃ (s : State) (c : Fin 8),
    s.ready c 1 0 0 0 0 = true :=
  ⟨runCore, 0, by decide +kernel⟩

theorem witness_dup : ∃ (s : State) (c : Fin 8) (a : Nat),
    s.ready c 1 1 2 0 0 = true ∧
    s.dTop c 1 = [a] :=
  ⟨runCore, 0, 0, by decide +kernel⟩

theorem witness_drop : ∃ (s : State) (c : Fin 8) (a : Nat),
    s.ready c 1 1 0 0 0 = true ∧
    s.dTop c 1 = [a] :=
  ⟨runCore, 0, 0, by decide +kernel⟩

theorem witness_swap : ∃ (s : State) (c : Fin 8) (a : Nat) (b : Nat),
    s.ready c 1 2 2 0 0 = true ∧
    s.dTop c 2 = [a, b] :=
  ⟨runCore, 0, 0, 0, by decide +kernel⟩

theorem witness_overElem : ∃ (s : State) (c : Fin 8) (a : Nat) (b : Nat),
    s.ready c 1 2 3 0 0 = true ∧
    s.dTop c 2 = [a, b] :=
  ⟨runCore, 0, 0, 0, by decide +kernel⟩

theorem witness_rot : ∃ (s : State) (c : Fin 8) (a : Nat) (b : Nat) (d : Nat),
    s.ready c 1 3 3 0 0 = true ∧
    s.dTop c 3 = [a, b, d] :=
  ⟨runCore, 0, 0, 0, 0, by decide +kernel⟩

theorem witness_nip : ∃ (s : State) (c : Fin 8) (a : Nat) (b : Nat),
    s.ready c 1 2 1 0 0 = true ∧
    s.dTop c 2 = [a, b] :=
  ⟨runCore, 0, 0, 0, by decide +kernel⟩

theorem witness_pick : ∃ (s : State) (c : Fin 8) (n : Nat),
    s.ready c 1 1 1 0 0 = true ∧
    s.dTop c 1 = [n] ∧
    n < s.cores[c].dDepth - 1 :=
  ⟨runCore, 0, 0, by decide +kernel⟩

theorem witness_depth : ∃ (s : State) (c : Fin 8),
    s.ready c 1 0 1 0 0 = true :=
  ⟨runCore, 0, by decide +kernel⟩

theorem witness_tor : ∃ (s : State) (c : Fin 8) (a : Nat),
    s.ready c 1 1 0 0 1 = true ∧
    s.dTop c 1 = [a] :=
  ⟨runCore, 0, 0, by decide +kernel⟩

theorem witness_fromr : ∃ (s : State) (c : Fin 8) (a : Nat),
    s.ready c 1 0 1 1 0 = true ∧
    s.rTop c 1 = [a] ∧
    a < 2 ^ s.cores[c].w :=
  ⟨runCore, 0, 0, by decide +kernel⟩

theorem witness_rfetch : ∃ (s : State) (c : Fin 8) (a : Nat),
    s.ready c 1 0 1 1 1 = true ∧
    s.rTop c 1 = [a] ∧
    a < 2 ^ s.cores[c].w :=
  ⟨runCore, 0, 0, by decide +kernel⟩

theorem witness_lit8 : ∃ (s : State) (c : Fin 8),
    s.ready c 2 0 1 0 0 = true :=
  ⟨runCore, 0, by decide +kernel⟩

theorem witness_lit16 : ∃ (s : State) (c : Fin 8),
    s.cores[c].sprout = false ∧
    s.ready c 3 0 1 0 0 = true :=
  ⟨runCore, 0, by decide +kernel⟩

theorem witness_lit16Sprout : ∃ (s : State) (c : Fin 8),
    s.cores[c].sprout = true ∧
    s.ready c 3 0 2 0 0 = true :=
  ⟨withO [], 4, by decide +kernel⟩

theorem witness_lit32 : ∃ (s : State) (c : Fin 8),
    s.cores[c].sprout = false ∧
    s.ready c 5 0 1 0 0 = true :=
  ⟨runCore, 0, by decide +kernel⟩

theorem witness_litn : ∃ (s : State) (c : Fin 8),
    s.ready c 1 0 1 0 0 = true :=
  ⟨runCore, 0, by decide +kernel⟩

theorem witness_add : ∃ (s : State) (c : Fin 8) (w : Nat) (a : Nat) (b : Nat),
    w = s.cores[c].w ∧
    s.ready c 1 2 1 0 0 = true ∧
    s.dTop c 2 = [a, b] :=
  ⟨runCore, 0, 32, 0, 0, by decide +kernel⟩

theorem witness_sub : ∃ (s : State) (c : Fin 8) (w : Nat) (a : Nat) (b : Nat),
    w = s.cores[c].w ∧
    s.ready c 1 2 1 0 0 = true ∧
    s.dTop c 2 = [a, b] :=
  ⟨runCore, 0, 32, 0, 0, by decide +kernel⟩

theorem witness_neg : ∃ (s : State) (c : Fin 8) (w : Nat) (a : Nat),
    w = s.cores[c].w ∧
    s.ready c 1 1 1 0 0 = true ∧
    s.dTop c 1 = [a] :=
  ⟨runCore, 0, 32, 0, by decide +kernel⟩

theorem witness_mul : ∃ (s : State) (c : Fin 8) (w : Nat) (a : Nat) (b : Nat),
    w = s.cores[c].w ∧
    s.ready c 1 2 1 0 0 = true ∧
    s.dTop c 2 = [a, b] :=
  ⟨runCore, 0, 32, 0, 0, by decide +kernel⟩

theorem witness_mull : ∃ (s : State) (c : Fin 8) (w : Nat) (a : Nat) (b : Nat),
    w = s.cores[c].w ∧
    s.ready c 1 2 2 0 0 = true ∧
    s.dTop c 2 = [a, b] :=
  ⟨runCore, 0, 32, 0, 0, by decide +kernel⟩

theorem witness_mullu : ∃ (s : State) (c : Fin 8) (w : Nat) (a : Nat) (b : Nat),
    w = s.cores[c].w ∧
    s.ready c 1 2 2 0 0 = true ∧
    s.dTop c 2 = [a, b] :=
  ⟨runCore, 0, 32, 0, 0, by decide +kernel⟩

theorem witness_divs : ∃ (s : State) (c : Fin 8) (w : Nat) (a : Nat) (b : Nat),
    w = s.cores[c].w ∧
    s.ready c 1 2 2 0 0 = true ∧
    s.dTop c 2 = [a, b] ∧
    b ≠ 0 :=
  ⟨runCore1, 0, 32, 0, 1, by decide +kernel⟩

theorem witness_divu : ∃ (s : State) (c : Fin 8) (w : Nat) (a : Nat) (b : Nat),
    w = s.cores[c].w ∧
    s.ready c 1 2 2 0 0 = true ∧
    s.dTop c 2 = [a, b] ∧
    b ≠ 0 :=
  ⟨runCore1, 0, 32, 0, 1, by decide +kernel⟩

theorem witness_divZero : ∃ (s : State) (c : Fin 8) (a : Nat),
    s.ready c 1 2 2 0 0 = true ∧
    s.dTop c 2 = [a, 0] :=
  ⟨runCore, 0, 0, by decide +kernel⟩

theorem witness_and : ∃ (s : State) (c : Fin 8) (w : Nat) (a : Nat) (b : Nat),
    w = s.cores[c].w ∧
    s.ready c 1 2 1 0 0 = true ∧
    s.dTop c 2 = [a, b] :=
  ⟨runCore, 0, 32, 0, 0, by decide +kernel⟩

theorem witness_or : ∃ (s : State) (c : Fin 8) (w : Nat) (a : Nat) (b : Nat),
    w = s.cores[c].w ∧
    s.ready c 1 2 1 0 0 = true ∧
    s.dTop c 2 = [a, b] :=
  ⟨runCore, 0, 32, 0, 0, by decide +kernel⟩

theorem witness_xor : ∃ (s : State) (c : Fin 8) (w : Nat) (a : Nat) (b : Nat),
    w = s.cores[c].w ∧
    s.ready c 1 2 1 0 0 = true ∧
    s.dTop c 2 = [a, b] :=
  ⟨runCore, 0, 32, 0, 0, by decide +kernel⟩

theorem witness_not : ∃ (s : State) (c : Fin 8) (w : Nat) (a : Nat),
    w = s.cores[c].w ∧
    s.ready c 1 1 1 0 0 = true ∧
    s.dTop c 1 = [a] :=
  ⟨runCore, 0, 32, 0, by decide +kernel⟩

theorem witness_shl : ∃ (s : State) (c : Fin 8) (w : Nat) (a : Nat) (b : Nat),
    w = s.cores[c].w ∧
    s.ready c 1 2 1 0 0 = true ∧
    s.dTop c 2 = [a, b] :=
  ⟨runCore, 0, 32, 0, 0, by decide +kernel⟩

theorem witness_shr : ∃ (s : State) (c : Fin 8) (w : Nat) (a : Nat) (b : Nat),
    w = s.cores[c].w ∧
    s.ready c 1 2 1 0 0 = true ∧
    s.dTop c 2 = [a, b] :=
  ⟨runCore, 0, 32, 0, 0, by decide +kernel⟩

theorem witness_sar : ∃ (s : State) (c : Fin 8) (w : Nat) (a : Nat) (b : Nat),
    w = s.cores[c].w ∧
    s.ready c 1 2 1 0 0 = true ∧
    s.dTop c 2 = [a, b] :=
  ⟨runCore, 0, 32, 0, 0, by decide +kernel⟩

theorem witness_rol : ∃ (s : State) (c : Fin 8) (w : Nat) (a : Nat) (b : Nat),
    w = s.cores[c].w ∧
    s.ready c 1 2 1 0 0 = true ∧
    s.dTop c 2 = [a, b] :=
  ⟨runCore, 0, 32, 0, 0, by decide +kernel⟩

theorem witness_ror : ∃ (s : State) (c : Fin 8) (w : Nat) (a : Nat) (b : Nat),
    w = s.cores[c].w ∧
    s.ready c 1 2 1 0 0 = true ∧
    s.dTop c 2 = [a, b] :=
  ⟨runCore, 0, 32, 0, 0, by decide +kernel⟩

theorem witness_eq : ∃ (s : State) (c : Fin 8) (w : Nat) (a : Nat) (b : Nat),
    w = s.cores[c].w ∧
    s.ready c 1 2 1 0 0 = true ∧
    s.dTop c 2 = [a, b] :=
  ⟨runCore, 0, 32, 0, 0, by decide +kernel⟩

theorem witness_ne : ∃ (s : State) (c : Fin 8) (w : Nat) (a : Nat) (b : Nat),
    w = s.cores[c].w ∧
    s.ready c 1 2 1 0 0 = true ∧
    s.dTop c 2 = [a, b] :=
  ⟨runCore, 0, 32, 0, 0, by decide +kernel⟩

theorem witness_lt : ∃ (s : State) (c : Fin 8) (w : Nat) (a : Nat) (b : Nat),
    w = s.cores[c].w ∧
    s.ready c 1 2 1 0 0 = true ∧
    s.dTop c 2 = [a, b] :=
  ⟨runCore, 0, 32, 0, 0, by decide +kernel⟩

theorem witness_ltu : ∃ (s : State) (c : Fin 8) (w : Nat) (a : Nat) (b : Nat),
    w = s.cores[c].w ∧
    s.ready c 1 2 1 0 0 = true ∧
    s.dTop c 2 = [a, b] :=
  ⟨runCore, 0, 32, 0, 0, by decide +kernel⟩

theorem witness_gt : ∃ (s : State) (c : Fin 8) (w : Nat) (a : Nat) (b : Nat),
    w = s.cores[c].w ∧
    s.ready c 1 2 1 0 0 = true ∧
    s.dTop c 2 = [a, b] :=
  ⟨runCore, 0, 32, 0, 0, by decide +kernel⟩

theorem witness_gtu : ∃ (s : State) (c : Fin 8) (w : Nat) (a : Nat) (b : Nat),
    w = s.cores[c].w ∧
    s.ready c 1 2 1 0 0 = true ∧
    s.dTop c 2 = [a, b] :=
  ⟨runCore, 0, 32, 0, 0, by decide +kernel⟩

theorem witness_eqz : ∃ (s : State) (c : Fin 8) (w : Nat) (a : Nat),
    w = s.cores[c].w ∧
    s.ready c 1 1 1 0 0 = true ∧
    s.dTop c 1 = [a] :=
  ⟨runCore, 0, 32, 0, by decide +kernel⟩

theorem witness_ldw : ∃ (s : State) (c : Fin 8) (a : Nat),
    s.cores[c].sprout = false ∧
    s.ready c 1 1 1 0 0 = true ∧
    s.dTop c 1 = [a] ∧
    a < 2 ^ 32 ∧
    s.loadable c a 4 = true :=
  ⟨loadCore, 0, 0x20000100, by decide +kernel⟩

theorem witness_ldh : ∃ (s : State) (c : Fin 8) (a : Nat),
    s.cores[c].sprout = false ∧
    s.ready c 1 1 1 0 0 = true ∧
    s.dTop c 1 = [a] ∧
    a < 2 ^ 32 ∧
    s.loadable c a 2 = true :=
  ⟨loadCore, 0, 0x20000100, by decide +kernel⟩

theorem witness_ldhs : ∃ (s : State) (c : Fin 8) (a : Nat),
    s.cores[c].sprout = false ∧
    s.ready c 1 1 1 0 0 = true ∧
    s.dTop c 1 = [a] ∧
    a < 2 ^ 32 ∧
    s.loadable c a 2 = true :=
  ⟨loadCore, 0, 0x20000100, by decide +kernel⟩

theorem witness_ldb : ∃ (s : State) (c : Fin 8) (a : Nat),
    s.cores[c].sprout = false ∧
    s.ready c 1 1 1 0 0 = true ∧
    s.dTop c 1 = [a] ∧
    a < 2 ^ 32 ∧
    s.loadable c a 1 = true :=
  ⟨loadCore, 0, 0x20000100, by decide +kernel⟩

theorem witness_ldbs : ∃ (s : State) (c : Fin 8) (a : Nat),
    s.cores[c].sprout = false ∧
    s.ready c 1 1 1 0 0 = true ∧
    s.dTop c 1 = [a] ∧
    a < 2 ^ 32 ∧
    s.loadable c a 1 = true :=
  ⟨loadCore, 0, 0x20000100, by decide +kernel⟩

theorem witness_ldd : ∃ (s : State) (c : Fin 8) (a : Nat),
    s.cores[c].sprout = false ∧
    s.ready c 1 1 2 0 0 = true ∧
    s.dTop c 1 = [a] ∧
    s.loadable c a 4 = true ∧
    s.loadable c (second a) 4 = true ∧
    s.held a 8 = false :=
  ⟨loadCore, 0, 0x20000100, by decide +kernel⟩

theorem witness_xldw : ∃ (s : State) (c : Fin 8) (l : List Nat),
    s.cores[c].sprout = true ∧
    s.ready c 1 4 4 0 0 = true ∧
    s.dTop c 4 = l ∧
    s.loadable c (quad l 0) 4 = true :=
  ⟨sproutCore, 4, [0, 1, 0, 32], by decide +kernel⟩

theorem witness_stw : ∃ (s : State) (c : Fin 8) (v : Nat) (a : Nat),
    s.cores[c].sprout = false ∧
    s.ready c 1 2 0 0 0 = true ∧
    s.dTop c 2 = [v, a] ∧
    a < 2 ^ 32 ∧
    s.storable c a 4 = true :=
  ⟨loadCore, 0, 0, 0x20000100, by decide +kernel⟩

theorem witness_sth : ∃ (s : State) (c : Fin 8) (v : Nat) (a : Nat),
    s.cores[c].sprout = false ∧
    s.ready c 1 2 0 0 0 = true ∧
    s.dTop c 2 = [v, a] ∧
    a < 2 ^ 32 ∧
    s.storable c a 2 = true :=
  ⟨loadCore, 0, 0, 0x20000100, by decide +kernel⟩

theorem witness_stb : ∃ (s : State) (c : Fin 8) (v : Nat) (a : Nat),
    s.cores[c].sprout = false ∧
    s.ready c 1 2 0 0 0 = true ∧
    s.dTop c 2 = [v, a] ∧
    a < 2 ^ 32 ∧
    s.storable c a 1 = true :=
  ⟨loadCore, 0, 0, 0x20000100, by decide +kernel⟩

theorem witness_std : ∃ (s : State) (c : Fin 8) (lo : Nat) (hi : Nat) (a : Nat),
    s.cores[c].sprout = false ∧
    s.ready c 1 3 0 0 0 = true ∧
    s.dTop c 3 = [lo, hi, a] ∧
    s.storable c a 4 = true ∧
    s.storable c (second a) 4 = true ∧
    (s.wn a 4 (lo % 2 ^ 32)).storable c (second a) 4 = true ∧
    s.held a 8 = false :=
  ⟨loadCore, 0, 0, 0, 0x20000100, by decide +kernel⟩

theorem witness_swp : ∃ (s : State) (c : Fin 8) (v : Nat) (a : Nat),
    s.cores[c].sprout = false ∧
    s.ready c 1 2 1 0 0 = true ∧
    s.dTop c 2 = [v, a] ∧
    s.loadable c a 4 = true ∧
    a % 4 = 0 ∧
    writableMem a = true :=
  ⟨loadCore, 0, 0, 0x20000100, by decide +kernel⟩

theorem witness_cas : ∃ (s : State) (c : Fin 8) (e : Nat) (v : Nat) (a : Nat),
    s.cores[c].sprout = false ∧
    s.ready c 1 3 1 0 0 = true ∧
    s.dTop c 3 = [e, v, a] ∧
    s.loadable c a 4 = true ∧
    a % 4 = 0 ∧
    writableMem a = true :=
  ⟨loadCore, 0, 0, 0, 0x20000100, by decide +kernel⟩

theorem witness_xstw : ∃ (s : State) (c : Fin 8) (l : List Nat),
    s.cores[c].sprout = true ∧
    s.ready c 1 8 0 0 0 = true ∧
    s.dTop c 8 = l ∧
    s.storable c (quad l 4) 4 = true :=
  ⟨sproutCore8, 4, [0, 0, 0, 0, 0, 1, 0, 32], by decide +kernel⟩

theorem witness_jmp : ∃ (s : State) (c : Fin 8),
    s.ready c 3 0 0 0 0 = true :=
  ⟨runCore, 0, by decide +kernel⟩

theorem witness_jz : ∃ (s : State) (c : Fin 8) (f : Nat),
    s.ready c 3 1 0 0 0 = true ∧
    s.dTop c 1 = [f] :=
  ⟨runCore, 0, 0, by decide +kernel⟩

theorem witness_jnz : ∃ (s : State) (c : Fin 8) (f : Nat),
    s.ready c 3 1 0 0 0 = true ∧
    s.dTop c 1 = [f] :=
  ⟨runCore, 0, 0, by decide +kernel⟩

theorem witness_jmp8 : ∃ (s : State) (c : Fin 8),
    s.ready c 2 0 0 0 0 = true :=
  ⟨runCore, 0, by decide +kernel⟩

theorem witness_jz8 : ∃ (s : State) (c : Fin 8) (f : Nat),
    s.ready c 2 1 0 0 0 = true ∧
    s.dTop c 1 = [f] :=
  ⟨runCore, 0, 0, by decide +kernel⟩

theorem witness_jnz8 : ∃ (s : State) (c : Fin 8) (f : Nat),
    s.ready c 2 1 0 0 0 = true ∧
    s.dTop c 1 = [f] :=
  ⟨runCore, 0, 0, by decide +kernel⟩

theorem witness_call : ∃ (s : State) (c : Fin 8),
    s.ready c 3 0 0 0 1 = true :=
  ⟨runCore, 0, by decide +kernel⟩

theorem witness_ret : ∃ (s : State) (c : Fin 8) (a : Nat),
    s.ready c 1 0 0 1 0 = true ∧
    s.rTop c 1 = [a] :=
  ⟨runCore, 0, 0, by decide +kernel⟩

theorem witness_jmpi : ∃ (s : State) (c : Fin 8) (l : List Nat),
    s.ready c 1 s.cores[c].an 0 0 0 = true ∧
    s.dTop c s.cores[c].an = l :=
  ⟨runCore, 0, [0], by decide +kernel⟩

theorem witness_calli : ∃ (s : State) (c : Fin 8) (l : List Nat),
    s.ready c 1 s.cores[c].an 0 0 1 = true ∧
    s.dTop c s.cores[c].an = l :=
  ⟨runCore, 0, [0], by decide +kernel⟩

theorem witness_trap : ∃ (s : State) (c : Fin 8),
    s.ready c 2 0 0 0 0 = true :=
  ⟨runCore, 0, by decide +kernel⟩

theorem witness_rett : ∃ (s : State) (c : Fin 8),
    s.ready c 1 0 0 0 0 = true ∧
    s.cores[c].tm = true :=
  ⟨trapCore, 0, by decide +kernel⟩

theorem witness_wait : ∃ (s : State) (c : Fin 8),
    s.ready c 1 0 0 0 0 = true ∧
    s.cores[c].queue = [] ∧
    c ≠ 4 :=
  ⟨runCore, 0, by decide +kernel⟩

theorem witness_evget : ∃ (s : State) (c : Fin 8) (e : CoreEvent) (r : List CoreEvent),
    s.cores[c].sprout = false ∧
    s.ready c 1 0 2 0 0 = true ∧
    s.cores[c].queue = e :: r ∧
    s.cores[c].lostSince = 0 :=
  ⟨eventCore, 0, ⟨2, 1, 7⟩, [], by decide +kernel⟩

theorem witness_rdsr : ∃ (s : State) (c : Fin 8) (n : Nat) (v : Nat),
    s.cores[c].sprout = false ∧
    s.ready c 2 0 1 0 0 = true ∧
    n ≠ 13 ∧
    n ≠ 14 ∧
    s.special c n = some v :=
  ⟨runCore, 0, 12, 0, by decide +kernel⟩

theorem witness_wrsr : ∃ (s : State) (c : Fin 8) (n : Nat) (v : Nat) (y : CoreSt),
    s.cores[c].sprout = false ∧
    s.ready c 2 1 0 0 0 = true ∧
    s.dTop c 1 = [v] ∧
    s.cores[c].wrsr n v = some y :=
  ⟨runCore, 0, 7, 0, { runCore.cores[(0 : Fin 8)] with vbase := 0 }, by decide +kernel⟩

theorem witness_grow : ∃ (s : State) (c : Fin 8) (l : List Nat),
    s.cores[c].sprout = true ∧
    s.cores[c].inRom = true ∧
    s.ready c 1 4 0 0 0 = true ∧
    s.dTop c 4 = l :=
  ⟨sproutCore, 4, [0, 1, 0, 32], by decide +kernel⟩

theorem witness_reservedOpcode : ∃ (s : State) (c : Fin 8),
    s.ready c 1 0 0 0 0 = true :=
  ⟨runCore, 0, by decide +kernel⟩

theorem witness_eventArrive : ∃ (s : State) (c : Fin 8),
    s.cores[c].queue.length < 32 ∧
    s.cores[c].mode ≠ .wait :=
  ⟨runCore, 0, by decide +kernel⟩

theorem witness_eventWakes : ∃ (s : State) (c : Fin 8),
    s.cores[c].queue.length < 32 ∧
    s.cores[c].mode = .wait ∧
    s.wakesCores = true :=
  ⟨waitCore, 0, by decide +kernel⟩

theorem witness_eventDropped : ∃ (s : State) (c : Fin 8),
    32 ≤ s.cores[c].queue.length :=
  ⟨fullCore, 0, by decide +kernel⟩

theorem witness_dataStackReadBack : ∃ (s : State) (c : Fin 8) (n : Nat) (outs : List Nat),
    s.cores[c].sprout = false ∧
    (∀ v ∈ outs, v < 2 ^ 32) ∧
    0x20000000 + 4 * outs.length ≤ s.cores[c].dsp.toNat + 4 * n ∧
    s.cores[c].dsp.toNat + 4 * n ≤ 0x20200000 :=
  ⟨runCore, 0, 0, [1, 2], by decide +kernel⟩

theorem witness_trapEntry : ∃ (s : State) (t0 : State) (c : Fin 8) (a : Nat),
    s.ready c 1 0 0 0 0 = true ∧
    s.cores[c].sprout = false ∧
    s.cores[c].tm = false ∧
    t0 = s.modCore c (fun x => x.trapped 1 0 s.cores[c].pc.toNat) ∧
    t0.load c ((s.cores[c].vbase.toNat / 4 * 4 + 4) % 2 ^ 32) 4 (t0.metAt (readUnit ((s.cores[c].vbase.toNat / 4 * 4 + 4) % 2 ^ 32))) = .ok (t0, a) :=
  ⟨{ runCore with cores := vmod runCore.cores 0 (fun x => { x with vbase := 0x20000800 }) }, _, 0, 0, and3 (by decide +kernel) ⟨rfl, State.load_eq (by decide +kernel)⟩⟩

theorem witness_handlerReadTraps : ∃ (s : State) (t0 : State) (u : State) (c : Fin 8) (x : Nat),
    s.ready c 1 0 0 0 0 = true ∧
    s.cores[c].sprout = false ∧
    s.cores[c].tm = false ∧
    t0 = s.modCore c (fun x => x.trapped 1 0 s.cores[c].pc.toNat) ∧
    t0.load c ((s.cores[c].vbase.toNat / 4 * 4 + 4) % 2 ^ 32) 4 (t0.metAt (readUnit ((s.cores[c].vbase.toNat / 4 * 4 + 4) % 2 ^ 32))) = .error (u, x) :=
  ⟨{ runCore with cores := vmod runCore.cores 0 (fun x => { x with vbase := 0x70000000 }) }, _, _, 0, 7, and3 (by decide +kernel) ⟨rfl, State.load_trap (by decide +kernel)⟩⟩

theorem witness_stackUnderflow : ∃ (s : State) (c : Fin 8),
    s.cores[c].mode = .run ∧
    s.sysclk = true ∧
    s.fetchTrap c 1 = none ∧
    (s.cores[c].sprout = true ∨ (s.held s.cores[c].pc.toNat 1 = false ∧ s.sound s.cores[c].pc.toNat 1 = true)) ∧
    s.cores[c].dDepth < 2 :=
  ⟨{ runCore with cores := vmod runCore.cores 0 (fun x => { x with dsp := 0x20010FFC }) }, 0, by decide +kernel⟩

theorem witness_stackOverflow : ∃ (s : State) (c : Fin 8),
    s.cores[c].mode = .run ∧
    s.sysclk = true ∧
    s.fetchTrap c 1 = none ∧
    (s.cores[c].sprout = true ∨ (s.held s.cores[c].pc.toNat 1 = false ∧ s.sound s.cores[c].pc.toNat 1 = true)) ∧
    1 ≤ s.cores[c].dDepth ∧
    s.cores[c].dRoom 1 = false :=
  ⟨{ runCore with cores := vmod runCore.cores 0 (fun x => { x with dsp := 0x20010000 }) }, 0, by decide +kernel⟩

theorem witness_wideReadLowLatch : ∃ (s : State) (t : State) (who : Fin 8) (k : Nat) (v : Nat),
    objIs k (fun x => x.ty.wide && !x.ty.blob && x.acc != .wo) = true ∧
    k / 256 ≠ 0x101 ∧
    s.readNum (.core who) k = (t, v) ∧
    k / 256 < 65536 :=
  ⟨withO [], withO [], 0, Obj.TMB_ORIGIN_TAI, 0, by decide +kernel⟩

theorem witness_wideWriteLow : ∃ (k : Nat),
    objIs k (fun x => x.ty.wide && !x.ty.blob && x.acc != .ro && x.acc != .const) = true ∧
    k / 256 < 65536 :=
  ⟨Obj.TMB_ORIGIN_TAI, by decide +kernel⟩

theorem witness_wideWriteHigh : ∃ (s : State) (k : Nat) (lo : Nat),
    objIs k (fun x => x.ty.wide && x.acc != .ro && x.acc != .const) = true ∧
    objFind (k + 1) = none ∧
    firmwareBacked (k + 1) = false ∧
    k % 256 < 255 ∧
    latchOf s.time.writeLatch k = some lo ∧
    k / 256 < 65536 :=
  ⟨{ withO [] with time := { writeLatch := [(Obj.TMB_ORIGIN_TAI, 7)] } }, Obj.TMB_ORIGIN_TAI, 7, by decide +kernel⟩

theorem witness_stageWrite : ∃ (s : State) (c : Fin 8) (k : Nat) (v : Nat) (l : List (Key × Val)),
    objIs k (fun x => x.acc == .rwt && !x.ty.blob && decide (v < 2 ^ x.ty.width) && x.ty != .tt64) = true ∧
    (¬ (0x320 ≤ k / 256 ∧ k / 256 ≤ 0x32F)) ∧
    stagePut s.cores[c].stage k (.num (cleanBits k v)) = some l :=
  ⟨withO [], 0, Obj.FAB_HOLD_U, 5, [(Obj.FAB_HOLD_U, .num 5)], by decide +kernel⟩

theorem witness_commitAccepted : ∃ (s : State) (c : Fin 8),
    s.cores[c].stage ≠ [] ∧
    s.setBad s.cores[c].stage = none :=
  ⟨{ withO [] with cores := vmod State.reset.cores 0 (fun x => { x with stage := [(Obj.FAB_HOLD_U, .num 50)] }) }, 0, by decide +kernel⟩

theorem witness_commitRefused : ∃ (s : State) (c : Fin 8) (k : Key),
    s.cores[c].stage ≠ [] ∧
    s.setBad s.cores[c].stage = some k ∧
    accountKey k = false :=
  ⟨{ withO [] with cores := vmod State.reset.cores 0 (fun x => { x with stage := [(Obj.FAB_HOLD_U, .num 0)] }) }, 0, Obj.FAB_HOLD_U, by decide +kernel⟩

theorem witness_commitAccountRefused : ∃ (s : State) (c : Fin 8) (k : Key),
    s.cores[c].stage ≠ [] ∧
    s.setBad s.cores[c].stage = some k ∧
    accountKey k = true :=
  ⟨{ withO [] with cores := vmod State.reset.cores 0 (fun x => { x with stage := [(Obj.AIR_BKTk_BIN 0, .num 0)] }) }, 0, Obj.AIR_BKTk_BIN 0, by decide +kernel⟩

theorem witness_commitEmpty : ∃ (s : State) (c : Fin 8),
    s.cores[c].stage = [] :=
  ⟨withO [], 0, by decide +kernel⟩

theorem witness_registerWrite : ∃ (s : State) (t : State) (c : Fin 8) (k : Nat) (v : Nat),
    objIs k (fun x => (x.acc == .rw || x.acc == .wo) && !x.ty.blob && !x.ty.wide) = true ∧
    k / 256 ≠ 0x101 ∧
    s.putObject (.core c) false 4 k (.num v) = (t, none) :=
  ⟨withO [], (withO []).setO Obj.GIO_OUT 0, 0, Obj.COR_c_START 2, 0, by decide +kernel⟩

theorem witness_registerRefused : ∃ (s : State) (t : State) (c : Fin 8) (k : Nat) (v : Nat) (e : Refuse),
    objIs k (fun x => (x.acc == .rw || x.acc == .wo) && !x.ty.blob && !x.ty.wide) = true ∧
    k / 256 ≠ 0x101 ∧
    s.putObject (.core c) false 4 k (.num v) = (t, some e) :=
  ⟨withO [], withO [], 0, Obj.TMB_MISS 1, 7, ⟨5, 3⟩, by decide +kernel⟩

theorem witness_readOnlyDropped : ∃ (k : Nat),
    objIs k (fun x => x.acc == .ro && !x.ty.blob) = true ∧
    k / 256 ≠ 0x101 :=
  ⟨Obj.TMB_SYNC_STATE, by decide +kernel⟩

theorem witness_comDomSel : ∃ (v : Nat),
    v < 2 ^ 32 ∧
    domObject (selKey v) = true ∧
    selKey v / 256 ≠ 0x1804 :=
  ⟨0x0400000C, by decide +kernel⟩

theorem witness_comDomLen : ∃ (s : State) (c : Fin 8) (v : Nat),
    domObject (selKey s.cores[c].domSel) = true ∧
    0 < v ∧
    v < 65536 ∧
    v ≤ blobMax (selKey s.cores[c].domSel) :=
  ⟨{ withO [] with cores := vmod State.reset.cores 0 (fun x => { x with domSel := 0x0400000C }) }, 0, 1, by decide +kernel⟩

theorem witness_comDomDataWrite : ∃ (s : State) (c : Fin 8) (v : Nat) (n : Nat) (b : Bytes),
    v < 2 ^ 32 ∧
    domObject (selKey s.cores[c].domSel) = true ∧
    s.cores[c].domNew = some (n, b) ∧
    s.cores[c].domPos + 4 < n :=
  ⟨{ withO [] with cores := vmod State.reset.cores 0 (fun x => { x with domSel := 0x0400000C, domNew := some (5, [0, 0, 0, 0, 0]) }) }, 0, 1, 5, [0, 0, 0, 0, 0], by decide +kernel⟩

theorem witness_comDomDataLast : ∃ (s : State) (u : State) (c : Fin 8) (v : Nat) (n : Nat) (b : Bytes),
    v < 2 ^ 32 ∧
    domObject (selKey s.cores[c].domSel) = true ∧
    s.cores[c].domNew = some (n, b) ∧
    n ≤ s.cores[c].domPos + 4 ∧
    u = s.modCore c (fun x => { x with domPos := s.cores[c].domPos + 4, domNew := none }) :=
  ⟨{ withO [] with cores := vmod State.reset.cores 0 (fun x => { x with domSel := 0x0400000C, domNew := some (3, [0, 0, 0]) }) }, { withO [] with cores := vmod State.reset.cores 0 (fun x => { x with domSel := 0x0400000C, domPos := 4 }) }, 0, 1, 3, [0, 0, 0], by decide +kernel⟩

theorem witness_comFwVal : ∃ (s : State) (c : Fin 8) (v : Nat),
    (selKey s.cores[c].fwSel = Obj.FAB_CONFLICTS ∨ selKey s.cores[c].fwSel = Obj.FAB_LSDB_GEN) ∧
    v < 2 ^ 32 :=
  ⟨{ withO [] with cores := vmod State.reset.cores 0 (fun x => { x with fwSel := 0x1300000A }) }, 0, 1, by decide +kernel⟩

theorem witness_comFwValAddr : ∃ (s : State) (c : Fin 8) (v : Nat),
    selKey s.cores[c].fwSel = Obj.FAB_ADDR ∧
    v < 2 ^ 16 :=
  ⟨{ withO [] with cores := vmod State.reset.cores 0 (fun x => { x with fwSel := 0x13000001 }) }, 0, 1, by decide +kernel⟩

theorem witness_comFwValHeldSince : ∃ (s : State) (c : Fin 8) (v : Nat),
    selKey s.cores[c].fwSel = Obj.FAB_HELD_SINCE + 1 ∧
    v < 2 ^ 32 :=
  ⟨{ withO [] with cores := vmod State.reset.cores 0 (fun x => { x with fwSel := 0x13000005, fwLow := 7 }) }, 0, 1, by decide +kernel⟩

theorem witness_evtPost : ∃ (b : Bytes),
    8 ≤ b.length ∧
    b.length ≤ 908 ∧
    0x800 ≤ fieldN b 0 2 :=
  ⟨[0, 8, 0, 0, 0, 0, 0, 0], by decide +kernel⟩

theorem witness_evtPostDeadline : ∃ (b : Bytes),
    8 ≤ b.length ∧
    b.length ≤ 908 ∧
    fieldN b 0 2 = 0x100 ∧
    fieldN b 4 4 % 256 ∈ [5, 6, 7, 10, 11] :=
  ⟨[0, 1, 0, 0, 5, 0, 0, 0], by decide +kernel⟩

theorem witness_evtPostConflict : ∃ (b : Bytes),
    8 ≤ b.length ∧
    b.length ≤ 908 ∧
    fieldN b 0 2 = 0x133 :=
  ⟨[0x33, 1, 0, 0, 5, 0, 0, 0], by decide +kernel⟩

theorem witness_evtPostRefused : ∃ (b : Bytes),
    b.length < 8 :=
  ⟨[0], by decide +kernel⟩

theorem witness_corRestart : ∃ (c : Fin 8) (d : Fin 8),
    d ≠ 4 ∧
    d ≠ c :=
  ⟨4, 0, by decide +kernel⟩

theorem witness_corHold : ∃ (c : Fin 8) (d : Fin 8),
    d ≠ 4 ∧
    d ≠ c :=
  ⟨4, 0, by decide +kernel⟩

theorem witness_corRelease : ∃ (v : Nat),
    v < 256 :=
  ⟨255, by decide +kernel⟩

theorem witness_corCtrlRefused : ∃ (c : Fin 8) (d : Fin 8) (v : Nat),
    (d = 4 ∨ d = c) ∧
    (v = 1 ∨ v = 2) :=
  ⟨4, 4, 1, by decide +kernel⟩

theorem witness_openReq : ∃ (s : State) (m : SopIn) (l : List SopIn),
    s.delivers 1 m l = true :=
  ⟨{ withO [] with com := { inbox := [⟨0, [], [1, 1, 255, 0, 0, 0, 0, 0], []⟩] } }, ⟨0, [], [1, 1, 255, 0, 0, 0, 0, 0], []⟩, [], by decide +kernel⟩

theorem witness_openFin : ∃ (s : State) (m : SopIn) (l : List SopIn),
    s.delivers 3 m l = true ∧
    m.data.length = 88 ∧
    fieldN m.data 4 4 = 0 :=
  ⟨{ withO [(Obj.COM_Ss_STATE 5, 1)] with com := { inbox := [⟨0, [], [1, 3, 5, 0, 0, 0, 0, 0] ++ List.replicate 80 0, []⟩] } }, ⟨0, [], [1, 3, 5, 0, 0, 0, 0, 0] ++ List.replicate 80 0, []⟩, [], by decide +kernel⟩

theorem witness_securedRx : ∃ (s : State) (m : SopIn) (l : List SopIn),
    s.delivers 4 m l = true :=
  ⟨{ withO [(Obj.COM_Ss_STATE 5, 2)] with com := { inbox := [⟨0, [], [1, 4, 5, 0, 0, 0, 0, 0] ++ List.replicate 20 0, []⟩] } }, ⟨0, [], [1, 4, 5, 0, 0, 0, 0, 0] ++ List.replicate 20 0, []⟩, [], by decide +kernel⟩

theorem witness_sessionOpenTimeout : ∃ (s : State) (x : Fin 8),
    s.o (Obj.COM_Ss_STATE x) = 1 :=
  ⟨withO [(Obj.COM_Ss_STATE 7, 1)], 7, by decide +kernel⟩

theorem witness_sessionIdleTimeout : ∃ (s : State) (x : Fin 8),
    s.o (Obj.COM_Ss_STATE x) = 2 :=
  ⟨withO [(Obj.COM_Ss_STATE 0, 2)], 0, by decide +kernel⟩

theorem witness_comSsClose : ∃ (s : State) (x : Fin 8),
    s.o (Obj.COM_Ss_STATE x) = 2 :=
  ⟨withO [(Obj.COM_Ss_STATE 0, 2)], 0, by decide +kernel⟩

theorem witness_close : ∃ (s : State) (x : Fin 8) (tag : Nat) (p : Bytes) (l : List SopReq),
    s.offers (.session x) 0x0A tag p l = true ∧
    s.o (Obj.COM_Ss_STATE x) = 2 :=
  ⟨sessReq 0x0A 1 [], 2, 1, [], [], by decide +kernel⟩

theorem witness_readNumber : ∃ (s : State) (t : State) (w : Writer) (tag : Nat) (p : Bytes) (v : Bytes) (l : List SopReq),
    s.offers w 1 tag p l = true ∧
    p.length = 10 ∧
    (s.served l).gate w (payKey p) false = none ∧
    objIs (payKey p) (fun x => !x.ty.blob) = true ∧
    (s.served l).valueFor w (payKey p) (bitOf (fieldN p 3 1) 0) = some (t, v) ∧
    fieldN p 4 4 = 0 ∧
    v.length ≤ fieldN p 8 2 ∧
    v.length ≤ 981 :=
  ⟨debugReq 1 9 [0, 3, 1, 0, 0, 0, 0, 0, 8, 0], (debugReq 1 9 [0, 3, 1, 0, 0, 0, 0, 0, 8, 0]).served [], .debug, 9, [0, 3, 1, 0, 0, 0, 0, 0, 8, 0], leBytes 8 0, [], by decide +kernel⟩

theorem witness_readAsks : ∃ (s : State) (w : Writer) (tag : Nat) (p : Bytes) (l : List SopReq),
    s.offers w 1 tag p l = true ∧
    p.length = 10 ∧
    (s.served l).gate w (payKey p) false = none ∧
    firmwareBacked (payKey p) = true :=
  ⟨debugReq 1 9 [0, 0x30, 2, 0, 0, 0, 0, 0, 8, 0], .debug, 9, [0, 0x30, 2, 0, 0, 0, 0, 0, 8, 0], [], by decide +kernel⟩

theorem witness_readFormat : ∃ (s : State) (w : Writer) (tag : Nat) (p : Bytes) (l : List SopReq),
    s.offers w 1 tag p l = true ∧
    p.length ≠ 10 :=
  ⟨debugReq 1 9 [0], .debug, 9, [0], [], by decide +kernel⟩

theorem witness_writeNumber : ∃ (s : State) (t : State) (w : Writer) (tag : Nat) (p : Bytes) (l : List SopReq),
    s.offers w 2 tag p l = true ∧
    p.length = 14 + fieldN p 12 2 ∧
    (s.served l).gate w (payKey p) true = none ∧
    objIs (payKey p) (fun x => !x.ty.blob && x.ty.size == fieldN p 4 4) = true ∧
    fieldN p 8 4 = 0 ∧
    fieldN p 12 2 = fieldN p 4 4 ∧
    (s.served l).hostPut w (payKey p) (.num (leNat (p.drop 14))) = (t, 0) :=
  ⟨debugReq 2 9 [0, 2, 13, 0, 1, 0, 0, 0, 0, 0, 0, 0, 1, 0, 1], (((debugReq 2 9 [0, 2, 13, 0, 1, 0, 0, 0, 0, 0, 0, 0, 1, 0, 1]).served []).hostPut .debug 0x2000D (.num 1)).1, .debug, 9, [0, 2, 13, 0, 1, 0, 0, 0, 0, 0, 0, 0, 1, 0, 1], [], by decide +kernel⟩

theorem witness_writeFormat : ∃ (s : State) (w : Writer) (tag : Nat) (p : Bytes) (l : List SopReq),
    s.offers w 2 tag p l = true ∧
    p.length ≠ 14 + fieldN p 12 2 :=
  ⟨debugReq 2 9 [0], .debug, 9, [0], [], by decide +kernel⟩

theorem witness_blockRead : ∃ (s : State) (w : Writer) (tag : Nat) (p : Bytes) (l : List SopReq),
    s.offers w 3 tag p l = true ∧
    p.length = 4 ∧
    firmIndex (fieldN p 0 2) = false ∧
    ((s.served l).readEntries w (fieldN p 0 2) (fieldN p 2 1) (fieldN p 3 1)).2.length ≤ 992 :=
  ⟨debugReq 3 9 [0, 2, 2, 2], .debug, 9, [0, 2, 2, 2], [], by decide +kernel⟩

theorem witness_blockWrite : ∃ (s : State) (w : Writer) (tag : Nat) (p : Bytes) (l : List SopReq) (es : List (Nat × Bytes)),
    s.offers w 4 tag p l = true ∧
    4 ≤ p.length ∧
    blockEntries (fieldN p 3 1) (p.drop 4) = some es ∧
    firmIndex (fieldN p 0 2) = false :=
  ⟨debugReq 4 9 [0, 5, 1, 1, 1, 1, 0, 7], .debug, 9, [0, 5, 1, 1, 1, 1, 0, 7], [], [(1, [7])], by decide +kernel⟩

theorem witness_sopCommitEmpty : ∃ (s : State) (w : Writer) (tag : Nat) (l : List SopReq),
    s.offers w 5 tag [] l = true ∧
    (s.served l).stageOf w = [] :=
  ⟨sessReq 5 9 [], .session 2, 9, [], by decide +kernel⟩

theorem witness_commitJudged : ∃ (s : State) (w : Writer) (tag : Nat) (l : List SopReq),
    s.offers w 5 tag [] l = true ∧
    (s.served l).stageOf w ≠ [] ∧
    anyFirm ((s.served l).stageOf w) = false :=
  ⟨{ sessReq 5 9 [] with com := { requests := [⟨.session 2, ⟨5, 9, []⟩⟩], sessions := vmod (Vector.replicate 8 {}) 2 (fun q => { q with stage := [(Obj.TMB_ORIGIN_TAI, .num 5)] }) } }, .session 2, 9, [], by decide +kernel⟩

theorem witness_subscribe : ∃ (s : State) (x : Fin 8) (tag : Nat) (p : Bytes) (l : List SopReq) (u : Sub),
    s.offers (.session x) 6 tag p l = true ∧
    (s.served l).subOf (.session x) p = .ok u ∧
    fieldN p 0 1 ≤ 15 :=
  ⟨sessReq 6 9 [15, 0, 1, 0, 9, 0], 2, 9, [15, 0, 1, 0, 9, 0], [], .events 1 9, ⟨by decide, rfl, by decide⟩⟩

theorem witness_unsubscribe : ∃ (s : State) (x : Fin 8) (tag : Nat) (p : Bytes) (l : List SopReq),
    s.offers (.session x) 7 tag p l = true ∧
    p.length = 1 :=
  ⟨sessReq 7 9 [3], 2, 9, [3], [], by decide +kernel⟩

theorem witness_ping : ∃ (s : State) (w : Writer) (tag : Nat) (l : List SopReq),
    s.offers w 0x0B tag [] l = true :=
  ⟨sessReq 0x0B 9 [], .session 2, 9, [], by decide +kernel⟩

theorem witness_notify : ∃ (s : State),
    s.com.notified < s.time.tickMark :=
  ⟨{ withO [] with time := { tickMark := 2 } }, by decide +kernel⟩

theorem witness_memRead : ∃ (s : State) (t : State) (w : Writer) (tag : Nat) (p : Bytes) (b : Bytes) (l : List SopReq),
    s.offers w 0x20 tag p l = true ∧
    p.length = 6 ∧
    (s.served l).debugRead (fieldN p 0 4) (fieldN p 4 2) = .ok (t, b) :=
  ⟨debugReq 0x20 9 [0, 0, 0, 0x20, 2, 0], (debugReq 0x20 9 [0, 0, 0, 0x20, 2, 0]).served [], .debug, 9, [0, 0, 0, 0x20, 2, 0], [0, 0], [], ⟨by decide, by decide, rfl⟩⟩

theorem witness_memWrite : ∃ (s : State) (t : State) (w : Writer) (tag : Nat) (p : Bytes) (k : Key) (l : List SopReq),
    s.offers w 0x21 tag p l = true ∧
    p.length = 6 + fieldN p 4 2 ∧
    (s.served l).debugWrite (fieldN p 0 4) (p.drop 6) = (t, k, 0) :=
  ⟨debugReq 0x21 9 [0, 0, 0, 0x20, 1, 0, 7], ((debugReq 0x21 9 [0, 0, 0, 0x20, 1, 0, 7]).served []).putBytes 8 0x20000000 [7], .debug, 9, [0, 0, 0, 0x20, 1, 0, 7], 0, [], by decide +kernel⟩

theorem witness_step : ∃ (s : State) (w : Writer) (tag : Nat) (p : Bytes) (l : List SopReq),
    s.offers w 0x22 tag p l = true ∧
    p.length = 1 ∧
    fieldN p 0 1 ≤ 7 ∧
    (s.served l).cores[asFin 8 (fieldN p 0 1)].mode = .halted :=
  ⟨{ debugReq 0x22 9 [3] with cores := vmod State.reset.cores 3 (fun x => { x with mode := .halted }) }, .debug, 9, [3], [], by decide +kernel⟩

theorem witness_comHndDone : ∃ (s : State) (slot : Nat) (r : HandlerReq),
    s.com.handlers.find? (fun h => h.slot == slot) = some r :=
  ⟨{ withO [] with com := { handlers := [⟨31, .session 2, 9, 1, 0x300000, 5, none, none⟩] } }, 31, ⟨31, .session 2, 9, 1, 0x300000, 5, none, none⟩, by decide +kernel⟩

theorem witness_handlerTimeout : ∃ (s : State) (r : HandlerReq) (l : List HandlerReq),
    s.com.handlers = r :: l :=
  ⟨{ withO [] with com := { handlers := [⟨31, .session 2, 9, 1, 0x300000, 5, none, none⟩] } }, ⟨31, .session 2, 9, 1, 0x300000, 5, none, none⟩, [], by decide +kernel⟩

theorem witness_qOpen : ∃ (s : State) (u : State) (q : Fin 16),
    s.svcOn 0 = true ∧
    s.openRefused q = false ∧
    u = s.qHold q ((s.o (Obj.SVC_Qq_ROUND q) + 1) % 65536) (s.o (Obj.SVC_Qq_NOPT q)) (s.o (Obj.SVC_Qq_OPEN_AT q)) (s.o (Obj.SVC_Qq_CLOSE_AT q)) (s.o (Obj.SVC_Qq_TAG_LO q)) (s.o (Obj.SVC_Qq_SPAN q)) 1 :=
  ⟨rootO [(Obj.SVC_Qq_NOPT 3, 2), (Obj.SVC_Qq_OPEN_AT 3, 0x10000000), (Obj.SVC_Qq_CLOSE_AT 3, 0x20000000), (Obj.SVC_Qq_TAG_LO 3, 9), (Obj.SVC_Qq_SPAN 3, 4)], (rootO [(Obj.SVC_Qq_NOPT 3, 2), (Obj.SVC_Qq_OPEN_AT 3, 0x10000000), (Obj.SVC_Qq_CLOSE_AT 3, 0x20000000), (Obj.SVC_Qq_TAG_LO 3, 9), (Obj.SVC_Qq_SPAN 3, 4)]).qHold 3 1 2 0x10000000 0x20000000 9 4 1, 3, by decide +kernel⟩

theorem witness_qOpenRefused : ∃ (s : State) (q : Fin 16),
    (s.svcOn 0 = false ∨ s.openRefused q = true) :=
  ⟨rootO [], 3, by decide +kernel⟩

theorem witness_qCancel : ∃ (s : State) (q : Fin 16),
    s.svcOn 0 = true ∧
    s.isRoot = true ∧
    s.qActive q = true :=
  ⟨rootO [(Obj.SVC_Qq_STATE 3, 2)], 3, by decide +kernel⟩

theorem witness_questionReflood : ∃ (s : State),
    s.svcOn 0 = true ∧
    s.isRoot = true :=
  ⟨rootO [(Obj.SVC_Qq_STATE 3, 2)], by decide +kernel⟩

theorem witness_questionRx : ∃ (s : State) (i : Nat) (e : Bytes) (b : Bytes) (q : Fin 16),
    e = s.floodElem i ∧
    b = s.elemPayload e ∧
    fieldN e 1 1 = 2 ∧
    b.length = 32 ∧
    fieldN b 0 1 ≤ 15 ∧
    q = asFin 16 (fieldN b 0 1) ∧
    s.svcOn 0 = true :=
  ⟨floodState 2 ([3, 2, 1] ++ List.replicate 29 0), 0, (floodState 2 ([3, 2, 1] ++ List.replicate 29 0)).floodElem 0, [3, 2, 1] ++ List.replicate 29 0, 3, by decide +kernel⟩

theorem witness_questionOpenAt : ∃ (s : State) (q : Fin 16),
    s.qState q = 1 :=
  ⟨rootO [(Obj.SVC_Qq_STATE 15, 1)], 15, by decide +kernel⟩

theorem witness_questionCloseAt : ∃ (s : State) (q : Fin 16),
    s.qState q = 2 :=
  ⟨rootO [(Obj.SVC_Qq_STATE 15, 2)], 15, by decide +kernel⟩

theorem witness_questionFinal : ∃ (s : State) (q : Fin 16),
    s.qState q = 3 :=
  ⟨rootO [(Obj.SVC_Qq_STATE 15, 3)], 15, by decide +kernel⟩

theorem witness_rosterCheck : ∃ (s : State),
    s.holdsAddr = true ∧
    s.rootOf s.memberSet = s.me ∧
    s.svc.cur = none ∧
    s.svc.published = false :=
  ⟨rootO [], by decide +kernel⟩

theorem witness_rosterRxRoster : ∃ (s : State) (i : Nat) (e : Bytes) (b : Bytes),
    e = s.floodElem i ∧
    b = s.elemPayload e ∧
    fieldN e 1 1 = 6 ∧
    fieldN b 0 1 = 1 ∧
    b.length = 28 :=
  ⟨floodState 6 ([1] ++ List.replicate 27 0), 0, (floodState 6 ([1] ++ List.replicate 27 0)).floodElem 0, [1] ++ List.replicate 27 0, by decide +kernel⟩

theorem witness_rosterRxCatalog : ∃ (s : State) (i : Nat) (e : Bytes) (b : Bytes),
    e = s.floodElem i ∧
    b = s.elemPayload e ∧
    fieldN e 1 1 = 6 ∧
    fieldN b 0 1 = 2 ∧
    b.length = 44 ∧
    s.svcOn 2 = true ∧
    1 ≤ cPsize (b.drop 4) :=
  ⟨floodState 6 ([2] ++ List.replicate 43 1), 0, (floodState 6 ([2] ++ List.replicate 43 1)).floodElem 0, [2] ++ List.replicate 43 1, by decide +kernel⟩

theorem witness_rosterAdopt : ∃ (s : State) (u : State) (r : Roster),
    s.svc.pend = some r ∧
    linear r.eff ≤ s.now ∧
    u = s.upTo (boundaryAt frameT s.now) :=
  ⟨rosterState (fun x => { x with pend := some ⟨1, 1, 0, 1, []⟩ }), (rosterState (fun x => { x with pend := some ⟨1, 1, 0, 1, []⟩ })).upTo 0, ⟨1, 1, 0, 1, []⟩, by decide +kernel⟩

theorem witness_rosterNotDue : ∃ (s : State) (r : Roster),
    s.svc.pend = some r ∧
    s.now < linear r.eff :=
  ⟨rosterState (fun x => { x with pend := some ⟨1, 1, 0x10000, 1, []⟩ }), ⟨1, 1, 0x10000, 1, []⟩, by decide +kernel⟩

theorem witness_tagfwdSendPress : ∃ (s : State) (n : Fin 4) (i : Nat) (o : Nat) (w : Nat) (e : Bytes) (p : Bytes) (t : Bytes),
    e = s.rxElemAt n i ∧
    (fieldN e 48 1 = 0 ∨ fieldN e 48 1 = 6) ∧
    fieldN e 50 1 = 2 ∧
    bitOf (fieldN e 51 1) 0 = false ∧
    p = s.rxPsdu n e ∧
    t = tagfwd e p 0 ∧
    s.holders (shardOf (fieldN p 0 4)) = (o, w) ∧
    s.svcOn 0 = true :=
  ⟨frameState 2, 0, 0, 0, 0, (frameState 2).rxElemAt 0 0, (frameState 2).rxPsdu 0 ((frameState 2).rxElemAt 0 0), tagfwd ((frameState 2).rxElemAt 0 0) ((frameState 2).rxPsdu 0 ((frameState 2).rxElemAt 0 0)) 0, by decide +kernel⟩

theorem witness_tagfwdSendData : ∃ (s : State) (n : Fin 4) (i : Nat) (o : Nat) (w : Nat) (e : Bytes) (p : Bytes),
    e = s.rxElemAt n i ∧
    (fieldN e 48 1 = 0 ∨ fieldN e 48 1 = 6) ∧
    ((fieldN e 50 1 = 3 ∧ reportOk p = true) ∨ (fieldN e 50 1 = 1 ∧ (frameElements p).1.any (fun x => x.1 == 1) = true ∧ (fBody p).length ≤ 902)) ∧
    bitOf (fieldN e 51 1) 0 = false ∧
    p = s.rxPsdu n e ∧
    s.holders (shardOf (fieldN p 0 4)) = (o, w) ∧
    s.svcOn 3 = true :=
  ⟨dataState, 0, 0, 0, 0, dataState.rxElemAt 0 0, dataState.rxPsdu 0 (dataState.rxElemAt 0 0), by decide +kernel⟩

theorem witness_tagfwdRxHeld : ∃ (s : State) (i : Nat) (e : Bytes) (t : Bytes),
    e = s.uniElem i ∧
    t = s.elemPayload e ∧
    fieldN e 1 1 = 1 ∧
    24 ≤ t.length ∧
    s.holds (shardOf (fieldN t 0 4)) = true :=
  ⟨{ rootO [] with mem := elemMem 0x20110000 1 2 (List.replicate 24 0) ++ [(0x20100000, 1)] }, 0, ({ rootO [] with mem := elemMem 0x20110000 1 2 (List.replicate 24 0) ++ [(0x20100000, 1)] } : State).uniElem 0, List.replicate 24 0, by decide +kernel⟩

theorem witness_tagfwdRxMisrouted : ∃ (s : State) (i : Nat) (e : Bytes) (t : Bytes),
    e = s.uniElem i ∧
    t = s.elemPayload e ∧
    fieldN e 1 1 = 1 ∧
    24 ≤ t.length ∧
    s.holds (shardOf (fieldN t 0 4)) = false ∧
    bitOf (fieldN t 6 1) 0 = true :=
  ⟨uniState 1 ([0, 0, 0, 0, 2, 0, 1] ++ List.replicate 17 0), 0, (uniState 1 ([0, 0, 0, 0, 2, 0, 1] ++ List.replicate 17 0)).uniElem 0, [0, 0, 0, 0, 2, 0, 1] ++ List.replicate 17 0, by decide +kernel⟩

theorem witness_handoverRx : ∃ (s : State) (i : Nat) (h : Nat) (q : Fin 16) (e : Bytes) (b : Bytes) (counts : List Nat) (offs : List Nat) (u : State),
    e = s.uniElem i ∧
    b = s.elemPayload e ∧
    fieldN e 1 1 = 3 ∧
    48 ≤ b.length ∧
    q = asFin 16 (fieldN b 4 1) ∧
    h = fieldN b 8 2 ∧
    s.svc.waits.any (fun w => w.shard == h && w.q == q.val) = true ∧
    fieldN b 6 2 = s.o (Obj.SVC_Qq_ROUND q) ∧
    counts = (List.range 8).map (fun c => fieldN b (12 + 4 * c) 4) ∧
    offs = (List.range (fieldN b 44 2)).map (fun j => fieldN b (48 + 3 * j) 3) ∧
    u = s.modQ q (fun x => { x with counts := (h, counts) :: x.counts.filter (fun c => c.1 != h), bits := offs.filter (fun d => !(x.bits.contains d)) ++ x.bits }) :=
  ⟨{ uniState 3 (List.replicate 48 0) with svc := { waits := [⟨0, 0, 0, []⟩] } }, 0, 0, 0, ({ uniState 3 (List.replicate 48 0) with svc := { waits := [⟨0, 0, 0, []⟩] } } : State).uniElem 0, List.replicate 48 0, List.replicate 8 0, [], ({ uniState 3 (List.replicate 48 0) with svc := { waits := [⟨0, 0, 0, []⟩] } } : State).modQ 0 (fun x => { x with counts := (0, List.replicate 8 0) :: x.counts.filter (fun c => c.1 != 0), bits := [] ++ x.bits }), and3 (by decide +kernel) (and3 (by decide +kernel) (and3 (by decide +kernel) ⟨by decide +kernel, rfl⟩))⟩

theorem witness_handoverTimeout : ∃ (s : State) (shard : Nat) (q : Nat) (qs : List (Fin 16)),
    s.waitLate shard q = true ∧
    qs = fin16.filter (fun (x : Fin 16) => s.waitLate shard x) :=
  ⟨{ withO [(Obj.SVC_HANDOVER_WAIT, 0)] with svc := { waits := [⟨7, 2, 0, []⟩] } }, 7, 2, [2], by decide +kernel⟩

theorem witness_pressCount : ∃ (s : State) (l : List (Nat × Bytes)),
    l = s.svc.presses.filter (fun x => decide (x.1 < s.now / frameT)) :=
  ⟨{ rootO [] with now := 400000, svc := { presses := [(0, []), (1, [])] } }, [(0, [])], by decide +kernel⟩

theorem witness_rollupSend : ∃ (s : State) (u : State) (qs : List (Fin 16)) (recs : Bytes) (sums : List Nat),
    s.svcOn 0 = true ∧
    s.svc.cur ≠ none ∧
    s.o Obj.SVC_TALLY_PARENT ≠ 0 ∧
    qs = fin16.filter (fun (q : Fin 16) => s.qState q != 0) ∧
    recs = qs.flatMap (fun (q : Fin 16) => s.totalRec q) ∧
    sums = fin16.flatMap (fun (q : Fin 16) => s.totals q) ∧
    u = qs.foldl (fun (t : State) (q : Fin 16) => t.putTotals q (t.totals q) s.nodes) s :=
  ⟨{ rootO [(Obj.SVC_TALLY_PARENT, 9)] with svc := { cur := some ⟨9, 0, 0, 2, []⟩, members := [1, 9] } }, { rootO [(Obj.SVC_TALLY_PARENT, 9)] with svc := { cur := some ⟨9, 0, 0, 2, []⟩, members := [1, 9] } }, [], [], List.replicate 128 0, and3 (by decide +kernel) (and3 (by decide +kernel) rfl)⟩

theorem witness_rollupRx : ∃ (s : State) (u : State) (i : Nat) (e : Bytes) (b : Bytes),
    e = s.uniElem i ∧
    b = s.elemPayload e ∧
    fieldN e 1 1 = 2 ∧
    16 ≤ b.length ∧
    s.svcOn 0 = true ∧
    fieldN b 0 4 = s.o Obj.SVC_ROSTER_GEN ∧
    s.isChild (fieldN e 2 2 % 4096) = true ∧
    u = (if linear (fieldN b 4 8) + 384000 < s.now then s.miss 6 0x16 (linear (fieldN b 4 8) + 384000) else s) :=
  ⟨{ uniState 2 (List.replicate 16 0) with svc := { cur := some ⟨1, 0, 0, 2, []⟩, members := [1, 2] } }, { uniState 2 (List.replicate 16 0) with svc := { cur := some ⟨1, 0, 0, 2, []⟩, members := [1, 2] } }, 0, ({ uniState 2 (List.replicate 16 0) with svc := { cur := some ⟨1, 0, 0, 2, []⟩, members := [1, 2] } } : State).uniElem 0, List.replicate 16 0, and3 (by decide +kernel) (and3 (by decide +kernel) ⟨by decide +kernel, (if_neg (by decide +kernel)).symm⟩)⟩

theorem witness_rollupRxStale : ∃ (s : State) (i : Nat) (e : Bytes) (b : Bytes),
    e = s.uniElem i ∧
    b = s.elemPayload e ∧
    fieldN e 1 1 = 2 ∧
    16 ≤ b.length ∧
    s.svcOn 0 = true ∧
    (fieldN b 0 4 ≠ s.o Obj.SVC_ROSTER_GEN ∨ s.isChild (fieldN e 2 2 % 4096) = false) :=
  ⟨uniState 2 (List.replicate 16 0), 0, (uniState 2 (List.replicate 16 0)).uniElem 0, List.replicate 16 0, by decide +kernel⟩

theorem witness_hcReport : ∃ (s : State) (r : Report),
    s.svc.report = some r ∧
    s.hostSession = true ∧
    s.now < r.formed + frameT :=
  ⟨{ rootO [(Obj.COM_Ss_STATE 1, 2)] with svc := { report := some { formed := 0, empty := false, nodes := 1, totals := [], ended := [], body := [1] } } }, { formed := 0, empty := false, nodes := 1, totals := [], ended := [], body := [1] }, by decide +kernel⟩

theorem witness_hcReportMissed : ∃ (s : State) (r : Report),
    s.svc.report = some r ∧
    (s.hostSession = false ∨ r.formed + frameT ≤ s.now) :=
  ⟨{ rootO [] with svc := { report := some { formed := 0, empty := false, nodes := 1, totals := [], ended := [], body := [1] } } }, { formed := 0, empty := false, nodes := 1, totals := [], ended := [], body := [1] }, by decide +kernel⟩

theorem witness_hcReportFormed : ∃ (s : State) (qs : List (Fin 16)) (nodes : Nat) (flags : Nat),
    qs = s.reportQs ∧
    nodes = 1 + sumL ((s.svc.children.filter (fun c => c.sf + 1 == s.sf)).map (fun c => c.nodes)) ∧
    flags = b2n (s.svc.adoptedSf == some (s.sf - 1)) + 2 * b2n s.svc.empty :=
  ⟨rootO [], [], 1, 0, by decide +kernel⟩

theorem witness_ltnSend : ∃ (s : State) (b : Bytes),
    b = s.blob Obj.SVC_LTN_STAGE ∧
    s.svcOn 1 = true ∧
    s.isRoot = true ∧
    fieldN b 3 1 ≤ 16 ∧
    b.length = 24 + fieldN b 3 1 ∧
    s.now + 2 * s.o Obj.SVC_LTN_MIN_LEAD ≤ cueAt b ∧
    fieldN b 12 4 ≤ fieldN b 16 4 ∧
    s.svc.cues.length < 32 :=
  ⟨{ rootO [] with blobs := [(Obj.SVC_LTN_STAGE, List.replicate 3 0 ++ [0, 0, 0, 0, 0x10] ++ List.replicate 16 0)] }, List.replicate 3 0 ++ [0, 0, 0, 0, 0x10] ++ List.replicate 16 0, by decide +kernel⟩

theorem witness_ltnSendRefused : ∃ (s : State),
    (s.svcOn 1 = false ∨ s.isRoot = false) :=
  ⟨withO [], by decide +kernel⟩

theorem witness_cueRx : ∃ (s : State) (i : Nat) (e : Bytes) (b : Bytes),
    e = s.floodElem i ∧
    b = s.elemPayload e ∧
    fieldN e 1 1 = 3 ∧
    b.length = 24 + fieldN b 3 1 ∧
    fieldN b 3 1 ≤ 16 ∧
    s.svcOn 1 = true :=
  ⟨floodState 3 (List.replicate 24 0), 0, (floodState 3 (List.replicate 24 0)).floodElem 0, List.replicate 24 0, by decide +kernel⟩

theorem witness_cueFire : ∃ (s : State) (u : State) (b : Bytes),
    s.nextCue = some b ∧
    u = (s.upTo (cueAt b)).setCues (s.svc.cues.filter (fun x => cueId x != cueId b)) ∧
    bitOf (fieldN b 2 1) 1 = true ∧
    ¬ cueAt b < s.now ∧
    u.sysclk = true ∧
    (u.o (Obj.GIO_p_CFG (fieldN b 20 1 % 16)) % 4 = 1 ∨ u.o (Obj.GIO_p_CFG (fieldN b 20 1 % 16)) % 4 = 2) :=
  ⟨{ rootO [(Obj.GIO_p_CFG 5, 1)] with svc := { cues := [[1, 0, 2, 0] ++ List.replicate 16 0 ++ [0x15, 0, 0, 0]] } }, ({ rootO [(Obj.GIO_p_CFG 5, 1)] with svc := { cues := [[1, 0, 2, 0] ++ List.replicate 16 0 ++ [0x15, 0, 0, 0]] } } : State).setCues [], [1, 0, 2, 0] ++ List.replicate 16 0 ++ [0x15, 0, 0, 0], by decide +kernel⟩

theorem witness_cueFireLate : ∃ (s : State) (u : State) (b : Bytes),
    s.nextCue = some b ∧
    u = (s.upTo (cueAt b)).setCues (s.svc.cues.filter (fun x => cueId x != cueId b)) ∧
    bitOf (fieldN b 2 1) 1 = true ∧
    (cueAt b < s.now ∨ u.sysclk = false) :=
  ⟨{ rootO [(Obj.GIO_p_CFG 5, 1)] with now := 9, svc := { cues := [[1, 0, 2, 0] ++ List.replicate 16 0 ++ [0x15, 0, 0, 0]] } }, ({ rootO [(Obj.GIO_p_CFG 5, 1)] with now := 9, svc := { cues := [[1, 0, 2, 0] ++ List.replicate 16 0 ++ [0x15, 0, 0, 0]] } } : State).setCues [], [1, 0, 2, 0] ++ List.replicate 16 0 ++ [0x15, 0, 0, 0], by decide +kernel⟩

theorem witness_cueFireNoPin : ∃ (s : State) (u : State) (b : Bytes),
    s.nextCue = some b ∧
    u = (s.upTo (cueAt b)).setCues (s.svc.cues.filter (fun x => cueId x != cueId b)) ∧
    bitOf (fieldN b 2 1) 1 = false :=
  ⟨{ rootO [] with svc := { cues := [List.replicate 24 0] } }, ({ rootO [] with svc := { cues := [List.replicate 24 0] } } : State).setCues [], List.replicate 24 0, by decide +kernel⟩

theorem witness_homeDecide : ∃ (s : State) (u : State) (tag : Nat) (fcnt : Nat) (h : Home) (h2 : Home) (l : List Offer) (b : Offer),
    s.svc.homes.find? (fun y => y.tag == tag) = some h ∧
    l = h.offers.filter (fun y => y.fcnt == fcnt) ∧
    (l.foldl (fun (m : Option Offer) y => match m with | none => some y | some z => if z.rssi < y.rssi then some y else some z) none = some b) ∧
    h2 = { h with home := b.hearer, rssi := b.rssi, heard := l.foldl (fun m y => max m y.endAt) h.heard, offers := h.offers.filter (fun y => y.fcnt != fcnt) } ∧
    u = (s.upTo (l.foldl (fun m y => max m (offerEnd y.endAt)) 0)).modSvc (fun y => { y with homes := h2 :: y.homes.filter (fun z => z.tag != tag) }) :=
  ⟨{ rootO [] with svc := { homes := [{ tag := 9, offers := [⟨3, 2, -60, 5⟩, ⟨3, 7, -50, 5⟩] }] } }, { ({ rootO [] with svc := { homes := [{ tag := 9, offers := [⟨3, 2, -60, 5⟩, ⟨3, 7, -50, 5⟩] }] } } : State).upTo (offerEnd 5) with svc := { homes := [{ tag := 9, home := 7, rssi := -50, heard := 5 }] } }, 9, 3, { tag := 9, offers := [⟨3, 2, -60, 5⟩, ⟨3, 7, -50, 5⟩] }, { tag := 9, home := 7, rssi := -50, heard := 5 }, [⟨3, 2, -60, 5⟩, ⟨3, 7, -50, 5⟩], ⟨3, 7, -50, 5⟩, by decide +kernel⟩

theorem witness_homeRx : ∃ (s : State) (i : Nat) (e : Bytes) (b : Bytes) (l : List Nat),
    e = s.uniElem i ∧
    b = s.elemPayload e ∧
    fieldN e 1 1 = 4 ∧
    b.length = 5 ∧
    s.svcOn 3 = true ∧
    l = s.svc.homesHere.filter (fun y => y != fieldN b 0 4) :=
  ⟨uniState 4 [9, 0, 0, 0, 1], 0, (uniState 4 [9, 0, 0, 0, 1]).uniElem 0, [9, 0, 0, 0, 1], [], by decide +kernel⟩

theorem witness_homeLapse : ∃ (s : State) (u : State) (tag : Nat) (h : Home),
    s.homeOf tag = some h ∧
    u = s.upTo (h.heard + epochT * s.o Obj.SVC_HOME_AGE) :=
  ⟨{ rootO [(Obj.SVC_HOME_AGE, 0)] with svc := { homes := [{ tag := 9, home := 2 }] } }, { rootO [(Obj.SVC_HOME_AGE, 0)] with svc := { homes := [{ tag := 9, home := 2 }] } }, 9, { tag := 9, home := 2 }, by decide +kernel⟩

theorem witness_bskUpRx : ∃ (s : State) (i : Nat) (e : Bytes) (b : Bytes),
    e = s.uniElem i ∧
    b = s.elemPayload e ∧
    fieldN e 1 1 = 5 ∧
    26 ≤ b.length ∧
    s.svcOn 3 = true ∧
    s.tallyRoot = true :=
  ⟨{ uniState 5 (List.replicate 26 0) with svc := { cur := some ⟨1, 0, 0, 1, []⟩ } }, 0, ({ uniState 5 (List.replicate 26 0) with svc := { cur := some ⟨1, 0, 0, 1, []⟩ } } : State).uniElem 0, List.replicate 26 0, by decide +kernel⟩

theorem witness_bskRecordSend : ∃ (s : State) (r : Bytes),
    s.recordDue = some r ∧
    s.svcOn 3 = true ∧
    s.tallyRoot = true ∧
    s.hostSession = true :=
  ⟨{ rootO [(Obj.COM_Ss_STATE 1, 2), (Obj.SVC_BSK_WINDOW, 4)] with svc := { cur := some ⟨1, 0, 0, 1, []⟩, records := [(0, [7])] } }, [7], by decide +kernel⟩

theorem witness_bskAckedWrite : ∃ (s : State) (v : Nat) (a : Nat),
    a = s.o Obj.SVC_BSK_ACKED ∧
    consOk (2 ^ 32) a (s.o Obj.SVC_BSK_NEXT) v = true :=
  ⟨rootO [(Obj.SVC_BSK_NEXT, 3)], 2, 0, by decide +kernel⟩

theorem witness_bskAckedWriteDropped : ∃ (s : State) (v : Nat),
    consOk (2 ^ 32) (s.o Obj.SVC_BSK_ACKED) (s.o Obj.SVC_BSK_NEXT) v = false :=
  ⟨rootO [(Obj.SVC_BSK_NEXT, 3)], 4, by decide +kernel⟩

theorem witness_bskStatusSend : ∃ (s : State),
    s.svcOn 3 = true ∧
    s.tallyRoot = true ∧
    s.hostSession = true ∧
    frameOf s.now = 0 :=
  ⟨{ rootO [(Obj.COM_Ss_STATE 1, 2)] with svc := { cur := some ⟨1, 0, 0, 1, []⟩ } }, by decide +kernel⟩

theorem witness_bskDnSend : ∃ (s : State) (u : State) (b : Bytes),
    b = s.blob Obj.SVC_BSK_DN_STAGE ∧
    s.svcOn 3 = true ∧
    s.isRoot = true ∧
    fieldN b 16 2 ≤ 200 ∧
    20 + fieldN b 16 2 ≤ b.length ∧
    s.now < linear (fieldN b 8 8) ∧
    s.svc.opens.length < 1024 ∧
    u = s.setOpens (s.svc.opens ++ [dnOf b]) :=
  ⟨{ rootO [] with blobs := [(Obj.SVC_BSK_DN_STAGE, List.replicate 8 0 ++ [5] ++ List.replicate 11 0)] }, ({ rootO [] with blobs := [(Obj.SVC_BSK_DN_STAGE, List.replicate 8 0 ++ [5] ++ List.replicate 11 0)] } : State).setOpens [dnOf (List.replicate 8 0 ++ [5] ++ List.replicate 11 0)], List.replicate 8 0 ++ [5] ++ List.replicate 11 0, by decide +kernel⟩

theorem witness_bskDownRxPage : ∃ (s : State) (i : Nat) (e : Bytes) (b : Bytes),
    e = s.floodElem i ∧
    b = s.elemPayload e ∧
    s.svcOn 3 = true ∧
    fieldN e 1 1 = 4 ∧
    20 ≤ b.length :=
  ⟨{ floodState 4 (List.replicate 20 0) with mem := elemMem 0x20130000 4 2 (List.replicate 20 0) ++ [(hotAddr 0 + 21, 1)] }, 0, ({ floodState 4 (List.replicate 20 0) with mem := elemMem 0x20130000 4 2 (List.replicate 20 0) ++ [(hotAddr 0 + 21, 1)] } : State).floodElem 0, List.replicate 20 0, by decide +kernel⟩

theorem witness_bskDownRxRequest : ∃ (s : State) (i : Nat) (e : Bytes) (b : Bytes),
    e = s.uniElem i ∧
    b = s.elemPayload e ∧
    s.svcOn 3 = true ∧
    fieldN e 1 1 = 6 ∧
    20 ≤ b.length :=
  ⟨uniState 6 (List.replicate 20 0), 0, (uniState 6 (List.replicate 20 0)).uniElem 0, List.replicate 20 0, by decide +kernel⟩

theorem witness_bskDownRxAnswer : ∃ (s : State) (i : Nat) (e : Bytes) (b : Bytes) (r : DnReq),
    e = s.uniElem i ∧
    b = s.elemPayload e ∧
    s.svcOn 3 = true ∧
    fieldN e 1 1 = 7 ∧
    b.length = 5 ∧
    s.svc.opens.find? (fun y => y.req == fieldN b 0 4) = some r :=
  ⟨{ uniState 7 [9, 0, 0, 0, 1] with svc := { opens := [⟨9, 3, 0, [], [], false⟩] } }, 0, (uniState 7 [9, 0, 0, 0, 1]).uniElem 0, [9, 0, 0, 0, 1], ⟨9, 3, 0, [], [], false⟩, by decide +kernel⟩

theorem witness_bskDownTx : ∃ (s : State) (u : State) (req : Nat) (r : DnReq) (v : Instant × Nat),
    s.svc.serves.find? (fun y => y.req == req && decide (s.now < linear y.expire) && (!y.paged || s.heardLately y.tag)) = some r ∧
    s.rdvNow r.tag (s.listenK r.tag 0) = some v ∧
    s.downFits r.tag (2 + r.data.length) = true ∧
    u = s.downSend r.tag v (s.downBody r.tag ([1] ++ leBytes 1 r.data.length ++ r.data)) :=
  ⟨rdvState { serves := [⟨9, 3, 5, [1], [], false⟩] }, _, 9, ⟨9, 3, 5, [1], [], false⟩, ((rdvState { serves := [⟨9, 3, 5, [1], [], false⟩] }).rdvNow 3 0).getD (0, 0), by decide +kernel, rdvNow_at0 rfl (by decide +kernel) (by decide +kernel), by decide +kernel, rfl⟩

theorem witness_bskDownTxTooLong : ∃ (s : State) (req : Nat) (r : DnReq) (v : Instant × Nat),
    s.svc.serves.find? (fun y => y.req == req && decide (s.now < linear y.expire) && (!y.paged || s.heardLately y.tag)) = some r ∧
    s.rdvNow r.tag (s.listenK r.tag 0) = some v ∧
    s.downFits r.tag (2 + r.data.length) = false :=
  ⟨rdvState { serves := [⟨9, 3, 5, List.replicate 200 1, [], false⟩] }, 9, ⟨9, 3, 5, List.replicate 200 1, [], false⟩, ((rdvState { serves := [⟨9, 3, 5, List.replicate 200 1, [], false⟩] }).rdvNow 3 0).getD (0, 0), by decide +kernel, rdvNow_at0 rfl (by decide +kernel) (by decide +kernel), by decide +kernel⟩

theorem witness_bskDownTxNoRendezvous : ∃ (s : State) (req : Nat) (r : DnReq),
    s.svc.serves.find? (fun y => y.req == req && decide (s.now < linear y.expire) && (!y.paged || s.heardLately y.tag)) = some r ∧
    s.rdvNow r.tag (s.listenK r.tag 0) = none :=
  ⟨{ rootO [(Obj.MAC_RDV_SLOTS, 0)] with svc := { serves := [⟨9, 3, 5, [1], [], false⟩] } }, 9, ⟨9, 3, 5, [1], [], false⟩, by decide +kernel⟩

theorem witness_bskDownTxNone : ∃ (s : State) (req : Nat),
    s.svc.serves.find? (fun y => y.req == req && decide (s.now < linear y.expire) && (!y.paged || s.heardLately y.tag)) = none :=
  ⟨rootO [], 9, by decide +kernel⟩

theorem witness_dnAckRx : ∃ (s : State) (n : Fin 4) (i : Nat) (e : Bytes) (p : Bytes),
    e = s.rxElemAt n i ∧
    (fieldN e 48 1 = 0 ∨ fieldN e 48 1 = 6) ∧
    fieldN e 50 1 = 1 ∧
    bitOf (fieldN e 51 1) 0 = false ∧
    s.svcOn 3 = true ∧
    p = s.rxPsdu n e :=
  ⟨frameState 1, 0, 0, (frameState 1).rxElemAt 0 0, (frameState 1).rxPsdu 0 ((frameState 1).rxElemAt 0 0), by decide +kernel⟩

theorem witness_bskDnExpire : ∃ (s : State) (req : Nat) (r : DnReq),
    s.svc.opens.find? (fun y => y.req == req) = some r :=
  ⟨{ rootO [] with svc := { opens := [⟨9, 3, 0, [], [], false⟩] } }, 9, ⟨9, 3, 0, [], [], false⟩, by decide +kernel⟩

theorem witness_hmpStart : ∃ (s : State) (u : State) (d : Bytes) (image : Bytes),
    d = s.stagedCampaign ∧
    s.svcOn 2 = true ∧
    s.isRoot = true ∧
    (s.blob Obj.SVC_HMP_STAGE).length = 40 ∧
    s.campRuns = false ∧
    cImage d ≠ 0 ∧
    cKind d ≤ 1 ∧
    cSize d ≠ 0 ∧
    cPsizeOk d = true ∧
    cCount d ≤ 65535 ∧
    cStart d < cEnd d ∧
    s.imageHere d = true ∧
    image = (if cKind d = 0 then [] else s.blob Obj.SVC_HMP_IMAGE) ∧
    u = s.firmFlood 7 6 15 (catalogBody d) :=
  ⟨{ rootO [(Obj.SVC_HMP_RATE, 1)] with blobs := [(Obj.SVC_HMP_STAGE, campDesc), (Obj.SVC_HMP_IMAGE, List.replicate 32 5)] }, ({ rootO [(Obj.SVC_HMP_RATE, 1)] with blobs := [(Obj.SVC_HMP_STAGE, campDesc), (Obj.SVC_HMP_IMAGE, List.replicate 32 5)] } : State).firmFlood 7 6 15 (catalogBody campDesc), campDesc, List.replicate 32 5, and3 (by decide +kernel) (and3 (by decide +kernel) (and3 (by decide +kernel) (and3 (by decide +kernel) ⟨by decide +kernel, rfl⟩)))⟩

theorem witness_hmpStartRefused : ∃ (s : State),
    (s.svcOn 2 = false ∨ s.isRoot = false) :=
  ⟨withO [], by decide +kernel⟩

theorem witness_hmpStop : ∃ (s : State) (k : Campaign) (d : Bytes),
    s.svc.camp = some k ∧
    s.svcOn 2 = true ∧
    s.isRoot = true ∧
    s.campRuns = true ∧
    d = sliceB k.desc 0 20 ++ leBytes 8 (tt64 s.now) ++ sliceB (k.desc.drop 28) 0 12 :=
  ⟨campState true [], { desc := campDesc, image := List.replicate 32 5, root := true }, sliceB campDesc 0 20 ++ List.replicate 8 0 ++ sliceB (campDesc.drop 28) 0 12, by decide +kernel⟩

theorem witness_catalogReflood : ∃ (s : State) (k : Campaign),
    s.svc.camp = some k ∧
    s.svcOn 2 = true ∧
    s.isRoot = true ∧
    s.campRuns = true :=
  ⟨campState true [], { desc := campDesc, image := List.replicate 32 5, root := true }, by decide +kernel⟩

theorem witness_pieceSeed : ∃ (s : State) (u : State) (k : Campaign),
    s.svc.camp = some k ∧
    s.svcOn 2 = true ∧
    s.isRoot = true ∧
    k.root = true ∧
    s.campRuns = true ∧
    cStart k.desc ≤ s.now ∧
    k.seedSf ≠ some s.sf ∧
    (u = ((List.range (cRate k.desc)).map (fun j => k.next + j)).foldl (fun (t : State) i => match t.pieceOf k i with | some p => t.firmFlood 7 5 15 (pieceBody k.desc i p) | none => t) s) :=
  ⟨campState true [], ((List.range 1).map (fun j => 0 + j)).foldl (fun (t : State) i => match t.pieceOf { desc := campDesc, image := List.replicate 32 5, root := true } i with | some p => t.firmFlood 7 5 15 (pieceBody campDesc i p) | none => t) (campState true []), { desc := campDesc, image := List.replicate 32 5, root := true }, and3 (by decide +kernel) (and3 (by decide +kernel) ⟨by decide +kernel, rfl⟩)⟩

theorem witness_pieceRx : ∃ (s : State) (flood : Bool) (i : Nat) (e : Bytes) (b : Bytes),
    e = (if flood then s.floodElem i else s.uniElem i) ∧
    b = s.elemPayload e ∧
    fieldN e 1 1 = (if flood then 5 else 9) ∧
    9 ≤ b.length ∧
    s.svcOn 2 = true :=
  ⟨uniState 9 (List.replicate 9 0), false, 0, (uniState 9 (List.replicate 9 0)).uniElem 0, List.replicate 9 0, by decide +kernel⟩

theorem witness_pieceReqSend : ∃ (s : State) (u : State) (k : Campaign) (l : List Nat) (r : Route),
    s.svc.camp = some k ∧
    l = k.missing.take (cRate k.desc) ∧
    s.svcOn 2 = true ∧
    s.campRuns = true ∧
    cPassEnd k.desc ≤ s.now ∧
    l ≠ [] ∧
    k.reqSf ≠ some s.sf ∧
    s.route (s.o Obj.SVC_ROOT) = some r ∧
    u = s.modCamp (fun y => { y with reqSf := some s.sf }) :=
  ⟨{ campState false [(trailAddr 0 9, 9), (trailAddr 0 9 + 1, 64)] with now := 2 * superT, objs := [(Obj.FAB_ADDR, 1), (Obj.FAB_ADDR_STATE, 2), (Obj.SVC_ENABLE, 15), (Obj.SVC_ROOT, 9)] }, { { campState false [(trailAddr 0 9, 9), (trailAddr 0 9 + 1, 64)] with now := 2 * superT, objs := [(Obj.FAB_ADDR, 1), (Obj.FAB_ADDR_STATE, 2), (Obj.SVC_ENABLE, 15), (Obj.SVC_ROOT, 9)] } with svc := { camp := some { desc := campDesc, image := List.replicate 32 5, reqSf := some 2 } } }, { desc := campDesc, image := List.replicate 32 5 }, [0], .wired 0 9, by decide +kernel⟩

theorem witness_pieceReqRx : ∃ (s : State) (i : Nat) (n : Nat) (e : Bytes) (b : Bytes) (k : Campaign),
    e = s.uniElem i ∧
    b = s.elemPayload e ∧
    s.svc.camp = some k ∧
    n = fieldN b 2 1 ∧
    fieldN e 1 1 = 8 ∧
    s.svcOn 2 = true ∧
    s.campRuns = true ∧
    fieldN b 0 2 = cImage k.desc ∧
    1 ≤ n ∧
    n ≤ 64 ∧
    b.length = 3 + 2 * n :=
  ⟨campState true (elemMem 0x20110000 8 2 [7, 0, 1, 1, 0]), 0, 1, (campState true (elemMem 0x20110000 8 2 [7, 0, 1, 1, 0])).uniElem 0, [7, 0, 1, 1, 0], { desc := campDesc, image := List.replicate 32 5, root := true }, by decide +kernel⟩

theorem witness_tagPieceSend : ∃ (s : State) (tag : Nat) (k : Nat) (m : Nat) (v : Instant × Nat) (g : Campaign) (p : Bytes),
    m = s.listenK tag (k % 7) ∧
    s.rdvNow tag m = some v ∧
    s.carousel tag = some g ∧
    s.pieceOf g (s.sf / 2 ^ m % cCount g.desc) = some p ∧
    s.downFits tag (12 + p.length) = true :=
  ⟨tagState, 0, 0, 0, (tagState.rdvNow 0 0).getD (0, 0), { desc := campDesc, image := List.replicate 32 5, root := true }, List.replicate 16 5, by decide +kernel, rdvNow_at0 rfl (by decide +kernel) (by decide +kernel), by decide +kernel, by decide +kernel, by decide +kernel⟩

theorem witness_tagPieceSkipped : ∃ (s : State) (tag : Nat) (k : Nat) (m : Nat) (v : Instant × Nat) (g : Campaign),
    m = s.listenK tag (k % 7) ∧
    s.rdvNow tag m = some v ∧
    s.carousel tag = some g ∧
    (s.pieceOf g (s.sf / 2 ^ m % cCount g.desc)).filter (fun p => s.downFits tag (12 + p.length)) = none :=
  ⟨{ tagState with svc := { camp := some { desc := campDesc, image := List.replicate 32 5 }, homesHere := [0] } }, 0, 0, 0, (({ tagState with svc := { camp := some { desc := campDesc, image := List.replicate 32 5 }, homesHere := [0] } } : State).rdvNow 0 0).getD (0, 0), { desc := campDesc, image := List.replicate 32 5 }, by decide +kernel, rdvNow_at0 rfl (by decide +kernel) (by decide +kernel), by decide +kernel, by decide +kernel⟩

theorem witness_tagPieceNoRendezvous : ∃ (s : State) (tag : Nat) (k : Nat),
    s.rdvNow tag (s.listenK tag (k % 7)) = none :=
  ⟨rootO [(Obj.MAC_RDV_SLOTS, 0)], 0, 0, by decide +kernel⟩

theorem witness_shlGenerate : ∃ (s : State) (t : State) (who : Writer) (u : State) (ty : Nat) (uses : Nat) (fl : Nat) (key : Bytes),
    s.shellFree who 3 = true ∧
    t = s.shellOut ∧
    ty = fieldN t.arg 0 1 ∧
    uses = fieldN t.arg 1 2 ∧
    fl = fieldN t.arg 3 1 ∧
    1 < t.tgt ∧
    t.slotState t.tgt = 0 ∧
    4 ≤ t.arg.length ∧
    keyArgOk ty uses fl = true ∧
    t.o Obj.SHL_RNG_STATE ≠ 1 ∧
    t.drbg (keyLen ty) = (key, u) :=
  ⟨{ withO ([(Obj.SHL_STATE, 1)] ++ [(Obj.SHL_CMD_SLOT, 200)]) with blobs := [(Obj.SHL_CMD_ARG, [0, 1, 0, 0])] }, ({ withO ([(Obj.SHL_STATE, 1)] ++ [(Obj.SHL_CMD_SLOT, 200)]) with blobs := [(Obj.SHL_CMD_ARG, [0, 1, 0, 0])] } : State).shellOut, .core 1, ((({ withO ([(Obj.SHL_STATE, 1)] ++ [(Obj.SHL_CMD_SLOT, 200)]) with blobs := [(Obj.SHL_CMD_ARG, [0, 1, 0, 0])] } : State).shellOut).drbg 16).2, 0, 1, 0, ((({ withO ([(Obj.SHL_STATE, 1)] ++ [(Obj.SHL_CMD_SLOT, 200)]) with blobs := [(Obj.SHL_CMD_ARG, [0, 1, 0, 0])] } : State).shellOut).drbg 16).1, by decide +kernel, rfl, and3 (by decide +kernel) (and3 (by decide +kernel) ⟨by decide +kernel, by decide +kernel, rfl⟩)⟩

theorem witness_shlImportUnwrapped : ∃ (s : State) (t : State) (who : Writer),
    s.shellFree who 3 = true ∧
    t = s.shellOut :=
  ⟨{ withO ([(Obj.SHL_STATE, 1)] ++ []) with blobs := [(Obj.SHL_CMD_ARG, [])] }, ({ withO ([(Obj.SHL_STATE, 1)] ++ []) with blobs := [(Obj.SHL_CMD_ARG, [])] } : State).shellOut, .core 1, by decide +kernel⟩

theorem witness_shlExport : ∃ (s : State) (t : State) (who : Writer) (w : Nat) (ty : Nat) (head : Bytes),
    s.shellFree who 3 = true ∧
    t = s.shellOut ∧
    w = fieldN t.arg 0 1 ∧
    1 < t.tgt ∧
    w ≠ 0 ∧
    t.slotState t.tgt = 1 ∧
    1 ≤ t.arg.length ∧
    (¬ (w = 1 ∧ t.o Obj.SHL_WRAP_GEN = 32)) ∧
    t.permits w 6 = true ∧
    bitOf (t.slotAttr t.tgt) (if w = 1 then 4 else 5) = true ∧
    ty = t.slotType t.tgt ∧
    head = leBytes 1 1 ++ leBytes 1 ty ++ leBytes 2 (fld (t.slotAttr t.tgt) 31 16) ++ leBytes 1 (fld (t.slotAttr t.tgt) 5 4) ++ leBytes 1 (if w = 1 then t.o Obj.SHL_WRAP_GEN else 0xFF) ++ leBytes 2 0 :=
  ⟨{ withO ([(Obj.SHL_STATE, 1)] ++ [(Obj.SHL_CMD_SLOT, 200), (Obj.SHL_SLOTk_ATTR 200, 0x21), (Obj.SHL_SLOTk_ATTR 9, 0x400005)]) with blobs := [(Obj.SHL_CMD_ARG, [9])] }, ({ withO ([(Obj.SHL_STATE, 1)] ++ [(Obj.SHL_CMD_SLOT, 200), (Obj.SHL_SLOTk_ATTR 200, 0x21), (Obj.SHL_SLOTk_ATTR 9, 0x400005)]) with blobs := [(Obj.SHL_CMD_ARG, [9])] } : State).shellOut, .core 1, 9, 0, [1, 0, 0, 0, 2, 255, 0, 0], by decide +kernel⟩

theorem witness_shlAgree : ∃ (s : State) (t : State) (who : Writer) (p : Nat) (ty : Nat) (uses : Nat) (fl : Nat) (il : Nat) (r : Nat × State),
    s.shellFree who 3 = true ∧
    t = s.shellOut ∧
    p = fieldN t.arg 0 1 ∧
    ty = fieldN t.arg 1 1 ∧
    uses = fieldN t.arg 2 2 ∧
    fl = fieldN t.arg 4 1 ∧
    il = fieldN t.arg 5 1 ∧
    1 < t.tgt ∧
    p ≠ 0 ∧
    t.slotState t.tgt = 0 ∧
    70 + il ≤ t.arg.length ∧
    il ≤ 64 ∧
    keyArgOk ty uses fl = true ∧
    t.permits p 9 = true ∧
    (r = if onCurve (sliceB t.arg 6 64) then (match Config.ecdh (t.keyOf p) (sliceB t.arg 6 64) with
      | none => (3, t)
      | some z => t.loadChecked ty uses fl 2 (Config.hkdf z [] (sliceB t.arg 70 il) (keyLen ty))) else (3, t)) :=
  ⟨{ withO ([(Obj.SHL_STATE, 1)] ++ [(Obj.SHL_CMD_SLOT, 200), (Obj.SHL_SLOTk_ATTR 9, 0x2000009)]) with blobs := [(Obj.SHL_CMD_ARG, ([9, 0, 1] ++ List.replicate 67 0))] }, ({ withO ([(Obj.SHL_STATE, 1)] ++ [(Obj.SHL_CMD_SLOT, 200), (Obj.SHL_SLOTk_ATTR 9, 0x2000009)]) with blobs := [(Obj.SHL_CMD_ARG, ([9, 0, 1] ++ List.replicate 67 0))] } : State).shellOut, .core 1, 9, 0, 1, 0, 0, _, by decide +kernel, rfl, and3 (by decide +kernel) (and3 (by decide +kernel) (and3 (by decide +kernel) (and3 (by decide +kernel) rfl)))⟩

theorem witness_shlDerive : ∃ (s : State) (t : State) (who : Writer) (p : Nat) (ty : Nat) (uses : Nat) (fl : Nat) (il : Nat),
    s.shellFree who 3 = true ∧
    t = s.shellOut ∧
    p = fieldN t.arg 0 1 ∧
    ty = fieldN t.arg 1 1 ∧
    uses = fieldN t.arg 2 2 ∧
    fl = fieldN t.arg 4 1 ∧
    il = fieldN t.arg 5 1 ∧
    1 < t.tgt ∧
    p ≠ 0 ∧
    t.slotState t.tgt = 0 ∧
    6 + il ≤ t.arg.length ∧
    keyArgOk ty uses fl = true ∧
    t.permits p 10 = true :=
  ⟨{ withO ([(Obj.SHL_STATE, 1)] ++ [(Obj.SHL_CMD_SLOT, 200), (Obj.SHL_SLOTk_ATTR 9, 0x4000005)]) with blobs := [(Obj.SHL_CMD_ARG, ([9, 0, 1] ++ List.replicate 3 0))] }, ({ withO ([(Obj.SHL_STATE, 1)] ++ [(Obj.SHL_CMD_SLOT, 200), (Obj.SHL_SLOTk_ATTR 9, 0x4000005)]) with blobs := [(Obj.SHL_CMD_ARG, ([9, 0, 1] ++ List.replicate 3 0))] } : State).shellOut, .core 1, 9, 0, 1, 0, 0, by decide +kernel⟩

theorem witness_shlErase : ∃ (s : State) (t : State) (who : Writer),
    s.shellFree who 3 = true ∧
    t = s.shellOut ∧
    1 < t.tgt :=
  ⟨{ withO ([(Obj.SHL_STATE, 1)] ++ [(Obj.SHL_CMD_SLOT, 255)]) with blobs := [(Obj.SHL_CMD_ARG, [])] }, ({ withO ([(Obj.SHL_STATE, 1)] ++ [(Obj.SHL_CMD_SLOT, 255)]) with blobs := [(Obj.SHL_CMD_ARG, [])] } : State).shellOut, .core 1, by decide +kernel⟩

theorem witness_shlRestrict : ∃ (s : State) (t : State) (who : Writer) (mask : Nat),
    s.shellFree who 3 = true ∧
    t = s.shellOut ∧
    mask = fieldN t.arg 0 2 ∧
    1 < t.tgt ∧
    t.slotState t.tgt = 1 ∧
    2 ≤ t.arg.length ∧
    natAnd mask 0xF800 = 0 :=
  ⟨{ withO ([(Obj.SHL_STATE, 1)] ++ [(Obj.SHL_CMD_SLOT, 200), (Obj.SHL_SLOTk_ATTR 200, 0x10001)]) with blobs := [(Obj.SHL_CMD_ARG, [1, 0])] }, ({ withO ([(Obj.SHL_STATE, 1)] ++ [(Obj.SHL_CMD_SLOT, 200), (Obj.SHL_SLOTk_ATTR 200, 0x10001)]) with blobs := [(Obj.SHL_CMD_ARG, [1, 0])] } : State).shellOut, .core 1, 1, by decide +kernel⟩

theorem witness_shlCtrSyncNone : ∃ (s : State) (t : State) (who : Writer),
    s.shellFree who 2 = true ∧
    t = s.shellOut ∧
    1 < t.tgt ∧
    t.tgt ≤ 63 ∧
    (t.slotState t.tgt = 0 ∨ t.persisted t.tgt = false) :=
  ⟨{ withO ([(Obj.SHL_STATE, 1)] ++ [(Obj.SHL_CMD_SLOT, 63)]) with blobs := [(Obj.SHL_CMD_ARG, [])] }, ({ withO ([(Obj.SHL_STATE, 1)] ++ [(Obj.SHL_CMD_SLOT, 63)]) with blobs := [(Obj.SHL_CMD_ARG, [])] } : State).shellOut, .core 1, by decide +kernel⟩

theorem witness_shlCtrSyncMark : ∃ (s : State) (t : State) (who : Writer) (v : Nat),
    s.shellFree who 2 = true ∧
    t = s.shellOut ∧
    1 < t.tgt ∧
    t.tgt ≤ 63 ∧
    t.slotState t.tgt ≠ 0 ∧
    t.persisted t.tgt = true ∧
    t.findMark (kcvOf (t.slotType t.tgt) (t.keyOf t.tgt)) = some v :=
  ⟨{ withO [(Obj.SHL_STATE, 1), (Obj.SHL_CMD_SLOT, 63), (Obj.SHL_SLOTk_ATTR 63, 25)] with mem := [(0x08F0E084, 0), (0x08F0E085, 0), (0x08F0E086, 0), (0x08F0E087, 0)] }, ({ withO [(Obj.SHL_STATE, 1), (Obj.SHL_CMD_SLOT, 63), (Obj.SHL_SLOTk_ATTR 63, 25)] with mem := [(0x08F0E084, 0), (0x08F0E085, 0), (0x08F0E086, 0), (0x08F0E087, 0)] } : State).shellOut, .core 1, 4294967295, by decide +kernel⟩

theorem witness_shlPermit : ∃ (s : State) (t : State) (who : Writer) (k : Nat),
    s.shellFree who 2 = true ∧
    t = s.shellOut ∧
    k = fieldN t.arg 0 1 ∧
    1 ≤ t.arg.length ∧
    k ≤ 1 ∧
    t.coveredBy (1 - k) = true :=
  ⟨{ withO ([(Obj.SHL_STATE, 1)] ++ []) with blobs := [(Obj.SHL_CMD_ARG, [1])] }, ({ withO ([(Obj.SHL_STATE, 1)] ++ []) with blobs := [(Obj.SHL_CMD_ARG, [1])] } : State).shellOut, .core 1, 1, by decide +kernel⟩

theorem witness_shlAttest : ∃ (s : State) (t : State) (who : Writer),
    s.shellFree who 1 = true ∧
    t = s.shellOut :=
  ⟨{ withO ([(Obj.SHL_STATE, 1)] ++ []) with blobs := [(Obj.SHL_CMD_ARG, [])] }, ({ withO ([(Obj.SHL_STATE, 1)] ++ []) with blobs := [(Obj.SHL_CMD_ARG, [])] } : State).shellOut, .core 1, by decide +kernel⟩

theorem witness_shlPubkey : ∃ (s : State) (t : State) (who : Writer),
    s.shellFree who 1 = true ∧
    t = s.shellOut ∧
    1 < t.tgt ∧
    t.slotState t.tgt = 1 ∧
    t.slotType t.tgt = 2 :=
  ⟨{ withO ([(Obj.SHL_STATE, 1)] ++ [(Obj.SHL_CMD_SLOT, 200), (Obj.SHL_SLOTk_ATTR 200, 9)]) with blobs := [(Obj.SHL_CMD_ARG, [])] }, ({ withO ([(Obj.SHL_STATE, 1)] ++ [(Obj.SHL_CMD_SLOT, 200), (Obj.SHL_SLOTk_ATTR 200, 9)]) with blobs := [(Obj.SHL_CMD_ARG, [])] } : State).shellOut, .core 1, by decide +kernel⟩

theorem witness_shlSign : ∃ (s : State) (t : State) (who : Writer),
    s.shellFree who 2 = true ∧
    t = s.shellOut ∧
    1 < t.tgt ∧
    t.slotState t.tgt = 1 ∧
    t.slotType t.tgt = 2 ∧
    t.arg.length = 32 ∧
    t.permits t.tgt 8 = true :=
  ⟨{ withO ([(Obj.SHL_STATE, 1)] ++ [(Obj.SHL_CMD_SLOT, 200), (Obj.SHL_SLOTk_ATTR 200, 0x1000009)]) with blobs := [(Obj.SHL_CMD_ARG, (List.replicate 32 0))] }, ({ withO ([(Obj.SHL_STATE, 1)] ++ [(Obj.SHL_CMD_SLOT, 200), (Obj.SHL_SLOTk_ATTR 200, 0x1000009)]) with blobs := [(Obj.SHL_CMD_ARG, (List.replicate 32 0))] } : State).shellOut, .core 1, by decide +kernel⟩

theorem witness_shlVerify : ∃ (s : State) (t : State) (who : Writer) (pub : Bytes),
    s.shellFree who 1 = true ∧
    t = s.shellOut ∧
    pub = sliceB t.arg 0 64 ∧
    t.arg.length = 160 :=
  ⟨{ withO ([(Obj.SHL_STATE, 1)] ++ []) with blobs := [(Obj.SHL_CMD_ARG, (List.replicate 160 0))] }, ({ withO ([(Obj.SHL_STATE, 1)] ++ []) with blobs := [(Obj.SHL_CMD_ARG, (List.replicate 160 0))] } : State).shellOut, .core 1, List.replicate 64 0, by decide +kernel⟩

theorem witness_shlSetOwner : ∃ (s : State) (t : State) (who : Writer),
    s.shellFree who 3 = true ∧
    t = s.shellOut ∧
    t.arg.length = 32 ∧
    t.shell.ownerHash = none :=
  ⟨{ withO ([(Obj.SHL_STATE, 1)] ++ []) with blobs := [(Obj.SHL_CMD_ARG, (List.replicate 32 0))] }, ({ withO ([(Obj.SHL_STATE, 1)] ++ []) with blobs := [(Obj.SHL_CMD_ARG, (List.replicate 32 0))] } : State).shellOut, .core 1, by decide +kernel⟩

theorem witness_shlBusy : ∃ (s : State),
    (s.shell.running.isSome = true ∨ s.o Obj.SHL_STATE = 0) :=
  ⟨withO [], by decide +kernel⟩

theorem witness_shellCmd : ∃ (s : State) (code : Nat) (st : Nat),
    s.shell.running = some (code, st) ∧
    s.shell.asked = none :=
  ⟨{ withO [] with shell := { running := some (14, 3) } }, 14, 3, by decide +kernel⟩

theorem witness_shellCmdAsked : ∃ (s : State) (u : State) (w : Writer) (tag : Nat) (code : Nat) (st : Nat),
    s.shell.running = some (code, st) ∧
    s.shell.asked = some (w, tag) ∧
    u = ({ s with shell := { s.shell with running := none, asked := none } }.setO Obj.SHL_CMD_STATUS st).raise 0x120 0 (code + 256 * st) :=
  ⟨{ withO [] with shell := { running := some (14, 3), asked := some (.session 0, 5) } }, _, .session 0, 5, 14, 3, by decide +kernel, by decide +kernel, rfl⟩

theorem witness_shellReady : ∃ (s : State) (u : State),
    s.o Obj.SHL_STATE = 0 ∧
    u = s.loadSlot 0 2 0 0 3 Config.deviceKey :=
  ⟨withO [], (withO []).loadSlot 0 2 0 0 3 Config.deviceKey, by decide +kernel, rfl⟩

theorem witness_drbgReseed : ∃ (s : State),
    65536 ≤ s.shell.drbgReq ∧
    s.o Obj.SHL_RNG_STATE = 0 :=
  ⟨{ withO [] with shell := { drbgReq := 65536 } }, by decide +kernel⟩

theorem witness_measExtend : ∃ (who : Writer) (v : Bytes),
    (∀ x, who ≠ .session x) ∧
    v.length = 32 :=
  ⟨.core 2, List.replicate 32 1, by decide +kernel⟩

theorem witness_alarmSourceDetect : ∃ (s : State) (src : Nat) (stopped : Bool),
    s.alarmWatches src stopped = true ∧
    s.alarmAct src ≠ 0 :=
  ⟨withO [], 1, false, by decide +kernel⟩

theorem witness_alarmSourceOff : ∃ (s : State) (p : Fin 2),
    s.o (Obj.SHL_TAMPp_MODE p) = 0 :=
  ⟨withO [(Obj.SHL_TAMPp_MODE 1, 0)], 1, by decide +kernel⟩

theorem witness_alarmLatchEvent : ∃ (s : State) (r : State) (u : State) (src : Nat) (d : Instant),
    s.shell.sources.find? (fun p => p.1 == src) = some (src, d) ∧
    r = (s.upTo d).modShell (fun x => { x with sources := x.sources.filter (fun p => p.1 != src) }) ∧
    r.alarmAct src = 1 ∧
    (u = if src = 7 then r.airStop 0x1B else r) :=
  ⟨{ withO [(okey 0x1802 1, 1)] with shell := { sources := [(1, 5)] } }, { withO [(okey 0x1802 1, 1)] with now := 5 }, { withO [(okey 0x1802 1, 1)] with now := 5 }, 1, 5, by decide +kernel⟩

theorem witness_alarmLatchErase : ∃ (s : State) (r : State) (u : State) (t : State) (src : Nat) (act : Nat) (d : Instant),
    s.shell.sources.find? (fun p => p.1 == src) = some (src, d) ∧
    r = (s.upTo d).modShell (fun x => { x with sources := x.sources.filter (fun p => p.1 != src) }) ∧
    r.alarmAct src = act ∧
    2 ≤ act ∧
    (u = if src = 7 then r.airStop 0x1B else r) ∧
    t = ((u.setO Obj.SHL_ALARM_AT (tt64 u.now)).setO Obj.SHL_ALARM_SRC (setBit ((u.setO Obj.SHL_ALARM_AT (tt64 u.now)).o Obj.SHL_ALARM_SRC) (src - 1) true)).inc Obj.SHL_ALARM_TOTAL :=
  ⟨{ withO [(okey 0x1802 1, 3)] with shell := { sources := [(1, 5)] } }, { withO [(okey 0x1802 1, 3)] with now := 5 }, { withO [(okey 0x1802 1, 3)] with now := 5 }, (({ withO [(okey 0x1802 1, 3)] with now := 5 } : State).setO Obj.SHL_ALARM_AT 5 |>.setO Obj.SHL_ALARM_SRC 1).inc Obj.SHL_ALARM_TOTAL, 1, 3, 5, by decide +kernel⟩

theorem witness_keyBusClose : ∃ (s : State) (a : AlarmRun),
    s.shell.alarms.find? (fun a => !a.closed) = some a :=
  ⟨{ withO [] with shell := { alarms := [{ src := 1, act := 2, d := 5 }] } }, { src := 1, act := 2, d := 5 }, by decide +kernel⟩

theorem witness_slotZeroise : ∃ (s : State) (u : State) (a : AlarmRun),
    s.shell.alarms.find? (fun a => a.closed && !a.zeroised) = some a ∧
    u = (s.upTo (a.d + 39)).zeroise.setO Obj.SHL_STATE 2 :=
  ⟨{ withO [] with shell := { alarms := [{ src := 1, act := 2, d := 5, closed := true }] } }, (({ withO [] with shell := { alarms := [{ src := 1, act := 2, d := 5, closed := true }] } } : State).upTo 44).zeroise.setO Obj.SHL_STATE 2, { src := 1, act := 2, d := 5, closed := true }, by decide +kernel, rfl⟩

theorem witness_fusePurge : ∃ (s : State) (u : State) (v : State) (a : AlarmRun),
    s.shell.alarms.find? (fun a => a.zeroised && a.act == 3) = some a ∧
    u = s.upTo (a.d + 768) ∧
    v = (u.setO Obj.SHL_WRAP_GEN (min 32 (u.o Obj.SHL_WRAP_GEN + 1))).modShell (fun x => { x with alarms := x.alarms.filter (fun b => b != a) }) :=
  ⟨{ withO [] with shell := { alarms := [{ src := 1, act := 3, d := 5, closed := true, zeroised := true }] } }, ({ withO [] with shell := { alarms := [{ src := 1, act := 3, d := 5, closed := true, zeroised := true }] } } : State).upTo 773, { withO [(Obj.SHL_WRAP_GEN, 1)] with now := 773 }, { src := 1, act := 3, d := 5, closed := true, zeroised := true }, by decide +kernel⟩

theorem witness_rngFail : ∃ (s : State) (u : State),
    u = (s.setO Obj.SHL_RNG_STATE 1).inc Obj.SHL_RNG_FAILS :=
  ⟨withO [], withO [(Obj.SHL_RNG_STATE, 1), (Obj.SHL_RNG_FAILS, 1)], by decide +kernel⟩

theorem witness_rngRecover : ∃ (s : State) (windows : Nat),
    s.o Obj.SHL_RNG_STATE = 1 ∧
    4 ≤ windows :=
  ⟨withO [(Obj.SHL_RNG_STATE, 1)], 4, by decide +kernel⟩

theorem witness_debugChallenge : ∃ (s : State) (u : State) (b : Bytes),
    s.challenge = some (b, u) :=
  ⟨withO [], ((withO []).challenge.map (·.2)).getD State.reset, ((withO []).challenge.map (·.1)).getD [], rfl⟩

theorem witness_debugChallengeRefused : ∃ (s : State),
    (s.o Obj.SHL_DBG_STATE = 3 ∨ s.o Obj.SHL_RNG_STATE = 1) :=
  ⟨withO [(Obj.SHL_DBG_STATE, 3)], by decide +kernel⟩

theorem witness_debugResponse : ∃ (s : State) (u : State) (n : Nat),
    u = s.modShell (fun x => { x with challenge := none }) ∧
    n = u.o Obj.SHL_DBG_FAILS + 1 :=
  ⟨withO [], withO [], 1, by decide +kernel⟩

theorem witness_debugUnlockEnd : ∃ (s : State),
    (s.o Obj.SHL_DBG_STATE = 1 ∨ s.o Obj.SHL_DBG_STATE = 2) ∧
    s.o Obj.SHL_DBG_UNTIL ≠ 0 :=
  ⟨withO [(Obj.SHL_DBG_STATE, 1), (Obj.SHL_DBG_UNTIL, 7)], by decide +kernel⟩

theorem witness_jobCopy : ∃ (s : State) (who : Fin 8) (a : Nat),
    s.accepts who a = true ∧
    dKind (s.descAt a) = 1 :=
  ⟨jobState 1 0 0 0, 2, 0x20000000, by decide +kernel⟩

theorem witness_jobFill : ∃ (s : State) (who : Fin 8) (a : Nat),
    s.accepts who a = true ∧
    dKind (s.descAt a) = 2 :=
  ⟨jobState 2 0 0 0, 2, 0x20000000, by decide +kernel⟩

theorem witness_jobCipher : ∃ (s : State) (who : Fin 8) (a : Nat),
    s.accepts who a = true ∧
    dKind (s.descAt a) = 3 :=
  ⟨jobState 3 9 0 0, 2, 0x20000000, by decide +kernel⟩

theorem witness_jobHash : ∃ (s : State) (who : Fin 8) (a : Nat),
    s.accepts who a = true ∧
    dKind (s.descAt a) = 4 :=
  ⟨jobState 4 0 0 0, 2, 0x20000000, by decide +kernel⟩

theorem witness_jobCrcFeed : ∃ (s : State) (who : Fin 8) (a : Nat),
    s.accepts who a = true ∧
    dKind (s.descAt a) = 5 ∧
    fieldN (s.descAt a) 30 1 = 0 :=
  ⟨jobState 5 0 1 0, 2, 0x20000000, by decide +kernel⟩

theorem witness_jobCrcAppend : ∃ (s : State) (who : Fin 8) (a : Nat),
    s.accepts who a = true ∧
    dKind (s.descAt a) = 5 ∧
    fieldN (s.descAt a) 30 1 = 1 :=
  ⟨jobState 5 0 1 1, 2, 0x20000000, by decide +kernel⟩

theorem witness_jobCrcStrip : ∃ (s : State) (who : Fin 8) (a : Nat),
    s.accepts who a = true ∧
    dKind (s.descAt a) = 5 ∧
    fieldN (s.descAt a) 30 1 = 2 :=
  ⟨jobState 5 0 1 2, 2, 0x20000000, by decide +kernel⟩

theorem witness_jobSubmitDropped : ∃ (a : Nat),
    a % 4 ≠ 0 :=
  ⟨0x20000002, by decide +kernel⟩

theorem witness_jobStart : ∃ (s : State) (u : State) (v : State) (x : JobSt),
    fin8.findSome? (fun k => s.engineJob k) = none ∧
    s.runningJobs < 4 ∧
    s.pwr ≤ 2 ∧
    s.nextJob = some x ∧
    s.jobLate x = false ∧
    (u = (s.recordState (ledAddr x.ticket) 2).modJobs (fun j => { j with lastCore := x.core, queue := j.queue.map (fun y => if y.ticket = x.ticket then { y with running := true } else y) })) ∧
    v = u.setO Obj.JOB_RUNNING u.runningJobs :=
  ⟨openJob false, ((openJob false).recordState (ledAddr 0) 2).modJobs (fun j => { j with lastCore := 2, queue := j.queue.map (fun y => if y.ticket = 0 then { y with running := true } else y) }), (((openJob false).recordState (ledAddr 0) 2).modJobs (fun j => { j with lastCore := 2, queue := j.queue.map (fun y => if y.ticket = 0 then { y with running := true } else y) })).setO Obj.JOB_RUNNING 1, ⟨0, 2, (jobState 1 0 0 0).rbs 0x20000000 64, false, none, []⟩, by decide +kernel⟩

theorem witness_jobStartLate : ∃ (s : State) (x : JobSt),
    fin8.findSome? (fun k => s.engineJob k) = none ∧
    s.runningJobs < 4 ∧
    s.pwr ≤ 2 ∧
    s.nextJob = some x ∧
    s.jobLate x = true :=
  ⟨{ withO [] with now := 9, jobs := { queue := [⟨3, 2, List.replicate 64 0 |>.set 8 9, false, none, []⟩] } }, ⟨3, 2, List.replicate 64 0 |>.set 8 9, false, none, []⟩, by decide +kernel⟩

theorem witness_jobEnd : ∃ (s : State) (u : State) (t : Nat) (lines : List (Nat × Nat)) (x : JobSt),
    s.jobs.queue.find? (fun y => y.ticket == t && y.running && decide (dKind y.desc < 7) && decide (s.pwr ≤ 2)) = some x ∧
    u = (lines.filter (fun p => decide (dSrc x.desc ≤ p.1 + 15) && decide (p.1 < dSrc x.desc + dLen x.desc))).foldl (fun (s : State) p => s.meetUnit p.1 p.2) s ∧
    u.jobFault x.desc 0 = none :=
  ⟨openJob true, openJob true, 0, [], ⟨0, 2, (jobState 1 0 0 0).rbs 0x20000000 64, true, none, []⟩, by decide +kernel, rfl, by decide +kernel⟩

theorem witness_jobDeadline : ∃ (s : State) (u : State) (t : Nat) (x : JobSt),
    s.jobs.queue.find? (fun y => y.ticket == t && !y.running && decide (dStartBy y.desc ≠ 0)) = some x ∧
    u = s.upTo (linear (dStartBy x.desc)) :=
  ⟨{ withO [] with jobs := { queue := [⟨3, 2, List.replicate 64 0 |>.set 8 9, false, none, []⟩] } }, { withO [] with now := 9, jobs := { queue := [⟨3, 2, List.replicate 64 0 |>.set 8 9, false, none, []⟩] } }, 3, ⟨3, 2, List.replicate 64 0 |>.set 8 9, false, none, []⟩, by decide +kernel⟩

theorem witness_jobRecovery : ∃ (s : State) (u : State),
    s.jobs.recover = true ∧
    u = s.modJobs (fun j => { j with recover := false }) :=
  ⟨{ withO [] with jobs := { recover := true } }, { withO [] with jobs := { recover := false } }, by decide +kernel⟩

theorem witness_poolFree : ∃ (s : State) (u : State) (p : Fin 5) (k : Nat),
    s.jobs.pools[p].held.any (fun l => l.head? == some k) = true ∧
    u = s.modPool p (fun q => { q with held := dropChain q.held k, credit := q.credit.filter (fun x => x.1 != k) }) :=
  ⟨{ withO [] with jobs := { pools := vmod (withO []).jobs.pools 3 (fun q => { q with held := [[7, 8]] }) } }, ({ withO [] with jobs := { pools := vmod (withO []).jobs.pools 3 (fun q => { q with held := [[7, 8]] }) } } : State).modPool 3 (fun q => { q with held := dropChain q.held 7, credit := q.credit.filter (fun x => x.1 != 7) }), 3, 7, by decide +kernel, rfl⟩

theorem witness_poolFreeBad : ∃ (s : State) (p : Fin 5) (k : Nat),
    s.jobs.pools[p].held.any (fun l => l.head? == some k) = false :=
  ⟨withO [], 4, 0, by decide +kernel⟩

theorem witness_crcDataFeed : ∃ (width : Nat),
    (width = 1 ∨ width = 2 ∨ width = 4) :=
  ⟨2, by decide +kernel⟩

theorem witness_dramRequest : ∃ (s : State) (u : State) (v : State) (k : Fin 2) (arrived : List DramReq) (q : DramReq),
    s.dramOn = true ∧
    s.fenceNear = false ∧
    u = arrived.foldl (fun (s : State) q => s.dramAccept q) s ∧
    u.dramPick k (u.dramReady k) = some q ∧
    v = { u.modDram (fun d => { d with ptr := vmod d.ptr k (fun _ => (u.reqBank q + 1) % 8) }) with rdata := q.addr } :=
  ⟨dramState, dramState.modDram (fun d => { d with queue := [⟨8, 0x80000000, none, 16, 0⟩] }), { dramState.modDram (fun d => { d with queue := [⟨8, 0x80000000, none, 16, 0⟩], ptr := vmod d.ptr 0 (fun _ => 1) }) with rdata := 0x80000000 }, 0, [⟨8, 0x80000000, none, 16, 0⟩], ⟨8, 0x80000000, none, 16, 0⟩, by decide +kernel⟩

theorem witness_dramRequestFenced : ∃ (s : State),
    s.dramOn = true ∧
    s.fenceNear = true :=
  ⟨{ dramState with dram := { fenceDue := [(0, 60)] } }, by decide +kernel⟩

theorem witness_scrubRead : ∃ (s : State) (u : State) (a : Nat),
    s.dramOn = true ∧
    a = 0x80000000 + 64 * (s.dram.scrub % (s.o Obj.DRM_SIZE / 64)) ∧
    u = s.modDram (fun d => { d with scrub := d.scrub + 1 }) :=
  ⟨dramState, dramState.modDram (fun d => { d with scrub := d.scrub + 1 }), 0x80000000, by decide +kernel⟩

theorem witness_scrubFill : ∃ (s : State) (u : Nat),
    s.dramOn = true ∧
    u = nextClean s.dram.dirty s.dram.dirty.length s.dram.fill ∧
    u < s.unitTotal :=
  ⟨dramState, 0, by decide +kernel⟩

theorem witness_dramInit : ∃ (s : State) (u : State),
    s.o Obj.DRM_STATE = 0 ∧
    s.pwr ≤ 2 ∧
    (s.o (Obj.DRM_CHc_STATE 0) ≠ 2 ∨ s.o (Obj.DRM_CHc_STATE 1) ≠ 2) ∧
    u = (s.setO Obj.DRM_STATE 1).setO Obj.DRM_GRAIN_NOW (s.o Obj.DRM_GRAIN) :=
  ⟨withO [(Obj.DRM_STATE, 0)], ((withO [(Obj.DRM_STATE, 0)]).setO Obj.DRM_STATE 1).setO Obj.DRM_GRAIN_NOW ((withO [(Obj.DRM_STATE, 0)]).o Obj.DRM_GRAIN), and3 (by decide +kernel) rfl⟩

theorem witness_dramReady : ∃ (s : State),
    s.o Obj.DRM_STATE = 1 :=
  ⟨withO [(Obj.DRM_STATE, 1)], by decide +kernel⟩

theorem witness_rhVictimRefresh : ∃ (s : State) (v : Victim) (l : List Victim),
    s.dram.due = v :: l :=
  ⟨{ withO [] with dram := { due := [⟨3, 5, 1⟩] } }, ⟨3, 5, 1⟩, [], by decide +kernel⟩

theorem witness_dramPanic : ∃ (s : State) (u : State) (n : Fin 4) (level : Nat) (lv : Nat),
    lv = min level 4096 ∧
    u = (s.setO (Obj.DRM_RTn_LEVEL n) lv).setO (Obj.DRM_RTn_MAXLEVEL n) (max lv (s.o (Obj.DRM_RTn_MAXLEVEL n))) :=
  ⟨withO [], ((withO []).setO (Obj.DRM_RTn_LEVEL 2) 0).setO (Obj.DRM_RTn_MAXLEVEL 2) 0, 2, 0, 0, by decide +kernel⟩

theorem witness_dramRefresh : ∃ (s : State) (k : Fin 2),
    s.dramOn = true ∧
    s.o (Obj.DRM_CHc_STATE k) ≠ 2 :=
  ⟨dramState, 1, by decide +kernel⟩

theorem witness_dramRetrainPause : ∃ (s : State) (u : State) (v : State) (w : State) (eye : Option Nat) (temp0 : Int) (temp1 : Int) (k : Fin 2) (step : Nat),
    s.dramOn = true ∧
    s.dram.gapAt ≠ some (frameStart s.now + 383924) ∧
    s.now ≤ frameStart s.now + 383924 ∧
    u = (((s.upTo (frameStart s.now + 383924)).modDram (fun d => { d with gapAt := some (frameStart s.now + 383924) })).tempFirst 0 temp0).tempFirst 1 temp1 ∧
    u.roundChan (u.dramMoved 0 temp0) (u.dramMoved 1 temp1) = some k ∧
    step = u.dram.round[k].getD 0 ∧
    v = (if u.dram.round[k].isSome then u else u.modDram (fun d => { d with round := vmod d.round k (fun _ => some 0), roundBad := vmod d.roundBad k (fun _ => false), began := vmod d.began k (fun _ => u.now / superT), wakeDue := vmod d.wakeDue k (fun _ => false), temp := vmod d.temp k (fun _ => some (if k = 0 then temp0 else temp1)), lastRound := k.val })) ∧
    v.gapFree = true ∧
    w = (v.inc (Obj.DRM_CHc_PAUSES k)).retrainStep k step eye :=
  ⟨{ dramState with dram := { round := #v[some 15, none] } }, _, _, _, some 20, 25, 26, 0, 15, and3 (by decide +kernel) ⟨rfl, by decide +kernel, by decide +kernel, rfl, by decide +kernel, rfl⟩⟩

theorem witness_dramRetrainPauseOnce : ∃ (s : State),
    s.dram.gapAt = some (frameStart s.now + 383924) :=
  ⟨{ dramState with dram := { gapAt := some 383924 } }, by decide +kernel⟩

theorem witness_dramFenceCheck : ∃ (s : State) (due : List (Fin 2)),
    s.dramOn = true ∧
    frameOf s.now = 0 ∧
    due = fin2.filter (fun (k : Fin 2) => s.o (Obj.DRM_CHc_STATE k) == 1 && decide (s.o (Obj.DRM_CHc_FENCE_CE k) ≤ s.o (Obj.DRM_CHc_CE_SF k)) && !(s.dram.fenceDue.any (fun p => p.1 == k.val))) :=
  ⟨dramState, [], by decide +kernel⟩

theorem witness_dramFenced : ∃ (s : State) (u : State) (c : Fin 2) (k : Nat) (t : Instant),
    s.dram.fenceDue.find? (fun x => x.1 == c.val) = some (k, t) ∧
    u = (s.upTo t).modDram (fun d => { d with fenceDue := d.fenceDue.filter (fun x => x.1 != c.val) }) :=
  ⟨{ dramState with dram := { fenceDue := [(0, 6), (1, 7)] } }, { dramState with now := 7, dram := { fenceDue := [(0, 6)] } }, 1, 1, 7, by decide +kernel⟩

theorem witness_dramNotDue : ∃ (s : State) (c : Fin 2),
    s.dram.fenceDue.find? (fun x => x.1 == c.val) = none :=
  ⟨{ dramState with dram := { fenceDue := [(0, 6)] } }, 1, by decide +kernel⟩

theorem witness_flProgram : ∃ (s : State) (q : State) (u : State) (k : Fin 8) (src : Nat) (a : Nat) (len : Nat) (r : Nat) (t : Nat),
    s.callable k 0 3 2 = true ∧
    q = s.scratch k ∧
    s.dTop k 3 = [src, a, len] ∧
    s.rTop k 1 = [r] ∧
    len ≠ 0 ∧
    inFlash a len = true ∧
    len ≤ 65536 ∧
    sectorOf (a + len - 1) = sectorOf a ∧
    areaOf (a + len - 1) = areaOf a ∧
    writableMem src = true ∧
    inRegion src len = true ∧
    a % 16 = 0 ∧
    len % 16 = 0 ∧
    src % 4 = 0 ∧
    wordMode (areaOf a) (sectorOf a) = false ∧
    q.locked (areaOf a) (sectorOf a) = false ∧
    q.sectorBusy (areaOf a) (sectorOf a) = false ∧
    q.firstNotBlank a 16 (len / 16) 0 = len ∧
    q.newRecord 1 6 14 len 0 (flashTag 0 (areaOf a) (sectorOf a)) = (some t, u) :=
  ⟨stackCore 0 [16, 0x08000000, 0x20000100], stackCore 0 [16, 0x08000000, 0x20000100], ((stackCore 0 [16, 0x08000000, 0x20000100]).newRecord 1 6 14 16 0 (flashTag 0 0 0)).2, 0, 0x20000100, 0x08000000, 16, 16, 1, by decide +kernel⟩

theorem witness_flErase : ∃ (s : State) (q : State) (u : State) (k : Fin 8) (l : Nat) (area : Nat) (r : Nat) (t : Nat),
    s.callable k 1 2 2 = true ∧
    q = s.scratch k ∧
    s.dTop k 2 = [l, area] ∧
    s.rTop k 1 = [r] ∧
    sectorOk area l = true ∧
    q.locked area l = false ∧
    q.noPermit area l = false ∧
    q.sectorBusy area l = false ∧
    q.newRecord 1 6 14 1 0 (flashTag 1 area l) = (some t, u) :=
  ⟨stackCore 1 [0, 239], stackCore 1 [0, 239], ((stackCore 1 [0, 239]).newRecord 1 6 14 1 0 (flashTag 1 0 239)).2, 0, 239, 0, 0, 1, by decide +kernel⟩

theorem witness_flRelocate : ∃ (s : State) (q : State) (u : State) (k : Fin 8) (l : Nat) (area : Nat) (skip : Nat) (len : Nat) (r : Nat) (t : Nat),
    s.callable k 2 4 2 = true ∧
    q = s.scratch k ∧
    s.dTop k 4 = [l, area, skip, len] ∧
    s.rTop k 1 = [r] ∧
    sectorOk area l = true ∧
    (len = 0 ∨ (sectorBase area l ≤ skip ∧ skip + len ≤ sectorBase area l + sectorLen area)) ∧
    (len = 0 ∨ skip % 16 = 0) ∧
    len % 16 = 0 ∧
    q.locked area l = false ∧
    (len = 0 ∨ q.noPermit area l = false) ∧
    q.sectorBusy area l = false ∧
    q.newRecord 1 6 14 1 0 (flashTag 2 area l) = (some t, u) :=
  ⟨stackCore 2 [16, 0x08000010, 0, 0], stackCore 2 [16, 0x08000010, 0, 0], ((stackCore 2 [16, 0x08000010, 0, 0]).newRecord 1 6 14 1 0 (flashTag 2 0 0)).2, 0, 0, 0, 0x08000010, 16, 16, 1, by decide +kernel⟩

theorem witness_flCtrword : ∃ (s : State) (q : State) (k : Fin 8) (v : Nat) (a : Nat) (r : Nat) (old : Nat),
    s.callable k 3 2 1 = true ∧
    q = s.scratch k ∧
    s.dTop k 2 = [v, a] ∧
    s.rTop k 1 = [r] ∧
    inFlash a 4 = true ∧
    a % 4 = 0 ∧
    wordMode (areaOf a) (sectorOf a) = true ∧
    q.sectorBusy (areaOf a) (sectorOf a) = false ∧
    old = q.rn a 4 ∧
    natAnd v (0xFFFFFFFF - old) = 0 ∧
    v ≠ old :=
  ⟨stackCore 3 [0x08F0E000, 0xFF], stackCore 3 [0x08F0E000, 0xFF], 0, 0xFF, 0x08F0E000, 0x08F0E000, 0xFFFFFFFF, by decide +kernel⟩

theorem witness_flBlank : ∃ (s : State) (q : State) (k : Fin 8) (a : Nat) (len : Nat) (n : Nat) (r : Nat),
    s.callable k 4 2 2 = true ∧
    q = s.scratch k ∧
    s.dTop k 2 = [a, len] ∧
    s.rTop k 1 = [r] ∧
    n = (if wordMode (areaOf a) (sectorOf a) then 4 else 16) ∧
    len ≠ 0 ∧
    inFlash a len = true ∧
    sectorOf (a + len - 1) = sectorOf a ∧
    areaOf (a + len - 1) = areaOf a ∧
    a % n = 0 ∧
    len % n = 0 :=
  ⟨stackCore 4 [16, 0x08000000], stackCore 4 [16, 0x08000000], 0, 0x08000000, 16, 16, 16, by decide +kernel⟩

theorem witness_flReadchk : ∃ (s : State) (q : State) (k : Fin 8) (src : Nat) (dst : Nat) (len : Nat) (r : Nat),
    s.callable k 5 3 2 = true ∧
    q = s.scratch k ∧
    s.dTop k 3 = [src, dst, len] ∧
    s.rTop k 1 = [r] :=
  ⟨stackCore 5 [16, 0x20000100, 0x08000000], stackCore 5 [16, 0x20000100, 0x08000000], 0, 0x08000000, 0x20000100, 16, 16, by decide +kernel⟩

theorem witness_flSector : ∃ (s : State) (q : State) (k : Fin 8) (l : Nat) (area : Nat) (r : Nat),
    s.callable k 6 2 4 = true ∧
    q = s.scratch k ∧
    s.dTop k 2 = [l, area] ∧
    s.rTop k 1 = [r] :=
  ⟨stackCore 6 [0, 239], stackCore 6 [0, 239], 0, 239, 0, 0, by decide +kernel⟩

theorem witness_flashPageProgram : ∃ (s : State) (u : State) (v : State) (w : State) (t : Nat) (d : Nat) (pulses : List Nat) (j : FlashJob),
    s.flashTurn t = some j ∧
    j.op = 0 ∧
    u = (s.pageOpen j).flashShow ∧
    u.programLines j (pageEnd j) j.done pulses = (d, false, v) ∧
    w = (v.modFj t (fun j => { j with done := d })).wn (ledAddr t + 12) 4 d :=
  ⟨flashState 0, ((flashState 0).pageOpen flashJob0).flashShow, (((flashState 0).pageOpen flashJob0).flashShow.programLines flashJob0 (pageEnd flashJob0) 0 [1]).2.2, ((((flashState 0).pageOpen flashJob0).flashShow.programLines flashJob0 (pageEnd flashJob0) 0 [1]).2.2.modFj 5 (fun j => { j with done := 16 })).wn (ledAddr 5 + 12) 4 16, 5, 16, [1], flashJob0, by decide +kernel, by decide +kernel, rfl, by decide +kernel, rfl⟩

theorem witness_flashMappingRecord : ∃ (s : State) (u : State) (t : Nat) (j : FlashJob),
    s.flashTurn t = some j ∧
    j.op ≠ 0 ∧
    u = (if j.running then s else ((s.recordState (ledAddr t) 2).modFj t (fun j => { j with running := true })).openIntent ⟨j.op, j.area, j.sector, sectorBase j.area j.sector, sectorLen j.area, t, false⟩) :=
  ⟨flashState 1, (((flashState 1).recordState (ledAddr 5) 2).modFj 5 (fun j => { j with running := true })).openIntent ⟨1, 0, 0, sectorBase 0 0, sectorLen 0, 5, false⟩, 5, { flashJob0 with op := 1 }, by decide +kernel, by decide +kernel, rfl⟩

theorem witness_backgroundErase : ∃ (s : State) (k : Fin 5),
    s.flash.banks[k].dirty ≠ [] ∧
    s.flash.banks[k].erasing = false ∧
    s.sysclk = true :=
  ⟨{ withO [] with flash := { banks := Vector.replicate 5 { used := [], clean := [], dirty := [3] } } }, 4, by decide +kernel⟩

theorem witness_backgroundEraseDone : ∃ (s : State) (k : Fin 5),
    s.flash.banks[k].erasing = true ∧
    s.flash.banks[k].suspended = false :=
  ⟨{ withO [] with flash := { banks := Vector.replicate 5 { used := [], clean := [], dirty := [3], erasing := true } } }, 4, by decide +kernel⟩

theorem witness_flashReadSuspend : ∃ (s : State) (k : Fin 5),
    s.bankBusy k = true ∧
    s.flash.banks[k].suspended = false ∧
    s.flash.banks[k].resumedAt ≤ s.now :=
  ⟨{ withO [] with flash := { banks := Vector.replicate 5 { used := [], clean := [], erasing := true } } }, 4, by decide +kernel⟩

theorem witness_flashResume : ∃ (s : State) (k : Fin 5),
    s.flash.banks[k].suspended = true ∧
    s.sysclk = true :=
  ⟨{ withO [] with flash := { banks := Vector.replicate 5 { used := [], clean := [], suspended := true } } }, 4, by decide +kernel⟩

theorem witness_flsIndetAck : ∃ (s : State) (u : State) (v : Nat) (l : Bytes),
    l = s.blob Obj.FLS_INDET_LIST ∧
    16 * v + 16 ≤ l.length ∧
    u = s.modFlash (fun x => { x with intents := dropIntent (sliceB l (16 * v) 16) x.intents }) :=
  ⟨{ withO [(Obj.FLS_INDET_N, 1)] with blobs := [(Obj.FLS_INDET_LIST, List.replicate 16 0)] }, { withO [(Obj.FLS_INDET_N, 1)] with blobs := [(Obj.FLS_INDET_LIST, List.replicate 16 0)] }, 0, List.replicate 16 0, by decide +kernel⟩

theorem witness_ethFrameRx : ∃ (s : State) (p : Fin 2),
    s.o (Obj.COM_Tp_LINK p) ≠ 0 ∧
    s.pwr ≠ 3 :=
  ⟨withO [(Obj.COM_Tp_LINK 1, 1)], 1, by decide +kernel⟩

theorem witness_ethFrameBad : ∃ (s : State) (p : Fin 2),
    s.o (Obj.COM_Tp_LINK p) ≠ 0 :=
  ⟨withO [(Obj.COM_Tp_LINK 1, 1)], 1, by decide +kernel⟩

theorem witness_neighborSolicitationRx : ∃ (s : State) (u : State) (v : State) (p : Fin 2) (k : Bytes) (dst : Bytes),
    s.icmpNext p 135 = (some k, u) ∧
    fieldN k 7 1 = 255 ∧
    v = (if fieldN k 64 1 = 1 && 72 ≤ k.length then (u.inc (Obj.COM_Tp_ND_RX p)).learn p (sliceB k 8 16) (sliceB k 66 6) else u.inc (Obj.COM_Tp_ND_RX p)) ∧
    v.ownsAddr p (sliceB k 48 16) = true ∧
    dst = (if zeroB (sliceB k 8 16) then allNodes else sliceB k 8 16) :=
  ⟨icmpState (nsPacket 135), icmpState [], (icmpState []).inc (Obj.COM_Tp_ND_RX 1), 1, nsPacket 135, List.replicate 16 1, by decide +kernel, by decide +kernel, (if_neg (by decide +kernel)).symm, by decide +kernel, by decide +kernel⟩

theorem witness_echoRequestRx : ∃ (s : State) (u : State) (p : Fin 2) (k : Bytes) (me : Bytes) (hop : Bytes),
    s.icmpNext p 128 = (some k, u) ∧
    u.ob (Obj.COM_Tp_ECHO p) = true ∧
    me = (if u.ownsAddr p (sliceB k 24 16) then sliceB k 24 16 else u.srcAddr p (sliceB k 8 16)) ∧
    u.nextHop p (sliceB k 8 16) = some hop :=
  ⟨icmpState echoPacket, icmpState [], 1, echoPacket, (icmpState []).llAddr 1, [0xFE, 0x80] ++ List.replicate 14 0, by decide +kernel⟩

theorem witness_linkUp : ∃ (s : State) (u : State) (u2 : State) (v : State) (w : State) (p : Fin 2) (level : Nat) (sqi : Nat) (reversed : Bool) (own : List Bytes),
    s.ob (Obj.COM_Tp_ENABLE p) = true ∧
    s.pwr < 4 ∧
    (level = 1 ∨ level = 2) ∧
    (s.o (Obj.COM_Tp_AMPL p) = 0 ∨ s.o (Obj.COM_Tp_AMPL p) = level) ∧
    s.o (Obj.COM_Tp_LINK p) = 0 ∧
    u = (((s.setO (Obj.COM_Tp_LINK p) level).setO (Obj.COM_Tp_SQI p) (min 7 sqi)).setO (Obj.COM_Tp_POL p) (b2n reversed)).inc (Obj.COM_Tp_UPS p) ∧
    u2 = u.setO (Obj.COM_Tp_UP_SINCE p) (tt64 s.now) ∧
    v = (u2.setO (Obj.COM_Tp_DAD p) 0).modPort p (fun x => { x with tentative := s.now + 38400000, nbrs := [] }) ∧
    own = v.llAddr p :: (if zeroB (v.staticAddr p) then [] else [v.staticAddr p]) ∧
    w = own.foldl (fun (t : State) a => t.ndSend p (List.replicate 16 0) (solicited a) 135 (List.replicate 4 0 ++ a)) v :=
  ⟨linkS, linkU, linkU.setO (Obj.COM_Tp_UP_SINCE 1) (tt64 linkU.now), linkV, [linkV.llAddr 1].foldl (fun (t : State) a => t.ndSend 1 (List.replicate 16 0) (solicited a) 135 (List.replicate 4 0 ++ a)) linkV, 1, 2, 3, false, [linkV.llAddr 1], and3 (by decide +kernel) ⟨by decide +kernel, by decide +kernel, rfl, rfl, rfl, by decide +kernel, rfl⟩⟩

theorem witness_linkDown : ∃ (s : State) (u : State) (v : State) (w : State) (p : Fin 2),
    s.o (Obj.COM_Tp_LINK p) ≠ 0 ∧
    u = (s.setO (Obj.COM_Tp_LINK p) 0).inc (Obj.COM_Tp_DOWNS p) ∧
    (v = fin8.foldl (fun (t : State) (x : Fin 8) => if t.o (Obj.COM_Ss_STATE x) ≠ 0 && t.o (Obj.COM_Ss_PORT x) = p.val then t.sessClose x 2 else t) u) ∧
    w = (((v.com.inbox.filter (fun m => m.port == p.val)).foldl (fun (t : State) m => t.returnCells 4 m.cells) v).modCom (fun k => { k with inbox := k.inbox.filter (fun m => m.port != p.val) })).modPort p (fun x => { x with icmp := [], nbrs := [], held := [], after := [] }) :=
  ⟨withO [(Obj.COM_Tp_LINK 1, 1)], linkD, linkD, (((linkD.com.inbox.filter (fun m => m.port == (1 : Fin 2).val)).foldl (fun (t : State) m => t.returnCells 4 m.cells) linkD).modCom (fun k => { k with inbox := k.inbox.filter (fun m => m.port != (1 : Fin 2).val) })).modPort 1 (fun x => { x with icmp := [], nbrs := [], held := [], after := [] }), 1, by decide +kernel, rfl, by decide +kernel, rfl⟩

theorem witness_hspiStatus : ∃ (s : State),
    s.boot.recovery = false ∧
    s.ob Obj.COM_H_ENABLE = true :=
  ⟨withO [(Obj.COM_H_ENABLE, 1)], by decide +kernel⟩

theorem witness_hspiWrite : ∃ (s : State) (data : Bytes) (crc : Nat),
    s.boot.recovery = false ∧
    s.ob Obj.COM_H_ENABLE = true ∧
    s.sysclk = true ∧
    4 ≤ data.length ∧
    data.length ≤ 1024 ∧
    crc = crc32 data :=
  ⟨withO [(Obj.COM_H_ENABLE, 1)], [1, 2, 3, 4], crc32 [1, 2, 3, 4], by decide +kernel⟩

theorem witness_hspiWriteBad : ∃ (s : State) (data : Bytes) (crc : Nat),
    s.boot.recovery = false ∧
    s.ob Obj.COM_H_ENABLE = true ∧
    s.sysclk = true ∧
    (data.length < 4 ∨ 1024 < data.length ∨ crc ≠ crc32 data) :=
  ⟨withO [(Obj.COM_H_ENABLE, 1)], [1, 2, 3], 0, by decide +kernel⟩

theorem witness_hspiRead : ∃ (s : State) (u : State) (d : Bytes) (l : List Bytes),
    s.boot.recovery = false ∧
    s.ob Obj.COM_H_ENABLE = true ∧
    s.com.hspiOut = d :: l ∧
    u = { s with rbytes := leBytes 2 d.length ++ d ++ leBytes 4 (crc32 d) } :=
  ⟨{ withO [(Obj.COM_H_ENABLE, 1)] with com := { hspiOut := [[7]] } }, { withO [(Obj.COM_H_ENABLE, 1)] with com := { hspiOut := [[7]] }, rbytes := [1, 0, 7] ++ leBytes 4 (crc32 [7]) }, [7], [], by decide +kernel⟩

theorem witness_hspiDbgWrite : ∃ (s : State) (data : Bytes) (crc : Nat),
    s.boot.recovery = false ∧
    s.sysclk = true ∧
    4 ≤ data.length ∧
    data.length ≤ 1024 ∧
    crc = crc32 data :=
  ⟨withO [], [1, 2, 0, 0], crc32 [1, 2, 0, 0], by decide +kernel⟩

theorem witness_hspiDbgRead : ∃ (s : State) (u : State),
    s.boot.recovery = false ∧
    u = { s with rbytes := hspiFrame s.com.hspiDbg } :=
  ⟨{ withO [] with com := { hspiDbg := [[7]] } }, { withO [] with com := { hspiDbg := [[7]] }, rbytes := hspiFrame [[7]] }, by decide +kernel⟩

theorem witness_gpioEdge : ∃ (s : State) (u : State) (p : Fin 16) (level : Bool),
    bitOf (s.o Obj.GIO_IN) p ≠ level ∧
    u = (s.setO Obj.GIO_IN (setBit (s.o Obj.GIO_IN) p level)).tcGpio p level :=
  ⟨withO [], (withO []).setO Obj.GIO_IN 0x8000, 15, true, by decide +kernel⟩

theorem witness_gpioTimedDrive : ∃ (s : State) (u : State) (p : Fin 16),
    s.o (Obj.GIO_p_AT p) ≠ 0 ∧
    u = (s.upTo (linear (s.o (Obj.GIO_p_AT p)))).setO (Obj.GIO_p_AT p) 0 :=
  ⟨withO [(Obj.GIO_p_AT 15, 9)], { withO [] with now := 9 }, 15, by decide +kernel⟩

theorem witness_buckStart : ∃ (s : State) (vin : Nat),
    s.power.buck = false ∧
    s.power.restartAt = none ∧
    s.power.past = false ∧
    850 ≤ vin ∧
    vin ≤ 6200 :=
  ⟨{ withO [] with power := { buck := false } }, 1200, by decide +kernel⟩

theorem witness_buckRestart : ∃ (s : State) (vin : Nat),
    s.power.buck = false ∧
    s.power.restartAt = none ∧
    s.power.past = true ∧
    850 ≤ vin ∧
    vin < 6100 :=
  ⟨{ withO [] with power := { buck := false, past := true } }, 1200, by decide +kernel⟩

theorem witness_powerUpSequence : ∃ (s : State) (u : State),
    s.power.buck = true ∧
    s.power.rails < 5 ∧
    s.power.failAt = none ∧
    u = (s.upTo (s.power.e0 + railStep s.power.rails)).modPower (fun p => { p with rails := s.power.rails + 1 }) :=
  ⟨{ withO [] with power := { buck := true, rails := 3 } }, { withO [] with now := 134400, power := { buck := true, rails := 4 } }, by decide +kernel⟩

theorem witness_pgGood : ∃ (s : State) (u : State) (resetN : Bool),
    s.power.buck = true ∧
    s.power.rails = 5 ∧
    s.power.failAt = none ∧
    u = (s.upTo (s.power.e0 + railStep 5)).modPower (fun p => { p with rails := 6, pgGood := true, porDue := !resetN }) :=
  ⟨{ withO [] with power := { buck := true, rails := 5 } }, { withO [] with now := 192000, power := { buck := true, rails := 6, pgGood := true, porDue := true } }, false, by decide +kernel⟩

theorem witness_powerFail : ∃ (s : State) (u : State) (cause : Nat) (vin : Nat),
    s.power.pgGood = true ∧
    ((cause = 1 ∧ vin < 800) ∨ cause = 2 ∨ (cause = 3 ∧ 6200 < vin)) ∧
    u = s.modPower (fun p => { p with vin := vin, en := cause != 2, past := cause == 3 }) :=
  ⟨{ withO [] with power := { pgGood := true } }, { withO [] with power := { pgGood := true, vin := 7000, en := true, past := true } }, 3, 7000, by decide +kernel⟩

theorem witness_buckStop : ∃ (s : State) (u : State) (f : Instant),
    s.power.failAt = some f ∧
    u = (s.upTo (f + usT 100)).modPower (fun p => { p with buck := false, rails := 0, failAt := none, xo32k := false, ramp := none, entry := none, wakes := [], wakeAt := none, resetsDue := [] }) :=
  ⟨{ withO [] with power := { failAt := some 7 } }, { withO [] with now := 3847, power := { buck := false, rails := 0 } }, 7, by decide +kernel⟩

theorem witness_railFault : ∃ (s : State) (u : State) (rail : Nat),
    s.power.pgGood = true ∧
    rail < 11 ∧
    u = s.setO Obj.PWR_RAIL_FAULT (setBit (s.o Obj.PWR_RAIL_FAULT) rail true) :=
  ⟨{ withO [] with power := { pgGood := true } }, ({ withO [] with power := { pgGood := true } } : State).setO Obj.PWR_RAIL_FAULT 0x400, 10, by decide +kernel⟩

theorem witness_railFaultRestart : ∃ (s : State) (t : Instant),
    s.power.restartAt = some t ∧
    s.power.buck = false ∧
    s.power.thermal = false ∧
    s.power.failAt = none :=
  ⟨{ withO [] with power := { buck := false, restartAt := some 9 } }, 9, by decide +kernel⟩

theorem witness_thermalShutdown : ∃ (s : State) (u : State),
    s.power.pgGood = true ∧
    u = s.powerFail :=
  ⟨{ withO [] with power := { pgGood := true } }, ({ withO [] with power := { pgGood := true } } : State).powerFail, by decide +kernel, rfl⟩

theorem witness_thermalRestart : ∃ (s : State) (t : Instant),
    s.power.restartAt = some t ∧
    s.power.buck = false ∧
    s.power.thermal = true ∧
    s.power.failAt = none :=
  ⟨{ withO [] with power := { buck := false, restartAt := some 9, thermal := true } }, 9, by decide +kernel⟩

theorem witness_sccp : ∃ (s : State) (vin : Nat),
    s.power.buck = false ∧
    300 ≤ vin ∧
    vin ≤ 800 :=
  ⟨{ withO [] with power := { buck := false } }, 500, by decide +kernel⟩

theorem witness_sccpClassWrite : ∃ (s : State) (v : Nat),
    10 ≤ v ∧
    v ≤ 15 ∧
    0 < s.o Obj.PWR_SCCP_WRITES :=
  ⟨withO [(Obj.PWR_SCCP_WRITES, 3)], 15, by decide +kernel⟩

theorem witness_sccpClassRefused : ∃ (s : State) (v : Nat),
    (v < 10 ∨ 15 < v ∨ s.o Obj.PWR_SCCP_WRITES = 0) :=
  ⟨withO [], 16, by decide +kernel⟩

theorem witness_pwrTableWrite : ∃ (b : Bytes),
    tableOk b = true :=
  ⟨[1, 4, 20, 4, 0xF4, 1, 0, 0], by decide +kernel⟩

theorem witness_pwrTableRefused : ∃ (b : Bytes),
    tableOk b = false :=
  ⟨[1, 4, 20, 4, 0xF3, 1, 0, 0], by decide +kernel⟩

theorem witness_xo32kStart : ∃ (s : State),
    2 ≤ s.power.rails :=
  ⟨{ withO [] with power := { rails := 2 } }, by decide +kernel⟩

theorem witness_vcoreRampDone : ∃ (s : State) (r : Ramp),
    s.power.ramp = some r :=
  ⟨{ withO [] with power := { ramp := some ⟨850, -300, 7⟩ } }, ⟨850, -300, 7⟩, by decide +kernel⟩

theorem witness_vcoreLowerStep : ∃ (s : State) (r : State) (u : State) (v : Nat),
    s.o Obj.PWR_PLAN_STEP = 1 ∧
    s.pwr ≤ 2 ∧
    (r = if s.power.stepSf = some s.sf then s.upTo (boundaryAt superT (s.now + 1)) else s) ∧
    u = r.modPower (fun p => { p with stepSf := some r.sf }) ∧
    u.o Obj.PWR_CPS_SLACK_FLOOR + 2 < u.o Obj.PWR_CPS_SLACK_NOW ∧
    v = max (u.planV u.pwr) (u.o Obj.PWR_VCORE_NOW - 10) :=
  ⟨withO [(Obj.PWR_PLAN_STEP, 1), (Obj.PWR_STATE, 1), (Obj.PWR_CPS_SLACK_NOW, 63), (Obj.PWR_VCORE_NOW, 850), (Obj.PWR_PLAN_VCORE_RUN, 800)], withO [(Obj.PWR_PLAN_STEP, 1), (Obj.PWR_STATE, 1), (Obj.PWR_CPS_SLACK_NOW, 63), (Obj.PWR_VCORE_NOW, 850), (Obj.PWR_PLAN_VCORE_RUN, 800)], (withO [(Obj.PWR_PLAN_STEP, 1), (Obj.PWR_STATE, 1), (Obj.PWR_CPS_SLACK_NOW, 63), (Obj.PWR_VCORE_NOW, 850), (Obj.PWR_PLAN_VCORE_RUN, 800)]).modPower (fun p => { p with stepSf := some 0 }), 840, by decide +kernel⟩

theorem witness_vcoreStepHeld : ∃ (s : State) (r : State) (u : State),
    s.o Obj.PWR_PLAN_STEP = 1 ∧
    s.pwr ≤ 2 ∧
    (r = if s.power.stepSf = some s.sf then s.upTo (boundaryAt superT (s.now + 1)) else s) ∧
    u = r.modPower (fun p => { p with stepSf := some r.sf }) ∧
    u.o Obj.PWR_CPS_SLACK_NOW ≤ u.o Obj.PWR_CPS_SLACK_FLOOR + 2 :=
  ⟨withO [(Obj.PWR_PLAN_STEP, 1), (Obj.PWR_STATE, 1), (Obj.PWR_CPS_SLACK_NOW, 2)], withO [(Obj.PWR_PLAN_STEP, 1), (Obj.PWR_STATE, 1), (Obj.PWR_CPS_SLACK_NOW, 2)], (withO [(Obj.PWR_PLAN_STEP, 1), (Obj.PWR_STATE, 1), (Obj.PWR_CPS_SLACK_NOW, 2)]).modPower (fun p => { p with stepSf := some 0 }), by decide +kernel⟩

theorem witness_marginGuardUp : ∃ (s : State) (r : State) (u : State) (slack : Nat),
    slack = s.o Obj.PWR_CPS_SLACK_NOW ∧
    slack < s.o Obj.PWR_CPS_SLACK_FLOOR ∧
    s.pwr ≠ 4 ∧
    s.power.guardDone = false ∧
    s.o Obj.PWR_VCORE_NOW < s.vcoreCeil ∧
    r = s.modPower (fun p => { p with guardDone := true }) ∧
    u = ((r.setO Obj.PWR_VCORE_NOW (min s.vcoreCeil (s.o Obj.PWR_VCORE_NOW + 10))).addO 8 Obj.PWR_CPS_GUARD_MV 10).inc Obj.PWR_CPS_GUARD_UPS :=
  ⟨guardState 850, (guardState 850).modPower (fun p => { p with guardDone := true }), ((((guardState 850).modPower (fun p => { p with guardDone := true })).setO Obj.PWR_VCORE_NOW 860).addO 8 Obj.PWR_CPS_GUARD_MV 10).inc Obj.PWR_CPS_GUARD_UPS, 3, by decide +kernel⟩

theorem witness_marginGuardOnce : ∃ (s : State),
    s.power.guardDone = true :=
  ⟨{ withO [] with power := { guardDone := true } }, by decide +kernel⟩

theorem witness_marginLost : ∃ (s : State) (r : State) (slack : Nat),
    slack = s.o Obj.PWR_CPS_SLACK_NOW ∧
    slack < s.o Obj.PWR_CPS_SLACK_FLOOR ∧
    s.pwr ≠ 4 ∧
    s.power.guardDone = false ∧
    s.vcoreCeil ≤ s.o Obj.PWR_VCORE_NOW ∧
    r = s.modPower (fun p => { p with guardDone := true }) :=
  ⟨guardState 900, (guardState 900).modPower (fun p => { p with guardDone := true }), 3, by decide +kernel⟩

theorem witness_pstate : ∃ (s : State) (e : Entry),
    s.power.entry = some e ∧
    (e.target < 3 ∨ e.target = s.pwr) :=
  ⟨{ withO [(Obj.PWR_STATE, 1)] with power := { entry := some ⟨2, 0, 384000⟩ } }, ⟨2, 0, 384000⟩, by decide +kernel⟩

theorem witness_pstateTakes : ∃ (s : State) (target : Nat),
    target ≠ s.pwr :=
  ⟨withO [(Obj.PWR_STATE, 1)], 2, by decide +kernel⟩

theorem witness_dozeEntry : ∃ (s : State) (u : State) (e : Entry),
    s.power.entry = some e ∧
    e.target = 3 ∧
    s.pwr ≠ 3 ∧
    u = s.dozeStop e.at_ :=
  ⟨{ withO [(Obj.PWR_STATE, 1)] with power := { entry := some ⟨3, 0, 384000⟩ } }, ({ withO [(Obj.PWR_STATE, 1)] with power := { entry := some ⟨3, 0, 384000⟩ } } : State).dozeStop 384000, ⟨3, 0, 384000⟩, and3 (by decide +kernel) rfl⟩

theorem witness_hibernateEntry : ∃ (s : State) (u : State) (e : Entry),
    s.power.entry = some e ∧
    e.target = 4 ∧
    s.pwr ≠ 4 ∧
    u = s.hibStop e.at_ :=
  ⟨{ withO [(Obj.PWR_STATE, 1)] with power := { entry := some ⟨4, 0, 384000⟩ } }, ({ withO [(Obj.PWR_STATE, 1)] with power := { entry := some ⟨4, 0, 384000⟩ } } : State).hibStop 384000, ⟨4, 0, 384000⟩, and3 (by decide +kernel) rfl⟩

theorem witness_wakeSource : ∃ (s : State) (c : Nat),
    (3 ≤ c ∨ s.panelWoke c = true) ∧
    s.sleepState ≠ 0 ∧
    wakeUsable s.sleepState c = true ∧
    bitOf (s.wakeMask s.sleepState) (c - 1) = true :=
  ⟨withO [(Obj.PWR_STATE, 3), (Obj.PWR_WAKE_DOZE, 256)], 9, by decide +kernel⟩

theorem witness_dozeWake : ∃ (s : State) (u : State) (w : Instant) (ws : List Nat),
    s.pwr = 3 ∧
    s.power.wakes = ws ∧
    ws ≠ [] ∧
    s.power.wakeAt = some w ∧
    u = ((s.dozeResume w ws).portsWake).toCore 4 ⟨5, 0, wakeLow ws⟩ :=
  ⟨{ withO [(Obj.PWR_STATE, 3)] with power := { wakes := [3], wakeAt := some 0 } }, ((({ withO [(Obj.PWR_STATE, 3)] with power := { wakes := [3], wakeAt := some 0 } } : State).dozeResume 0 [3]).portsWake).toCore 4 ⟨5, 0, wakeLow [3]⟩, 0, [3], and3 (by decide +kernel) ⟨by decide +kernel, rfl⟩⟩

theorem witness_dozeResumes : ∃ (s : State) (u : State) (w : Instant) (ws : List Nat),
    u = (((s.upTo w).setO Obj.PWR_WAKE_SRC (wakeBits ws)).setO Obj.PWR_WAKE_AT (tt64 w)).unkept.dramWake :=
  ⟨withO [], _, 0, [3], rfl⟩

theorem witness_hibernateWake : ∃ (s : State) (u : State) (cycles : Nat) (ws : List Nat),
    s.pwr = 4 ∧
    s.power.wakes = ws ∧
    ws ≠ [] ∧
    u = s.hibAdvance (if s.power.xo32k then cycles else 0) :=
  ⟨{ withO [(Obj.PWR_STATE, 4)] with power := { wakes := [3] } }, ({ withO [(Obj.PWR_STATE, 4)] with power := { wakes := [3] } } : State).hibAdvance (if ({ withO [(Obj.PWR_STATE, 4)] with power := { wakes := [3] } } : State).power.xo32k then 5 else 0), 5, [3], and3 (by decide +kernel) rfl⟩

theorem witness_compassSurvey : ∃ (s : State) (u : State),
    s.surveyDue = true ∧
    s.pwr ≤ 2 ∧
    u = (match s.power.surveyAsked with | some t => s.upTo (nextFrame t) | none => s).surveyTake :=
  ⟨{ withO [(Obj.PWR_STATE, 1)] with power := { surveyAsked := some 5 } }, _, by decide +kernel, by decide +kernel, rfl⟩

theorem witness_compassPlan : ∃ (s : State) (l : List (Key × Val)) (up : Bool),
    l = s.planSet ∧
    up = decide (s.o Obj.DRM_REF_SCALE < (setNum l Obj.DRM_REF_SCALE).getD 0) :=
  ⟨withO [], (withO []).planSet, decide ((withO []).o Obj.DRM_REF_SCALE < (setNum (withO []).planSet Obj.DRM_REF_SCALE).getD 0), rfl, rfl⟩

theorem witness_pinReset : ∃ (s : State) (width : Nat),
    s.power.pgGood = true ∧
    1000 ≤ width :=
  ⟨withO [], 1000, by decide +kernel⟩

theorem witness_pinResetShort : ∃ (width : Nat),
    width < 200 :=
  ⟨199, by decide +kernel⟩

theorem witness_romRecoveryPin : ∃ (s : State) (u : State) (m : CoreSt),
    m = s.cores[(4 : Fin 8)] ∧
    m.mode = .run ∧
    m.sprout = true ∧
    s.boot.recovery = false ∧
    u = (s.modPower (fun p => { p with mode := 1 })).journalScan :=
  ⟨withO [], ((withO []).modPower (fun p => { p with mode := 1 })).journalScan, (withO []).cores[(4 : Fin 8)], rfl, and3 (by decide +kernel) rfl⟩

theorem witness_romBoots : ∃ (s : State) (u : State) (v : State) (mode : Nat) (r : Nat) (cause : Nat) (m : CoreSt),
    m = s.cores[(4 : Fin 8)] ∧
    m.mode = .run ∧
    m.sprout = true ∧
    s.boot.recovery = false ∧
    mode % 4 ≠ 1 ∧
    u = (s.modPower (fun p => { p with mode := mode % 4 })).journalScan ∧
    cause = u.o Obj.COR_RESET_CAUSE ∧
    r = (u.chooseSlot cause).1 ∧
    v = (u.chooseSlot cause).2 :=
  ⟨withO [], ((withO []).modPower (fun p => { p with mode := 0 % 4 })).journalScan, ((((withO []).modPower (fun p => { p with mode := 0 % 4 })).journalScan).chooseSlot ((((withO []).modPower (fun p => { p with mode := 0 % 4 })).journalScan).o Obj.COR_RESET_CAUSE)).2, 0, ((((withO []).modPower (fun p => { p with mode := 0 % 4 })).journalScan).chooseSlot ((((withO []).modPower (fun p => { p with mode := 0 % 4 })).journalScan).o Obj.COR_RESET_CAUSE)).1, (((withO []).modPower (fun p => { p with mode := 0 % 4 })).journalScan).o Obj.COR_RESET_CAUSE, (withO []).cores[(4 : Fin 8)], rfl, and3 (by decide +kernel) ⟨by decide +kernel, rfl, rfl, rfl, rfl⟩⟩

theorem witness_romChosen : ∃ (s : State) (x : State) (r : Nat) (e : Nat),
    s.checkSlot r = (e, x) :=
  ⟨withO [], ((withO []).checkSlot 0).2, 0, ((withO []).checkSlot 0).1, (Prod.eta _).symm⟩

theorem witness_recStatus : ∃ (s : State),
    s.boot.recovery = true :=
  ⟨{ withO [] with boot := { recovery := true } }, by decide +kernel⟩

theorem witness_recWrite : ∃ (s : State) (off : Nat) (crc : Nat) (data : Bytes),
    s.boot.recovery = true ∧
    s.recWriteStatus off data crc = 0 ∧
    off ≠ 0 :=
  ⟨{ withO [] with boot := { recovery := true } }, 16, crc32 (List.replicate 16 7), List.replicate 16 7, by decide +kernel⟩

theorem witness_recWriteFirst : ∃ (s : State) (u : State) (crc : Nat) (data : Bytes),
    s.boot.recovery = true ∧
    s.recWriteStatus 0 data crc = 0 ∧
    u = (s.modBoot (fun b => { b with recStatus := 0 })).eraseSlot 1 :=
  ⟨{ withO [] with boot := { recovery := true } }, (({ withO [] with boot := { recovery := true } } : State).modBoot (fun b => { b with recStatus := 0 })).eraseSlot 1, crc32 (List.replicate 16 7), List.replicate 16 7, by decide +kernel, by decide +kernel, rfl⟩

theorem witness_recWriteRefused : ∃ (s : State) (off : Nat) (crc : Nat) (st : Nat) (data : Bytes),
    s.boot.recovery = true ∧
    s.recWriteStatus off data crc = st ∧
    st ≠ 0 :=
  ⟨{ withO [] with boot := { recovery := true } }, 16, 0, 2, List.replicate 16 7, by decide +kernel⟩

theorem witness_recDone : ∃ (s : State) (u : State) (e : Nat) (h : Bytes),
    s.boot.recovery = true ∧
    s.checkSlot 1 = (e, u) ∧
    h = u.header 1 :=
  ⟨{ withO [] with boot := { recovery := true } }, (({ withO [] with boot := { recovery := true } } : State).checkSlot 1).2, (({ withO [] with boot := { recovery := true } } : State).checkSlot 1).1, (({ withO [] with boot := { recovery := true } } : State).checkSlot 1).2.header 1, by decide +kernel, (Prod.eta _).symm, rfl⟩

theorem witness_imCheck : ∃ (s : State) (q : State) (u : State) (k : Fin 8) (slot : Nat) (e : Nat) (r : Nat),
    s.callable k 8 1 1 = true ∧
    q = s.scratch k ∧
    s.dTop k 1 = [slot] ∧
    s.rTop k 1 = [r] ∧
    slot ≤ 1 ∧
    q.checkSlot slot = (e, u) :=
  ⟨stackCore 8 [1], stackCore 8 [1], ((stackCore 8 [1]).checkSlot 1).2, 0, 1, ((stackCore 8 [1]).checkSlot 1).1, 1, and3 (by decide +kernel) ⟨by decide +kernel, by decide +kernel, (Prod.eta _).symm⟩⟩

theorem witness_imSwitchRoll : ∃ (s : State) (q : State) (u : State) (k : Fin 8) (slot : Nat) (e : Nat) (r : Nat),
    s.callable k 9 2 1 = true ∧
    q = s.scratch k ∧
    s.dTop k 2 = [slot, 0] ∧
    s.rTop k 1 = [r] ∧
    slot ≤ 1 ∧
    (q.recordSt = some 0 ∨ q.recordSt = some 2) ∧
    slot ≠ q.o Obj.COR_IMG_RUN ∧
    q.checkSlot slot = (e, u) :=
  ⟨imCore 9 [0, 1] 0, imCore 9 [0, 1] 0, ((imCore 9 [0, 1] 0).checkSlot 1).2, 0, 1, ((imCore 9 [0, 1] 0).checkSlot 1).1, 0, and3 (by decide +kernel) ⟨by decide +kernel, by decide +kernel, .inl (imCore_recordSt (by decide +kernel) (by decide +kernel) (by decide +kernel) (by decide +kernel)), by decide +kernel, (Prod.eta _).symm⟩⟩

theorem witness_imSwitchReset : ∃ (s : State) (q : State) (u : State) (k : Fin 8) (slot : Nat) (e : Nat) (r : Nat),
    s.callable k 9 2 1 = true ∧
    q = s.scratch k ∧
    s.dTop k 2 = [slot, 1] ∧
    s.rTop k 1 = [r] ∧
    slot ≤ 1 ∧
    (q.recordSt = some 0 ∨ q.recordSt = some 2) ∧
    slot ≠ q.o Obj.COR_IMG_RUN ∧
    q.checkSlot slot = (e, u) :=
  ⟨imCore 9 [1, 1] 2, imCore 9 [1, 1] 2, ((imCore 9 [1, 1] 2).checkSlot 1).2, 0, 1, ((imCore 9 [1, 1] 2).checkSlot 1).1, 1, and3 (by decide +kernel) ⟨by decide +kernel, by decide +kernel, .inr (imCore_recordSt (by decide +kernel) (by decide +kernel) (by decide +kernel) (by decide +kernel)), by decide +kernel, (Prod.eta _).symm⟩⟩

theorem witness_imConfirm : ∃ (s : State) (q : State) (k : Fin 8) (a : Nat) (r : Nat) (b : Bytes),
    s.callable k 10 0 1 = true ∧
    q = s.scratch k ∧
    s.rTop k 1 = [r] ∧
    q.healthOver = false ∧
    q.newest = some (a, b) ∧
    bState b = 1 :=
  ⟨imCore 10 [] 1, imCore 10 [] 1, 0, 0x08F0A000, 0, bootRecord 1, and3 (by decide +kernel) ⟨by decide +kernel, imCore_newest (by decide +kernel) (by decide +kernel) (by decide +kernel), by decide +kernel⟩⟩

theorem witness_imAbandon : ∃ (s : State) (q : State) (k : Fin 8) (r : Nat),
    s.callable k 11 0 1 = true ∧
    q = s.scratch k ∧
    s.rTop k 1 = [r] ∧
    q.recordSt = some 1 :=
  ⟨imCore 11 [] 1, imCore 11 [] 1, 0, 0, and3 (by decide +kernel) (imCore_recordSt (by decide +kernel) (by decide +kernel) (by decide +kernel) (by decide +kernel))⟩

theorem witness_snapshotPublish : ∃ (s : State) (b : Bytes) (cur : Nat),
    s.jobs.snap = some b ∧
    cur = 1 - s.o Obj.JOB_SNAP_CUR :=
  ⟨{ withO [] with jobs := { snap := some [1, 2, 3] } }, [1, 2, 3], 1, by decide +kernel⟩

theorem witness_baseFirmwareStart : ∃ (s : State) (u : State) (m : CoreSt),
    m = s.cores[(4 : Fin 8)] ∧
    m.mode = .run ∧
    m.sprout = false ∧
    u = ((((s.release8 0xEF).startMeasure).startKeys).startUpdate).startTrial :=
  ⟨bigState, ((((bigState.release8 0xEF).startMeasure).startKeys).startUpdate).startTrial, bigState.cores[(4 : Fin 8)], rfl, by decide +kernel, by decide +kernel, rfl⟩

theorem witness_updPieceWrite : ∃ (s : State) (x : Fin 8) (b : Bytes),
    s.sessMay x 3 = true ∧
    13 ≤ b.length ∧
    b.length ≤ 780 ∧
    fieldN b 0 2 ≠ 0 ∧
    1 ≤ fieldN b 4 2 ∧
    fieldN b 4 2 ≤ 9984 :=
  ⟨hostState, 3, [1, 0, 0, 0, 1, 0, 0, 0, 1, 0, 0, 0, 7], by decide +kernel⟩

theorem witness_hostRefused : ∃ (s : State) (x : Fin 8),
    s.sessMay x 3 = false :=
  ⟨withO [], 3, by decide +kernel⟩

theorem witness_updActAtWrite : ∃ (s : State) (x : Fin 8) (v : Nat),
    s.sessMay x 3 = true ∧
    s.o Obj.NBF_UPD_STATE = 2 ∧
    ttValid v = true ∧
    linear v % epochT = 0 ∧
    s.now + superT ≤ linear v :=
  ⟨stagedState, 3, tt64 epochT, by decide +kernel⟩

theorem witness_updActAtRefused : ∃ (s : State) (x : Fin 8),
    s.sessMay x 3 = true ∧
    s.o Obj.NBF_UPD_STATE ≠ 2 :=
  ⟨hostState, 3, by decide +kernel⟩

theorem witness_updCheck : ∃ (s : State) (u : State) (x : Fin 8) (e : Nat),
    s.sessMay x 3 = true ∧
    s.checkSlot s.target = (e, u) :=
  ⟨hostState, (hostState.checkSlot hostState.target).2, 3, (hostState.checkSlot hostState.target).1, by decide +kernel, (Prod.eta _).symm⟩

theorem witness_updCancel : ∃ (s : State) (x : Fin 8),
    s.sessMay x 3 = true :=
  ⟨hostState, 3, by decide +kernel⟩

theorem witness_updAbandon : ∃ (s : State) (x : Fin 8),
    s.sessMay x 3 = true :=
  ⟨hostState, 3, by decide +kernel⟩

theorem witness_updClear : ∃ (s : State) (u : State) (x : Fin 8),
    s.sessMay x 3 = true ∧
    s.o Obj.COR_IMG_STATE ≠ 1 ∧
    s.targetLocked = false ∧
    u = s.eraseSlot s.target :=
  ⟨hostState, hostState.eraseSlot hostState.target, 3, and3 (by decide +kernel) rfl⟩

theorem witness_updClearRefused : ∃ (s : State) (x : Fin 8),
    s.sessMay x 3 = true ∧
    (s.o Obj.COR_IMG_STATE = 1 ∨ s.targetLocked = true) :=
  ⟨hostState.setO Obj.COR_IMG_STATE 1, 3, by decide +kernel⟩

theorem witness_bundleComplete : ∃ (s : State) (u : State) (e : Nat) (n : Nat) (h : Bytes) (g : Bytes),
    s.o Obj.NBF_UPD_STATE = 1 ∧
    n = s.o Obj.NBF_UPD_COUNT ∧
    0 < n ∧
    s.piecesHeld = n ∧
    (s.setO Obj.NBF_UPD_HAVE n).checkSlot (s.setO Obj.NBF_UPD_HAVE n).target = (e, u) ∧
    h = u.header u.target ∧
    g = u.header (1 - u.target) :=
  ⟨heldState, ((heldState.setO Obj.NBF_UPD_HAVE 1).checkSlot (heldState.setO Obj.NBF_UPD_HAVE 1).target).2, ((heldState.setO Obj.NBF_UPD_HAVE 1).checkSlot (heldState.setO Obj.NBF_UPD_HAVE 1).target).1, 1, (((heldState.setO Obj.NBF_UPD_HAVE 1).checkSlot (heldState.setO Obj.NBF_UPD_HAVE 1).target).2).header (((heldState.setO Obj.NBF_UPD_HAVE 1).checkSlot (heldState.setO Obj.NBF_UPD_HAVE 1).target).2).target, (((heldState.setO Obj.NBF_UPD_HAVE 1).checkSlot (heldState.setO Obj.NBF_UPD_HAVE 1).target).2).header (1 - (((heldState.setO Obj.NBF_UPD_HAVE 1).checkSlot (heldState.setO Obj.NBF_UPD_HAVE 1).target).2).target), and3 (by decide +kernel) ⟨by decide +kernel, (Prod.eta _).symm, rfl, rfl⟩⟩

theorem witness_updateActivate : ∃ (s : State) (u : State) (v : State) (e : Nat) (f : Nat) (mode : Nat) (h : Bytes),
    e = s.o Obj.NBF_UPD_ACT_AT ∧
    e ≠ 0 ∧
    s.pwr ≤ 2 ∧
    s.o Obj.NBF_UPD_STATE = 2 ∧
    u = (s.upTo (linear e)).setO Obj.NBF_UPD_ACT_AT 0 ∧
    h = u.header u.target ∧
    (mode = (if hStateMin h ≤ s.o Obj.COR_IMG_STATE_VER ∧ bitOf (hFlags h) 2 = false then 0 else 1)) ∧
    (u.setO Obj.NBF_UPD_MODE mode).imSwitch u.target mode = (f, v) :=
  ⟨actState, actU, ((actU.setO Obj.NBF_UPD_MODE actMode).imSwitch actU.target actMode).2, tt64 epochT, ((actU.setO Obj.NBF_UPD_MODE actMode).imSwitch actU.target actMode).1, actMode, actU.header actU.target, and3 (by decide +kernel) ⟨by decide +kernel, rfl, rfl, rfl, (Prod.eta _).symm⟩⟩

theorem witness_updateMissed : ∃ (s : State) (u : State) (e : Nat),
    e = s.o Obj.NBF_UPD_ACT_AT ∧
    e ≠ 0 ∧
    3 ≤ s.pwr ∧
    u = (s.upTo (linear e)).setO Obj.NBF_UPD_ACT_AT 0 :=
  ⟨actState.setO Obj.PWR_STATE 3, ((actState.setO Obj.PWR_STATE 3).upTo (linear (tt64 epochT))).setO Obj.NBF_UPD_ACT_AT 0, tt64 epochT, and3 (by decide +kernel) rfl⟩

theorem witness_rollSliceStep : ∃ (s : State) (u : State) (v : State) (c : Nat),
    s.boot.roll = some ⟨c, none⟩ ∧
    c < 4 ∧
    s.o (Obj.SLCn_LC_STATE (asFin 4 c)) ≠ 0 ∧
    u = ((s.coreHold (asFin 8 c)).lcPark (asFin 4 c)).getD (s.coreHold (asFin 8 c)) ∧
    v = (u.setO (Obj.COR_c_START (asFin 8 c)) (u.entryOf (u.o Obj.COR_IMG_RUN))).coreStart (asFin 8 c) :=
  ⟨rollState ⟨0, none⟩, (((rollState ⟨0, none⟩).coreHold 0).lcPark 0).getD ((rollState ⟨0, none⟩).coreHold 0), (((((rollState ⟨0, none⟩).coreHold 0).lcPark 0).getD ((rollState ⟨0, none⟩).coreHold 0)).setO (Obj.COR_c_START 0) (((((rollState ⟨0, none⟩).coreHold 0).lcPark 0).getD ((rollState ⟨0, none⟩).coreHold 0)).entryOf (((((rollState ⟨0, none⟩).coreHold 0).lcPark 0).getD ((rollState ⟨0, none⟩).coreHold 0)).o Obj.COR_IMG_RUN))).coreStart 0, 0, and3 (by decide +kernel) ⟨rfl, rfl⟩⟩

theorem witness_rollSliceDone : ∃ (s : State) (c : Nat) (t : Instant),
    s.boot.roll = some ⟨c, some t⟩ ∧
    c < 4 ∧
    t + frameT < s.now ∧
    s.o (Obj.SLCn_LC_STATE (asFin 4 c)) = 3 :=
  ⟨{ rollState ⟨0, some 0⟩ with now := 384001 }.setO (Obj.SLCn_LC_STATE 0) 3, 0, 0, by decide +kernel⟩

theorem witness_rollOtherStep : ∃ (s : State) (u : State) (c : Nat),
    s.boot.roll = some ⟨c, none⟩ ∧
    4 < c ∧
    u = s.rollCore (asFin 8 c) :=
  ⟨rollState ⟨5, none⟩, (rollState ⟨5, none⟩).rollCore 5, 5, by decide +kernel, by decide +kernel, rfl⟩

theorem witness_rollWardenLast : ∃ (s : State) (t : Option Instant),
    s.boot.roll = some ⟨4, t⟩ :=
  ⟨rollState ⟨4, none⟩, none, by decide +kernel⟩

theorem witness_healthRuns : ∃ (s : State) (m : Nat) (now : Nat) (run : Nat),
    s.o Obj.COR_IMG_STATE = 1 ∧
    s.o Obj.COR_IMG_HEALTH_AT ≠ 0 ∧
    m = s.o Obj.NBF_UPD_HEALTH_MASK ∧
    now = s.criteria ∧
    (bitOf m 3 = false ∨ bitOf now 3 = true) ∧
    run = (if natAnd m now = m then s.boot.healthRun + 1 else 0) ∧
    run < s.o Obj.NBF_UPD_HEALTH_HOLD :=
  ⟨trialState, trialState.o Obj.NBF_UPD_HEALTH_MASK, trialState.criteria, (if natAnd (trialState.o Obj.NBF_UPD_HEALTH_MASK) trialState.criteria = (trialState.o Obj.NBF_UPD_HEALTH_MASK) then trialState.boot.healthRun + 1 else 0), by decide +kernel⟩

theorem witness_healthConfirms : ∃ (s : State) (u : State) (m : Nat) (now : Nat) (run : Nat),
    s.o Obj.COR_IMG_STATE = 1 ∧
    s.o Obj.COR_IMG_HEALTH_AT ≠ 0 ∧
    m = s.o Obj.NBF_UPD_HEALTH_MASK ∧
    now = s.criteria ∧
    (bitOf m 3 = false ∨ bitOf now 3 = true) ∧
    run = (if natAnd m now = m then s.boot.healthRun + 1 else 0) ∧
    s.o Obj.NBF_UPD_HEALTH_HOLD ≤ run ∧
    u = ((s.setO Obj.NBF_UPD_HEALTH_NOW now).modBoot (fun b => { b with healthRun := run, progAll := true })).imConfirm.2 :=
  ⟨holdState, ((holdState.setO Obj.NBF_UPD_HEALTH_NOW holdState.criteria).modBoot (fun b => { b with healthRun := (if natAnd (holdState.o Obj.NBF_UPD_HEALTH_MASK) holdState.criteria = (holdState.o Obj.NBF_UPD_HEALTH_MASK) then holdState.boot.healthRun + 1 else 0), progAll := true })).imConfirm.2, holdState.o Obj.NBF_UPD_HEALTH_MASK, holdState.criteria, (if natAnd (holdState.o Obj.NBF_UPD_HEALTH_MASK) holdState.criteria = (holdState.o Obj.NBF_UPD_HEALTH_MASK) then holdState.boot.healthRun + 1 else 0), by decide +kernel, by decide +kernel, rfl, rfl, by decide +kernel, rfl, by decide +kernel, rfl⟩

theorem witness_healthDeadline : ∃ (s : State) (u : State) (v : Nat),
    v = s.o Obj.COR_IMG_HEALTH_AT ∧
    v ≠ 0 ∧
    u = (s.upTo (linear v)).miss 11 0x14 (linear v) ∧
    (u.logEvent ⟨0x100, 0x14, 11 + 256, u.now, []⟩).pwr ≤ 2 :=
  ⟨trialState, (trialState.upTo (linear (tt64 superT))).miss 11 0x14 (linear (tt64 superT)), tt64 superT, by decide +kernel⟩

theorem witness_stepFront : ∃ (c : Instr) (s : State) (rest : List Instr),
    s.pending = c :: rest :=
  ⟨.buckStop, { withO [] with pending := [.buckStop, .pgGood true] }, [.pgGood true], by decide +kernel⟩

theorem witness_stepIdle : ∃ (s : State),
    s.pending = [] :=
  ⟨withO [], by decide +kernel⟩

theorem witness_evpost : ∃ (s : State) (c : Fin 8) (d : Fin 8) (v : Nat) (k : Nat),
    s.cores[c].sprout = false ∧
    s.ready c 1 2 1 0 0 = true ∧
    s.dTop c 2 = [v, k] ∧
    d.val = k % 8 ∧
    s.cores[d].queue.length < 32 :=
  ⟨runCore, 0, 0, 0, 0, by decide +kernel⟩

theorem witness_evpostFull : ∃ (s : State) (c : Fin 8) (d : Fin 8) (v : Nat) (k : Nat),
    s.cores[c].sprout = false ∧
    s.ready c 1 2 1 0 0 = true ∧
    s.dTop c 2 = [v, k] ∧
    d.val = k % 8 ∧
    32 ≤ s.cores[d].queue.length :=
  ⟨{ runCore with cores := vmod runCore.cores 0 (fun x => { x with queue := List.replicate 32 ⟨2, 0, 0⟩ }) }, 0, 0, 0, 0, by decide +kernel⟩

theorem witness_brk : ∃ (s : State) (c : Fin 8),
    s.ready c 1 0 0 0 0 = true ∧
    s.o Obj.SHL_DBG_STATE ≠ 1 ∧
    s.o Obj.SHL_DBG_STATE ≠ 2 :=
  ⟨runCore, 0, by decide +kernel⟩

theorem witness_brkHalts : ∃ (s : State) (c : Fin 8),
    s.ready c 1 0 0 0 0 = true ∧
    (s.o Obj.SHL_DBG_STATE = 1 ∨ s.o Obj.SHL_DBG_STATE = 2) :=
  ⟨{ runCore with objs := [(Obj.SHL_DBG_STATE, 2)] }, 0, by decide +kernel⟩

theorem witness_stwFrame : ∃ (s : State) (t : State) (c : Fin 8) (v : Nat) (a : Nat),
    s.cores[c].sprout = false ∧
    s.ready c 1 2 0 0 0 = true ∧
    s.dTop c 2 = [v, a] ∧
    a < 2 ^ 32 ∧
    s.storable c a 4 = true ∧
    exec (.stw c) s = .next t :=
  ⟨loadCore, (match exec (.stw 0) loadCore with | .next t => t | _ => loadCore), 0, 0, 0x20000100, and3 (by decide +kernel) ⟨by decide +kernel, by decide +kernel, rfl⟩⟩

theorem witness_sthFrame : ∃ (s : State) (t : State) (c : Fin 8) (v : Nat) (a : Nat),
    s.cores[c].sprout = false ∧
    s.ready c 1 2 0 0 0 = true ∧
    s.dTop c 2 = [v, a] ∧
    a < 2 ^ 32 ∧
    s.storable c a 2 = true ∧
    exec (.sth c) s = .next t :=
  ⟨loadCore, (match exec (.sth 0) loadCore with | .next t => t | _ => loadCore), 0, 0, 0x20000100, and3 (by decide +kernel) ⟨by decide +kernel, by decide +kernel, rfl⟩⟩

theorem witness_stbFrame : ∃ (s : State) (t : State) (c : Fin 8) (v : Nat) (a : Nat),
    s.cores[c].sprout = false ∧
    s.ready c 1 2 0 0 0 = true ∧
    s.dTop c 2 = [v, a] ∧
    a < 2 ^ 32 ∧
    s.storable c a 1 = true ∧
    exec (.stb c) s = .next t :=
  ⟨loadCore, (match exec (.stb 0) loadCore with | .next t => t | _ => loadCore), 0, 0, 0x20000100, and3 (by decide +kernel) ⟨by decide +kernel, by decide +kernel, rfl⟩⟩

theorem witness_tt64Spells : ∃ (t : Instant),
    t < ttRange :=
  ⟨5, by decide +kernel⟩

theorem witness_tt64Order : ∃ (v : Nat) (w : Nat),
    ttValid v = true ∧
    ttValid w = true :=
  ⟨3, 5, by decide +kernel⟩

theorem witness_stepCanonical : ∃ (s : State) (t : State),
    s.canonical = true ∧
    step s = .next t :=
  ⟨State.reset, State.reset, by decide, rfl⟩


/-! ## Ill-formed commands: for each check of Instr.wf a term that it refuses -/

theorem test_wf_refuses_1 : ([
    .tickBoundary 65536, .slotBoundary 65536 0 0 0 (List.replicate 4 0), .slotBoundary 0 65536 0 0 (List.replicate 4 0),
    .slotBoundary 0 0 0 64 (List.replicate 4 0), .missCounterClear 0 none 1 (2 ^ 32), .wideReadLowLatch 0 (2 ^ 24),
    .wideWriteLow 0 (2 ^ 24) 0, .wideWriteLow 0 0 (2 ^ 32), .wideWriteHigh 0 (2 ^ 24) 0, .wideWriteHigh 0 0 (2 ^ 32),
    .tcCountWrite 0 0 (2 ^ 32), .tcFlagsClear 0 (2 ^ 32), .rxqConsWrite 0 0 (2 ^ 32), .fldDqConsWrite 0 (2 ^ 32),
    .fabTrailCommit 0 (2 ^ 32), .fabUqConsWrite 0 (2 ^ 32), .bskAckedWrite 0 (2 ^ 32), .jobLedConsWrite 0 (2 ^ 32),
    .crcFlagsClear 0 (2 ^ 32), .corRelease (.core 0) (2 ^ 32), .drmRtnMaxlevelReset 0 0 (2 ^ 32),
    .flsLockWrite 0 (2 ^ 32) false, .flsIndetAck 0 (2 ^ 32), .comCommit 0 (2 ^ 32), .comDomSel 0 (2 ^ 32),
    .comDomLen 0 (2 ^ 32), .comDomDataWrite 0 (2 ^ 32), .comFwVal 0 (2 ^ 32), .evtLogClear (.core 0) (2 ^ 32),
    .evtRouteReset (.core 0) (2 ^ 32), .evtDropClear (.core 0) (2 ^ 32), .gioSet 0 (2 ^ 32), .gioClr 0 (2 ^ 32),
    .gioToggle 0 (2 ^ 32), .sccpClassWrite 0 (2 ^ 32), .pwrCpsSurveyCmd 0 (2 ^ 32), .corResetCmd 0 (2 ^ 32),
    .touchMeasurementDone 0 (2 ^ 32), .txPaOff 0 65536 0, .probe 0 0 65536, .aerialDecision 0 0 (2 ^ 64) 0,
    .aerialDecision 0 0 0 (2 ^ 64)] : List Instr).all (fun i => !i.wf) = true := by decide +kernel

theorem test_wf_refuses_2 : ([
    .mapResolve 0 0 (2 ^ 32) 0, .mapResolve 0 0 0 256, .fpCommit 0 0 (2 ^ 32), .reportMapInstall (2 ^ 32) [],
    .mapCompute 0 (2 ^ 32) ⟨true, none⟩, .micVerifyDone 0 256, .coldLookupDone 0 256, .comHndDone 0 256, .hotPin 0 (2 ^ 32),
    .hotUnpin 0 (2 ^ 32), .cipherSchedBlock (2 ^ 32) 0 0 0, .cipherSchedBlock 0 (2 ^ 32) 0 0,
    .cipherSchedBlock 0 0 (2 ^ 32) 0, .cipherSchedBlock 0 0 0 (2 ^ 32), .floodWiredDeadline (2 ^ 32) 0,
    .floodJitterEnd (2 ^ 32), .jobDeadline (2 ^ 32), .flashPageProgram (2 ^ 32) [], .flashMappingRecord (2 ^ 32) ⟨false, []⟩,
    .relayBind 0 0 (2 ^ 32), .relayDeadline 0 (2 ^ 32), .relayBoundSettle 0 (2 ^ 32), .radioNeighbourUpdate 0 (2 ^ 32),
    .claimRx (2 ^ 32), .lsdbUpdate (2 ^ 32), .forwardBind 0 0 (2 ^ 32), .forwardDeadline 0 (2 ^ 32),
    .forwardBoundSettle 0 (2 ^ 32), .beaconTimeMeasure 0 (2 ^ 32), .rosterRx (2 ^ 32), .handoverRx (2 ^ 32),
    .tagfwdSend 0 (2 ^ 32), .tagfwdRx (2 ^ 32), .rollupRx (2 ^ 32), .questionRx (2 ^ 32), .cueRx (2 ^ 32),
    .pieceRx false (2 ^ 32), .pieceReqRx (2 ^ 32), .homeRx (2 ^ 32), .bskUpRx (2 ^ 32), .bskDownRx false (2 ^ 32),
    .dnAckRx 0 (2 ^ 32)] : List Instr).all (fun i => !i.wf) = true := by decide +kernel

theorem test_wf_refuses_3 : ([
    .lit32 0 (2 ^ 32), .fabricDatagramRx 0 256 false [], .lsdbRecordExpire (2 ^ 32), .jobCopy 0 (2 ^ 32),
    .jobFill 0 (2 ^ 32), .jobCipher 0 (2 ^ 32), .jobHash 0 (2 ^ 32), .jobCrcFeed 0 (2 ^ 32), .jobCrcAppend 0 (2 ^ 32),
    .jobCrcStrip 0 (2 ^ 32), .jobFlood 0 (2 ^ 32), .jobSend 0 (2 ^ 32), .fabTimeSet 0 (2 ^ 64),
    .gioAtWrite 0 0 (2 ^ 64), .updActAtWrite 0 (2 ^ 64), .handoverTimeout 65536 0, .handoverTimeout 0 256,
    .tagPieceSend (2 ^ 32) 0, .tagPieceSend 0 65536, .homeDecide (2 ^ 32) 0, .homeDecide 0 (2 ^ 32),
    .homeLapse (2 ^ 32), .bskDownTx (2 ^ 32) 0, .bskDownTx 0 (2 ^ 32), .bskDnExpire (2 ^ 32),
    .alarmSourceDetect 65536 false, .alarmLatch 65536, .jobEnd (2 ^ 32) 0 false [], .jobEnd 0 (2 ^ 32) false [],
    .poolFree 0 0 (2 ^ 32), .crcDataFeed 0 0 1 (2 ^ 32), .lit8 0 256, .lit16 0 65536, .ldw 0 256, .ldh 0 256,
    .ldhs 0 256, .ldb 0 256, .ldbs 0 256, .xldw 0 256, .ldd 0 256 0, .ldd 0 0 256, .jmp 0 65536] : List Instr).all (fun i => !i.wf) = true := by decide +kernel

theorem test_wf_refuses_4 : ([
    .jz 0 65536, .jnz 0 65536, .call 0 65536, .jmp8 0 256, .jz8 0 256, .jnz8 0 256, .trap 0 256, .rdsr 0 256,
    .wrsr 0 256, .eventArrive 0 65536 0 0, .eventArrive 0 0 65536 0, .eventArrive 0 0 0 (2 ^ 32), .scrubRead false 4,
    .dramPanic 0 8192 false, .dramRefresh 0 0 (2 ^ 32), .linkUp 0 65536 0 false, .linkUp 0 0 256 false,
    .hspiWrite [] (2 ^ 32) false false, .hspiDbgWrite [] (2 ^ 32) false false, .stageWrite (.core 0) (2 ^ 24) 0 [],
    .stageWrite (.core 0) 0 (2 ^ 64) [], .registerWrite (.core 0) (2 ^ 24) 0 [], .registerWrite (.core 0) 0 (2 ^ 64) [],
    .buckStart 65536, .sccp 65536 false, .buckRestart 65536, .powerFail 256 0, .powerFail 0 65536, .railFault 16,
    .wakeSource 32, .romBoot 4 0, .recWrite (2 ^ 32) [] 0, .recWrite 0 [] (2 ^ 32), .recDone (2 ^ 32) 0,
    .slotBoundary 0 0 0 0 [], .tunerSearch 0 [], .mapperBlockAdmit 0 0 0 [], .pwrTableWrite 0 [],
    .missCounterClear 0 none 0 0, .crcDataFeed 0 0 3 0] : List Instr).all (fun i => !i.wf) = true := by decide +kernel

theorem test_wf_refuses_long (b : Bytes) (h : 2 ^ 24 ≤ b.length) :
    (Instr.stageWrite (.core 0) 0 0 b).wf = false ∧ (Instr.registerWrite (.core 0) 0 0 b).wf = false ∧
    (Instr.evtPost (.core 0) b).wf = false := by
  have h : shortB b = false := decide_eq_false (Nat.not_lt.mpr h)
  have g : (fits 24 0 && fits 64 0 && shortB b) = false := by rw [h, Bool.and_false]
  exact ⟨g, g, h⟩

theorem test_wf_fits : (Instr.lit8 0 256).wf = false ∧ (Instr.lit8 0 255).wf = true := by decide

/-- The worked example of R438. -/
theorem test_dram_example : dramMap 12 none 0x09123456 = ⟨1, 5, 5307, 42462, 9, 598, 1866⟩ := by decide

end Sys2Proof.Tests
end

/-! O52 and O60: the step takes the front command, and no command ends a run. Every branch of every meaning ends in a next
state, so a meaning is followed along its conditions and matches down to those leaves. -/
namespace Sys2Proof.Machine

/-! ## Outcomes that are a next state -/

/-- The outcome is a next state: neither a fault nor a refusal. -/
def Answers (o : Out) : Prop := ∃ t, o = .next t

theorem Answers.next (t : State) : Answers (.next t) := ⟨t, rfl⟩

/-- A choice answers when both of its branches do. A meaning that only tests conditions unfolds to such choices, so a term of
`.ite` and `.next` is the tree of its tests. -/
theorem Answers.ite {p : Prop} [Decidable p] {a b : Out} (ha : Answers a) (hb : Answers b) :
    Answers (if p then a else b) := by
  split
  · exact ha
  · exact hb

/-! ## Meanings that nest a match in their branches -/

theorem execQualifier_answers (n : Fin 4) (k : Fin 48) (h : RxHead) (s : State) : Answers (execQualifier n k h s) := by
  dsimp only [execQualifier]
  refine .ite ?_ (.next _)
  split
  · exact .ite (.next _) (.ite (.next _) (.next _))
  · split
    · exact .next _
    · exact .ite (.next _) (.ite (.next _) (.next _))

theorem execTxRampStart_answers (n : Fin 4) (s : State) : Answers (execTxRampStart n s) := by
  dsimp only [execTxRampStart]
  split
  · exact .next _
  · exact .ite (.next _) (.ite (.ite (.next _) (.next _)) (.ite (.next _) (.next _)))

theorem execMapResolve_answers (n : Fin 4) (k : Fin 48) (addr check : Nat) (s : State) :
    Answers (execMapResolve n k addr check s) := by
  dsimp only [execMapResolve]
  refine .ite (.ite (.next _) (.ite (.next _) ?_)) (.next _)
  split <;> exact .next _

theorem execReportMapInstall_answers (addr : Nat) (map : Bytes) (s : State) :
    Answers (execReportMapInstall addr map s) := by
  dsimp only [execReportMapInstall]
  split
  · exact .next _
  · refine .ite (.next _) ?_
    split <;> exact .next _

theorem execMapCompute_answers (n : Fin 4) (addr : Nat) (q : MapAsk) (s : State) : Answers (execMapCompute n addr q s) := by
  dsimp only [execMapCompute]
  split
  · exact .next _
  · refine .ite (.next _) ?_
    split <;> exact .next _

theorem execCommitDeadline_answers (n : Fin 4) (s : State) : Answers (execCommitDeadline n s) := by
  dsimp only [execCommitDeadline]
  refine .ite (.next _) ?_
  split
  · exact .next _
  · split <;> exact .next _

theorem execEntryPrepare_answers (n : Fin 4) (s : State) : Answers (execEntryPrepare n s) := by
  dsimp only [execEntryPrepare]
  split
  · exact .next _
  · split <;> exact .next _

theorem execFloodTake_answers (s : State) : Answers (execFloodTake s) := by
  dsimp only [execFloodTake]
  refine .ite (.next _) ?_
  split
  · exact .next _
  · split
    · exact .next _
    · exact .ite (.next _) (.ite (.next _) (.next _))

theorem execAddrListenEnd_answers (s : State) : Answers (execAddrListenEnd s) := by
  dsimp only [execAddrListenEnd]
  refine .ite ?_ (.next _)
  split <;> exact .next _

theorem execUnicastTake_answers (s : State) : Answers (execUnicastTake s) := by
  dsimp only [execUnicastTake]
  split
  · exact .next _
  · refine .ite (.next _) (.ite ?_ (.next _))
    split <;> exact .next _

theorem execColdLookupDone_answers (n : Fin 4) (slot : Nat) (s : State) : Answers (execColdLookupDone n slot s) := by
  dsimp only [execColdLookupDone]
  split
  · exact .next _
  · refine .ite (.next _) ?_
    split
    · exact .next _
    · refine .ite (.next _) (.ite (.next _) ?_)
      split <;> exact .next _

theorem execRxqPublish_answers (n : Fin 4) (s : State) : Answers (execRxqPublish n s) := by
  dsimp only [execRxqPublish]
  split
  · exact .next _
  · split
    · exact .next _
    · exact .ite (.next _) (.next _)

theorem execFusePurge_answers (s : State) : Answers (execFusePurge s) := by
  dsimp only [execFusePurge]
  split
  · exact .next _
  · split <;> exact .next _

theorem execDramRequest_answers (c : Fin 2) (arrived : List DramReq) (s : State) :
    Answers (execDramRequest c arrived s) := by
  dsimp only [execDramRequest]
  refine .ite (.next _) (.ite (.next _) ?_)
  split <;> exact .next _

theorem execDramRetrainPause_answers (eye : Option Nat) (temp0 temp1 : Int) (s : State) :
    Answers (execDramRetrainPause eye temp0 temp1 s) := by
  dsimp only [execDramRetrainPause]
  refine .ite (.next _) ?_
  split
  · exact .next _
  · exact .ite (.next _) (.ite (.next _) (.next _))

theorem execSpfRun_answers (s : State) : Answers (execSpfRun s) := by
  dsimp only [execSpfRun]
  refine .ite (.next _) ?_
  split
  · exact .next _
  · exact .ite (.next _) (.next _)

theorem execParentSwitch_answers (s : State) : Answers (execParentSwitch s) := by
  dsimp only [execParentSwitch]
  split
  · exact .next _
  · refine .ite (.ite (.next _) (.next _)) (.ite (.next _) ?_)
    split
    · exact .ite (.next _) (.next _)
    · exact .next _

theorem execTimeReqSend_answers (p : Fin 2) (s : State) : Answers (execTimeReqSend p s) := by
  dsimp only [execTimeReqSend]
  refine .ite ?_ (.next _)
  split <;> exact .next _

theorem execTimeRspRx_answers (p : Fin 2) (s : State) : Answers (execTimeRspRx p s) := by
  dsimp only [execTimeRspRx]
  split
  · exact .next _
  · split
    · exact .next _
    · exact .ite (.next _) (.next _)

theorem execBeaconTimeMeasure_answers (n : Fin 4) (i : Nat) (s : State) : Answers (execBeaconTimeMeasure n i s) := by
  dsimp only [execBeaconTimeMeasure]
  split
  · exact .next _
  · refine .ite (.next _) ?_
    split
    · exact .next _
    · exact .ite (.next _) (.next _)

theorem execTagfwdSend_answers (n : Fin 4) (i : Nat) (s : State) : Answers (execTagfwdSend n i s) := by
  dsimp only [execTagfwdSend]
  refine .ite (.next _) ?_
  split
  · exact .ite (.next _) (.ite (.next _) (.next _))
  · exact .ite (.next _) (.next _)
  · exact .ite (.next _) (.ite (.next _) (.next _))
  · exact .next _

theorem execHomeDecide_answers (tag fcnt : Nat) (s : State) : Answers (execHomeDecide tag fcnt s) := by
  dsimp only [execHomeDecide]
  split
  · exact .next _
  · split
    · exact .next _
    · exact .ite (.next _) (.ite (.next _) (.next _))

theorem execBskDownRx_answers (page : Bool) (i : Nat) (s : State) : Answers (execBskDownRx page i s) := by
  dsimp only [execBskDownRx]
  refine .ite (.next _) (.ite (.ite (.next _) (.next _)) (.ite (.next _) (.ite ?_ (.next _))))
  split <;> exact .next _

theorem execBskDownTx_answers (req fcnt : Nat) (s : State) : Answers (execBskDownTx req fcnt s) := by
  dsimp only [execBskDownTx]
  split
  · exact .next _
  · split
    · exact .next _
    · exact .ite (.next _) (.next _)

theorem execNeighborSolicitationRx_answers (p : Fin 2) (s : State) : Answers (execNeighborSolicitationRx p s) := by
  dsimp only [execNeighborSolicitationRx]
  split
  · exact .next _
  · refine .ite (.next _) (.ite (.next _) ?_)
    split
    · exact .ite (.next _) (.next _)
    · exact .next _

theorem execEchoRequestRx_answers (p : Fin 2) (s : State) : Answers (execEchoRequestRx p s) := by
  dsimp only [execEchoRequestRx]
  split
  · exact .next _
  · refine .ite (.next _) ?_
    split <;> exact .next _

theorem execRollStep_answers (soft : Bool) (s : State) : Answers (execRollStep soft s) := by
  dsimp only [execRollStep]
  split
  · exact .next _
  · refine .ite (.next _) (.ite ?_ ?_)
    · split
      · exact .ite (.next _) (.next _)
      · exact .ite (.next _) (.ite (.next _) (.next _))
    · split
      · exact .next _
      · exact .ite (.next _) (.next _)

theorem execPieceReqSend_answers (s : State) : Answers (execPieceReqSend s) := by
  dsimp only [execPieceReqSend]
  split
  · exact .next _
  · refine .ite ?_ (.next _)
    split <;> exact .next _

theorem execTagPieceSend_answers (tag k : Nat) (s : State) : Answers (execTagPieceSend tag k s) := by
  dsimp only [execTagPieceSend]
  split
  · exact .next _
  · split
    · exact .next _
    · split <;> exact .next _

theorem execRegisterWrite_answers (who : Writer) (k v : Nat) (b : Bytes) (s : State) :
    Answers (execRegisterWrite who k v b s) := by
  dsimp only [execRegisterWrite]
  split
  · exact .next _
  · exact .ite (.next _) (.ite (.next _) (.next _))
  · exact .ite (.next _) (.next _)

/-! ## Every meaning -/

/-- Every command, in any state, answers a next state; the cases stand by the shape of the meanings. -/
theorem exec_answers (c : Instr) (s : State) : Answers (exec c s) := by
  cases c with
  -- One test, or several nested: a meaning acts under its conditions and else leaves the state.
  | shellReady | drbgReseed | rngRecover | jobRecovery | captureAtExpiry | captureDone | captureOverrun | gainWindowEnd
  | preambleDetected | aerialDecision | syncTimeout | synthSettleDone | unlock | probe | tunerSearch | fabricDatagramRx
  | peerLost | helloSend | conflictWaitEnd | addrClaimWaitEnd | alarmSourceDetect | debugUnlockEnd | dramInit | dramReady
  | dramRefresh | dramFenceCheck | backgroundErase | backgroundEraseDone | flashReadSuspend | flashResume | lsaOriginate
  | lsdbRecordExpire | referenceTake | questionReflood | questionOpenAt | questionCloseAt | questionFinal | handoverTimeout
  | cueRx | homeRx | bskUpRx | dnAckRx | counterSourceEvent | counterCapture | panelDebounceExpiry | panelHoldExpiry
  | touchScanStart | touchFault | linkUp | hspiWrite | hspiDbgWrite | buckStart | buckRestart | powerUpSequence | pgGood
  | powerFail | railFault | thermalShutdown | sccp | wakeSource | dozeWake | hibernateWake | xo32kStart | compassSurvey
  | recStatus | pieceRx | sessionIdleTimeout | sessionOpenTimeout | lit16 | notify | baseFirmwareStart | slotBoundary
  | fallbackStall =>
    exact .ite (.next _) (.next _)
  | gainStepDown | dramPanic | lsdbUpdate | handoverRx | rollupSend | rollupRx | bskStatusSend | hspiStatus | hspiRead
  | hspiDbgRead | gpioEdge | gpioTimedDrive | pinReset | healthDeadline | tickBoundary =>
    exact .ite (.next _) (.ite (.next _) (.next _))
  | synthSettleTimeout | synthCalDone | drainDone | touchMeasurementDone | vcoreLowerStep | marginGuard | romBoot | recWrite
  | recDone =>
    exact .ite (.ite (.next _) (.next _)) (.next _)
  | claimRx | questionRx | rosterRx =>
    exact .ite (.next _) (.ite (.next _) (.ite (.next _) (.next _)))
  | scrubRead =>
    exact .ite (.next _) (.ite (.ite (.next _) (.next _)) (.ite (.next _) (.next _)))
  | rosterCheck =>
    exact .ite (.ite (.ite (.next _) (.ite (.next _) (.ite (.next _) (.next _)))) (.next _)) (.next _)
  | tagfwdRx =>
    exact .ite (.next _) (.ite (.next _) (.ite (.next _) (.ite (.next _) (.next _))))
  | ethFrameRx | updateActivate =>
    exact .ite (.next _) (.ite (.next _) (.ite (.ite (.next _) (.next _)) (.next _)))
  | bundleComplete =>
    exact .ite (.ite (.ite (.next _) (.next _)) (.next _)) (.next _)
  | healthCheck =>
    exact .ite (.ite (.next _) (.ite (.next _) (.next _))) (.next _)
  -- One match, such as on the entry that waits or the message taken, with tests in its arms.
  | measExtend | frameLastSample | mapperBlockAdmit | txEnd | blankingEnd | floodJitterEnd | jobFlood | helloRx
  | unicastWiredSend | jobSend | micVerifyDone | alarmLatch | timeReqRx | timeExchangeMiss | hcReport | buckStop
  | railFaultRestart | thermalRestart | pstate | dozeEntry | hibernateEntry | catalogReflood | pieceSeed | pieceReqRx =>
    dsimp only [exec, execMeasExtend, execFrameLastSample, execMapperBlockAdmit, execTxEnd, execBlankingEnd,
      execFloodJitterEnd, execJobFlood, execHelloRx, execUnicastWiredSend, execJobSend, execMicVerifyDone, execAlarmLatch,
      execTimeReqRx, execTimeExchangeMiss, execHcReport, execBuckStop, execRailFaultRestart, execThermalRestart, execPstate,
      execDozeEntry, execHibernateEntry, execCatalogReflood, execPieceSeed, execPieceReqRx]
    split
    · exact .next _
    · exact .ite (.next _) (.next _)
  | jobDeadline | snapshotPublish | gridOutputsValid | aerialSwitchSettled | txPaOff | uplinkWindowClose | ackVerdictCutoff
  | floodWiredSend | conflictOriginate | jobStart | seqJudge | cipherSchedBlock | keyBusClose | slotZeroise
  | debugChallenge | rhVictimRefresh | dramFenced | radioNeighbourUpdate | timeRspSend | fabTimeSet | homeLapse
  | bskDnExpire | vcoreRampDone | handlerTimeout | wideWriteHigh | shellCmd =>
    dsimp only [exec, execJobDeadline, execSnapshotPublish, execGridOutputsValid, execAerialSwitchSettled, execTxPaOff,
      execUplinkWindowClose, execAckVerdictCutoff, execFloodWiredSend, execConflictOriginate, execJobStart, execSeqJudge,
      execCipherSchedBlock, execKeyBusClose, execSlotZeroise, execDebugChallenge, execRhVictimRefresh, execDramFenced,
      execRadioNeighbourUpdate, execTimeRspSend, execFabTimeSet, execHomeLapse, execBskDnExpire, execVcoreRampDone,
      execHandlerTimeout, execWideWriteHigh, execShellCmd]
    split <;> exact .next _
  | gainForcedUp | calForced | txStartDeadline | flashMappingRecord | rosterAdopt =>
    dsimp only [exec, execGainForcedUp, execCalForced, execTxStartDeadline, execFlashMappingRecord, execRosterAdopt]
    split
    · exact .next _
    · exact .ite (.next _) (.ite (.next _) (.next _))
  | ccaAssess | flashPageProgram | cueFire =>
    dsimp only [exec, execCcaAssess, execFlashPageProgram, execCueFire]
    split
    · exact .next _
    · exact .ite (.next _) (.ite (.next _) (.ite (.next _) (.next _)))
  | missCounterClear =>
    dsimp only [exec, execMissCounterClear]
    split <;> exact .ite (.next _) (.next _)
  | wideReadLowLatch | wideWriteLow | stageWrite =>
    dsimp only [exec, execWideReadLowLatch, execWideWriteLow, execStageWrite]
    split
    · exact .ite (.next _) (.next _)
    · exact .next _
  -- A match inside the branches: the lemmas above.
  | qualifier n k h => exact execQualifier_answers n k h s
  | txRampStart n => exact execTxRampStart_answers n s
  | mapResolve n k addr check => exact execMapResolve_answers n k addr check s
  | reportMapInstall addr map => exact execReportMapInstall_answers addr map s
  | mapCompute n addr q => exact execMapCompute_answers n addr q s
  | commitDeadline n => exact execCommitDeadline_answers n s
  | entryPrepare n => exact execEntryPrepare_answers n s
  | floodTake => exact execFloodTake_answers s
  | addrListenEnd => exact execAddrListenEnd_answers s
  | unicastTake => exact execUnicastTake_answers s
  | coldLookupDone n slot => exact execColdLookupDone_answers n slot s
  | rxqPublish n => exact execRxqPublish_answers n s
  | fusePurge => exact execFusePurge_answers s
  | dramRequest c arrived => exact execDramRequest_answers c arrived s
  | dramRetrainPause eye temp0 temp1 => exact execDramRetrainPause_answers eye temp0 temp1 s
  | spfRun => exact execSpfRun_answers s
  | parentSwitch => exact execParentSwitch_answers s
  | timeReqSend p => exact execTimeReqSend_answers p s
  | timeRspRx p => exact execTimeRspRx_answers p s
  | beaconTimeMeasure n i => exact execBeaconTimeMeasure_answers n i s
  | tagfwdSend n i => exact execTagfwdSend_answers n i s
  | homeDecide tag fcnt => exact execHomeDecide_answers tag fcnt s
  | bskDownRx page i => exact execBskDownRx_answers page i s
  | bskDownTx req fcnt => exact execBskDownTx_answers req fcnt s
  | neighborSolicitationRx p => exact execNeighborSolicitationRx_answers p s
  | echoRequestRx p => exact execEchoRequestRx_answers p s
  | rollStep soft => exact execRollStep_answers soft s
  | pieceReqSend => exact execPieceReqSend_answers s
  | tagPieceSend tag k => exact execTagPieceSend_answers tag k s
  | registerWrite who k v b => exact execRegisterWrite_answers who k v b s
  -- The rest answer without a test.
  | _ => exact .next _

/-! ## The obligations -/

/-- Settles O52: the command at the front decides the branch of `step`. -/
theorem stepTakesTheFrontCommand : Obligations.StepTakesTheFrontCommand := by
  intro c s rest hfront
  simp only [step, hfront]

/-- Settles O60, by cases on the command: no branch of its meaning ends in a fault or a refusal. -/
theorem everyCommandAnswersANextState : Obligations.EveryCommandAnswersANextState :=
  exec_answers

end Sys2Proof.Machine

/-! O2, O3, O5, O31, O53 and O57: Turath time and its TT64 spelling, the two-word access to 64-bit objects, and the commands
of counters, panels and synthesizers. -/
namespace Sys2Proof.Machine

/-! ## TT64 (R26, R27) -/

theorem fld_lt (v hi lo : Nat) : fld v hi lo < 2 ^ (hi + 1 - lo) := Nat.mod_lt _ (Nat.two_pow_pos _)

/-- The number that the TT64 fields of v spell, each at the radix of its bits. -/
def ttBits (v : Nat) : Nat :=
  (((fld v 63 32 * 2 ^ 6 + fld v 31 26) * 2 ^ 7 + fld v 25 19) * 2 ^ 3 + fld v 18 16) * 2 ^ 16 + fld v 15 0

/-- A 64-bit number is the one that its fields spell. -/
theorem ttBits_eq {v : Nat} (h : v < 2 ^ 64) : ttBits v = v := by
  simp only [ttBits, fld]
  omega

/-- Two numbers with digits below a radix compare as the pairs of what stands above the digit and the digit. -/
theorem radix_lt_iff {r x y d e : Nat} (hd : d < r) (he : e < r) : x * r + d < y * r + e ↔ x < y ∨ x = y ∧ d < e := by
  rcases Nat.lt_trichotomy x y with h | rfl | h
  · have hle : (x + 1) * r ≤ y * r := Nat.mul_le_mul_right r h
    rw [Nat.add_one_mul] at hle
    omega
  · omega
  · have hle : (y + 1) * r ≤ x * r := Nat.mul_le_mul_right r h
    rw [Nat.add_one_mul] at hle
    omega

theorem radix_eq_iff {r x y d e : Nat} (hd : d < r) (he : e < r) : x * r + d = y * r + e ↔ x = y ∧ d = e := by
  have hlt := radix_lt_iff (x := x) (y := y) hd he
  have hgt := radix_lt_iff (x := y) (y := x) he hd
  omega

/-- The ranges of the fields of a well-formed TT64 value. -/
theorem ttValid_ranges {v : Nat} (h : ttValid v = true) :
    v < 2 ^ 64 ∧ fld v 31 26 < 60 ∧ fld v 25 19 < 100 ∧ fld v 18 16 < 8 ∧ fld v 15 0 < 48000 := by
  simp only [ttValid, Bool.and_eq_true, decide_eq_true_eq] at h
  have := fld_lt v 18 16
  omega

/-- Spelled with the radices of the bit fields or with those of the levels of R23, the same digits compare alike. -/
theorem ttValid_lt_iff {v w : Nat} (hv : ttValid v = true) (hw : ttValid w = true) : v < w ↔ linear v < linear w := by
  obtain ⟨hv64, hvsf, hvfr, hvsl, hvmt⟩ := ttValid_ranges hv
  obtain ⟨hw64, hwsf, hwfr, hwsl, hwmt⟩ := ttValid_ranges hw
  have hbits : v < w ↔ ttBits v < ttBits w := by rw [ttBits_eq hv64, ttBits_eq hw64]
  rw [hbits]
  simp (disch := omega) only [ttBits, linear, radix_lt_iff, radix_eq_iff]

/-- The fields of a number put together from values that fit them. -/
theorem fld_spelled {e sf fr sl mt : Nat} (hsf : sf < 64) (hfr : fr < 128) (hsl : sl < 8) (hmt : mt < 65536) (he : e < 2 ^ 32) :
    let v := e * 2 ^ 32 + sf * 2 ^ 26 + fr * 2 ^ 19 + sl * 2 ^ 16 + mt
    fld v 63 32 = e ∧ fld v 31 26 = sf ∧ fld v 25 19 = fr ∧ fld v 18 16 = sl ∧ fld v 15 0 = mt := by
  simp only [fld]
  omega

/-- The fields of the TT64 value of an instant count its levels. -/
theorem fld_tt64 (t : Nat) :
    fld (tt64 t) 63 32 = t / epochT % 2 ^ 32 ∧ fld (tt64 t) 31 26 = t / superT % 60 ∧
      fld (tt64 t) 25 19 = t / frameT % 100 ∧ fld (tt64 t) 18 16 = t / slotT % 8 ∧ fld (tt64 t) 15 0 = t % slotT :=
  fld_spelled (by omega) (by omega) (by omega) (by simp only [slotT]; omega) (by omega)

theorem tt64_lt (t : Nat) : tt64 t < 2 ^ 64 := by
  simp only [tt64, epochT, superT, frameT, slotT]
  omega

theorem ttValid_tt64 (t : Nat) : ttValid (tt64 t) = true := by
  obtain ⟨-, hsf, hfr, -, hmt⟩ := fld_tt64 t
  have := tt64_lt t
  simp only [ttValid, hsf, hfr, hmt, slotT, Bool.and_eq_true, decide_eq_true_eq]
  omega

theorem linear_tt64 {t : Nat} (h : t < ttRange) : linear (tt64 t) = t := by
  obtain ⟨he, hsf, hfr, hsl, hmt⟩ := fld_tt64 t
  simp only [linear, he, hsf, hfr, hsl, hmt, ttRange, epochT, superT, frameT, slotT, Instant] at h ⊢
  omega

/-! ## Words of 64-bit objects in the window (R28) -/

/-- The window address of an object leads back to it. -/
theorem winKey_windowAddr {k : Nat} (h : k / 256 < 65536) : winKey (windowAddr k) = k := by
  simp only [winKey, windowAddr, okey, Key]
  omega

/-- The word after that of an object is that of the next subindex. -/
theorem winKey_windowAddr_high {k : Nat} (h : k / 256 < 65536) (hsub : k % 256 < 255) :
    winKey (windowAddr k + 4) = k + 1 := by
  simp only [winKey, windowAddr, okey, Key]
  omega

section
variable {k : Nat} {x : ObjRow} {p : Nat × Nat}

theorem winAt_word (hfw : firmwareBacked k = false) (hrow : objFind k = some (x, p)) (h : k / 256 < 65536) :
    winAt (windowAddr k) = .word k x := by
  simp only [winAt, winKey_windowAddr h, hfw, hrow, Bool.false_eq_true, if_false]

/-- The word after a 64-bit object is its high word. -/
theorem winAt_high (hrow : objFind k = some (x, p)) (hwide : x.ty.wide = true) (hnone : objFind (k + 1) = none)
    (hfw : firmwareBacked (k + 1) = false) (hsub : k % 256 < 255) (h : k / 256 < 65536) :
    winAt (windowAddr k + 4) = .high k x := by
  have hne : (k + 1) % 256 ≠ 0 := by omega
  simp only [winAt, winKey_windowAddr_high h hsub, hfw, hnone, hne, Nat.add_sub_cancel, hrow, hwide, Bool.false_eq_true,
    if_false, if_true]

variable (s : State) (who : Fin 8)

/-- A read of the low word of a 64-bit object latches its high half. -/
theorem State.wordOf_wide {t : State} {w : Writer} {v : Nat} (hwide : x.ty.wide = true) (hblob : x.ty.blob = false)
    (hacc : x.acc ≠ .wo) (hengine : k / 256 ≠ 0x101) (hread : s.readNum w k = (t, v)) :
    s.wordOf w k x = (t.rLatch k (some (v / 2 ^ 32)), v % 2 ^ 32) := by
  simp only [State.wordOf, hacc, hengine, hblob, hread, hwide, Bool.false_eq_true, if_false, if_true]

theorem State.winRead_word {w : Writer} {a : Nat} (hword : winAt a = .word k x) (hshell : k / 256 ≠ 0x1804) :
    s.winRead w a 4 = .ok ((s.wordOf w k x).1, (s.wordOf w k x).2 % 2 ^ 32) := by
  simp only [State.winRead, hword, hshell, Nat.lt_irrefl, decide_false, Bool.false_and, Bool.false_eq_true, if_false,
    Nat.reduceMul]

/-- A write of the low word of a 64-bit object is held. -/
theorem State.winWrite_low {rom : Bool} {a v : Nat} (hword : winAt a = .word k x) (hshell : k / 256 ≠ 0x1804)
    (hwide : x.ty.wide = true) (hblob : x.ty.blob = false) (hro : x.acc ≠ .ro) (hconst : x.acc ≠ .const) :
    s.winWrite who rom a 4 v = .ok (s.wLatch k (some v)) := by
  simp only [State.winWrite, hword, hshell, hro, hconst, hblob, hwide, Nat.lt_irrefl, decide_false,
    Bool.false_and, Bool.or_self, Bool.false_eq_true, if_false, if_true]

/-- A write of the high word joins it with the low word that is held, and writes the object whole. -/
theorem State.winWrite_high {rom : Bool} {a v lo : Nat} (hword : winAt a = .high k x) (hshell : k / 256 ≠ 0x1804)
    (hro : x.acc ≠ .ro) (hconst : x.acc ≠ .const) (hheld : latchOf s.time.writeLatch k = some lo) :
    s.winWrite who rom a 4 v = .ok ((s.wLatch k none).corePut who rom 8 k (.num (lo + 2 ^ 32 * v))) := by
  simp only [State.winWrite, hword, hshell, hro, hconst, hheld, Nat.lt_irrefl, decide_false, Bool.false_and,
    Bool.or_self, Bool.false_eq_true, if_false]

theorem execWideReadLowLatch_wide {t : State} {v : Nat}
    (hobj : objIs k (fun x => x.ty.wide && !x.ty.blob && x.acc != .wo) = true) (hengine : k / 256 ≠ 0x101)
    (hread : s.readNum (.core who) k = (t, v)) (h : k / 256 < 65536) :
    execWideReadLowLatch who k s = .next { t.rLatch k (some (v / 2 ^ 32)) with rdata := v % 2 ^ 32 } := by
  obtain ⟨hfw, hshell, x, p, hrow, hx⟩ := objIs_row hobj
  simp only [Bool.and_eq_true, Bool.not_eq_true', bne_iff_ne] at hx
  obtain ⟨⟨hwide, hblob⟩, hacc⟩ := hx
  have hword := winAt_word hfw hrow h
  have hwin := s.winRead_word (w := .core who) hword hshell
  rw [s.wordOf_wide hwide hblob hacc hengine hread] at hwin
  simp only [execWideReadLowLatch, hword, hwin, hwide, if_true, Nat.mod_mod]

theorem execWideWriteLow_wide {v : Nat}
    (hobj : objIs k (fun x => x.ty.wide && !x.ty.blob && x.acc != .ro && x.acc != .const) = true)
    (h : k / 256 < 65536) :
    execWideWriteLow who k v s = .next (s.wLatch k (some (v % 2 ^ 32))) := by
  obtain ⟨hfw, hshell, x, p, hrow, hx⟩ := objIs_row hobj
  simp only [Bool.and_eq_true, Bool.not_eq_true', bne_iff_ne] at hx
  obtain ⟨⟨⟨hwide, hblob⟩, hro⟩, hconst⟩ := hx
  have hword := winAt_word hfw hrow h
  simp only [execWideWriteLow, hword, s.winWrite_low who hword hshell hwide hblob hro hconst, hwide, if_true]

theorem execWideWriteHigh_held {v lo : Nat} (hobj : objIs k (fun x => x.ty.wide && x.acc != .ro && x.acc != .const) = true)
    (hnone : objFind (k + 1) = none) (hfw : firmwareBacked (k + 1) = false) (hsub : k % 256 < 255)
    (hheld : latchOf s.time.writeLatch k = some lo) (h : k / 256 < 65536) :
    execWideWriteHigh who k v s =
      .next ((s.wLatch k none).corePut who false 8 k (.num (lo + 2 ^ 32 * (v % 2 ^ 32)))) := by
  obtain ⟨-, hshell, x, p, hrow, hx⟩ := objIs_row hobj
  simp only [Bool.and_eq_true, bne_iff_ne] at hx
  obtain ⟨⟨hwide, hro⟩, hconst⟩ := hx
  have hword := winAt_high hrow hwide hnone hfw hsub h
  simp only [execWideWriteHigh, hword, s.winWrite_high who hword hshell hro hconst hheld]

end

/-! ## Counters that a panel owns (R55) -/

section
variable (s : State)

/-- The guard of a counter drops the write when a panel owns it. -/
theorem State.tcGuard_owned {n : Fin 16} (hown : s.tcOwned n = true) (who : Fin 8) (k v : Nat) (f : State → State) :
    s.tcGuard who n k v f = s.dropped (windowAddr k) v who 4 := by
  simp only [State.tcGuard, hown, if_true]

/-! ## Miss counters (R37) -/

theorem State.missClear_zero (who : Fin 8) (k : Key) : s.missClear who k 0 = s.setO k 0 := by
  simp only [State.missClear, if_true]

/-- A miss counter takes no value but 0. -/
theorem State.missClear_refused {v : Nat} (hv : v ≠ 0) (who : Fin 8) (k : Key) :
    s.missClear who k v = s.dropped (windowAddr k) v who 3 := by
  simp only [State.missClear, hv, if_false]

theorem execMissCounterClear_class {cls : Nat} (hlo : 1 ≤ cls) (hhi : cls ≤ 12) (who : Fin 8) (v : Nat) :
    execMissCounterClear who none cls v s = .next (s.missClear who (Obj.TMB_MISS cls) v) := by
  simp only [execMissCounterClear, hlo, hhi, and_self, if_true]

theorem execMissCounterClear_slice {cls : Nat} (hlo : 1 ≤ cls) (hhi : cls ≤ 4) (who : Fin 8) (n : Fin 4) (v : Nat) :
    execMissCounterClear who (some n) cls v s = .next (s.missClear who (sliceMissKey n cls) v) := by
  simp only [execMissCounterClear, hlo, hhi, and_self, if_true]

/-! ## Panel inputs (R53) -/

variable {k : Fin 4}

/-- A level that has stood for the debounce time against the debounced state becomes that state. -/
theorem exec_panelDebounceExpiry_change {low : Bool} {since : Nat} (hmode : s.o (Obj.TMB_PNLk_MODE k) = 1)
    (hclk : s.power.xo32k = true) (hstate : bitOf (s.o (Obj.TMB_PNLk_STATE k)) 0 = !low) :
    let t := s.slpTo (max since s.time.panels[k].changedAt + s.o (Obj.TMB_PNLk_DEBOUNCE k) * 38400)
    exec (.panelDebounceExpiry ⟨k, low, since⟩) s = .next (if low then t.panelPress k else t.panelRelease k) := by
  change execPanelDebounceExpiry _ s = _
  cases low <;>
    simp only [execPanelDebounceExpiry, hmode, hclk, hstate, decide_true, Bool.not_false, Bool.not_true, Bool.bne_true,
      Bool.bne_false, Bool.and_self, Bool.false_eq_true, if_true, if_false]

/-- A level that is the debounced state changes nothing. -/
theorem execPanelDebounceExpiry_same (since : Nat) :
    execPanelDebounceExpiry ⟨k, bitOf (s.o (Obj.TMB_PNLk_STATE k)) 0, since⟩ s = .next s := by
  simp only [execPanelDebounceExpiry, bne_self_eq_false, Bool.and_false, Bool.false_eq_true, if_false]

theorem execPanelHoldExpiry_pressed (hmode : s.o (Obj.TMB_PNLk_MODE k) = 1) (hhold : s.o (Obj.TMB_PNLk_HOLD k) ≠ 0)
    (hpressed : bitOf (s.o (Obj.TMB_PNLk_STATE k)) 0 = true) (hheld : bitOf (s.o (Obj.TMB_PNLk_STATE k)) 1 = false) :
    execPanelHoldExpiry k s =
      .next (((s.slpTo (s.time.panels[k].pressedAt + s.o (Obj.TMB_PNLk_HOLD k) * 38400)).panelBit k 1 true).panelEvent
        k 0x106) := by
  simp only [execPanelHoldExpiry, hmode, hpressed, hheld, bne_iff_ne.mpr hhold, decide_true, Bool.not_false, Bool.and_self,
    if_true]

/-! ## Touch inputs (R54, R56) -/

variable (hmode : s.o (Obj.TMB_PNLk_MODE k) = 2) (hpwr : s.pwr ≤ 3)
include hmode hpwr

theorem execTouchScanStart_idle (hidle : s.time.panels[k].measuring = false) {u : State}
    (hu : u = if s.time.panels[k].scanned then s.upTo (s.time.panels[k].startedAt + s.o (Obj.TMB_PNLk_SCAN k) * 38400)
      else s) :
    execTouchScanStart k s =
      .next ((u.setO (Obj.TMB_TCn_COUNT (12 + k)) 0).modPanel k (fun p => { p with
        measuring := true, startedAt := u.now, scanned := true })) := by
  subst hu
  simp only [execTouchScanStart, hmode, hidle, hpwr, decide_true, Bool.not_false, Bool.and_self, if_true]

/-- The first measurement of an input sets its baseline. -/
theorem execTouchMeasurementDone_first (cap : Nat) (hmeas : s.time.panels[k].measuring = true)
    (hfirst : s.time.panels[k].first = true) :
    execTouchMeasurementDone k cap s =
      .next ((((State.tcCapture 16 (touchTc k) ((s.upTo (s.time.panels[k].startedAt + s.touchMeas k cap)).setO
        (Obj.TMB_TCn_COUNT (12 + k)) (s.touchMeas k cap))).setO (Obj.TMB_PNLk_MEAS k) (s.touchMeas k cap)).panelBit k 2
        false).setO (Obj.TMB_PNLk_BASE k) (s.touchMeas k cap) |>.modPanel k
          (fun p => { p with measuring := false, first := false, streak := 0 })) := by
  simp only [execTouchMeasurementDone, hmode, hmeas, hfirst, hpwr, decide_true, Bool.and_self, if_true]

/-- A fault ends the measurement; an input that was touched is released first. -/
theorem exec_touchFault_measuring {touched : Bool} (hmeas : s.time.panels[k].measuring = true)
    (hstate : bitOf (s.o (Obj.TMB_PNLk_STATE k)) 0 = touched) :
    let u := (s.upTo (s.time.panels[k].startedAt + s.o (Obj.TMB_PNLk_SCAN k) * 38400)).modPanel k
      (fun p => { p with measuring := false, streak := 0 })
    exec (.touchFault k) s =
      .next (((if touched then u.panelRelease k else u).panelBit k 2 true).panelEvent k 0x107) := by
  change execTouchFault k s = _
  cases touched <;>
    simp only [execTouchFault, hmode, hmeas, hpwr, hstate, decide_true, Bool.and_self, Bool.false_eq_true, if_true, if_false,
      State.upTo_o]

end

/-! ## Calibration requests (R61, R62) -/

/-- A bit reads as it was set. -/
theorem bitOf_setBit (v b : Nat) (x : Bool) : bitOf (setBit v b x) b = x := by
  by_cases h : bitOf v b = x
  · rw [setBit, h, beq_self_eq_true, if_pos rfl, h]
  · have hne : (bitOf v b == x) = false := beq_false_of_ne h
    rw [setBit, hne, if_neg Bool.false_ne_true]
    cases x with
    | true =>
      have hclear : v / 2 ^ b % 2 ≠ 1 := fun hset => h (beq_of_eq hset)
      have hadd : (v + 2 ^ b) / 2 ^ b % 2 = 1 := by
        rw [Nat.add_div_right v (Nat.two_pow_pos b)]
        omega
      rw [if_pos rfl, bitOf, hadd, beq_self_eq_true]
    | false =>
      have hset : v / 2 ^ b % 2 = 1 := eq_of_beq (Bool.of_not_eq_false h)
      have hsub : (v - 2 ^ b) / 2 ^ b % 2 = 0 := by
        have hdiv := Nat.sub_mul_div v (2 ^ b) 1
        rw [Nat.mul_one] at hdiv
        omega
      rw [if_neg Bool.false_ne_true, bitOf, hsub]
      rfl

section
variable (s : State) (n : Fin 4)

/-- A calibration request sets its pending bit and no other object, whatever state the synthesizer is in. -/
theorem State.calRequest_o (b : Nat) (j : Key) :
    (s.calRequest n b).o j =
      if j = Obj.SLCn_CAL_PENDING n then setBit (s.o (Obj.SLCn_CAL_PENDING n)) b true else s.o j := by
  unfold State.calRequest
  dsimp only
  split <;> simp only [State.modSlice_o, State.setO_o]

theorem State.calRequest_mem (b : Nat) : (s.calRequest n b).mem = s.mem := by
  unfold State.calRequest
  dsimp only
  split <;> simp only [State.modSlice_mem, State.setO_mem]

/-! ## The synthesizer's outcomes (R24, R60-R65) -/

theorem execSynthSettleDone_settling (hsettle : s.syn n = 2) :
    execSynthSettleDone n s =
      .next ((((s.upTo s.slices[n].readyAt).modSlice n (fun x => { x with retries := 0 })).setSyn n 3).release n) := by
  simp only [execSynthSettleDone, hsettle, if_true]

theorem execSynthSettleTimeout_retry (hsettle : s.syn n = 2) (hretries : s.slices[n].retries < 2) :
    execSynthSettleTimeout n s = .next (((s.upTo s.slices[n].readyAt).modSlice n
      (fun x => { x with retries := x.retries + 1 })).beginSettle n s.slices[n].settle) := by
  simp only [execSynthSettleTimeout, hsettle, State.upTo_slices, Nat.not_le.mpr hretries, if_true, if_false]

theorem execSynthSettleTimeout_calibrate (hsettle : s.syn n = 2) (hretries : 2 ≤ s.slices[n].retries) :
    execSynthSettleTimeout n s = .next ((((s.upTo s.slices[n].readyAt).modSlice n
      (fun x => { x with retries := 0 })).beginCal n).synEvent n 0x110) := by
  simp only [execSynthSettleTimeout, hsettle, State.upTo_slices, hretries, if_true]

/-- The state at the end of a calibration that locks, before the synthesizer enters LOCK (R61, R62): the requests it covered
are gone, those raised meanwhile stay, and its temperature and instant are kept. -/
def State.calibrated (s : State) (n : Fin 4) : State :=
  let u := s.upTo s.slices[n].readyAt
  let x := s.slices[n]
  let u := u.setO (Obj.SLCn_CAL_PENDING n) (natOr x.raised (natAnd (s.o (Obj.SLCn_CAL_PENDING n)) (0xF - x.covers % 16)))
  let u := u.modSlice n (fun x => { x with oldest := x.oldestNew, covers := 0, raised := 0, oldestNew := none })
  (u.setO (Obj.SLCn_CAL_TEMP n) (s.o (Obj.SLCn_TEMP n))).setO (Obj.SLCn_CAL_AT n) (tt64 (max s.now s.slices[n].readyAt))

theorem State.calibrated_o (j : Key) : (s.calibrated n).o j =
    if j = Obj.SLCn_CAL_AT n then tt64 (max s.now s.slices[n].readyAt)
    else if j = Obj.SLCn_CAL_TEMP n then s.o (Obj.SLCn_TEMP n)
    else if j = Obj.SLCn_CAL_PENDING n then
      natOr s.slices[n].raised (natAnd (s.o (Obj.SLCn_CAL_PENDING n)) (0xF - s.slices[n].covers % 16))
    else s.o j := by
  simp only [State.calibrated, State.setO_o, State.modSlice_o, State.upTo_o]

theorem execSynthCalDone_lock (hcal : s.syn n = 1) (hfirst : s.slices[n].calAgain = false) :
    execSynthCalDone n true s = .next (((s.calibrated n).setSyn n 3).release n) := by
  have hkey : Obj.SLCn_TEMP n ≠ Obj.SLCn_CAL_PENDING n := by
    simp only [Obj.SLCn_TEMP, Obj.SLCn_CAL_PENDING, okey, Key]
    omega
  simp only [execSynthCalDone, hcal, hfirst, decide_true, Bool.not_false, Bool.and_self, if_true, State.calibrated,
    State.upTo_slices, State.upTo_o, State.upTo_now, State.setO_now, State.setO_o, State.modSlice_now, State.modSlice_o,
    hkey, if_false]

theorem execSynthCalDone_fail (hcal : s.syn n = 1) (hfirst : s.slices[n].calAgain = false) :
    execSynthCalDone n false s = .next
      (((s.upTo s.slices[n].readyAt).modSlice n (fun x => { x with calAgain := true })).synEvent n 0x110) := by
  simp only [execSynthCalDone, hcal, hfirst, decide_true, Bool.not_false, Bool.and_self, Bool.false_eq_true, if_true,
    if_false]

theorem execCalForced_due {u : State} {t : Nat} (holdest : s.slices[n].oldest = some t) (hsyn : 2 ≤ s.syn n)
    (hu : u = s.upTo (boundaryAt slotT (max s.now (t + superT)))) (hair : u.onAir n = false) :
    execCalForced n s = .next
      (((((u.beginCal n).loseSlot n (slotStart u.now)).missSlice n 4 (t + superT)).inc (Obj.SLCn_CAL_FORCED n)).synEvent
        n 0x111) := by
  subst hu
  simp only [execCalForced, holdest, Nat.not_lt.mpr hsyn, hair, Bool.false_eq_true, if_false]

theorem execUnlock_locked (hlock : s.syn n = 3) :
    execUnlock n s = .next
      ((((((s.drawn.modTxs n (fun l => l.map (fun t => if t.ramp.isSome && !t.ended && t.cut.isNone then
          { t with cut := some (s.now + s.freeBelow 25) } else t))).calRequest n 2).inc
          (Obj.SLCn_UNLOCK_COUNT n)).beginSettle n 1536).synEvent n 0x112)) := by
  simp only [execUnlock, hlock, if_true]

end

/-! ## The obligations -/

/-- Settles O2: each of the four commands writes through the guard of the counter, which drops the write of an owned one. -/
theorem ownedCounterWritesDropped : Obligations.OwnedCounterWritesDropped :=
  fun s who _ run v hown =>
    ⟨congrArg _ (s.tcGuard_owned hown who _ (b2n run) _), congrArg _ (s.tcGuard_owned hown who _ 2 _),
      congrArg _ (s.tcGuard_owned hown who _ 4 _), congrArg _ (s.tcGuard_owned hown who _ v _)⟩

/-- Settles O3: each clause is what its command does under the conditions it names. -/
theorem panelAndMissCommandsComplete : Obligations.PanelAndMissCommandsComplete := by
  refine ⟨fun s who cls hlo hhi => ?_, fun s who n cls hlo hhi => ?_, fun s who cls v hlo hhi hv => ?_,
    fun s k since hmode hclk hstate => ?_, fun s k since hmode hclk hstate => ?_,
    fun s _ since => execPanelDebounceExpiry_same s since, fun s _ => execPanelHoldExpiry_pressed s,
    fun s _ _ hmode hidle hpwr => execTouchScanStart_idle s hmode hpwr hidle,
    fun s _ cap hmode hmeas hfirst hpwr => execTouchMeasurementDone_first s hmode hpwr cap hmeas hfirst,
    fun s k hmode hmeas hstate hpwr => ?_, fun s k hmode hmeas hstate hpwr => ?_⟩
  · exact (execMissCounterClear_class s hlo hhi who 0).trans (congrArg _ (s.missClear_zero who _))
  · exact (execMissCounterClear_slice s hlo hhi who n 0).trans (congrArg _ (s.missClear_zero who _))
  · exact (execMissCounterClear_class s hlo hhi who v).trans (congrArg _ (s.missClear_refused hv who _))
  · simpa only [if_true] using exec_panelDebounceExpiry_change s hmode hclk (low := true) hstate
  · simpa only [Bool.false_eq_true, if_false] using exec_panelDebounceExpiry_change s hmode hclk (low := false) hstate
  · simpa only [Bool.false_eq_true, if_false] using exec_touchFault_measuring s hmode hpwr hmeas hstate
  · simpa only [if_true] using exec_touchFault_measuring s hmode hpwr hmeas hstate

/-- Settles O5: each clause is what its command does in the synthesizer state it names; the calibration that locks passes
through `State.calibrated`. -/
theorem synthesizerSettlesAndCalibrates : Obligations.SynthesizerSettlesAndCalibrates := by
  refine ⟨fun s n => ⟨s.calRequest n 0, rfl, ?_, fun k hk => ?_, s.calRequest_mem n 0⟩, execSynthSettleDone_settling,
    execSynthSettleTimeout_retry, execSynthSettleTimeout_calibrate,
    fun s n hcal hfirst => ⟨_, s.calibrated n, execSynthCalDone_lock s n hcal hfirst, rfl, ?_, ?_, ?_⟩,
    execSynthCalDone_fail, fun s _ n _ => execCalForced_due s n, execUnlock_locked, fun _ _ => rfl, fun _ _ => rfl⟩
  · rw [State.calRequest_o, if_pos rfl, bitOf_setBit]
  · rw [State.calRequest_o, if_neg hk]
  · simp only [State.calibrated_o, Nat.add_left_cancel_iff, Nat.reduceEqDiff, if_true, if_false]
  · simp only [State.calibrated_o, Nat.add_left_cancel_iff, Nat.reduceEqDiff, if_true, if_false]
  · simp only [State.calibrated_o, Nat.add_left_cancel_iff, Nat.reduceEqDiff, if_true, if_false]

/-- Settles O57: the fields of the value of an instant are its levels, and the two spellings of the same fields, one by bit
fields and one by the levels of R23, both compare digit by digit. -/
theorem turathTimeCountsInOrder : Obligations.TurathTimeCountsInOrder :=
  ⟨fun t ht => ⟨ttValid_tt64 t, linear_tt64 ht⟩, fun _ _ => ttValid_lt_iff⟩

/-- Settles O31: the addresses of the two words of a 64-bit object name it, and there the window acts through its latches. -/
theorem wideObjectsPassThroughTheirLatches : Obligations.WideObjectsPassThroughTheirLatches :=
  ⟨fun s _ who _ _ => execWideReadLowLatch_wide s who, fun s who _ _ => execWideWriteLow_wide s who,
    fun s who _ _ _ => execWideWriteHigh_held s who⟩

/-- Settles O53: with no command at the front `step` takes its idle branch. -/
theorem stepOnAnEmptyQueueIdles : Obligations.StepOnAnEmptyQueueIdles := by
  intro s hempty
  simp only [step, hempty]

end Sys2Proof.Machine

/-! O6: the transmissions of a slice from ramp to PA-off, its blanking and aerial switch, and the tones that probe and tune
its ports. -/
namespace Sys2Proof.Machine

section
variable (s : State) (n : Fin 4) {t : TxSt}

/-! ## Ramp start and start deadline (R63, R64) -/

theorem execTxRampStart_lock (hnext : s.nextRamp n = some t) (hlbt : t.lbt = false)
    (hlock : (s.upTo (t.start - 96)).canSend n = true) (htime : (s.upTo (t.start - 96)).now + 96 ≤ t.start + t.tol) :
    execTxRampStart n s = .next ((s.upTo (t.start - 96)).rampUp n t) := by
  simp only [execTxRampStart, hnext, hlbt, hlock, Nat.not_lt.mpr htime, Bool.false_eq_true, if_true, if_false]

section
variable (hnext : s.nextRamp n = some t) (hlock : (s.upTo (t.start + t.tol - 96)).canSend n = false)
include hnext hlock

/-- An entry that does not reach LOCK by its deadline is abandoned with a miss of class 3. -/
theorem execTxStartDeadline_entry (hack : t.kind ≠ 0x12) (htone : t.kind ≠ 0x13) :
    execTxStartDeadline n s = .next
      (((s.upTo (t.start + t.tol - 96)).txAbandon n t 1 (some (t.start + t.tol))).inc (Obj.SLCn_SYNBUSY_COUNT n)) := by
  simp only [execTxStartDeadline, hnext, hlock, hack, htone, decide_false, Bool.or_self, Bool.false_eq_true, if_false]

/-- A tone without LOCK is abandoned and misses nothing: it is tried again (R69, log 199). -/
theorem execTxStartDeadline_tone (htone : t.kind = 0x13) :
    execTxStartDeadline n s = .next ((s.upTo (t.start + t.tol - 96)).txAbandon n t 1 none) := by
  have hack : t.kind ≠ 0x12 := by omega
  simp only [execTxStartDeadline, hnext, hlock, hack, decide_false, Bool.or_self, Bool.false_eq_true, if_false,
    if_pos htone]

end

/-! ## The last sample and PA-off (R66, R69, R71, R76) -/

section
variable {rl : Nat} {fwd : Int} {u : State} (hrun : s.running n = some t)
include hrun

theorem execTxEnd_whole (hcut : t.cut = none) (hended : t.ended = false) :
    execTxEnd n s = .next ((s.upTo (t.ramp.getD 0 + 96 + t.dur)).putTx n { t with ended := true }) := by
  simp only [execTxEnd, hrun, hcut, hended, Option.isSome_none, Bool.or_self, Bool.false_eq_true, if_false]

/-- A cut transmission measures its port by the return loss that PA-off came with; the compression monitor leaves it out. -/
theorem execTxPaOff_cut (hcut : t.cut ≠ none) (hu : u = (s.paOff n t 0x0F).portMeasure n (asFin 2 t.port) rl) :
    execTxPaOff n rl fwd s =
      .next (if u.o (Obj.SLCn_AERIAL_MODE n) = 1 then u.setI 16 (Obj.SLCn_MON_FWD n) fwd else u) := by
  subst hu
  have hnone : t.cut.isNone = false := Option.isNone_eq_false_iff.mpr (Option.isSome_iff_ne_none.mpr hcut)
  simp only [execTxPaOff, hrun, hnone, Bool.and_false, Bool.false_and, Bool.false_eq_true, if_false]

/-- A whole transmission that is no tone measures its port by the return loss that PA-off came with. -/
theorem execTxPaOff_whole (hcut : t.cut = none) (hcodes : t.codes = [])
    (hu : u = ((s.paOff n t 0x0F).portMeasure n (asFin 2 t.port) rl).paCompress n t fwd) :
    execTxPaOff n rl fwd s =
      .next (if u.o (Obj.SLCn_AERIAL_MODE n) = 1 then u.setI 16 (Obj.SLCn_MON_FWD n) fwd else u) := by
  subst hu
  simp only [execTxPaOff, hrun, hcut, hcodes, List.isEmpty_nil, Option.isNone_none, Bool.not_true, Bool.false_and,
    Bool.false_eq_true, if_true, if_false]

/-- A whole tone measures its port by the best return loss its own command gave; one of 64 codes was a tuner search, which
keeps its code. -/
theorem execTxPaOff_tone (hcut : t.cut = none) (hcodes : t.codes ≠ []) {v : State}
    (hv : v = (s.paOff n t 0x0F).portMeasure n (asFin 2 t.port) (t.codes.foldl max 0))
    (hu : u = (if t.codes.length = 64 then v.tunerKeep n t.codes else v).paCompress n t fwd) :
    execTxPaOff n rl fwd s =
      .next (if u.o (Obj.SLCn_AERIAL_MODE n) = 1 then u.setI 16 (Obj.SLCn_MON_FWD n) fwd else u) := by
  subst hu hv
  have hfound : t.codes.isEmpty = false := List.isEmpty_eq_false_iff.mpr hcodes
  simp only [execTxPaOff, hrun, hcut, hfound, Option.isNone_none, Bool.not_false, Bool.true_and, decide_eq_true_eq, if_true]

end

/-! ## Blanking and the aerial switch (R68, R79) -/

theorem execBlankingEnd_blanked (hlast : s.slices[n].lastTx = some t) (hblank : s.slices[n].blanks.contains n.val = true) :
    execBlankingEnd n s = .next ((s.upTo (t.at_ + 192)).unblankRow n) := by
  simp only [execBlankingEnd, hlast, hblank, if_true]

theorem execAerialSwitchSettled_switching {e : Instant} (hswitch : s.slices[n].switchEnd = some e) :
    execAerialSwitchSettled n s =
      .next (((s.upTo e).modSlice n (fun x => { x with switchEnd := none })).blankOff n 8) := by
  simp only [execAerialSwitchSettled, hswitch]

/-! ## Tones (R69, R71) -/

theorem execProbe_due {p : Fin 2} (rl : Nat) (hok : s.toneOk n 2400 = true) (hdue : s.probeDue n p = true) :
    execProbe n p rl s = .next (s.toneSend n p 2400 [rl]) := by
  simp only [execProbe, hok, hdue, Bool.and_self, if_true]

theorem execTunerSearch_due {rls : List Nat} (hok : s.toneOk n 4800 = true) (hmode : s.o (Obj.SLCn_AERIAL_MODE n) = 1)
    (hset : s.o (Obj.SLCn_TUNER_SET n) = 0xFF) (hdue : s.slices[n].tunerDue = true) (hlen : rls.length = 64) :
    execTunerSearch n rls s = .next (s.toneSend n (asFin 2 (s.o (Obj.SLCn_TX_PORT n))) 4800 rls) := by
  simp only [execTunerSearch, hok, hmode, hset, hdue, hlen, decide_true, Bool.and_self, if_true]

end

/-! ## The obligation -/

/-- Settles O6: each clause is what its command does under the conditions it names; a tuner search and a probe at PA-off are
the two lengths of a tone's codes. -/
theorem transmissionsRampAndEnd : Obligations.TransmissionsRampAndEnd := by
  refine ⟨fun s n t => execTxRampStart_lock s n, fun s n t => execTxStartDeadline_entry s n,
    fun s n t => execTxStartDeadline_tone s n, fun s n t => execTxEnd_whole s n,
    fun s n t rl fwd hrun hcut => execTxPaOff_cut s n hrun hcut rfl, fun s u n t rl fwd => execTxPaOff_whole s n,
    fun s n t => execBlankingEnd_blanked s n, fun s n t => execAerialSwitchSettled_switching s n,
    fun s n p => execProbe_due s n, fun s n rls => execTunerSearch_due s n,
    fun s u n t rl fwd hrun hcut hlen hu => execTxPaOff_tone s n hrun hcut ?_ rfl ?_,
    fun s u n t found rl fwd hrun hcut hcodes hu => execTxPaOff_tone s n hrun hcut ?_ rfl ?_⟩
  · exact List.ne_nil_of_length_pos (by omega)
  · rw [hu, if_pos hlen]
  · exact hcodes ▸ List.cons_ne_nil _ _
  · simpa [hcodes] using hu

end Sys2Proof.Machine

/-! O7, O8 and O12: a listener from the preamble to the drain and the mapper's blocks, the analog gain and the signal capture,
and a received frame from its drain to its publication. -/
namespace Sys2Proof.Machine

/-! ## Object keys -/

/-- Objects of different indices, or of different subindices, are different objects. -/
theorem okey_ne {i j a b : Nat} (ha : a < 256) (hb : b < 256) (h : i ≠ j ∨ a ≠ b) : okey i a ≠ okey j b := by
  simp only [okey, Key]
  omega

section
variable (s : State) (n : Fin 4)

/-! ## Listener states (R96) -/

section
variable (k : Fin 48)

@[simp] theorem State.modLsn_o (f : LsnSt → LsnSt) (j : Key) : (s.modLsn n k f).o j = s.o j := rfl

/-- The bits of LSN_ACTIVE and LSN_HOLDING are other objects than STATE. -/
theorem State.setLsn_lsnState (st : Nat) : (s.setLsn n k st).lsnState n k = st := by
  have hactive : Obj.SLCn_LSNk_STATE n k ≠ Obj.SLCn_LSN_ACTIVE n := okey_ne (by decide) (by decide) (.inl (by omega))
  have hholding : Obj.SLCn_LSNk_STATE n k ≠ Obj.SLCn_LSN_HOLDING n := okey_ne (by decide) (by decide) (.inl (by omega))
  simp only [State.setLsn, State.lsnState, State.modLsn_o, State.setO_o, hactive, hholding, if_true, if_false]

/-! ## From SEARCH through SYNC (R103, R104, R106) -/

/-- A preamble that satisfies R103 and R104 brings the listener from SEARCH to SYNC. -/
theorem execPreambleDetected_sync {first : Instant} (hsearch : (s.upTo first).lsnState n k = 1)
    (hblank : (s.upTo first).blankNow n = false) (hbank : (s.upTo first).bankValid n k = true)
    (hclear : (s.upTo first).clearFrom n first (s.upTo first).now = true) (hport : (s.upTo first).hasPort n = true)
    (htime : (s.upTo first).now ≤ first + preSymbol (aMode ((s.upTo first).lsnNow n k))) :
    ∃ t, execPreambleDetected n k first s = .next t ∧ t.lsnState n k = 2 ∧ t.now = max s.now first := by
  simp only [execPreambleDetected, hsearch, hblank, hbank, hclear, hport, htime, decide_true, Bool.not_false, Bool.and_self,
    if_true]
  exact ⟨_, rfl, State.setLsn_lsnState _ n k 2, rfl⟩

theorem execAerialDecision_div (ea eb : Nat) (hsync : s.lsnState n k = 2) (hmode : s.o (Obj.SLCn_AERIAL_MODE n) = 0)
    (hopen : s.slices[n].lsn[k].decided = false) (hport : s.hasPort n = true) :
    execAerialDecision n k ea eb s = .next
      ((if aMode (s.lsnNow n k) = 1 then s.upTo (s.slices[n].lsn[k].first + 2400) else s).modLsn n k (fun l => { l with
        port := if s.portState n 0 = 3 then 1 else if s.portState n 1 = 3 then 0 else if ea < eb then 1 else 0
        decided := true })) := by
  simp only [execAerialDecision, hsync, hmode, hopen, hport, decide_true, beq_self_eq_true, Bool.not_false, Bool.and_self,
    if_true]
  split <;> rfl

theorem execAerialDecision_tune (ea eb : Nat) (hmode : s.o (Obj.SLCn_AERIAL_MODE n) = 1) :
    execAerialDecision n k ea eb s = .next s := by
  have hdiv : (s.o (Obj.SLCn_AERIAL_MODE n) == 0) = false := by rw [hmode]; rfl
  simp only [execAerialDecision, hdiv, Bool.and_false, Bool.false_and, Bool.false_eq_true, if_false]

theorem execSyncTimeout_sync (hsync : s.lsnState n k = 2) :
    execSyncTimeout n k s = .next
      (((s.upTo (s.slices[n].lsn[k].lastSync.getD 0 + s.syncLimit n (aMode (s.lsnNow n k)))).inc
        (Obj.SLCn_RX_SYNC_TO n)).toSearch n k) := by
  simp only [execSyncTimeout, hsync, if_true]

/-! ## Headers (R105, R122, R130) -/

section
variable {bits : Nat} (hsync : s.lsnState n k = 2) (hmode : aMode (s.lsnNow n k) = 1)
include hsync hmode

theorem execQualifier_lofdm_good (hok : headOk bits = true) :
    execQualifier n k (.lofdm bits) s = .next ((s.upTo (s.slices[n].lsn[k].first + 7200)).hold n k (fld bits 10 0)
      (fun l => { l with
        len := fld bits 10 0, mapId := fld bits 18 11, rate := fld bits 20 19, seed := fld bits 27 21, fcs := 0
        endAt := if fld bits 18 11 < 4 then
          some (s.slices[n].lsn[k].first + lofdmDur (fld bits 10 0) (fld bits 20 19) (fixedBits (fld bits 18 11)))
          else none })) := by
  simp only [execQualifier, hsync, hmode, hok, ne_eq, not_true_eq_false, Bool.not_true, Bool.false_eq_true, if_true, if_false]

theorem execQualifier_lofdm_bad (hbad : headOk bits = false) :
    execQualifier n k (.lofdm bits) s = .next ((s.upTo (s.slices[n].lsn[k].first + 7200)).headFail n k) := by
  simp only [execQualifier, hsync, hmode, hbad, ne_eq, not_true_eq_false, Bool.not_false, if_true, if_false]

end

section
variable {x : RxHead} {p : StdPhr} (hsync : s.lsnState n k = 2) (hphr : s.stdPhr n (aMode (s.lsnNow n k)) x = some p)
include hsync hphr

/-- A PHR of a standard mode, once decoded: a mode switch leaves the packet, a bad check or a length out of range fails it, and
else it is held. -/
theorem execQualifier_stdPhr :
    execQualifier n k x s =
      let q := s.slices[n].lsn[k].first + phrEnd (aMode (s.lsnNow n k)) p.pre
      .next (if p.sw then ((s.upTo q).inc (Obj.SLCn_PHY_MODESW n)).toSearch n k
        else if !p.ok || !(phrLenOk (aMode (s.lsnNow n k)) p.len p.fcs) then (s.upTo q).headFail n k
        else (s.upTo q).hold n k (p.len - p.fcs) (fun l => { l with
          len := p.len - p.fcs, mapId := 0, fcs := p.fcs, resolved := true
          endAt := some (q + psduTime (aMode (s.lsnNow n k)) p.rate p.len) })) := by
  cases x with
  | lofdm _ => cases hphr
  | oqpsk _ | fsk _ _ _ | ofdm _ =>
    simp only [execQualifier, hsync, hphr, if_true, apply_ite Host.Outcome.next]

theorem execQualifier_stdPhr_switch (hsw : p.sw = true) :
    execQualifier n k x s = .next
      (((s.upTo (s.slices[n].lsn[k].first + phrEnd (aMode (s.lsnNow n k)) p.pre)).inc
        (Obj.SLCn_PHY_MODESW n)).toSearch n k) := by
  simp only [execQualifier_stdPhr s n k hsync hphr, hsw, if_true]

section
variable (hsw : p.sw = false)
include hsw

theorem execQualifier_stdPhr_good {q : Nat} (hok : p.ok = true)
    (hlen : phrLenOk (aMode (s.lsnNow n k)) p.len p.fcs = true)
    (hq : q = s.slices[n].lsn[k].first + phrEnd (aMode (s.lsnNow n k)) p.pre) :
    execQualifier n k x s = .next ((s.upTo q).hold n k (p.len - p.fcs) (fun l => { l with
      len := p.len - p.fcs, mapId := 0, fcs := p.fcs, resolved := true
      endAt := some (q + psduTime (aMode (s.lsnNow n k)) p.rate p.len) })) := by
  subst hq
  simp only [execQualifier_stdPhr s n k hsync hphr, hsw, hok, hlen, Bool.not_true, Bool.or_self, Bool.false_eq_true, if_false]

theorem execQualifier_stdPhr_bad (hbad : p.ok = false ∨ phrLenOk (aMode (s.lsnNow n k)) p.len p.fcs = false) :
    execQualifier n k x s = .next
      ((s.upTo (s.slices[n].lsn[k].first + phrEnd (aMode (s.lsnNow n k)) p.pre)).headFail n k) := by
  have hfail : (!p.ok || !(phrLenOk (aMode (s.lsnNow n k)) p.len p.fcs)) = true := by
    rcases hbad with hbad | hbad <;> simp [hbad]
  simp only [execQualifier_stdPhr s n k hsync hphr, hsw, hfail, Bool.false_eq_true, if_true, if_false]

end
end

/-! ## The map and the last sample (R103, R131, R144, R145) -/

section
variable {addr check : Nat} (hhold : s.lsnState n k = 3) (hmode : aMode (s.lsnNow n k) = 1)
  (hopen : s.slices[n].lsn[k].resolved = false)
include hhold hmode hopen

theorem execMapResolve_fixed (hcheck : check % 64 = leadCheck (addr % 2 ^ 32)) (hid : s.slices[n].lsn[k].mapId < 16) :
    execMapResolve n k addr check s = .next ((s.upTo (s.slices[n].lsn[k].first + 9600)).resolved n k (addr % 2 ^ 32)
      (fixedBits s.slices[n].lsn[k].mapId) none) := by
  simp only [execMapResolve, hhold, hmode, hopen, hcheck, hid, decide_true, ne_eq, not_true_eq_false, Bool.not_false,
    Bool.and_self, if_true, if_false]

theorem execMapResolve_badCheck (hcheck : check % 64 ≠ leadCheck (addr % 2 ^ 32)) :
    execMapResolve n k addr check s = .next
      (((s.upTo (s.slices[n].lsn[k].first + 9600)).inc (Obj.SLCn_PHY_LCSFAIL n)).giveUp n k) := by
  simp only [execMapResolve, hhold, hmode, hopen, hcheck, ne_eq, not_false_eq_true, decide_true, Bool.not_false,
    Bool.and_self, if_true]

end

theorem execFrameLastSample_held {e : Instant} (hhold : s.lsnState n k = 3) (hres : s.slices[n].lsn[k].resolved = true)
    (hend : s.slices[n].lsn[k].endAt = some e) :
    execFrameLastSample n k e s = .next
      (((s.upTo (e + gridLat (s.grid n (aBank (s.lsnNow n k))))).modLsn n k (fun l => { l with agc := none })).setLsn
        n k 4) := by
  simp only [execFrameLastSample, hend, hhold, hres, decide_true, Bool.and_self, if_true]

end

/-! ## Grid outputs and the mapper (R89, R110) -/

theorem execGridOutputsValid_invalid {bank : Fin 2} {t : Instant} (hinvalid : s.slices[n].invalid[bank] = some t) :
    execGridOutputsValid n bank s =
      .next ((s.upTo t).modSlice n (fun x => { x with invalid := x.invalid.set bank none })) := by
  simp only [execGridOutputsValid, hinvalid]

theorem execMapperBlockAdmit_counted {u : State} {chan : Fin 32} {start : Instant} {p : List Nat} {b : Nat}
    (hu : u = s.upTo (start + 4320)) (hbank : u.mapBank n = some b) (henable : u.ob (Obj.SLCn_MAP_ENABLE n) = true)
    (hlen : p.length = 48) (hacc : u.slices[n].accFrom ≤ start) (hvalid : u.slices[n].validFrom[asFin 2 b] ≤ start)
    (hstood : fin48.any (fun k => u.stoodOn n b chan start k) = true)
    (hsynced : fin48.any (fun k => u.syncedOn n b chan start k) = false)
    (hclear : u.clearFrom n start (start + 1920) = true) (hstep : u.steppedIn n start (start + 1919) = false)
    (hmean : u.belowMean n chan (sumL p) = true) :
    execMapperBlockAdmit n chan start p s = .next (u.modSlice n (fun x => { x with acc := accAdd x.acc chan p })) := by
  subst hu
  simp only [execMapperBlockAdmit, hbank, henable, hlen, hacc, hvalid, hstood, hsynced, hclear, hstep, hmean, decide_true,
    Bool.not_false, Bool.and_self, if_true]

/-! ## The analog gain (R91-R94) -/

/-- A step of the gain sets its index and no other object. -/
theorem State.gainSet_o (g : Nat) (j : Key) : (s.gainSet n g).o j = if j = Obj.SLCn_GAIN_NOW n then g else s.o j := by
  simp only [State.gainSet, State.modSlice_o, State.setO_o]

theorem execGainStepDown_auto (hblank : s.blankNow n = false) (hauto : s.gainAuto n = true)
    (hgain : s.o (Obj.SLCn_GAIN_NOW n) ≠ 0) : execGainStepDown n s = .next (s.gainDown n) := by
  simp only [execGainStepDown, hblank, hauto, hgain, Bool.not_true, decide_false, Bool.or_self, Bool.false_eq_true, if_false]

/-- A clip that cannot lower the gain is counted (R94). -/
theorem execGainStepDown_count (hblank : s.blankNow n = false)
    (hfixed : s.gainAuto n = false ∨ s.o (Obj.SLCn_GAIN_NOW n) = 0) :
    execGainStepDown n s = .next (s.inc (Obj.SLCn_CLIP_COUNT n)) := by
  have hcount : (!(s.gainAuto n) || decide (s.o (Obj.SLCn_GAIN_NOW n) = 0)) = true := by
    rcases hfixed with hfixed | hfixed <;> simp [hfixed]
  simp only [execGainStepDown, hblank, hcount, Bool.false_eq_true, if_true, if_false]

/-- The gain of a blanked slice holds (R80). -/
theorem execGainStepDown_blanked (hblank : s.blankNow n = true) : execGainStepDown n s = .next s := by
  simp only [execGainStepDown, hblank, if_true]

/-- The gain index and its counter are other objects than CAP_TRIG, so the selection before the step decides whether it
triggers a capture (R115). -/
theorem State.gainDown_eq : s.gainDown n =
    let u := (s.gainSet n (s.o (Obj.SLCn_GAIN_NOW n) - 1)).inc (Obj.SLCn_GAIN_DN_COUNT n)
    if s.o (Obj.SLCn_CAP_TRIG n) = 3 then u.capTrigger n else u := by
  have hgain : Obj.SLCn_CAP_TRIG n ≠ Obj.SLCn_GAIN_NOW n := okey_ne (by decide) (by decide) (.inl (by omega))
  have hcount : Obj.SLCn_CAP_TRIG n ≠ Obj.SLCn_GAIN_DN_COUNT n := okey_ne (by decide) (by decide) (.inl (by omega))
  simp only [State.gainDown, State.inc_o, State.gainSet_o, hgain, hcount, if_false]

/-- A step down that triggers no capture lowers the index by one and counts itself. -/
theorem execGainStepDown_frame (hblank : s.blankNow n = false) (hauto : s.gainAuto n = true)
    (hgain : s.o (Obj.SLCn_GAIN_NOW n) ≠ 0) (htrig : s.o (Obj.SLCn_CAP_TRIG n) ≠ 3) :
    ∃ t, execGainStepDown n s = .next t ∧ t.o (Obj.SLCn_GAIN_NOW n) = s.o (Obj.SLCn_GAIN_NOW n) - 1 ∧
      t.o (Obj.SLCn_GAIN_DN_COUNT n) = (s.o (Obj.SLCn_GAIN_DN_COUNT n) + 1) % 2 ^ 32 ∧
      (∀ k, k ≠ Obj.SLCn_GAIN_NOW n → k ≠ Obj.SLCn_GAIN_DN_COUNT n → t.o k = s.o k) ∧ t.mem = s.mem := by
  have hne : Obj.SLCn_GAIN_NOW n ≠ Obj.SLCn_GAIN_DN_COUNT n := okey_ne (by decide) (by decide) (.inr (by decide))
  rw [execGainStepDown_auto s n hblank hauto hgain, State.gainDown_eq]
  simp only [htrig, if_false]
  refine ⟨_, rfl, ?_, ?_, fun k hnow hcount => ?_, rfl⟩
  · rw [State.inc_o, if_neg hne, State.gainSet_o, if_pos rfl]
  · rw [State.inc_o, if_pos rfl, State.gainSet_o, if_neg hne.symm]
  · rw [State.inc_o, if_neg hcount, State.gainSet_o, if_neg hnow]

theorem execGainStepDown_trigger (hblank : s.blankNow n = false) (hauto : s.gainAuto n = true)
    (hgain : s.o (Obj.SLCn_GAIN_NOW n) ≠ 0) (htrig : s.o (Obj.SLCn_CAP_TRIG n) = 3) :
    execGainStepDown n s = .next
      (((s.gainSet n (s.o (Obj.SLCn_GAIN_NOW n) - 1)).inc (Obj.SLCn_GAIN_DN_COUNT n)).capTrigger n) := by
  rw [execGainStepDown_auto s n hblank hauto hgain, State.gainDown_eq]
  simp only [htrig, if_true]

section
variable {v u : State} {rms : Int} (hv : v = s.upTo (boundaryAt 960 s.now))
  (hu : u = if v.gainMeasured n && !(v.blankNow n) then v.gainJudge n rms else v)
include hv hu

/-- A pending step up is taken at the end of a window once no packet is held (R93). -/
theorem execGainWindowEnd_up (hpending : u.slices[n].upPending.isSome = true) (hholds : u.anyHolds n = false)
    (hauto : u.gainAuto n = true) (hblank : u.blankNow n = false) :
    execGainWindowEnd n rms s = .next (u.gainUp n) := by
  simp only [execGainWindowEnd, ← hv, ← hu, hpending, hholds, hauto, hblank, Bool.not_false, Bool.and_self, if_true]

theorem execGainWindowEnd_stay
    (hstay : u.slices[n].upPending = none ∨ u.anyHolds n = true ∨ u.gainAuto n = false ∨ u.blankNow n = true) :
    execGainWindowEnd n rms s = .next u := by
  have hnot : (u.slices[n].upPending.isSome && !(u.anyHolds n) && u.gainAuto n && !(u.blankNow n)) = false := by
    rcases hstay with hnone | hholds | hfixed | hblank
    · simp only [hnone, Option.isSome_none, Bool.false_and]
    · simp only [hholds, Bool.not_true, Bool.and_false, Bool.false_and]
    · simp only [hfixed, Bool.and_false, Bool.false_and]
    · simp only [hblank, Bool.not_true, Bool.and_false]
  simp only [execGainWindowEnd, ← hv, ← hu, hnot, Bool.false_eq_true, if_false]

end

theorem execGainForcedUp_waited {u : State} {t : Instant} (hpending : s.slices[n].upPending = some t)
    (hhold : s.o (Obj.SLCn_GAIN_HOLD n) ≠ 0) (hholds : s.anyHolds n = true) (hauto : s.gainAuto n = true)
    (hu : u = s.upTo (boundaryAt 960 (t + s.o (Obj.SLCn_GAIN_HOLD n)))) (hblank : u.blankNow n = false)
    (hgain : u.o (Obj.SLCn_GAIN_NOW n) < 10) :
    execGainForcedUp n s = .next ((u.gainUp n).inc (Obj.SLCn_GAIN_FORCED_UP n)) := by
  simp only [execGainForcedUp, hpending, hhold, hholds, hauto, ← hu, hblank, Nat.not_le.mpr hgain, decide_false,
    Bool.not_true, Bool.or_self, Bool.false_eq_true, if_false]

/-! ## Signal capture (R115, R444) -/

theorem State.capArm_idle (hdram : s.o Obj.DRM_STATE ≠ 3) (hruns : s.capRuns n = false) :
    s.capArm n = some ((s.setO (Obj.SLCn_CAP_STATE n) 1).modSlice n
      (fun x => { x with capAt := s.now, capFill := 0, capLeft := 0 })) := by
  simp only [State.capArm, hdram, hruns, Bool.false_eq_true, if_false]

theorem State.capArm_selfRefresh (hdram : s.o Obj.DRM_STATE = 3) : s.capArm n = none := by
  simp only [State.capArm, hdram, if_true]

theorem execCaptureArm_idle (who : Fin 8) (hdram : s.o Obj.DRM_STATE ≠ 3) (hruns : s.capRuns n = false) :
    execCaptureArm who n s = .next ((s.setO (Obj.SLCn_CAP_STATE n) 1).modSlice n
      (fun x => { x with capAt := s.now, capFill := 0, capLeft := 0 })) := by
  rw [execCaptureArm, s.capArm_idle n hdram hruns, Option.getD_some]

theorem execCaptureArm_selfRefresh (who : Fin 8) (hdram : s.o Obj.DRM_STATE = 3) :
    execCaptureArm who n s = .next (s.dropped (windowAddr (Obj.SLCn_CAP_CMD n)) 1 who 6) := by
  rw [execCaptureArm, s.capArm_selfRefresh n hdram, Option.getD_none]

theorem State.capTrigger_armed {u : State} (harmed : s.o (Obj.SLCn_CAP_STATE n) = 1) (hu : u = s.capAdvance n) :
    s.capTrigger n =
      ((u.setO (Obj.SLCn_CAP_STATE n) 2).setO (Obj.SLCn_CAP_TRIG_AT n) (tt64 u.now)).modSlice n (fun x => { x with
        capLeft := u.o (Obj.SLCn_CAP_LEN n) * (16 - u.o (Obj.SLCn_CAP_PRE n)) / 16 }) := by
  simp only [State.capTrigger, harmed, ← hu, if_true]

theorem execCaptureAtExpiry_selected (htrig : s.o (Obj.SLCn_CAP_TRIG n) = 1) :
    execCaptureAtExpiry n s = .next ((s.upTo (linear (s.o (Obj.SLCn_CAP_AT n)))).capTrigger n) := by
  simp only [execCaptureAtExpiry, htrig, if_true]

theorem execCaptureStop_eq {u : State} {data : List Nat} (hu : u = s.capFeed n data) :
    execCaptureStop n data s = .next (if u.capRuns n then u.capEnd n 5 else u.setO (Obj.SLCn_CAP_STATE n) 5) := by
  simp only [execCaptureStop, State.capStop, ← hu]

theorem execCaptureDone_triggered (data : List Nat) (hstate : s.o (Obj.SLCn_CAP_STATE n) = 2) :
    execCaptureDone n data s = .next (((s.upTo (sampleAt (s.capRate n).2
      (sampleNo (s.capRate n).2 s.slices[n].capAt + ceilDiv s.slices[n].capLeft (s.capRate n).1))).capFeed n data).capEnd
        n 3) := by
  simp only [execCaptureDone, hstate, if_true]

theorem execCaptureOverrun_runs (data : List Nat) (hruns : s.capRuns n = true) :
    execCaptureOverrun n data s = .next (((s.capFeed n data).capEnd n 4).inc (Obj.DRM_RTn_OVERFLOW n)) := by
  simp only [execCaptureOverrun, hruns, if_true]

/-! ## The drain and the MIC (R105, R108, R183) -/

section
variable (k : Fin 48) {raw p : Bytes} (m : RxMeas) (sc : List Nat) (hdrain : s.lsnState n k = 4)
include hdrain

theorem execDrainDone_take (hgood : s.rxDecode n k raw = (p, true)) :
    execDrainDone n k raw m sc s = .next (s.rxTake n k p m sc) := by
  simp only [execDrainDone, hdrain, hgood, if_true]

theorem execDrainDone_badCrc (hbad : s.rxDecode n k raw = (p, false)) :
    execDrainDone n k raw m sc s = .next
      (((s.fillCells n.castSucc s.slices[n].lsn[k].cells p).inc (Obj.SLCn_RX_BADCRC n)).giveUp n k) := by
  simp only [execDrainDone, hdrain, hbad, Bool.false_eq_true, if_true, if_false]

end

section
variable {slot : Nat} {e : RxElem} (hslot : s.rxAt n slot = some e)
include hslot

theorem execMicVerifyDone_unverified (hmic : e.mic = none) :
    execMicVerifyDone n slot s = .next ((s.fillCells n.castSucc e.cells e.micOf.2).modRx n slot (fun q => { q with
      mic := some e.micOf.1, micAt := (s.fillCells n.castSucc e.cells e.micOf.2).now, psdu := e.micOf.2
      rcd := q.rcd.take 22 ++ leBytes 1 (setFld (fieldN q.rcd 22 1) 3 2 e.micOf.1) ++ q.rcd.drop 23 })) := by
  simp only [execMicVerifyDone, hslot, hmic, Option.isSome_none, Bool.false_eq_true, if_false]

/-! ## Judging and the cold lookup (R214, R219-R221) -/

section
variable (hcold : e.cold = true) (hfirst : s.coldBehind n e = false) (hmiss : s.hotLookup (fSender e.psdu) = none)
  (hdram : s.dramSleeps = false)
include hcold hfirst hmiss hdram

/-- A set of pinned ways leaves no place for the sender: the frame is judged in the scratch entry (R220). -/
theorem execColdLookupDone_full (hfull : s.hotFull (hotSet (fSender e.psdu)) = true) :
    execColdLookupDone n slot s = .next (s.judgeScratch n e (fSender e.psdu)) := by
  simp only [execColdLookupDone, hslot, hcold, hfirst, hmiss, hdram, hfull, Bool.not_true, Bool.or_self,
    Bool.false_eq_true, if_true, if_false]

/-- A sender that is promoted is judged by the window the cold table kept, or as fresh when it kept none. -/
theorem execColdLookupDone_promote (hroom : s.hotFull (hotSet (fSender e.psdu)) = false) :
    execColdLookupDone n slot s = .next (
      if (s.promote (fSender e.psdu)).2.1.isSome then
        (s.promote (fSender e.psdu)).2.2.judgeHot n e (s.promote (fSender e.psdu)).1 true
      else (s.promote (fSender e.psdu)).2.2.judgeFresh n e (s.promote (fSender e.psdu)).1) := by
  simp only [execColdLookupDone, hslot, hcold, hfirst, hmiss, hdram, hroom, Bool.not_true, Bool.or_self,
    Bool.false_eq_true, if_false]
  obtain ⟨h, win, t⟩ := s.promote (fSender e.psdu)
  cases win with
  | none => rfl
  | some w => rfl

end
end

theorem execSeqJudge_next {e : RxElem} (hnext : s.nextJudge = some (n, e)) : execSeqJudge s = .next (s.judge n e) := by
  simp only [execSeqJudge, hnext]

/-! ## The RX queue (R211, R213) -/

theorem execRxqPublish_judged {e : RxElem} {l : List RxElem} {v : Nat} (hrx : s.slices[n].rx = e :: l)
    (hverdict : e.verdict = some v) (hwin : s.winOver n e = true) :
    execRxqPublish n s = .next (s.publish n e v) := by
  simp only [execRxqPublish, hrx, hverdict, hwin, if_true]

theorem execRxqConsWrite_ok (who : Fin 8) {v : Nat}
    (hcons : consOk 65536 (s.o (Obj.MAC_RXQn_CONS n)) (s.o (Obj.MAC_RXQn_PROD n)) v = true) :
    execRxqConsWrite who n v s = .next (s.setO (Obj.MAC_RXQn_CONS n) v) := by
  simp only [execRxqConsWrite, State.rxqCons, hcons, if_true, Option.getD_some]

end

/-! ## The rendezvous of a tag (R190, R192) -/

section
variable (s : State) {tag sf : Nat}

theorem State.rdvPlace_none (hslots : s.o Obj.MAC_RDV_SLOTS = 0) : s.rdvPlace tag sf = none := by
  simp only [State.rdvPlace, hslots, decide_true, Bool.true_or, if_true]

theorem State.rdvPlace_some {o : Bytes} (hslots : s.o Obj.MAC_RDV_SLOTS ≠ 0)
    (hkey : s.permits (s.o Obj.MAC_RDV_KEY) 3 = true)
    (ho : o = Config.aesBlock (s.keyOf (s.o Obj.MAC_RDV_KEY)) (rdvBlock tag sf)) :
    s.rdvPlace tag sf = some (o,
      superStart (linear sf) + frameT * (fieldN o 0 2 % 100) +
        slotT * setBitNo (s.o Obj.MAC_RDV_SLOTS) (fieldN o 2 1 % popCount 8 (s.o Obj.MAC_RDV_SLOTS)) +
        (if fieldN o 3 1 % 2 = 0 then 1200 else 24000),
      s.o Obj.MAC_RDV_BASE_HZ + 1000000 * (fieldN o 4 2 % s.o Obj.MAC_RDV_NCH)) := by
  simp only [State.rdvPlace, hslots, hkey, ← ho, decide_false, Bool.not_true, Bool.or_self, Bool.false_eq_true, if_false]

variable {drift tsync : Nat}

theorem execCipherSchedBlock_none (hplace : s.rdvPlace tag sf = none) :
    execCipherSchedBlock tag sf drift tsync s = .next { s with rbytes := [] } := by
  simp only [execCipherSchedBlock, hplace]

theorem execCipherSchedBlock_some {o : Bytes} {t : Instant} {f : Nat} (hplace : s.rdvPlace tag sf = some (o, t, f))
    (hguard : s.guard drift tsync ≤ s.o Obj.MAC_RDV_GMAX) :
    execCipherSchedBlock tag sf drift tsync s = .next { s with
      rbytes := sliceB o 0 16 ++ (leBytes 8 (tt64 t) ++ leBytes 4 f ++ leBytes 4 (s.guard drift tsync)) } := by
  simp only [execCipherSchedBlock, hplace, Nat.not_lt.mpr hguard, if_false]

end

/-! ## The obligations -/

/-- Settles O7: each clause is what its command does in the listener state it names; the three standard PHRs share
`execQualifier_stdPhr`, beside LOFDM's own header. -/
theorem listenersTakePackets : Obligations.ListenersTakePackets :=
  ⟨fun s n k _ => execPreambleDetected_sync s n k, execAerialDecision_div,
    fun s n k ea eb => execAerialDecision_tune s n k ea eb, fun s n k _ => execQualifier_lofdm_good s n k,
    fun s n k _ => execQualifier_lofdm_bad s n k,
    fun s n k _ _ _ hsync hphr hsw => execQualifier_stdPhr_good s n k hsync hphr hsw,
    fun s n k _ _ hsync hphr => execQualifier_stdPhr_bad s n k hsync hphr,
    fun s n k _ _ hsync hphr => execQualifier_stdPhr_switch s n k hsync hphr, execSyncTimeout_sync,
    fun s n k _ _ => execMapResolve_fixed s n k, fun s n k _ _ => execMapResolve_badCheck s n k,
    fun s n k _ => execFrameLastSample_held s n k, fun s n _ _ => execGridOutputsValid_invalid s n,
    fun s _ n _ _ _ _ => execMapperBlockAdmit_counted s n⟩

/-- Settles O8: each clause is what its command does under the conditions it names; the two clauses on a step down share
`State.gainDown_eq`. -/
theorem gainAndCaptureFollowTheirRules : Obligations.GainAndCaptureFollowTheirRules :=
  ⟨execGainStepDown_frame, execGainStepDown_trigger, execGainStepDown_blanked, execGainStepDown_count,
    fun s _ _ n _ => execGainWindowEnd_up s n, fun s _ _ n _ => execGainWindowEnd_stay s n,
    fun s _ n _ => execGainForcedUp_waited s n, fun s who n => execCaptureArm_idle s n who,
    fun s who n => execCaptureArm_selfRefresh s n who,
    fun s _ n harmed hu => congrArg _ (s.capTrigger_armed n harmed hu), execCaptureAtExpiry_selected,
    fun s _ n _ => execCaptureStop_eq s n, execCaptureDone_triggered, execCaptureOverrun_runs⟩

/-- Settles O12: each clause is what its command does under the conditions it names; a rendezvous goes through the place
that `State.rdvPlace` computes. -/
theorem receivedFramesAreJudgedAndPublished : Obligations.ReceivedFramesAreJudgedAndPublished := by
  refine ⟨fun s n k _ _ m sc => execDrainDone_take s n k m sc, fun s n k _ _ m sc => execDrainDone_badCrc s n k m sc,
    fun s n _ _ => execMicVerifyDone_unverified s n, fun s n _ => execSeqJudge_next s n,
    fun s n _ _ => execColdLookupDone_full s n, fun s n _ _ => execColdLookupDone_promote s n,
    fun s n _ _ _ => execRxqPublish_judged s n, fun s who n _ => execRxqConsWrite_ok s n who,
    fun s _ _ _ _ hslots => execCipherSchedBlock_none s (s.rdvPlace_none hslots),
    fun s tag sf drift tsync o place hslots hkey ho hguard hplace => ?_⟩
  subst hplace
  exact execCipherSchedBlock_some s (s.rdvPlace_some hslots hkey ho) hguard

end Sys2Proof.Machine

/-! O11: the pins of the hot neighbour table, a map that a tag reports and a map that the base firmware computes. -/
namespace Sys2Proof.Machine

section
variable (s : State) {h : Nat}

/-! ## Pins of the hot table (R220) -/

/-- A pin is refused for an entry outside the table, for one that is not valid and for the last way that its set has free. -/
theorem State.hotPin_refused
    (href : 8192 ≤ h ∨ bitOf (s.hotFlags h) 0 = false ∨ (s.setHotFlag h 1 true).hotFull (h / 8) = true) :
    s.hotPin h = none := by
  rcases href with hout | hinvalid | hfull
  · simp only [State.hotPin, hout, decide_true, Bool.true_or, if_true]
  · simp only [State.hotPin, hinvalid, Bool.not_false, Bool.or_true, if_true]
  · simp only [State.hotPin, hfull, if_true, ite_self]

section
variable (hlt : h < 8192) (hvalid : bitOf (s.hotFlags h) 0 = true)
include hlt hvalid

theorem State.hotPin_valid (hroom : (s.setHotFlag h 1 true).hotFull (h / 8) = false) :
    s.hotPin h = some (s.setHotFlag h 1 true) := by
  simp only [State.hotPin, Nat.not_le.mpr hlt, hvalid, hroom, decide_false, Bool.not_true, Bool.or_self,
    Bool.false_eq_true, if_false]

theorem State.hotUnpin_valid : s.hotUnpin h = some (s.setHotFlag h 1 false) := by
  simp only [State.hotUnpin, Nat.not_le.mpr hlt, hvalid, decide_false, Bool.not_true, Bool.or_self,
    Bool.false_eq_true, if_false]

theorem execHotPin_valid (who : Fin 8) (hroom : (s.setHotFlag h 1 true).hotFull (h / 8) = false) :
    execHotPin who h s = .next (s.setHotFlag h 1 true) := by
  rw [execHotPin, s.hotPin_valid hlt hvalid hroom, Option.getD_some]

theorem execHotUnpin_valid (who : Fin 8) : execHotUnpin who h s = .next (s.setHotFlag h 1 false) := by
  rw [execHotUnpin, s.hotUnpin_valid hlt hvalid, Option.getD_some]

end

/-- A refused pin changes no entry; the write is recorded as dropped. -/
theorem execHotPin_refused (who : Fin 8)
    (href : 8192 ≤ h ∨ bitOf (s.hotFlags h) 0 = false ∨ (s.setHotFlag h 1 true).hotFull (h / 8) = true) :
    execHotPin who h s = .next (s.dropped (windowAddr Obj.MAC_HOT_PIN) h who 3) := by
  rw [execHotPin, s.hotPin_refused href, Option.getD_none]

/-! ## Maps reported and computed (R151-R153) -/

section
variable {addr : Nat} (hhot : s.hotLookup (addr % 2 ^ 32) = some h) (hdram : s.hwHas (s.mapRec h) 128 = true)
  (hrec : s.recordOf h (addr % 2 ^ 32) = true)
include hhot hdram hrec

/-- A reported map that the tag's record lacks goes into an open uplink slot, and the tag's entry is pinned where it can be. -/
theorem execReportMapInstall_open {map : Bytes} {i : Nat} (hok : mapOk (sliceB map 0 24) = true)
    (hnew : s.holdsUp h (sliceB map 0 24) = false) (hopen : s.openSlot h = some i) :
    execReportMapInstall addr map s = .next
      (((s.installMap h i (addr % 2 ^ 32) (sliceB map 0 24) false).hotPin h).getD
        (s.installMap h i (addr % 2 ^ 32) (sliceB map 0 24) false)) := by
  simp only [execReportMapInstall, hhot, hdram, hrec, hok, hnew, hopen, Bool.not_true, Bool.or_self, Bool.false_eq_true,
    if_false]

/-- A computation that is asked for or due is noted for its link, and its map is one of the uplink or of the downlink. -/
theorem execMapCompute_due (n : Fin 4) {q : MapAsk}
    (hdue : q.asked = true ∨ s.mapPeriodOver (addr % 2 ^ 32) q.dn.isSome = true) :
    execMapCompute n addr q s = .next (q.dn.elim
      ((s.mapNoted (addr % 2 ^ 32) false).computeUp n h (addr % 2 ^ 32))
      (fun d => (s.mapNoted (addr % 2 ^ 32) true).computeDown n h (addr % 2 ^ 32) d.1 d.2)) := by
  have hrun : (q.asked || s.mapPeriodOver (addr % 2 ^ 32) q.dn.isSome) = true := Bool.or_eq_true_iff.mpr hdue
  simp only [execMapCompute, hhot, hdram, hrec, hrun, Bool.not_true, Bool.or_self, Bool.false_eq_true, if_false]
  cases q.dn with
  | none => rfl
  | some d => rfl

end

/-- Without a request, and before the link's period is over, no map is computed, whether or not the tag has an entry. -/
theorem execMapCompute_notDue (n : Fin 4) {addr : Nat} {q : MapAsk} (hask : q.asked = false)
    (hperiod : s.mapPeriodOver (addr % 2 ^ 32) q.dn.isSome = false) : execMapCompute n addr q s = .next s := by
  dsimp only [execMapCompute]
  cases s.hotLookup (addr % 2 ^ 32) with
  | none => rfl
  | some h => simp only [hask, hperiod, Bool.or_self, Bool.not_false, Bool.or_true, if_true]

end

/-! ## The obligation -/

/-- Settles O11: each clause is what its command does under the conditions it names; the two directions of a
computed map share `execMapCompute_due`. -/
theorem hotEntriesAndMapsAreKept : Obligations.HotEntriesAndMapsAreKept := by
  refine ⟨fun s who h hlt hvalid => execHotPin_valid s hlt hvalid who, fun s who h => execHotPin_refused s who,
    fun s who h hlt hvalid => execHotUnpin_valid s hlt hvalid who,
    fun s addr h i map hhot hdram hok hrec => execReportMapInstall_open s hhot hdram hrec hok,
    fun s n addr h q hhot hdram hrec hdue => ?_, fun s n addr q => execMapCompute_notDue s n⟩
  refine (execMapCompute_due s hhot hdram hrec n hdue).trans ?_
  cases q.dn with
  | none => rfl
  | some d => rfl

end Sys2Proof.Machine

/-! O9 and O10: a frame program from its commit to READY and the commands on its pipeline, and an entry's preparation, the
uplink window, the gang ACK's verdict cutoff and the assessment of channels. -/
namespace Sys2Proof.Machine

section
variable (s : State) (n : Fin 4)

/-! ## A commit (R172, R174) -/

theorem execFpCommit_halted (who : Fin 8) (addr : Nat) (hhalted : s.o (Obj.SLCn_LC_STATE n) = 0) :
    execFpCommit who n addr s = .next (s.dropped (windowAddr (Obj.SLCn_FP_COMMIT n)) addr who 6) := by
  have hnone : s.fpCommit n addr = none := by simp only [State.fpCommit, hhalted, if_true]
  rw [execFpCommit, hnone, Option.getD_none]

section
variable (who : Fin 8) (addr : Nat) (hrun : s.o (Obj.SLCn_LC_STATE n) ≠ 0)
include hrun

theorem execFpCommit_inTime (htime : s.now < s.fpDeadline n) :
    execFpCommit who n addr s = .next ((s.modSlice n (fun x => { x with
      checking := some ((s.fpCheck n addr).1, (s.fpCheck n addr).2.1, (s.fpCheck n addr).2.2.1,
        (s.fpCheck n addr).2.2.2) })).fpPipe n) := by
  simp only [execFpCommit, State.fpCommit, hrun, Nat.not_le.mpr htime, if_false, Option.getD_some]

theorem execFpCommit_late (hlate : s.fpDeadline n ≤ s.now) :
    execFpCommit who n addr s =
      .next ((s.modSlice n (fun x => { x with late := true })).fpRefuse n (2, 0, 0xFFFF)) := by
  simp only [execFpCommit, State.fpCommit, hrun, hlate, if_true, if_false, Option.getD_some]

end

/-! ## The two checks (R171, R172) -/

section
variable {p : Prog} {sl en : Nat}

theorem State.fpChecked_pass (hcheck : s.slices[n].checking = some (p, 1, sl, en)) :
    s.fpChecked n =
      ((s.modSlice n (fun x => { x with checking := none, pend := some p })).fpStatus n (1, sl, en)).fpPipe n := by
  simp only [State.fpChecked, hcheck, if_true]

/-- A program that fails its first check is refused; an earlier one that passed keeps its place. -/
theorem State.fpChecked_fail {c : Nat} (hcheck : s.slices[n].checking = some (p, c, sl, en)) (hfail : c ≠ 1) :
    s.fpChecked n =
      ((s.modSlice n (fun x => { x with checking := none, pend := x.pend })).fpRefuse n (c, sl, en)).fpPipe n := by
  simp only [State.fpChecked, hcheck, hfail, if_false]

/-- The deadline judges the pending program a second time, for the frame it will run in: a finding refuses it, and without one
it is ready. -/
theorem execCommitDeadline_pending {u v : State} (hrun : s.o (Obj.SLCn_LC_STATE n) ≠ 0)
    (hu : u = (s.upTo (s.fpDeadline n)).fpChecked n) (hpend : u.slices[n].pend = some p)
    (hv : v = u.modSlice n (fun x => { x with pend := none })) :
    execCommitDeadline n s = .next ((v.deadlineCheck n v.willBe p).elim
      ((v.modSlice n (fun x => { x with ready := some p })).fpPipe n) (fun f => (v.fpRefuse n f).fpPipe n)) := by
  simp only [execCommitDeadline, hrun, ← hu, hpend, ← hv, if_false]
  cases v.deadlineCheck n v.willBe p with
  | none => rfl
  | some f => rfl

end

/-! ## WITHDRAW, STOP and PARK (R168, R172, R175) -/

section
variable {n} (who : Fin 8)

theorem State.fpCmdBy_done {v : Nat} {t : State} (hcmd : s.fpCmd n v = some t) : s.fpCmdBy who n v = t := by
  rw [State.fpCmdBy, hcmd, Option.getD_some]

theorem State.fpCmdBy_refused {v : Nat} (hcmd : s.fpCmd n v = none) :
    s.fpCmdBy who n v = s.dropped (windowAddr (Obj.SLCn_FP_CMD n)) v who 6 := by
  rw [State.fpCmdBy, hcmd, Option.getD_none]

end

/-! ## Preparing an entry (R177) -/

section
variable {u : State} {r : EntryRun} (hnext : s.nextEntry n = some r)
  (hu : u = (s.upTo (r.start - 384)).modSlice n (fun x => { x with
    runs := x.runs.map (fun y => if y.index = r.index then { y with past := true } else y) }))
include hnext hu

theorem execEntryPrepare_stopped {c : Nat} (hstop : u.entryStops n r = some c) :
    execEntryPrepare n s = .next (u.entryEnd n ((s.upTo (r.start - 384)).ledIdx n r.index) 5 c 0) := by
  simp only [execEntryPrepare, hnext, ← hu, hstop]

theorem execEntryPrepare_go (hgo : u.entryStops n r = none) :
    execEntryPrepare n s = .next (u.entryGo n r ((s.upTo (r.start - 384)).ledIdx n r.index)) := by
  simp only [execEntryPrepare, hnext, ← hu, hgo]

end

/-! ## The uplink window and its gang ACK (R159, R180-R185) -/

section
variable {w : UpWin}

theorem execUplinkWindowClose_open (hopen : s.slices[n].wins.find? (fun w => !w.closed) = some w) :
    execUplinkWindowClose n s = .next ((s.upTo w.w).modSlice n (fun x => { x with
      wins := x.wins.map (fun y => if y.u = w.u then { y with closed := true } else y) })) := by
  simp only [execUplinkWindowClose, hopen]

/-- The verdict cutoff counts a late and b crowded frames (R182, R184). -/
def State.ackCounted (a b : Nat) : State :=
  (s.addO 32 (Obj.SLCn_ACK_LATEVERDICT n) a).addO 32 (Obj.SLCn_ACK_CROWDED n) b

theorem State.ackCounted_now (a b : Nat) : (s.ackCounted n a b).now = s.now := rfl

/-- The counts of the cutoff change no object but the two counters. -/
theorem State.ackCounted_o_of_ne (a b : Nat) {k : Key} (hlate : k ≠ Obj.SLCn_ACK_LATEVERDICT n)
    (hcrowded : k ≠ Obj.SLCn_ACK_CROWDED n) : (s.ackCounted n a b).o k = s.o k := by
  simp only [State.ackCounted, State.addO_o, hlate, hcrowded, if_false]

section
variable {u : State} {cand good : List RxElem} (hfix : s.slices[n].wins.find? (fun w => !w.fixed) = some w)
  (hu : u = (s.upTo (w.w + 384)).modSlice n (fun x => { x with
    wins := x.wins.map (fun y => if y.u = w.u then { y with closed := true, fixed := true } else y) }))
include hfix hu

/-- The cutoff makes the gang ACK for the best frame of each channel among the candidates whose verdicts and key serve, after
it counted the others. -/
theorem execAckVerdictCutoff_window
    (hcand : cand = if u.ob (Obj.SLCn_ACK_ENABLE n) then
      u.slices[n].rx.filter (fun e => e.window == some w.u && e.mayAck) else [])
    (hgood : good = cand.filter (fun e => e.readyBy (w.w + 384) && u.ackKey e)) :
    ∃ a b, execAckVerdictCutoff n s =
      .next ((u.ackCounted n a b).ackMake n w (good.filter (fun e => good.all (fun f => e.wins f)))) := by
  simp only [execAckVerdictCutoff, hfix, ← hu, ← hcand, ← hgood]
  exact ⟨_, _, rfl⟩

/-- With ACK_ENABLE clear no frame is a candidate. -/
theorem execAckVerdictCutoff_disabled (hoff : u.ob (Obj.SLCn_ACK_ENABLE n) = false) :
    ∃ a b, execAckVerdictCutoff n s = .next ((u.ackCounted n a b).ackMake n w []) :=
  execAckVerdictCutoff_window s n hfix hu (by rw [hoff, if_neg Bool.false_ne_true]) List.filter_nil.symm

theorem execAckVerdictCutoff_enabled (hon : u.ob (Obj.SLCn_ACK_ENABLE n) = true)
    (hgood : good = (u.slices[n].rx.filter (fun e => e.window == some w.u && e.mayAck)).filter
      (fun e => e.readyBy (w.w + 384) && u.ackKey e)) :
    ∃ a b, execAckVerdictCutoff n s =
      .next ((u.ackCounted n a b).ackMake n w (good.filter (fun e => good.all (fun f => e.wins f)))) :=
  execAckVerdictCutoff_window s n hfix hu (if_pos hon).symm hgood

end
end

/-! ## Listen-before-talk (R241-R243) -/

theorem State.freeBelow_lt {m : Nat} (hm : 0 < m) : s.freeBelow m < m := Nat.mod_lt _ hm

section
variable {u : State} {t : TxSt} {pw : List Int} {r : List (Bool × Bool)} (hnext : s.nextAssess n = some t)
  (hsend : (s.upTo t.at_).canSend n = true)
  (hr : r = (List.zip (List.range t.chans.length) t.chans).map
    (fun x => (s.upTo t.at_).assess n x.2.bank x.2.chan (nth pw x.1 0)))
include hnext hsend hr

theorem execCcaAssess_clear (hclear : r.all (fun x => x.2) = true) :
    execCcaAssess n pw s = .next ((s.upTo t.at_).rampUp n t) := by
  simp only [execCcaAssess, hnext, hsend, ← hr, hclear, Bool.not_true, Bool.false_eq_true, if_true, if_false]

/-- A backoff whose longest draw still reaches the ramp by the entry's tolerance sets the next assessment. -/
theorem execCcaAssess_backoff (hbe : t.be ≤ 5) (hbusy : r.all (fun x => x.2) = false)
    (hu : u = if r.any (fun x => !x.1) then ((s.upTo t.at_).inc Obj.AIR_CCA_BUSY).inc Obj.AIR_CCA_NOMEAS
      else (s.upTo t.at_).inc Obj.AIR_CCA_BUSY)
    (htime : t.at_ + 2 ^ t.be * 2458 + 96 ≤ t.start + t.tol) :
    execCcaAssess n pw s = .next (u.drawnReq.putTx n { t with
      at_ := t.at_ + (u.freeBelow (2 ^ t.be) + 1) * 2458, be := min 5 (t.be + 1) }) := by
  have hdrawn : t.be ≠ 0xFF := by omega
  have hdraw : (u.freeBelow (2 ^ t.be) + 1) * 2458 ≤ 2 ^ t.be * 2458 :=
    Nat.mul_le_mul_right 2458 (u.freeBelow_lt (Nat.two_pow_pos t.be))
  have hreach : ¬ t.start + t.tol < t.at_ + (u.freeBelow (2 ^ t.be) + 1) * 2458 + 96 :=
    Nat.not_lt.mpr (Nat.le_trans (Nat.add_le_add_right (Nat.add_le_add_left hdraw t.at_) 96) htime)
  simp only [execCcaAssess, hnext, hsend, ← hr, hbusy, ← hu, hdrawn, hreach, Bool.not_true, Bool.false_eq_true, if_false]

end
end

/-! ## The obligations -/

/-- Settles O9: each clause is what its command does under the conditions it names; the three commands on the pipeline share
`State.fpCmdBy_done`. -/
theorem frameProgramsAreCommitted : Obligations.FrameProgramsAreCommitted := by
  refine ⟨fun s who n => execFpCommit_inTime s n who, fun s who n => execFpCommit_late s n who,
    fun s who n => execFpCommit_halted s n who, fun s n _ _ _ hcheck => congrArg _ (s.fpChecked_pass n hcheck),
    fun s n _ _ _ _ hcheck hfail => congrArg _ (s.fpChecked_fail n hcheck hfail),
    fun s u n p hrun hu hpend => ?_,
    fun s _ who _ hcmd => congrArg _ (s.fpCmdBy_done (v := 1) who hcmd),
    fun s who _ hcmd => congrArg _ (s.fpCmdBy_refused (v := 1) who hcmd),
    fun s _ who _ hcmd => congrArg _ (s.fpCmdBy_done (v := 2) who hcmd),
    fun s _ who _ hcmd => congrArg _ (s.fpCmdBy_done (v := 3) who hcmd)⟩
  refine (execCommitDeadline_pending (v := u.modSlice n (fun x => { x with pend := none })) s n hrun hu hpend rfl).trans ?_
  cases State.deadlineCheck _ n _ p with
  | none => rfl
  | some f => rfl

/-- Settles O10: each clause is what its command does under the conditions it names; the two clauses on the verdict cutoff
share `execAckVerdictCutoff_window`. -/
theorem entriesAreSentAndAcknowledged : Obligations.EntriesAreSentAndAcknowledged := by
  refine ⟨fun s u n r c hnext hu => execEntryPrepare_stopped s n hnext hu, fun s u n r => execEntryPrepare_go s n,
    fun s n w => execUplinkWindowClose_open s n, fun s n w hfix hoff => ?_, fun s u n w good hfix hu hon hgood => ?_,
    fun s n pw t hnext hsend => execCcaAssess_clear s n hnext hsend rfl,
    fun s u n pw t hnext hbe hsend hbusy hu => execCcaAssess_backoff s n hnext hsend rfl hbe hbusy hu, fun s => rfl⟩
  · obtain ⟨a, b, hexec⟩ := execAckVerdictCutoff_disabled s n hfix rfl hoff
    exact ⟨_, hexec, State.ackCounted_now _ n a b, fun k => State.ackCounted_o_of_ne _ n a b⟩
  · have henabled : u.ob (Obj.SLCn_ACK_ENABLE n) = true := by rw [hu]; exact hon
    obtain ⟨a, b, hexec⟩ := execAckVerdictCutoff_enabled s n hfix hu henabled hgood
    exact ⟨_, hexec, fun k => State.ackCounted_o_of_ne u n a b⟩

end Sys2Proof.Machine

/-! O13: the window of a sender, from the counters that it accepts to its verdict on a counter that comes again. -/
namespace Sys2Proof.Machine

section
variable {w v : SeqWin} {roll : Option (Nat × Nat)} {k c n : Nat} {r : Bool}

/-! ## A counter behind the highest (R218) -/

theorem SeqWin.judge_replay (hc : c ≤ w.h) (hold : c + 64 ≤ w.h ∨ c < w.floor) :
    w.judge roll w.key c = (2, false, w) := by
  have hback : 64 ≤ w.h - c ∨ c < w.floor := hold.imp_left Nat.le_sub_of_add_le'
  simp [SeqWin.judge, Nat.not_lt.mpr hc, hback]

/-- The window is of key k and its bit for counter c, which is in reach, is set. -/
structure SeqWin.Holds (w : SeqWin) (k c : Nat) : Prop where
  key : w.key = k
  le : c ≤ w.h
  near : w.h < c + 64
  floor : w.floor ≤ c
  bit : bitOf w.bits (w.h - c) = true

/-- A counter that the window holds is a duplicate and leaves the window as it is. -/
theorem SeqWin.Holds.judge (hw : w.Holds k c) : w.judge roll k c = (1, false, w) := by
  have hback : ¬ (64 ≤ w.h - c ∨ c < w.floor) := by have := hw.near; have := hw.floor; omega
  simp [SeqWin.judge, hw.key, Nat.not_lt.mpr hw.le, hback, hw.bit]

/-! ## What a verdict leaves of the window (R218) -/

/-- What a verdict n on counter c under key k makes of a window: a refusal leaves it; an accepted counter starts it again
under another key (a key roll), becomes its highest, or is marked in reach behind the highest. -/
inductive SeqWin.Judged (w : SeqWin) (k c : Nat) : Nat → SeqWin → Prop where
  | refused {n : Nat} (hn : n ≠ 0) : w.Judged k c n w
  | rolled (hkey : k ≠ w.key) : w.Judged k c 0 (freshWin k c)
  | raised (hkey : w.key = k) (habove : w.h < c) (b : Nat) : w.Judged k c 0 { w with h := c, bits := setBit b 0 true }
  | marked (hkey : w.key = k) (hle : c ≤ w.h) (hnear : w.h < c + 64) (hfloor : w.floor ≤ c) :
    w.Judged k c 0 { w with bits := setBit w.bits (w.h - c) true }

theorem SeqWin.judged_of_judge (hjudge : w.judge roll k c = (n, r, v)) : w.Judged k c n v := by
  simp only [SeqWin.judge] at hjudge
  split at hjudge
  case isTrue hkey =>
    split at hjudge <;> cases hjudge
    · exact .rolled hkey
    · exact .refused (by decide)
  case isFalse hkey =>
    have hkey : w.key = k := (Decidable.not_not.mp hkey).symm
    split at hjudge
    case isTrue habove =>
      cases hjudge
      exact .raised hkey habove _
    case isFalse hbehind =>
      split at hjudge
      · cases hjudge
        exact .refused (by decide)
      case isFalse hreach =>
        simp only [Bool.or_eq_true, decide_eq_true_eq] at hreach
        split at hjudge <;> cases hjudge
        · exact .refused (by decide)
        · exact .marked hkey (by omega) (by omega) (by omega)

theorem SeqWin.Judged.holds (hv : w.Judged k c 0 v) (hfloor : w.floor ≤ w.h) : v.Holds k c := by
  have hself : c < c + 64 := Nat.lt_add_of_pos_right (by decide)
  cases hv with
  | refused hn => exact absurd rfl hn
  | rolled => exact ⟨rfl, Nat.le_refl _, hself, Nat.le_refl _, by simp [freshWin, bitOf]⟩
  | raised hkey habove b =>
    exact ⟨hkey, Nat.le_refl _, hself, Nat.le_trans hfloor (Nat.le_of_lt habove), by simp [bitOf_setBit]⟩
  | marked hkey hle hnear hfl => exact ⟨hkey, hle, hnear, hfl, bitOf_setBit ..⟩

/-- Under its own key a window never falls, and keeps its key and its floor. -/
theorem SeqWin.Judged.ownKey (hv : w.Judged w.key c n v) : w.h ≤ v.h ∧ v.key = w.key ∧ v.floor = w.floor := by
  cases hv with
  | refused => exact ⟨Nat.le_refl _, rfl, rfl⟩
  | rolled hkey => exact absurd rfl hkey
  | raised _ habove => exact ⟨Nat.le_of_lt habove, rfl, rfl⟩
  | marked => exact ⟨Nat.le_refl _, rfl, rfl⟩

end

/-! ## The obligation -/

/-- Settles O13: whichever way a counter was accepted, the window then holds it (`SeqWin.Judged.holds`), and a counter that a
window holds is a duplicate (`SeqWin.Holds.judge`). -/
theorem sequenceWindowTakesACounterOnce : Obligations.SequenceWindowTakesACounterOnce := by
  refine ⟨fun w v roll k c r hfloor hjudge => ?_, fun w roll c hc hold => SeqWin.judge_replay hc hold,
    fun w v roll c n r hjudge => (SeqWin.judged_of_judge hjudge).ownKey⟩
  have hholds := (SeqWin.judged_of_judge hjudge).holds hfloor
  exact ⟨hholds.judge, Nat.le_trans hholds.floor hholds.le⟩

end Sys2Proof.Machine

/-! O14: a flood message from the queue of arrivals to its verdict, the wired and the radio steps of its relay, and the jobs
that originate a flood or send a unicast. -/
namespace Sys2Proof.Machine

section
variable (s : State)

/-! ## Taking a message (R246, R247, R252) -/

/-- The engine sleeps while SYSCLK is stopped. -/
theorem execFloodTake_asleep (hstop : s.sysclk = false) : execFloodTake s = .next s := by
  simp only [execFloodTake, hstop, Bool.not_false, if_true]

section
variable {t : State} {m : InMsg} (hclk : s.sysclk = true) (htake : s.takeMsg (fun m => m.flood) = (some m, t))
include hclk htake

/-- The first of checks 1 to 6 that fails drops the message. -/
theorem execFloodTake_drop {code : Nat} (hcheck : t.floodCheck m.msg = some code) :
    execFloodTake s = .next (t.floodDrop m code) := by
  simp only [execFloodTake, hclk, htake, hcheck, Bool.not_true, Bool.false_eq_true, if_false]

section
variable (hpass : t.floodCheck m.msg = none)
include hpass

/-- A message whose entry the Husk cache holds is a duplicate. -/
theorem execFloodTake_dup (hheld : t.huskHit m.msg = true) : execFloodTake s = .next (t.floodDup m) := by
  simp only [execFloodTake, hclk, htake, hpass, hheld, Bool.not_true, Bool.false_eq_true, if_true, if_false]

/-- A message that the Husk cache lacks is new where the delivery ring has room. -/
theorem execFloodTake_new (hlacks : t.huskHit m.msg = false)
    (hroom : t.ringUsed Obj.FLD_DQ_PROD Obj.FLD_DQ_CONS < 256) : execFloodTake s = .next (t.floodNew m) := by
  simp only [execFloodTake, hclk, htake, hpass, hlacks, Nat.not_le.mpr hroom, Bool.not_true, Bool.false_eq_true, if_false]

end
end

/-! ## Wired steps (R255, R289) -/

section
variable {p : Fin 2} {j : StepJob}

theorem State.portUp_of_hasPeer (hpeer : s.hasPeer p = true) : s.portUp p = true := by
  have hstate : s.o (Obj.FAB_Wp_STATE p) = 2 := beq_iff_eq.mp hpeer
  rw [State.portUp, hstate]
  rfl

/-- A wired step with a peer and a credit ends, without a cause, as its datagram leaves. -/
theorem State.wireStep_sent {k : Nat} {t : State} (hpeer : s.hasPeer p = true) (hcredit : s.fab.wires[p].avail ≠ 0)
    (hsend : s.wireSend p j.msg true = some t) : s.wireStep p j k = t.stepEnd j.ticket k 0 := by
  simp only [State.wireStep, s.portUp_of_hasPeer hpeer, hpeer, hcredit, hsend, Bool.not_true, Bool.false_or,
    decide_false, Bool.false_eq_true, if_false]

section
variable (hjob : s.wireJob p = some j)
include hjob

theorem execFloodWiredSend_late (hlate : j.wireBy < s.now) :
    execFloodWiredSend p s = .next (s.stepEnd j.ticket p 0x14) := by
  simp only [execFloodWiredSend, hjob, hlate, if_true]

theorem execFloodWiredSend_inTime (htime : ¬ j.wireBy < s.now) :
    execFloodWiredSend p s = .next (s.wireStep p j p) := by
  simp only [execFloodWiredSend, hjob, htime, if_false]

end

theorem State.wireLate_flood {k : Nat} (hjob : s.stepJob k = some j) (hflood : j.fabric = false) :
    s.wireLate k p = (s.upTo j.wireBy).stepEnd k p 0x14 := by
  simp only [State.wireLate, hjob, hflood, Bool.not_false, if_true]

end

/-! ## Radio steps (R256-R259), of the relay queue and of the fabric's forward queue -/

/-- At E a job that is past QUEUED, of a class that suppresses none, begins its radio steps. -/
theorem execFloodJitterEnd_begins {u : State} {k : Nat} {j : StepJob}
    (hjob : s.steps.jobs.find? (fun j => j.ticket == k && j.jitter && !j.fabric) = some j)
    (hu : u = (s.upTo j.e).modJob k (fun j => { j with jitter := false })) (hrun : u.recState (ledAddr k) ≠ 1)
    (hsup : u.o (Obj.FLD_Cc_SUPPRESS j.cls) = 0) :
    execFloodJitterEnd k s = .next ((fin4.filter (fun n => bitOf j.sel (2 + n.val))).foldl
      (fun s n => s.radioStep j n (2 + n.val) j.cls 0xFFF) u) := by
  simp only [execFloodJitterEnd, hjob, ← hu, hrun, hsup, ne_eq, not_true_eq_false, decide_false, Bool.false_and,
    Bool.false_eq_true, if_false]

section
variable (fabric : Bool) (n : Fin 4) {i : Nat}

section
variable {j : StepJob} (hready : s.descState fabric n i = 1) (hjob : s.descJob fabric n i = some j)
include hready hjob

/-- A bind whose instant is valid and lies with its tolerance between E + 384 µt and X makes a READY descriptor BOUND. -/
theorem State.bind_inTime (hi : i ≤ 15) (hvalid : ttValid (s.rn (s.descAddr fabric n i + 24) 8) = true)
    (hfirst : j.e + 384 ≤ linear (s.rn (s.descAddr fabric n i + 24) 8))
    (hlast : linear (s.rn (s.descAddr fabric n i + 24) 8) + s.rn (s.descAddr fabric n i + 6) 2 ≤ j.x) :
    s.bind fabric n i = some ((s.setDesc fabric n i 2).modSteps (fun x => { x with
      binds := x.binds ++ [⟨fabric, n, i, j.ticket, radioStepNo fabric n,
        linear (s.rn (s.descAddr fabric n i + 24) 8), none⟩] })) := by
  simp only [State.bind, Nat.not_lt.mpr hi, hready, hjob, hvalid, hfirst, hlast, decide_true, Bool.and_self, if_true,
    if_false]

/-- A descriptor still READY at X is FREE again and its step ends; the relay queue counts a miss. -/
theorem State.descLate_ready :
    s.descLate fabric n i = (if fabric then (s.upTo j.x).setDesc fabric n i 0
      else ((s.upTo j.x).setDesc fabric n i 0).miss 9 5 j.x).stepEnd j.ticket (radioStepNo fabric n) 0x10 := by
  simp only [State.descLate, hready, hjob, if_true]

end

/-- A BOUND descriptor on whose buffer no entry starts at its instant is FREE again and its step ends; the relay queue
counts a miss. -/
theorem State.boundSettle_notPlaced {b : BindSt} {u : State}
    (hbind : s.steps.binds.find? (fun b => b.fabric == fabric && b.slice == n && b.desc == i && b.follows.isNone) = some b)
    (hu : u = s.upTo (b.at_ - 384))
    (hentry : u.slices[n].runs.find? (fun r => decide (r.start = b.at_) && eKind r.body == 1 &&
      fieldN r.body 28 4 == u.bufAddr fabric n i) = none) :
    s.boundSettle fabric n i =
      (if fabric then u.unbind b else (u.unbind b).miss 9 5 (b.at_ - 384)).stepEnd b.ticket b.step 0x13 := by
  simp only [State.boundSettle, hbind, ← hu, hentry]

end

theorem execRelayBind_bound (who : Fin 8) (n : Fin 4) {i : Nat} {t : State} (hbind : s.bind false n i = some t) :
    execRelayBind who n i s = .next t := by
  rw [execRelayBind, hbind, Option.getD_some]

/-! ## The consumer index of the delivery ring (R253) -/

section
variable (who : Fin 8) {v : Nat}

theorem execFldDqConsWrite_taken (hok : consOk 65536 (s.o Obj.FLD_DQ_CONS) (s.o Obj.FLD_DQ_PROD) v = true) :
    execFldDqConsWrite who v s = .next (s.setO Obj.FLD_DQ_CONS v) := by
  simp only [execFldDqConsWrite, State.dqCons, hok, if_true, Option.getD_some]

theorem execFldDqConsWrite_refused (hbad : consOk 65536 (s.o Obj.FLD_DQ_CONS) (s.o Obj.FLD_DQ_PROD) v = false) :
    execFldDqConsWrite who v s = .next (s.dropped (windowAddr Obj.FLD_DQ_CONS) v who 3) := by
  simp only [execFldDqConsWrite, State.dqCons, hbad, Bool.false_eq_true, if_false, Option.getD_none]

end

/-! ## The jobs of the flooding and the fabric engine (R260, R286, R378; log 167) -/

section
variable {who : Fin 8} {a : Nat} {x : JobSt}

theorem execJobFlood_accepts (hfront : (s.submitKind who a 7).engineJob who = some x) (hkind : dKind x.desc = 7) :
    execJobFlood who a s = .next ((s.submitKind who a 7).floodAccept x) := by
  simp only [execJobFlood, hfront, hkind, if_true]

theorem execJobSend_accepts (hfront : (s.submitKind who a 8).engineJob who = some x) (hkind : dKind x.desc = 8) :
    execJobSend who a s = .next ((s.submitKind who a 8).sendAccept x) := by
  simp only [execJobSend, hfront, hkind, if_true]

end
end

/-! ## The obligation -/

/-- Settles O14: each clause is what its command does under the conditions it names; a wired step with a peer, a credit and a
ready counter has its datagram leave (`State.wireSend_some`), and the radio clauses are the relay queue's case of the lemmas on
descriptors. -/
theorem floodMessagesAreTakenOnce : Obligations.FloodMessagesAreTakenOnce := by
  refine ⟨fun s t m code hclk htake => execFloodTake_drop s hclk htake,
    fun s t m hclk htake hpass => execFloodTake_dup s hclk htake hpass,
    fun s t m hclk htake hpass => execFloodTake_new s hclk htake hpass, fun s => execFloodTake_asleep s,
    fun s p j hjob htime hpeer hcredit hctr => ?_, fun s p j hjob => execFloodWiredSend_late s hjob,
    fun s k p j hjob hflood => congrArg _ (s.wireLate_flood hjob hflood),
    fun s u k j hjob hu => execFloodJitterEnd_begins s hjob hu,
    fun s who n i j hi hready hjob hvalid hfirst hlast =>
      execRelayBind_bound s who n (s.bind_inTime false n hready hjob hi hvalid hfirst hlast),
    fun s n i j hready hjob => congrArg _ (s.descLate_ready false n hready hjob),
    fun s n i b hbind hentry => congrArg _ (s.boundSettle_notPlaced false n hbind rfl hentry),
    fun s who v => execFldDqConsWrite_taken s who, fun s who v => execFldDqConsWrite_refused s who,
    fun s who a x => execJobFlood_accepts s, fun s who a x => execJobSend_accepts s⟩
  obtain ⟨t, hsend⟩ := State.wireSend_some (m := j.msg) (spend := true) hctr
  exact ⟨t, hsend, (execFloodWiredSend_inTime s hjob htime).trans (congrArg _ (s.wireStep_sent hpeer hcredit hsend))⟩

end Sys2Proof.Machine

/-! O15, O16 and O17: datagrams and peers of the fabric, the claim and the defence of an address, and the unicasts that are
delivered or forwarded. -/
namespace Sys2Proof.Machine

section
variable (s : State)

/-! ## Datagrams (R265) -/

section
variable {p : Fin 2} {hop : Nat} {sumOk : Bool} {d : Bytes}

theorem execFabricDatagramRx_up (hup : s.portUp p = true) :
    execFabricDatagramRx p hop sumOk d s = .next (s.fabricRx p hop sumOk d) := if_pos hup

theorem State.fabricRx_tooLong (hlong : 1024 < d.length) : s.fabricRx p hop sumOk d = s.inc (Obj.FAB_Wp_RXDROP p) :=
  if_pos hlong

end

/-! ## The loss of a peer (R269, R289) -/

section
variable (p : Fin 2)

/-- An object of a subindex below b is none of the objects of subindices from b on. -/
theorem ne_okey_of_sub_lt {k : Key} {b i sub : Nat} (hk : k % 256 < b) (hb : b ≤ sub) (hsub : sub < 256) : k ≠ okey i sub := by
  simp only [okey, Key] at hk ⊢
  omega

/-- The credit books write the objects of subindices 7 to 9 of the ports, and no object below them. -/
theorem State.clearBooks_o {k : Key} (hk : k % 256 < 7) : (s.clearBooks p).o k = s.o k := by
  have hheld (q : Fin 2) : k ≠ Obj.FAB_Wp_RX_HELD q := ne_okey_of_sub_lt hk (by decide) (by decide)
  have havail : k ≠ Obj.FAB_Wp_CR_AVAIL p := ne_okey_of_sub_lt hk (by decide) (by decide)
  have hout : k ≠ Obj.FAB_Wp_CR_OUT p := ne_okey_of_sub_lt hk (by decide) (by decide)
  simp only [State.clearBooks, State.syncCredit, State.syncHeld, State.modWire, State.modPool, fin2, List.foldl_cons,
    List.foldl_nil, State.setO_o, State.modFab_o, State.modJobs_o, hheld, havail, hout, if_false]

theorem State.clearBooks_mem : (s.clearBooks p).mem = s.mem := by
  simp only [State.clearBooks, State.syncCredit, State.syncHeld, State.modWire, State.modPool, fin2, List.foldl_cons,
    List.foldl_nil, State.setO_mem, State.modFab_mem, State.modJobs_mem]

theorem State.clearBooks_cores : (s.clearBooks p).cores = s.cores := by
  simp only [State.clearBooks, State.syncCredit, State.syncHeld, State.modWire, State.modPool, fin2, List.foldl_cons,
    List.foldl_nil, State.setO_cores, State.modFab_cores, State.modJobs_cores]

theorem State.timeMiss_o {k : Key} (hk : k ≠ Obj.FAB_MISSES) : s.timeMiss.o k = s.o k := by
  simp only [State.timeMiss, State.modFab_o, State.setO_o, hk, if_false]

section
variable (hpeer : s.hasPeer p = true)
include hpeer

/-- Of the objects of subindices below 7, the loss of a peer writes STATE, PEER and PEER_UID of its port alone. -/
theorem State.peerGone_o {k : Key} (hk : k % 256 < 7) : (s.peerGone p).o k =
    (((s.setO (Obj.FAB_Wp_STATE p) 1).setO (Obj.FAB_Wp_PEER p) 0).setO (Obj.FAB_Wp_PEER_UID p) 0).o k := by
  have hmisses : k ≠ Obj.FAB_MISSES := ne_okey_of_sub_lt hk (by decide) (by decide)
  have hflush (t : State) : (t.portFlush p).o k = t.o k :=
    (t.portFlush_keeps p).2.2 k (ne_okey_of_sub_lt hk (by decide) (by decide))
  simp only [State.peerGone, hpeer, if_true]
  split <;> simp only [State.timeMiss_o _ hmisses, hflush, State.clearBooks_o _ _ hk, State.modWire, State.modFab_o]

theorem State.peerGone_mem : (s.peerGone p).mem = s.mem := by
  have hflush (t : State) : (t.portFlush p).mem = t.mem := (t.portFlush_keeps p).1
  simp only [State.peerGone, hpeer, if_true]
  split <;> simp only [State.timeMiss, State.modWire, State.modFab_mem, State.setO_mem, State.clearBooks_mem, hflush]

theorem State.peerGone_cores : (s.peerGone p).cores = s.cores := by
  have hflush (t : State) : (t.portFlush p).cores = t.cores := (t.portFlush_keeps p).2.1
  simp only [State.peerGone, hpeer, if_true]
  split <;> simp only [State.timeMiss, State.modWire, State.modFab_cores, State.setO_cores, State.clearBooks_cores, hflush]

theorem State.peerGone_peer : (s.peerGone p).o (Obj.FAB_Wp_STATE p) = 1 ∧ (s.peerGone p).o (Obj.FAB_Wp_PEER p) = 0 ∧
    (s.peerGone p).o (Obj.FAB_Wp_PEER_UID p) = 0 := by
  have hlow (sub : Nat) (h : sub < 7) : okey (0x1310 + p) sub % 256 < 7 := by simp only [okey, Key]; omega
  have hpeerKey : Obj.FAB_Wp_STATE p ≠ Obj.FAB_Wp_PEER p := okey_ne (by decide) (by decide) (.inr (by decide))
  have huidKey : Obj.FAB_Wp_STATE p ≠ Obj.FAB_Wp_PEER_UID p := okey_ne (by decide) (by decide) (.inr (by decide))
  have hidKey : Obj.FAB_Wp_PEER p ≠ Obj.FAB_Wp_PEER_UID p := okey_ne (by decide) (by decide) (.inr (by decide))
  rw [s.peerGone_o p hpeer (hlow 1 (by decide)), s.peerGone_o p hpeer (hlow 2 (by decide)),
    s.peerGone_o p hpeer (hlow 3 (by decide))]
  simp only [State.setO_o, hpeerKey, huidKey, hidKey, if_true, if_false, and_self]

end

theorem execPeerLost_silent (hquiet : 3 ≤ s.fab.wires[p].quiet) : execPeerLost p s = .next (s.peerGone p) := if_pos hquiet

end

/-! ## HELLO (R269) and the Trail commit (R282) -/

section
variable {p : Fin 2}

theorem execHelloSend_sends {t : State} (hup : s.portUp p = true) (hsend : s.wireSend p (s.hello p) false = some t) :
    execHelloSend p s = .next t := by
  rw [execHelloSend, if_pos hup, hsend, Option.getD_some]

theorem execHelloRx_takes {t : State} {m : InMsg}
    (htake : s.takeMsg (fun m => m.kind == 1 && m.src == 4 + p.val) = (some m, t)) (hlen : m.msg.length = 22) :
    execHelloRx p s = .next ((t.dropMsg m).helloTake p m) := by
  simp only [execHelloRx, htake, hlen, if_true]

end

section
variable (who : Fin 8) {v : Nat}

/-- The copy that is not current becomes so at the next boundary. -/
theorem execFabTrailCommit_staged (hcopy : v ≤ 1) (hother : v ≠ s.o Obj.FAB_TRAIL_CUR) :
    execFabTrailCommit who v s = .next (s.modFab (fun x => { x with trailNext := some v })) := by
  simp only [execFabTrailCommit, State.trailCommit, Nat.not_lt.mpr hcopy, hother, if_false, Option.getD_some]

theorem execFabTrailCommit_refused (hbad : 1 < v) :
    execFabTrailCommit who v s = .next (s.dropped (windowAddr Obj.FAB_TRAIL_COMMIT) v who 3) := by
  simp only [execFabTrailCommit, State.trailCommit, hbad, if_true, Option.getD_none]

end

/-! ## Taking an address (R273) -/

theorem execAddrListenEnd_claims {a k : Nat} {u : State} (hstate : s.o Obj.FAB_ADDR_STATE = 1)
    (hdue : s.fab.stateSf + s.o Obj.FAB_LISTEN ≤ s.runSf) (hpick : s.addrPick = some (a, k))
    (hu : u = (((s.putAddr a).setO Obj.FAB_HELD_SINCE (tt64 s.now)).addrState 2).modFab (fun x => { x with attempt := k })) :
    execAddrListenEnd s = .next (u.firmFlood 5 1 15
      ([0, 0] ++ leBytes 2 a ++ leBytes 8 (u.o Obj.ID_UID) ++ leBytes 8 (u.o Obj.FAB_HELD_SINCE))) := by
  simp only [execAddrListenEnd, hstate, hdue, hpick, ← hu, decide_true, Bool.or_true, Bool.and_true, if_true]

theorem execAddrClaimWaitEnd_holds (hstate : s.o Obj.FAB_ADDR_STATE = 2)
    (hdue : s.fab.stateSf + s.o Obj.FAB_CLAIM_WAIT ≤ s.runSf) :
    execAddrClaimWaitEnd s = .next (s.addrState 3).unparkAll := by
  simp only [execAddrClaimWaitEnd, hstate, hdue, decide_true, Bool.and_true, if_true]

/-! ## Conflicts (R274-R276) -/

section
variable {i : Nat} (hclass : fieldN (s.floodElem i) 1 1 = 1)
include hclass

theorem execClaimRx_claim (hlen : (s.elemPayload (s.floodElem i)).length = 20)
    (hkind : fieldN (s.elemPayload (s.floodElem i)) 0 1 = 0) :
    execClaimRx i s = .next (s.claimTake (conflictOf (s.elemPayload (s.floodElem i)))) := by
  simp only [execClaimRx, hclass, hlen, hkind, ne_eq, not_true_eq_false, beq_self_eq_true, decide_true, Bool.and_self,
    if_true, if_false]

theorem execClaimRx_conflict (hlen : (s.elemPayload (s.floodElem i)).length = 36)
    (hkind : fieldN (s.elemPayload (s.floodElem i)) 0 1 = 1) :
    execClaimRx i s = .next (s.conflictTake (conflictOf (s.elemPayload (s.floodElem i)))) := by
  have hnotClaim : ((36 : Nat) = 20) = False := by decide
  simp only [execClaimRx, hclass, hlen, hkind, hnotClaim, ne_eq, not_true_eq_false, beq_self_eq_true, decide_true,
    decide_false, Bool.false_and, Bool.and_self, Bool.false_eq_true, if_true, if_false]

end

/-- The CONFLICT that is due first floods, and acts on this anchor as a received one. -/
theorem execConflictOriginate_due {d : ConflictDue} {u : State} (hdue : firstDue s.fab.due = some d)
    (hu : u = (s.upTo d.at_).modFab (fun x => { x with
      due := s.fab.due.erase d
      sent := ((conflictOf d.body).pair, (s.upTo d.at_).runSf) :: x.sent.filter (fun y => y.1 != (conflictOf d.body).pair) })) :
    execConflictOriginate s = .next ((u.firmFlood 5 1 15 d.body).conflictTake (conflictOf d.body)) := by
  simp only [execConflictOriginate, hdue, ← hu]

theorem execConflictWaitEnd_loses (hstate : s.o Obj.FAB_ADDR_STATE = 4)
    (hdue : s.fab.stateSf + s.o Obj.FAB_CONFLICT_WAIT ≤ s.runSf) :
    execConflictWaitEnd s = .next ((s.drawn).conflictEvent (s.ownConflict 1 (s.freeBelow (2 ^ 64)) 0)).addrLose := by
  simp only [execConflictWaitEnd, hstate, hdue, decide_true, Bool.and_true, if_true]

/-! ## A UNICAST that arrived (R284, R287) -/

section
variable {t u : State} {m : InMsg} {due : Nat}
  (htake : s.takeMsg (fun m => m.kind == 5) = (some m, t)) (hhead : 18 ≤ m.msg.length)
  (hlen : fieldN m.msg 16 2 + 18 = m.msg.length) (hfinal : uniAddr (fieldN m.msg 4 2) = true)
  (horigin : uniAddr (fieldN m.msg 2 2) = true) (hdue : t.dueMiss (fieldN m.msg 8 8) m.at_ = (due, u))
include htake hhead hlen hfinal horigin hdue

theorem execUnicastTake_delivers {v : State} (hholds : u.holdsAddr = true)
    (hmine : fieldN m.msg 4 2 % 4096 = u.o Obj.FAB_ADDR) (hdeliver : u.uniDeliver m.src m.msg (m.addrOf 18) = some v) :
    execUnicastTake s = .next (v.keepMsg m) := by
  simp only [execUnicastTake, htake, Nat.not_lt.mpr hhead, hlen, hfinal, horigin, hdue, hholds, hmine, hdeliver, ne_eq,
    not_true_eq_false, decide_false, Bool.not_true, Bool.or_self, beq_self_eq_true, Bool.and_self, Bool.false_eq_true,
    if_true, if_false]

theorem execUnicastTake_forwards (hother : fieldN m.msg 4 2 % 4096 ≠ u.o Obj.FAB_ADDR) :
    execUnicastTake s = .next (u.uniForward m due) := by
  simp only [execUnicastTake, htake, Nat.not_lt.mpr hhead, hlen, hfinal, horigin, hdue, beq_eq_false_iff_ne.mpr hother,
    ne_eq, not_true_eq_false, decide_false, Bool.not_true, Bool.or_self, Bool.and_false, Bool.false_eq_true, if_false]

end

/-! ## The step of a forward (R284, R285) -/

section
variable {p : Fin 2} {j : StepJob} (hjob : s.steps.jobs.find? (fun j => j.fabric && j.cls == p.val) = some j)
include hjob

theorem execUnicastWiredSend_late (hlate : j.wireBy < s.now) :
    execUnicastWiredSend p s = .next (s.stepEnd j.ticket 0 0x14) := by
  simp only [execUnicastWiredSend, hjob, hlate, if_true]

section
variable (htime : ¬ j.wireBy < s.now)
include htime

/-- With a credit the step starts, and a DUE that has passed counts a miss first. -/
theorem execUnicastWiredSend_starts (hcredit : s.creditFor p = true) :
    execUnicastWiredSend p s = .next ((s.dueMiss j.due s.now).2.wireStep p j 0) := by
  simp only [execUnicastWiredSend, hjob, htime, hcredit, if_true, if_false]

theorem execUnicastWiredSend_noCredit (hcredit : s.creditFor p = false) :
    execUnicastWiredSend p s = .next (s.wireStep p j 0) := by
  simp only [execUnicastWiredSend, hjob, htime, hcredit, Bool.false_eq_true, if_false]

end
end

theorem execForwardBind_bound (who : Fin 8) (n : Fin 4) {i : Nat} {t : State} (hbind : s.bind true n i = some t) :
    execForwardBind who n i s = .next t := by
  rw [execForwardBind, hbind, Option.getD_some]

end

/-! ## The obligations -/

/-- Settles O15: each clause is what its command does under the conditions it names; the lost peer's objects are those that
`State.peerGone_o` names, and a HELLO whose counter is ready leaves (`State.wireSend_some`). -/
theorem fabricDatagramsAndPeers : Obligations.FabricDatagramsAndPeers := by
  refine ⟨fun s p hop sumOk d hup => execFabricDatagramRx_up s hup,
    fun s p hop sumOk d hup hlong => (execFabricDatagramRx_up s hup).trans (congrArg _ (s.fabricRx_tooLong hlong)),
    fun s p hquiet hpeer _ => ?_, fun s p hup hctr => ?_, fun s t p m htake hlen => execHelloRx_takes s htake hlen,
    fun s who v hcopy hother => execFabTrailCommit_staged s who hcopy hother,
    fun s who v hbad => execFabTrailCommit_refused s who hbad⟩
  · obtain ⟨hstate, haddr, huid⟩ := s.peerGone_peer p hpeer
    exact ⟨s.peerGone p, execPeerLost_silent s p hquiet, hstate, haddr, huid, s.peerGone_mem p hpeer,
      s.peerGone_cores p hpeer⟩
  · obtain ⟨t, hsend⟩ := State.wireSend_some (m := s.hello p) (spend := false) hctr
    exact ⟨t, hsend, execHelloSend_sends s hup hsend⟩

/-- Settles O16: each clause is what its command does under the conditions it names; the address is claimed, and the CONFLICT
originated, in the state that the command has entered by then. -/
theorem addressesAreTakenAndDefended : Obligations.AddressesAreTakenAndDefended :=
  ⟨fun s _ _ hstate hdue hpick => execAddrListenEnd_claims s hstate hdue hpick rfl,
    fun s hstate hdue => execAddrClaimWaitEnd_holds s hstate hdue,
    fun s _ hclass hlen hkind => execClaimRx_claim s hclass hlen hkind,
    fun s _ hclass hlen hkind => execClaimRx_conflict s hclass hlen hkind,
    fun s _ hdue => execConflictOriginate_due s hdue rfl, fun s hstate hdue => execConflictWaitEnd_loses s hstate hdue⟩

/-- Settles O17: each clause is what its command does under the conditions it names; the radio clauses are the forward queue's
case of the lemmas on descriptors. -/
theorem unicastsAreForwardedOrDelivered : Obligations.UnicastsAreForwardedOrDelivered :=
  ⟨fun s _ _ _ _ _ htake hhead hlen hfinal horigin hdue hholds hmine hdeliver =>
      execUnicastTake_delivers s htake hhead hlen hfinal horigin hdue hholds hmine hdeliver,
    fun s _ _ _ _ htake hhead hlen hfinal horigin hdue hother =>
      execUnicastTake_forwards s htake hhead hlen hfinal horigin hdue hother,
    fun s _ _ hjob htime hcredit => execUnicastWiredSend_starts s hjob htime hcredit,
    fun s _ _ hjob htime hcredit => execUnicastWiredSend_noCredit s hjob htime hcredit,
    fun s _ _ hjob hlate => execUnicastWiredSend_late s hjob hlate,
    fun s who n _ _ hi hready hjob hvalid hfirst hlast =>
      execForwardBind_bound s who n (s.bind_inTime true n hready hjob hi hvalid hfirst hlast),
    fun s n _ _ hready hjob => congrArg _ (s.descLate_ready true n hready hjob),
    fun s n _ _ hbind hentry => congrArg _ (s.boundSettle_notPlaced true n hbind rfl hentry)⟩

end Sys2Proof.Machine

/-! O18 and O19: the timing parent and the exchange of time with it, the radio neighbours, the link-state database and the
route runs that follow it. -/
namespace Sys2Proof.Machine

section
variable (s : State)

/-! ## The choice of a parent (R291, R292) -/

section
variable {d : Cand} (hsplit : s.splitCand = none) (hfirst : firstCand s.cands = some d)
  (hnotRef : s.o Obj.TMB_SYNC_STATE ≠ 3)
include hsplit hfirst hnotRef

theorem execParentSwitch_takesFirst (hnone : s.o Obj.FAB_PARENT_VIA = 0xFF) :
    execParentSwitch s = .next (s.takeParent d).chosenState := by
  simp only [execParentSwitch, hsplit, hfirst, hnotRef, hnone, if_true, if_false]

/-- A parent in use gives way to the first candidate alone, where that is another and better. -/
theorem execParentSwitch_takesBetter {p : Cand} (hsteered : s.o Obj.TMB_SYNC_STATE ≠ 5)
    (hhas : s.o Obj.FAB_PARENT_VIA ≠ 0xFF) (hparent : s.parentCand = some p) :
    execParentSwitch s =
      .next (if (d.via ≠ p.via ∨ d.addr ≠ p.addr) ∧ s.betterThan p d = true then s.takeParent d else s) := by
  simp only [execParentSwitch, hsplit, hfirst, hnotRef, hsteered, hhas, hparent, if_false, Bool.and_eq_true,
    Bool.or_eq_true, bne_iff_ne]
  split <;> rfl

end

theorem execReferenceTake_takes (hrank : s.o Obj.FAB_TIME_RANK < 255) (hnone : s.o Obj.TMB_SYNC_STATE = 0)
    (hholds : s.holdsAddr = true) (hcands : s.cands = []) (hfirst : s.outranked = false) :
    execReferenceTake s = .next
      ((((s.noParent.syncState 3).setO Obj.FAB_ERR 0).setO Obj.FAB_HOPS 0).setO Obj.FAB_TREF (s.o Obj.FAB_ADDR)) := by
  have haddr : ((s.noParent.syncState 3).setO Obj.FAB_ERR 0).o Obj.FAB_ADDR = s.o Obj.FAB_ADDR := by
    rw [State.setO_o, if_neg (by decide), State.syncState, State.setO_o, if_neg (by decide), State.noParent,
      State.setO_o, if_neg (by decide), State.setO_o, if_neg (by decide)]
  simp only [execReferenceTake, hrank, hnone, hholds, hcands, hfirst, decide_true, Bool.and_self, Bool.true_or,
    List.isEmpty_nil, Bool.not_false, if_true, haddr]

/-! ## The wired exchange (R294) -/

section
variable {p : Fin 2}

theorem execTimeReqSend_sends {t : State} (hpeer : s.hasPeer p = true)
    (hasked : s.o Obj.FAB_PARENT_VIA = p ∨ s.prospect p = true)
    (hsend : s.wireSend p ([2] ++ leBytes 1 ((s.fab.wires[p].tseq + 1) % 256) ++ [0, 0]) false = some t) :
    execTimeReqSend p s = .next (t.modWire p (fun w => { w with
      tseq := (s.fab.wires[p].tseq + 1) % 256, t1 := if s.portWaits p = true then none else some t.now
      reqHeld := s.portWaits p })) := by
  simp only [execTimeReqSend, hpeer, hasked, hsend, Bool.or_eq_true, Bool.and_eq_true, decide_eq_true_eq, and_self, if_true]

theorem execTimeReqRx_notes {t : State} {m : InMsg}
    (htake : s.takeMsg (fun m => m.kind == 2 && m.src == 4 + p.val) = (some m, t)) (hlen : m.msg.length = 4) :
    execTimeReqRx p s = .next ((t.dropMsg m).modWire p (fun w => { w with rsp := some (fieldN m.msg 1 1, m.at_) })) := by
  simp only [execTimeReqRx, htake, hlen, if_true]

theorem execTimeRspSend_sends {q : Nat} {t2 : Instant} {t : State} (hrsp : s.fab.wires[p].rsp = some (q, t2))
    (hsend : ((s.modWire p (fun w => { w with rsp := none })).upTo (t2 + 76800)).wireSend p
      ([3] ++ leBytes 1 q ++ [0, 0] ++ leBytes 8 (tt64 t2) ++ leBytes 8 (tt64 (t2 + 76800))) false = some t) :
    execTimeRspSend p s = .next (t.portFree p) := by
  simp only [execTimeRspSend, hrsp, hsend, Option.getD_some]

/-- A TIME_RSP that answers the last TIME_REQ, from the peer and within 10 ms, is measured. -/
theorem execTimeRspRx_measures {t u : State} {m : InMsg} {t1 : Instant}
    (htake : s.takeMsg (fun m => m.kind == 3 && m.src == 4 + p.val) = (some m, t)) (hu : u = t.dropMsg m)
    (ht1 : u.fab.wires[p].t1 = some t1) (hlen : m.msg.length = 20) (hseq : fieldN m.msg 1 1 = u.fab.wires[p].tseq)
    (huid : m.uid = u.o (Obj.FAB_Wp_PEER_UID p)) (ht2 : ttValid (fieldN m.msg 4 8) = true)
    (ht3 : ttValid (fieldN m.msg 12 8) = true) (htime : m.at_ ≤ t1 + 384000) :
    execTimeRspRx p s = .next ((u.modWire p (fun w => { w with t1 := none })).timeRsp p t1
      (linear (fieldN m.msg 4 8)) (linear (fieldN m.msg 12 8)) m.at_) := by
  simp only [execTimeRspRx, htake, ← hu, ht1, hlen, hseq, huid, ht2, ht3, htime, beq_self_eq_true, decide_true,
    Bool.and_self, if_true]

theorem execTimeExchangeMiss_parent {t1 : Instant} (ht1 : s.fab.wires[p].t1 = some t1)
    (hparent : s.o Obj.FAB_PARENT_VIA = p) :
    execTimeExchangeMiss p s =
      .next ((s.upTo (t1 + 384000)).modWire p (fun w => { w with t1 := none })).timeMiss := by
  have hstill : ((s.upTo (t1 + 384000)).modWire p (fun w => { w with t1 := none })).o Obj.FAB_PARENT_VIA = p := hparent
  simp only [execTimeExchangeMiss, ht1, hstill, if_true]

end

/-! ## The radio measurement (R295) -/

/-- A beacon of a neighbour that is not the parent leaves that neighbour's first θ. -/
theorem execBeaconTimeMeasure_notParent {n : Fin 4} {i a e : Nat} {body : Bytes} {x : RadioNb} {th : Int}
    (hbeacon : s.beaconAt n i = some (a, e, body))
    (hth : th = 2 * ((linear (fieldN body 0 8) : Int) - ((e : Int) - lofdmDur (fieldN (s.rxElemAt n i) 8 2) 0 88)))
    (hvalid : ttValid (fieldN body 0 8) = true)
    (hknown : s.fab.nbs.find? (fun x => x.addr == a) = some x)
    (hother : ¬ (s.o Obj.FAB_PARENT_VIA = 2 ∧ s.o Obj.FAB_PARENT = a)) :
    execBeaconTimeMeasure n i s = .next (s.modFab (fun f => { f with
      nbs := f.nbs.map (fun y => if y.addr = a then { y with theta := some (y.theta.getD th) } else y) })) := by
  unfold execBeaconTimeMeasure
  rw [hbeacon]
  simp only [← hth, hvalid, hknown, hother, State.modFab_o, Bool.not_true, Bool.false_eq_true, Bool.and_eq_true,
    decide_eq_true_eq, if_false]

/-! ## Once per superframe (R296) -/

theorem State.countMisses_noParent (hnone : s.o Obj.FAB_PARENT_VIA = 0xFF) : s.countMisses = s := by
  simp only [State.countMisses, hnone, decide_true, Bool.true_or, if_true]

theorem execTimingSuperframeCheck_noParent (hnone : s.o Obj.FAB_PARENT_VIA = 0xFF) :
    execTimingSuperframeCheck s = .next (s.modFab (fun x => { x with measured := false, missed := false })) := by
  simp only [execTimingSuperframeCheck, s.countMisses_noParent hnone, hnone, ne_eq, not_true_eq_false, decide_false,
    Bool.and_false, Bool.false_eq_true, if_false]

theorem execTimingSuperframeCheck_thirdMiss (hhas : s.countMisses.o Obj.FAB_PARENT_VIA ≠ 0xFF)
    (hthird : 3 ≤ s.countMisses.o Obj.FAB_MISSES) :
    execTimingSuperframeCheck s =
      .next (s.countMisses.thirdMiss.modFab (fun x => { x with measured := false, missed := false })) := by
  simp only [execTimingSuperframeCheck, hhas, hthird, ne_eq, not_false_eq_true, decide_true, Bool.and_self, if_true]

/-! ## Setting the time (R27, R298) -/

section
variable (who : Fin 8) {v : Nat}

theorem execFabTimeSet_steps (hvalid : ttValid v = true) (hmay : s.mayStep = true) (hfirst : s.fab.acquired = false) :
    execFabTimeSet who v s = .next (s.stepTime (linear v)) := by
  simp only [execFabTimeSet, State.timeSet, hvalid, hmay, hfirst, Bool.not_true, Bool.not_false, Bool.and_self,
    Bool.false_eq_true, if_true, if_false]

theorem execFabTimeSet_invalid (hbad : ttValid v = false) :
    execFabTimeSet who v s = .next (s.dropped (windowAddr Obj.FAB_TIME_SET) v who 3) := by
  simp only [execFabTimeSet, State.timeSet, hbad, Bool.not_false, if_true]

theorem execFabTimeSet_tooLate (hvalid : ttValid v = true) (hlate : s.mayStep = false ∨ s.fab.acquired = true) :
    execFabTimeSet who v s = .next (s.dropped (windowAddr Obj.FAB_TIME_SET) v who 6) := by
  have hno : (s.mayStep && !s.fab.acquired) = false := by rcases hlate with h | h <;> simp [h]
  simp only [execFabTimeSet, State.timeSet, hvalid, hno, Bool.not_true, Bool.false_eq_true, if_false]

end

/-! ## Radio neighbours (R271) -/

theorem execRadioNeighbourUpdate_hears {n : Fin 4} {i a t : Nat} {body : Bytes} {x : RadioNb}
    (hbeacon : s.beaconAt n i = some (a, t, body))
    (hx : x = ((s.fab.nbs.find? (fun y => y.addr == a)).getD { addr := a }).hear n
      (toI 16 (fieldN (s.rxElemAt n i) 16 2)) t body) :
    execRadioNeighbourUpdate n i s =
      .next ((s.modFab (fun f => { f with nbs := x :: f.nbs.filter (fun y => y.addr != a) })).rnbPut x) := by
  unfold execRadioNeighbourUpdate
  rw [hbeacon, hx]

/-! ## The link-state database (R278-R280) -/

/-- An anchor that holds its address and has sent no LINKSTATE floods one and stores it as its own record. -/
theorem execLsaOriginate_first {v u : State} (hstate : s.o Obj.FAB_ADDR_STATE = 3) (hfirst : s.fab.lsaSf = none)
    (hv : v = s.firmFlood 5 0 15 s.lsaNow) (hu : u = v.lsdbWrite (v.o Obj.FAB_ADDR) (stampOf s.now) s.lsaNow) :
    execLsaOriginate s = .next (u.modFab (fun x => { x with lsaSf := some u.runSf, lsaAt := u.run, lsaBody := s.lsaNow })) := by
  simp only [execLsaOriginate, hstate, hfirst, ← hv, ← hu, decide_true, Bool.and_self, if_true]

/-- Within two superframes of the last LINKSTATE none is sent, whatever has changed. -/
theorem execLsaOriginate_tooSoon {t : Nat} (hsent : s.fab.lsaSf = some t) (hsoon : s.run < s.fab.lsaAt + 2 * superT) :
    execLsaOriginate s = .next s := by
  simp only [execLsaOriginate, hsent, Nat.not_le.mpr hsoon, decide_false, Bool.false_and, Bool.and_false,
    Bool.false_eq_true, if_false]

/-- A LINKSTATE of the right form is stored where its origin has no VALID record. -/
theorem execLsdbUpdate_stores {i a : Nat} {b : Bytes} {u : State} (hb : b = s.elemPayload (s.floodElem i))
    (ha : a = fieldN (s.floodElem i) 2 2 % 4096) (hclass : fieldN (s.floodElem i) 1 1 = 0) (hhead : 24 ≤ b.length)
    (hlen : b.length = 24 + 4 * fieldN b 22 1) (hfits : b.length ≤ 152)
    (hu : u = s.detectLsdb a (fieldN b 0 8) (fieldN b 8 8) 1) (hnew : u.lsdbValid a = false) :
    execLsdbUpdate i s = .next (u.lsdbWrite a (s.elemStamp (s.floodElem i)) b) := by
  have hform : (decide (fieldN (s.floodElem i) 1 1 ≠ 0) || decide (b.length < 24) ||
      decide (b.length ≠ 24 + 4 * fieldN b 22 1) || decide (152 < b.length)) = false := by
    simp [hclass, Nat.not_lt.mpr hhead, ← hlen, Nat.not_lt.mpr hfits]
  simp only [execLsdbUpdate, ← hb, ← ha, hform, ← hu, hnew, Bool.not_false, Bool.true_or, Bool.false_eq_true, if_true,
    if_false]

theorem execLsdbRecordExpire_drops {a : Nat} (hvalid : s.lsdbValid a = true)
    (hold : ((2400 * s.o Obj.FAB_LSA_PERIOD : Nat) : Int) ≤ stampDiff (stampOf s.now) (s.rn (s.lsdbAddr a) 4)) :
    execLsdbRecordExpire a s = .next (s.lsdbDrop a) := by
  simp only [execLsdbRecordExpire, hvalid, hold, decide_true, Bool.and_self, if_true]

/-! ## Route runs (R281) -/

theorem execSpfRun_ranThisTick (hran : s.fab.spfTick = some (s.now / frameT)) : execSpfRun s = .next s := if_pos hran

section
variable (htick : s.fab.spfTick ≠ some (s.now / frameT))
include htick

theorem execSpfRun_continues {l : List (Nat × Bytes)} (hrest : s.fab.spf = some l) :
    execSpfRun s = .next ((s.modFab (fun x => { x with spfTick := some (s.now / frameT) })).spfShare l) := by
  have hstill : (s.modFab (fun x => { x with spfTick := some (s.now / frameT) })).fab.spf = some l := hrest
  simp only [execSpfRun, htick, hstill, if_false]

/-- A database that has changed since the last run is planned anew. -/
theorem execSpfRun_starts {u : State} (hidle : s.fab.spf = none) (hchanged : s.fab.spfGen ≠ s.o Obj.FAB_LSDB_GEN)
    (hu : u = s.modFab (fun x => { x with spfTick := some (s.now / frameT) })) :
    execSpfRun s = .next ((({ u with draws := u.draws + 8192 } : State).modFab
      (fun x => { x with spfGen := s.o Obj.FAB_LSDB_GEN })).spfShare u.spfPlan) := by
  have hstill : u.fab.spf = none := hu ▸ hidle
  have hgen : u.o Obj.FAB_LSDB_GEN = s.o Obj.FAB_LSDB_GEN := hu ▸ rfl
  have hnew : u.fab.spfGen ≠ s.o Obj.FAB_LSDB_GEN := hu ▸ hchanged
  simp only [execSpfRun, htick, ← hu, hstill, hgen, hnew, if_false]

end

/-! ## The consumer index of the unicast ring (R287) -/

theorem execFabUqConsWrite_taken (who : Fin 8) {v : Nat}
    (hok : consOk 65536 (s.o Obj.FAB_UQ_CONS) (s.o Obj.FAB_UQ_PROD) v = true) :
    execFabUqConsWrite who v s = .next (s.setO Obj.FAB_UQ_CONS v) := by
  simp only [execFabUqConsWrite, State.uqCons, hok, if_true, Option.getD_some]

end

/-! ## The obligations -/

/-- Settles O18: each clause is what its command does under the conditions it names; a TIME_REQ or TIME_RSP whose counter is
ready leaves (`State.wireSend_some`). -/
theorem timingFollowsParents : Obligations.TimingFollowsParents := by
  refine ⟨fun s d hsplit hfirst hnotRef hnone => execParentSwitch_takesFirst s hsplit hfirst hnotRef hnone,
    fun s d p hsplit hfirst hnotRef hsteered hhas hparent =>
      execParentSwitch_takesBetter s hsplit hfirst hnotRef hsteered hhas hparent,
    fun s hrank hnone hholds hcands hfirst => execReferenceTake_takes s hrank hnone hholds hcands hfirst,
    fun s p hpeer hasked hctr => ?_, fun s t p m htake hlen => execTimeReqRx_notes s htake hlen,
    fun s p q t2 hrsp hctr => ?_,
    fun s t p m t1 htake ht1 hlen hseq huid ht2 ht3 htime =>
      execTimeRspRx_measures s htake rfl ht1 hlen hseq huid ht2 ht3 htime,
    fun s p t1 ht1 hparent => execTimeExchangeMiss_parent s ht1 hparent,
    fun s n i a e body x th hbeacon hth hvalid hknown hother => ?_,
    fun s hnone => execTimingSuperframeCheck_noParent s hnone,
    fun s _ hhas hthird => execTimingSuperframeCheck_thirdMiss s hhas hthird,
    fun s who v hvalid hmay hfirst => execFabTimeSet_steps s who hvalid hmay hfirst,
    fun s who v hbad => execFabTimeSet_invalid s who hbad,
    fun s who v hvalid hlate => execFabTimeSet_tooLate s who hvalid hlate⟩
  · obtain ⟨t, hsend⟩ := State.wireSend_some (p := p)
      (m := [2] ++ leBytes 1 ((s.fab.wires[p].tseq + 1) % 256) ++ [0, 0]) (spend := false) hctr
    exact ⟨t, hsend, execTimeReqSend_sends s hpeer hasked hsend⟩
  · have hready : ((s.modWire p (fun w => { w with rsp := none })).upTo (t2 + 76800)).ctrReady (s.o Obj.FAB_KEY) 4 = true :=
      hctr
    obtain ⟨t, hsend⟩ := State.wireSend_some (p := p)
      (m := [3] ++ leBytes 1 q ++ [0, 0] ++ leBytes 8 (tt64 t2) ++ leBytes 8 (tt64 (t2 + 76800))) (spend := false) hready
    exact ⟨t, hsend, execTimeRspSend_sends s hrsp hsend⟩
  · have hmeasure := execBeaconTimeMeasure_notParent s hbeacon hth hvalid hknown hother
    exact hmeasure

/-- Settles O19: each clause is what its command does under the conditions it names. -/
theorem routesFollowTheLinkStates : Obligations.RoutesFollowTheLinkStates := by
  refine ⟨?_,
    fun s _ _ hstate hfirst hv hu => execLsaOriginate_first s hstate hfirst hv hu,
    fun s _ hsent hsoon => execLsaOriginate_tooSoon s hsent hsoon,
    fun s _ hclass hhead hlen hfits hnew => execLsdbUpdate_stores s rfl rfl hclass hhead hlen hfits rfl hnew,
    fun s _ hvalid hold => execLsdbRecordExpire_drops s hvalid hold,
    fun s _ htick hrest => execSpfRun_continues s htick hrest,
    fun s _ htick hidle hchanged hu => execSpfRun_starts s htick hidle hchanged hu,
    fun s hran => execSpfRun_ranThisTick s hran, fun s who _ hok => execFabUqConsWrite_taken s who hok⟩
  intro s n i a t body hbeacon
  have hhears := execRadioNeighbourUpdate_hears s hbeacon rfl
  exact hhears

end Sys2Proof.Machine

/-! O36 and O38: the root's questions from OPEN to final, and the cues of Lantern from their flood to their pins. -/
namespace Sys2Proof.Machine

section
variable (s : State)

/-! ## Questions (R314-R316) -/

section
variable (who : Fin 8) {q : Fin 16}

theorem execQOpen_opens {u : State} (hon : s.svcOn 0 = true) (hok : s.openRefused q = false)
    (hu : u = s.qHold q ((s.o (Obj.SVC_Qq_ROUND q) + 1) % 65536) (s.o (Obj.SVC_Qq_NOPT q)) (s.o (Obj.SVC_Qq_OPEN_AT q))
      (s.o (Obj.SVC_Qq_CLOSE_AT q)) (s.o (Obj.SVC_Qq_TAG_LO q)) (s.o (Obj.SVC_Qq_SPAN q)) 1) :
    execQOpen who q s = .next (u.firmFlood 6 2 15 (u.qBody q 0)) := by
  have hopen : s.qOpen q = some (u.firmFlood 6 2 15 (u.qBody q 0)) := hu ▸ if_neg (by simp [hon, hok])
  rw [execQOpen, hopen, Option.getD_some]

theorem execQOpen_refused (hbad : s.svcOn 0 = false ∨ s.openRefused q = true) :
    execQOpen who q s = .next (s.refuse who (Obj.SVC_Qq_CMD q) 1) := by
  have hrefused : (!s.svcOn 0 || s.openRefused q) = true := by rcases hbad with h | h <;> simp [h]
  simp only [execQOpen, State.qOpen, hrefused, if_true, Option.getD_none]

theorem execQCancel_cancels (hon : s.svcOn 0 = true) (hroot : s.isRoot = true) (hactive : s.qActive q = true) :
    execQCancel who q s = .next ((s.firmFlood 6 2 15 (s.qBody q 1)).setO (Obj.SVC_Qq_STATE q) 5) := by
  simp only [execQCancel, State.qCancel, hon, hroot, hactive, Bool.not_true, Bool.or_self, Bool.false_eq_true, if_false,
    Option.getD_some]

end

theorem execQuestionReflood_floods (hon : s.svcOn 0 = true) (hroot : s.isRoot = true) :
    execQuestionReflood s = .next s.qReflood := by
  simp only [execQuestionReflood, hon, hroot, Bool.and_self, if_true]

/-- A QUESTION is held where none is or its round is newer; of the round that is held it can only cancel. -/
theorem execQuestionRx_takes {i : Nat} {b : Bytes} {q : Fin 16} (hb : b = s.elemPayload (s.floodElem i))
    (hclass : fieldN (s.floodElem i) 1 1 = 2) (hlen : b.length = 32) (hnum : fieldN b 0 1 ≤ 15)
    (hq : q = asFin 16 (fieldN b 0 1)) (hon : s.svcOn 0 = true) :
    execQuestionRx i s = .next (
      if s.qState q = 0 || above (fieldN b 2 2) (s.o (Obj.SVC_Qq_ROUND q)) then
        s.qHold q (fieldN b 2 2) (fieldN b 1 1) (fieldN b 8 8) (fieldN b 16 8) (fieldN b 24 4) (fieldN b 28 4)
          (if bitOf (fieldN b 4 1) 0 then 5 else 1)
      else if fieldN b 2 2 = s.o (Obj.SVC_Qq_ROUND q) && bitOf (fieldN b 4 1) 0 then s.setO (Obj.SVC_Qq_STATE q) 5
      else s) := by
  simp only [execQuestionRx, ← hb, hclass, hlen, Nat.not_lt.mpr hnum, ← hq, hon, ne_eq, not_true_eq_false, decide_false,
    Bool.not_true, Bool.or_self, Bool.false_eq_true, if_false, apply_ite Host.Outcome.next]

/-! ## Lantern (R321-R323) -/

section
variable (who : Fin 8)

/-- The root floods a staged cue of the right form that comes in time, and takes it itself. -/
theorem execLtnSend_sends {b : Bytes} (hb : b = s.blob Obj.SVC_LTN_STAGE) (hon : s.svcOn 1 = true)
    (hroot : s.isRoot = true) (hparam : fieldN b 3 1 ≤ 16) (hlen : b.length = 24 + fieldN b 3 1)
    (hlead : s.now + 2 * s.o Obj.SVC_LTN_MIN_LEAD ≤ cueAt b) (hrange : fieldN b 12 4 ≤ fieldN b 16 4)
    (hroom : s.svc.cues.length < 32) :
    execLtnSend who s = .next ((s.firmFlood 6 3 15 s.stagedCue).cueTake s.stagedCue) := by
  have hhead : ¬ b.length < 24 := by omega
  simp only [execLtnSend, State.ltnSend, ← hb, hon, hroot, hhead, Nat.not_lt.mpr hparam, ← hlen, Nat.not_lt.mpr hlead,
    Nat.not_lt.mpr hrange, Nat.not_le.mpr hroom, ne_eq, not_true_eq_false, decide_false, Bool.not_true, Bool.false_and,
    Bool.or_self, Bool.false_eq_true, if_false, Option.getD_some]

theorem execLtnSend_refused (hbad : s.svcOn 1 = false ∨ s.isRoot = false) :
    execLtnSend who s = .next (s.refuse who Obj.SVC_LTN_CMD 1) := by
  have hrefused : (!s.svcOn 1 || !s.isRoot) = true := by rcases hbad with h | h <;> simp [h]
  simp only [execLtnSend, State.ltnSend, hrefused, Bool.true_or, if_true, Option.getD_none]

end

theorem execCueRx_takes {i : Nat} {b : Bytes} (hb : b = s.elemPayload (s.floodElem i))
    (hclass : fieldN (s.floodElem i) 1 1 = 3) (hlen : b.length = 24 + fieldN b 3 1) (hparam : fieldN b 3 1 ≤ 16)
    (hon : s.svcOn 1 = true) : execCueRx i s = .next (s.cueTake b) := by
  have hhead : 24 ≤ b.length := by omega
  simp only [execCueRx, ← hb, hclass, hhead, ← hlen, hparam, hon, decide_true, Bool.and_self, if_true]

section
variable {u : State} {b : Bytes} (hnext : s.nextCue = some b)
  (hu : u = (s.upTo (cueAt b)).setCues (s.svc.cues.filter (fun x => cueId x != cueId b)))
include hnext hu

/-- A cue without the action bit leaves the pending ones at FIRE_AT, and that is all. -/
theorem execCueFire_noAction (hnone : bitOf (fieldN b 2 1) 1 = false) : execCueFire s = .next u := by
  simp only [execCueFire, hnext, ← hu, hnone, Bool.not_false, if_true]

section
variable (haction : bitOf (fieldN b 2 1) 1 = true)
include haction

/-- A cue fired in time latches its value at a pin that is an output. -/
theorem execCueFire_drives (htime : ¬ cueAt b < s.now) (hclk : u.sysclk = true)
    (hdir : u.o (Obj.GIO_p_CFG (fieldN b 20 1 % 16)) % 4 = 1 ∨ u.o (Obj.GIO_p_CFG (fieldN b 20 1 % 16)) % 4 = 2) :
    execCueFire s =
      .next ((u.latch (fieldN b 20 1 % 16) (bitOf (fieldN b 20 1) 4)).inc Obj.SVC_LTN_FIRED) := by
  have hout : (decide (u.o (Obj.GIO_p_CFG (fieldN b 20 1 % 16)) % 4 = 1) ||
      decide (u.o (Obj.GIO_p_CFG (fieldN b 20 1 % 16)) % 4 = 2)) = true := by simpa using hdir
  simp only [execCueFire, hnext, ← hu, haction, htime, hclk, hout, decide_false, Bool.not_true, Bool.or_self,
    Bool.false_eq_true, if_true, if_false]

/-- A cue that comes after its instant, or finds SYSCLK stopped, counts a miss. -/
theorem execCueFire_missed (hlate : cueAt b < s.now ∨ u.sysclk = false) :
    execCueFire s = .next (u.miss 10 0x16 (cueAt b)) := by
  have hmiss : (decide (cueAt b < s.now) || !u.sysclk) = true := by rcases hlate with h | h <;> simp [h]
  simp only [execCueFire, hnext, ← hu, haction, hmiss, Bool.not_true, Bool.false_eq_true, if_true, if_false]

end
end
end

/-! ## The obligations -/

/-- Settles O36: each clause is what its command does under the conditions it names; the three instants of a question only
test its STATE. -/
theorem questionsRunFromOpenToFinal : Obligations.QuestionsRunFromOpenToFinal :=
  ⟨fun s _ who _ hon hok hu => execQOpen_opens s who hon hok hu, fun s who _ hbad => execQOpen_refused s who hbad,
    fun s who _ hon hroot hactive => execQCancel_cancels s who hon hroot hactive,
    fun s hon hroot => execQuestionReflood_floods s hon hroot,
    fun s _ _ _ _ he hb hclass hlen hnum hq hon =>
      execQuestionRx_takes s (he ▸ hb) (he ▸ hclass) hlen hnum hq hon,
    fun _ _ hstate => if_pos hstate, fun _ _ hstate => if_pos hstate, fun _ _ hstate => if_pos hstate⟩

/-- Settles O38: each clause is what its command does under the conditions it names; a cue's fate at FIRE_AT turns on its
action bit, on its lateness and on the clock. -/
theorem lanternFiresCues : Obligations.LanternFiresCues :=
  ⟨fun s who _ hb hon hroot hparam hlen hlead hrange hroom =>
      execLtnSend_sends s who hb hon hroot hparam hlen hlead hrange hroom,
    fun s who hbad => execLtnSend_refused s who hbad,
    fun s _ _ _ he hb hclass hlen hparam hon => execCueRx_takes s (he ▸ hb) (he ▸ hclass) hlen hparam hon,
    fun s _ _ hnext hu haction htime hclk hdir => execCueFire_drives s hnext hu haction htime hclk hdir,
    fun s _ _ hnext hu haction hlate => execCueFire_missed s hnext hu haction hlate,
    fun s _ _ hnext hu hnone => execCueFire_noAction s hnext hu hnone⟩

end Sys2Proof.Machine

/-! O39: the home of a tag, the records that the root keeps for its host, and a downlink request from the root to its tag. -/
namespace Sys2Proof.Machine

/-- The offer of the highest RSSI, the earliest of equal ones (R329): `execHomeDecide` names its hearer the home. -/
def strongestOffer (l : List Offer) : Option Offer :=
  l.foldl (fun (m : Option Offer) y => match m with
    | none => some y
    | some z => if z.rssi < y.rssi then some y else some z) none

section
variable (s : State)

/-- The request that this anchor serves under a number now (R332): `execBskDownTx` sends it. -/
def State.serveNow (req : Nat) : Option DnReq :=
  s.svc.serves.find? (fun y => y.req == req && decide (s.now < linear y.expire) && (!y.paged || s.heardLately y.tag))

/-! ## Homes (R309, R329) -/

/-- The strongest hearer of a counter becomes the home; it is told so, and so is the home that it replaces. -/
theorem execHomeDecide_names {tag fcnt : Nat} {h h2 : Home} {l : List Offer} {b : Offer} {u : State}
    (hhome : s.svc.homes.find? (fun y => y.tag == tag) = some h) (hl : l = h.offers.filter (fun y => y.fcnt == fcnt))
    (hbest : strongestOffer l = some b)
    (hh2 : h2 = { h with
      home := b.hearer, rssi := b.rssi, heard := l.foldl (fun m y => max m y.endAt) h.heard
      offers := h.offers.filter (fun y => y.fcnt != fcnt) })
    (hu : u = (s.upTo (l.foldl (fun m y => max m (offerEnd y.endAt)) 0)).modSvc (fun y => { y with
      homes := h2 :: y.homes.filter (fun z => z.tag != tag) })) :
    execHomeDecide tag fcnt s = .next (
      if h.home = b.hearer then u
      else if h.home = 0 then u.send 7 b.hearer 4 0 (homeBody tag 1)
      else (u.send 7 b.hearer 4 0 (homeBody tag 1)).send 7 h.home 4 0 (homeBody tag 0)) := by
  simp only [execHomeDecide, hhome, ← hl]
  split
  · next hnone => exact absurd (hbest.symm.trans hnone) (by simp)
  · next c hc =>
    obtain rfl : b = c := Option.some.inj (hbest.symm.trans hc)
    simp only [← hh2, ← hu, apply_ite Host.Outcome.next]

theorem execHomeRx_notes {i : Nat} {b : Bytes} {l : List Nat} (hb : b = s.elemPayload (s.uniElem i))
    (hclass : fieldN (s.uniElem i) 1 1 = 4) (hlen : b.length = 5) (hon : s.svcOn 3 = true)
    (hl : l = s.svc.homesHere.filter (fun y => y != fieldN b 0 4)) :
    execHomeRx i s = .next (s.modSvc (fun y => { y with
      homesHere := if fieldN b 4 1 = 1 then fieldN b 0 4 :: l else l })) := by
  simp only [execHomeRx, ← hb, hclass, hlen, hon, ← hl, decide_true, Bool.and_self, if_true]

theorem execHomeLapse_lapses {tag : Nat} {h : Home} {u : State} (hhome : s.homeOf tag = some h)
    (hu : u = s.upTo (h.heard + epochT * s.o Obj.SVC_HOME_AGE)) :
    execHomeLapse tag s = .next (u.modSvc (fun y => { y with
      homes := y.homes.map (fun z => if z.tag = tag then { z with home := 0 } else z) })) := by
  simp only [execHomeLapse, hhome, ← hu]

/-! ## Records at the root (R330, R331) -/

section
variable (hon : s.svcOn 3 = true) (hroot : s.tallyRoot = true)
include hon hroot

theorem execBskUpRx_queues {i : Nat} {b : Bytes} (hb : b = s.elemPayload (s.uniElem i))
    (hclass : fieldN (s.uniElem i) 1 1 = 5) (hlen : 26 ≤ b.length) : execBskUpRx i s = .next (s.addRecord b) := by
  simp only [execBskUpRx, ← hb, hclass, hlen, hon, hroot, decide_true, Bool.and_self, if_true]

section
variable (hhost : s.hostSession = true)
include hhost

theorem execBskRecordSend_sends {r : Bytes} (hdue : s.recordDue = some r) :
    execBskRecordSend s =
      .next ((s.raiseFw 0x801 0x17 0 r).modSvc (fun y => { y with recNext := (y.recNext + 1) % 2 ^ 32 })) := by
  simp only [execBskRecordSend, State.sendRecord, hdue, hon, hroot, hhost, Option.elim_some, Bool.and_self, if_true]

theorem execBskStatusSend_sends (hframe : frameOf s.now = 0) :
    execBskStatusSend s = .next (s.raiseFw 0x802 0x17 0 (leBytes 4 (s.o Obj.SVC_BSK_NEXT) ++
      leBytes 4 (s.o Obj.SVC_BSK_ACKED) ++ leBytes 4 (s.o Obj.SVC_BSK_DROPPED))) := by
  simp only [execBskStatusSend, hon, hroot, hhost, hframe, decide_true, Bool.not_true, Bool.or_self, Bool.and_self,
    Bool.false_eq_true, if_true, if_false]

end
end

section
variable (who : Fin 8) {v : Nat}

/-- Records before the acknowledged one go, and the next to send is not before it. -/
theorem execBskAckedWrite_taken {a : Nat} (ha : a = s.o Obj.SVC_BSK_ACKED)
    (hok : consOk (2 ^ 32) a (s.o Obj.SVC_BSK_NEXT) v = true) :
    execBskAckedWrite who v s = .next ((s.setO Obj.SVC_BSK_ACKED v).modSvc (fun y => { y with
      records := y.records.filter (fun r => decide ((v + 2 ^ 32 - a) % 2 ^ 32 ≤ (r.1 + 2 ^ 32 - a) % 2 ^ 32))
      recNext := if (y.recNext + 2 ^ 32 - a) % 2 ^ 32 < (v + 2 ^ 32 - a) % 2 ^ 32 then v else y.recNext })) := by
  simp only [execBskAckedWrite, State.bskAcked, ← ha, hok, if_true, Option.getD_some]

theorem execBskAckedWrite_refused
    (hbad : consOk (2 ^ 32) (s.o Obj.SVC_BSK_ACKED) (s.o Obj.SVC_BSK_NEXT) v = false) :
    execBskAckedWrite who v s = .next (s.dropped (windowAddr Obj.SVC_BSK_ACKED) v who 3) := by
  simp only [execBskAckedWrite, State.bskAcked, hbad, Bool.false_eq_true, if_false, Option.getD_none]

end

/-! ## A downlink request on its way down (R309, R332) -/

/-- The root opens the staged request and sends it to the owner of its tag's shard, where there is one. -/
theorem execBskDnSend_opens (who : Fin 8) {b : Bytes} {u : State} (hb : b = s.blob Obj.SVC_BSK_DN_STAGE)
    (hon : s.svcOn 3 = true) (hroot : s.isRoot = true) (hmax : fieldN b 16 2 ≤ 200)
    (hlen : 20 + fieldN b 16 2 ≤ b.length) (hexpire : s.now < linear (fieldN b 8 8)) (hroom : s.svc.opens.length < 1024)
    (hu : u = s.setOpens (s.svc.opens ++ [dnOf b])) :
    execBskDnSend who s = .next (if (u.holders (shardOf (dnOf b).tag)).1 = 0 then u
      else u.send 7 (u.holders (shardOf (dnOf b).tag)).1 6 0 (dnOf b).body) := by
  have hhead : ¬ b.length < 20 := by omega
  simp only [execBskDnSend, State.dnSend, ← hb, hon, hroot, hhead, Nat.not_lt.mpr hmax, Nat.not_lt.mpr hlen,
    Nat.not_le.mpr hexpire, Nat.not_le.mpr hroom, ← hu, decide_false, Bool.not_true, Bool.or_self, Bool.false_eq_true,
    if_false, Option.getD_some]

section
variable {i : Nat} {b : Bytes} (hon : s.svcOn 3 = true)
include hon

theorem execBskDownRx_page (hb : b = s.elemPayload (s.floodElem i)) (hclass : fieldN (s.floodElem i) 1 1 = 4)
    (hlen : 20 ≤ b.length) : execBskDownRx true i s = .next (s.serve { dnOf b with paged := true }) := by
  simp only [execBskDownRx, ← hb, hclass, hlen, hon, decide_true, Bool.not_true, Bool.and_self, Bool.false_eq_true,
    if_true, if_false]

section
variable (hb : b = s.elemPayload (s.uniElem i))
include hb

theorem execBskDownRx_request (hclass : fieldN (s.uniElem i) 1 1 = 6) (hlen : 20 ≤ b.length) :
    execBskDownRx false i s = .next (s.downTake (dnOf b)) := by
  simp only [execBskDownRx, ← hb, hclass, hlen, hon, decide_true, Bool.not_true, Bool.and_self, Bool.false_eq_true,
    if_true, if_false]

/-- The home's answer ends an open request at the root. -/
theorem execBskDownRx_answer {r : DnReq} (hclass : fieldN (s.uniElem i) 1 1 = 7) (hlen : b.length = 5)
    (hopen : s.svc.opens.find? (fun y => y.req == fieldN b 0 4) = some r) :
    execBskDownRx false i s = .next (s.dnOver r (fieldN (s.uniElem i) 2 2 % 4096) (fieldN b 4 1)) := by
  have hnotRequest : ((7 : Nat) = 6) = False := by decide
  simp only [execBskDownRx, ← hb, hclass, hlen, hon, hnotRequest, hopen, decide_true, decide_false, Bool.not_true,
    Bool.false_and, Bool.and_self, Bool.false_eq_true, if_true, if_false]

end
end

/-! ## The DOWN frame and its acknowledgement (R210, R332) -/

section
variable {req : Nat} (fcnt : Nat)

theorem execBskDownTx_notServed (hnone : s.serveNow req = none) :
    execBskDownTx req fcnt s = .next { s with rbytes := [] } := by
  rw [State.serveNow] at hnone
  simp only [execBskDownTx, hnone]

section
variable {r : DnReq} (hserve : s.serveNow req = some r)
include hserve

theorem execBskDownTx_noRendezvous (hnone : s.rdvNow r.tag (s.listenK r.tag 0) = none) :
    execBskDownTx req fcnt s = .next { s with rbytes := [] } := by
  rw [State.serveNow] at hserve
  simp only [execBskDownTx, hserve, hnone]

section
variable {v : Instant × Nat} (hrdv : s.rdvNow r.tag (s.listenK r.tag 0) = some v)
include hrdv

/-- A request whose element fits goes at the rendezvous, and the frame's counter is kept for its DN_ACK. -/
theorem execBskDownTx_sends {u : State} (hfits : s.downFits r.tag (2 + r.data.length) = true)
    (hu : u = s.downSend r.tag v (s.downBody r.tag ([1] ++ leBytes 1 r.data.length ++ r.data))) :
    execBskDownTx req fcnt s = .next (u.modSvc (fun y => { y with
      serves := y.serves.map (fun z => if z.req = req ∧ z.tag = r.tag then { z with sent := fcnt :: z.sent } else z) })) := by
  rw [State.serveNow] at hserve
  simp only [execBskDownTx, hserve, hrdv, hfits, ← hu, if_true]

theorem execBskDownTx_tooLong (hlong : s.downFits r.tag (2 + r.data.length) = false) :
    execBskDownTx req fcnt s = .next (s.downMaps r.tag v) := by
  rw [State.serveNow] at hserve
  simp only [execBskDownTx, hserve, hrdv, hlong, Bool.false_eq_true, if_false]

end
end
end

/-- Every DN_ACK element of a delivered DATA frame is looked at, in the order of the frame. -/
theorem execDnAckRx_acks {n : Fin 4} {i : Nat} {p : Bytes}
    (hverdict : fieldN (s.rxElemAt n i) 48 1 = 0 ∨ fieldN (s.rxElemAt n i) 48 1 = 6)
    (htype : fieldN (s.rxElemAt n i) 50 1 = 1) (hflag : bitOf (fieldN (s.rxElemAt n i) 51 1) 0 = false)
    (hon : s.svcOn 3 = true) (hp : p = s.rxPsdu n (s.rxElemAt n i)) :
    execDnAckRx n i s = .next ((frameElements p).1.foldl
      (fun (t : State) y => if y.1 = 4 then t.dnAck (fieldN p 0 4) y.2 else t) s) := by
  have hdelivered : (decide (fieldN (s.rxElemAt n i) 48 1 = 0) || decide (fieldN (s.rxElemAt n i) 48 1 = 6)) = true := by
    simpa using hverdict
  simp only [execDnAckRx, hdelivered, htype, hflag, hon, ← hp, decide_true, Bool.not_false, Bool.and_self, if_true]

theorem execBskDnExpire_over {req : Nat} {r : DnReq} (hopen : s.svc.opens.find? (fun y => y.req == req) = some r) :
    execBskDnExpire req s = .next ((s.upTo (linear r.expire + 2 * superT)).dnOver r 0 1) := by
  simp only [execBskDnExpire, hopen]

end

/-! ## The obligation -/

/-- Settles O39: each clause is what its command does under the conditions it names; the home is the hearer of
`strongestOffer`, and a DOWN frame carries the request that `State.serveNow` finds. -/
theorem basketCarriesRecordsUpAndRequestsDown : Obligations.BasketCarriesRecordsUpAndRequestsDown :=
  ⟨fun s _ _ _ _ _ _ _ hhome hl hbest hh2 hu => execHomeDecide_names s hhome hl hbest hh2 hu,
    fun s _ _ _ _ he hb hclass hlen hon hl => execHomeRx_notes s (he ▸ hb) (he ▸ hclass) hlen hon hl,
    fun s _ _ _ hhome hu => execHomeLapse_lapses s hhome hu,
    fun s _ _ _ he hb hclass hlen hon hroot => execBskUpRx_queues s hon hroot (he ▸ hb) (he ▸ hclass) hlen,
    fun s _ hdue hon hroot hhost => execBskRecordSend_sends s hon hroot hhost hdue,
    fun s who _ _ ha hok => execBskAckedWrite_taken s who ha hok, fun s who _ hbad => execBskAckedWrite_refused s who hbad,
    fun s hon hroot hhost hframe => execBskStatusSend_sends s hon hroot hhost hframe,
    fun s _ who _ hb hon hroot hmax hlen hexpire hroom hu =>
      execBskDnSend_opens s who hb hon hroot hmax hlen hexpire hroom hu,
    fun s _ _ _ he hb hon hclass hlen => execBskDownRx_page s hon (he ▸ hb) (he ▸ hclass) hlen,
    fun s _ _ _ he hb hon hclass hlen => execBskDownRx_request s hon (he ▸ hb) (he ▸ hclass) hlen,
    fun s _ _ _ _ he hb hon hclass hlen hopen =>
      he ▸ execBskDownRx_answer s hon (he ▸ hb) (he ▸ hclass) hlen hopen,
    fun s _ _ fcnt _ _ hserve hrdv hfits hu => execBskDownTx_sends s fcnt hserve hrdv hfits hu,
    fun s _ fcnt _ _ hserve hrdv hlong => execBskDownTx_tooLong s fcnt hserve hrdv hlong,
    fun s _ fcnt _ hserve hnone => execBskDownTx_noRendezvous s fcnt hserve hnone,
    fun s _ fcnt hnone => execBskDownTx_notServed s fcnt hnone,
    fun s _ _ _ _ he hverdict htype hflag hon hp =>
      execDnAckRx_acks s (he ▸ hverdict) (he ▸ htype) (he ▸ hflag) hon (he ▸ hp),
    fun s _ _ hopen => execBskDnExpire_over s hopen⟩

end Sys2Proof.Machine

/-! O40: a campaign at its root, its pieces among the anchors, and the pieces that go to tags. -/
namespace Sys2Proof.Machine

section
variable (s : State)

/-- One superframe's pieces of campaign k flood from its root (R326): `execPieceSeed` seeds them. -/
def State.seedPieces (k : Campaign) : State :=
  ((List.range (cRate k.desc)).map (fun j => k.next + j)).foldl (fun (t : State) i =>
    match t.pieceOf k i with
    | some p => t.firmFlood 7 5 15 (pieceBody k.desc i p)
    | none => t) s

/-! ## The campaign at its root (R325, R326) -/

section
variable (who : Fin 8)

/-- The staged campaign runs once the root has flooded its CATALOG, and the root takes that CATALOG itself. -/
theorem execHmpStart_starts {d image : Bytes} {u : State} (hd : d = s.stagedCampaign) (hon : s.svcOn 2 = true)
    (hroot : s.isRoot = true) (hlen : (s.blob Obj.SVC_HMP_STAGE).length = 40) (hidle : s.campRuns = false)
    (himage : cImage d ≠ 0) (hkind : cKind d ≤ 1) (hsize : cSize d ≠ 0) (hpsize : cPsizeOk d = true)
    (hcount : cCount d ≤ 65535) (htimes : cStart d < cEnd d) (hhere : s.imageHere d = true)
    (hbytes : image = (if cKind d = 0 then [] else s.blob Obj.SVC_HMP_IMAGE)) (hu : u = s.firmFlood 7 6 15 (catalogBody d)) :
    execHmpStart who s =
      .next ((u.modSvc (fun x => { x with camp := some { desc := d, image := image, root := true } })).takeCatalog d) := by
  simp only [execHmpStart, State.hmpStart, ← hd, hon, hroot, hlen, hidle, himage, Nat.not_lt.mpr hkind, hsize, hpsize,
    Nat.not_lt.mpr hcount, Nat.not_le.mpr htimes, hhere, ← hbytes, ← hu, ne_eq, not_true_eq_false, decide_false,
    Bool.not_true, Bool.or_self, Bool.false_eq_true, if_false, Option.getD_some]

theorem execHmpStart_refused (hbad : s.svcOn 2 = false ∨ s.isRoot = false) :
    execHmpStart who s = .next (s.refuse who Obj.SVC_HMP_CMD 1) := by
  have hrefused : (!s.svcOn 2 || !s.isRoot) = true := by rcases hbad with h | h <;> simp [h]
  simp only [execHmpStart, State.hmpStart, hrefused, Bool.true_or, if_true, Option.getD_none]

end

section
variable {k : Campaign} (hcamp : s.svc.camp = some k) (hon : s.svcOn 2 = true) (hruns : s.campRuns = true)
include hcamp hon hruns

section
variable (hroot : s.isRoot = true)
include hroot

theorem execHmpStop_stops (who : Fin 8) {d : Bytes}
    (hd : d = sliceB k.desc 0 20 ++ leBytes 8 (tt64 s.now) ++ sliceB (k.desc.drop 28) 0 12) :
    execHmpStop who s = .next ((s.firmFlood 7 6 15 (catalogBody d)).takeCatalog d) := by
  simp only [execHmpStop, State.hmpStop, hcamp, hon, hroot, hruns, ← hd, Bool.not_true, Bool.or_self,
    Bool.false_eq_true, if_false, Option.getD_some]

theorem execCatalogReflood_floods : execCatalogReflood s = .next (s.firmFlood 7 6 15 (catalogBody k.desc)) := by
  simp only [execCatalogReflood, hcamp, hon, hroot, hruns, Bool.and_self, if_true]

/-- From START the root seeds RATE pieces, once in a superframe. -/
theorem execPieceSeed_seeds {u : State} (hmine : k.root = true) (hstart : cStart k.desc ≤ s.now)
    (hnew : k.seedSf ≠ some s.sf) (hu : u = s.seedPieces k) :
    execPieceSeed s = .next (u.modCamp (fun y => { y with
      next := min (cCount y.desc) (y.next + cRate y.desc), seedSf := some u.sf })).hmpShow := by
  subst hu
  have hdue : (s.svcOn 2 && s.isRoot && k.root && s.campRuns && decide (cStart k.desc ≤ s.now) &&
      k.seedSf != some s.sf) = true := by simp [hon, hroot, hmine, hruns, hstart, hnew]
  simp only [execPieceSeed, hcamp]
  exact if_pos hdue

end

/-! ## Pieces at an anchor (R326) -/

/-- After the pass an anchor asks the neighbour towards the root for pieces that it lacks, once in a superframe. -/
theorem execPieceReqSend_asks {l : List Nat} {r : Route} {u : State} (hl : l = k.missing.take (cRate k.desc))
    (hpass : cPassEnd k.desc ≤ s.now) (hlacks : l ≠ []) (hnew : k.reqSf ≠ some s.sf)
    (hroute : s.route (s.o Obj.SVC_ROOT) = some r) (hu : u = s.modCamp (fun y => { y with reqSf := some s.sf })) :
    execPieceReqSend s = .next ((u.inc Obj.SVC_HMP_REQ).send 7 r.hop 8 0
      (leBytes 2 (cImage k.desc) ++ leBytes 1 l.length ++ l.flatMap (fun i => leBytes 2 i))) := by
  have hdue : (s.svcOn 2 && s.campRuns && decide (cPassEnd k.desc ≤ s.now) && !l.isEmpty &&
      k.reqSf != some s.sf) = true := by simp [hon, hruns, hpass, hlacks, hnew]
  simp only [execPieceReqSend, hcamp, ← hl, hdue, hroute, ← hu, if_true]

/-- Each index that a PIECE_REQ of the right form names is answered in turn. -/
theorem execPieceReqRx_answers {i n : Nat} {b : Bytes} (hb : b = s.elemPayload (s.uniElem i)) (hn : n = fieldN b 2 1)
    (hclass : fieldN (s.uniElem i) 1 1 = 8) (himage : fieldN b 0 2 = cImage k.desc) (hsome : 1 ≤ n) (hmax : n ≤ 64)
    (hlen : b.length = 3 + 2 * n) :
    execPieceReqRx i s = .next (((List.range n).map (fun j => fieldN b (3 + 2 * j) 2)).foldl
      (fun (t : State) j => t.answerPiece (fieldN (s.uniElem i) 2 2 % 4096) j) s) := by
  simp only [execPieceReqRx, hcamp, ← hb, ← hn, hclass, hon, hruns, himage, hsome, hmax, hlen, decide_true,
    Bool.and_self, if_true]

end

theorem execPieceRx_takes {flood : Bool} {i : Nat} {e b : Bytes} (he : e = (if flood then s.floodElem i else s.uniElem i))
    (hb : b = s.elemPayload e) (hclass : fieldN e 1 1 = (if flood then 5 else 9)) (hlen : 9 ≤ b.length)
    (hon : s.svcOn 2 = true) : execPieceRx flood i s = .next (s.takePiece b) := by
  simp only [execPieceRx, ← he, ← hb, hclass, hlen, hon, decide_true, Bool.and_self, if_true]

/-! ## Pieces for tags (R327, R328) -/

section
variable {tag k m : Nat} (hm : m = s.listenK tag (k % 7))
include hm

theorem execTagPieceSend_noRendezvous (hnone : s.rdvNow tag m = none) :
    execTagPieceSend tag k s = .next { s with rbytes := [] } := by
  simp only [execTagPieceSend, ← hm, hnone]

section
variable {v : Instant × Nat} {g : Campaign} (hrdv : s.rdvNow tag m = some v) (hserves : s.carousel tag = some g)
include hrdv hserves

/-- The carousel's piece of this superframe goes where a DOWN frame with it fits. -/
theorem execTagPieceSend_sends {p : Bytes} (hpiece : s.pieceOf g (s.sf / 2 ^ m % cCount g.desc) = some p)
    (hfits : s.downFits tag (12 + p.length) = true) :
    execTagPieceSend tag k s = .next ((s.inc Obj.SVC_HMP_TAG_SENT).downSend tag v
      (s.downBody tag (pieceElem g.desc (s.sf / 2 ^ m % cCount g.desc) p))) := by
  simp only [execTagPieceSend, ← hm, hrdv, hserves, hpiece, Option.filter_some, hfits, if_true]

theorem execTagPieceSend_skips
    (hskip : (s.pieceOf g (s.sf / 2 ^ m % cCount g.desc)).filter (fun p => s.downFits tag (12 + p.length)) = none) :
    execTagPieceSend tag k s = .next ((s.inc Obj.SVC_HMP_TAG_SKIP).downMaps tag v) := by
  simp only [execTagPieceSend, ← hm, hrdv, hserves, hskip]

end
end
end

/-! ## The obligation -/

/-- Settles O40: each clause is what its command does under the conditions it names; the pieces that the root seeds are those
of `State.seedPieces`. -/
theorem hamperSpreadsAnImage : Obligations.HamperSpreadsAnImage :=
  ⟨fun s _ who _ _ hd hon hroot hlen hidle himage hkind hsize hpsize hcount htimes hhere hbytes hu =>
      execHmpStart_starts s who hd hon hroot hlen hidle himage hkind hsize hpsize hcount htimes hhere hbytes hu,
    fun s who hbad => execHmpStart_refused s who hbad,
    fun s who _ _ hcamp hon hroot hruns hd => execHmpStop_stops s hcamp hon hruns hroot who hd,
    fun s _ hcamp hon hroot hruns => execCatalogReflood_floods s hcamp hon hruns hroot,
    fun s _ _ hcamp hon hroot hmine hruns hstart hnew hu =>
      execPieceSeed_seeds s hcamp hon hruns hroot hmine hstart hnew hu,
    fun s _ _ _ _ he hb hclass hlen hon => execPieceRx_takes s he hb hclass hlen hon,
    fun s _ _ _ _ hcamp hl hon hruns hpass hlacks hnew hroute hu =>
      execPieceReqSend_asks s hcamp hon hruns hl hpass hlacks hnew hroute hu,
    fun s _ _ _ _ _ he hb hcamp hn hclass hon hruns himage hsome hmax hlen =>
      he ▸ execPieceReqRx_answers s hcamp hon hruns (he ▸ hb) hn (he ▸ hclass) himage hsome hmax hlen,
    fun s _ _ _ _ _ _ hm hrdv hserves hpiece hfits => execTagPieceSend_sends s hm hrdv hserves hpiece hfits,
    fun s _ _ _ _ _ hm hrdv hserves hskip => execTagPieceSend_skips s hm hrdv hserves hskip,
    fun s _ _ hnone => execTagPieceSend_noRendezvous s rfl hnone⟩

end Sys2Proof.Machine

/-! O41: the commands of the Shell, from the write that starts one to the event that ends it. -/
namespace Sys2Proof.Machine

/-! ## The command machine (R346, R350) -/

section
variable {s t : State} {who : Writer} {code level : Nat} {body : State → Nat × State}

/-- A command that is taken runs with what its body answers on the empty output. -/
theorem State.shellCmd_runs {r : Nat × State} (hfree : s.shellFree who level = true) (ht : t = s.shellOut)
    (hbody : body t = r) : Host.Outcome.next (s.shellCmd who code level body) = (.next (r.2.shellRuns code r.1) : Out) := by
  rw [State.shellCmd_free hfree, ← ht, hbody]

section
variable {st : Nat} (hrun : s.shell.running = some (code, st))
include hrun

theorem execShellCmd_ends (hasked : s.shell.asked = none) :
    execShellCmd s = .next (({ s with shell := { s.shell with running := none } }.setO Obj.SHL_CMD_STATUS st).raise
      0x120 0 (code + 256 * st)) := by
  simp only [execShellCmd, State.shellEnd, hrun, hasked]

/-- The WRITE that started the command is answered with the status that the command ended with. -/
theorem execShellCmd_answers {u : State} {w : Writer} {tag : Nat} (hasked : s.shell.asked = some (w, tag))
    (hu : u = ({ s with shell := { s.shell with running := none, asked := none } }.setO Obj.SHL_CMD_STATUS st).raise
      0x120 0 (code + 256 * st)) :
    execShellCmd s = .next (u.respond w 2 tag (keyBytes Obj.SHL_CMD ++
      (if u.o Obj.SHL_CMD_STATUS = 0 then [] else leBytes 1 (u.o Obj.SHL_CMD_STATUS)))) := by
  simp only [execShellCmd, State.shellEnd, State.shellAnswer, hrun, hasked, ← hu]

end
end

/-! ## Commands that put a key in an EMPTY slot (R343-R348) -/

/-- The answer of AGREE once its argument and its private key are in order (R346, R347): a point off the curve, or none
that the two keys share, is a bad argument; what they share makes the key. -/
def State.agreedKey (t : State) (p ty uses fl il : Nat) : Nat × State :=
  if onCurve (sliceB t.arg 6 64) then
    match Config.ecdh (t.keyOf p) (sliceB t.arg 6 64) with
    | none => (3, t)
    | some z => t.loadChecked ty uses fl 2 (Config.hkdf z [] (sliceB t.arg 70 il) (keyLen ty))
  else (3, t)

section
variable {t : State} (htgt : 1 < t.tgt)
include htgt

section
variable {ty uses fl : Nat} (hempty : t.slotState t.tgt = 0) (hok : keyArgOk ty uses fl = true)
include hempty hok

theorem State.generateBody_loads {u : State} {key : Bytes} (hty : ty = fieldN t.arg 0 1) (huses : uses = fieldN t.arg 1 2)
    (hfl : fl = fieldN t.arg 3 1) (hlen : 4 ≤ t.arg.length) (hrng : t.o Obj.SHL_RNG_STATE ≠ 1)
    (hdrbg : t.drbg (keyLen ty) = (key, u)) :
    t.generateBody =
      (if ty = 2 then u.setBlob Obj.SHL_CMD_OUT (Config.p256Public key) else u).loadChecked ty uses fl 0 key := by
  simp only [State.generateBody, ← hty, ← huses, ← hfl, Nat.not_le.mpr htgt, hempty, Nat.not_lt.mpr hlen, hok, hrng, hdrbg,
    ne_eq, not_true_eq_false, decide_false, Bool.not_true, Bool.or_self, Bool.false_eq_true, if_false]

section
variable {p il : Nat} (hp : p = fieldN t.arg 0 1) (hty : ty = fieldN t.arg 1 1) (huses : uses = fieldN t.arg 2 2)
  (hfl : fl = fieldN t.arg 4 1) (hil : il = fieldN t.arg 5 1) (hparent : p ≠ 0)
include hp hty huses hfl hil hparent

theorem State.agreeBody_agrees (hlen : 70 + il ≤ t.arg.length) (hinfo : il ≤ 64) (huse : t.permits p 9 = true) :
    t.agreeBody = t.agreedKey p ty uses fl il := by
  simp only [State.agreeBody, State.agreedKey, ← hp, ← hty, ← huses, ← hfl, ← hil, Nat.not_le.mpr htgt, hparent, hempty,
    Nat.not_lt.mpr hlen, Nat.not_lt.mpr hinfo, hok, huse, ne_eq, not_true_eq_false, decide_false, Bool.not_true,
    Bool.or_self, Bool.false_or, Bool.false_eq_true, if_false]
  cases onCurve (sliceB t.arg 6 64) <;> rfl

theorem State.deriveBody_derives (hlen : 6 + il ≤ t.arg.length) (huse : t.permits p 10 = true) :
    t.deriveBody = t.loadChecked ty uses fl 2 (Config.hkdf (t.keyOf p) [] (sliceB t.arg 6 il) (keyLen ty)) := by
  simp only [State.deriveBody, ← hp, ← hty, ← huses, ← hfl, ← hil, Nat.not_le.mpr htgt, hparent, hempty,
    Nat.not_lt.mpr hlen, hok, huse, ne_eq, not_true_eq_false, decide_false, Bool.not_true, Bool.or_self,
    Bool.false_eq_true, if_false]

end
end

/-! ## Commands on the key of a slot (R345, R346, R348) -/

theorem State.eraseBody_empties :
    t.eraseBody = (0, ((t.emptySlot t.tgt).countSlots).keepBlob t.tgt none) :=
  if_neg (Nat.not_le.mpr htgt)

section
variable (hloaded : t.slotState t.tgt = 1)
include hloaded

theorem State.exportBody_wraps {w ty : Nat} {head : Bytes} (hw : w = fieldN t.arg 0 1) (hwrap : w ≠ 0)
    (hlen : 1 ≤ t.arg.length) (hgen : ¬ (w = 1 ∧ t.o Obj.SHL_WRAP_GEN = 32)) (huse : t.permits w 6 = true)
    (hflag : bitOf (t.slotAttr t.tgt) (if w = 1 then 4 else 5) = true) (hty : ty = t.slotType t.tgt)
    (hhead : head = leBytes 1 1 ++ leBytes 1 ty ++ leBytes 2 (fld (t.slotAttr t.tgt) 31 16) ++
      leBytes 1 (fld (t.slotAttr t.tgt) 5 4) ++ leBytes 1 (if w = 1 then t.o Obj.SHL_WRAP_GEN else 0xFF) ++ leBytes 2 0) :
    t.exportBody = (0, t.setBlob Obj.SHL_CMD_OUT (head ++
      sliceB (Config.keyWrap (t.keyOf w) (head ++ sliceB (t.keyOf t.tgt) 0 32)) 0 48 ++ kcvOf ty (t.keyOf t.tgt) ++
      leBytes 4 0)) := by
  have hfuse : (decide (w = 1) && decide (t.o Obj.SHL_WRAP_GEN = 32)) = false := by simpa using hgen
  simp only [State.exportBody, ← hw, Nat.not_le.mpr htgt, hwrap, hloaded, Nat.not_lt.mpr hlen, hflag, hfuse, huse, ← hty,
    ← hhead, ne_eq, not_true_eq_false, decide_false, Bool.not_true, Bool.or_self, Bool.false_eq_true, if_false]

/-- RESTRICT takes the uses of its mask away from the slot. -/
theorem State.restrictBody_removes {mask : Nat} (hmask : mask = fieldN t.arg 0 2) (hlen : 2 ≤ t.arg.length)
    (hreserved : natAnd mask 0xF800 = 0) :
    t.restrictBody = (0, t.setO (Obj.SHL_SLOTk_ATTR t.tgt) (setFld (t.slotAttr t.tgt) 31 16
      (natAnd (fld (t.slotAttr t.tgt) 31 16) (0xFFFF - mask)))) := by
  simp only [State.restrictBody, ← hmask, Nat.not_le.mpr htgt, hloaded, Nat.not_lt.mpr hlen, hreserved, ne_eq,
    not_true_eq_false, decide_false, Bool.or_self, Bool.false_eq_true, if_false]

section
variable (hpair : t.slotType t.tgt = 2)
include hpair

theorem State.pubkeyBody_outputs :
    t.pubkeyBody = (0, t.setBlob Obj.SHL_CMD_OUT (Config.p256Public (t.keyOf t.tgt))) := by
  simp only [State.pubkeyBody, Nat.not_le.mpr htgt, hloaded, hpair, ne_eq, not_true_eq_false, decide_false, Bool.or_self,
    Bool.false_eq_true, if_false]

theorem State.signBody_signs (hlen : t.arg.length = 32) (huse : t.permits t.tgt 8 = true) :
    t.signBody = (0, t.setBlob Obj.SHL_CMD_OUT (Config.ecdsaSign (t.keyOf t.tgt) t.arg)) := by
  simp only [State.signBody, Nat.not_le.mpr htgt, hloaded, hpair, hlen, huse, ne_eq, not_true_eq_false, decide_false,
    Bool.not_true, Bool.or_self, Bool.false_eq_true, if_false]

end
end

/-! ## Counters (R356, R357) -/

section
variable (hmax : t.tgt ≤ 63)
include hmax

/-- A slot that is EMPTY, or whose counter is not persisted, has nothing to synchronise. -/
theorem State.ctrSyncBody_idle (hnone : t.slotState t.tgt = 0 ∨ t.persisted t.tgt = false) : t.ctrSyncBody = (0, t) := by
  have hidle : (decide (t.slotState t.tgt = 0) || !t.persisted t.tgt) = true := by rcases hnone with h | h <;> simp [h]
  simp only [State.ctrSyncBody, Nat.not_le.mpr htgt, Nat.not_lt.mpr hmax, hidle, decide_false, Bool.or_self,
    Bool.false_eq_true, if_false, if_true]

/-- The mark that is found allows the slot the counters up to 65,536 past it. -/
theorem State.ctrSyncBody_marks {v : Nat} (hholds : t.slotState t.tgt ≠ 0) (hpersists : t.persisted t.tgt = true)
    (hmark : t.findMark (kcvOf (t.slotType t.tgt) (t.keyOf t.tgt)) = some v) :
    t.ctrSyncBody = (0, ((t.setMark t.tgt (some v)).setO (Obj.SHL_SLOTk_LIMIT t.tgt)
      (max ((t.setMark t.tgt (some v)).o (Obj.SHL_SLOTk_LIMIT t.tgt)) (min (v + 65536) 0xFFFFFFFF))).judgeCtr t.tgt) := by
  simp only [State.ctrSyncBody, Nat.not_le.mpr htgt, Nat.not_lt.mpr hmax, hholds, hpersists, hmark, decide_false,
    Bool.not_true, Bool.or_self, Bool.false_eq_true, if_false]

end
end

section
variable {t : State}

/-- A copy may be erased once the other copy covers every persisted counter. -/
theorem State.permitBody_permits {k : Nat} (hk : k = fieldN t.arg 0 1) (hlen : 1 ≤ t.arg.length) (hcopy : k ≤ 1)
    (hcovered : t.coveredBy (1 - k) = true) :
    t.permitBody = (0, { t with shell := { t.shell with permit := setBit t.shell.permit k true } }) := by
  simp only [State.permitBody, ← hk, Nat.not_lt.mpr hlen, Nat.not_lt.mpr hcopy, hcovered, decide_false, Bool.not_true,
    Bool.or_self, Bool.false_eq_true, if_false]

/-! ## Signatures and the owner (R346, R347, R369) -/

theorem State.verifyBody_judges {pub : Bytes} (hpub : pub = sliceB t.arg 0 64) (hlen : t.arg.length = 160) :
    t.verifyBody = if !(onCurve pub) then (3, t)
      else if Config.ecdsaVerify pub (sliceB t.arg 64 32) (sliceB t.arg 96 64) then (0, t) else (9, t) := by
  simp only [State.verifyBody, ← hpub, hlen, ne_eq, not_true_eq_false, decide_false, Bool.false_or]

theorem State.setOwnerBody_burns (hlen : t.arg.length = 32) (hblank : t.shell.ownerHash = none) :
    t.setOwnerBody = (0, { t with shell := { t.shell with ownerHash := some t.arg } }) := by
  simp only [State.setOwnerBody, hlen, hblank, ne_eq, not_true_eq_false, decide_false, Option.isSome_none, Bool.or_self,
    Bool.false_eq_true, if_false]

end

/-! ## Start, reseed and measurements (R341, R349, R359, R367) -/

section
variable (s : State)

/-- Slot 0 gets the device key, and slot 1 the wrap key of the generation while a fuse is left. -/
theorem execShellReady_rebuilds {u : State} (hstate : s.o Obj.SHL_STATE = 0)
    (hu : u = s.loadSlot 0 2 0 0 3 Config.deviceKey) :
    execShellReady s = .next ((if u.o Obj.SHL_WRAP_GEN < 32 then u.loadSlot 1 1 0x40 0 3 (wrapKey (u.o Obj.SHL_WRAP_GEN))
      else (u.emptySlot 1).countSlots).setO Obj.SHL_STATE 1) := by
  simp only [execShellReady, hstate, ← hu, if_true]

theorem execDrbgReseed_reseeds (hreq : 65536 ≤ s.shell.drbgReq) (hrng : s.o Obj.SHL_RNG_STATE = 0) :
    execDrbgReseed s = .next { s with shell := { s.shell with drbgReq := 0 } } := by
  simp only [execDrbgReseed, hreq, hrng, decide_true, Bool.and_self, if_true]

theorem execMeasExtend_extends {who : Writer} {v : Bytes} (i : Fin 4) (hwho : ∀ x, who ≠ .session x)
    (hlen : v.length = 32) : execMeasExtend who i v s = .next (s.measExtend i v) := by
  cases who with
  | core c => exact if_pos hlen
  | session x => exact absurd rfl (hwho x)
  | debug => exact if_pos hlen

end

/-! ## The obligation -/

/-- Settles O41: a command that is taken runs with the answer of its body (`State.shellCmd_runs`), and each body's answer is
that of its row under the conditions that the clause names. -/
theorem shellCommandsActOnKeySlots : Obligations.ShellCommandsActOnKeySlots :=
  ⟨fun _ _ _ _ _ _ _ _ hfree ht hty huses hfl htgt hempty hlen hok hrng hdrbg =>
      State.shellCmd_runs hfree ht (State.generateBody_loads htgt hempty hok hty huses hfl hlen hrng hdrbg),
    fun _ _ _ hfree ht => State.shellCmd_runs hfree ht rfl,
    fun _ _ _ _ _ _ hfree ht hw htgt hwrap hloaded hlen hgen huse hflag hty hhead =>
      State.shellCmd_runs hfree ht
        (State.exportBody_wraps htgt hloaded hw hwrap hlen hgen huse hflag hty hhead),
    fun _ _ _ _ _ _ _ _ _ hfree ht hp hty huses hfl hil htgt hparent hempty hlen hinfo hok huse hr =>
      State.shellCmd_runs hfree ht
        ((State.agreeBody_agrees htgt hempty hok hp hty huses hfl hil hparent hlen hinfo huse).trans hr.symm),
    fun _ _ _ _ _ _ _ _ hfree ht hp hty huses hfl hil htgt hparent hempty hlen hok huse =>
      State.shellCmd_runs hfree ht
        (State.deriveBody_derives htgt hempty hok hp hty huses hfl hil hparent hlen huse),
    fun _ _ _ hfree ht htgt => State.shellCmd_runs hfree ht (State.eraseBody_empties htgt),
    fun _ _ _ _ hfree ht hmask htgt hloaded hlen hreserved =>
      State.shellCmd_runs hfree ht (State.restrictBody_removes htgt hloaded hmask hlen hreserved),
    fun _ _ _ hfree ht htgt hmax hnone => State.shellCmd_runs hfree ht (State.ctrSyncBody_idle htgt hmax hnone),
    fun _ _ _ _ hfree ht htgt hmax hholds hpersists hmark =>
      State.shellCmd_runs hfree ht (State.ctrSyncBody_marks htgt hmax hholds hpersists hmark),
    fun _ _ _ _ hfree ht hk hlen hcopy hcovered =>
      State.shellCmd_runs hfree ht (State.permitBody_permits hk hlen hcopy hcovered),
    fun _ _ _ hfree ht => State.shellCmd_runs hfree ht rfl,
    fun _ _ _ hfree ht htgt hloaded hpair =>
      State.shellCmd_runs hfree ht (State.pubkeyBody_outputs htgt hloaded hpair),
    fun _ _ _ hfree ht htgt hloaded hpair hlen huse =>
      State.shellCmd_runs hfree ht (State.signBody_signs htgt hloaded hpair hlen huse),
    fun _ _ _ _ hfree ht hpub hlen => State.shellCmd_runs hfree ht (State.verifyBody_judges hpub hlen),
    fun _ _ _ hfree ht hlen hblank => State.shellCmd_runs hfree ht (State.setOwnerBody_burns hlen hblank),
    fun _ _ hbusy => ⟨congrArg Host.Outcome.next (State.shellCmd_busy hbusy),
      congrArg Host.Outcome.next (State.shellCmd_busy hbusy)⟩,
    fun _ _ _ hrun hasked => execShellCmd_ends hrun hasked,
    fun _ _ _ _ _ _ hrun hasked hu => execShellCmd_answers hrun hasked hu,
    fun s _ hstate hu => execShellReady_rebuilds s hstate hu,
    fun s hreq hrng => execDrbgReseed_reseeds s hreq hrng,
    fun s _ i _ hwho hlen => execMeasExtend_extends s i hwho hlen⟩

end Sys2Proof.Machine

/-! O42: an alarm from its source to its fuse, the random source, and the debug unlock. -/
namespace Sys2Proof.Machine

/-- The record of an alarm at its instant D, in the objects of the Shell (R363): `State.alarmLatch` begins with it. -/
def State.alarmRecorded (s : State) (src : Nat) : State :=
  ((s.setO Obj.SHL_ALARM_AT (tt64 s.now)).setO Obj.SHL_ALARM_SRC
    (setBit ((s.setO Obj.SHL_ALARM_AT (tt64 s.now)).o Obj.SHL_ALARM_SRC) (src - 1) true)).inc Obj.SHL_ALARM_TOTAL

/-- What `execSlotZeroise` does in the Shell beyond its slots (R363, R365): the DRBG starts again, a command that runs ends
with ALARM, and the alarm is over unless a fuse is to be blown. -/
def ShellSt.zeroised (x : ShellSt) : ShellSt :=
  { x with
    drbgReq := 0
    running := x.running.map (fun r => (r.1, 0x0A))
    alarms := (alarmMod (fun b => b.closed && !b.zeroised) (fun b => { b with zeroised := true }) x.alarms).filter
      (fun b => !b.zeroised || b.act == 3) }

section
variable (s : State)

/-! ## A source, its filter and its latch (R361-R363) -/

section
variable {src : Nat}

theorem execAlarmSourceDetect_filters {stopped : Bool} (hwatch : s.alarmWatches src stopped = true)
    (hact : s.alarmAct src ≠ 0) :
    execAlarmSourceDetect src stopped s = .next (s.modShell (fun x => { x with
      sources := (src, s.now + s.alarmFilter src stopped) :: x.sources.filter (fun p => p.1 != src) })) := by
  have hraises : (s.alarmWatches src stopped && decide (s.alarmAct src ≠ 0)) = true := by simp [hwatch, hact]
  exact if_pos hraises

theorem execAlarmSourceDetect_none {stopped : Bool} (hact : s.alarmAct src = 0) :
    execAlarmSourceDetect src stopped s = .next s := by
  simp only [execAlarmSourceDetect, hact, ne_eq, not_true_eq_false, decide_false, Bool.and_false, Bool.false_eq_true,
    if_false]

/-- A tamper input whose MODE is OFF has no action (R362). -/
theorem State.alarmAct_tamperOff {p : Fin 2} (hoff : s.o (Obj.SHL_TAMPp_MODE p) = 0) : s.alarmAct (5 + p) = 0 := by
  have htamper : (decide (5 + p.val = 5) || decide (5 + p.val = 6)) = true := by
    have hp := p.isLt
    simp only [Bool.or_eq_true, decide_eq_true_eq]
    omega
  simp only [State.alarmAct, htamper, Nat.add_sub_cancel_left, hoff, decide_true, Bool.and_self, if_true]

/-- A source that has an action at D latches then, after the stop of the air where it is POWER. -/
theorem execAlarmLatch_latches {r u : State} {act : Nat} {d : Instant}
    (hsource : s.shell.sources.find? (fun p => p.1 == src) = some (src, d))
    (hr : r = (s.upTo d).modShell (fun x => { x with sources := x.sources.filter (fun p => p.1 != src) }))
    (hact : r.alarmAct src = act) (hsome : act ≠ 0) (hu : u = if src = 7 then r.airStop 0x1B else r) :
    execAlarmLatch src s = .next (u.alarmLatch src act) := by
  simp only [execAlarmLatch, hsource, ← hr, hact, hsome, ← hu, if_false]

theorem State.alarmLatch_event : s.alarmLatch src 1 = (s.alarmRecorded src).raise 0x121 src 1 := by
  simp only [State.alarmLatch, State.alarmRecorded, if_true]

/-- An alarm that erases ends the debug unlock, and those that wait for a fuse, and starts its run. -/
theorem State.alarmLatch_erases {t : State} {act : Nat} (hact : 2 ≤ act) (ht : t = s.alarmRecorded src) :
    s.alarmLatch src act = t.unlockEnd.modShell (fun x => { x with
      alarms := x.alarms.map (fun a => { a with unlock := none }) ++ [{ src := src, act := act, d := s.now }] }) :=
  ht ▸ if_neg (by omega)

end

/-! ## The run of an alarm: key bus, slots, fuse (R349, R363-R365) -/

section
variable {a : AlarmRun}

theorem execKeyBusClose_closes (cuts : List (Nat × Nat × Bool))
    (halarm : s.shell.alarms.find? (fun a => !a.closed) = some a) :
    execKeyBusClose cuts s = .next (((s.upTo (a.d + 3)).keyAbort cuts).modShell (fun x => { x with
      alarms := alarmMod (fun b => !b.closed) (fun b => { b with closed := true }) x.alarms })) := by
  simp only [execKeyBusClose, halarm]

theorem execSlotZeroise_zeroises {u : State}
    (halarm : s.shell.alarms.find? (fun a => a.closed && !a.zeroised) = some a)
    (hu : u = (s.upTo (a.d + 39)).zeroise.setO Obj.SHL_STATE 2) :
    execSlotZeroise s = .next ((u.modShell ShellSt.zeroised).raise 0x121 a.src a.act) := by
  simp only [execSlotZeroise, halarm, ← hu]
  rfl

/-- The fuse is blown, and then the VENDOR unlock that waited for it begins. -/
theorem execFusePurge_blows {u v : State}
    (halarm : s.shell.alarms.find? (fun a => a.zeroised && a.act == 3) = some a) (hu : u = s.upTo (a.d + 768))
    (hv : v = (u.setO Obj.SHL_WRAP_GEN (min 32 (u.o Obj.SHL_WRAP_GEN + 1))).modShell
      (fun x => { x with alarms := x.alarms.filter (fun b => b != a) })) :
    execFusePurge s = .next (a.unlock.elim v (fun dur => v.unlock 2 dur)) := by
  simp only [execFusePurge, halarm, ← hu, ← hv]
  cases a.unlock <;> rfl

end

/-! ## The random source (R360) -/

theorem execRngFail_fails {u : State} (hu : u = (s.setO Obj.SHL_RNG_STATE 1).inc Obj.SHL_RNG_FAILS) :
    execRngFail s = .next (u.raise 0x124 0 (u.o Obj.SHL_RNG_FAILS)) := by
  rw [hu, execRngFail]

theorem execRngRecover_recovers {windows : Nat} (hfailed : s.o Obj.SHL_RNG_STATE = 1) (hpassed : 4 ≤ windows) :
    execRngRecover windows s =
      .next { s.setO Obj.SHL_RNG_STATE 0 with shell := { s.shell with drbgReq := 0 } } := by
  simp only [execRngRecover, hfailed, hpassed, decide_true, Bool.and_self, if_true]

/-! ## Debug unlock (R370-R372) -/

theorem execDebugChallenge_some {u : State} {b : Bytes} (hnew : s.challenge = some (b, u)) :
    execDebugChallenge s = .next { u with rbytes := b } := by
  simp only [execDebugChallenge, hnew]

theorem execDebugChallenge_none (hnone : s.challenge = none) :
    execDebugChallenge s = .next { s with rbytes := [] } := by
  simp only [execDebugChallenge, hnone]

theorem State.challenge_refused (hbad : s.o Obj.SHL_DBG_STATE = 3 ∨ s.o Obj.SHL_RNG_STATE = 1) : s.challenge = none :=
  if_pos (by simpa using hbad)

/-- A response uses the challenge up: a good one unlocks, by way of a purge for VENDOR, and a bad one counts towards
LOCKED. -/
theorem execDebugResponse_judges {u : State} {b : Bytes} {n : Nat} (hu : u = s.modShell (fun x => { x with challenge := none }))
    (hn : n = u.o Obj.SHL_DBG_FAILS + 1) :
    execDebugResponse b s = .next (
      if s.responseOk b then
        if fieldN b 24 1 = 1 then u.unlock 1 (fieldN b 28 4)
        else u.modShell (fun x => { x with
          alarms := x.alarms ++ [{ src := 0, act := 3, d := u.now, unlock := some (fieldN b 28 4) }] })
      else (if 3 ≤ n then ((u.setO Obj.SHL_DBG_FAILS (min 255 n)).setO Obj.SHL_DBG_STATE 3).setO Obj.SHL_DBG_UNTIL 0
            else u.setO Obj.SHL_DBG_FAILS (min 255 n)).raise 0x125 0 (min 255 n)) := by
  simp only [execDebugResponse, State.debugResponse, ← hu, ← hn]

theorem execDebugUnlockEnd_ends (hopen : s.o Obj.SHL_DBG_STATE = 1 ∨ s.o Obj.SHL_DBG_STATE = 2)
    (huntil : s.o Obj.SHL_DBG_UNTIL ≠ 0) :
    execDebugUnlockEnd s = .next (s.upTo (linear (s.o Obj.SHL_DBG_UNTIL))).unlockEnd :=
  if_pos (by simpa [huntil] using hopen)

end

/-! ## The obligation -/

/-- Settles O42: each clause is what its command does under the conditions it names; an alarm's latch turns on its action, and
what a zeroise changes in the Shell beyond its slots is `ShellSt.zeroised`. -/
theorem alarmsErasePurgeAndUnlocksEnd : Obligations.AlarmsErasePurgeAndUnlocksEnd :=
  ⟨fun s _ _ hwatch hact => execAlarmSourceDetect_filters s hwatch hact,
    fun s _ _ hoff => execAlarmSourceDetect_none s (s.alarmAct_tamperOff hoff),
    fun s _ u src _ hsource hr hact hu => ⟨u.alarmRecorded src, rfl,
      (execAlarmLatch_latches s hsource hr hact Nat.one_ne_zero hu).trans (congrArg _ u.alarmLatch_event)⟩,
    fun s _ u _ _ _ _ hsource hr hact hmin hu ht =>
      (execAlarmLatch_latches s hsource hr hact (by omega) hu).trans (congrArg _ (u.alarmLatch_erases hmin ht)),
    fun s cuts _ halarm => execKeyBusClose_closes s cuts halarm,
    fun s u _ halarm hu => ⟨u.modShell ShellSt.zeroised, execSlotZeroise_zeroises s halarm hu, rfl, rfl, rfl, rfl⟩,
    fun s _ v a halarm hu hv => (execFusePurge_blows s halarm hu hv).trans (by cases a.unlock <;> rfl),
    fun s _ hu => execRngFail_fails s hu,
    fun s _ hfailed hpassed => execRngRecover_recovers s hfailed hpassed,
    fun s _ _ hnew => execDebugChallenge_some s hnew,
    fun s hbad => execDebugChallenge_none s (s.challenge_refused hbad),
    fun s _ _ _ hu hn => execDebugResponse_judges s hu hn,
    fun s hopen huntil => execDebugUnlockEnd_ends s hopen huntil⟩

end Sys2Proof.Machine

/-! O20-O29 and O54-O56: the Gragil instructions, each on a core that is ready for it, the data stack, the trap of a reserved
opcode, and what a store leaves alone. O58: the state at reset. -/
namespace Sys2Proof.Machine

theorem next_congr {t u : State} (h : t = u) : (.next t : Out) = .next u := congrArg _ h

theorem next_inj {t u : State} (h : (.next t : Out) = .next u) : t = u := by cases h; rfl

section
variable {s : State} {c : Fin 8}

/-! ## Shared frames of instructions (R400, R404, R426, R427) -/

theorem State.pureOp_completes {len din dout : Nat} {f : List Nat → List Nat} (ins : List Nat)
    (hready : s.ready c len din dout 0 0 = true) (hins : s.dTop c din = ins) :
    s.pureOp c len din dout f = s.retired c din (f ins) 0 [] (s.cores[c].after len) :=
  hins ▸ State.pureOp_done hready

theorem State.binOp_completes {f : Nat → Nat → Nat → Nat} {a b : Nat}
    (hready : s.ready c 1 2 1 0 0 = true) (hins : s.dTop c 2 = [a, b]) :
    s.binOp c f = s.retired c 2 [f s.cores[c].w a b] 0 [] (s.cores[c].after 1) :=
  State.pureOp_completes [a, b] hready hins

theorem State.arithOp_completes {din dout : Nat} {f : Nat → List Nat → Option Arith} {ins : List Nat} (r : Arith)
    (hready : s.ready c 1 din dout 0 0 = true) (hins : s.dTop c din = ins) (hresult : f s.cores[c].w ins = some r) :
    s.arithOp c din dout f =
      (s.modCore c (fun x => { x with ov := r.ov, c := r.c })).retired c din r.outs 0 [] (s.cores[c].after 1) :=
  State.arithOp_done hready (hins ▸ hresult)

theorem State.only32_wide {f : State → State} (hwide : s.cores[c].sprout = false) : s.only32 c f = f s :=
  if_neg (by rw [hwide]; exact Bool.false_ne_true)

theorem State.onlySprout_sprout {f : State → State} (hsprout : s.cores[c].sprout = true) : s.onlySprout c f = f s :=
  if_pos hsprout

theorem CoreSt.an_wide {x : CoreSt} (hwide : x.sprout = false) : x.an = 1 := by
  simp only [CoreSt.an, hwide, Bool.false_eq_true, if_false]

theorem CoreSt.addrIn_wide {x : CoreSt} (hwide : x.sprout = false) (l : List Nat) (i : Nat) : x.addrIn l i = inp l i := by
  simp only [CoreSt.addrIn, hwide, Bool.false_eq_true, if_false]

theorem CoreSt.phys_wide {x : CoreSt} {a : Nat} (hwide : x.sprout = false) (ha : a < 2 ^ 32) : x.phys a = a := by
  simp only [CoreSt.phys, hwide, Bool.false_eq_true, if_false, Nat.mod_eq_of_lt ha]

/-! ## Loads and stores (R410, R411, R413) -/

theorem loadEff_loadable {a n cb : Nat} (f : Nat → List Nat) (hmem : s.loadable c a n = true) :
    s.access a n (loadEff (s.load c a n cb) a f) = .done s (f (s.rn a n)) [] none := by
  rw [State.access_free (State.loadable_free hmem), State.load_eq hmem]
  rfl

theorem storeEff_storable {a n v : Nat} (hmem : s.storable c a n = true) :
    s.access a n (storeEff s (s.store c a n v) a) = .done (s.wn a n (v % 2 ^ (8 * n))) [] [] none := by
  rw [State.access_free (State.storable_free hmem), State.store_eq hmem]
  rfl

theorem State.loadOp_loads {a n cb : Nat} {f : Nat → Nat} (hwide : s.cores[c].sprout = false)
    (hready : s.ready c 1 1 1 0 0 = true) (hins : s.dTop c 1 = [a]) (ha : a < 2 ^ 32) (hmem : s.loadable c a n = true) :
    s.loadOp c n cb f = s.retired c 1 [f (s.rn a n)] 0 [] (s.cores[c].after 1) := by
  simp only [State.loadOp, CoreSt.an_wide hwide, CoreSt.addrIn_wide hwide]
  refine State.gins_done (goto := none) hready ?_
  rw [hins, show inp [a] 0 = a from rfl, CoreSt.phys_wide hwide ha]
  exact loadEff_loadable _ hmem

theorem State.storeOp_stores {a n v : Nat} (hwide : s.cores[c].sprout = false) (hready : s.ready c 1 2 0 0 0 = true)
    (hins : s.dTop c 2 = [v, a]) (ha : a < 2 ^ 32) (hmem : s.storable c a n = true) :
    s.storeOp c n = (s.wn a n (v % 2 ^ (8 * n))).retired c 2 [] 0 [] (s.cores[c].after 1) := by
  simp only [State.storeOp, CoreSt.an_wide hwide, CoreSt.addrIn_wide hwide]
  refine State.gins_done (goto := none) hready ?_
  rw [hins, show inp [v, a] 1 = a from rfl, show inp [v, a] 0 = v from rfl, CoreSt.phys_wide hwide ha]
  exact storeEff_storable hmem

/-- LDD of two words that can be loaded reads them low first. -/
theorem State.ldd_loads {a cb0 cb1 : Nat} (hlo : s.loadable c a 4 = true) (hhi : s.loadable c (second a) 4 = true) :
    s.ldd c a cb0 cb1 = .done s [s.rn a 4, s.rn (second a) 4] [] none := by
  simp only [State.ldd, State.loadable_trap hlo, State.loadable_trap hhi, State.load_eq hlo, State.load_eq hhi, loadEff]

/-- STD of two words that can be stored writes them low first. -/
theorem State.std_stores {a lo hi : Nat} (hlo : s.storable c a 4 = true) (hhi : s.storable c (second a) 4 = true)
    (hthen : (s.wn a 4 (lo % 2 ^ 32)).storable c (second a) 4 = true) :
    s.std c a lo hi = .done ((s.wn a 4 (lo % 2 ^ 32)).wn (second a) 4 (hi % 2 ^ 32)) [] [] none := by
  simp only [State.std, State.storable_trap hlo, State.storable_trap hhi, State.storable_lit hlo, State.storable_lit hhi,
    Bool.or_self, Bool.false_eq_true, if_false, State.store_eq hlo, State.store_eq hthen, storeEff]

/-- An exchange of a word that can be loaded answers it, and writes the new one where it may. -/
theorem State.atom_exchanges {a new : Nat} (ok : Nat → Bool) (hmem : s.loadable c a 4 = true) (halign : a % 4 = 0)
    (hwritable : writableMem a = true) :
    s.atom c a new ok = .done (if ok (s.rn a 4) then s.wn a 4 new else s) [s.rn a 4] [] none := by
  have htrap : s.atomTrap c a = none := by
    simp only [State.atomTrap, halign, hwritable, ne_eq, not_true_eq_false, if_false, if_true, State.loadable_trap hmem]
  have hput : s.putBytes c a (leBytes 4 new) = s.wn a 4 new :=
    State.putBytes_eq fun i hi => State.undisturbed_at (State.loadable_undisturbed hmem) (by rwa [leBytes_length] at hi)
  simp only [State.atom, htrap, State.load_eq hmem, hput]

/-! ## Branches (R404) -/

theorem State.jump_jumps {len w off : Nat} (hready : s.ready c len 0 0 0 0 = true) :
    s.jump c len w off = s.retired c 0 [] 0 [] (s.cores[c].target len w off) :=
  State.gins_done (goto := some _) hready rfl

theorem State.branch_branches {len w off f : Nat} (ok : Nat → Bool) (hready : s.ready c len 1 0 0 0 = true)
    (hins : s.dTop c 1 = [f]) :
    s.branch c len w off ok =
      s.retired c 1 [] 0 [] (if ok f then s.cores[c].target len w off else s.cores[c].after len) := by
  rw [State.branch, State.gins_ready hready, hins]
  show State.retired _ _ _ _ _ _ ((if ok f then some _ else none).getD _) = _
  cases ok f <;> rfl
/-- An element of the return stack that fits in an element of the data stack is it. -/
theorem State.narrow_fits {a : Nat} (hfits : a < 2 ^ s.cores[c].w) : s.narrow c a = a := if_pos hfits

end

section
variable {c : Fin 8}

/-! ## What retiring changes (R400, R404) -/

/-- A write of bytes changes memory and what the DRAM notes of it. -/
theorem State.wbs_eq : ∀ (s : State) (a : Nat) (l : Bytes), ∃ m d, s.wbs a l = { s with mem := m, dram := d }
  | _, _, [] => ⟨_, _, rfl⟩
  | s, a, b :: r => by
    obtain ⟨m, d, h⟩ := State.wbs_eq (s.wb a b) (a + 1) r
    exact ⟨m, d, h⟩

theorem State.wn_keeps (s : State) (a n v : Nat) :
    (s.wn a n v).objs = s.objs ∧ (s.wn a n v).blobs = s.blobs ∧ (s.wn a n v).cores = s.cores := by
  obtain ⟨m, d, hw⟩ := s.wbs_eq a (leBytes n v)
  rw [State.wn, hw]
  exact ⟨rfl, rfl, rfl⟩

theorem State.stackPut_eq (s : State) (x : CoreSt) (a n v : Nat) :
    ∃ m d, s.stackPut x a n v = { s with mem := m, dram := d } := by
  unfold State.stackPut
  dsimp only
  split
  · exact s.wbs_eq _ _
  · exact ⟨_, _, rfl⟩

theorem State.stackPush_eq (x : CoreSt) (e : Nat) : ∀ (l : List Nat) (s : State) (p : Nat),
    ∃ m d, s.stackPush x p e l = { s with mem := m, dram := d }
  | [], _, _ => ⟨_, _, rfl⟩
  | v :: r, s, p => by
    obtain ⟨m, d, hput⟩ := s.stackPut_eq x (p - e) e v
    obtain ⟨m', d', hrest⟩ := State.stackPush_eq x e r (s.stackPut x (p - e) e v) (p - e)
    exact ⟨m', d', by rw [State.stackPush, hrest, hput]⟩

theorem State.dSwap_eq (s : State) (n : Nat) (outs : List Nat) :
    ∃ m d p, s.dSwap c n outs = { s with mem := m, dram := d, cores := vmod s.cores c (fun x => x.setDp p) } := by
  obtain ⟨m, d, hpush⟩ := s.stackPush_eq s.cores[c] s.cores[c].de outs (s.cores[c].dp + s.cores[c].de * n)
  exact ⟨m, d, _, by rw [State.dSwap, hpush]; rfl⟩

theorem State.rSwap_eq (s : State) (n : Nat) (outs : List Nat) :
    ∃ m d p, s.rSwap c n outs = { s with mem := m, dram := d, cores := vmod s.cores c (fun x => x.setRp p) } := by
  obtain ⟨m, d, hpush⟩ := s.stackPush_eq s.cores[c] s.cores[c].re outs (s.cores[c].rp + s.cores[c].re * n)
  exact ⟨m, d, _, by rw [State.rSwap, hpush]; rfl⟩

/-- A core that goes on elsewhere with its stack pointers moved. -/
def CoreSt.moved (x : CoreSt) (dp rp pc : Nat) : CoreSt :=
  let y := (x.setDp dp).setRp rp
  { y with pc := BitVec.ofNat 32 pc }

/-- An instruction that retires changes memory, where its stacks lie, and the stack pointers and the pc of its core. -/
theorem State.retired_eq (s : State) (din : Nat) (outs : List Nat) (rin : Nat) (routs : List Nat) (goto : Nat) :
    ∃ m d dp rp, s.retired c din outs rin routs goto =
      { s with mem := m, dram := d, cores := vmod s.cores c (fun x => x.moved dp rp goto) } := by
  obtain ⟨m, d, dp, hd⟩ := s.dSwap_eq (c := c) din outs
  obtain ⟨m', d', rp, hr⟩ := (s.dSwap c din outs).rSwap_eq (c := c) rin routs
  refine ⟨m', d', dp, rp, ?_⟩
  rw [State.retired, hr, hd, State.modCore]
  simp only [vmod_vmod]
  rfl

theorem CoreSt.setDp_queue (x : CoreSt) (p : Nat) : (x.setDp p).queue = x.queue ∧ (x.setDp p).lostSince = x.lostSince := by
  unfold CoreSt.setDp
  split <;> exact ⟨rfl, rfl⟩

theorem CoreSt.setRp_queue (x : CoreSt) (p : Nat) : (x.setRp p).queue = x.queue ∧ (x.setRp p).lostSince = x.lostSince := by
  unfold CoreSt.setRp
  split <;> exact ⟨rfl, rfl⟩

/-- The events of a core that retires an instruction stay. -/
theorem CoreSt.moved_queue (x : CoreSt) (dp rp pc : Nat) :
    (x.moved dp rp pc).queue = x.queue ∧ (x.moved dp rp pc).lostSince = x.lostSince :=
  ⟨((x.setDp dp).setRp_queue rp).1.trans (x.setDp_queue dp).1, ((x.setDp dp).setRp_queue rp).2.trans (x.setDp_queue dp).2⟩

/-- An instruction that retires leaves every core's events. -/
theorem State.retired_queue (s : State) (din : Nat) (outs : List Nat) (rin : Nat) (routs : List Nat) (goto : Nat) (d : Fin 8) :
    (s.retired c din outs rin routs goto).cores[d].queue = s.cores[d].queue ∧
      (s.retired c din outs rin routs goto).cores[d].lostSince = s.cores[d].lostSince := by
  obtain ⟨_, _, dp, rp, h⟩ := s.retired_eq (c := c) din outs rin routs goto
  simp only [h, vmod_get]
  split
  · next hd => subst hd; exact s.cores[d].moved_queue dp rp goto
  · exact ⟨rfl, rfl⟩
end

/-- Two changes of a core that agree on it as it stands are one. -/
theorem State.modCore_congr {s : State} {c : Fin 8} {f g : CoreSt → CoreSt} (h : f s.cores[c] = g s.cores[c]) :
    s.modCore c f = s.modCore c g := by
  have hcores : vmod s.cores c f = vmod s.cores c g := by
    ext j hj
    simp only [vmod_getElem]
    split
    · exact h
    · rfl
  simp only [State.modCore, hcores]

theorem CoreSt.setDp_wide {x : CoreSt} (hwide : x.sprout = false) (p : Nat) :
    x.setDp p = { x with dsp := BitVec.ofNat 32 p } := if_neg (by rw [hwide]; exact Bool.false_ne_true)

theorem CoreSt.setRp_wide {x : CoreSt} (hwide : x.sprout = false) (p : Nat) :
    x.setRp p = { x with rsp := BitVec.ofNat 32 p } := if_neg (by rw [hwide]; exact Bool.false_ne_true)

theorem CoreSt.rp_wide {x : CoreSt} (hwide : x.sprout = false) : x.rp = x.rsp.toNat :=
  if_neg (by rw [hwide]; exact Bool.false_ne_true)

/-- A core that only takes inputs of its data stack leaves its return stack pointer. -/
theorem CoreSt.setRp_setDp_wide {x : CoreSt} (hwide : x.sprout = false) (p : Nat) :
    (x.setDp p).setRp (x.setDp p).rp = { x with dsp := BitVec.ofNat 32 p } := by
  have hdp := CoreSt.setDp_wide hwide p
  have hwide' : (x.setDp p).sprout = false := by rw [hdp]; exact hwide
  rw [CoreSt.setRp_wide hwide', CoreSt.rp_wide hwide', hdp, BitVec.ofNat_toNat, BitVec.setWidth_eq]

/-- An instruction in 32-bit mode that only takes inputs of its data stack moves its core's pointer to them and its pc. -/
theorem State.retired_drop {s : State} {c : Fin 8} {din goto : Nat} (hwide : s.cores[c].sprout = false) :
    ∃ dp, s.retired c din [] 0 [] goto =
      s.modCore c (fun x => { x with dsp := BitVec.ofNat 32 dp, pc := BitVec.ofNat 32 goto }) := by
  refine ⟨s.cores[c].dp + s.cores[c].de * din, ?_⟩
  have hcore : (s.dSwap c din []).cores[c] = s.cores[c].setDp (s.cores[c].dp + s.cores[c].de * din) := by
    show (vmod s.cores c _)[c] = _
    rw [vmod_get, if_pos rfl]
    rfl
  have hpop : (s.dSwap c din []).rSwap c 0 [] = (s.dSwap c din []).modCore c (fun x => x.setRp (s.dSwap c din []).cores[c].rp) :=
    rfl
  rw [State.retired, hpop, hcore]
  show ((s.modCore c _).modCore c _).modCore c _ = _
  rw [State.modCore_modCore, State.modCore_modCore]
  apply State.modCore_congr
  rw [List.length_nil, Nat.mul_zero, Nat.sub_zero, CoreSt.setRp_setDp_wide hwide]

/-- What a store of n bytes at a leaves alone: every other byte, the objects, the other cores, and of its own core all but the
data stack pointer and the pc. -/
theorem State.stored_keeps {s t : State} {c : Fin 8} {a n v din goto : Nat} (hwide : s.cores[c].sprout = false)
    (ht : t = (s.wn a n v).retired c din [] 0 [] goto) :
    (∀ j, j < a ∨ a + n ≤ j → t.rb j = s.rb j) ∧ t.objs = s.objs ∧ t.blobs = s.blobs ∧
      (∀ d : Fin 8, d ≠ c → t.cores[d] = s.cores[d]) ∧
      t.cores[c] = { s.cores[c] with dsp := t.cores[c].dsp, pc := t.cores[c].pc } := by
  obtain ⟨hobjs, hblobs, hcores⟩ := s.wn_keeps a n v
  obtain ⟨dp, hr⟩ := State.retired_drop (s := s.wn a n v) (c := c) (din := din) (goto := goto) (by rw [hcores]; exact hwide)
  rw [ht, hr]
  refine ⟨fun j hj => s.wn_rb_off v hj, hobjs, hblobs, fun e he => ?_, ?_⟩
  · rw [State.modCore_cores, vmod_get, if_neg he, hcores]
  · rw [State.modCore_cores, vmod_get, if_pos rfl, hcores]

section
variable {s : State} {c : Fin 8}

/-! ## Events (R418, R419, R421) -/

/-- Where an event stands in the queue that takes it: the last, or in ascending code among those of its instant. -/
theorem CoreSt.enqueue_queue (x : CoreSt) (e : CoreEvent) (now : Instant) :
    (x.enqueue e now).queue = if e.code = 2 ∨ x.lastAt ≠ now then x.queue ++ [e]
      else x.queue.take (x.queue.length - x.lastN) ++ putCode e (x.queue.drop (x.queue.length - x.lastN)) := by
  unfold CoreSt.enqueue
  by_cases hsoft : e.code = 2
  · simp only [hsoft, true_or, if_true]
  · by_cases hsame : x.lastAt = now <;> simp only [hsoft, hsame, ne_eq, not_true_eq_false, not_false_eq_true, or_false, or_true, if_false, if_true]

theorem CoreSt.sync_enqueue_queue (x : CoreSt) (e : CoreEvent) (now t : Instant) (r : Bool) :
    ((x.sync t r).enqueue e now).queue = (x.enqueue e now).queue := by
  rw [CoreSt.enqueue_queue, CoreSt.enqueue_queue]
  rfl

/-- An event that finds room changes only its core. -/
theorem State.toCore_room {e : CoreEvent} (hroom : s.cores[c].queue.length < 32) :
    s.toCore c e = { s with cores := (s.toCore c e).cores } := by
  unfold State.toCore
  dsimp only
  rw [if_neg (by omega)]

/-- The core that takes an event. -/
theorem State.toCore_takes {e : CoreEvent} (hroom : s.cores[c].queue.length < 32) :
    (s.toCore c e).cores[c].queue = (s.cores[c].enqueue e s.now).queue ∧
      (s.toCore c e).cores[c].mode = if s.cores[c].mode = .wait ∧ s.wakesCores then .run else s.cores[c].mode := by
  rw [State.toCore_core, CoreSt.take_room _ _ _ (by rwa [CoreSt.sync_queue])]
  exact ⟨CoreSt.sync_enqueue_queue _ _ _ _ _, rfl⟩

theorem evlost_ne_coreLost (c : Fin 8) : Obj.COR_c_EVLOST c ≠ Obj.EVT_CORE_LOST := by
  revert c
  decide

/-- A full queue counts the event that it drops. -/
theorem State.toCore_full {e : CoreEvent} (hfull : 32 ≤ s.cores[c].queue.length) :
    (s.toCore c e).cores[c].queue = s.cores[c].queue ∧ (s.toCore c e).cores[c].lostSince = s.cores[c].lostSince + 1 ∧
      (s.toCore c e).o (Obj.COR_c_EVLOST c) = (s.o (Obj.COR_c_EVLOST c) + 1) % 2 ^ 32 ∧
      (s.toCore c e).o Obj.EVT_CORE_LOST = (s.o Obj.EVT_CORE_LOST + 1) % 2 ^ 32 := by
  have hne : Obj.COR_c_EVLOST c ≠ Obj.EVT_CORE_LOST := evlost_ne_coreLost c
  rw [State.toCore_core, CoreSt.take_full _ _ _ (by rw [CoreSt.sync_queue]; omega)]
  refine ⟨rfl, rfl, ?_⟩
  unfold State.toCore
  dsimp only
  rw [if_pos hfull]
  simp only [State.inc_o, hne, hne.symm, if_true, if_false]
  exact ⟨rfl, rfl⟩
end

/-! ## Traps (R414-R416) -/

section
variable {s t0 : State} {c : Fin 8}

theorem State.illegal_traps (hready : s.ready c 1 0 0 0 0 = true) : s.illegal c = s.trap c 1 0 s.cores[c].pc.toNat :=
  State.gins_trap hready rfl

/-- A trap in 32-bit mode outside a trap handler reads the handler's address and goes on there. -/
theorem State.trap_handled {u : State} {cause taddr tpc h : Nat} (hwide : s.cores[c].sprout = false)
    (htm : s.cores[c].tm = false) (ht0 : t0 = s.modCore c (fun x => x.trapped cause taddr tpc))
    (hload : t0.load c (s.cores[c].vector cause) 4 (t0.metAt (readUnit (s.cores[c].vector cause))) = .ok (u, h)) :
    s.trap c cause taddr tpc = u.handle c h := by
  simp only [State.trap, htm, hwide, Bool.false_eq_true, if_false, ← ht0, hload]

/-- A trap of that read is a double fault. -/
theorem State.trap_faulted {u : State} {cause taddr tpc e : Nat} (hwide : s.cores[c].sprout = false)
    (htm : s.cores[c].tm = false) (ht0 : t0 = s.modCore c (fun x => x.trapped cause taddr tpc))
    (hload : t0.load c (s.cores[c].vector cause) 4 (t0.metAt (readUnit (s.cores[c].vector cause))) = .error (u, e)) :
    s.trap c cause taddr tpc = u.doubleFault c e := by
  simp only [State.trap, htm, hwide, Bool.false_eq_true, if_false, ← ht0, hload]

/-- A core that goes on at its handler counts the trap. -/
theorem State.handle_keeps (s : State) (h : Nat) :
    (s.handle c h).cores[c] = { s.cores[c] with pc := BitVec.ofNat 32 h } ∧
      (s.handle c h).o (Obj.COR_c_TRAPS c) = (s.o (Obj.COR_c_TRAPS c) + 1) % 2 ^ 32 ∧
      s.handle c h = { s with cores := (s.handle c h).cores, objs := (s.handle c h).objs } ∧
      (∀ d : Fin 8, d ≠ c → (s.handle c h).cores[d] = s.cores[d]) ∧
      ∀ k, k ≠ Obj.COR_c_TRAPS c → (s.handle c h).o k = s.o k := by
  unfold State.handle
  refine ⟨?_, ?_, rfl, fun d hd => ?_, fun k hk => ?_⟩
  · rw [State.inc_cores, State.modCore_cores, vmod_get, if_pos rfl]
  · rw [State.inc_o, if_pos rfl]; rfl
  · rw [State.inc_cores, State.modCore_cores, vmod_get, if_neg hd]
  · rw [State.inc_o, if_neg hk]; rfl

/-- What a core writes when it traps, another change of its core. -/
theorem State.trapped_handle (hc : t0 = s.modCore c (fun x => x.trapped 1 0 s.cores[c].pc.toNat)) (h : Nat) :
    (t0.handle c h).cores[c] = { s.cores[c] with
      tcause := 1, taddr := 0, tpc := s.cores[c].pc, tst := s.cores[c].st, tm := true, ov := false, c := false
      pc := BitVec.ofNat 32 h } := by
  rw [(t0.handle_keeps h).1, hc, State.modCore_cores, vmod_get, if_pos rfl]
  simp only [CoreSt.trapped, BitVec.ofNat_toNat, BitVec.setWidth_eq]
  rfl

end

/-! ## The data stack in system SRAM (R400, R401, R7) -/

section
variable {s : State} {x : CoreSt}

theorem State.stackPut_sram {p n v : Nat} (hwide : x.sprout = false) (hlo : 0x20000000 ≤ p) (hhi : p + n ≤ 0x20200000) :
    s.stackPut x p n v = s.wn p n v := by
  have hphys : x.phys p = p := by
    simp only [CoreSt.phys, hwide, Bool.false_eq_true, if_false]
    exact Nat.mod_eq_of_lt (by omega)
  have hin : inSram p n = true := by simp [inSram, hlo, hhi]
  simp only [State.stackPut, hphys, hin, if_true]

theorem State.stackGet_sram {p n : Nat} (hwide : x.sprout = false) (hlo : 0x20000000 ≤ p) (hhi : p + n ≤ 0x20200000) :
    s.stackGet x p n = s.rn p n := by
  have hphys : x.phys p = p := by
    simp only [CoreSt.phys, hwide, Bool.false_eq_true, if_false]
    exact Nat.mod_eq_of_lt (by omega)
  have hin : inSram p n = true := by simp [inSram, hlo, hhi]
  simp only [State.stackGet, hphys, hin, if_true]

theorem State.rbs_congr {t : State} : ∀ {n a : Nat}, (∀ i, a ≤ i → i < a + n → t.rb i = s.rb i) → t.rbs a n = s.rbs a n
  | 0, _, _ => rfl
  | n + 1, a, h => by
    rw [State.rbs, State.rbs, h a (by omega) (by omega), State.rbs_congr fun i hlo hhi => h i (by omega) (by omega)]

/-- A push changes no byte outside the elements pushed. -/
theorem State.stackPush_rb (hwide : x.sprout = false) {a : Nat} : ∀ {l : List Nat} {s : State} {p : Nat},
    0x20000000 + 4 * l.length ≤ p → p ≤ 0x20200000 → a < p - 4 * l.length ∨ p ≤ a →
    (s.stackPush x p 4 l).rb a = s.rb a
  | [], _, _, _, _, _ => rfl
  | v :: r, s, p, hlo, hhi, ha => by
    rw [List.length_cons] at hlo ha
    rw [State.stackPush, State.stackPush_rb hwide (by omega) (by omega) (by omega),
      State.stackPut_sram hwide (by omega) (by omega), State.wn_rb_off _ _ (by omega)]

/-- What was pushed stands on top, the last topmost. -/
theorem State.stackPush_top {y : CoreSt} (hwide : x.sprout = false) (hwide' : y.sprout = false) :
    ∀ {l : List Nat} {s : State} {p : Nat}, (∀ v ∈ l, v < 2 ^ 32) →
    0x20000000 + 4 * l.length ≤ p → p ≤ 0x20200000 →
    (s.stackPush x p 4 l).stackTop y (p - 4 * l.length) 4 l.length = l
  | [], _, _, _, _, _ => rfl
  | v :: r, s, p, hval, hlo, hhi => by
    rw [List.length_cons] at hlo ⊢
    have hbase : p - 4 * (r.length + 1) = p - 4 - 4 * r.length := by omega
    have hplace : p - 4 - 4 * r.length + 4 * r.length = p - 4 := by omega
    have hword : ((s.stackPut x (p - 4) 4 v).stackPush x (p - 4) 4 r).rn (p - 4) 4 = v := by
      rw [State.rn, State.rbs_congr (s := s.stackPut x (p - 4) 4 v) fun i hi _ =>
        State.stackPush_rb hwide (by omega) (by omega) (by omega)]
      rw [State.stackPut_sram hwide (by omega) (by omega)]
      exact (State.wn_rn s (p - 4) 4 v).trans (Nat.mod_eq_of_lt (hval v (by simp)))
    rw [hbase, State.stackPush, State.stackTop, hplace, State.stackGet_sram hwide' (by omega) (by omega), hword,
      State.stackPush_top hwide hwide' (fun w hw => hval w (by simp [hw])) (by omega) (by omega)]

theorem State.modCore_rn {c : Fin 8} {f : CoreSt → CoreSt} (a n : Nat) : (s.modCore c f).rn a n = s.rn a n :=
  congrArg leNat (State.rbs_congr fun _ _ _ => rfl)

theorem State.modCore_stackGet {c : Fin 8} {f : CoreSt → CoreSt} (a n : Nat) :
    (s.modCore c f).stackGet x a n = s.stackGet x a n := by
  simp only [State.stackGet, State.modCore_rn, State.modCore_draws]

/-- A change of a core is no change of what stands on a stack. -/
theorem State.modCore_stackTop {c : Fin 8} {f : CoreSt → CoreSt} {p e : Nat} : ∀ n,
    (s.modCore c f).stackTop x p e n = s.stackTop x p e n
  | 0 => rfl
  | n + 1 => by
    rw [State.stackTop, State.stackTop, State.modCore_stackTop n, State.modCore_stackGet]

end

/-! ## The obligations -/

/-- Settles O20: what a ready instruction of the stacks pops and pushes is what its body answers. -/
theorem gragilStackInstructionsComplete : Obligations.GragilStackInstructionsComplete := by
  refine ⟨?_, ?_, ?_, ?_, ?_, ?_, ?_, ?_, ?_, ?_, ?_, ?_, ?_, ?_, ?_, ?_, ?_⟩
  · exact fun s c hready => next_congr (State.pureOp_done hready)
  · exact fun s c a hready hins => next_congr (State.pureOp_completes [a] hready hins)
  · exact fun s c a hready _ => next_congr (State.pureOp_done hready)
  · exact fun s c a b hready hins => next_congr (State.pureOp_completes [a, b] hready hins)
  · exact fun s c a b hready hins => next_congr (State.pureOp_completes [a, b] hready hins)
  · exact fun s c a b d hready hins => next_congr (State.pureOp_completes [a, b, d] hready hins)
  · exact fun s c a b hready hins => next_congr (State.pureOp_completes [a, b] hready hins)
  · intro s c n hready hins hn
    refine next_congr (State.gins_done (goto := none) hready ?_)
    rw [hins]
    exact if_neg (Nat.not_le.mpr hn)
  · exact fun s c hready => next_congr (State.pureOp_done hready)
  · intro s c a hready hins
    exact next_congr (State.gins_done (goto := none) hready (by rw [hins]; rfl))
  · intro s c a hready hrets ha
    refine next_congr (State.gins_done (goto := none) hready ?_)
    rw [hrets]
    exact congrArg (Eff.done s.drawn [·] [] none) (State.narrow_fits ha)
  · intro s c a hready hrets ha
    refine next_congr (State.gins_done (goto := none) hready ?_)
    rw [hrets]
    exact congrArg (Eff.done s.drawn [·] [a] none) (State.narrow_fits ha)
  · exact fun s c i hready => next_congr (State.pureOp_done hready)
  · intro s c i hwide hready
    exact (if_neg (by rw [hwide]; exact Bool.false_ne_true)).trans (next_congr (State.pureOp_done hready))
  · exact fun s c i hsprout hready => (if_pos hsprout).trans (next_congr (State.pureOp_done hready))
  · exact fun s c i hwide hready => next_congr ((State.only32_wide hwide).trans (State.pureOp_done hready))
  · exact fun s c n hready => next_congr (State.pureOp_done hready)

/-- Settles O21: each arithmetic instruction has the result and the flags of its function over two elements. -/
theorem gragilArithmeticCompletes : Obligations.GragilArithmeticCompletes := by
  refine ⟨?_, ?_, ?_, ?_, ?_, ?_, ?_, ?_⟩
  · rintro s c _ a b rfl hready hins
    exact next_congr (State.arithOp_completes (aAdd _ a b) hready hins rfl)
  · rintro s c _ a b rfl hready hins
    exact next_congr (State.arithOp_completes (aSub _ a b) hready hins rfl)
  · rintro s c _ a rfl hready hins
    exact next_congr (State.arithOp_completes (aNeg _ a) hready hins rfl)
  · rintro s c _ a b rfl hready hins
    exact next_congr (State.arithOp_completes (aMul _ a b) hready hins rfl)
  · rintro s c _ a b rfl hready hins
    exact next_congr (State.arithOp_completes (aMull _ a b) hready hins rfl)
  · rintro s c _ a b rfl hready hins
    exact next_congr (State.arithOp_completes (aMullu _ a b) hready hins rfl)
  · rintro s c _ a b rfl hready hins hb
    exact next_congr (State.arithOp_completes ⟨_, _, _⟩ hready hins (if_neg hb))
  · rintro s c _ a b rfl hready hins hb
    exact next_congr (State.arithOp_completes ⟨_, _, _⟩ hready hins (if_neg hb))

/-- Settles O22: by 0 neither division has a result, and an arithmetic instruction without one traps. -/
theorem gragilDivisionByZeroTraps : Obligations.GragilDivisionByZeroTraps := by
  intro s c a hready hins
  have htrap : ∀ f : Nat → List Nat → Option Arith, f s.cores[c].w [a, 0] = none →
      s.arithOp c 2 2 f = s.trap c 9 0 s.cores[c].pc.toNat := by
    intro f hnone
    refine State.gins_trap hready ?_
    rw [hins]
    simp only [hnone]
  exact ⟨next_congr (htrap _ rfl), next_congr (htrap _ rfl)⟩

/-- Settles O23: each clause is its function over the elements taken, the comparisons as 1 or 0. -/
theorem gragilLogicAndComparesComplete : Obligations.GragilLogicAndComparesComplete := by
  refine ⟨?_, ?_, ?_, ?_, ?_, ?_, ?_, ?_, ?_, ?_, ?_, ?_, ?_, ?_, ?_, ?_⟩
  · exact fun s c w a b _ hready hins => next_congr (State.binOp_completes hready hins)
  · exact fun s c w a b _ hready hins => next_congr (State.binOp_completes hready hins)
  · exact fun s c w a b _ hready hins => next_congr (State.binOp_completes hready hins)
  · rintro s c _ a rfl hready hins
    exact next_congr (State.pureOp_completes [a] hready hins)
  · rintro s c _ a b rfl hready hins
    exact next_congr (State.binOp_completes hready hins)
  · rintro s c _ a b rfl hready hins
    exact next_congr (State.binOp_completes hready hins)
  · rintro s c _ a b rfl hready hins
    exact next_congr (State.binOp_completes hready hins)
  · rintro s c _ a b rfl hready hins
    exact next_congr (State.binOp_completes hready hins)
  · rintro s c _ a b rfl hready hins
    exact next_congr (State.binOp_completes hready hins)
  · exact fun s c w a b _ hready hins => next_congr (State.binOp_completes hready hins)
  · exact fun s c w a b _ hready hins => next_congr (State.binOp_completes hready hins)
  · rintro s c _ a b rfl hready hins
    exact next_congr (State.binOp_completes hready hins)
  · exact fun s c w a b _ hready hins => next_congr (State.binOp_completes hready hins)
  · rintro s c _ a b rfl hready hins
    exact next_congr (State.binOp_completes hready hins)
  · exact fun s c w a b _ hready hins => next_congr (State.binOp_completes hready hins)
  · exact fun s c w a _ hready hins => next_congr (State.pureOp_completes [a] hready hins)

/-- Settles O24: each load is `State.loadOp` or one of the two that read more, over memory that can be loaded. -/
theorem gragilLoadsComplete : Obligations.GragilLoadsComplete := by
  refine ⟨?_, ?_, ?_, ?_, ?_, ?_, ?_⟩
  · intro s c a cb hwide hready hins ha hmem
    exact next_congr ((State.only32_wide hwide).trans (State.loadOp_loads hwide hready hins ha hmem))
  · intro s c a cb hwide hready hins ha hmem
    exact next_congr ((State.only32_wide hwide).trans (State.loadOp_loads hwide hready hins ha hmem))
  · intro s c a cb hwide hready hins ha hmem
    exact next_congr ((State.only32_wide hwide).trans (State.loadOp_loads hwide hready hins ha hmem))
  · intro s c a cb hwide hready hins ha hmem
    exact next_congr (State.loadOp_loads hwide hready hins ha hmem)
  · intro s c a cb hwide hready hins ha hmem
    exact next_congr (State.loadOp_loads hwide hready hins ha hmem)
  · intro s c a cb0 cb1 hwide hready hins hlo hhi hfree
    refine next_congr ((State.only32_wide hwide).trans (State.gins_done (goto := none) hready ?_))
    rw [hins]
    exact (State.access_free hfree).trans (State.ldd_loads hlo hhi)
  · intro s c l cb hsprout hready hins hmem
    refine next_congr ((State.onlySprout_sprout hsprout).trans (State.gins_done (goto := none) hready ?_))
    rw [hins]
    exact loadEff_loadable unquad hmem

/-- Settles O25: each store is `State.storeOp`, STD's two stores, or the exchange of `State.atom`, over memory that can be stored. -/
theorem gragilStoresComplete : Obligations.GragilStoresComplete := by
  refine ⟨?_, ?_, ?_, ?_, ?_, ?_, ?_⟩
  · intro s c v a hwide hready hins ha hmem
    exact next_congr ((State.only32_wide hwide).trans (State.storeOp_stores hwide hready hins ha hmem))
  · intro s c v a hwide hready hins ha hmem
    exact next_congr ((State.only32_wide hwide).trans (State.storeOp_stores hwide hready hins ha hmem))
  · intro s c v a hwide hready hins ha hmem
    exact next_congr (State.storeOp_stores hwide hready hins ha hmem)
  · intro s c lo hi a hwide hready hins hlo hhi hthen hfree
    refine next_congr ((State.only32_wide hwide).trans (State.gins_done (goto := none) hready ?_))
    rw [hins]
    exact (State.access_free hfree).trans (State.std_stores hlo hhi hthen)
  · intro s c v a hwide hready hins hmem halign hwritable
    refine next_congr ((State.only32_wide hwide).trans (State.gins_done (goto := none) hready ?_))
    rw [hins]
    exact (State.access_free (State.loadable_free hmem)).trans
      (State.atom_exchanges (fun _ => true) hmem halign hwritable)
  · intro s c e v a hwide hready hins hmem halign hwritable
    refine next_congr ((State.only32_wide hwide).trans (State.gins_done (goto := none) hready ?_))
    rw [hins]
    refine (State.access_free (State.loadable_free hmem)).trans
      ((State.atom_exchanges (fun old => old == e) hmem halign hwritable).trans ?_)
    simp only [beq_iff_eq]
    rfl
  · intro s c l hsprout hready hins hmem
    refine next_congr ((State.onlySprout_sprout hsprout).trans (State.gins_done (goto := none) hready ?_))
    rw [hins]
    exact storeEff_storable hmem

/-- Settles O26: a branch goes on at its target or behind itself, and a call, a return and an indirect jump at their address. -/
theorem gragilControlFlowCompletes : Obligations.GragilControlFlowCompletes := by
  refine ⟨?_, ?_, ?_, ?_, ?_, ?_, ?_, ?_, ?_, ?_⟩
  · intro s c off hready
    exact next_congr (State.jump_jumps hready)
  · intro s c off f hready hins
    refine next_congr ((State.branch_branches (fun f => f == 0) hready hins).trans ?_)
    simp only [beq_iff_eq]
  · intro s c off f hready hins
    refine next_congr ((State.branch_branches (fun f => f != 0) hready hins).trans ?_)
    simp only [bne_iff_ne]
  · intro s c off hready
    exact next_congr (State.jump_jumps hready)
  · intro s c off f hready hins
    refine next_congr ((State.branch_branches (fun f => f == 0) hready hins).trans ?_)
    simp only [beq_iff_eq]
  · intro s c off f hready hins
    refine next_congr ((State.branch_branches (fun f => f != 0) hready hins).trans ?_)
    simp only [bne_iff_ne]
  · intro s c off hready
    exact next_congr (State.gins_done (goto := some _) hready rfl)
  · intro s c a hready hrets
    exact next_congr (State.gins_done (goto := some a) hready (by rw [hrets]; rfl))
  · intro s c l hready hins
    exact next_congr (State.gins_done (goto := some _) hready (by rw [hins]; rfl))
  · intro s c l hready hins
    exact next_congr (State.gins_done (goto := some _) hready (by rw [hins]; rfl))
/-- Settles O27: each instruction's body answers what its clause names; an event that arrives is taken by `State.toCore`. -/
theorem gragilSystemInstructionsComplete : Obligations.GragilSystemInstructionsComplete := by
  refine ⟨?_, ?_, ?_, ?_, ?_, ?_, ?_, ?_, ?_, ?_, ?_⟩
  · intro s c n hready
    exact next_congr (State.gins_done (goto := some _) hready rfl)
  · intro s c hready htm
    refine next_congr ((State.gins_done (goto := some _) hready (if_pos htm)).trans ?_)
    simp only [Option.getD_some, State.modCore_cores, vmod_get, if_true]
  · intro s c hready hempty hc
    refine next_congr (State.gins_done (goto := none) hready ?_)
    show (if s.cores[c].queue.isEmpty = true then Eff.done (if c = 4 then _ else _) _ _ _ else _) = _
    rw [if_neg hc, hempty]
    rfl
  · intro s c e r hwide hready hqueue hlost
    have hget : s.cores[c].evget = (e, { s.cores[c] with queue := r }) := by
      simp only [CoreSt.evget, hqueue, hlost, if_true]
    refine next_congr ((State.only32_wide hwide).trans ?_)
    rw [State.modCore_congr (f := fun x => { x with queue := r }) (g := fun _ => { s.cores[c] with queue := r }) rfl]
    refine State.gins_done (goto := none) hready ?_
    simp only [hget]
  · intro s c n v hwide hready hlo hhi hvalue
    refine next_congr (State.gins_done (goto := none) hready ?_)
    simp only [hwide, Bool.false_and, Bool.false_eq_true, if_false, hvalue, hlo, hhi]
  · intro s c n v y hwide hready hins hwrite
    refine next_congr (State.gins_done (goto := none) hready ?_)
    rw [hins]
    show (if (s.cores[c].sprout && decide (n ≠ 0)) = true then _ else match s.cores[c].wrsr n v with | none => _ | some y => _) = _
    rw [hwide, hwrite]
    rfl
  · intro s c l hsprout hrom hready hins
    refine next_congr ((State.onlySprout_sprout hsprout).trans ((if_pos hrom).trans ?_))
    exact State.gins_done (goto := some _) hready (by rw [hins]; rfl)
  · intro s c hready
    exact next_congr (State.illegal_traps hready)
  · intro s c code src arg hroom hmode
    have htakes := State.toCore_takes (s := s) (c := c) (e := ⟨code % 65536, src % 65536, arg % 2 ^ 32⟩) hroom
    refine ⟨_, rfl, htakes.1.trans (CoreSt.enqueue_queue _ _ _), htakes.2.trans (if_neg fun h => hmode h.1), State.toCore_room hroom⟩
  · intro s c code src arg hroom hmode hwakes
    have htakes := State.toCore_takes (s := s) (c := c) (e := ⟨code % 65536, src % 65536, arg % 2 ^ 32⟩) hroom
    exact ⟨_, rfl, htakes.1, htakes.2.trans (if_pos ⟨hmode, hwakes⟩)⟩
  · intro s c code src arg hfull
    exact ⟨_, rfl, State.toCore_full hfull⟩

/-- Settles O28: what was pushed is read back from the top, and the bytes around it are not touched. -/
theorem dataStackReadBack : Obligations.DataStackReadBack := by
  intro s c n outs hwide hval hlo hhi
  have hdp : s.cores[c].dp = s.cores[c].dsp.toNat := if_neg (by rw [hwide]; exact Bool.false_ne_true)
  have hde : s.cores[c].de = 4 := if_neg (by rw [hwide]; exact Bool.false_ne_true)
  have hswap : s.dSwap c n outs = (s.stackPush s.cores[c] (s.cores[c].dsp.toNat + 4 * n) 4 outs).modCore c
      (fun y => y.setDp (s.cores[c].dsp.toNat + 4 * n - 4 * outs.length)) := by
    rw [State.dSwap, hdp, hde]
  obtain ⟨m, e, hpush⟩ := s.stackPush_eq s.cores[c] 4 outs (s.cores[c].dsp.toNat + 4 * n)
  have hcores : (s.dSwap c n outs).cores =
      vmod s.cores c (fun y => y.setDp (s.cores[c].dsp.toNat + 4 * n - 4 * outs.length)) := by
    rw [hswap, State.modCore_cores, hpush]
  refine ⟨?_, fun a ha => ?_, fun d hd => ?_⟩
  · have hcore : (s.dSwap c n outs).cores[c] =
        { s.cores[c] with dsp := BitVec.ofNat 32 (s.cores[c].dsp.toNat + 4 * n - 4 * outs.length) } := by
      rw [hcores, vmod_get, if_pos rfl]
      exact CoreSt.setDp_wide hwide _
    have hwide' : (s.dSwap c n outs).cores[c].sprout = false := by rw [hcore]; exact hwide
    have hdp' : (s.dSwap c n outs).cores[c].dp = s.cores[c].dsp.toNat + 4 * n - 4 * outs.length := by
      rw [CoreSt.dp, hwide', hcore]
      exact Nat.mod_eq_of_lt (by omega)
    have hde' : (s.dSwap c n outs).cores[c].de = 4 := by rw [CoreSt.de, hwide']; rfl
    rw [State.dTop, hdp', hde']
    generalize (s.dSwap c n outs).cores[c] = y at hwide'
    rw [hswap, State.modCore_stackTop, State.stackPush_top hwide hwide' hval hlo hhi]
  · rw [hswap]
    exact State.stackPush_rb hwide hlo hhi ha
  · rw [hcores, vmod_get, if_neg hd]

/-- Settles O29: the trap of a reserved opcode ends at its handler or, when the handler's address cannot be read, in a double
fault. -/
theorem trapEntry : Obligations.TrapEntry := by
  refine ⟨?_, ?_⟩
  · intro s t0 c a hready hwide htm ht0 hload
    obtain ⟨-, hcount, hrest, hcores, hobjs⟩ := t0.handle_keeps (c := c) a
    refine ⟨t0.handle c a, next_congr ((State.illegal_traps hready).trans (State.trap_handled hwide htm ht0 hload)),
      State.trapped_handle ht0 a, ?_, ?_, fun d hd => ?_, fun k hk => ?_⟩
    · rw [hcount, ht0]; rfl
    · rw [hrest, ht0]; rfl
    · rw [hcores d hd, ht0, State.modCore_cores, vmod_get, if_neg hd]
    · rw [hobjs k hk, ht0]; rfl
  · intro s t0 u c x hready hwide htm ht0 hload
    exact next_congr ((State.illegal_traps hready).trans (State.trap_faulted hwide htm ht0 hload))

/-- Settles O54: EVPOST's event stands last in the queue that has room, and retiring leaves every queue. -/
theorem postsAreQueuedOrRefused : Obligations.PostsAreQueuedOrRefused := by
  refine ⟨?_, ?_, ?_⟩
  · intro s c d v k hwide hready hins hd hroom
    obtain rfl : asFin 8 k = d := Fin.ext hd.symm
    refine ⟨next_congr ((if_neg (by rw [hwide]; exact Bool.false_ne_true)).trans (State.gins_done (goto := none) hready ?_)), ?_⟩
    · rw [hins]
      exact if_neg (Nat.not_le.mpr hroom)
    · rw [State.toCore_core, CoreSt.take_room _ _ _ (by rwa [CoreSt.sync_queue]), CoreSt.enqueue_soft _ rfl, CoreSt.sync_queue]
  · intro s c d v k hwide hready hins hd hfull
    obtain rfl : asFin 8 k = d := Fin.ext hd.symm
    refine ⟨_, next_congr ((if_neg (by rw [hwide]; exact Bool.false_ne_true)).trans (State.gins_done (goto := none) hready ?_)), rfl,
      (s.retired_queue 2 [0] 0 [] _ _).1, (s.retired_queue 2 [0] 0 [] _ _).2, ?_⟩
    · rw [hins]
      exact if_pos hfull
    · obtain ⟨_, _, _, _, h⟩ := s.retired_eq (c := c) 2 [0] 0 [] (s.cores[c].after 1)
      simp only [Option.getD_none, h]
  · intro s d
    simp only [State.coreStart, State.modCore_cores, vmod_get, if_true, CoreSt.sync_queue]

/-- Settles O55: BRK's body decides by SHL_DBG_STATE. -/
theorem breakpointsHaltOrTrap : Obligations.BreakpointsHaltOrTrap := by
  refine ⟨?_, ?_⟩
  · intro s c hready howner hvendor
    refine next_congr (State.gins_done (goto := some _) hready ?_)
    show (if s.o Obj.SHL_DBG_STATE = 1 || s.o Obj.SHL_DBG_STATE = 2 then _ else _) = _
    rw [if_neg (by simp [howner, hvendor])]
    rfl
  · intro s c hready hopen
    refine next_congr (State.gins_done (goto := none) hready ?_)
    exact if_pos (by simpa using hopen)

/-- Settles O56: a store is a write of its bytes by an instruction that only takes inputs (O25). -/
theorem storesChangeOnlyTheirBytes : Obligations.StoresChangeOnlyTheirBytes := by
  obtain ⟨hstw, hsth, hstb, -⟩ := gragilStoresComplete
  refine ⟨?_, ?_, ?_⟩
  · intro s t c v a hwide hready hins ha hmem ht
    exact State.stored_keeps hwide (next_inj (ht.symm.trans (hstw s c v a hwide hready hins ha hmem)))
  · intro s t c v a hwide hready hins ha hmem ht
    exact State.stored_keeps hwide (next_inj (ht.symm.trans (hsth s c v a hwide hready hins ha hmem)))
  · intro s t c v a hwide hready hins ha hmem ht
    exact State.stored_keeps hwide (next_inj (ht.symm.trans (hstb s c v a hwide hready hins ha hmem)))

/-- Settles O58: at reset the stores list nothing and no command waits; the cores' modes are looked at one by one. -/
theorem canonicalAtReset : Obligations.CanonicalAtReset := ⟨rfl, rfl, fun _ => rfl, by decide, rfl, rfl⟩

end Sys2Proof.Machine

/-! O43: the job engine from a submission to the ledger, cell pools and the CRC units. -/
namespace Sys2Proof.Machine

section
variable {s : State} {c : Fin 8} {a : Nat}

/-! ## Submissions (R375-R377) -/

theorem State.submitKind_accepts {kind : Nat} (haccepts : s.accepts c a = true) (hkind : dKind (s.descAt a) = kind) :
    s.submitKind c a kind = s.queued c a := by
  simp only [State.submitKind, hkind, bne_self_eq_false, Bool.and_false, Bool.false_eq_true, if_false,
    State.jobSubmit_accepts haccepts]

theorem State.submitCrc_accepts {cmode : Nat} (haccepts : s.accepts c a = true) (hkind : dKind (s.descAt a) = 5)
    (hcmode : fieldN (s.descAt a) 30 1 = cmode) : s.submitCrc c a cmode = s.queued c a := by
  simp only [State.submitCrc, hkind, hcmode, bne_self_eq_false, Bool.or_self, Bool.and_false, Bool.false_eq_true, if_false,
    State.jobSubmit_accepts haccepts]

/-- A descriptor that is not aligned is not read: the write of JOB_SUBMIT is dropped, and no ticket is given. -/
theorem State.submitKind_unaligned {kind : Nat} (hodd : a % 4 ≠ 0) :
    s.submitKind c a kind = (s.setTicket c 0).dropped (windowAddr Obj.JOB_SUBMIT) a c 3 := by
  have halign : decide (a % 4 = 0) = false := decide_eq_false hodd
  simp only [State.submitKind, State.jobSubmit, State.descUsable, halign, Bool.false_and, Bool.false_eq_true, if_false]

/-! ## Start and end (R378, R382, R385) -/

section
variable {x : JobSt}

/-- A free channel takes the next job: it starts, or its START_BY is past (R15). -/
theorem State.jobStart_takes (hroom : s.runningJobs < 4) (hawake : s.pwr ≤ 2) (hnext : s.nextJob = some x) :
    s.jobStart =
      if s.jobLate x then s.jobMissed x
      else
        let u := (s.recordState (ledAddr x.ticket) 2).modJobs (fun j => { j with
          lastCore := x.core
          queue := j.queue.map (fun y => if y.ticket = x.ticket then { y with running := true } else y) })
        let v := u.setO Obj.JOB_RUNNING u.runningJobs
        if dKind x.desc = 5 then v.crcOwn (asFin 2 (fieldN x.desc 28 1)) (some x.ticket) else v := by
  simp only [State.jobStart, hroom, hawake, decide_true, Bool.and_self, if_true, hnext]

theorem execJobStart_takes (hengine : fin8.findSome? (fun k => s.engineJob k) = none) :
    execJobStart s = .next s.jobStart := by
  simp only [execJobStart, hengine]

/-- A job without a fault has read its source and done all its writes at its end. -/
theorem State.jobEnd_completes {u : State} {t units : Nat} {begun : Bool} {lines : List (Nat × Nat)}
    (hjob : s.jobs.queue.find? (fun y => y.ticket == t && y.running && decide (dKind y.desc < 7) && decide (s.pwr ≤ 2)) =
      some x)
    (hu : u = (lines.filter (fun p => decide (dSrc x.desc ≤ p.1 + 15) && decide (p.1 < dSrc x.desc + dLen x.desc))).foldl
      (fun (s : State) p => s.meetUnit p.1 p.2) s)
    (hsound : u.jobFault x.desc 0 = none) :
    s.jobEnd t units begun lines =
      ((u.readSrc x.desc (dLen x.desc)).jobWrites x (dLen x.desc) true).jobOver x.core t x.desc 3 0 (dLen x.desc) 0 := by
  simp only [State.jobEnd, hjob, ← hu, State.jobFault_none hsound]

theorem execJobDeadline_misses {t : Nat}
    (hjob : s.jobs.queue.find? (fun y => y.ticket == t && !y.running && decide (dStartBy y.desc ≠ 0)) = some x) :
    execJobDeadline t s = .next ((s.upTo (linear (dStartBy x.desc))).jobMissed x) := by
  simp only [execJobDeadline, hjob]

theorem execJobRecovery_recovers {u : State} (hdue : s.jobs.recover = true)
    (hu : u = s.modJobs (fun j => { j with recover := false })) :
    execJobRecovery s = .next ((List.range 2048).foldl (fun (t : State) i => t.recoverRecord i) u) := by
  simp only [execJobRecovery, hdue, if_true, hu]

end

/-! ## Consumer index, cells and CRC units (R380, R389, R392-R397) -/

theorem execJobLedConsWrite_judges (v : Nat) :
    execJobLedConsWrite c v s = .next (
      if consOk (2 ^ 32) (s.o Obj.JOB_LED_CONS) (s.o Obj.JOB_LED_PROD) v then s.setO Obj.JOB_LED_CONS v
      else s.dropped (windowAddr Obj.JOB_LED_CONS) v c 3) := by
  unfold execJobLedConsWrite State.ledCons
  split <;> rfl

theorem execPoolFree_frees {u : State} {p : Fin 5} {k : Nat}
    (hheld : s.jobs.pools[p].held.any (fun l => l.head? == some k) = true)
    (hu : u = s.modPool p (fun q => { q with held := dropChain q.held k, credit := q.credit.filter (fun x => x.1 != k) })) :
    execPoolFree c p k s = .next (if p = 4 then u.syncHeld else u) := by
  simp only [execPoolFree, State.poolRelease, hheld, if_true, ← hu, Option.getD_some]

theorem execPoolFree_refuses {p : Fin 5} {k : Nat}
    (hother : s.jobs.pools[p].held.any (fun l => l.head? == some k) = false) :
    execPoolFree c p k s =
      .next ((s.inc (Obj.JOB_POOLn_BADFREE p)).dropped (windowAddr (Obj.JOB_POOLn_FREE_CMD p)) k c 3) := by
  simp only [execPoolFree, State.poolRelease, hother, Bool.false_eq_true, if_false, Option.getD_none]

theorem execCrcDataFeed_feeds {u : Fin 2} {width v : Nat} (hwidth : width = 1 ∨ width = 2 ∨ width = 4) :
    execCrcDataFeed c u width v s = .next (
      if s.jobs.crcs[u].owner.isSome then s.dropped (windowAddr (Obj.JOB_CRCu_DATA u)) v c 4
      else s.crcFeed u (leBytes width v)) := by
  rcases hwidth with rfl | rfl | rfl <;> rfl

theorem execCrcStart_starts (u : Fin 2) :
    execCrcStart c u s = .next (
      if s.jobs.crcs[u].owner.isSome then s.dropped (windowAddr (Obj.JOB_CRCu_CMD u)) 1 c 4 else s.crcStart u) := by
  unfold execCrcStart State.crcCmd
  split <;> rfl

end

/-! ## The obligation -/

/-- Settles O43: a submission that the checks accept is queued (`State.queued`), a start, an end and a deadline act on the job
they find, and each of the other clauses is what its command does under the conditions it names. -/
theorem jobsRunFromSubmissionToTheLedger : Obligations.JobsRunFromSubmissionToTheLedger :=
  ⟨fun _ _ _ haccepts hkind => next_congr (State.submitKind_accepts haccepts hkind),
    fun _ _ _ haccepts hkind => next_congr (State.submitKind_accepts haccepts hkind),
    fun _ _ _ haccepts hkind => next_congr (State.submitKind_accepts haccepts hkind),
    fun _ _ _ haccepts hkind => next_congr (State.submitKind_accepts haccepts hkind),
    fun _ _ _ haccepts hkind hcmode => next_congr (State.submitCrc_accepts haccepts hkind hcmode),
    fun _ _ _ haccepts hkind hcmode => next_congr (State.submitCrc_accepts haccepts hkind hcmode),
    fun _ _ _ haccepts hkind hcmode => next_congr (State.submitCrc_accepts haccepts hkind hcmode),
    fun _ _ _ hodd => next_congr (State.submitKind_unaligned hodd),
    fun _ _ _ _ hengine hroom hawake hnext hontime hu hv => hv ▸ hu ▸ (execJobStart_takes hengine).trans
      (next_congr ((State.jobStart_takes hroom hawake hnext).trans (if_neg (by simp [hontime])))),
    fun _ _ hengine hroom hawake hnext hlate => (execJobStart_takes hengine).trans
      (next_congr ((State.jobStart_takes hroom hawake hnext).trans (if_pos hlate))),
    fun _ _ _ _ _ _ _ hjob hu hsound => next_congr (State.jobEnd_completes hjob hu hsound),
    fun _ _ _ _ hjob hu => hu ▸ execJobDeadline_misses hjob,
    fun _ _ hdue hu => execJobRecovery_recovers hdue hu,
    fun _ _ v => execJobLedConsWrite_judges v,
    fun _ _ _ _ _ hheld hu => execPoolFree_frees hheld hu,
    fun _ _ _ _ hother => execPoolFree_refuses hother,
    fun _ _ _ _ _ hwidth => execCrcDataFeed_feeds hwidth,
    fun _ _ u => execCrcStart_starts u,
    fun _ _ _ => rfl⟩

end Sys2Proof.Machine

/-! O45: the flash routines of the ROM, their jobs under the journal, and the banks that erase and suspend. -/
namespace Sys2Proof.Machine

section
variable {s : State}

/-! ## Routines (R467, R468, R470, R473, R474, R477) -/

section
variable {q : State} {k : Fin 8} {n din dout r : Nat} {ins : List Nat}

/-- A routine that is called returns to its caller with what its function leaves on the stack. -/
theorem State.routine_returns {f : List Nat → State → List Nat × State} {outs : List Nat} {u : State}
    (hcall : s.callable k n din dout = true) (hq : q = s.scratch k) (hins : s.dTop k din = ins) (hret : s.rTop k 1 = [r])
    (hf : f ins q = (outs, u)) : s.routine k n din dout f = u.retired k din outs 1 [] r := by
  subst hq hins
  rw [State.routine_done hcall hf, hret]
  rfl

end

/-- FL_PROGRAM of blank lines in an unlocked sector takes a FLASH job. -/
theorem State.flProgram_takes {k : Fin 8} {src a len : Nat} (hlen : len ≠ 0) (hflash : inFlash a len = true)
    (hsize : len ≤ 65536) (hsector : sectorOf (a + len - 1) = sectorOf a) (harea : areaOf (a + len - 1) = areaOf a)
    (hsrc : writableMem src = true) (hregion : inRegion src len = true) (haline : a % 16 = 0) (hlines : len % 16 = 0)
    (hsalign : src % 4 = 0) (hmode : wordMode (areaOf a) (sectorOf a) = false)
    (hlock : s.locked (areaOf a) (sectorOf a) = false) (hbusy : s.sectorBusy (areaOf a) (sectorOf a) = false)
    (hblank : s.firstNotBlank a 16 (len / 16) 0 = len) :
    s.flProgram k src a len = s.flashJob { ticket := 0, core := k, op := 0, area := areaOf a, sector := sectorOf a, src := src, addr := a, len := len } := by
  have hfit : ¬ 65536 < len := Nat.not_lt.mpr hsize
  simp only [State.flProgram, hlen, hflash, hfit, hsector, harea, hsrc, hregion, haline, hlines, hsalign, hmode, hlock, hbusy,
    hblank, decide_false, ne_eq, not_true_eq_false, Bool.not_true, Bool.or_self, Bool.and_self, Bool.false_eq_true, if_false]

/-- FL_ERASE of an unlocked sector with its permit takes a FLASH job. -/
theorem State.flErase_takes {k : Fin 8} {l area : Nat} (hsector : sectorOk area l = true) (hlock : s.locked area l = false)
    (hpermit : s.noPermit area l = false) (hbusy : s.sectorBusy area l = false) :
    s.flErase k l area = s.flashJob { ticket := 0, core := k, op := 1, area := area, sector := l } := by
  simp only [State.flErase, hsector, hlock, hpermit, hbusy, Bool.not_true, Bool.false_eq_true, if_false]

/-- FL_RELOCATE that skips nothing, or bytes of its own sector with its permit, takes a FLASH job. -/
theorem State.flRelocate_takes {k : Fin 8} {l area skip len : Nat} (hsector : sectorOk area l = true)
    (hskip : len = 0 ∨ (sectorBase area l ≤ skip ∧ skip + len ≤ sectorBase area l + sectorLen area))
    (halign : len = 0 ∨ skip % 16 = 0) (hlines : len % 16 = 0) (hlock : s.locked area l = false)
    (hpermit : len = 0 ∨ s.noPermit area l = false) (hbusy : s.sectorBusy area l = false) :
    s.flRelocate k l area skip len =
      s.flashJob { ticket := 0, core := k, op := 2, area := area, sector := l, len := len, skip := skip } := by
  by_cases hlen : len = 0
  · simp [State.flRelocate, hlen, hsector, hlock, hbusy]
  · obtain ⟨hlo, hhi⟩ := hskip.resolve_left hlen
    simp only [State.flRelocate, hsector, hlen, Nat.not_lt.mpr hlo, Nat.not_lt.mpr hhi, halign.resolve_left hlen, hlines, hlock,
      hpermit.resolve_left hlen, hbusy, ne_eq, not_true_eq_false, decide_false, Bool.not_true, Bool.or_self, Bool.and_false,
      Bool.false_and, Bool.false_eq_true, if_false]

/-- FL_CTRWORD that only clears bits of a free counter word programs it. -/
theorem State.flCtrword_programs {v a old : Nat} (hflash : inFlash a 4 = true) (halign : a % 4 = 0)
    (hmode : wordMode (areaOf a) (sectorOf a) = true) (hbusy : s.sectorBusy (areaOf a) (sectorOf a) = false)
    (hold : old = s.rn a 4) (hclears : natAnd v (0xFFFFFFFF - old) = 0) (hnew : v ≠ old) :
    s.flCtrword v a = (0, (s.putWord a v).inc Obj.FLS_RECORDS) := by
  simp only [State.flCtrword, hflash, halign, hmode, hbusy, ← hold, hclears, hnew, ne_eq, not_true_eq_false, Bool.not_true,
    Bool.false_eq_true, if_false]

theorem State.flBlank_looks {a len n : Nat} (hn : n = if wordMode (areaOf a) (sectorOf a) then 4 else 16) (hlen : len ≠ 0)
    (hflash : inFlash a len = true) (hsector : sectorOf (a + len - 1) = sectorOf a)
    (harea : areaOf (a + len - 1) = areaOf a) (haline : a % n = 0) (hlines : len % n = 0) :
    s.flBlank a len = [s.firstNotBlank a n (len / n) 0, 0] := by
  simp only [State.flBlank, ← hn, hlen, hflash, hsector, harea, haline, hlines, ne_eq, not_true_eq_false, decide_false,
    Bool.not_true, Bool.or_self, Bool.false_eq_true, if_false]

/-! ## Jobs (R465, R470, R475-R477) -/

/-- The lines of a page are programmed, and its intent closes when none is left; the last page ends the job. -/
theorem execFlashPageProgram_programs {u v w : State} {t d : Nat} {pulses : List Nat} {j : FlashJob}
    (hturn : s.flashTurn t = some j) (hop : j.op = 0) (hu : u = (s.pageOpen j).flashShow)
    (hlines : u.programLines j (pageEnd j) j.done pulses = (d, false, v))
    (hw : w = (v.modFj t (fun j => { j with done := d })).wn (ledAddr t + 12) 4 d) :
    execFlashPageProgram t pulses s = .next (
      if d = j.len then (if pageEnd j ≤ j.addr + d then w.closeIntent t else w).flashEnd j 3 0 d 0
      else (if pageEnd j ≤ j.addr + d then w.closeIntent t else w).flashShow) := by
  simp only [execFlashPageProgram, hturn, hop, ne_eq, not_true_eq_false, if_false, ← hu, hlines, ← hw, Bool.false_eq_true]
  split <;> rfl

/-- An erase or a relocation opens its intent when it starts, and records its mapping when its step does. -/
theorem execFlashMappingRecord_steps {u : State} {t : Nat} {j : FlashJob} {q : SectorStep} (hturn : s.flashTurn t = some j)
    (hop : j.op ≠ 0)
    (hu : u = if j.running then s else ((s.recordState (ledAddr t) 2).modFj t (fun j => { j with running := true })).openIntent
      ⟨j.op, j.area, j.sector, sectorBase j.area j.sector, sectorLen j.area, t, false⟩) :
    execFlashMappingRecord t q s = .next (if q.record then
      (if j.op = 1 then (u.eraseRecord j).dropPermit j else (u.meetAll j q.met).relocateRecord j).flashShow
      else u.flashShow) := by
  simp only [execFlashMappingRecord, hturn, hop, if_false, ← hu]
  cases q.record <;> rfl

/-! ## Banks (R475, R476, R480) -/

section
variable {b : Fin 5}

theorem execBackgroundErase_erases (hdirty : s.flash.banks[b].dirty ≠ []) (hidle : s.flash.banks[b].erasing = false)
    (hclock : s.sysclk = true) :
    execBackgroundErase b s =
      .next ((s.modBank b (fun x => { x with erasing := true })).inc Obj.FLS_RECORDS).flashShow := by
  simp only [execBackgroundErase, hidle, hclock, List.isEmpty_eq_false_iff.mpr hdirty, Bool.not_true, Bool.or_self,
    Bool.false_eq_true, if_false]

theorem execBackgroundEraseDone_ends (herasing : s.flash.banks[b].erasing = true)
    (hruns : s.flash.banks[b].suspended = false) : execBackgroundEraseDone b s = .next (s.dirtyDone b).flashShow := by
  simp only [execBackgroundEraseDone, herasing, hruns, Bool.not_false, Bool.and_self, if_true]

theorem execFlashReadSuspend_suspends (hbusy : s.bankBusy b = true) (hruns : s.flash.banks[b].suspended = false)
    (hlater : s.flash.banks[b].resumedAt ≤ s.now) :
    execFlashReadSuspend b s =
      .next ((s.modBank b (fun x => { x with suspended := true })).inc (Obj.FLS_BKb_SUSPENDS b)) := by
  simp only [execFlashReadSuspend, hbusy, hruns, hlater, decide_true, Bool.not_false, Bool.and_self, if_true]

theorem execFlashResume_resumes (hstill : s.flash.banks[b].suspended = true) (hclock : s.sysclk = true) :
    execFlashResume b s = .next (s.modBank b (fun x => { x with suspended := false, resumedAt := s.now + 1920 })) := by
  simp only [execFlashResume, hstill, hclock, Bool.and_self, if_true]

end

/-! ## The lock and the journal's list (R482, R486) -/

theorem execFlsLockWrite_judges (who : Fin 8) (v : Nat) (rom : Bool) :
    execFlsLockWrite who v rom s = .next (if rom && !s.flash.lockWritten then
      (s.setO Obj.FLS_LOCK (v % 2 ^ 17)).modFlash (fun x => { x with lockWritten := true })
      else s.dropped (windowAddr Obj.FLS_LOCK) v who 3) := by
  unfold execFlsLockWrite State.lockWrite
  split <;> rfl

theorem execFlsIndetAck_acknowledges {u : State} {who : Fin 8} {v : Nat} {l : Bytes} (hl : l = s.blob Obj.FLS_INDET_LIST)
    (hentry : 16 * v + 16 ≤ l.length)
    (hu : u = s.modFlash (fun x => { x with intents := dropIntent (sliceB l (16 * v) 16) x.intents })) :
    execFlsIndetAck who v s = .next ((u.setBlob Obj.FLS_INDET_LIST (l.take (16 * v) ++ l.drop (16 * v + 16))).setO
      Obj.FLS_INDET_N (u.o Obj.FLS_INDET_N - 1)) := by
  subst hl hu
  simp only [execFlsIndetAck, State.indetAck, hentry, if_true, Option.getD_some]

end

/-! ## The obligation -/

/-- Settles O45: a routine returns what its function leaves (`State.routine_returns`), a FLASH job takes its record
(`State.flashJob_some`), and the other clauses are what their commands do under the conditions they name. -/
theorem flashRoutinesAndJobsObeyTheJournal : Obligations.FlashRoutinesAndJobsObeyTheJournal := by
  refine ⟨?_, ?_, ?_, ?_, ?_, ?_, ?_, ?_, ?_, ?_, ?_, ?_, ?_, ?_, ?_⟩
  · intro s q u k src a len r t hcall hq hins hret hlen hflash hsize hsector harea hsrc hregion haline hlines hsalign hmode hlock
      hbusy hblank hrecord
    exact next_congr (State.routine_returns hcall hq hins hret
      ((State.flProgram_takes hlen hflash hsize hsector harea hsrc hregion haline hlines hsalign hmode hlock hbusy hblank).trans
        (State.flashJob_some hrecord)))
  · intro s q u k l area r t hcall hq hins hret hsector hlock hpermit hbusy hrecord
    exact next_congr (State.routine_returns hcall hq hins hret
      ((State.flErase_takes hsector hlock hpermit hbusy).trans (State.flashJob_some hrecord)))
  · intro s q u k l area skip len r t hcall hq hins hret hsector hskip halign hlines hlock hpermit hbusy hrecord
    exact next_congr (State.routine_returns hcall hq hins hret
      ((State.flRelocate_takes hsector hskip halign hlines hlock hpermit hbusy).trans (State.flashJob_some hrecord)))
  · intro s q k v a r old hcall hq hins hret hflash halign hmode hbusy hold hclears hnew
    refine next_congr (State.routine_returns hcall hq hins hret ?_)
    have hword := State.flCtrword_programs hflash halign hmode hbusy hold hclears hnew
    exact congrArg (fun x : Nat × State => ([x.1], x.2)) hword
  · intro s q k a len n r hcall hq hins hret hn hlen hflash hsector harea haline hlines
    refine next_congr (State.routine_returns hcall hq hins hret ?_)
    exact congrArg (·, q) (State.flBlank_looks hn hlen hflash hsector harea haline hlines)
  · intro s q k cbs src dst len r hcall hq hins hret
    exact next_congr (State.routine_returns hcall hq hins hret rfl)
  · intro s q k l area r hcall hq hins hret
    exact next_congr (State.routine_returns hcall hq hins hret rfl)
  · exact fun s u v w t d pulses j hturn hop hu hlines hw => execFlashPageProgram_programs hturn hop hu hlines hw
  · exact fun s u t met j hturn hop hu =>
      ⟨execFlashMappingRecord_steps hturn hop hu, execFlashMappingRecord_steps hturn hop hu⟩
  · exact fun s k hdirty hidle hclock => execBackgroundErase_erases hdirty hidle hclock
  · exact fun s k herasing hruns => execBackgroundEraseDone_ends herasing hruns
  · exact fun s k hbusy hruns hlater => execFlashReadSuspend_suspends hbusy hruns hlater
  · exact fun s k hstill hclock => execFlashResume_resumes hstill hclock
  · exact fun s who v rom => execFlsLockWrite_judges who v rom
  · exact fun s u who v l hl hentry hu => execFlsIndetAck_acknowledges hl hentry hu

end Sys2Proof.Machine

/-! O32 and O33: what a core writes through the dictionary window and its engine: a staged value and its commit, and the writes
that take effect at once. -/
namespace Sys2Proof.Machine

section
variable {s : State} {c : Fin 8} {k : Key}

/-! ## A core's write of one object (R502, R527) -/

section
variable {x : ObjRow} {p : Nat × Nat} {v : Val}

/-- A write that no rule refuses takes effect. -/
theorem State.corePut_takes {t : State} {rom : Bool} {width : Nat} (hrow : objFind k = some (x, p)) (hshell : k / 256 ≠ 0x1804)
    (hro : x.acc ≠ .ro) (hconst : x.acc ≠ .const) (hput : s.putObject (.core c) rom width k v = (t, none)) :
    s.corePut c rom width k v = t := by
  simp only [State.corePut, hrow, hshell, hro, hconst, decide_false, Bool.or_self, Bool.false_eq_true, if_false, hput]

/-- One that is refused is dropped. -/
theorem State.corePut_drops {t : State} {rom : Bool} {width : Nat} {e : Refuse} (hrow : objFind k = some (x, p))
    (hshell : k / 256 ≠ 0x1804) (hro : x.acc ≠ .ro) (hconst : x.acc ≠ .const)
    (hput : s.putObject (.core c) rom width k v = (t, some e)) :
    s.corePut c rom width k v = t.dropped (windowAddr k) v.low c e.cause := by
  simp only [State.corePut, hrow, hshell, hro, hconst, decide_false, Bool.or_self, Bool.false_eq_true, if_false, hput]

theorem State.corePut_readOnly {rom : Bool} {width : Nat} (hrow : objFind k = some (x, p)) (hshell : k / 256 ≠ 0x1804)
    (hro : x.acc = .ro) : s.corePut c rom width k v = s.dropped (windowAddr k) v.low c 2 := by
  simp only [State.corePut, hrow, hshell, hro, decide_true, Bool.true_or, if_false, if_true]

theorem State.rowPut_narrow (hrow : objFind k = some (x, p)) (hnarrow : x.ty.wide = false) :
    s.rowPut (.core c) k v = s.corePut c false 4 k v := by
  simp only [State.rowPut, hrow, hnarrow, Bool.false_eq_true, if_false]

theorem rowVal_num {n : Nat} {b : Bytes} (hrow : objFind k = some (x, p)) (hblob : x.ty.blob = false) :
    rowVal k n b = .num n := by
  simp only [rowVal, hrow, hblob, Bool.false_eq_true, if_false]

/-- A register write of a core is its write of the object. -/
theorem execRegisterWrite_puts {n : Nat} {b : Bytes} (hrow : objFind k = some (x, p)) (hfw : firmwareBacked k = false)
    (hstaged : x.acc ≠ .rwt) (hengine : k / 256 ≠ 0x101) (hblob : x.ty.blob = false) (hnarrow : x.ty.wide = false) :
    execRegisterWrite (.core c) k n b s = .next (s.corePut c false 4 k (.num n)) := by
  simp only [execRegisterWrite, hrow, hfw, hstaged, hengine, decide_false, Bool.or_self, Bool.false_eq_true, if_false,
    rowVal_num hrow hblob, State.rowPut_narrow hrow hnarrow]

/-- A write of an RO object is dropped, whatever its width. -/
theorem execRegisterWrite_readOnly {n : Nat} {b : Bytes} (hrow : objFind k = some (x, p)) (hfw : firmwareBacked k = false)
    (hshell : k / 256 ≠ 0x1804) (hro : x.acc = .ro) (hengine : k / 256 ≠ 0x101) (hblob : x.ty.blob = false) :
    execRegisterWrite (.core c) k n b s = .next (s.dropped (windowAddr k) (n % 2 ^ 32) c 2) := by
  simp only [execRegisterWrite, hrow, hfw, hro, reduceCtorEq, hengine, decide_false, Bool.or_self, Bool.false_eq_true, if_false,
    rowVal_num hrow hblob, State.rowPut, State.corePut_readOnly hrow hshell hro]
  rfl

end

/-! ## Staging and commits (R506, R507) -/

/-- A value that its object's type holds enters the staging set with its reserved bits clear. -/
theorem State.stage_takes {x : ObjRow} {p : Nat × Nat} {w : Writer} {v : Nat} {l : List (Key × Val)}
    (hrow : objFind k = some (x, p)) (hfits : v < 2 ^ x.ty.width) (htime : x.ty ≠ .tt64)
    (hcounter : ¬ (0x320 ≤ k / 256 ∧ k / 256 ≤ 0x32F)) (hroom : stagePut (s.stageOf w) k (.num (cleanBits k v)) = some l) :
    s.stage w k (.num v) = (s.setStage w l, none) := by
  have hindex : (decide (0x320 ≤ k / 256) && decide (k / 256 ≤ 0x32F) && s.tcOwned (asFin 16 (k / 256 - 0x320))) = false := by
    rw [Bool.and_eq_false_iff, Bool.and_eq_false_iff, decide_eq_false_iff_not, decide_eq_false_iff_not]
    by_cases hlo : 0x320 ≤ k / 256
    · exact .inl (.inr fun hhi => hcounter ⟨hlo, hhi⟩)
    · exact .inl (.inl hlo)
  have htime' : (x.ty == .tt64) = false := beq_eq_false_iff_ne.mpr htime
  simp only [State.stage, hindex, hrow, Nat.not_le.mpr hfits, decide_false, htime', Bool.false_and, Bool.or_self, Bool.false_eq_true,
    if_false, hroom, wrOk]

theorem execStageWrite_stages {v : Nat} {l : List (Key × Val)}
    (hobj : objIs k (fun x => x.acc == .rwt && !x.ty.blob && decide (v < 2 ^ x.ty.width) && x.ty != .tt64) = true)
    (hcounter : ¬ (0x320 ≤ k / 256 ∧ k / 256 ≤ 0x32F)) (hroom : stagePut s.cores[c].stage k (.num (cleanBits k v)) = some l) :
    execStageWrite (.core c) k v [] s = .next (s.modCore c (fun x => { x with stage := l })) := by
  obtain ⟨hfw, hshell, x, p, hrow, hx⟩ := objIs_row hobj
  simp only [Bool.and_eq_true, beq_iff_eq, Bool.not_eq_true', decide_eq_true_eq, bne_iff_ne] at hx
  obtain ⟨⟨⟨hacc, hblob⟩, hfits⟩, htime⟩ := hx
  have hstage := State.stage_takes (s := s) (w := .core c) hrow hfits htime hcounter hroom
  have hput : ∀ rom width, s.putObject (.core c) rom width k (.num v) = (s.setStage (.core c) l, none) := by
    intro rom width
    simp only [State.putObject, hrow, hacc, if_true, hstage]
  simp only [execStageWrite, hrow, hacc, decide_true, hfw, Bool.not_false, Bool.and_self, if_true, rowVal_num hrow hblob,
    State.rowPut, State.corePut_takes hrow hshell (by rw [hacc]; decide) (by rw [hacc]; decide) (hput _ _)]
  rfl

theorem State.coreCommit_accepts (hstaged : s.cores[c].stage ≠ []) (hgood : s.setBad s.cores[c].stage = none) :
    s.coreCommit c = ({ s with com := { s.com with accepted := s.com.accepted ++ [⟨s.now, s.cores[c].stage⟩] } } : State).modCore c
      (fun x => { x with commitResult := 1, stage := [] }) := by
  simp only [State.coreCommit, List.isEmpty_eq_false_iff.mpr hstaged, Bool.false_eq_true, if_false, State.judgeSet, hgood]

/-- A set that an object fails is given up, with a drop record when that object is of the accountant (R237, log 190). -/
theorem State.coreCommit_refuses (hstaged : s.cores[c].stage ≠ []) (hbad : s.setBad s.cores[c].stage = some k) :
    s.coreCommit c =
      let t := s.modCore c (fun x => { x with commitResult := 2 + 256 * (k % 256) + 65536 * (k / 256), stage := [] })
      if accountKey k then t.dropped (windowAddr k) (setValue s.cores[c].stage k) c 3 else t := by
  simp only [State.coreCommit, List.isEmpty_eq_false_iff.mpr hstaged, Bool.false_eq_true, if_false, State.judgeSet, hbad]

theorem State.coreCommit_empty (hnone : s.cores[c].stage = []) :
    s.coreCommit c = s.modCore c (fun x => { x with commitResult := 3 }) := by
  simp only [State.coreCommit, hnone, List.isEmpty_nil, if_true]

/-! ## The dictionary engine (R504, R509) -/

section
variable {v : Nat}

theorem execComDomSel_selects (hfits : v < 2 ^ 32) (hdom : domObject (selKey v) = true) (hshell : selKey v / 256 ≠ 0x1804) :
    execComDomSel c v s =
      .next (s.modCore c (fun x => { x with domSel := selClean v, domPos := 0, domNew := none })) := by
  simp only [execComDomSel, Nat.mod_eq_of_lt hfits, State.domSelect, hdom, Bool.not_true, Bool.false_eq_true, if_false, hshell]

/-- A new value starts with bytes that no store has reached: they are free (log 95). -/
theorem execComDomLen_starts (hdom : domObject (selKey s.cores[c].domSel) = true) (hpos : 0 < v) (hlen : v < 65536)
    (hmax : v ≤ blobMax (selKey s.cores[c].domSel)) :
    execComDomLen c v s = .next { s.modCore c (fun x => { x with domPos := 0, domNew := some (v, freeBytes s.draws v) }) with
      draws := s.draws + v } := by
  simp only [execComDomLen, State.domLen, hdom, Bool.not_true, Nat.not_le.mpr hlen, Nat.not_lt.mpr hmax, decide_false,
    Bool.or_self, Bool.false_eq_true, if_false, State.domStart, Nat.ne_of_gt hpos]
  rfl

/-- A store to a value under way puts its bytes there; the one that reaches its length writes the object. -/
theorem execComDomDataWrite_stores {n : Nat} {b : Bytes} (hfits : v < 2 ^ 32)
    (hdom : domObject (selKey s.cores[c].domSel) = true) (hnew : s.cores[c].domNew = some (n, b)) :
    execComDomDataWrite c v s = .next (
      if n ≤ s.cores[c].domPos + 4 then
        (s.modCore c (fun x => { x with domPos := s.cores[c].domPos + 4, domNew := none })).corePut c false 4
          (selKey s.cores[c].domSel) (.bytes (patch b s.cores[c].domPos (leBytes 4 v)))
      else s.modCore c (fun x =>
        { x with domPos := s.cores[c].domPos + 4, domNew := some (n, patch b s.cores[c].domPos (leBytes 4 v)) })) := by
  simp only [execComDomDataWrite, Nat.mod_eq_of_lt hfits, State.domWrite, hdom, Bool.not_true, Bool.false_eq_true, if_false, hnew,
    Option.isSome_some, if_true, State.domStore]

/-- A value that fits its object is set at once. -/
theorem State.fwValue_sets {x : ObjRow} {p : Nat × Nat} {k : Key} (hkey : selKey s.cores[c].fwSel = k)
    (hrow : objFind k = some (x, p)) (hfits : v < 2 ^ x.ty.width) (hheld : k ≠ Obj.FAB_HELD_SINCE)
    (hhigh : k ≠ Obj.FAB_HELD_SINCE + 1) (hstate : k ≠ Obj.FAB_ADDR_STATE) : s.fwValue c v = s.setO k v := by
  simp only [State.fwValue, hkey, hheld, hhigh, hrow, Nat.not_le.mpr hfits, hstate, if_false]

theorem State.fwValue_high (hkey : selKey s.cores[c].fwSel = Obj.FAB_HELD_SINCE + 1) :
    s.fwValue c v = s.setO Obj.FAB_HELD_SINCE (s.cores[c].fwLow + 2 ^ 32 * v) := by
  simp only [State.fwValue, hkey, Nat.succ_ne_self, if_false, if_true]

theorem execComFwVal_sets {x : ObjRow} {p : Nat × Nat} {k : Key} (hkey : selKey s.cores[c].fwSel = k)
    (hrow : objFind k = some (x, p)) (hfits : v < 2 ^ x.ty.width) (hwidth : x.ty.width ≤ 32) (hheld : k ≠ Obj.FAB_HELD_SINCE)
    (hhigh : k ≠ Obj.FAB_HELD_SINCE + 1) (hstate : k ≠ Obj.FAB_ADDR_STATE) : execComFwVal c v s = .next (s.setO k v) := by
  have hword : v < 2 ^ 32 := Nat.lt_of_lt_of_le hfits (Nat.pow_le_pow_right (by decide) hwidth)
  rw [execComFwVal, Nat.mod_eq_of_lt hword, State.fwValue_sets hkey hrow hfits hheld hhigh hstate]

end

/-! ## Events, the log, the routes and the drop record (R525-R528) -/

/-- A write of a WO object that its rule takes. -/
theorem State.rowPut_takes {x : ObjRow} {p : Nat × Nat} {v : Val} {t : State} (hrow : objFind k = some (x, p))
    (hacc : x.acc = .wo ∨ x.acc = .rw) (hnarrow : x.ty.wide = false) (hshell : k / 256 ≠ 0x1804)
    (hput : s.putObject (.core c) false 4 k v = (t, none)) : s.rowPut (.core c) k v = t := by
  rw [State.rowPut_narrow hrow hnarrow,
    State.corePut_takes hrow hshell (by rcases hacc with h | h <;> rw [h] <;> decide)
      (by rcases hacc with h | h <;> rw [h] <;> decide) hput]

theorem State.rowPut_drops {x : ObjRow} {p : Nat × Nat} {v : Val} {t : State} {e : Refuse} (hrow : objFind k = some (x, p))
    (hacc : x.acc = .wo ∨ x.acc = .rw) (hnarrow : x.ty.wide = false) (hshell : k / 256 ≠ 0x1804)
    (hput : s.putObject (.core c) false 4 k v = (t, some e)) :
    s.rowPut (.core c) k v = t.dropped (windowAddr k) v.low c e.cause := by
  rw [State.rowPut_narrow hrow hnarrow,
    State.corePut_drops hrow hshell (by rcases hacc with h | h <;> rw [h] <;> decide)
      (by rcases hacc with h | h <;> rw [h] <;> decide) hput]

/-- A post is written to EVT_POST, and its code says what it does. -/
theorem State.putObject_post (b : Bytes) : s.putObject (.core c) false 4 Obj.EVT_POST (.bytes b) = s.evtPost b := rfl

theorem execEvtPost_takes {b : Bytes} {t : State} (hpost : s.evtPost b = (t, none)) : execEvtPost (.core c) b s = .next t :=
  next_congr (State.rowPut_takes rfl (.inl rfl) rfl (by decide) hpost)

section
variable {b : Bytes} (hmin : 8 ≤ b.length) (hmax : b.length ≤ 908)
include hmin hmax

theorem State.evtPost_firmware (hcode : 0x800 ≤ fieldN b 0 2) :
    s.evtPost b = (s.raiseFw (fieldN b 0 2) (fieldN b 2 2) (fieldN b 4 4) (b.drop 8), none) := by
  have hmiss : fieldN b 0 2 ≠ 0x100 := by omega
  have htimer : fieldN b 0 2 ≠ 0x133 := by omega
  simp only [State.evtPost, Nat.not_lt.mpr hmin, Nat.not_lt.mpr hmax, decide_false, Bool.or_self, Bool.false_eq_true, if_false, hmiss,
    Bool.false_and, htimer, hcode, if_true, wrOk]

theorem State.evtPost_miss (hcode : fieldN b 0 2 = 0x100) (hclass : fieldN b 4 4 % 256 ∈ [5, 6, 7, 10, 11]) :
    s.evtPost b =
      (s.miss (fieldN b 4 4 % 256) (fieldN b 2 2) (frameStart s.now + 8 * fld (fieldN b 4 4) 31 16), none) := by
  have hcls : (fieldN b 4 4 % 256 = 5 || fieldN b 4 4 % 256 = 6 || fieldN b 4 4 % 256 = 7 || fieldN b 4 4 % 256 = 10 ||
      fieldN b 4 4 % 256 = 11) = true := by
    simpa [or_assoc] using hclass
  simp only [State.evtPost, Nat.not_lt.mpr hmin, Nat.not_lt.mpr hmax, decide_false, Bool.or_self, Bool.false_eq_true, if_false, hcode,
    decide_true, Bool.true_and, hcls, if_true, wrOk]

theorem State.evtPost_data (hcode : fieldN b 0 2 = 0x133) :
    s.evtPost b = (s.raiseE ⟨0x133, fieldN b 2 2, fieldN b 4 4, s.now, b.drop 8⟩, none) := by
  simp only [State.evtPost, Nat.not_lt.mpr hmin, Nat.not_lt.mpr hmax, decide_false, Bool.or_self, Bool.false_eq_true, if_false, hcode,
    Nat.reduceEqDiff, Bool.false_and, if_true, wrOk]

end

theorem State.evtPost_short {b : Bytes} (hshort : b.length < 8) :
    s.evtPost b = (s.inc Obj.EVT_POST_REFUSED, some refRange) := by
  simp only [State.evtPost, hshort, decide_true, Bool.true_or, if_true, wrNo]

/-! ## The control of cores (R430, R431) -/

/-- A number that its object's type holds is in the range of a row that checks nothing else. -/
theorem ObjRow.inRange_any {x : ObjRow} {v : Nat} (hany : x.chk = .any) (htime : x.ty ≠ .tt64) (hfits : v < 2 ^ x.ty.width) :
    x.inRange v = true := by
  simp only [ObjRow.inRange, hany, beq_eq_false_iff_ne.mpr htime, hfits, decide_true, Bool.false_eq_true, if_false, Bool.and_self]

/-- A number in range for an object of the areas 0x1Cxx and 0x1Dxx is written by their rules. -/
theorem State.putObject_core {k : Nat} {x : ObjRow} {p : Nat × Nat} {w : Writer} {width v : Nat} (hrow : objFind k = some (x, p))
    (hacc : x.acc ≠ .rwt) (hin : x.inRange v = true) (hslice : sliceIx (k / 256) = none) (harea : 0x1C00 ≤ k / 256) :
    s.putObject w false width k (.num v) = s.writeCore w k v := by
  simp only [State.putObject, hrow, hacc, State.writeNum, hin, Bool.not_true, Bool.false_eq_true, if_false, hslice]
  rw [if_neg (by omega), if_neg (by omega), if_neg (by omega), if_neg (by omega), if_neg (by omega), if_neg (by omega),
    if_neg (by omega)]

theorem objIs_ctrl (d : Fin 8) :
    objIs (Obj.COR_c_CTRL d) (fun x => x.acc == .wo && !x.ty.wide && x.inRange 1 && x.inRange 2) = true := by
  revert d
  decide +kernel

theorem area_ctrl (d : Fin 8) : sliceIx (Obj.COR_c_CTRL d / 256) = none ∧ 0x1C00 ≤ Obj.COR_c_CTRL d / 256 := by
  revert d
  decide

theorem State.writeCore_ctrl {w : Writer} {d : Fin 8} {v : Nat} : s.writeCore w (Obj.COR_c_CTRL d) v = s.coreCtrl w d v := by
  have hrelease : ∀ x : Fin 8, Obj.COR_c_CTRL x ≠ Obj.COR_RELEASE := by decide
  have hpage : ∀ x : Fin 8, (0x1C10 ≤ Obj.COR_c_CTRL x / 256 && Obj.COR_c_CTRL x / 256 ≤ 0x1C17 &&
    Obj.COR_c_CTRL x % 256 = 2) = true := by decide
  have hcore : ∀ x : Fin 8, asFin 8 (Obj.COR_c_CTRL x / 256 - 0x1C10) = x := by decide
  dsimp only [State.writeCore]
  rw [if_neg (hrelease d), if_pos (hpage d), hcore d]

/-- A core's write of 1 or 2 to COR_c_CTRL of a core that it may control is RESTART or HOLD. -/
theorem State.rowPut_ctrl {d : Fin 8} {v : Nat} (hv : v = 1 ∨ v = 2) (hwarden : d ≠ 4) (hself : d ≠ c) :
    s.rowPut (.core c) (Obj.COR_c_CTRL d) (.num v) = if v = 1 then s.coreStart d else s.coreHold d := by
  obtain ⟨-, hshell, x, p, hrow, hx⟩ := objIs_row (objIs_ctrl d)
  simp only [Bool.and_eq_true, beq_iff_eq, Bool.not_eq_true'] at hx
  obtain ⟨⟨⟨hacc, hnarrow⟩, h1⟩, h2⟩ := hx
  have hin : x.inRange v = true := by rcases hv with rfl | rfl <;> assumption
  have hmay : ctrlRefused (.core c) d = false := by simp [ctrlRefused, hwarden, Ne.symm hself]
  refine State.rowPut_takes hrow (.inl hacc) hnarrow hshell ?_
  rw [State.putObject_core hrow (by rw [hacc]; decide) hin (area_ctrl d).1 (area_ctrl d).2, State.writeCore_ctrl, State.coreCtrl,
    hmay]
  rfl

/-- Control of the warden and of the writing core itself is refused. -/
theorem State.rowPut_ctrl_refused {d : Fin 8} {v : Nat} (hv : v = 1 ∨ v = 2) (hd : d = 4 ∨ d = c) :
    s.rowPut (.core c) (Obj.COR_c_CTRL d) (.num v) = s.dropped (windowAddr (Obj.COR_c_CTRL d)) v c 6 := by
  obtain ⟨-, hshell, x, p, hrow, hx⟩ := objIs_row (objIs_ctrl d)
  simp only [Bool.and_eq_true, beq_iff_eq, Bool.not_eq_true'] at hx
  obtain ⟨⟨⟨hacc, hnarrow⟩, h1⟩, h2⟩ := hx
  have hin : x.inRange v = true := by rcases hv with rfl | rfl <;> assumption
  have hmay : ctrlRefused (.core c) d = true := by rcases hd with rfl | rfl <;> simp [ctrlRefused]
  have hlow : (Val.num v).low = v := by rcases hv with rfl | rfl <;> rfl
  rw [State.rowPut_drops (t := s) (e := refCommand) hrow (.inl hacc) hnarrow hshell, hlow]
  · rfl
  · rw [State.putObject_core hrow (by rw [hacc]; decide) hin (area_ctrl d).1 (area_ctrl d).2, State.writeCore_ctrl, State.coreCtrl,
      hmay]
    rfl

theorem execCorRelease_releases {v : Nat} (hmask : v < 256) : execCorRelease (.core c) v s = .next (s.release8 v) :=
  next_congr (State.rowPut_takes rfl (.inr rfl) rfl (by decide)
    (State.putObject_core rfl (by decide) (ObjRow.inRange_any rfl (by decide) hmask) rfl (by decide)))

end

/-! ## The obligations -/

/-- Settles O32: a staged value is put in its core's set (`State.stage_takes`), and a commit gives the set to the tick or gives it
up. -/
theorem stagedValuesWaitForACommit : Obligations.StagedValuesWaitForACommit :=
  ⟨fun _ _ _ _ _ hobj hcounter hroom => execStageWrite_stages hobj hcounter hroom,
    fun _ _ hstaged hgood => next_congr (State.coreCommit_accepts hstaged hgood),
    fun _ _ _ hstaged hbad haccount =>
      next_congr ((State.coreCommit_refuses hstaged hbad).trans (if_neg (by rw [haccount]; exact Bool.false_ne_true))),
    fun _ _ _ hstaged hbad haccount => next_congr ((State.coreCommit_refuses hstaged hbad).trans (if_pos haccount)),
    fun _ _ hnone => next_congr (State.coreCommit_empty hnone)⟩

/-- Settles O33: a register write is `State.corePut`, an engine write goes on to the engine's own rules, and the writes of
WO objects with an effect of their own reach it through their rows. -/
theorem registerAndEngineWritesTakeEffectAtOnce : Obligations.RegisterAndEngineWritesTakeEffectAtOnce := by
  refine ⟨?_, ?_, ?_, ?_, ?_, ?_, ?_, ?_, ?_, ?_, ?_, ?_, ?_, ?_, ?_, ?_, ?_, ?_, ?_, ?_, ?_, ?_⟩
  · intro s t c k v hobj hengine hput
    obtain ⟨hfw, hshell, x, p, hrow, hx⟩ := objIs_row hobj
    simp only [Bool.and_eq_true, Bool.or_eq_true, beq_iff_eq, Bool.not_eq_true'] at hx
    obtain ⟨⟨hacc, hblob⟩, hnarrow⟩ := hx
    have hstaged : x.acc ≠ .rwt := by rcases hacc with h | h <;> rw [h] <;> decide
    have hro : x.acc ≠ .ro := by rcases hacc with h | h <;> rw [h] <;> decide
    have hconst : x.acc ≠ .const := by rcases hacc with h | h <;> rw [h] <;> decide
    exact (execRegisterWrite_puts hrow hfw hstaged hengine hblob hnarrow).trans
      (next_congr (State.corePut_takes hrow hshell hro hconst hput))
  · intro s t c k v e hobj hengine hput
    obtain ⟨hfw, hshell, x, p, hrow, hx⟩ := objIs_row hobj
    simp only [Bool.and_eq_true, Bool.or_eq_true, beq_iff_eq, Bool.not_eq_true'] at hx
    obtain ⟨⟨hacc, hblob⟩, hnarrow⟩ := hx
    have hstaged : x.acc ≠ .rwt := by rcases hacc with h | h <;> rw [h] <;> decide
    have hro : x.acc ≠ .ro := by rcases hacc with h | h <;> rw [h] <;> decide
    have hconst : x.acc ≠ .const := by rcases hacc with h | h <;> rw [h] <;> decide
    exact (execRegisterWrite_puts hrow hfw hstaged hengine hblob hnarrow).trans
      (next_congr (State.corePut_drops hrow hshell hro hconst hput))
  · intro s c k v hobj hengine
    obtain ⟨hfw, hshell, x, p, hrow, hx⟩ := objIs_row hobj
    simp only [Bool.and_eq_true, beq_iff_eq, Bool.not_eq_true'] at hx
    exact execRegisterWrite_readOnly hrow hfw hshell hx.1 hengine hx.2
  · exact fun s c v hfits hdom hshell => execComDomSel_selects hfits hdom hshell
  · exact fun s c v hdom hpos hlen hmax => execComDomLen_starts hdom hpos hlen hmax
  · exact fun s c v n b hfits hdom hnew hinside =>
      (execComDomDataWrite_stores hfits hdom hnew).trans (next_congr (if_neg (Nat.not_le.mpr hinside)))
  · exact fun s c => rfl
  · exact fun s u c v n b hfits hdom hnew hend hu => hu ▸
      (execComDomDataWrite_stores hfits hdom hnew).trans (next_congr (if_pos hend))
  · intro s c v hkey hfits
    rcases hkey with hkey | hkey
    · exact hkey ▸ execComFwVal_sets hkey rfl hfits (by decide) (by decide) (by decide) (by decide)
    · exact hkey ▸ execComFwVal_sets hkey rfl hfits (by decide) (by decide) (by decide) (by decide)
  · exact fun s c v hkey hfits => execComFwVal_sets hkey rfl hfits (by decide) (by decide) (by decide) (by decide)
  · intro s c v hkey hfits
    exact next_congr (by rw [Nat.mod_eq_of_lt hfits, State.fwValue_high hkey])
  · exact fun s c b hmin hmax hcode => execEvtPost_takes (State.evtPost_firmware hmin hmax hcode)
  · exact fun s c b hmin hmax hcode hclass => execEvtPost_takes (State.evtPost_miss hmin hmax hcode hclass)
  · exact fun s c b hmin hmax hcode => execEvtPost_takes (State.evtPost_data hmin hmax hcode)
  · exact fun s c b hshort =>
      next_congr (State.rowPut_drops (v := .bytes b) (e := refRange) rfl (.inl rfl) rfl (by decide) (State.evtPost_short hshort))
  · exact fun s c => next_congr (State.rowPut_takes (v := .num 1) rfl (.inl rfl) rfl (by decide) rfl)
  · exact fun s c => next_congr (State.rowPut_takes (v := .num 1) rfl (.inl rfl) rfl (by decide) rfl)
  · exact fun s c => next_congr (State.rowPut_takes (v := .num 1) rfl (.inl rfl) rfl (by decide) rfl)
  · exact fun s c d hwarden hself => next_congr (State.rowPut_ctrl (.inl rfl) hwarden hself)
  · exact fun s c d hwarden hself => next_congr (State.rowPut_ctrl (.inr rfl) hwarden hself)
  · exact fun s c v hmask => execCorRelease_releases hmask
  · intro s c d v hd hv
    rcases hv with rfl | rfl
    · exact next_congr (State.rowPut_ctrl_refused (.inl rfl) hd)
    · exact next_congr (State.rowPut_ctrl_refused (.inr rfl) hd)

end Sys2Proof.Machine

/-! O48: the power die starts, sequences, stops and restarts the rails, and takes only legal class and table values. -/
namespace Sys2Proof.Machine

section
variable {s : State}

/-! ## The buck starts and its rails rise (R539, R540) -/

theorem execBuckStart_starts {vin : Nat} (hbuck : s.power.buck = false) (hrestart : s.power.restartAt = none)
    (hpast : s.power.past = false) (hlow : 850 ≤ vin) (hhigh : vin ≤ 6200) :
    execBuckStart vin s = .next (s.buckStart vin) := by
  simp only [execBuckStart, hbuck, hrestart, hpast, hlow, hhigh, decide_true, Option.isNone_none, Bool.not_false, Bool.and_self,
    if_true]

theorem State.buckStart_power (vin : Nat) : (s.buckStart vin).power = { s.power with
    vin := vin, en := true, buck := true, e0 := s.now, rails := 0, restartAt := none, thermal := false, past := false,
    sccpDone := false } := by
  unfold State.buckStart
  dsimp only
  split <;> rfl

/-- An answered class stays. -/
theorem State.buckStart_keepsClass {vin : Nat} (hdone : s.power.sccpDone = true) :
    (s.buckStart vin).o Obj.PWR_SCCP_STATE = s.o Obj.PWR_SCCP_STATE := by
  simp only [State.buckStart, State.modPower_power, hdone, if_true, State.modPower_o]

/-- An unanswered one is forgotten. -/
theorem State.buckStart_forgetsClass {vin : Nat} (hdone : s.power.sccpDone = false) :
    (s.buckStart vin).o Obj.PWR_SCCP_STATE = 0 := by
  simp only [State.buckStart, State.modPower_power, hdone, Bool.false_eq_true, if_false, State.modPower_o, State.setO_o, if_true]

theorem execBuckRestart_starts {vin : Nat} (hbuck : s.power.buck = false) (hrestart : s.power.restartAt = none)
    (hpast : s.power.past = true) (hlow : 850 ≤ vin) (hhigh : vin < 6100) :
    execBuckRestart vin s = .next (s.buckStart vin) := by
  simp only [execBuckRestart, hbuck, hrestart, hpast, hlow, hhigh, decide_true, Option.isNone_none, Bool.not_false, Bool.and_self,
    if_true]

theorem execPowerUpSequence_raises (hbuck : s.power.buck = true) (hrails : s.power.rails < 5) (hfail : s.power.failAt = none) :
    execPowerUpSequence s = .next
      (let u := (s.upTo (s.power.e0 + railStep s.power.rails)).modPower (fun p => { p with rails := s.power.rails + 1 })
      if s.power.rails = 3 then (u.setO Obj.PWR_VCORE_NOW 800).setO Obj.PWR_BB_NOW 0 else u) := by
  simp only [execPowerUpSequence, hbuck, hrails, hfail, decide_true, Option.isNone_none, Bool.and_self, if_true]

theorem execPgGood_falls {resetN : Bool} (hbuck : s.power.buck = true) (hrails : s.power.rails = 5)
    (hfail : s.power.failAt = none) :
    execPgGood resetN s = .next
      (let u := (s.upTo (s.power.e0 + railStep 5)).modPower (fun p => { p with rails := 6, pgGood := true, porDue := !resetN })
      if resetN then u.mainReset 1 else u) := by
  simp only [execPgGood, hbuck, hrails, hfail, decide_true, Option.isNone_none, Bool.and_self, if_true]

/-! ## The rails fall (R541, R542, R545) -/

/-- Power fails by a low input, by EN or by a high input. -/
theorem execPowerFail_fails {cause vin : Nat} (hgood : s.power.pgGood = true)
    (hcause : (cause = 1 ∧ vin < 800) ∨ cause = 2 ∨ (cause = 3 ∧ 6200 < vin)) :
    execPowerFail cause vin s = .next
      (s.modPower (fun p => { p with vin := vin, en := cause != 2, past := cause == 3 })).powerFail := by
  obtain ⟨rfl, hvin⟩ | rfl | ⟨rfl, hvin⟩ := hcause
  · simp [execPowerFail, hgood, hvin]
  · simp [execPowerFail, hgood]
  · simp [execPowerFail, hgood, hvin]

theorem execRailFault_latches {rail : Nat} (hgood : s.power.pgGood = true) (hrail : rail < 11) :
    execRailFault rail s = .next
      (let u := s.setO Obj.PWR_RAIL_FAULT (setBit (s.o Obj.PWR_RAIL_FAULT) rail true)
      (u.modPower (fun p => { p with restartAt := some (s.now + usT 100000), railFaultReport := true })).powerFail) := by
  simp only [execRailFault, hgood, hrail, decide_true, Bool.and_self, if_true, State.setO_now]

theorem execBuckStop_falls {f : Instant} (hfail : s.power.failAt = some f) :
    execBuckStop s = .next
      (let u := (s.upTo (f + usT 100)).modPower (fun p => { p with buck := false, rails := 0, failAt := none, xo32k := false, ramp := none, entry := none, wakes := [], wakeAt := none, resetsDue := [] })
      let v : State := { u.setO Obj.PWR_VCORE_NOW 0 with cores := u.cores.map (fun c => { c with mode := .held }) }
      if s.power.vin ≤ 300 then (v.setO Obj.PWR_RAIL_FAULT 0).modPower (fun p => { p with railFaultReport := false, sccpDone := false }) else v) := by
  rw [execBuckStop, hfail]
  by_cases hvin : s.power.vin ≤ 300
  · exact (if_pos hvin).trans (next_congr (if_pos hvin).symm)
  · exact (if_neg hvin).trans (next_congr (if_neg hvin).symm)

theorem execRailFaultRestart_starts {t : Instant} (hrestart : s.power.restartAt = some t) (hbuck : s.power.buck = false)
    (hthermal : s.power.thermal = false) (hfail : s.power.failAt = none) :
    execRailFaultRestart s = .next ((s.upTo t).buckStart s.power.vin) := by
  simp only [execRailFaultRestart, hrestart, hbuck, hthermal, hfail, Option.isNone_none, Bool.not_false, Bool.and_self, if_true]

theorem execThermalShutdown_latches (hgood : s.power.pgGood = true) :
    execThermalShutdown s = .next
      (let u := s.powerFail
      (u.setO Obj.PWR_RAIL_FAULT (setBit (u.o Obj.PWR_RAIL_FAULT) 15 true)).modPower
        (fun p => { p with thermal := true, restartAt := some (u.now + usT 100000), railFaultReport := true })) := by
  simp only [execThermalShutdown, hgood, if_true, State.setO_now]

theorem execThermalRestart_starts {t : Instant} (hrestart : s.power.restartAt = some t) (hbuck : s.power.buck = false)
    (hthermal : s.power.thermal = true) (hfail : s.power.failAt = none) :
    execThermalRestart s = .next ((s.upTo t).buckStart s.power.vin) := by
  simp only [execThermalRestart, hrestart, hbuck, hthermal, hfail, Option.isNone_none, Bool.not_false, Bool.and_self, if_true]

/-! ## The class and the power table (R537, R557) -/

theorem execSccp_answers {vin : Nat} {ok : Bool} (hbuck : s.power.buck = false) (hlow : 300 ≤ vin) (hhigh : vin ≤ 800) :
    ∃ t, execSccp vin ok s = .next t ∧ t.o Obj.PWR_SCCP_STATE = (if ok then 1 else 2) ∧ t.rdata = s.o Obj.PWR_SCCP_CLASS ∧
      t.power.sccpDone = true ∧ t.power.sccpReport = true := by
  have hclass : (s.setO Obj.PWR_SCCP_STATE (if ok then 1 else 2)).o Obj.PWR_SCCP_CLASS = s.o Obj.PWR_SCCP_CLASS := by
    rw [State.setO_o, if_neg (by decide)]
  simp only [execSccp, hbuck, hlow, hhigh, decide_true, Bool.not_false, Bool.and_self, if_true, hclass]
  refine ⟨_, rfl, ?_, rfl, rfl, rfl⟩
  exact (State.setO_o s Obj.PWR_SCCP_STATE _ Obj.PWR_SCCP_STATE).trans (if_pos rfl)

theorem execSccpClassWrite_takes {who : Fin 8} {v : Nat} (hlow : 10 ≤ v) (hhigh : v ≤ 15)
    (hleft : 0 < s.o Obj.PWR_SCCP_WRITES) :
    execSccpClassWrite who v s =
      .next ((s.setO Obj.PWR_SCCP_CLASS v).setO Obj.PWR_SCCP_WRITES (s.o Obj.PWR_SCCP_WRITES - 1)) := by
  rw [execSccpClassWrite, State.sccpClass, if_pos ⟨hlow, hhigh, hleft⟩, Option.getD_some]

theorem execSccpClassWrite_drops {who : Fin 8} {v : Nat} (hbad : v < 10 ∨ 15 < v ∨ s.o Obj.PWR_SCCP_WRITES = 0) :
    execSccpClassWrite who v s = .next (s.dropped (windowAddr Obj.PWR_SCCP_CLASS) v who 3) := by
  rw [execSccpClassWrite, State.sccpClass, if_neg (by omega), Option.getD_none]

theorem execPwrTableWrite_takes {who : Fin 8} {b : Bytes} (hok : tableOk b = true) :
    execPwrTableWrite who b s = .next (s.setBlob Obj.PWR_TABLE (b.take 6 ++ [0, 0])) := by
  rw [execPwrTableWrite, State.tableWrite, if_pos hok, Option.getD_some]

theorem execPwrTableWrite_drops {who : Fin 8} {b : Bytes} (hbad : tableOk b = false) :
    execPwrTableWrite who b s = .next (s.dropped (windowAddr Obj.PWR_TABLE) (leNat (b.take 4)) who 3) := by
  rw [execPwrTableWrite, State.tableWrite, if_neg (Bool.not_eq_true _ ▸ hbad), Option.getD_none]

/-! ## VCORE ramps, steps down and is guarded (R544, R552, R554) -/

theorem execVcoreRampDone_ends {r : Ramp} (hramp : s.power.ramp = some r) :
    execVcoreRampDone s = .next ((((s.upTo r.by_).setO Obj.PWR_VCORE_NOW r.vcore).setI 16 Obj.PWR_BB_NOW r.bias).modPower
      (fun p => { p with ramp := none })) := by
  simp only [execVcoreRampDone, hramp]

/-- The state in which a step down is decided: at most one in a superframe. -/
def State.lowerAt (s : State) : State :=
  let r := if s.power.stepSf = some s.sf then s.upTo (boundaryAt superT (s.now + 1)) else s
  r.modPower (fun p => { p with stepSf := some r.sf })

/-- What a step down decides. -/
theorem execVcoreLowerStep_judges (hstep : s.o Obj.PWR_PLAN_STEP = 1) (hpwr : s.pwr ≤ 2) :
    execVcoreLowerStep s = (let u := s.lowerAt
      if u.o Obj.PWR_CPS_SLACK_NOW ≤ u.o Obj.PWR_CPS_SLACK_FLOOR + 2 then .next u
      else
        let v := max (u.planV u.pwr) (u.o Obj.PWR_VCORE_NOW - 10)
        .next ((u.setO Obj.PWR_VCORE_NOW v).setO Obj.PWR_PLAN_STEP (b2n (decide (u.planV u.pwr < v))))) := by
  have hguard : (s.ob Obj.PWR_PLAN_STEP && decide (s.pwr ≤ 2)) = true := by
    rw [State.ob, hstep, decide_eq_true hpwr]; rfl
  exact if_pos hguard

theorem State.marginGuard_open (hslack : s.o Obj.PWR_CPS_SLACK_NOW < s.o Obj.PWR_CPS_SLACK_FLOOR) (hpwr : s.pwr ≠ 4)
    (hdone : s.power.guardDone = false) :
    (decide (s.o Obj.PWR_CPS_SLACK_NOW < s.o Obj.PWR_CPS_SLACK_FLOOR) && decide (s.pwr ≠ 4) && !s.power.guardDone) = true := by
  rw [decide_eq_true hslack, decide_eq_true hpwr, hdone]; rfl

theorem execMarginGuard_raises (hslack : s.o Obj.PWR_CPS_SLACK_NOW < s.o Obj.PWR_CPS_SLACK_FLOOR) (hpwr : s.pwr ≠ 4)
    (hdone : s.power.guardDone = false) (hroom : s.o Obj.PWR_VCORE_NOW < s.vcoreCeil) :
    execMarginGuard s = .next
      (let u := (((s.modPower (fun p => { p with guardDone := true })).setO Obj.PWR_VCORE_NOW
          (min s.vcoreCeil (s.o Obj.PWR_VCORE_NOW + 10))).addO 8 Obj.PWR_CPS_GUARD_MV 10).inc Obj.PWR_CPS_GUARD_UPS
      if s.power.guardRaised then u
      else (u.modPower (fun p => { p with guardRaised := true })).raise 0x163 0 (s.o Obj.PWR_CPS_SLACK_NOW)) :=
  (if_pos (State.marginGuard_open hslack hpwr hdone)).trans (if_pos hroom)

theorem execMarginGuard_atCeiling (hslack : s.o Obj.PWR_CPS_SLACK_NOW < s.o Obj.PWR_CPS_SLACK_FLOOR) (hpwr : s.pwr ≠ 4)
    (hdone : s.power.guardDone = false) (hfull : s.vcoreCeil ≤ s.o Obj.PWR_VCORE_NOW) :
    execMarginGuard s = .next
      (let r := s.modPower (fun p => { p with guardDone := true })
      if s.power.lostRaised then r
      else (r.modPower (fun p => { p with lostRaised := true })).raise 0x164 0 (s.o Obj.PWR_CPS_SLACK_NOW)) :=
  (if_pos (State.marginGuard_open hslack hpwr hdone)).trans (if_neg (Nat.not_lt.mpr hfull))

theorem execMarginGuard_done (hdone : s.power.guardDone = true) : execMarginGuard s = .next s := by
  simp only [execMarginGuard, hdone, Bool.not_true, Bool.and_false, Bool.false_eq_true, if_false]

end

/-- Settles O48: each clause is the branch of its command that its hypotheses select. -/
theorem powerDieStartsStopsAndRestarts : Obligations.PowerDieStartsStopsAndRestarts := by
  unfold Obligations.PowerDieStartsStopsAndRestarts
  refine ⟨?starts, ?restarts, ?_, ?_, ?_, ?_, ?_, ?_, ?_, ?_, ?_, ?_, ?_, ?_, ?_, ?_, ?_, ?lowers, ?stays, ?guards, ?_, ?full⟩
  case starts =>
    intro s vin hbuck hrestart hpast hlow hhigh
    refine ⟨_, execBuckStart_starts hbuck hrestart hpast hlow hhigh, ?_, ?_, ?_, ?_, ?_, State.buckStart_keepsClass,
      State.buckStart_forgetsClass⟩ <;> rw [State.buckStart_power]
  case restarts =>
    intro s vin hbuck hrestart hpast hlow hhigh
    refine ⟨execBuckRestart_starts hbuck hrestart hpast hlow hhigh, ?_⟩
    rw [State.buckStart_power]
  case lowers =>
    rintro s r u v hstep hpwr rfl rfl hslack rfl
    exact (execVcoreLowerStep_judges hstep hpwr).trans (if_neg (Nat.not_le.mpr hslack))
  case stays =>
    rintro s r u hstep hpwr rfl rfl hslack
    exact (execVcoreLowerStep_judges hstep hpwr).trans (if_pos hslack)
  case guards =>
    rintro s r u slack rfl hslack hpwr hdone hroom rfl rfl
    exact execMarginGuard_raises hslack hpwr hdone hroom
  case full =>
    rintro s r slack rfl hslack hpwr hdone hfull rfl
    exact execMarginGuard_atCeiling hslack hpwr hdone hfull
  · rintro s u hbuck hrails hfail rfl
    exact execPowerUpSequence_raises hbuck hrails hfail
  · rintro s u resetN hbuck hrails hfail rfl
    exact execPgGood_falls hbuck hrails hfail
  · rintro s u cause vin hgood hcause rfl
    exact execPowerFail_fails hgood hcause
  · rintro s u f hfail rfl
    exact execBuckStop_falls hfail
  · rintro s u rail hgood hrail rfl
    exact execRailFault_latches hgood hrail
  · exact fun s t => execRailFaultRestart_starts
  · rintro s u hgood rfl
    exact execThermalShutdown_latches hgood
  · exact fun s t => execThermalRestart_starts
  · exact fun s vin ok => execSccp_answers
  · exact fun s who v => execSccpClassWrite_takes
  · exact fun s who v => execSccpClassWrite_drops
  · exact fun s who b => execPwrTableWrite_takes
  · exact fun s who b => execPwrTableWrite_drops
  · exact fun s hrails => if_pos hrails
  · exact fun s r => execVcoreRampDone_ends
  · exact fun s => execMarginGuard_done

end Sys2Proof.Machine

/-! O49: RUN, TRIM, DOZE and HIBERNATE are entered and left, and Compass surveys and plans. -/
namespace Sys2Proof.Machine

section
variable {s : State}

/-! ## States are entered (R544, R546, R547) -/

theorem execPstate_takes {e : Entry} (hentry : s.power.entry = some e) (htarget : e.target < 3 ∨ e.target = s.pwr) :
    execPstate s = .next ((((s.upTo e.at_).modPower (fun p => { p with entry := none })).pstateTake e.target).toCore 4
      ⟨6, 0, e.target⟩) := by
  simp only [execPstate, hentry, Bool.or_eq_true, decide_eq_true_eq, htarget, if_true]

/-- A new state starts with no step down of VCORE. -/
theorem State.pstateTake_clearsStep {target : Nat} (hnew : target ≠ s.pwr) :
    (s.pstateTake target).o Obj.PWR_PLAN_STEP = 0 := by
  rw [State.pstateTake, if_neg hnew, State.setO_o, if_pos rfl]

theorem execDozeEntry_dozes {e : Entry} (hentry : s.power.entry = some e) (htarget : e.target = 3) (hpwr : s.pwr ≠ 3) :
    execDozeEntry s = .next ((((s.dozeStop e.at_).setO Obj.PWR_STATE 3).setO Obj.PWR_VCORE_NOW ((s.dozeStop e.at_).planV 3)).setI
      16 Obj.PWR_BB_NOW ((s.dozeStop e.at_).planB 3)) := by
  simp only [execDozeEntry, hentry, htarget, hpwr, ne_eq, not_false_eq_true, decide_true, Bool.and_self, if_true]

theorem execHibernateEntry_hibernates {e : Entry} (hentry : s.power.entry = some e) (htarget : e.target = 4) (hpwr : s.pwr ≠ 4) :
    execHibernateEntry s = .next (((((s.hibStop e.at_).setO Obj.PWR_STATE 4).setO Obj.PWR_VCORE_NOW 0).setO Obj.PWR_BB_NOW 0).inc
      Obj.PWR_HIBS) := by
  simp only [execHibernateEntry, hentry, htarget, hpwr, ne_eq, not_false_eq_true, decide_true, Bool.and_self, if_true]

/-! ## Wake sources and waking (R548, R549, R550) -/

/-- A usable and enabled source becomes pending. -/
theorem State.wakeBy_pends {c : Nat} (hsleep : s.sleepState ≠ 0) (husable : wakeUsable s.sleepState c = true)
    (henabled : bitOf (s.wakeMask s.sleepState) (c - 1) = true) :
    s.wakeBy c = s.modPower (fun p => { p with
      wakes := if p.wakes.contains c then p.wakes else p.wakes ++ [c]
      wakeAt := if 3 ≤ s.pwr then some (p.wakeAt.getD s.now) else p.wakeAt }) := by
  refine if_pos ?_
  rw [decide_eq_true hsleep, husable, henabled]; rfl

/-- Only the two panel sources ask a panel. -/
theorem execWakeSource_wakes {c : Nat} (hpanel : 3 ≤ c ∨ s.panelWoke c = true) : execWakeSource c s = .next (s.wakeBy c) := by
  refine if_neg ?_
  obtain hc | hwoke := hpanel
  · rw [decide_eq_false (by omega), Bool.false_and]; exact Bool.false_ne_true
  · rw [hwoke, Bool.not_true, Bool.and_false]; exact Bool.false_ne_true

theorem execDozeWake_wakes {w : Instant} (hpwr : s.pwr = 3) (hwakes : s.power.wakes ≠ []) (hat : s.power.wakeAt = some w) :
    execDozeWake s = .next ((((s.dozeResume w s.power.wakes).portsWake).toCore 4 ⟨5, 0, wakeLow s.power.wakes⟩).raise 0x169 0
      (wakeBits s.power.wakes)) := by
  have hsome : s.power.wakes.isEmpty = false := List.isEmpty_eq_false_iff.mpr hwakes
  simp only [execDozeWake, hpwr, hsome, hat, decide_true, Bool.not_false, Bool.and_self, if_true, Option.getD_some]

theorem execHibernateWake_wakes {cycles : Nat} (hpwr : s.pwr = 4) (hwakes : s.power.wakes ≠ []) :
    execHibernateWake cycles s = .next
      (let u := s.hibAdvance (if s.power.xo32k then cycles else 0)
      (((u.mainReset 4).setO Obj.PWR_WAKE_SRC (wakeBits s.power.wakes)).setO Obj.PWR_WAKE_AT (tt64 u.now)).raise 0x169 0
        (wakeBits s.power.wakes)) := by
  have hsome : s.power.wakes.isEmpty = false := List.isEmpty_eq_false_iff.mpr hwakes
  simp only [execHibernateWake, hpwr, hsome, decide_true, Bool.not_false, Bool.and_self, if_true]

/-! ## Compass (R553, R554, R556) -/

theorem execPwrCpsSurveyCmd_asks (who : Fin 8) (v : Nat) :
    execPwrCpsSurveyCmd who v s = .next (if v = 1 then
      s.modPower (fun p => { p with surveyAsked := some (p.surveyAsked.getD s.now) })
      else s.dropped (windowAddr Obj.PWR_CPS_CMD) v who 3) := by
  unfold execPwrCpsSurveyCmd State.surveyCmd
  split <;> rfl

theorem execCompassSurvey_surveys (hdue : s.surveyDue = true) (hpwr : s.pwr ≤ 2) :
    execCompassSurvey s = .next
      (let u := (match s.power.surveyAsked with | some t => s.upTo (nextFrame t) | none => s).surveyTake
      u.raise 0x165 0 (u.o Obj.PWR_CPS_SURVEYS)) := by
  refine if_pos ?_
  rw [hdue, decide_eq_true hpwr]; rfl

end

/-- Settles O49: each clause is the branch of its command that its hypotheses select. -/
theorem powerStatesAreEnteredAndLeft : Obligations.PowerStatesAreEnteredAndLeft := by
  unfold Obligations.PowerStatesAreEnteredAndLeft
  refine ⟨fun s e => execPstate_takes, fun s target => State.pstateTake_clearsStep, ?dozes, ?hibernates, ?pends, ?wakes, ?resumes,
    ?_, fun s who v => execPwrCpsSurveyCmd_asks who v, ?_, ?plans, fun s r up => ⟨rfl, rfl, rfl⟩⟩
  case dozes =>
    rintro s u e hentry htarget hpwr rfl
    refine ⟨_, execDozeEntry_dozes hentry htarget hpwr, ?_, ?_, rfl⟩
    · rw [State.setI, State.setO_o, if_neg (by decide), State.setO_o, if_neg (by decide), State.setO_o, if_pos rfl]
    · rw [State.setI, State.setO_o, if_neg (by decide), State.setO_o, if_pos rfl]
  case hibernates =>
    rintro s u e hentry htarget hpwr rfl
    exact execHibernateEntry_hibernates hentry htarget hpwr
  case pends =>
    intro s c hpanel hsleep husable henabled
    exact (execWakeSource_wakes hpanel).trans (next_congr (State.wakeBy_pends hsleep husable henabled))
  case wakes =>
    rintro s u w ws hpwr rfl hwakes hat rfl
    exact execDozeWake_wakes hpwr hwakes hat
  case resumes =>
    rintro s u w ws rfl
    exact ⟨rfl, rfl⟩
  case plans =>
    rintro s lines l up rfl rfl
    rfl
  · rintro s u cycles ws hpwr rfl hwakes rfl
    exact execHibernateWake_wakes hpwr hwakes
  · rintro s u hdue hpwr rfl
    exact execCompassSurvey_surveys hdue hpwr

end Sys2Proof.Machine

/-! O44: the DRAM controller serves, patrols, trains, refreshes victims, retrains, panics and fences. -/
namespace Sys2Proof.Machine

section
variable {s : State} {k : Fin 2}

/-! ## Requests and the patrol (R435, R436, R441, R443) -/

theorem execDramRequest_serves {u : State} {arrived : List DramReq} {q : DramReq} (hon : s.dramOn = true) (hfence : s.fenceNear = false)
    (hu : u = arrived.foldl (fun (s : State) q => s.dramAccept q) s) (hpick : u.dramPick k (u.dramReady k) = some q) :
    execDramRequest k arrived s =
      .next ((u.modDram (fun d => { d with ptr := vmod d.ptr k (fun _ => (u.reqBank q + 1) % 8) })).dramServe k q) := by
  subst hu
  simp only [execDramRequest, hon, hfence, Bool.not_true, Bool.false_eq_true, if_false, hpick]

theorem execDramRequest_flushes {arrived : List DramReq} (hon : s.dramOn = true) (hfence : s.fenceNear = true) :
    execDramRequest k arrived s = .next s.dramFlush := by
  simp only [execDramRequest, hon, hfence, Bool.not_true, Bool.false_eq_true, if_false, if_true]

theorem execScrubRead_patrols (err : Nat) (hon : s.dramOn = true) :
    execScrubRead false err s = .next
      (let a := 0x80000000 + 64 * (s.dram.scrub % (s.o Obj.DRM_SIZE / 64))
      let u := s.modDram (fun d => { d with scrub := d.scrub + 1 })
      if u.unitClean a then u else ((u.touchRow a 15).dramCheck (asFin 2 (u.dramAt a).ch) a err).2) := by
  simp only [execScrubRead, hon, Bool.not_true, Bool.false_eq_true, if_false]
  split <;> rfl

theorem execScrubRead_fills {u : Nat} (err : Nat) (hon : s.dramOn = true)
    (hu : u = nextClean s.dram.dirty s.dram.dirty.length s.dram.fill) (hleft : u < s.unitTotal) :
    execScrubRead true err s = .next ((s.openRowAt (s.unitRow u).1 (s.unitRow u).2 15).modDram
      (fun d => { d with fill := u + 1, dirty := d.dirty.filter (fun x => decide (u < x)) })) := by
  subst hu
  simp only [execScrubRead, hon, Bool.not_true, Bool.false_eq_true, if_false, if_true, hleft]

/-! ## Training (R439) -/

theorem execDramInit_starts (hoff : s.o Obj.DRM_STATE = 0) (hpwr : s.pwr ≤ 2)
    (hchans : s.o (Obj.DRM_CHc_STATE 0) ≠ 2 ∨ s.o (Obj.DRM_CHc_STATE 1) ≠ 2) :
    execDramInit s = .next
      (((((s.setO Obj.DRM_STATE 1).setO Obj.DRM_GRAIN_NOW (s.o Obj.DRM_GRAIN)).setO (Obj.DRM_CHc_STATE 0) 0).setO
        (Obj.DRM_CHc_STATE 1) 0).setO Obj.DRM_SIZE 0x38000000) := by
  have hsome : (s.o (Obj.DRM_CHc_STATE 0) == 2 && s.o (Obj.DRM_CHc_STATE 1) == 2) = false := by
    rw [Bool.and_eq_false_iff, beq_eq_false_iff_ne, beq_eq_false_iff_ne]
    exact hchans
  simp only [execDramInit, hoff, hpwr, hsome, decide_true, Bool.not_false, Bool.and_self, if_true]

theorem execDramReady_trains (htraining : s.o Obj.DRM_STATE = 1) :
    execDramReady s = .next ((s.dramBlank.setO Obj.DRM_STATE 2).modDram (fun d => { d with
      began := #v[s.now / superT, s.now / superT], round := Vector.replicate 2 none, wakeDue := Vector.replicate 2 false })) := by
  simp only [execDramReady, htraining, if_true]

/-! ## Rows, panics and refreshes (R446, R447, R449, R459) -/

theorem execRhVictimRefresh_refreshes {v : Victim} {l : List Victim} (hdue : s.dram.due = v :: l) :
    execRhVictimRefresh s = .next (s.victimRefresh v) := by
  simp only [execRhVictimRefresh, hdue]

/-- The panic of slice port `n` set to `x`. -/
def State.setPanic (s : State) (n : Fin 4) (x : Bool) : State :=
  s.modDram (fun d => { d with panic := vmod d.panic n (fun _ => x) })

/-- A panic of a slice port ends 1024 below its threshold and begins at it, or on a wait. -/
theorem execDramPanic_judges {u : State} {n : Fin 4} {level lv : Nat} (waited : Bool) (hlv : lv = min level 4096)
    (hu : u = (s.setO (Obj.DRM_RTn_LEVEL n) lv).setO (Obj.DRM_RTn_MAXLEVEL n) (max lv (s.o (Obj.DRM_RTn_MAXLEVEL n)))) :
    execDramPanic n level waited s = .next (
      if u.dram.panic[n] then (if !waited && lv + 1024 < u.o (Obj.DRM_RTn_PANIC n) then u.setPanic n false else u)
      else if waited || u.o (Obj.DRM_RTn_PANIC n) ≤ lv then (u.setPanic n true).inc (Obj.DRM_RTn_PANICS n) else u) := by
  simp only [execDramPanic, ← hlv, ← hu, State.setPanic]
  split
  · rfl
  · split <;> rfl

theorem execDrmRtnMaxlevelReset_writes (who : Fin 8) (n : Fin 4) (v : Nat) :
    execDrmRtnMaxlevelReset who n v s = .next (if v = 0 then s.setO (Obj.DRM_RTn_MAXLEVEL n) 0
      else s.dropped (windowAddr (Obj.DRM_RTn_MAXLEVEL n)) v who 3) := by
  unfold execDrmRtnMaxlevelReset State.maxlevelWrite
  split <;> rfl

theorem execDramRefresh_refreshes {bank : Fin 8} {base : Nat} (hon : s.dramOn = true) (hchan : s.o (Obj.DRM_CHc_STATE k) ≠ 2) :
    execDramRefresh k bank base s = .next ((s.modDram (fun d => { d with
      tempInt := vmod d.tempInt k (fun _ => base)
      openRow := vmod d.openRow (asFin 16 (8 * k.val + bank.val)) (fun _ => none) })).refInt k) := by
  refine if_pos ?_
  rw [hon, decide_eq_true hchan]; rfl

/-! ## Retraining in the gap (R450, R451) -/

/-- The state at the gap of the frame: the gap is taken and both channels have their first temperature. -/
def State.gapTaken (s : State) (temp0 temp1 : Int) : State :=
  (((s.upTo (frameStart s.now + 383924)).modDram (fun d => { d with gapAt := some (frameStart s.now + 383924) })).tempFirst 0
    temp0).tempFirst 1 temp1

/-- A channel with no round open begins one. -/
def State.roundBegun (u : State) (k : Fin 2) (temp0 temp1 : Int) : State :=
  if u.dram.round[k].isSome then u
  else u.modDram (fun d => { d with
    round := vmod d.round k (fun _ => some 0), roundBad := vmod d.roundBad k (fun _ => false)
    began := vmod d.began k (fun _ => u.now / superT), wakeDue := vmod d.wakeDue k (fun _ => false)
    temp := vmod d.temp k (fun _ => some (if k = 0 then temp0 else temp1)), lastRound := k.val })

theorem execDramRetrainPause_steps {u v : State} {eye : Option Nat} {temp0 temp1 : Int} (hon : s.dramOn = true)
    (hgap : s.dram.gapAt ≠ some (frameStart s.now + 383924)) (hnow : s.now ≤ frameStart s.now + 383924)
    (hu : u = s.gapTaken temp0 temp1) (hchan : u.roundChan (u.dramMoved 0 temp0) (u.dramMoved 1 temp1) = some k)
    (hv : v = u.roundBegun k temp0 temp1) (hfree : v.gapFree = true) :
    execDramRetrainPause eye temp0 temp1 s = .next
      (let step := u.dram.round[k].getD 0
      let w := (v.inc (Obj.DRM_CHc_PAUSES k)).retrainStep k step eye
      if step = 15 then w.roundEnd k else w.modDram (fun d => { d with round := vmod d.round k (fun _ => some (step + 1)) })) := by
  rw [State.gapTaken] at hu
  rw [State.roundBegun] at hv
  simp only [execDramRetrainPause, hon, hgap, Nat.not_lt.mpr hnow, decide_false, Bool.not_true, Bool.or_self, Bool.false_eq_true,
    if_false, ← hu, hchan, ← hv, hfree]
  split <;> rfl

theorem execDramRetrainPause_taken {eye : Option Nat} {temp0 temp1 : Int}
    (hgap : s.dram.gapAt = some (frameStart s.now + 383924)) : execDramRetrainPause eye temp0 temp1 s = .next s := by
  simp only [execDramRetrainPause, hgap, decide_true, Bool.or_true, Bool.true_or, if_true]

/-! ## Fences (R453) -/

theorem execDramFenceCheck_plans (hon : s.dramOn = true) (hframe : frameOf s.now = 0) :
    execDramFenceCheck s = .next
      (let due := fin2.filter (fun (k : Fin 2) => s.o (Obj.DRM_CHc_STATE k) == 1 &&
        decide (s.o (Obj.DRM_CHc_FENCE_CE k) ≤ s.o (Obj.DRM_CHc_CE_SF k)) && !(s.dram.fenceDue.any (fun p => p.1 == k.val)))
      s.modDram (fun d => { d with fenceDue := d.fenceDue ++ due.map (fun (k : Fin 2) => (k.val, nextFrame s.now)) })) := by
  simp only [execDramFenceCheck, hon, hframe, decide_true, Bool.and_self, if_true]

theorem execDramFenced_fences {p : Nat} {t : Instant} (hdue : s.dram.fenceDue.find? (fun x => x.1 == k.val) = some (p, t)) :
    execDramFenced k s = .next (((s.upTo t).modDram
      (fun d => { d with fenceDue := d.fenceDue.filter (fun x => x.1 != k.val) })).fence k) := by
  simp only [execDramFenced, hdue]

theorem execDramFenced_none (hdue : s.dram.fenceDue.find? (fun x => x.1 == k.val) = none) : execDramFenced k s = .next s := by
  simp only [execDramFenced, hdue]

end

/-- Settles O44: each clause is the branch of its command that its hypotheses select. -/
theorem dramServesPatrolsRetrainsAndFences : Obligations.DramServesPatrolsRetrainsAndFences := by
  unfold Obligations.DramServesPatrolsRetrainsAndFences
  refine ⟨?serves, fun s k arrived => execDramRequest_flushes, ?patrols, fun s err u => execScrubRead_fills err, ?trains,
    fun s => execDramReady_trains, fun s v l => execRhVictimRefresh_refreshes, fun s => rfl, ?panics,
    fun s who n v => execDrmRtnMaxlevelReset_writes who n v, fun s k bank base => execDramRefresh_refreshes, ?retrains,
    fun s eye temp0 temp1 => execDramRetrainPause_taken, ?plans, ?fences, fun s c => execDramFenced_none⟩
  case serves =>
    rintro s u v k arrived q hon hfence hu hpick rfl
    exact execDramRequest_serves hon hfence hu hpick
  case patrols =>
    rintro s u err a hon rfl rfl
    exact execScrubRead_patrols err hon
  case trains =>
    rintro s u hoff hpwr hchans rfl
    exact execDramInit_starts hoff hpwr hchans
  case panics =>
    intro s u n level lv waited hlv hu
    exact ⟨u.setPanic n, fun _ => rfl, execDramPanic_judges waited hlv hu⟩
  case retrains =>
    rintro s u v w eye temp0 temp1 k step hon hgap hnow hu hchan rfl hv hfree rfl
    exact execDramRetrainPause_steps hon hgap hnow hu hchan hv hfree
  case plans =>
    rintro s due hon hframe rfl
    exact execDramFenceCheck_plans hon hframe
  case fences =>
    rintro s u c k t hdue rfl
    exact execDramFenced_fences hdue

end Sys2Proof.Machine

/-! O46: a port takes frames, answers solicitations and echoes, and its link comes and goes. -/
namespace Sys2Proof.Machine

section
variable {s : State} {p : Fin 2}

/-! ## Frames (R490) -/

theorem execEthFrameRx_takes (frame : Bytes) (hlink : s.o (Obj.COM_Tp_LINK p) ≠ 0) (hpwr : s.pwr ≠ 3) :
    execEthFrameRx p frame true s = .next ((s.inc (Obj.COM_Tp_RX_FRAMES p)).frameTake p frame) := by
  have hawake : (s.inc (Obj.COM_Tp_RX_FRAMES p)).pwr ≠ 3 := by
    have hkey : ∀ q : Fin 2, Obj.PWR_STATE ≠ Obj.COM_Tp_RX_FRAMES q := by decide
    rw [State.pwr, State.inc_o, if_neg (hkey p)]
    exact hpwr
  simp only [execEthFrameRx, hlink, hawake, decide_false, Bool.false_and, Bool.not_true, Bool.false_eq_true, if_false]

theorem execEthFrameRx_counts (frame : Bytes) (hlink : s.o (Obj.COM_Tp_LINK p) ≠ 0) :
    execEthFrameRx p frame false s = .next (s.inc (Obj.COM_Tp_RX_FCS p)) := by
  simp only [execEthFrameRx, hlink, Bool.not_false, if_false, if_true]

/-! ## Solicitations and echoes (R491, R493) -/

theorem execNeighborSolicitationRx_advertises {u v : State} {k : Bytes} (hnext : s.icmpNext p 135 = (some k, u))
    (hhops : fieldN k 7 1 = 255)
    (hv : v = if fieldN k 64 1 = 1 && 72 ≤ k.length then
        (u.inc (Obj.COM_Tp_ND_RX p)).learn p (sliceB k 8 16) (sliceB k 66 6) else u.inc (Obj.COM_Tp_ND_RX p))
    (howns : v.ownsAddr p (sliceB k 48 16) = true) :
    execNeighborSolicitationRx p s = .next (v.ndSend p (sliceB k 48 16)
      (if zeroB (sliceB k 8 16) then allNodes else sliceB k 8 16) 136
      ([if zeroB (sliceB k 8 16) then 0x20 else 0x60, 0, 0, 0] ++ sliceB k 48 16 ++ [2, 1] ++ v.macOf p)) := by
  simp only [execNeighborSolicitationRx, hnext, hhops, ne_eq, not_true_eq_false, if_false, ← hv, howns, if_true]

theorem execEchoRequestRx_echoes {u : State} {k hop : Bytes} (hnext : s.icmpNext p 128 = (some k, u))
    (hecho : u.ob (Obj.COM_Tp_ECHO p) = true) (hhop : u.nextHop p (sliceB k 8 16) = some hop) :
    execEchoRequestRx p s = .next
      (let me := if u.ownsAddr p (sliceB k 24 16) then sliceB k 24 16 else u.srcAddr p (sliceB k 8 16)
      u.portSend p (.icmp (sliceB k 8 16) (icmpMsg me (sliceB k 8 16) 129 (k.drop 44)))) := by
  simp only [execEchoRequestRx, hnext, hecho, hhop, Bool.not_true, Bool.false_eq_true, if_false]

/-! ## The link comes and goes (R492) -/

/-- The port's own registers at a link that came up. -/
def State.linkShown (s : State) (p : Fin 2) (level sqi : Nat) (reversed : Bool) : State :=
  ((((s.setO (Obj.COM_Tp_LINK p) level).setO (Obj.COM_Tp_SQI p) (min 7 sqi)).setO (Obj.COM_Tp_POL p) (b2n reversed)).inc
    (Obj.COM_Tp_UPS p)).setO (Obj.COM_Tp_UP_SINCE p) (tt64 s.now)

/-- Its addresses become tentative for 1 s from `now` and its neighbors are forgotten. -/
def State.addrsTentative (s : State) (p : Fin 2) (now : Instant) : State :=
  (s.setO (Obj.COM_Tp_DAD p) 0).modPort p (fun x => { x with tentative := now + 38400000, nbrs := [] })

/-- A solicitation for each own address. -/
def State.addrsAsked (v : State) (p : Fin 2) : State :=
  (v.llAddr p :: (if zeroB (v.staticAddr p) then [] else [v.staticAddr p])).foldl
    (fun (t : State) a => t.ndSend p (List.replicate 16 0) (solicited a) 135 (List.replicate 4 0 ++ a)) v

theorem execLinkUp_comesUp {level sqi : Nat} {reversed : Bool} (henable : s.ob (Obj.COM_Tp_ENABLE p) = true) (hpwr : s.pwr < 4)
    (hlevel : level = 1 ∨ level = 2) (hampl : s.o (Obj.COM_Tp_AMPL p) = 0 ∨ s.o (Obj.COM_Tp_AMPL p) = level)
    (hdown : s.o (Obj.COM_Tp_LINK p) = 0) :
    execLinkUp p level sqi reversed s = .next
      (((((s.linkShown p level sqi reversed).addrsTentative p s.now).addrsAsked p).setO (Obj.FAB_Wp_STATE p) 1).raise 0x150 p level) := by
  have hfits : ((level == 1 || level == 2) &&
      (s.o (Obj.COM_Tp_AMPL p) == 0 || s.o (Obj.COM_Tp_AMPL p) == level)) = true := by
    simp only [Bool.and_eq_true, Bool.or_eq_true, beq_iff_eq]
    exact ⟨hlevel, hampl⟩
  have hnew : (0 : Nat) ≠ level := by omega
  simp only [execLinkUp, henable, Nat.not_le.mpr hpwr, hfits, hdown, hnew, decide_false, Bool.not_true, Bool.or_self,
    Bool.false_eq_true, if_false, if_true, State.inc_now, State.setO_now]
  rfl

/-- A link that stood closes its sessions, gives back its messages and forgets its peer. -/
theorem State.linkDown_goesDown {u v w : State} (hlink : s.o (Obj.COM_Tp_LINK p) ≠ 0)
    (hu : u = (s.setO (Obj.COM_Tp_LINK p) 0).inc (Obj.COM_Tp_DOWNS p))
    (hv : v = fin8.foldl (fun (t : State) (x : Fin 8) =>
      if t.o (Obj.COM_Ss_STATE x) ≠ 0 && t.o (Obj.COM_Ss_PORT x) = p.val then t.sessClose x 2 else t) u)
    (hw : w = (((v.com.inbox.filter (fun m => m.port == p.val)).foldl (fun (t : State) m => t.returnCells 4 m.cells) v).modCom
      (fun k => { k with inbox := k.inbox.filter (fun m => m.port != p.val) })).modPort p
        (fun x => { x with icmp := [], nbrs := [], held := [], after := [] })) :
    s.linkDown p = (((w.wireStepsDown p).peerGone p).setO (Obj.FAB_Wp_STATE p) 0).raise 0x151 p 0 := by
  rw [State.linkDown, if_neg hlink]
  dsimp only
  rw [← hu, ← hv, ← hw]

end

/-- Settles O46: each clause is the branch of its command that its hypotheses select. -/
theorem portsTakeFramesAndLinksComeAndGo : Obligations.PortsTakeFramesAndLinksComeAndGo := by
  unfold Obligations.PortsTakeFramesAndLinksComeAndGo
  refine ⟨fun s p frame => execEthFrameRx_takes frame, fun s p frame => execEthFrameRx_counts frame, ?solicited, ?echoed, ?up, ?down⟩
  case solicited =>
    rintro s u v p k dst hnext hhops hv howns rfl
    exact execNeighborSolicitationRx_advertises hnext hhops hv howns
  case echoed =>
    rintro s u p k me hop hnext hecho rfl hhop
    exact execEchoRequestRx_echoes hnext hecho hhop
  case up =>
    rintro s u u2 v w p level sqi reversed own henable hpwr hlevel hampl hdown rfl rfl rfl rfl rfl
    exact execLinkUp_comesUp henable hpwr hlevel hampl hdown
  case down =>
    intro s u v w p hlink hu hv hw
    exact next_congr (State.linkDown_goesDown hlink hu hv hw)

end Sys2Proof.Machine

/-! O47: HSPI obeys its registers; pins keep latches, raise events and are driven at armed instants. -/
namespace Sys2Proof.Machine

section
variable {s : State}

/-! ## HSPI (R496, R497, R498) -/

theorem execHspiStatus_answers (ready : Bool) (hboot : s.boot.recovery = false) (henable : s.ob Obj.COM_H_ENABLE = true) :
    execHspiStatus ready s = .next { s.hspiShow with
      rdata := s.hspiShow.o Obj.COM_H_WAITING + 65536 * b2n (s.hspiShow.hspiReady ready) +
        131072 * b2n (!s.hspiShow.com.hspiDbg.isEmpty) } := by
  simp only [execHspiStatus, hboot, henable, Bool.not_true, Bool.false_eq_true, if_false]

section
variable {data : Bytes} {crc : Nat} {take : State → State}

/-- A whole message of 4 to 1,024 bytes with its CRC is taken. -/
theorem State.hspiTake_takes (hclock : s.sysclk = true) (hlow : 4 ≤ data.length) (hhigh : data.length ≤ 1024)
    (hcrc : crc = crc32 data) : s.hspiTake data crc false true take = take s := by
  simp only [State.hspiTake, State.hspiReady, hclock, Nat.not_lt.mpr hlow, Nat.not_lt.mpr hhigh, hcrc, ne_eq, not_true_eq_false,
    decide_false, Bool.and_self, Bool.not_true, Bool.or_self, Bool.false_eq_true, if_false]

/-- One of a wrong length or CRC is counted. -/
theorem State.hspiTake_counts (hclock : s.sysclk = true) (hbad : data.length < 4 ∨ 1024 < data.length ∨ crc ≠ crc32 data) :
    s.hspiTake data crc false true take = s.inc Obj.COM_H_CRC_ERR := by
  have hwrong : (decide (data.length < 4) || decide (1024 < data.length) || decide (crc ≠ crc32 data)) = true := by
    rw [Bool.or_eq_true, Bool.or_eq_true, decide_eq_true_eq, decide_eq_true_eq, decide_eq_true_eq, or_assoc]
    exact hbad
  simp only [State.hspiTake, State.hspiReady, hclock, Bool.and_self, Bool.not_true, Bool.false_eq_true, if_false]
  exact if_pos hwrong

theorem execHspiWrite_hands (cut ready : Bool) (hboot : s.boot.recovery = false) (henable : s.ob Obj.COM_H_ENABLE = true) :
    execHspiWrite data crc cut ready s = .next (s.hspiTake data crc cut ready (fun s =>
      (s.inc Obj.COM_H_RX_MSG).modCom (fun x => { x with inbox := x.inbox ++ [{ port := 2, peer := [], data := data }] }))) := by
  simp only [execHspiWrite, hboot, henable, Bool.not_true, Bool.or_self, Bool.false_eq_true, if_false]

theorem execHspiDbgWrite_queues (hboot : s.boot.recovery = false) (hclock : s.sysclk = true) (hlow : 4 ≤ data.length)
    (hhigh : data.length ≤ 1024) (hcrc : crc = crc32 data) :
    execHspiDbgWrite data crc false true s = .next ((s.inc Obj.COM_H_DBG_MSG).modCom (fun x => { x with
      requests := x.requests ++ [⟨.debug, ⟨fieldN data 0 1, fieldN data 1 1, (data.drop 4).take (fieldN data 2 2)⟩⟩] })) := by
  simp only [execHspiDbgWrite, hboot, Bool.false_eq_true, if_false, State.hspiTake_takes hclock hlow hhigh hcrc]

end

/-- A message leaves the queue only when it was read whole. -/
theorem execHspiRead_reads {d : Bytes} {l : List Bytes} (cut : Bool) (hboot : s.boot.recovery = false)
    (henable : s.ob Obj.COM_H_ENABLE = true) (hout : s.com.hspiOut = d :: l) :
    execHspiRead cut s = .next
      (let u : State := { s with rbytes := leBytes 2 d.length ++ d ++ leBytes 4 (crc32 d) }
      if cut then u else ((u.modCom (fun x => { x with hspiOut := l })).inc Obj.COM_H_TX_MSG).hspiShow) := by
  have hrest : ({ s with rbytes := leBytes 2 d.length ++ d ++ leBytes 4 (crc32 d) } : State).modCom
      (fun x => { x with hspiOut := x.hspiOut.drop 1 }) =
      ({ s with rbytes := leBytes 2 d.length ++ d ++ leBytes 4 (crc32 d) } : State).modCom (fun x => { x with hspiOut := l }) := by
    simp only [State.modCom, hout, List.drop_one, List.tail_cons]
  simp only [execHspiRead, hboot, henable, hout, hspiFrame, List.isEmpty_cons, Bool.not_true, Bool.or_false, Bool.or_self,
    Bool.false_eq_true, if_false, hrest]
  split <;> rfl

theorem execHspiDbgRead_reads (cut : Bool) (hboot : s.boot.recovery = false) :
    execHspiDbgRead cut s = .next
      (let u : State := { s with rbytes := hspiFrame s.com.hspiDbg }
      if cut || s.com.hspiDbg.isEmpty then u else u.modCom (fun x => { x with hspiDbg := x.hspiDbg.drop 1 })) := by
  simp only [execHspiDbgRead, hboot, Bool.false_eq_true, if_false]
  split <;> rfl

/-! ## Pins (R535, R536) -/

theorem execGpioEdge_takes {p : Fin 16} {level : Bool} (hedge : bitOf (s.o Obj.GIO_IN) p ≠ level) :
    execGpioEdge p level s = .next
      (let u := (s.setO Obj.GIO_IN (setBit (s.o Obj.GIO_IN) p level)).tcGpio p level
      if fld (u.o (Obj.GIO_p_CFG p)) 1 0 = 0 && bitOf (fld (u.o (Obj.GIO_p_CFG p)) 5 4) (if level then 0 else 1) then
        (u.inc Obj.GIO_EDGES).raise 0x156 p (b2n level)
      else u) := by
  simp only [execGpioEdge, beq_eq_false_iff_ne.mpr hedge, Bool.false_eq_true, if_false]
  exact (apply_ite _ _ _ _).symm

/-- A write of a latch register is taken when its upper half is clear. -/
theorem State.gioWrite_getD (f : Nat → Nat → Nat) (v : Nat) (t : State) :
    (s.gioWrite f v).getD t = if v < 65536 then s.setO Obj.GIO_OUT (f (s.o Obj.GIO_OUT) v) else t := by
  unfold State.gioWrite
  split <;> rfl

theorem State.gioAt_getD (p v : Nat) (t : State) :
    (s.gioAt p v).getD t = if v = 0 then s.setO (Obj.GIO_p_AT p) 0
      else if ttValid v && s.now < linear v then s.setO (Obj.GIO_p_AT p) v else t := by
  unfold State.gioAt
  split
  · rfl
  · split <;> rfl

theorem execGpioTimedDrive_drives {p : Fin 16} (harmed : s.o (Obj.GIO_p_AT p) ≠ 0) :
    execGpioTimedDrive p s = .next
      (let u := (s.upTo (linear (s.o (Obj.GIO_p_AT p)))).setO (Obj.GIO_p_AT p) 0
      if u.sysclk then (u.latch p (u.ob (Obj.GIO_p_AT_LEVEL p))).inc Obj.GIO_TIMED_DONE else u.inc Obj.GIO_TIMED_LATE) := by
  simp only [execGpioTimedDrive, harmed, if_false]
  split <;> rfl

end

/-- Settles O47: each clause is the branch of its command that its hypotheses select. -/
theorem hostLinkAndPinsObeyTheirRegisters : Obligations.HostLinkAndPinsObeyTheirRegisters := by
  unfold Obligations.HostLinkAndPinsObeyTheirRegisters
  refine ⟨fun s ready => execHspiStatus_answers ready, ?taken, ?refused, ?reads, fun s data crc => execHspiDbgWrite_queues, ?debugs,
    ?edges, ?latches, fun s who p v => next_congr (State.gioAt_getD p v _), ?drives⟩
  case taken =>
    intro s data crc hboot henable hclock hlow hhigh hcrc
    exact (execHspiWrite_hands false true hboot henable).trans (next_congr (State.hspiTake_takes hclock hlow hhigh hcrc))
  case refused =>
    intro s data crc hboot henable hclock hbad
    refine ⟨?_, execHspiWrite_hands true true hboot henable, execHspiWrite_hands false false hboot henable⟩
    exact (execHspiWrite_hands false true hboot henable).trans (next_congr (State.hspiTake_counts hclock hbad))
  case reads =>
    rintro s u d l hboot henable hout rfl
    exact ⟨execHspiRead_reads false hboot henable hout, execHspiRead_reads true hboot henable hout⟩
  case debugs =>
    rintro s u cut hboot rfl
    exact execHspiDbgRead_reads cut hboot
  case edges =>
    rintro s u p level hedge rfl
    exact execGpioEdge_takes hedge
  case latches =>
    exact fun s who v => ⟨next_congr (State.gioWrite_getD gioSet v _), next_congr (State.gioWrite_getD gioClr v _),
      next_congr (State.gioWrite_getD gioTog v _)⟩
  case drives =>
    rintro s u p harmed rfl
    exact execGpioTimedDrive_drives harmed

end Sys2Proof.Machine

/-! O34: sessions open, time out and close. -/
namespace Sys2Proof.Machine

section
variable {s : State} {m : SopIn} {l : List SopIn} {x : Fin 8}

/-! ## OPEN_REQ, OPEN_FIN and secured messages (R511, R512, R513) -/

theorem execOpenReq_judges (hin : s.delivers 1 m l = true) :
    execOpenReq s = .next (
      if openFormOk (sopBody m.data) then
        match (s.received m l).freeSession with
        | none => (s.received m l).openRefuse m 1
        | some x =>
          match (s.received m l).openKey x (sopBody m.data) with
          | none => (s.received m l).openRefuse m 1
          | some (dn, deph, u) => u.openSession m x dn deph
      else (s.received m l).openRefuse m 2) := by
  refine next_congr ((State.takeIn_delivers hin).trans ?_)
  cases openFormOk (sopBody m.data) with
  | true => rfl
  | false => rfl

theorem execOpenFin_judges (hin : s.delivers 3 m l = true) (hlen : m.data.length = 88) (hseq : fieldN m.data 4 4 = 0)
    (hx : x = asFin 8 (fieldN m.data 2 1)) :
    execOpenFin s = .next (
      match (s.received m l).sopUnseal x m.data with
      | none => (s.received m l).inc Obj.COM_RX_DROP
      | some sig =>
        if (s.received m l).com.sessions[x].wantLevel ≤ (s.received m l).authGrant x sig then (s.received m l).openDone x
        else (((s.received m l).freeHandlers x).sessFree x).inc Obj.COM_AUTH_FAILS) := by
  subst hx
  refine next_congr ((State.takeIn_delivers hin).trans ?_)
  simp only [hlen, hseq, ne_eq, not_true_eq_false, decide_false, Bool.or_self, Bool.false_eq_true, if_false] <;> rfl

theorem execSecuredRx_judges (hin : s.delivers 4 m l = true) (hx : x = asFin 8 (fieldN m.data 2 1)) :
    execSecuredRx s = .next (
      match (s.received m l).sopUnseal x m.data with
      | none => (s.received m l).inc Obj.COM_RX_DROP
      | some b =>
        match (s.received m l).com.sessions[x].accept (fieldN m.data 4 4) (s.received m l).now with
        | none => (s.received m l).inc Obj.COM_RX_DROP
        | some q => ((((s.received m l).modSess x (fun _ => q)).inc Obj.COM_RX_MSG).inc (Obj.COM_Ss_RX x)).sopArrived x b) := by
  subst hx
  exact next_congr (State.takeIn_delivers hin)

/-! ## A session ends (R514) -/

/-- An open session is freed, counted off and reported. -/
theorem State.sessClose_open (reason : Nat) (hopen : s.o (Obj.COM_Ss_STATE x) = 2) :
    s.sessClose x reason = (let u := (s.freeHandlers x).sessFree x
      (u.setO Obj.COM_SESS_OPEN (u.o Obj.COM_SESS_OPEN - 1)).raise 0x154 x reason) := by
  have htwo : ¬ (2 = 0) := by decide
  simp only [State.sessClose, hopen, if_true, if_neg htwo]

theorem execSessionOpenTimeout_frees (hopening : s.o (Obj.COM_Ss_STATE x) = 1) :
    execSessionOpenTimeout x s =
      .next ((((s.upTo s.com.sessions[x].finBy).freeHandlers x).sessFree x).inc Obj.COM_AUTH_FAILS) :=
  if_neg (not_not_intro hopening)

theorem execSessionIdleTimeout_closes (hopen : s.o (Obj.COM_Ss_STATE x) = 2) :
    execSessionIdleTimeout x s =
      .next ((s.upTo (s.com.sessions[x].seen + s.o Obj.COM_IDLE_LIMIT * superT)).sessClose x 1) :=
  if_neg (not_not_intro hopen)

/-- A CLOSE that is served closes its own session. -/
theorem execClose_closes {tag : Nat} {p : Bytes} {q : List SopReq} (hoffer : s.offers (.session x) 0x0A tag p q = true) :
    execClose s = .next ((s.served q).sessClose x 0) :=
  next_congr (State.sopServe_offers hoffer)

end

/-- Settles O34: what the engine takes in front is judged by its kind, and each end of a session frees it. -/
theorem sessionsOpenAndClose : Obligations.SessionsOpenAndClose := by
  unfold Obligations.SessionsOpenAndClose
  refine ⟨fun s m l => execOpenReq_judges, ?opened, ?secured, fun s x => execSessionOpenTimeout_frees, ?idle, ?closed, ?asked⟩
  case opened => exact fun s m l hin hlen hseq => execOpenFin_judges hin hlen hseq rfl
  case secured => exact fun s m l hin => execSecuredRx_judges hin rfl
  case idle =>
    intro s x hopen
    exact (execSessionIdleTimeout_closes hopen).trans (next_congr (State.sessClose_open 1 hopen))
  case closed => exact fun s x hopen => next_congr (State.sessClose_open 3 hopen)
  case asked =>
    intro s x tag p l hoffer hopen
    exact (execClose_closes hoffer).trans (next_congr (State.sessClose_open 0 hopen))

end Sys2Proof.Machine

/-! O35: the request in front of the SOP engine is served. -/
namespace Sys2Proof.Machine

section
variable {s : State} {w : Writer} {tag : Nat} {p : Bytes} {l : List SopReq}

/-! ## READ and WRITE (R515, R516, R517) -/

/-- A value that is no blob is read whole. -/
theorem State.readHere_whole {t : State} {v : Bytes} {k : Key} {staged : Bool} {cap : Nat}
    (hobj : objIs k (fun x => !x.ty.blob) = true) (hvalue : s.valueFor w k staged = some (t, v)) (hcap : v.length ≤ cap)
    (hroom : v.length ≤ 981) :
    s.readHere w tag k staged 0 cap = t.respond w 1 tag (keyBytes k ++ leBytes 1 (typeCode k) ++ [0] ++ leBytes 4 v.length ++
      leBytes 4 0 ++ leBytes 2 v.length ++ v) := by
  obtain ⟨-, -, x, q, hrow, hx⟩ := objIs_row hobj
  have hblob : x.ty.blob = false := by simpa using hx
  simp only [State.readHere, hvalue, hrow, hblob, List.drop_zero, List.take_of_length_le hcap, Nat.not_lt.mpr hcap,
    Nat.not_lt.mpr hroom, ne_eq, not_true_eq_false, decide_false, Bool.or_self, Bool.and_false, Bool.false_eq_true, if_false]

theorem execRead_responds {t : State} {v : Bytes} (hoffer : s.offers w 1 tag p l = true) (hlen : p.length = 10)
    (hgate : (s.served l).gate w (payKey p) false = none) (hobj : objIs (payKey p) (fun x => !x.ty.blob) = true)
    (hvalue : (s.served l).valueFor w (payKey p) (bitOf (fieldN p 3 1) 0) = some (t, v)) (hoff : fieldN p 4 4 = 0)
    (hcap : v.length ≤ fieldN p 8 2) (hroom : v.length ≤ 981) :
    execRead s = .next (t.respond w 1 tag (keyBytes (payKey p) ++ leBytes 1 (typeCode (payKey p)) ++ [0] ++ leBytes 4 v.length ++
      leBytes 4 0 ++ leBytes 2 v.length ++ v)) := by
  obtain ⟨hfw, -⟩ := objIs_row hobj
  refine next_congr ((State.sopServe_offers hoffer).trans ?_)
  simp only [hlen, ne_eq, not_true_eq_false, if_false, hgate, hfw, Bool.false_eq_true, hoff,
    State.readHere_whole hobj hvalue hcap hroom]

theorem execRead_asks (hoffer : s.offers w 1 tag p l = true) (hlen : p.length = 10)
    (hgate : (s.served l).gate w (payKey p) false = none) (hfw : firmwareBacked (payKey p) = true) :
    execRead s = .next ((s.served l).ask w tag { op := 1, key := payKey p, off := fieldN p 4 4, len := fieldN p 8 2 }) := by
  refine next_congr ((State.sopServe_offers hoffer).trans ?_)
  simp only [hlen, ne_eq, not_true_eq_false, if_false, hgate, hfw, if_true]

theorem execRead_badLength (hoffer : s.offers w 1 tag p l = true) (hlen : p.length ≠ 10) :
    execRead s = .next ((s.served l).abortTo w tag (payKey p) 0x0D) :=
  next_congr ((State.sopServe_offers hoffer).trans (if_pos hlen))

/-- A value that a number object takes is written and answered; SHL_CMD is answered when its work is done. -/
theorem State.writeHere_takes {t : State} {k : Key} {b : Bytes} (hobj : objIs k (fun x => !x.ty.blob) = true)
    (hput : s.hostPut w k (.num (leNat b)) = (t, 0)) :
    s.writeHere w tag k b = if k = Obj.SHL_CMD then t.shellAsked w tag (s.shell.running.isSome || t.shell.running.isNone)
      else t.respond w 2 tag (keyBytes k) := by
  obtain ⟨-, -, x, q, hrow, hx⟩ := objIs_row hobj
  have hblob : x.ty.blob = false := by simpa using hx
  simp only [State.writeHere, hrow, hblob, Bool.false_eq_true, if_false, hput]

theorem execWrite_writes {t : State} (hoffer : s.offers w 2 tag p l = true) (hlen : p.length = 14 + fieldN p 12 2)
    (hgate : (s.served l).gate w (payKey p) true = none)
    (hobj : objIs (payKey p) (fun x => !x.ty.blob && x.ty.size == fieldN p 4 4) = true) (hoff : fieldN p 8 4 = 0)
    (hwhole : fieldN p 12 2 = fieldN p 4 4) (hput : (s.served l).hostPut w (payKey p) (.num (leNat (p.drop 14))) = (t, 0)) :
    execWrite s = .next (if payKey p = Obj.SHL_CMD then
        t.shellAsked w tag ((s.served l).shell.running.isSome || t.shell.running.isNone)
      else t.respond w 2 tag (keyBytes (payKey p))) := by
  obtain ⟨hfw, hshell, x, q, hrow, hx⟩ := objIs_row hobj
  obtain ⟨hblob, hsize⟩ : x.ty.blob = false ∧ x.ty.size = fieldN p 4 4 := by simpa using hx
  have hnum : objIs (payKey p) (fun x => !x.ty.blob) = true := by
    simp only [objIs, hfw, bne_iff_ne.mpr hshell, hrow, hblob, Bool.not_false, Bool.and_self]
  have hok : sizeOk (payKey p) (fieldN p 4 4) = true := by
    simp only [sizeOk, hrow, hsize, beq_self_eq_true, Bool.or_true]
  refine next_congr ((State.sopServe_offers hoffer).trans ?_)
  rw [← State.writeHere_takes hnum hput]
  simp only [hlen, ne_eq, not_true_eq_false, if_false, hgate, hrow, hblob, hoff, hwhole, hok, decide_false, Bool.not_true,
    Bool.or_self, Bool.false_eq_true, hfw]

theorem execWrite_badLength (hoffer : s.offers w 2 tag p l = true) (hlen : p.length ≠ 14 + fieldN p 12 2) :
    execWrite s = .next ((s.served l).abortTo w tag (payKey p) 0x0D) :=
  next_congr ((State.sopServe_offers hoffer).trans (if_pos hlen))

/-! ## Blocks and commits (R518, R519) -/

theorem execBlockRead_responds {t : State} {out : Bytes} (hoffer : s.offers w 3 tag p l = true) (hlen : p.length = 4)
    (hfirm : firmIndex (fieldN p 0 2) = false)
    (hread : (s.served l).readEntries w (fieldN p 0 2) (fieldN p 2 1) (fieldN p 3 1) = (t, out)) (hroom : out.length ≤ 992) :
    execBlockRead s = .next (t.respond w 3 tag (p ++ out)) := by
  refine next_congr ((State.sopServe_offers hoffer).trans ?_)
  simp only [hlen, hfirm, hread, Nat.not_lt.mpr hroom, ne_eq, not_true_eq_false, Bool.false_and, Bool.false_eq_true, if_false]

theorem execBlockWrite_writes {es : List (Nat × Bytes)} (hoffer : s.offers w 4 tag p l = true) (hlen : 4 ≤ p.length)
    (hentries : blockEntries (fieldN p 3 1) (p.drop 4) = some es) (hfirm : firmIndex (fieldN p 0 2) = false) :
    execBlockWrite s = .next ((s.served l).writeEntries w tag (fieldN p 0 2) (fieldN p 2 1) 0 es) := by
  refine next_congr ((State.sopServe_offers hoffer).trans ?_)
  simp only [hentries, Nat.not_lt.mpr hlen, hfirm, Bool.false_and, Bool.false_eq_true, if_false]

theorem execCommit_empty (hoffer : s.offers w 5 tag [] l = true) (hstage : (s.served l).stageOf w = []) :
    execCommit s = .next ((s.served l).respond w 5 tag (leBytes 8 0)) := by
  refine next_congr ((State.sopServe_offers hoffer).trans ?_)
  simp only [hstage, List.isEmpty_nil, Bool.not_true, Bool.false_eq_true, if_false, if_true]

/-- A set with no object of the firmware is judged whole, emptied and answered. -/
theorem State.judgeSop_answers (hfirm : anyFirm (s.stageOf w) = false) :
    s.judgeSop w tag =
      match s.judgeSet (s.stageOf w) with
      | .ok t => ((t.setStage w []).keepConfig (s.stageOf w)).respond w 5 tag (leBytes 8 (tt64 s.commitTick))
      | .error k => (s.setStage w []).abortTo w tag k (commitAbort k) := by
  simp only [State.judgeSop, hfirm, Bool.false_eq_true, if_false] <;> rfl

theorem execCommit_judges (hoffer : s.offers w 5 tag [] l = true) (hstage : (s.served l).stageOf w ≠ [])
    (hfirm : anyFirm ((s.served l).stageOf w) = false) : execCommit s = .next ((s.served l).judgeSop w tag) := by
  refine next_congr ((State.sopServe_offers hoffer).trans ?_)
  simp only [List.isEmpty_nil, List.isEmpty_eq_false_iff.mpr hstage, hfirm, Bool.not_true, Bool.false_eq_true, if_false]

/-! ## Subscriptions, PING and NOTIFY (R520, R522) -/

theorem execSubscribe_subscribes {x : Fin 8} {u : Sub} (hoffer : s.offers (.session x) 6 tag p l = true)
    (hsub : (s.served l).subOf (.session x) p = .ok u) (hid : fieldN p 0 1 ≤ 15) :
    execSubscribe s = .next (((s.served l).modSess x (fun q => { q with
        subs := q.subs.filter (fun e => e.1 != fieldN p 0 1) ++ [(fieldN p 0 1, u)] })).respond (.session x) 6 tag
          (leBytes 1 (fieldN p 0 1))) := by
  refine next_congr ((State.sopServe_offers hoffer).trans ?_)
  simp only [hsub, Nat.not_lt.mpr hid, if_false]

theorem execUnsubscribe_judges {x : Fin 8} (hoffer : s.offers (.session x) 7 tag p l = true) (hlen : p.length = 1) :
    execUnsubscribe s = .next (
      if (s.served l).com.sessions[x].subs.any (fun e => e.1 == fieldN p 0 1) then
        ((s.served l).modSess x (fun q => { q with subs := q.subs.filter (fun e => e.1 != fieldN p 0 1) })).respond
          (.session x) 7 tag (leBytes 1 (fieldN p 0 1))
      else (s.served l).abortTo (.session x) tag 0 0x10) := by
  refine next_congr ((State.sopServe_offers hoffer).trans ?_)
  simp only [hlen, ne_eq, not_true_eq_false, if_false]

theorem execNotify_notifies (hdue : s.com.notified < s.time.tickMark) :
    execNotify s = .next (fin8.foldl (fun (u : State) (x : Fin 8) =>
      if u.o (Obj.COM_Ss_STATE x) = 2 then u.com.sessions[x].subs.foldl (fun (v : State) e => v.notifyOne x e.1 e.2) u else u)
      (s.modCom (fun c => { c with notified := s.time.tickMark }))) :=
  if_neg (Nat.not_le.mpr hdue)

/-! ## Debug memory and steps (R515) -/

theorem execMemRead_responds {t : State} {b : Bytes} (hoffer : s.offers w 0x20 tag p l = true) (hlen : p.length = 6)
    (hread : (s.served l).debugRead (fieldN p 0 4) (fieldN p 4 2) = .ok (t, b)) :
    execMemRead s = .next (t.respond w 0x20 tag (leBytes 4 (fieldN p 0 4) ++ leBytes 2 b.length ++ b)) := by
  refine next_congr ((State.sopServe_offers hoffer).trans ?_)
  simp only [hlen, hread, ne_eq, not_true_eq_false, if_false]

theorem execMemWrite_responds {t : State} {k : Key} (hoffer : s.offers w 0x21 tag p l = true)
    (hlen : p.length = 6 + fieldN p 4 2) (hwrite : (s.served l).debugWrite (fieldN p 0 4) (p.drop 6) = (t, k, 0)) :
    execMemWrite s = .next (t.respond w 0x21 tag (leBytes 4 (fieldN p 0 4) ++ leBytes 2 (fieldN p 4 2))) := by
  refine next_congr ((State.sopServe_offers hoffer).trans ?_)
  simp only [hlen, hwrite, ne_eq, not_true_eq_false, if_false]

theorem execStep_steps (hoffer : s.offers w 0x22 tag p l = true) (hlen : p.length = 1) (hcore : fieldN p 0 1 ≤ 7)
    (hhalted : (s.served l).cores[asFin 8 (fieldN p 0 1)].mode = .halted) :
    execStep s = .next (((s.served l).stepCore (asFin 8 (fieldN p 0 1))).respond w 0x22 tag p) := by
  refine next_congr ((State.sopServe_offers hoffer).trans ?_)
  simp only [hlen, hhalted, Nat.not_lt.mpr hcore, ne_eq, not_true_eq_false, if_false]

/-! ## Handlers of firmware objects (R498) -/

theorem execComHndDone_handles {r : HandlerReq} (who : Fin 8) {slot : Nat}
    (hslot : s.com.handlers.find? (fun h => h.slot == slot) = some r) :
    execComHndDone who slot s = .next ((s.freeSlot r).handled r (s.rn (handlerAddr slot + 7) 1)) := by
  rw [execComHndDone, State.handlerDone, hslot, Option.getD_some]

theorem execHandlerTimeout_fails {r : HandlerReq} {q : List HandlerReq} (hfront : s.com.handlers = r :: q) :
    execHandlerTimeout s = .next (((s.upTo r.by_).freeSlot r).handled r 0x0B) := by
  simp only [execHandlerTimeout, hfront]

end

/-- Settles O35: an offered request is served, and its type's branches say what it answers. -/
theorem requestsAreServed : Obligations.RequestsAreServed := by
  unfold Obligations.RequestsAreServed
  refine ⟨fun s t w tag p v l => execRead_responds, fun s w tag p l => execRead_asks, fun s w tag p l => execRead_badLength,
    fun s t w tag p l => execWrite_writes, fun s w tag p l => execWrite_badLength,
    fun s w tag p l hoffer hlen hfirm => execBlockRead_responds hoffer hlen hfirm rfl,
    fun s w tag p l es => execBlockWrite_writes, fun s w tag l => execCommit_empty, ?judged,
    fun s x tag p l u => execSubscribe_subscribes, fun s x tag p l => execUnsubscribe_judges, ?pinged, fun s => execNotify_notifies,
    fun s t w tag p b l => execMemRead_responds, fun s t w tag p k l => execMemWrite_responds, fun s w tag p l => execStep_steps,
    fun s who slot r => execComHndDone_handles who, fun s r l => execHandlerTimeout_fails⟩
  case judged =>
    intro s w tag l hoffer hstage hfirm
    exact (execCommit_judges hoffer hstage hfirm).trans (next_congr (State.judgeSop_answers hfirm))
  case pinged => exact fun s w tag l hoffer => next_congr (State.sopServe_offers hoffer)

end Sys2Proof.Machine

/-! O50: resets, the ROM's choice of a slot, recovery, the image routines and the tick snapshot. -/
namespace Sys2Proof.Machine

section
variable {s : State}

/-! ## Resets (R565, R566) -/

/-- A long low RESET_N resets: from power-on where that is still due. -/
theorem execPinReset_resets {width : Nat} (hgood : s.power.pgGood = true) (hlong : 1000 ≤ width) :
    execPinReset width s =
      .next ((s.modPower (fun p => { p with porDue := false })).mainReset (if s.power.porDue then 1 else 2)) := by
  have hnotShort : ¬ width < 200 := by omega
  simp only [execPinReset, hgood, hnotShort, hlong, Nat.not_lt.mpr hlong, decide_false, decide_true, Bool.not_true, Bool.or_self,
    Bool.true_or, Bool.false_eq_true, if_false, if_true]

theorem execPinReset_short {width : Nat} (hshort : width < 200) : execPinReset width s = .next s := by
  simp only [execPinReset, hshort, decide_true, Bool.or_true, if_true]

theorem State.resetCmd_getD (v : Nat) (t : State) : (s.resetCmd v).getD t = if v = 1 then s.askReset 6 else t := by
  unfold State.resetCmd
  split <;> rfl

/-! ## The ROM's choice (R567, R568, R569) -/

theorem State.romBoot_open (hrun : s.cores[(4 : Fin 8)].mode = .run) (hsprout : s.cores[(4 : Fin 8)].sprout = true)
    (hboot : s.boot.recovery = false) :
    (decide (s.cores[(4 : Fin 8)].mode = .run) && s.cores[(4 : Fin 8)].sprout && !s.boot.recovery) = true := by
  rw [decide_eq_true hrun, hsprout, hboot]; rfl

theorem execRomBoot_recovers (time : Nat) (hrun : s.cores[(4 : Fin 8)].mode = .run)
    (hsprout : s.cores[(4 : Fin 8)].sprout = true) (hboot : s.boot.recovery = false) :
    execRomBoot 1 time s = .next ((s.modPower (fun p => { p with mode := 1 })).journalScan).enterRecovery :=
  if_pos (State.romBoot_open hrun hsprout hboot)

theorem execRomBoot_chooses {u : State} {mode cause : Nat} (time : Nat) (hrun : s.cores[(4 : Fin 8)].mode = .run)
    (hsprout : s.cores[(4 : Fin 8)].sprout = true) (hboot : s.boot.recovery = false) (hmode : mode % 4 ≠ 1)
    (hu : u = (s.modPower (fun p => { p with mode := mode % 4 })).journalScan) (hcause : cause = u.o Obj.COR_RESET_CAUSE) :
    execRomBoot mode time s = .next
      ((u.chooseSlot cause).2.bootChosen (u.chooseSlot cause).1 time cause (u.newest.isNone && cause != 4)) := by
  rw [execRomBoot, if_pos (State.romBoot_open hrun hsprout hboot)]
  dsimp only
  rw [← hu, ← hcause, if_neg hmode]

/-- The chosen slot boots, else the other, else the ROM waits in recovery. -/
theorem State.bootChosen_boots {x : State} {r e : Nat} (time cause : Nat) (first : Bool) (hcheck : s.checkSlot r = (e, x)) :
    s.bootChosen r time cause first =
      if e = 0 then (if first then x.appendRecord r 0 0 (hVer (x.header r)) else x).bootInto r time
      else if (x.checkSlot (1 - r)).1 = 0 then ((x.checkSlot (1 - r)).2.appendFallback (1 - r) cause).bootInto (1 - r) time
      else (x.checkSlot (1 - r)).2.enterRecovery := by
  simp only [State.bootChosen, hcheck]

/-! ## Recovery (R570) -/

section
variable {off crc st : Nat} {data : Bytes}

theorem execRecStatus_answers (hboot : s.boot.recovery = true) :
    execRecStatus s = .next
      (let checks := leBytes 1 (s.o Obj.COR_IMG_CHECK_A) ++ leBytes 1 (s.o Obj.COR_IMG_CHECK_B)
      { s with rbytes := checks ++ leBytes 1 s.boot.recStatus ++ [0] ++ leBytes 4 s.boot.recTop }) := by
  simp only [execRecStatus, hboot, if_true]

theorem execRecWrite_appends (hboot : s.boot.recovery = true) (hok : s.recWriteStatus off data crc = 0) (hoff : off ≠ 0) :
    execRecWrite off data crc s = .next (((s.modBoot (fun b => { b with recStatus := 0 })).wbs (slotBase 1 + off) data).modBoot
      (fun b => { b with recTop := max b.recTop (off + data.length) })) := by
  simp only [execRecWrite, hboot, hok, hoff, ne_eq, not_true_eq_false, if_false, if_true]

/-- The first piece erases the slot. -/
theorem execRecWrite_starts (hboot : s.boot.recovery = true) (hok : s.recWriteStatus 0 data crc = 0) :
    execRecWrite 0 data crc s = .next
      ((((((s.modBoot (fun b => { b with recStatus := 0 })).eraseSlot 1).modBoot (fun b => { b with recTop := 0 })).wbs (slotBase 1)
        data).modBoot (fun b => { b with recTop := max b.recTop data.length }))) := by
  simp only [execRecWrite, hboot, hok, ne_eq, not_true_eq_false, if_false, if_true, Nat.add_zero, Nat.zero_add]

theorem execRecWrite_refuses (hboot : s.boot.recovery = true) (hst : s.recWriteStatus off data crc = st) (hbad : st ≠ 0) :
    execRecWrite off data crc s = .next (s.modBoot (fun b => { b with recStatus := st })) := by
  simp only [execRecWrite, hboot, hst, hbad, ne_eq, not_false_eq_true, if_true]

theorem execRecDone_judges {u : State} {e : Nat} (total time : Nat) (hboot : s.boot.recovery = true)
    (hcheck : s.checkSlot 1 = (e, u)) :
    execRecDone total time s = .next (if e = 0 ∧ hTotal (u.header 1) = total then
      (u.appendRecord 1 1 1 (hVer (u.header 1))).bootInto 1 time else u) := by
  simp only [execRecDone, hboot, hcheck, if_true, Bool.and_eq_true, decide_eq_true_eq]
  exact (apply_ite _ _ _ _).symm

end

/-! ## The image routines (R572) -/

theorem State.imCheck_checks {slot : Nat} (hslot : slot ≤ 1) : s.imCheck slot = s.checkSlot slot :=
  if_neg (Nat.not_lt.mpr hslot)

/-- IM_SWITCH to the slot that does not run, with no trial open. -/
theorem State.imSwitch_switches {u : State} {slot mode e : Nat} (hslot : slot ≤ 1) (hrecord : s.recordSt = some 0 ∨ s.recordSt = some 2)
    (hother : slot ≠ s.o Obj.COR_IMG_RUN) (hcheck : s.checkSlot slot = (e, u)) :
    s.imSwitch slot mode = if e = 0 then (0, if mode = 0 then u.switchRoll slot else u.switchReset slot) else (e, u) := by
  have hst : (decide (s.recordSt ≠ some 0) && decide (s.recordSt ≠ some 2)) = false := by
    obtain h | h := hrecord <;> rw [h] <;> rfl
  simp only [State.imSwitch, Nat.not_lt.mpr hslot, hst, hother, hcheck, Bool.false_eq_true, if_false]

section
variable {q : State} {k : Fin 8} {slot mode e r : Nat}

/-- A switch whose image checks is done; one that does not leaves its code. -/
theorem State.imSwitchRun_returns {u v : State} (hcall : s.callable k 9 2 1 = true) (hq : q = s.scratch k)
    (hins : s.dTop k 2 = [slot, mode]) (hret : s.rTop k 1 = [r]) (hslot : slot ≤ 1)
    (hrecord : q.recordSt = some 0 ∨ q.recordSt = some 2) (hother : slot ≠ q.o Obj.COR_IMG_RUN)
    (hcheck : q.checkSlot slot = (e, u)) (hv : (if mode = 0 then u.switchRoll slot else u.switchReset slot) = v) :
    s.imSwitchRun k mode = if e = 0 then v.retired k 2 [0] 1 [] r else u.retired k 2 [e] 1 [] r := by
  have hmode : inp (s.dTop k 2) 1 = mode := by rw [hins]; rfl
  have hswitch := State.imSwitch_switches (mode := mode) hslot hrecord hother hcheck
  rw [hv] at hswitch
  rw [State.imSwitchRun, if_pos hmode]
  by_cases he : e = 0
  · rw [if_pos he]
    rw [if_pos he] at hswitch
    exact State.routine_returns hcall hq hins hret (congrArg oneStatus hswitch)
  · rw [if_neg he]
    rw [if_neg he] at hswitch
    exact State.routine_returns hcall hq hins hret (congrArg oneStatus hswitch)

end

theorem State.imConfirm_confirms {a : Nat} {b : Bytes} (hover : s.healthOver = false) (hnewest : s.newest = some (a, b))
    (hstate : bState b = 1) : s.imConfirm = (0, s.confirmRun b) := by
  have htrial : (bState b == 1) = true := beq_iff_eq.mpr hstate
  simp only [State.imConfirm, hover, Bool.false_eq_true, if_false, hnewest, Option.filter_some, htrial, if_true, Option.elim_some]

theorem State.imAbandon_asks (hrecord : s.recordSt = some 1) : s.imAbandon = (0, s.askReset 8) := if_pos hrecord

/-! ## The tick snapshot (R391) -/

theorem execSnapshotPublish_publishes {b : Bytes} (hsnap : s.jobs.snap = some b) :
    execSnapshotPublish s = .next ((((s.wbs (0x200E1000 + 0x400 * (1 - s.o Obj.JOB_SNAP_CUR)) b).setO Obj.JOB_SNAP_CUR
      (1 - s.o Obj.JOB_SNAP_CUR)).setO Obj.JOB_SNAP_SEQ (fieldN b 8 4)).modJobs (fun j => { j with snap := none })) := by
  simp only [execSnapshotPublish, hsnap]

end

/-- Settles O50: each clause is the branch of its command that its hypotheses select. -/
theorem resetsBootAndRecoveryComplete : Obligations.ResetsBootAndRecoveryComplete := by
  unfold Obligations.ResetsBootAndRecoveryComplete
  refine ⟨fun s width => execPinReset_resets, fun s width => execPinReset_short, fun s who v => next_congr (State.resetCmd_getD v _),
    ?recovers, ?chooses, fun s x r time cause e first => State.bootChosen_boots time cause first, fun s => execRecStatus_answers,
    fun s off crc data => execRecWrite_appends, ?starts, fun s off crc st data => execRecWrite_refuses, ?done, ?checks, ?rolls,
    ?resets, ?confirms, ?abandons, ?publishes⟩
  case recovers =>
    rintro s u time m rfl hrun hsprout hboot rfl
    exact execRomBoot_recovers time hrun hsprout hboot
  case chooses =>
    rintro s u v mode time r cause m rfl hrun hsprout hboot hmode hu hcause hr hv
    rw [hr, hv]
    exact execRomBoot_chooses time hrun hsprout hboot hmode hu hcause
  case starts =>
    rintro s u crc data hboot hok rfl
    exact execRecWrite_starts hboot hok
  case done =>
    rintro s u e total time h hboot hcheck rfl
    exact execRecDone_judges total time hboot hcheck
  case checks =>
    intro s q u k slot e r hcall hq hins hret hslot hcheck
    exact next_congr (State.routine_returns hcall hq hins hret (congrArg oneStatus ((State.imCheck_checks hslot).trans hcheck)))
  case rolls =>
    intro s q u k slot e r hcall hq hins hret hslot hrecord hother hcheck
    exact next_congr (State.imSwitchRun_returns hcall hq hins hret hslot hrecord hother hcheck (if_pos rfl))
  case resets =>
    intro s q u k slot e r hcall hq hins hret hslot hrecord hother hcheck
    exact next_congr (State.imSwitchRun_returns hcall hq hins hret hslot hrecord hother hcheck
      (if_neg Nat.one_ne_zero))
  case confirms =>
    intro s q k a r b hcall hq hret hover hnewest hstate
    exact next_congr (State.routine_returns hcall hq rfl hret (congrArg oneStatus (State.imConfirm_confirms hover hnewest hstate)))
  case abandons =>
    intro s q k r hcall hq hret hrecord
    exact next_congr (State.routine_returns hcall hq rfl hret (congrArg oneStatus (State.imAbandon_asks hrecord)))
  case publishes =>
    rintro s b cur hsnap rfl
    exact execSnapshotPublish_publishes hsnap

end Sys2Proof.Machine

/-! O51: updates are taken, checked, activated, rolled and judged. -/
namespace Sys2Proof.Machine

section
variable {s : State}

theorem execBaseFirmwareStart_starts (hrun : s.cores[(4 : Fin 8)].mode = .run) (hsprout : s.cores[(4 : Fin 8)].sprout = false) :
    execBaseFirmwareStart s = .next
      ((((((((s.release8 0xEF).startMeasure).startKeys).startUpdate).startTrial).replay).startParked).addrState 1) := by
  simp only [execBaseFirmwareStart, hrun, hsprout, ne_eq, not_true_eq_false, decide_false, Bool.or_self, Bool.false_eq_true, if_false]

/-! ## Hosts at level INSTALL (R576, R584) -/

section
variable {x : Fin 8} {r : Except Nat State} {b : Bytes}

/-- A session below INSTALL is answered code 2. -/
theorem State.serveHost_refuses (hmay : s.sessMay x 3 = false) : s.serveHost x r = { s with rdata := 2 } := by
  simp only [State.serveHost, hmay, Bool.false_eq_true, if_false]

theorem State.serveHost_takes {t : State} (hmay : s.sessMay x 3 = true) (hr : r = .ok t) :
    s.serveHost x r = { t with rdata := 0 } := by
  simp only [State.serveHost, hmay, hr, if_true]

theorem State.serveHost_aborts {e : Nat} (hmay : s.sessMay x 3 = true) (hr : r = .error e) :
    s.serveHost x r = { s with rdata := e } := by
  simp only [State.serveHost, hmay, hr, if_true]

theorem State.updPieceWrite_takes (hlow : 13 ≤ b.length) (hhigh : b.length ≤ 780) (himage : fieldN b 0 2 ≠ 0)
    (hsome : 1 ≤ fieldN b 4 2) (hcount : fieldN b 4 2 ≤ 9984) :
    s.updPieceWrite b = some (s.updPiece (fieldN b 0 2) (fieldN b 2 2) (fieldN b 4 2) (fieldN b 8 4) (b.drop 12)) :=
  if_pos ⟨hlow, hhigh, himage, hsome, hcount⟩

theorem State.actAtWrite_takes {v : Nat} (hstate : s.o Obj.NBF_UPD_STATE = 2) (hvalid : ttValid v = true)
    (hepoch : linear v % epochT = 0) (hlater : s.now + superT ≤ linear v) :
    s.actAtWrite v = .ok (s.setO Obj.NBF_UPD_ACT_AT v) := by
  simp only [State.actAtWrite, hstate, hvalid, hepoch, hlater, ne_eq, not_true_eq_false, decide_true, Bool.and_self, if_false, if_true]

theorem State.actAtWrite_refuses {v : Nat} (hstate : s.o Obj.NBF_UPD_STATE ≠ 2) : s.actAtWrite v = .error 0x14 := if_pos hstate

theorem State.updCmd_check {e : Nat} {u : State} (hcheck : s.checkSlot s.target = (e, u)) :
    s.updCmd 1 = some (if e = 0 then u else u.setO Obj.NBF_UPD_LAST_FAIL e) := by
  simp only [State.updCmd, if_true, hcheck, noteFail]

theorem State.updCmd_cancel : s.updCmd 2 = some (s.setO Obj.NBF_UPD_ACT_AT 0) := rfl

theorem State.updCmd_abandon :
    s.updCmd 3 = some (if s.recordSt = some 1 then s.askReset 8 else s.setO Obj.NBF_UPD_LAST_FAIL 0x36) := by
  change some (noteFail s.imAbandon) = _
  unfold State.imAbandon
  split <;> rfl

theorem State.updCmd_clear (htrial : s.o Obj.COR_IMG_STATE ≠ 1) (hlocked : s.targetLocked = false) :
    s.updCmd 4 = some ((((((s.eraseSlot s.target).setO Obj.NBF_UPD_IMAGE 0).setO Obj.NBF_UPD_HAVE 0).setO Obj.NBF_UPD_COUNT
      0).modBoot (fun b => { b with rejected := none, size := 0 })).updState 0) := by
  have hopen : (decide (s.o Obj.COR_IMG_STATE = 1) || s.targetLocked) = false := by rw [decide_eq_false htrial, hlocked]; rfl
  simp only [State.updCmd, Nat.reduceEqDiff, hopen, Bool.false_eq_true, if_false, if_true]

theorem State.updCmd_clearRefused (hkept : s.o Obj.COR_IMG_STATE = 1 ∨ s.targetLocked = true) : s.updCmd 4 = none := by
  have hshut : (decide (s.o Obj.COR_IMG_STATE = 1) || s.targetLocked) = true := by
    rw [Bool.or_eq_true, decide_eq_true_eq]
    exact hkept
  simp only [State.updCmd, Nat.reduceEqDiff, hshut, if_false, if_true]

end

/-! ## A complete bundle and its activation (R577, R578) -/

theorem execBundleComplete_judges {u : State} {e n : Nat} (hstate : s.o Obj.NBF_UPD_STATE = 1) (hn : n = s.o Obj.NBF_UPD_COUNT)
    (hsome : 0 < n) (hheld : s.piecesHeld = n)
    (hcheck : (s.setO Obj.NBF_UPD_HAVE n).checkSlot (s.setO Obj.NBF_UPD_HAVE n).target = (e, u)) :
    execBundleComplete s = .next
      (if e = 0 then
        (if hVer (u.header u.target) = hVer (u.header (1 - u.target)) ∧ hDigest (u.header u.target) = hDigest (u.header (1 - u.target))
          then u.updState 0 else (u.updState 2).actFromCatalog)
      else u.updFailed e) := by
  simp only [execBundleComplete, ← hn, hstate, hsome, hheld, hcheck, decide_true, Bool.and_self, if_true, Bool.and_eq_true,
    decide_eq_true_eq]
  split
  · split <;> rfl
  · rfl

/-- The state at the activation's instant, its request taken. -/
def State.activateAt (s : State) : State := (s.upTo (linear (s.o Obj.NBF_UPD_ACT_AT))).setO Obj.NBF_UPD_ACT_AT 0

theorem State.activateAt_o {k : Key} (hk : k ≠ Obj.NBF_UPD_ACT_AT) : s.activateAt.o k = s.o k := by
  rw [State.activateAt, State.setO_o, if_neg hk, State.upTo_o]

theorem State.activateAt_pwr : s.activateAt.pwr = s.pwr := State.activateAt_o (by decide)

/-- A roll where the running image's state fits and the bundle asks no reset. -/
theorem execUpdateActivate_switches {u v : State} {f mode : Nat} (hset : s.o Obj.NBF_UPD_ACT_AT ≠ 0) (hpwr : s.pwr ≤ 2)
    (hstate : s.o Obj.NBF_UPD_STATE = 2) (hu : u = s.activateAt)
    (hmode : mode = if hStateMin (u.header u.target) ≤ s.o Obj.COR_IMG_STATE_VER ∧ bitOf (hFlags (u.header u.target)) 2 = false
      then 0 else 1)
    (hswitch : (u.setO Obj.NBF_UPD_MODE mode).imSwitch u.target mode = (f, v)) :
    execUpdateActivate s = .next
      (if f = 0 then (if mode = 0 then (v.modBoot (fun b => { b with roll := some ⟨0, none⟩ })).updState 4 else v)
      else v.updFailed f) := by
  have hawake : ¬ 3 ≤ u.pwr := by rw [hu, State.activateAt_pwr]; omega
  have hready : u.o Obj.NBF_UPD_STATE = 2 := by rw [hu, State.activateAt_o (by decide), hstate]
  have hver : u.o Obj.COR_IMG_STATE_VER = s.o Obj.COR_IMG_STATE_VER := by rw [hu, State.activateAt_o (by decide)]
  have htarget : (u.setO Obj.NBF_UPD_MODE mode).target = u.target := by
    rw [State.target, State.setO_o, if_neg (by decide), ← State.target]
  rw [← hver] at hmode
  rw [State.activateAt] at hu
  simp only [execUpdateActivate, hset, if_false, ← hu, hawake, hready, ne_eq, not_true_eq_false, decide_false, Bool.or_self,
    Bool.false_eq_true, Bool.and_eq_true, decide_eq_true_eq, Bool.not_eq_true', ← hmode, htarget, hswitch]
  split
  · split <;> rfl
  · rfl

theorem execUpdateActivate_late (hset : s.o Obj.NBF_UPD_ACT_AT ≠ 0) (hpwr : 3 ≤ s.pwr) :
    execUpdateActivate s = .next (s.activateAt.raiseFw 0x805 0 (s.o Obj.NBF_UPD_ACT_AT % 2 ^ 32) []) := by
  have hasleep : 3 ≤ s.activateAt.pwr := by rw [State.activateAt_pwr]; exact hpwr
  rw [State.activateAt] at hasleep
  simp only [execUpdateActivate, hset, if_false, hasleep, decide_true, Bool.true_or, if_true]
  rfl

/-! ## Rolling (R579, R580) -/

/-- A slice's core is parked and started from the running image, then its frame is awaited. -/
theorem execRollStep_startsSlice {u v : State} {c : Nat} (soft : Bool) (hroll : s.boot.roll = some ⟨c, none⟩) (hc : c < 4)
    (hactive : s.o (Obj.SLCn_LC_STATE (asFin 4 c)) ≠ 0)
    (hu : u = ((s.coreHold (asFin 8 c)).lcPark (asFin 4 c)).getD (s.coreHold (asFin 8 c)))
    (hv : v = (u.setO (Obj.COR_c_START (asFin 8 c)) (u.entryOf (u.o Obj.COR_IMG_RUN))).coreStart (asFin 8 c)) :
    execRollStep soft s = .next (v.setRoll (some ⟨c, some (frameStart v.now)⟩)) := by
  simp only [execRollStep, hroll, Nat.ne_of_lt hc, hc, hactive, if_false, if_true, ← hu, ← hv]

theorem execRollStep_nextSlice {c : Nat} {t : Instant} (soft : Bool) (hroll : s.boot.roll = some ⟨c, some t⟩) (hc : c < 4)
    (hlater : t + frameT < s.now) (hactive : s.o (Obj.SLCn_LC_STATE (asFin 4 c)) = 3) :
    execRollStep soft s = .next (s.setRoll (some ⟨rollNext c, none⟩)) := by
  simp only [execRollStep, hroll, Nat.ne_of_lt hc, hc, hlater, hactive, decide_true, Bool.and_self, if_false, if_true]

theorem execRollStep_startsCore {c : Nat} (soft : Bool) (hroll : s.boot.roll = some ⟨c, none⟩) (hc : 4 < c) :
    execRollStep soft s = .next ((s.rollCore (asFin 8 c)).setRoll (some ⟨c, some (frameStart s.now)⟩)) := by
  simp only [execRollStep, hroll, Nat.ne_of_gt hc, Nat.lt_asymm hc, if_false]

theorem execRollStep_ends {t : Option Instant} (soft : Bool) (hroll : s.boot.roll = some ⟨4, t⟩) :
    execRollStep soft s = .next (((s.modCore 4 (fun x => { x with pc := BitVec.ofNat 32 (s.entryOf (s.o Obj.COR_IMG_RUN)) })).setRoll
      none).updState 5) := by
  simp only [execRollStep, hroll, if_true]

/-! ## The trial (R581) -/

/-- The trial's criteria stand and the run of good superframes counts on. -/
def State.trialJudged (s : State) (run : Nat) : State :=
  (s.setO Obj.NBF_UPD_HEALTH_NOW s.criteria).modBoot (fun b => { b with healthRun := run, progAll := true })

theorem execHealthCheck_judges {m run : Nat} (htrial : s.o Obj.COR_IMG_STATE = 1) (hdeadline : s.o Obj.COR_IMG_HEALTH_AT ≠ 0)
    (hm : m = s.o Obj.NBF_UPD_HEALTH_MASK) (halive : bitOf m 3 = false ∨ bitOf s.criteria 3 = true)
    (hrun : run = if natAnd m s.criteria = m then s.boot.healthRun + 1 else 0) :
    execHealthCheck s = .next (
      if s.o Obj.NBF_UPD_HEALTH_HOLD ≤ run then
        ((s.trialJudged run).imConfirm.2).updState (if ((s.trialJudged run).imConfirm.2).targetLocked then 6 else 0)
      else s.trialJudged run) := by
  have hopen : (decide (s.o Obj.COR_IMG_STATE = 1) && decide (s.o Obj.COR_IMG_HEALTH_AT ≠ 0)) = true := by
    rw [decide_eq_true htrial, decide_eq_true hdeadline]; rfl
  have hlives : (bitOf m 3 && !bitOf s.criteria 3) = false := by
    obtain h | h := halive <;> rw [h]
    · rfl
    · exact Bool.and_false _
  have hhold : ((s.setO Obj.NBF_UPD_HEALTH_NOW s.criteria).modBoot (fun b => { b with healthRun := run, progAll := true })).o
      Obj.NBF_UPD_HEALTH_HOLD = s.o Obj.NBF_UPD_HEALTH_HOLD := by
    rw [State.modBoot_o, State.setO_o, if_neg (by decide)]
  subst hm
  rw [execHealthCheck, if_pos hopen]
  simp only [hlives, Bool.false_eq_true, if_false, State.setO_boot, ← hrun, hhold, State.trialJudged]
  exact (apply_ite _ _ _ _).symm

theorem execHealthDeadline_resets {u : State} (hset : s.o Obj.COR_IMG_HEALTH_AT ≠ 0)
    (hu : u = (s.upTo (linear (s.o Obj.COR_IMG_HEALTH_AT))).miss 11 0x14 (linear (s.o Obj.COR_IMG_HEALTH_AT)))
    (hpwr : (u.logEvent ⟨0x100, 0x14, 11 + 256, u.now, []⟩).pwr ≤ 2) :
    execHealthDeadline s = .next ((u.logEvent ⟨0x100, 0x14, 11 + 256, u.now, []⟩).mainReset 5) := by
  simp only [execHealthDeadline, hset, if_false, ← hu, hpwr, if_true]

end

/-- Settles O51: each clause is the branch of its command that its hypotheses select. -/
theorem updatesAreTakenActivatedAndJudged : Obligations.UpdatesAreTakenActivatedAndJudged := by
  unfold Obligations.UpdatesAreTakenActivatedAndJudged
  refine ⟨?starts, ?pieces, ?refused, ?actAt, ?actLate, ?check, ?cancel, ?abandon, ?clear, ?kept, ?complete, ?activate, ?late,
    ?slice, fun s c t soft => execRollStep_nextSlice soft, ?core, fun s t soft => execRollStep_ends soft, ?judged, ?confirmed,
    ?deadline⟩
  case starts =>
    rintro s u m rfl hrun hsprout rfl
    exact execBaseFirmwareStart_starts hrun hsprout
  case pieces =>
    intro s x b hmay hlow hhigh himage hsome hcount
    exact next_congr (State.serveHost_takes hmay (congrArg (orAbort 5) (State.updPieceWrite_takes hlow hhigh himage hsome hcount)))
  case refused =>
    exact fun s x b hmay => ⟨next_congr (State.serveHost_refuses hmay), next_congr (State.serveHost_refuses hmay),
      next_congr (State.serveHost_refuses hmay), next_congr (State.serveHost_refuses hmay), next_congr (State.serveHost_refuses hmay)⟩
  case actAt =>
    intro s x v hmay hstate hvalid hepoch hlater
    exact next_congr (State.serveHost_takes hmay (State.actAtWrite_takes hstate hvalid hepoch hlater))
  case actLate => exact fun s x v hmay hstate => next_congr (State.serveHost_aborts hmay (State.actAtWrite_refuses hstate))
  case check =>
    exact fun s u x e hmay hcheck => next_congr (State.serveHost_takes hmay (congrArg (orAbort 0x14) (State.updCmd_check hcheck)))
  case cancel => exact fun s x hmay => next_congr (State.serveHost_takes hmay (congrArg (orAbort 0x14) State.updCmd_cancel))
  case abandon => exact fun s x hmay => next_congr (State.serveHost_takes hmay (congrArg (orAbort 0x14) State.updCmd_abandon))
  case clear =>
    rintro s u x hmay htrial hlocked rfl
    exact next_congr (State.serveHost_takes hmay (congrArg (orAbort 0x14) (State.updCmd_clear htrial hlocked)))
  case kept =>
    exact fun s x hmay hkept => next_congr (State.serveHost_aborts hmay (congrArg (orAbort 0x14) (State.updCmd_clearRefused hkept)))
  case complete =>
    rintro s u e n h g hstate hn hsome hheld hcheck rfl rfl
    exact execBundleComplete_judges hstate hn hsome hheld hcheck
  case activate =>
    rintro s u v e f mode h rfl hset hpwr hstate hu rfl hmode hswitch
    exact execUpdateActivate_switches hset hpwr hstate hu hmode hswitch
  case late =>
    rintro s u e rfl hset hpwr rfl
    exact execUpdateActivate_late hset hpwr
  case slice => exact fun s u v c soft hroll hc hactive hu hv => execRollStep_startsSlice soft hroll hc hactive hu hv
  case core =>
    rintro s u c soft hroll hc rfl
    exact execRollStep_startsCore soft hroll hc
  case judged =>
    rintro s m now run htrial hdeadline hm rfl halive hrun hshort
    exact (execHealthCheck_judges htrial hdeadline hm halive hrun).trans (next_congr (if_neg (Nat.not_le.mpr hshort)))
  case confirmed =>
    rintro s u m now run htrial hdeadline hm rfl halive hrun hlong rfl
    exact (execHealthCheck_judges htrial hdeadline hm halive hrun).trans (next_congr (if_pos hlong))
  case deadline =>
    rintro s u v rfl hset hu hpwr
    exact execHealthDeadline_resets hset hu hpwr

end Sys2Proof.Machine

/-! O59: every step keeps the canonical form of the stores. `Keeps s t` says that t is canonical when s is. Each function of the
model that yields a state has one lemma here, named after it, whose proof follows the function's own lets, tests and matches:
from `Keeps s t` for the state it starts from to `Keeps s` of what it yields. The stores themselves change only in
`State.setO`, `State.setBlob`, `State.wb`, in filters of memory, in `State.spoil` and at a reset. -/
namespace Sys2Proof.Machine

section
variable {s t : State}

/-! ## Tests, folds and other shapes of a state -/

section
variable {a b : State} {p : Prop} {dec : Decidable p} {α β : Type} {x y : α × State} {z w : State × α}

theorem Keeps.ite (ha : Keeps s a) (hb : Keeps s b) : Keeps s (if p then a else b) := by
  split
  · exact ha
  · exact hb

theorem Keeps.dite {f : p → State} {g : ¬ p → State} (ha : ∀ hp, Keeps s (f hp)) (hb : ∀ hp, Keeps s (g hp)) :
    Keeps s (if hp : p then f hp else g hp) := by
  split
  · exact ha _
  · exact hb _

/-- A change made only where p holds. -/
theorem Keeps.when (ha : Keeps s a) (hb : Keeps s a → Keeps s b) : Keeps s (if p then b else a) := .ite (hb ha) ha

/-- A change made only where p fails. -/
theorem Keeps.unless (ha : Keeps s a) (hb : Keeps s a → Keeps s b) : Keeps s (if p then a else b) := .ite ha (hb ha)

theorem Keeps.iteSnd (ha : Keeps s x.2) (hb : Keeps s y.2) : Keeps s (if p then x else y).2 := by
  split
  · exact ha
  · exact hb

theorem Keeps.iteFst (ha : Keeps s z.1) (hb : Keeps s w.1) : Keeps s (if p then z else w).1 := by
  split
  · exact ha
  · exact hb

theorem Keeps.fold {f : State → α → State} (hf : ∀ u x, Keeps s u → Keeps s (f u x)) {l : List α} (h : Keeps s t) :
    Keeps s (l.foldl f t) := by
  induction l generalizing t with
  | nil => exact h
  | cons x r ih => exact ih (hf _ _ h)

theorem Keeps.foldFst {f : State × α → β → State × α} (hf : ∀ u x, Keeps s u.1 → Keeps s (f u x).1) {l : List β} {z : State × α}
    (h : Keeps s z.1) : Keeps s (l.foldl f z).1 := by
  induction l generalizing z with
  | nil => exact h
  | cons x r ih => exact ih (hf _ _ h)

theorem Keeps.elim {o : Option α} {f : α → State} (ha : Keeps s a) (hf : ∀ x, Keeps s (f x)) : Keeps s (o.elim a f) := by
  cases o with
  | none => exact ha
  | some x => exact hf x

theorem Keeps.elimSnd {o : Option β} {f : β → α × State} (ha : Keeps s x.2) (hf : ∀ v, Keeps s (f v).2) :
    Keeps s (o.elim x f).2 := by
  cases o with
  | none => exact ha
  | some v => exact hf v

/-- The state of a pair that is known by its parts. -/
theorem Keeps.ofSnd {v : α} (h : Keeps s x.2) (e : x = (v, a)) : Keeps s a := by subst e; exact h

theorem Keeps.ofFst {v : α} (h : Keeps s z.1) (e : z = (a, v)) : Keeps s a := by subst e; exact h

end

/-- The state that stands in an outcome, an option, a result or an effect keeps the form. -/
inductive KeepsOut (s : State) : Out → Prop
  | next {t : State} (h : Keeps s t) : KeepsOut s (.next t)

inductive KeepsOpt (s : State) : Option State → Prop
  | none : KeepsOpt s none
  | some {t : State} (h : Keeps s t) : KeepsOpt s (some t)

inductive KeepsOptSnd {α : Type} (s : State) : Option (α × State) → Prop
  | none : KeepsOptSnd s none
  | some {x : α × State} (h : Keeps s x.2) : KeepsOptSnd s (some x)

inductive KeepsOptFst {α : Type} (s : State) : Option (State × α) → Prop
  | none : KeepsOptFst s none
  | some {x : State × α} (h : Keeps s x.1) : KeepsOptFst s (some x)

inductive KeepsExc {ε : Type} (s : State) : Except ε State → Prop
  | ok {t : State} (h : Keeps s t) : KeepsExc s (.ok t)
  | error {e : ε} : KeepsExc s (.error e)

inductive KeepsExcFst {ε α : Type} (s : State) : Except ε (State × α) → Prop
  | ok {x : State × α} (h : Keeps s x.1) : KeepsExcFst s (.ok x)
  | error {e : ε} : KeepsExcFst s (.error e)

inductive KeepsTriple {α β : Type} (s : State) : α × β × State → Prop
  | mk {x : α × β × State} (h : Keeps s x.2.2) : KeepsTriple s x

inductive KeepsEither {α β : Type} (s : State) : Except (State × α) (State × β) → Prop
  | ok {x : State × β} (h : Keeps s x.1) : KeepsEither s (.ok x)
  | error {x : State × α} (h : Keeps s x.1) : KeepsEither s (.error x)

inductive KeepsEff (s : State) : Eff → Prop
  | done {t : State} {outs routs : List Nat} {goto : Option Nat} (h : Keeps s t) : KeepsEff s (.done t outs routs goto)
  | trap {t : State} {cause taddr : Nat} (h : Keeps s t) : KeepsEff s (.trap t cause taddr)
  | wait : KeepsEff s .wait

section
variable {p : Prop} {dec : Decidable p} {α β ε : Type}

theorem KeepsOut.ite {a b : Out} (ha : KeepsOut s a) (hb : KeepsOut s b) : KeepsOut s (if p then a else b) := by
  split
  · exact ha
  · exact hb

theorem Keeps.ofOut {o : Out} (h : KeepsOut s o) (e : o = .next t) : Keeps s t := by subst e; cases h; assumption

theorem KeepsOpt.ite {a b : Option State} (ha : KeepsOpt s a) (hb : KeepsOpt s b) : KeepsOpt s (if p then a else b) := by
  split
  · exact ha
  · exact hb

theorem KeepsOpt.map {f : α → State} {o : Option α} (hf : ∀ x, Keeps s (f x)) : KeepsOpt s (o.map f) := by
  cases o with
  | none => exact .none
  | some x => exact .some (hf x)

theorem Keeps.getD {o : Option State} (ho : KeepsOpt s o) (h : Keeps s t) : Keeps s (o.getD t) := by
  cases ho with
  | none => exact h
  | some ho => exact ho

theorem Keeps.ofOpt {o : Option State} (h : KeepsOpt s o) (e : o = Option.some t) : Keeps s t := by subst e; cases h; assumption

theorem KeepsOptSnd.ite {a b : Option (α × State)} (ha : KeepsOptSnd s a) (hb : KeepsOptSnd s b) :
    KeepsOptSnd s (if p then a else b) := by
  split
  · exact ha
  · exact hb

theorem Keeps.ofOptSnd {o : Option (α × State)} {v : α} (h : KeepsOptSnd s o) (e : o = Option.some (v, t)) : Keeps s t := by
  subst e; cases h; assumption

theorem KeepsOptFst.ite {a b : Option (State × α)} (ha : KeepsOptFst s a) (hb : KeepsOptFst s b) :
    KeepsOptFst s (if p then a else b) := by
  split
  · exact ha
  · exact hb

theorem Keeps.ofOptFst {o : Option (State × α)} {v : α} (h : KeepsOptFst s o) (e : o = Option.some (t, v)) : Keeps s t := by
  subst e; cases h; assumption

theorem KeepsExc.ite {a b : Except ε State} (ha : KeepsExc s a) (hb : KeepsExc s b) : KeepsExc s (if p then a else b) := by
  split
  · exact ha
  · exact hb

theorem KeepsExc.orAbort {code : Nat} {o : Option State} (h : KeepsOpt s o) : KeepsExc s (Machine.orAbort code o) := by
  cases h with
  | none => exact .error
  | some h => exact .ok h

theorem KeepsOpt.toOption {r : Except ε State} (h : KeepsExc s r) : KeepsOpt s r.toOption := by
  cases h with
  | error => exact .none
  | ok h => exact .some h

theorem Keeps.ofExc {r : Except ε State} (h : KeepsExc s r) (e : r = .ok t) : Keeps s t := by subst e; cases h; assumption

theorem Keeps.ofExcFst {r : Except ε (State × α)} {v : α} (h : KeepsExcFst s r) (e : r = .ok (t, v)) : Keeps s t := by
  subst e; cases h; assumption

theorem KeepsExcFst.ite {a b : Except ε (State × α)} (ha : KeepsExcFst s a) (hb : KeepsExcFst s b) :
    KeepsExcFst s (if p then a else b) := by
  split
  · exact ha
  · exact hb

theorem KeepsEither.ite {a b : Except (State × α) (State × β)} (ha : KeepsEither s a) (hb : KeepsEither s b) :
    KeepsEither s (if p then a else b) := by
  split
  · exact ha
  · exact hb

theorem Keeps.ofOk {r : Except (State × α) (State × β)} {v : β} (h : KeepsEither s r) (e : r = .ok (t, v)) : Keeps s t := by
  subst e; cases h; assumption

theorem Keeps.ofError {r : Except (State × α) (State × β)} {v : α} (h : KeepsEither s r) (e : r = .error (t, v)) : Keeps s t := by
  subst e; cases h; assumption

theorem KeepsEff.ite {a b : Eff} (ha : KeepsEff s a) (hb : KeepsEff s b) : KeepsEff s (if p then a else b) := by
  split
  · exact ha
  · exact hb

end

/-! ## Fields beside the stores -/

theorem Keeps.withNow (h : Keeps s t) {v : Instant} : Keeps s { t with now := v } := h.same rfl rfl rfl

theorem Keeps.withDraws (h : Keeps s t) {v : Nat} : Keeps s { t with draws := v } := h.same rfl rfl rfl

theorem Keeps.withRdata (h : Keeps s t) {v : Nat} : Keeps s { t with rdata := v } := h.same rfl rfl rfl

theorem Keeps.withRbytes (h : Keeps s t) {v : Bytes} : Keeps s { t with rbytes := v } := h.same rfl rfl rfl

theorem Keeps.withTime (h : Keeps s t) {v : TimeSt} : Keeps s { t with time := v } := h.same rfl rfl rfl

theorem Keeps.withCom (h : Keeps s t) {v : ComSt} : Keeps s { t with com := v } := h.same rfl rfl rfl

theorem Keeps.withCores (h : Keeps s t) {v : Vector CoreSt 8} : Keeps s { t with cores := v } := h.same rfl rfl rfl

theorem Keeps.withSlices (h : Keeps s t) {v : Vector SliceSt 4} : Keeps s { t with slices := v } := h.same rfl rfl rfl

theorem Keeps.withAir (h : Keeps s t) {v : AirSt} : Keeps s { t with air := v } := h.same rfl rfl rfl

theorem Keeps.withJobs (h : Keeps s t) {v : JobsSt} : Keeps s { t with jobs := v } := h.same rfl rfl rfl

theorem Keeps.withMac (h : Keeps s t) {v : MacSt} : Keeps s { t with mac := v } := h.same rfl rfl rfl

theorem Keeps.withSteps (h : Keeps s t) {v : StepsSt} : Keeps s { t with steps := v } := h.same rfl rfl rfl

theorem Keeps.withFab (h : Keeps s t) {v : FabSt} : Keeps s { t with fab := v } := h.same rfl rfl rfl

theorem Keeps.withSvc (h : Keeps s t) {v : SvcSt} : Keeps s { t with svc := v } := h.same rfl rfl rfl

theorem Keeps.withShell (h : Keeps s t) {v : ShellSt} : Keeps s { t with shell := v } := h.same rfl rfl rfl

theorem Keeps.withDram (h : Keeps s t) {v : DramSt} : Keeps s { t with dram := v } := h.same rfl rfl rfl

theorem Keeps.withFlash (h : Keeps s t) {v : FlashSt} : Keeps s { t with flash := v } := h.same rfl rfl rfl

theorem Keeps.withPower (h : Keeps s t) {v : PowerSt} : Keeps s { t with power := v } := h.same rfl rfl rfl

theorem Keeps.withBoot (h : Keeps s t) {v : BootSt} : Keeps s { t with boot := v } := h.same rfl rfl rfl

theorem Keeps.withPending (h : Keeps s t) {v : List Instr} : Keeps s { t with pending := v } := h.same rfl rfl rfl

/-! ## Machine/Ops -/

theorem Keeps.setI (h : Keeps s t) (w k v) : Keeps s (t.setI w k v) :=
  .setO h _ _

theorem Keeps.addO (h : Keeps s t) (w k d) : Keeps s (t.addO w k d) :=
  .setO h _ _

theorem Keeps.inc (h : Keeps s t) (k) : Keeps s (t.inc k) :=
  .addO h _ _ _

theorem Keeps.sawBytes (h : Keeps s t) (who a n) : Keeps s (t.sawBytes who a n) :=
  .ite (.withDraws h) h

theorem Keeps.drawn (h : Keeps s t) : Keeps s t.drawn :=
  .withDraws h

theorem Keeps.drawnReq (h : Keeps s t) : Keeps s t.drawnReq :=
  .withShell (.drawn h)

theorem Keeps.wakeBy (h : Keeps s t) (c) : Keeps s (t.wakeBy c) :=
  .ite (.withPower h) h

theorem Keeps.toCore (h : Keeps s t) (c e) : Keeps s (t.toCore c e) :=
  .when (.withCores h) (fun h => .inc (.inc h _) _)

theorem Keeps.toSession (h : Keeps s t) (x m) : Keeps s (t.toSession x m) :=
  .ite (.withCom h) (.inc (.inc (.withCom h) _) _)

theorem Keeps.toSessions (h : Keeps s t) (e) : Keeps s (t.toSessions e) :=
  .fold (fun _ _ h => .ite (.ite (.withCom (.inc (.toSession h _ _) _)) (.toSession h _ _)) h) h

theorem Keeps.logEvent (h : Keeps s t) (e) : Keeps s (t.logEvent e) :=
  .ite (.inc h _) (.when (.setO (.setO (.setO (.withCom h) _ _) _ _) _ _) (fun h => .inc h _))

theorem Keeps.raiseE (h : Keeps s t) (e) : Keeps s (t.raiseE e) :=
  .when (.when (.fold (fun _ _ h => .ite (.toCore h _ _) h) (.inc h _)) (fun h => .toSessions h _)) (fun h => .logEvent h _)

theorem Keeps.raise (h : Keeps s t) (code src arg) : Keeps s (t.raise code src arg) :=
  .raiseE h _

theorem Keeps.raiseFw (h : Keeps s t) (code src arg data) : Keeps s (t.raiseFw code src arg data) :=
  .toSessions (.inc h _) _

theorem Keeps.miss (h : Keeps s t) (cls src t') : Keeps s (t.miss cls src t') :=
  .withTime (.setO (.setO (.setO h _ _) _ _) _ _)

theorem Keeps.missSlice (h : Keeps s t) (n cls t') : Keeps s (t.missSlice n cls t') :=
  .setO (.miss h _ _ _) _ _

theorem Keeps.dropRecord (h : Keeps s t) (addr value who cause) : Keeps s (t.dropRecord addr value who cause) :=
  .setO (.setO (.setO (.setO (.setO (.inc (.ite (.setO h _ _) h) _) _ _) _ _) _ _) _ _) _ _

theorem Keeps.dropMark (h : Keeps s t) : Keeps s t.dropMark :=
  .withCom h

theorem Keeps.dropped (h : Keeps s t) (addr value who cause) : Keeps s (t.dropped addr value who cause) :=
  .unless (.dropRecord h _ _ _ _) (fun h => .raise (.dropMark h) _ _ _)

theorem Keeps.upTo (h : Keeps s t) (t') : Keeps s (t.upTo t') :=
  .withNow h

theorem Keeps.modTc (h : Keeps s t) (n f) : Keeps s (t.modTc n f) :=
  .withTime h

theorem Keeps.modPanel (h : Keeps s t) (k f) : Keeps s (t.modPanel k f) :=
  .withTime h

theorem Keeps.modCore (h : Keeps s t) (c f) : Keeps s (t.modCore c f) :=
  .withCores h

theorem Keeps.modSess (h : Keeps s t) (x f) : Keeps s (t.modSess x f) :=
  .withCom h

/-! ## Machine/Shell -/

theorem Keeps.countSlots (h : Keeps s t) : Keeps s t.countSlots :=
  .setO h _ _

theorem Keeps.setMark (h : Keeps s t) (k m) : Keeps s (t.setMark k m) :=
  .withShell h

theorem Keeps.judgeCtr (h : Keeps s t) (k) : Keeps s (t.judgeCtr k) :=
  .when (.setO (.when (.setO h _ _) (fun h => .raise h _ _ _)) _ _) (fun h => .raise (.withShell h) _ _ _)

theorem KeepsOptSnd.assignCtr (h : Keeps s t) (k use) : KeepsOptSnd s (t.assignCtr k use) :=
  .ite (.ite (.some (.setO h _ _)) (.some (.judgeCtr (.setO h _ _) _))) .none

theorem Keeps.emptySlot (h : Keeps s t) (k) : Keeps s (t.emptySlot k) :=
  .withShell (.setMark (.when (.setO (.setO (.setO h _ _) _ _) _ _) (fun h => .setO h _ _)) _ _)

theorem Keeps.loadSlot (h : Keeps s t) (k ty uses flags origin key) : Keeps s (t.loadSlot k ty uses flags origin key) := by
  dsimp only [State.loadSlot]
  refine .countSlots (.judgeCtr (.ite ?_ (.setO (.setO (.setMark (.setO (.withShell h) _ _) _ _) _ _) _ _)) _)
  split
  · exact .setO (.setO (.setMark (.setO (.withShell h) _ _) _ _) _ _) _ _
  · exact .when (.setO (.setO (.setMark (.setO (.withShell h) _ _) _ _) _ _) _ _) (fun h => .setO h _ _)

theorem Keeps.drbg (h : Keeps s t) (n) : Keeps s (t.drbg n).2 :=
  .same h rfl rfl rfl

theorem Keeps.shellCmd (h : Keeps s t) (who code level) {body : State → Nat × State}
    (hbody : ∀ u, Keeps s u → Keeps s (body u).2) : Keeps s (t.shellCmd who code level body) :=
  .ite (.raise (.setO h _ _) _ _ _) (.withShell (.iteSnd h (.iteSnd h (hbody _ (.setBlob h _ _)))))

theorem Keeps.loadChecked (h : Keeps s t) (ty uses flags origin key) : Keeps s (t.loadChecked ty uses flags origin key).2 :=
  .iteSnd h (.loadSlot h _ _ _ _ _ _)

theorem Keeps.generateBody (h : Keeps s t) : Keeps s t.generateBody.2 :=
  .iteSnd h (.iteSnd h (.iteSnd h (.iteSnd h (.loadChecked (.when (.drbg h _) (fun h => .setBlob h _ _)) _ _ _ _ _))))

theorem Keeps.shlGenerate (h : Keeps s t) (who) : Keeps s (t.shlGenerate who) :=
  .shellCmd h _ _ _ (fun _ h => .generateBody h)

theorem Keeps.keepBlob (h : Keeps s t) (k arg) : Keeps s (t.keepBlob k arg) :=
  .withBoot h

theorem Keeps.importBody (h : Keeps s t) : Keeps s t.importBody.2 := by
  dsimp only [State.importBody]
  refine .iteSnd h (.iteSnd h (.iteSnd h (.iteSnd h (.iteSnd h (.iteSnd h ?_)))))
  split
  · exact h
  · exact .iteSnd h (.when (.loadChecked h _ _ _ _ _) (fun h => .keepBlob h _ _))

theorem Keeps.shlImport (h : Keeps s t) (who) : Keeps s (t.shlImport who) :=
  .shellCmd h _ _ _ (fun _ h => .importBody h)

theorem Keeps.exportBody (h : Keeps s t) : Keeps s t.exportBody.2 :=
  .iteSnd h (.iteSnd h (.iteSnd h (.iteSnd h (.iteSnd h (.iteSnd h (.setBlob h _ _))))))

theorem Keeps.shlExport (h : Keeps s t) (who) : Keeps s (t.shlExport who) :=
  .shellCmd h _ _ _ (fun _ h => .exportBody h)

theorem Keeps.agreeBody (h : Keeps s t) : Keeps s t.agreeBody.2 := by
  dsimp only [State.agreeBody]
  refine .iteSnd h (.iteSnd h (.iteSnd h (.iteSnd h ?_)))
  split
  · exact h
  · exact .loadChecked h _ _ _ _ _

theorem Keeps.shlAgree (h : Keeps s t) (who) : Keeps s (t.shlAgree who) :=
  .shellCmd h _ _ _ (fun _ h => .agreeBody h)

theorem Keeps.deriveBody (h : Keeps s t) : Keeps s t.deriveBody.2 :=
  .iteSnd h (.iteSnd h (.iteSnd h (.iteSnd h (.loadChecked h _ _ _ _ _))))

theorem Keeps.shlDerive (h : Keeps s t) (who) : Keeps s (t.shlDerive who) :=
  .shellCmd h _ _ _ (fun _ h => .deriveBody h)

theorem Keeps.eraseBody (h : Keeps s t) : Keeps s t.eraseBody.2 :=
  .iteSnd h (.keepBlob (.countSlots (.emptySlot h _)) _ _)

theorem Keeps.shlErase (h : Keeps s t) (who) : Keeps s (t.shlErase who) :=
  .shellCmd h _ _ _ (fun _ h => .eraseBody h)

theorem Keeps.restrictBody (h : Keeps s t) : Keeps s t.restrictBody.2 :=
  .iteSnd h (.iteSnd h (.iteSnd h (.setO h _ _)))

theorem Keeps.shlRestrict (h : Keeps s t) (who) : Keeps s (t.shlRestrict who) :=
  .shellCmd h _ _ _ (fun _ h => .restrictBody h)

theorem Keeps.ctrSyncBody (h : Keeps s t) : Keeps s t.ctrSyncBody.2 := by
  dsimp only [State.ctrSyncBody]
  refine .iteSnd h (.iteSnd h ?_)
  split
  · exact .judgeCtr (.setMark h _ _) _
  · exact .judgeCtr (.setO (.setMark h _ _) _ _) _

theorem Keeps.shlCtrSync (h : Keeps s t) (who) : Keeps s (t.shlCtrSync who) :=
  .shellCmd h _ _ _ (fun _ h => .ctrSyncBody h)

theorem Keeps.permitBody (h : Keeps s t) : Keeps s t.permitBody.2 :=
  .iteSnd h (.iteSnd h (.withShell h))

theorem Keeps.shlPermit (h : Keeps s t) (who) : Keeps s (t.shlPermit who) :=
  .shellCmd h _ _ _ (fun _ h => .permitBody h)

theorem Keeps.attestBody (h : Keeps s t) : Keeps s t.attestBody.2 :=
  .setBlob h _ _

theorem Keeps.shlAttest (h : Keeps s t) (who) : Keeps s (t.shlAttest who) :=
  .shellCmd h _ _ _ (fun _ h => .attestBody h)

theorem Keeps.pubkeyBody (h : Keeps s t) : Keeps s t.pubkeyBody.2 :=
  .iteSnd h (.iteSnd h (.setBlob h _ _))

theorem Keeps.shlPubkey (h : Keeps s t) (who) : Keeps s (t.shlPubkey who) :=
  .shellCmd h _ _ _ (fun _ h => .pubkeyBody h)

theorem Keeps.signBody (h : Keeps s t) : Keeps s t.signBody.2 :=
  .iteSnd h (.iteSnd h (.iteSnd h (.setBlob h _ _)))

theorem Keeps.shlSign (h : Keeps s t) (who) : Keeps s (t.shlSign who) :=
  .shellCmd h _ _ _ (fun _ h => .signBody h)

theorem Keeps.verifyBody (h : Keeps s t) : Keeps s t.verifyBody.2 :=
  .iteSnd h (.iteSnd h h)

theorem Keeps.shlVerify (h : Keeps s t) (who) : Keeps s (t.shlVerify who) :=
  .shellCmd h _ _ _ (fun _ h => .verifyBody h)

theorem Keeps.setOwnerBody (h : Keeps s t) : Keeps s t.setOwnerBody.2 :=
  .iteSnd h (.withShell h)

theorem Keeps.shlSetOwner (h : Keeps s t) (who) : Keeps s (t.shlSetOwner who) :=
  .shellCmd h _ _ _ (fun _ h => .setOwnerBody h)

theorem execShlGenerate_keeps (h : Keeps s t) (who) : KeepsOut s (execShlGenerate who t) :=
  .next (.shlGenerate h _)

theorem execShlImport_keeps (h : Keeps s t) (who) : KeepsOut s (execShlImport who t) :=
  .next (.shlImport h _)

theorem execShlExport_keeps (h : Keeps s t) (who) : KeepsOut s (execShlExport who t) :=
  .next (.shlExport h _)

theorem execShlAgree_keeps (h : Keeps s t) (who) : KeepsOut s (execShlAgree who t) :=
  .next (.shlAgree h _)

theorem execShlDerive_keeps (h : Keeps s t) (who) : KeepsOut s (execShlDerive who t) :=
  .next (.shlDerive h _)

theorem execShlErase_keeps (h : Keeps s t) (who) : KeepsOut s (execShlErase who t) :=
  .next (.shlErase h _)

theorem execShlRestrict_keeps (h : Keeps s t) (who) : KeepsOut s (execShlRestrict who t) :=
  .next (.shlRestrict h _)

theorem execShlCtrSync_keeps (h : Keeps s t) (who) : KeepsOut s (execShlCtrSync who t) :=
  .next (.shlCtrSync h _)

theorem execShlPermit_keeps (h : Keeps s t) (who) : KeepsOut s (execShlPermit who t) :=
  .next (.shlPermit h _)

theorem execShlAttest_keeps (h : Keeps s t) (who) : KeepsOut s (execShlAttest who t) :=
  .next (.shlAttest h _)

theorem execShlPubkey_keeps (h : Keeps s t) (who) : KeepsOut s (execShlPubkey who t) :=
  .next (.shlPubkey h _)

theorem execShlSign_keeps (h : Keeps s t) (who) : KeepsOut s (execShlSign who t) :=
  .next (.shlSign h _)

theorem execShlVerify_keeps (h : Keeps s t) (who) : KeepsOut s (execShlVerify who t) :=
  .next (.shlVerify h _)

theorem execShlSetOwner_keeps (h : Keeps s t) (who) : KeepsOut s (execShlSetOwner who t) :=
  .next (.shlSetOwner h _)

theorem Keeps.shlCommand (h : Keeps s t) (who code) : Keeps s (t.shlCommand who code) := by
  dsimp only [State.shlCommand]
  split
  · exact .shlGenerate h _
  · exact .shlImport h _
  · exact .shlExport h _
  · exact .shlAgree h _
  · exact .shlDerive h _
  · exact .shlErase h _
  · exact .shlRestrict h _
  · exact .shlCtrSync h _
  · exact .shlPermit h _
  · exact .shlAttest h _
  · exact .shlPubkey h _
  · exact .shlSign h _
  · exact .shlVerify h _
  · exact .shlSetOwner h _
  · exact h

theorem Keeps.shellEnd (h : Keeps s t) : Keeps s t.shellEnd := by
  dsimp only [State.shellEnd]
  split
  · exact h
  · exact .raise (.setO (.withShell h) _ _) _ _ _

theorem execShellReady_keeps (h : Keeps s t) : KeepsOut s (execShellReady t) :=
  .ite (.next (.setO (.ite (.loadSlot (.loadSlot h _ _ _ _ _ _) _ _ _ _ _ _) (.countSlots (.emptySlot (.loadSlot h _ _ _ _ _ _)
    _))) _ _)) (.next h)

theorem execDrbgReseed_keeps (h : Keeps s t) : KeepsOut s (execDrbgReseed t) :=
  .ite (.next (.withShell h)) (.next h)

theorem execRngFail_keeps (h : Keeps s t) : KeepsOut s (execRngFail t) :=
  .next (.raise (.inc (.setO h _ _) _) _ _ _)

theorem execRngRecover_keeps (h : Keeps s t) (windows) : KeepsOut s (execRngRecover windows t) :=
  .ite (.next (.withShell (.setO h _ _))) (.next h)

theorem Keeps.measExtend (h : Keeps s t) (i v) : Keeps s (t.measExtend i v) :=
  .setBlob h _ _

theorem execMeasExtend_keeps (h : Keeps s t) (who i v) : KeepsOut s (execMeasExtend who i v t) := by
  dsimp only [execMeasExtend]
  split
  · exact .next h
  · exact .ite (.next (.measExtend h _ _)) (.next h)

/-! ## Machine/Ledger -/

theorem Keeps.modSlice (h : Keeps s t) (n f) : Keeps s (t.modSlice n f) :=
  .withSlices h

theorem Keeps.modJobs (h : Keeps s t) (f) : Keeps s (t.modJobs f) :=
  .withJobs h

theorem Keeps.modPool (h : Keeps s t) (p f) : Keeps s (t.modPool p f) :=
  .modJobs h _

theorem Keeps.linkChain (h : Keeps s t) (p l) : Keeps s (State.linkChain t p l) := by
  induction l generalizing t with
  | nil => exact h
  | cons c r ih =>
    cases r with
    | nil => exact .wn h _ _ _
    | cons d r => exact ih (.wn h _ _ _)

theorem Keeps.takeCells (h : Keeps s t) (p n keep) : Keeps s (t.takeCells p n keep).2 :=
  .iteSnd h (.iteSnd (.inc h _) (.when (.linkChain (.modPool (.withDraws h) _ _) _ _) (fun h => .raise (.modPool h _ _) _ _ _)))

theorem Keeps.syncHeld (h : Keeps s t) : Keeps s t.syncHeld :=
  .fold (fun _ _ h => .setO h _ _) h

theorem Keeps.returnCells (h : Keeps s t) (p cs) : Keeps s (t.returnCells p cs) := by
  dsimp only [State.returnCells]
  split
  · exact h
  · exact .when (.modPool h _ _) (fun h => .syncHeld h)

theorem Keeps.holdCells (h : Keeps s t) (p cs) : Keeps s (t.holdCells p cs) := by
  dsimp only [State.holdCells]
  split
  · exact h
  · exact .modPool h _ _

theorem Keeps.fillCells (h : Keeps s t) (p l b) : Keeps s (State.fillCells t p l b) := by
  induction l generalizing t b with
  | nil => exact h
  | cons c r ih => exact ih (.wbs h) _

theorem Keeps.writeRecord (h : Keeps s t) (a ticket st kind cause origin sel done flags ref tag) : Keeps s (t.writeRecord a
    ticket st kind cause origin sel done flags ref tag) :=
  .wn (.wbs h) _ _ _

theorem Keeps.recordState (h : Keeps s t) (a st) : Keeps s (t.recordState a st) :=
  .wn (.wn h _ _ _) _ _ _

theorem Keeps.recordEnd (h : Keeps s t) (a st cause done flags) : Keeps s (t.recordEnd a st cause done flags) :=
  .unless (.inc (.recordState (.wn (.wn (.wn h _ _ _) _ _ _) _ _ _) _ _) _) (fun h => .inc h _)

theorem Keeps.newRecord (h : Keeps s t) (st kind origin sel ref tag) : Keeps s (t.newRecord st kind origin sel ref tag).2 :=
  .iteSnd (.setO (.writeRecord h _ _ _ _ _ _ _ _ _ _ _) _ _) (.inc h _)

/-! ## Machine/Air -/

theorem Keeps.modAir (h : Keeps s t) (f) : Keeps s (t.modAir f) :=
  .withAir h

theorem Keeps.putCell (h : Keeps s t) (x) : Keeps s (t.putCell x) :=
  .modAir h _

theorem Keeps.bktSum (h : Keeps s t) (k) : Keeps s (t.bktSum k) :=
  .setO h _ _

theorem Keeps.airRefuse (h : Keeps s t) (n code acct) : Keeps s (t.airRefuse n code acct) :=
  .ite (.inc (.setO (.inc h _) _ _) _) (.when (.setO (.inc h _) _ _) (fun h => .inc h _))

theorem Keeps.airReserve (h : Keeps s t) (n bs r ack) : Keeps s (t.airReserve n bs r ack).2 := by
  dsimp only [State.airReserve]
  split
  · exact .airRefuse h _ _ _
  · exact .inc (.fold (fun _ _ h => .putCell h _) (.fold (fun _ _ h => .addO (.addO h _ _ _) _ _ _) h)) _

theorem Keeps.settleBkt (h : Keeps s t) (k r a) : Keeps s (t.settleBkt k r a) :=
  .bktSum (.modAir (.addO (.addO (.setO h _ _) _ _ _) _ _ _) _) _

theorem Keeps.airSettle (h : Keeps s t) (ks cs r a) : Keeps s (t.airSettle ks cs r a) :=
  .fold (fun _ _ h => .putCell h _) (.fold (fun _ _ h => .settleBkt h _ _ _) h)

theorem Keeps.turnAccounts (h : Keeps s t) (epoch m) : Keeps s (t.turnAccounts epoch m) :=
  .ite h (.fold (fun _ _ h => .ite (.putCell h _) h) (.fold (fun _ _ h => .ite (.bktSum (.modAir h _) _) h) h))

theorem Keeps.airTurn (h : Keeps s t) : Keeps s t.airTurn :=
  .modAir (.turnAccounts (.turnAccounts h _ _) _ _) _

theorem execAirtimeBinTurnover_keeps (h : Keeps s t) : KeepsOut s (execAirtimeBinTurnover t) :=
  .next (.airTurn h)

theorem Keeps.dwlMax (h : Keeps s t) (t') : Keeps s (t.dwlMax t') :=
  .setO (.setO h _ _) _ _

theorem Keeps.loadRegion (h : Keeps s t) (region) : Keeps s (t.loadRegion region) :=
  .ite h (.fold (fun _ _ h => .setO (.setO (.setO (.setO (.setO (.setO (.setO (.setO h _ _) _ _) _ _) _ _) _ _) _ _) _ _) _ _)
    (.fold (fun _ _ h => .setO (.setO (.setO (.setO (.setO (.setO (.setO (.setO h _ _) _ _) _ _) _ _) _ _) _ _) _ _) _ _) (.fold
    (fun _ _ h => .setO h _ _) (.fold (fun _ _ h => .setO h _ _) h))))

theorem Keeps.clearBins (h : Keeps s t) : Keeps s t.clearBins :=
  .fold (fun _ _ h => .setO h _ _) (.modAir h _)

theorem Keeps.regionChange (h : Keeps s t) (region) : Keeps s (t.regionChange region) :=
  .ite h (.loadRegion (.setO (.clearBins h) _ _) _)

theorem Keeps.regionHold (h : Keeps s t) (used) : Keeps s (t.regionHold used) :=
  .ite (.setO h _ _) h

theorem Keeps.airTestCeil (h : Keeps s t) (k) : Keeps s (t.airTestCeil k) :=
  .ite (.ite (.setO h _ _) (.ite (.setO h _ _) h)) h

/-! ## Machine/Ecc -/

theorem Keeps.modDram (h : Keeps s t) (f) : Keeps s (t.modDram f) :=
  .withDram h

theorem Keeps.dramCe (h : Keeps s t) (c) : Keeps s (t.dramCe c) :=
  .unless (.modDram (.withPower (.inc h _)) _) (fun h => .raise h _ _ _)

theorem Keeps.dramUe (h : Keeps s t) (c a) : Keeps s (t.dramUe c a) :=
  .raise (.modDram (.setO (.inc h _) _ _) _) _ _ _

theorem Keeps.dramCheck (h : Keeps s t) (c a err) : Keeps s (t.dramCheck c a err).2 :=
  .iteSnd (.dramUe h _ _) (.iteSnd (.dramCe h _) h)

theorem Keeps.dramLook (h : Keeps s t) (a n) : Keeps s (t.dramLook a n) := by
  dsimp only [State.dramLook]
  split
  · exact .dramUe h _ _
  · exact h

theorem Keeps.dramHeal (h : Keeps s t) (a n) : Keeps s (t.dramHeal a n) :=
  .modDram h _

theorem Keeps.dramPart (h : Keeps s t) (a) : Keeps s (t.dramPart a) :=
  .ite (.dramCheck h _ _ _) h

theorem Keeps.dramEdges (h : Keeps s t) (a n) : Keeps s (t.dramEdges a n) :=
  .ite h (.unless (.ite h (.dramPart h _)) (fun h => .dramPart h _))

theorem Keeps.hwWrite (h : Keeps s t) (a b) : Keeps s (t.hwWrite a b) :=
  .ite (.dramHeal (.wbs (.dramEdges h _ _)) _ _) h

/-! ## Machine/Array -/

theorem Keeps.modFlash (h : Keeps s t) (f) : Keeps s (t.modFlash f) :=
  .withFlash h

theorem Keeps.modBank (h : Keeps s t) (b f) : Keeps s (t.modBank b f) :=
  .modFlash h _

theorem Keeps.flashWarn (h : Keeps s t) (area l) : Keeps s (t.flashWarn area l) :=
  .ite h (.raise (.modBank h _ _) _ _ _)

theorem Keeps.meetUnit (h : Keeps s t) (a cb) : Keeps s (t.meetUnit a cb) :=
  .ite h (.ite (.modFlash h _) (.modFlash h _))

theorem Keeps.readNoted (h : Keeps s t) (u) : Keeps s (t.readNoted u).2 :=
  .iteSnd (.raise (.setO (.inc h _) _ _) _ _ _) (.iteSnd (.flashWarn (.unless (.addO h _ _ _) (fun h => .inc (.modBank h _ _) _))
    _ _) (.addO h _ _ _))

theorem Keeps.flashRead (h : Keeps s t) (a cb) : Keeps s (t.flashRead a cb).2 :=
  .readNoted (.meetUnit h _ _) _

theorem Keeps.readOver (h : Keeps s t) (a e) : Keeps s (t.readOver a e).2 := by
  dsimp only [State.readOver]
  split
  · exact .readNoted (.fold (fun _ _ h => .readNoted h _) h) _
  · exact .fold (fun _ _ h => .readNoted h _) h

theorem Keeps.unitsNew (h : Keeps s t) (a e) : Keeps s (t.unitsNew a e) :=
  .modFlash h _

theorem Keeps.flashShow (h : Keeps s t) : Keeps s t.flashShow :=
  .setO (.fold (fun _ _ h => .setO (.setO (.setO h _ _) _ _) _ _) h) _ _

theorem Keeps.wearOne (h : Keeps s t) (b p) : Keeps s (t.wearOne b p) :=
  .setO (.inc (.modBank h _ _) _) _ _

theorem Keeps.blankSector (h : Keeps s t) (area l) : Keeps s (t.blankSector area l) := .unitsNew (.memFilter h _) _ _

/-! ## Machine/Jobs -/

theorem Keeps.modCrc (h : Keeps s t) (u f) : Keeps s (t.modCrc u f) :=
  .modJobs h _

theorem Keeps.crcFlag (h : Keeps s t) (u b x) : Keeps s (t.crcFlag u b x) :=
  .setO h _ _

theorem Keeps.crcShow (h : Keeps s t) (u) : Keeps s (t.crcShow u) :=
  .setO h _ _

theorem Keeps.crcSet (h : Keeps s t) (u r) : Keeps s (t.crcSet u r) :=
  .crcShow (.modCrc h _ _) _

theorem Keeps.crcOwn (h : Keeps s t) (u t') : Keeps s (t.crcOwn u t') :=
  .crcFlag (.crcFlag (.modCrc h _ _) _ _ _) _ _ _

theorem Keeps.crcJudge (h : Keeps s t) (u expect) : Keeps s (t.crcJudge u expect) :=
  .ite (.crcFlag h _ _ _) (.raise (.inc (.crcFlag h _ _ _) _) _ _ _)

theorem Keeps.crcCompare (h : Keeps s t) (u) : Keeps s (t.crcCompare u) :=
  .ite (.crcJudge h _ _) h

theorem Keeps.crcStart (h : Keeps s t) (u) : Keeps s (t.crcStart u) :=
  .crcCompare (.crcFlag (.crcFlag (.crcFlag (.setO (.crcSet h _ _) _ _) _ _ _) _ _ _) _ _ _) _

theorem Keeps.crcFeed1 (h : Keeps s t) (u b) : Keeps s (t.crcFeed1 u b) :=
  .ite (.crcFlag h _ _ _) (.crcCompare (.setO (.crcSet h _ _) _ _) _)

theorem Keeps.crcFeed (h : Keeps s t) (u l) : Keeps s (t.crcFeed u l) :=
  .fold (fun _ _ h => .crcFeed1 h _ _) h

theorem Keeps.crcFeedPlain (h : Keeps s t) (u l) : Keeps s (t.crcFeedPlain u l) :=
  .fold (fun _ _ h => .setO (.crcSet h _ _) _ _) h

theorem Keeps.crcData (h : Keeps s t) (who u width v) : Keeps s (t.crcData who u width v) :=
  .ite (.dropped h _ _ _ _) (.crcFeed h _ _)

theorem execCrcDataFeed_keeps (h : Keeps s t) (who u width v) : KeepsOut s (execCrcDataFeed who u width v t) :=
  .next (.crcData h _ _ _ _)

theorem KeepsOpt.crcCmd (h : Keeps s t) (u) : KeepsOpt s (t.crcCmd u) :=
  .ite .none (.some (.crcStart h _))

theorem execCrcStart_keeps (h : Keeps s t) (who u) : KeepsOut s (execCrcStart who u t) :=
  .next (.getD (.crcCmd h _) (.dropped h _ _ _ _))

theorem Keeps.crcClear (h : Keeps s t) (u v) : Keeps s (t.crcClear u v) :=
  .ite (.crcFlag (.ite (.crcFlag (.ite (.crcFlag h _ _ _) h) _ _ _) (.ite (.crcFlag h _ _ _) h)) _ _ _) (.ite (.crcFlag (.ite
    (.crcFlag h _ _ _) h) _ _ _) (.ite (.crcFlag h _ _ _) h))

theorem execCrcFlagsClear_keeps (h : Keeps s t) (u v) : KeepsOut s (execCrcFlagsClear u v t) :=
  .next (.crcClear h _ _)

theorem Keeps.setTicket (h : Keeps s t) (c t') : Keeps s (t.setTicket c t') :=
  .modCore h _ _

theorem Keeps.jobOver (h : Keeps s t) (c t' d st cause done flags) : Keeps s (t.jobOver c t' d st cause done flags) :=
  .when (.fold (fun _ _ h => .ite (.crcOwn h _ _) h) (.setO (.modJobs (.recordEnd h _ _ _ _ _) _) _ _)) (fun h => .toCore h _ _)

theorem Keeps.checkJob (h : Keeps s t) (c d t') : Keeps s (t.checkJob c d t').2 :=
  .iteSnd (.jobOver h _ _ _ _ _ _ _) (.iteSnd (.jobOver h _ _ _ _ _ _ _) (.iteSnd (.jobOver h _ _ _ _ _ _ _) (.iteSnd (.jobOver h
    _ _ _ _ _ _ _) (.modJobs h _))))

theorem Keeps.acceptJob (h : Keeps s t) (c a) : Keeps s (t.acceptJob c a).2 :=
  .elimSnd (.setTicket (.newRecord (.sawBytes h _ _ _) _ _ _ _ _ _) _ _) (fun _ => .checkJob (.setTicket (.newRecord (.sawBytes h
    _ _ _) _ _ _ _ _ _) _ _) _ _ _)

theorem Keeps.jobSubmit (h : Keeps s t) (c a) : Keeps s (t.jobSubmit c a).2 :=
  .iteSnd (.acceptJob h _ _) (.dropped (.setTicket h _ _) _ _ _ _)

theorem Keeps.submitKind (h : Keeps s t) (c a kind) : Keeps s (t.submitKind c a kind) :=
  .ite h (.jobSubmit h _ _)

theorem execJobCopy_keeps (h : Keeps s t) (who a) : KeepsOut s (execJobCopy who a t) :=
  .next (.submitKind h _ _ _)

theorem execJobFill_keeps (h : Keeps s t) (who a) : KeepsOut s (execJobFill who a t) :=
  .next (.submitKind h _ _ _)

theorem execJobCipher_keeps (h : Keeps s t) (who a) : KeepsOut s (execJobCipher who a t) :=
  .next (.submitKind h _ _ _)

theorem execJobHash_keeps (h : Keeps s t) (who a) : KeepsOut s (execJobHash who a t) :=
  .next (.submitKind h _ _ _)

theorem Keeps.submitCrc (h : Keeps s t) (c a cmode) : Keeps s (t.submitCrc c a cmode) :=
  .ite h (.jobSubmit h _ _)

theorem execJobCrcFeed_keeps (h : Keeps s t) (who a) : KeepsOut s (execJobCrcFeed who a t) :=
  .next (.submitCrc h _ _ _)

theorem execJobCrcAppend_keeps (h : Keeps s t) (who a) : KeepsOut s (execJobCrcAppend who a t) :=
  .next (.submitCrc h _ _ _)

theorem execJobCrcStrip_keeps (h : Keeps s t) (who a) : KeepsOut s (execJobCrcStrip who a t) :=
  .next (.submitCrc h _ _ _)

theorem Keeps.jobMissed (h : Keeps s t) (x) : Keeps s (t.jobMissed x) :=
  .jobOver (.miss h _ _ _) _ _ _ _ _ _ _

theorem Keeps.jobStart (h : Keeps s t) : Keeps s t.jobStart := by
  dsimp only [State.jobStart]
  refine .ite ?_ h
  split
  · exact h
  · exact .ite (.jobMissed h _) (.when (.setO (.modJobs (.recordState h _ _) _) _ _) (fun h => .crcOwn h _ _))

theorem Keeps.jobWork1 (h : Keeps s t) (d b n whole) : Keeps s (t.jobWork1 d b n whole) := by
  dsimp only [State.jobWork1]
  split
  · exact .putBytes h
  · exact .putBytes h
  · exact .ite (.ite (.putBytes h) h) (.putBytes h)
  · exact .ite (.putBytes h) h
  · split
    · exact .crcFeed h _ _
    · exact .when (.putBytes (.crcFeed (.crcStart h _) _ _)) (fun h => .putBytes h)
    · exact .when (.putBytes (.crcFeedPlain (.crcFlag (.crcFlag (.crcFlag (.setO (.crcSet h _ _) _ _) _ _ _) _ _ _) _ _ _) _ _))
        (fun h => .crcJudge h _ _)
  · exact h

theorem Keeps.clashByte (h : Keeps s t) (old a) : Keeps s (t.clashByte old a) := .ite (.withDraws h) (.wb (.withDraws h) _ _)

theorem Keeps.clashBytes (h : Keeps s t) (old l a n) : Keeps s (t.clashBytes old l a n) := .fold (fun _ _ h => .clashByte h _ _) h

theorem Keeps.jobWork (h : Keeps s t) (x n whole) : Keeps s (t.jobWork x n whole) :=
  .unless (.sawBytes (.jobWork1 h _ _ _ _) _ _ _) (fun h => .clashBytes h _ _ _ _)

theorem Keeps.clashNote (h : Keeps s t) (x n) : Keeps s (t.clashNote x n) :=
  .modJobs h _

theorem Keeps.jobsKeepSrc (h : Keeps s t) (lo n) : Keeps s (t.jobsKeepSrc lo n) :=
  .modJobs h _

theorem Keeps.readSrc (h : Keeps s t) (d n) : Keeps s (t.readSrc d n) :=
  .ite (.dramLook (.readOver h _ _) _ _) h

theorem Keeps.jobWrites (h : Keeps s t) (x n whole) : Keeps s (t.jobWrites x n whole) :=
  .clashNote (.dramHeal (.jobWork (.dramEdges h _ _) _ _ _) _ _) _ _

theorem Keeps.jobEnd (h : Keeps s t) (t' units begun lines) : Keeps s (t.jobEnd t' units begun lines) := by
  dsimp only [State.jobEnd]
  split
  · exact h
  · split
    · exact .jobOver (.jobWrites (.readSrc (.fold (fun _ _ h => .meetUnit h _ _) h) _ _) _ _ _) _ _ _ _ _ _ _
    · exact .jobOver (.when (.when (.when (.unless (.fold (fun _ _ h => .meetUnit h _ _) h) (fun h => .readSrc h _ _)) (fun h =>
        .jobWrites h _ _ _)) (fun h => .scramble h _ _)) (fun h => .dropped h _ _ _ _)) _ _ _ _ _ _ _

theorem execJobEnd_keeps (h : Keeps s t) (t' units begun lines) : KeepsOut s (execJobEnd t' units begun lines t) :=
  .next (.jobEnd h _ _ _ _)

theorem execJobDeadline_keeps (h : Keeps s t) (t') : KeepsOut s (execJobDeadline t' t) := by
  dsimp only [execJobDeadline]
  split
  · exact .next h
  · exact .next (.jobMissed (.upTo h _) _)

theorem Keeps.recoverRecord (h : Keeps s t) (t') : Keeps s (t.recoverRecord t') :=
  .ite (.addO (.recordEnd h _ _ _ _ _) _ _ _) h

theorem execJobRecovery_keeps (h : Keeps s t) : KeepsOut s (execJobRecovery t) :=
  .ite (.next (.fold (fun _ _ h => .recoverRecord h _) (.modJobs h _))) (.next h)

theorem KeepsOpt.ledCons (h : Keeps s t) (v) : KeepsOpt s (t.ledCons v) :=
  .ite (.some (.setO h _ _)) .none

theorem execJobLedConsWrite_keeps (h : Keeps s t) (who v) : KeepsOut s (execJobLedConsWrite who v t) :=
  .next (.getD (.ledCons h _) (.dropped h _ _ _ _))

theorem KeepsOpt.poolRelease (h : Keeps s t) (p c) : KeepsOpt s (t.poolRelease p c) :=
  .ite (.some (.when (.modPool h _ _) (fun h => .syncHeld h))) .none

theorem execPoolFree_keeps (h : Keeps s t) (who p c) : KeepsOut s (execPoolFree who p c t) :=
  .next (.getD (.poolRelease h _ _) (.dropped (.inc h _) _ _ _ _))

theorem Keeps.snapLatch (h : Keeps s t) : Keeps s t.snapLatch :=
  .modJobs h _

theorem execSnapshotPublish_keeps (h : Keeps s t) : KeepsOut s (execSnapshotPublish t) := by
  dsimp only [execSnapshotPublish]
  split
  · exact .next h
  · exact .next (.modJobs (.setO (.setO (.wbs h) _ _) _ _) _)

/-! ## Machine/Steps -/

theorem Keeps.modSteps (h : Keeps s t) (f) : Keeps s (t.modSteps f) :=
  .withSteps h

theorem Keeps.setDesc (h : Keeps s t) (fabric n i st) : Keeps s (t.setDesc fabric n i st) :=
  .setO (.wn h _ _ _) _ _

theorem Keeps.modJob (h : Keeps s t) (t' f) : Keeps s (t.modJob t' f) :=
  .modSteps h _

theorem Keeps.stepsOver (h : Keeps s t) (j) : Keeps s (t.stepsOver j) := by
  dsimp only [State.stepsOver]
  split
  · exact .jobOver (.wn (.modSteps h _) _ _ _) _ _ _ _ _ _ _
  · exact .recordEnd (.wn (.modSteps h _) _ _ _) _ _ _ _ _

theorem Keeps.stepEnd (h : Keeps s t) (t' k cause) : Keeps s (t.stepEnd t' k cause) := by
  dsimp only [State.stepEnd]
  split
  · exact h
  · exact .ite h (.ite (.stepsOver (.ite (.inc (.modJob h _ _) _) (.when (.modJob h _ _) (fun h => .inc h _))) _) (.wn (.ite
      (.inc (.modJob h _ _) _) (.when (.modJob h _ _) (fun h => .inc h _))) _ _ _))

theorem Keeps.settleFollowers (h : Keeps s t) (n i cause) : Keeps s (t.settleFollowers n i cause) :=
  .fold (fun _ _ h => .stepEnd (.setDesc (.modSteps h _) _ _ _ _) _ _ _) h

theorem Keeps.sledEnd (h : Keeps s t) (n i st cause done) : Keeps s (t.sledEnd n i st cause done) :=
  .settleFollowers (.unless (.recordEnd h _ _ _ _ _) (fun h => .inc h _)) _ _ _

theorem Keeps.entryEnd (h : Keeps s t) (n i st cause done) : Keeps s (t.entryEnd n i st cause done) :=
  .ite (.inc (.sledEnd h _ _ _ _ _) _) (.inc (.sledEnd h _ _ _ _ _) _)

/-! ## Machine/Listener -/

theorem Keeps.modLsn (h : Keeps s t) (n k f) : Keeps s (t.modLsn n k f) :=
  .modSlice h _ _

theorem Keeps.capWords (h : Keeps s t) (n rate per c l m pos) : Keeps s (State.capWords t n rate per c l m pos) := by
  induction c generalizing t l m pos with
  | zero => exact h
  | succ c ih => exact ih (.withDraws (.wn h _ _ _)) _ _ _

theorem Keeps.capWrite (h : Keeps s t) (n rate per c l m pos) : Keeps s (t.capWrite n rate per c l m pos) :=
  .ite h (.dramHeal (.dramHeal (.capWords (.dramEdges (.dramEdges h _ _) _ _) _ _ _ _ _ _ _) _ _) _ _)

theorem Keeps.capFeed (h : Keeps s t) (n l) : Keeps s (t.capFeed n l) :=
  .ite (.modSlice (.capWrite h _ _ _ _ _ _ _) _ _) h

theorem Keeps.capAdvance (h : Keeps s t) (n) : Keeps s (t.capAdvance n) :=
  .capFeed h _ _

theorem KeepsOpt.capArm (h : Keeps s t) (n) : KeepsOpt s (t.capArm n) :=
  .ite .none (.ite (.some h) (.some (.modSlice (.setO h _ _) _ _)))

theorem Keeps.capTrigger (h : Keeps s t) (n) : Keeps s (t.capTrigger n) :=
  .ite (.modSlice (.setO (.setO (.capAdvance h _) _ _) _ _) _ _) h

theorem Keeps.capEnd (h : Keeps s t) (n st) : Keeps s (t.capEnd n st) :=
  .setO (.setO (.capAdvance h _) _ _) _ _

theorem Keeps.capStop (h : Keeps s t) (n) : Keeps s (t.capStop n) :=
  .ite (.capEnd h _ _) (.setO h _ _)

theorem Keeps.capSwitch (h : Keeps s t) (n k) : Keeps s (t.capSwitch n k) :=
  .ite (.capAdvance h _) h

theorem execCaptureArm_keeps (h : Keeps s t) (who n) : KeepsOut s (execCaptureArm who n t) :=
  .next (.getD (.capArm h _) (.dropped h _ _ _ _))

theorem execCaptureTriggerNow_keeps (h : Keeps s t) (n) : KeepsOut s (execCaptureTriggerNow n t) :=
  .next (.capTrigger h _)

theorem execCaptureStop_keeps (h : Keeps s t) (n data) : KeepsOut s (execCaptureStop n data t) :=
  .next (.capStop (.capFeed h _ _) _)

theorem execCaptureAtExpiry_keeps (h : Keeps s t) (n) : KeepsOut s (execCaptureAtExpiry n t) :=
  .ite (.next (.capTrigger (.upTo h _) _)) (.next h)

theorem execCaptureDone_keeps (h : Keeps s t) (n data) : KeepsOut s (execCaptureDone n data t) :=
  .ite (.next (.capEnd (.capFeed (.upTo h _) _ _) _ _)) (.next h)

theorem execCaptureOverrun_keeps (h : Keeps s t) (n data) : KeepsOut s (execCaptureOverrun n data t) :=
  .ite (.next (.inc (.capEnd (.capFeed h _ _) _ _) _)) (.next h)

theorem Keeps.setLsn (h : Keeps s t) (n k st) : Keeps s (t.setLsn n k st) :=
  .modLsn (.setO (.setO (.setO h _ _) _ _) _ _) _ _ _

theorem Keeps.toSearch (h : Keeps s t) (n k) : Keeps s (t.toSearch n k) :=
  .setLsn (.modLsn (.setO (.capSwitch h _ _) _ _) _ _ _) _ _ _

theorem Keeps.assign (h : Keeps s t) (n k w) : Keeps s (t.assign n k w) :=
  .ite (.modLsn h _ _ _) (.ite h (.ite (.setO h _ _) (.setLsn (.setO (.capSwitch h _ _) _ _) _ _ _)))

theorem Keeps.halfFill (h : Keeps s t) (n k) : Keeps s (t.halfFill n k) :=
  .ite (.fold (fun _ _ h => .scramble h _ _) h) h

theorem Keeps.giveUp (h : Keeps s t) (n k) : Keeps s (t.giveUp n k) :=
  .toSearch (.returnCells (.halfFill h _ _) _ _) _ _

theorem Keeps.loseLsn (h : Keeps s t) (n k also) : Keeps s (t.loseLsn n k also) :=
  .giveUp (.inc (.inc h _) _) _ _

theorem Keeps.reblank (h : Keeps s t) (n) : Keeps s (t.reblank n) :=
  .ite h (.ite (.fold (fun _ _ h => .ite (.loseLsn h _ _ _) h) (.modSlice h _ _)) (.modSlice h _ _))

theorem Keeps.setBlanks (h : Keeps s t) (n l) : Keeps s (t.setBlanks n l) := by
  dsimp only [State.setBlanks]
  refine .reblank ?_ _
  split
  · exact .modSlice (.modSlice h _ _) _ _
  · exact .setO (.modSlice (.modSlice h _ _) _ _) _ _
  · exact .modSlice h _ _

theorem Keeps.blankOn (h : Keeps s t) (n r) : Keeps s (t.blankOn n r) :=
  .setBlanks h _ _

theorem Keeps.blankOff (h : Keeps s t) (n r) : Keeps s (t.blankOff n r) :=
  .setBlanks h _ _

theorem Keeps.blankRow (h : Keeps s t) (n) : Keeps s (t.blankRow n) :=
  .fold (fun _ _ h => .ite (.blankOn h _ _) h) h

theorem Keeps.unblankRow (h : Keeps s t) (n) : Keeps s (t.unblankRow n) :=
  .fold (fun _ _ h => .ite (.blankOff h _ _) h) h

theorem Keeps.gainSet (h : Keeps s t) (n g) : Keeps s (t.gainSet n g) :=
  .modSlice (.setO h _ _) _ _

theorem Keeps.gainDown (h : Keeps s t) (n) : Keeps s (t.gainDown n) :=
  .when (.inc (.gainSet h _ _) _) (fun h => .capTrigger h _)

theorem execGainStepDown_keeps (h : Keeps s t) (n) : KeepsOut s (execGainStepDown n t) :=
  .ite (.next h) (.ite (.next (.inc h _)) (.next (.gainDown h _)))

theorem Keeps.gainUp (h : Keeps s t) (n) : Keeps s (t.gainUp n) :=
  .modSlice (.ite (.inc (.gainSet h _ _) _) h) _ _

theorem Keeps.gainJudge (h : Keeps s t) (n rms) : Keeps s (t.gainJudge n rms) :=
  .unless (.when (.setI h _ _ _) (fun h => .modSlice h _ _)) (fun h => .when (.ite h (.ite (.modSlice h _ _) h)) (fun h =>
    .gainDown h _))

theorem execGainWindowEnd_keeps (h : Keeps s t) (n rms) : KeepsOut s (execGainWindowEnd n rms t) :=
  .ite (.next (.gainUp (.when (.upTo h _) (fun h => .gainJudge h _ _)) _)) (.next (.when (.upTo h _) (fun h => .gainJudge h _ _)))

theorem execGainForcedUp_keeps (h : Keeps s t) (n) : KeepsOut s (execGainForcedUp n t) := by
  dsimp only [execGainForcedUp]
  split
  · exact .next h
  · exact .ite (.next h) (.ite (.next (.upTo h _)) (.next (.inc (.gainUp (.upTo h _) _) _)))

theorem execPreambleDetected_keeps (h : Keeps s t) (n k first) : KeepsOut s (execPreambleDetected n k first t) :=
  .ite (.next (.setLsn (.modLsn (.upTo h _) _ _ _) _ _ _)) (.next (.upTo h _))

theorem execAerialDecision_keeps (h : Keeps s t) (n k ea eb) : KeepsOut s (execAerialDecision n k ea eb t) :=
  .ite (.next (.modLsn (.ite (.upTo h _) h) _ _ _)) (.next h)

theorem Keeps.headFail (h : Keeps s t) (n k) : Keeps s (t.headFail n k) :=
  .when (.toSearch (.inc (.inc h _) _) _ _) (fun h => .capTrigger h _)

theorem Keeps.hold (h : Keeps s t) (n k bytes f) : Keeps s (t.hold n k bytes f) := by
  dsimp only [State.hold]
  split
  · exact .toSearch (.inc (.ofSnd (.takeCells h _ _ _) ‹_›) _) _ _
  · exact .when (.setLsn (.drawn (.modLsn (.fold (fun _ _ h => .scramble h _ _) (.ofSnd (.takeCells h _ _ _) ‹_›)) _ _ _)) _ _ _)
      (fun h => .capTrigger h _)

theorem execQualifier_keeps (h : Keeps s t) (n k h') : KeepsOut s (execQualifier n k h' t) := by
  dsimp only [execQualifier]
  refine .ite ?_ (.next h)
  split
  · exact .ite (.next h) (.ite (.next (.headFail (.upTo h _) _ _)) (.next (.hold (.upTo h _) _ _ _ _)))
  · split
    · exact .next h
    · exact .ite (.next (.toSearch (.inc (.upTo h _) _) _ _)) (.ite (.next (.headFail (.upTo h _) _ _)) (.next (.hold (.upTo h _)
        _ _ _ _)))

theorem execSyncTimeout_keeps (h : Keeps s t) (n k) : KeepsOut s (execSyncTimeout n k t) :=
  .ite (.next (.toSearch (.inc (.upTo h _) _) _ _)) (.next h)

theorem execFrameLastSample_keeps (h : Keeps s t) (n k endAt) : KeepsOut s (execFrameLastSample n k endAt t) := by
  dsimp only [execFrameLastSample]
  split
  · exact .next h
  · exact .ite (.next (.setLsn (.modLsn (.upTo h _) _ _ _) _ _ _)) (.next h)

theorem execGridOutputsValid_keeps (h : Keeps s t) (n bank) : KeepsOut s (execGridOutputsValid n bank t) := by
  dsimp only [execGridOutputsValid]
  split
  · exact .next h
  · exact .next (.modSlice (.upTo h _) _ _)

theorem Keeps.accStart (h : Keeps s t) (n) : Keeps s (t.accStart n) :=
  .modSlice h _ _

theorem Keeps.gridApply (h : Keeps s t) (n bank g) : Keeps s (t.gridApply n bank g) :=
  .modSlice (.when (.setO (.fold (fun _ _ h => .ite (.loseLsn h _ _ _) h) h) _ _) (fun h => .accStart h _)) _ _

theorem execMapperBlockAdmit_keeps (h : Keeps s t) (n chan start p) : KeepsOut s (execMapperBlockAdmit n chan start p t) := by
  dsimp only [execMapperBlockAdmit]
  split
  · exact .next (.upTo h _)
  · exact .ite (.next (.modSlice (.upTo h _) _ _)) (.next (.upTo h _))

theorem Keeps.mapPublish (h : Keeps s t) (n) : Keeps s (t.mapPublish n) :=
  .ite (.modSlice (.setO (.setO (.setO (.withDraws (.wbs h)) _ _) _ _) _ _) _ _) h

theorem Keeps.mapNew (h : Keeps s t) (n) : Keeps s (t.mapNew n) :=
  .modSlice h _ _

/-! ## Machine/Radio -/

theorem Keeps.calRequest (h : Keeps s t) (n b) : Keeps s (t.calRequest n b) :=
  .ite (.modSlice (.setO h _ _) _ _) (.modSlice (.setO h _ _) _ _)

theorem execSynCmdCalibrate_keeps (h : Keeps s t) (n) : KeepsOut s (execSynCmdCalibrate n t) :=
  .next (.calRequest h _ _)

theorem Keeps.setSyn (h : Keeps s t) (n st) : Keeps s (t.setSyn n st) :=
  .reblank (.setO h _ _) _

theorem Keeps.beginCal (h : Keeps s t) (n) : Keeps s (t.beginCal n) :=
  .setSyn (.modSlice h _ _) _ _

theorem Keeps.beginSettle (h : Keeps s t) (n d) : Keeps s (t.beginSettle n d) :=
  .setSyn (.modSlice h _ _) _ _

theorem Keeps.centreApply (h : Keeps s t) (n old new) : Keeps s (t.centreApply n old new) :=
  .ite (.setSyn (.modSlice (.unless (.modSlice (.setO h _ _) _ _) (fun h => .accStart h _)) _ _) _ _) (.unless (.unless
    (.modSlice (.setO h _ _) _ _) (fun h => .accStart h _)) (fun h => .ite (.ite (.beginCal h _) (.beginSettle h _ _)) (.ite
    (.setSyn (.modSlice h _ _) _ _) (.beginSettle h _ _))))

theorem Keeps.synEvent (h : Keeps s t) (n code) : Keeps s (t.synEvent n code) :=
  .raise h _ _ _

theorem Keeps.modTxs (h : Keeps s t) (n f) : Keeps s (t.modTxs n f) :=
  .modSlice h _ _

theorem Keeps.dropTx (h : Keeps s t) (n t') : Keeps s (t.dropTx n t') :=
  .modTxs h _ _

theorem Keeps.putTx (h : Keeps s t) (n t') : Keeps s (t.putTx n t') :=
  .modTxs h _ _

theorem Keeps.ackLost (h : Keeps s t) (n led cause deadline) : Keeps s (t.ackLost n led cause deadline) := by
  dsimp only [State.ackLost]
  split
  · exact .inc (.sledEnd h _ _ _ _ _) _
  · exact .missSlice (.inc (.sledEnd h _ _ _ _ _) _) _ _ _

theorem Keeps.txAbandon (h : Keeps s t) (n t' cause deadline) : Keeps s (t.txAbandon n t' cause deadline) := by
  dsimp only [State.txAbandon]
  refine .ite (.ackLost (.dropTx (.airSettle h _ _ _ _) _ _) _ _ _ _) (.ite (.sledEnd (.dropTx (.airSettle h _ _ _ _) _ _) _ _ _
    _ _) ?_)
  split
  · exact .entryEnd (.dropTx (.airSettle h _ _ _ _) _ _) _ _ _ _ _
  · exact .missSlice (.entryEnd (.dropTx (.airSettle h _ _ _ _) _ _) _ _ _ _ _) _ _ _

theorem Keeps.rampOn (h : Keeps s t) (n t') : Keeps s (t.rampOn n t') :=
  .blankRow (.modSlice (.inc (.putTx h _ _) _) _ _) _

theorem Keeps.rampUp (h : Keeps s t) (n t') : Keeps s (t.rampUp n t') :=
  .ite (.txAbandon h _ _ _ _) (.fold (fun _ _ h => .txAbandon h _ _ _ _) (.rampOn h _ _))

theorem Keeps.release (h : Keeps s t) (n) : Keeps s (t.release n) :=
  .fold (fun _ _ h => .ite (.ite (.putTx h _ _) (.ite (.rampUp h _ _) h)) h) h

theorem execSynthSettleDone_keeps (h : Keeps s t) (n) : KeepsOut s (execSynthSettleDone n t) :=
  .ite (.next (.release (.setSyn (.modSlice (.upTo h _) _ _) _ _) _)) (.next h)

theorem execSynthSettleTimeout_keeps (h : Keeps s t) (n) : KeepsOut s (execSynthSettleTimeout n t) :=
  .ite (.ite (.next (.synEvent (.beginCal (.modSlice (.upTo h _) _ _) _) _ _)) (.next (.beginSettle (.modSlice (.upTo h _) _ _) _
    _))) (.next h)

theorem execSynthCalDone_keeps (h : Keeps s t) (n lock) : KeepsOut s (execSynthCalDone n lock t) :=
  .ite (.ite (.next (.release (.setSyn (.setO (.setO (.modSlice (.setO (.upTo h _) _ _) _ _) _ _) _ _) _ _) _)) (.next (.synEvent
    (.modSlice (.upTo h _) _ _) _ _))) (.next h)

theorem Keeps.loseSlot (h : Keeps s t) (n b) : Keeps s (t.loseSlot n b) :=
  .modSlice (.fold (fun _ _ h => .entryEnd h _ _ _ _ _) (.fold (fun _ _ h => .txAbandon h _ _ _ _) h)) _ _

theorem execCalForced_keeps (h : Keeps s t) (n) : KeepsOut s (execCalForced n t) := by
  dsimp only [execCalForced]
  split
  · exact .next h
  · exact .ite (.next h) (.ite (.next (.upTo h _)) (.next (.synEvent (.inc (.missSlice (.loseSlot (.beginCal (.upTo h _) _) _ _)
      _ _ _) _) _ _)))

theorem execUnlock_keeps (h : Keeps s t) (n) : KeepsOut s (execUnlock n t) :=
  .ite (.next (.synEvent (.beginSettle (.inc (.calRequest (.modTxs (.drawn h) _ _) _ _) _) _ _) _ _)) (.next h)

theorem execSampleClockLockLost_keeps (h : Keeps s t) (n) : KeepsOut s (execSampleClockLockLost n t) :=
  .next (.reblank (.modSlice h _ _) _)

theorem execSampleClockLockReturn_keeps (h : Keeps s t) (n) : KeepsOut s (execSampleClockLockReturn n t) :=
  .next (.release (.reblank (.modSlice h _ _) _) _)

theorem Keeps.portMeasure (h : Keeps s t) (n p rl) : Keeps s (t.portMeasure n p rl) :=
  .when (.modSlice (.setO h _ _) _ _) (fun h => .unless (.when (.setO h _ _) (fun h => .modSlice h _ _)) (fun h => .ite (.raise h
    _ _ _) (.ite (.raise h _ _ _) (.raise h _ _ _))))

theorem Keeps.aerialApply (h : Keeps s t) (n) : Keeps s (t.aerialApply n) :=
  .when (.modSlice (.ite h (.blankOn h _ _)) _ _) (fun h => .modSlice (.setO h _ _) _ _)

theorem execAerialSwitchSettled_keeps (h : Keeps s t) (n) : KeepsOut s (execAerialSwitchSettled n t) := by
  dsimp only [execAerialSwitchSettled]
  split
  · exact .next h
  · exact .next (.blankOff (.modSlice (.upTo h _) _ _) _ _)

theorem Keeps.clamp (h : Keeps s t) (n ps) : Keeps s (t.clamp n ps).2 :=
  .ite h (.inc h _)

theorem Keeps.toneSend (h : Keeps s t) (n p d codes) : Keeps s (t.toneSend n p d codes) := by
  dsimp only [State.toneSend]
  split
  · exact .sledEnd (.ofSnd (.airReserve (.writeRecord h _ _ _ _ _ _ _ _ _ _ _) _ _ _ _) ‹_›) _ _ _ _ _
  · exact .recordState (.modTxs (.clamp (.ofSnd (.airReserve (.writeRecord h _ _ _ _ _ _ _ _ _ _ _) _ _ _ _) ‹_›) _ _) _ _) _ _

theorem execProbe_keeps (h : Keeps s t) (n p rl) : KeepsOut s (execProbe n p rl t) :=
  .ite (.next (.toneSend h _ _ _ _)) (.next h)

theorem execTunerSearch_keeps (h : Keeps s t) (n rls) : KeepsOut s (execTunerSearch n rls t) :=
  .ite (.next (.toneSend h _ _ _ _)) (.next h)

theorem Keeps.tunerKeep (h : Keeps s t) (n codes) : Keeps s (t.tunerKeep n codes) :=
  .modSlice (.drawn (.setO h _ _)) _ _

theorem Keeps.tunerTake (h : Keeps s t) (n) : Keeps s (t.tunerTake n) :=
  .ite (.setO h _ _) h

theorem execTxRampStart_keeps (h : Keeps s t) (n) : KeepsOut s (execTxRampStart n t) := by
  dsimp only [execTxRampStart]
  split
  · exact .next h
  · exact .ite (.next (.upTo h _)) (.ite (.ite (.next (.upTo h _)) (.next (.rampUp (.upTo h _) _ _))) (.ite (.next (.txAbandon
      (.upTo h _) _ _ _ _)) (.next (.upTo h _))))

theorem execTxStartDeadline_keeps (h : Keeps s t) (n) : KeepsOut s (execTxStartDeadline n t) := by
  dsimp only [execTxStartDeadline]
  split
  · exact .next h
  · exact .ite (.next (.upTo h _)) (.ite (.next (.txAbandon (.upTo h _) _ _ _ _)) (.next (.inc (.txAbandon (.upTo h _) _ _ _ _)
      _)))

theorem execTxEnd_keeps (h : Keeps s t) (n) : KeepsOut s (execTxEnd n t) := by
  dsimp only [execTxEnd]
  split
  · exact .next h
  · exact .ite (.next h) (.next (.putTx (.upTo h _) _ _))

theorem Keeps.paOff (h : Keeps s t) (n t' cutCause) : Keeps s (t.paOff n t' cutCause) :=
  .ite (.ite (.setO (.addO (.inc (.sledEnd (.modSlice (.dropTx (.addO (.airSettle (.upTo h _) _ _ _ _) _ _ _) _ _) _ _) _ _ _ _
    _) _) _ _ _) _ _) (.ackLost (.modSlice (.dropTx (.addO (.airSettle (.upTo h _) _ _ _ _) _ _ _) _ _) _ _) _ _ _ _)) (.ite
    (.sledEnd (.modSlice (.dropTx (.addO (.airSettle (.upTo h _) _ _ _ _) _ _ _) _ _) _ _) _ _ _ _ _) (.entryEnd (.modSlice
    (.dropTx (.addO (.airSettle (.upTo h _) _ _ _ _) _ _ _) _ _) _ _) _ _ _ _ _))

theorem Keeps.paCompress (h : Keeps s t) (n t' fwd) : Keeps s (t.paCompress n t' fwd) :=
  .ite h (.ite (.withPower h) (.ite (.withPower h) h))

theorem execTxPaOff_keeps (h : Keeps s t) (n rl fwd) : KeepsOut s (execTxPaOff n rl fwd t) := by
  dsimp only [execTxPaOff]
  split
  · exact .next h
  · exact .next (.when (.when (.when (.portMeasure (.paOff h _ _ _) _ _ _) (fun h => .tunerKeep h _ _)) (fun h => .paCompress h _
      _ _)) (fun h => .setI h _ _ _))

theorem execBlankingEnd_keeps (h : Keeps s t) (n) : KeepsOut s (execBlankingEnd n t) := by
  dsimp only [execBlankingEnd]
  split
  · exact .next h
  · exact .ite (.next (.unblankRow (.upTo h _) _)) (.next h)

/-! ## Machine/Hot -/

theorem Keeps.setHotFlag (h : Keeps s t) (h' b x) : Keeps s (t.setHotFlag h' b x) :=
  .wn h _ _ _

theorem KeepsOpt.hotPin (h : Keeps s t) (h') : KeepsOpt s (t.hotPin h') :=
  .ite .none (.ite .none (.some (.setHotFlag h _ _ _)))

theorem KeepsOpt.hotUnpin (h : Keeps s t) (h') : KeepsOpt s (t.hotUnpin h') :=
  .ite .none (.some (.setHotFlag h _ _ _))

theorem KeepsOpt.hotPinWrite (h : Keeps s t) (v) : KeepsOpt s (t.hotPinWrite v) :=
  .ite (.hotUnpin h _) (.hotPin h _)

theorem execHotPin_keeps (h : Keeps s t) (who h') : KeepsOut s (execHotPin who h' t) :=
  .next (.getD (.hotPin h _) (.dropped h _ _ _ _))

theorem execHotUnpin_keeps (h : Keeps s t) (who h') : KeepsOut s (execHotUnpin who h' t) :=
  .next (.getD (.hotUnpin h _) (.dropped h _ _ _ _))

theorem Keeps.coldLook (h : Keeps s t) (a) : Keeps s (t.coldLook a) :=
  .ite (.dramLook h _ _) h

theorem Keeps.coldWrite (h : Keeps s t) (a h' bits key) : Keeps s (t.coldWrite a h' bits key) := by
  dsimp only [State.coldWrite]
  refine .ite h ?_
  split
  · exact .hwWrite h _ _
  · split <;> exact .inc (.hwWrite h _ _) _

theorem Keeps.coldRemove (h : Keeps s t) (a w) : Keeps s (t.coldRemove a w) :=
  .setO (.hwWrite h _ _) _ _

theorem Keeps.clearMem (h : Keeps s t) (lo n) : Keeps s (t.clearMem lo n) := .memFilter h _

theorem Keeps.coldEmpty (h : Keeps s t) : Keeps s t.coldEmpty :=
  .setO (.clearMem h _ _) _ _

/-- Dropping or changing entries where they stand keeps a list canonical. -/
theorem Sparse.wfFrom_dropValid {m : List Host.Cell} {lo : Nat} (w : Sparse.wfFrom memDefault lo m = true) :
    Sparse.wfFrom memDefault lo (m.filterMap dropValid) = true := by
  induction m generalizing lo with
  | nil => rfl
  | cons e r ih =>
    simp only [Sparse.wfFrom, Bool.and_eq_true, decide_eq_true_eq, Bool.not_eq_true', decide_eq_false_iff_not] at w
    obtain ⟨⟨hlo, hdefault⟩, hr⟩ := w
    rw [List.filterMap_cons]
    split
    · exact Sparse.wfFrom_le (by omega) (ih hr)
    · next b hb =>
      have hb' : b.1 = e.1 ∧ b.2 ≠ memDefault b.1 := by
        unfold dropValid at hb
        split at hb
        · dsimp only at hb
          split at hb
          · cases hb
          · next hne => cases hb; exact ⟨rfl, hne⟩
        · cases hb; exact ⟨rfl, hdefault⟩
      simp only [Sparse.wfFrom, Bool.and_eq_true, decide_eq_true_eq, Bool.not_eq_true', decide_eq_false_iff_not, hb'.1]
      exact ⟨⟨hlo, hb'.1 ▸ hb'.2⟩, ih hr⟩

theorem Keeps.hotEmpty (h : Keeps s t) : Keeps s t.hotEmpty := by
  refine .setO (fun x => ?_) _ _
  have hc := (canonical_iff t).mp (h x)
  exact (canonical_iff _).mpr ⟨Sparse.wfFrom_dropValid hc.1, hc.2⟩

theorem Keeps.setVictim (h : Keeps s t) (t' w) : Keeps s (t.setVictim t' w) :=
  .withMac h

theorem Keeps.sweep (h : Keeps s t) (n f w) : Keeps s (State.sweep t n f w).2 := by
  induction f generalizing t w with
  | zero => exact h
  | succ f ih => exact .iteSnd (ih h _) (.iteSnd (ih (.setHotFlag h _ _ _) _) h)

theorem Keeps.victim (h : Keeps s t) (t') : Keeps s (t.victim t').2 := by
  dsimp only [State.victim]
  split
  · exact .setVictim h _ _
  · exact .setVictim (.sweep h _ _ _) _ _

theorem Keeps.setHotWin (h : Keeps s t) (h' w) : Keeps s (t.setHotWin h' w) :=
  .wbs h

theorem KeepsTriple.promote (h : Keeps s t) (a) : KeepsTriple s (t.promote a) := by
  generalize hF : @State.promote = F
  delta State.promote at hF
  subst hF
  dsimp -zeta -iota -proj only
  extract_lets +onlyGivenNames st
  have hv := Keeps.victim h st
  generalize t.victim st = p at *
  obtain ⟨w, v⟩ := p
  dsimp -zeta only at hv ⊢
  extract_lets +onlyGivenNames x old oldWin evicted
  have hevicted : Keeps s evicted := by
    refine .ite (.inc ?_ _) (.addO hv _ _ _)
    exact .coldWrite hv _ _ _ _
  clear_value evicted
  extract_lets +onlyGivenNames mapped
  have hmapped : Keeps s mapped := by
    refine .coldLook ?_ _
    exact .hwWrite hevicted _ _
  clear_value mapped
  extract_lets +onlyGivenNames cw win taken
  clear_value win cw
  have htaken : Keeps s taken := by
    dsimp only [taken]
    split
    · exact .coldRemove hmapped _ _
    · exact hmapped
  clear_value taken
  extract_lets +onlyGivenNames hot
  have hhot : Keeps s hot := .wbs htaken
  clear_value hot
  refine .mk ?_
  cases win with
  | none => exact hhot
  | some v => exact .setHotWin hhot _ _

theorem Keeps.downMap (h : Keeps s t) (h') : Keeps s (t.downMap h').2 :=
  .iteSnd h (.iteSnd h (.inc h _))

theorem Keeps.lookupMap (h : Keeps s t) (a id) : Keeps s (t.lookupMap a id).2 := by
  dsimp only [State.lookupMap]
  refine .iteSnd (.inc h _) ?_
  split
  · exact .inc h _
  · split
    · exact .when (.inc h _) (fun h => .dramLook h _ _)
    · exact .iteSnd (.when (.inc h _) (fun h => .dramLook h _ _)) (.inc (.when (.inc h _) (fun h => .dramLook h _ _)) _)

theorem Keeps.resolved (h : Keeps s t) (n k addr b up) : Keeps s (t.resolved n k addr b up) :=
  .ite (.giveUp (.inc h _) _ _) (.modLsn h _ _ _)

theorem execMapResolve_keeps (h : Keeps s t) (n k addr check) : KeepsOut s (execMapResolve n k addr check t) := by
  unfold execMapResolve
  extract_lets l late u addr
  refine .ite ?_ (.next h)
  have hu : Keeps s u := .upTo h _
  refine .ite (.next (.giveUp (.inc hu _) _ _)) (.ite (.next (.resolved hu _ _ _ _ _)) ?_)
  have hl := Keeps.lookupMap hu addr l.mapId
  generalize u.lookupMap addr l.mapId = p at *
  obtain ⟨r, v⟩ := p
  dsimp only
  split
  · next hp => exact .next (.resolved (.ofSnd (x := (if late then none else r, v)) hl hp) _ _ _ _ _)
  · next hp => exact .next (.giveUp (.inc (.inc (.ofSnd (x := (if late then none else r, v)) hl hp) _) _) _ _)

/-! ## Machine/Phy -/

theorem Keeps.setMapCtrl (h : Keeps s t) (h' b x) : Keeps s (t.setMapCtrl h' b x) :=
  .hwWrite h _ _

theorem Keeps.modMac (h : Keeps s t) (f) : Keeps s (t.modMac f) :=
  .withMac h

theorem Keeps.sendMapSet (h : Keeps s t) (tag m) : Keeps s (t.sendMapSet tag m) :=
  .modMac h _

theorem Keeps.installMap (h : Keeps s t) (h' i tag m send) : Keeps s (t.installMap h' i tag m send) :=
  .modMac (.when (.setMapCtrl h _ _ _) (fun h => .hwWrite h _ _)) _

theorem Keeps.claimRecord (h : Keeps s t) (h' tag) : Keeps s (t.claimRecord h' tag) :=
  .ite (.hwWrite h _ _) h

theorem Keeps.mapWrite (h : Keeps s t) (d) : Keeps s (t.mapWrite d) :=
  .ite h (.when (.when (.setMapCtrl (.hwWrite (.claimRecord h _ _) _ _) _ _ _) (fun h => .modMac h _)) (fun h => .sendMapSet h _
    _))

theorem Keeps.mapTick (h : Keeps s t) : Keeps s t.mapTick :=
  .fold (fun _ _ h => .mapWrite h _) (.fold (fun _ _ h => .setMapCtrl h _ _ _) (.modMac h _))

theorem execReportMapInstall_keeps (h : Keeps s t) (addr map) : KeepsOut s (execReportMapInstall addr map t) := by
  dsimp only [execReportMapInstall]
  split
  · exact .next h
  · refine .ite (.next h) ?_
    split
    · exact .next h
    · exact .next (.getD (.hotPin (.installMap h _ _ _ _ _) _) (.installMap h _ _ _ _ _))

theorem Keeps.offerMap (h : Keeps s t) (h' slot dir tag x use useInfo) : Keeps s (t.offerMap h' slot dir tag x use useInfo) :=
  .ite h (.getD (.hotPin (.installMap h _ _ _ _ _) _) (.installMap h _ _ _ _ _))

theorem Keeps.computeUp (h : Keeps s t) (n h' tag) : Keeps s (t.computeUp n h' tag) := by
  dsimp only [State.computeUp]
  split
  · exact h
  · split <;> exact .offerMap h _ _ _ _ _ _ _

theorem Keeps.computeDown (h : Keeps s t) (n h' tag snr ps) : Keeps s (t.computeDown n h' tag snr ps) :=
  .offerMap h _ _ _ _ _ _ _

theorem Keeps.mapAck (h : Keeps s t) (a v) : Keeps s (t.mapAck a v) := by
  dsimp only [State.mapAck]
  split
  · exact h
  · exact .ite h (.when (.modMac h _) (fun h => .modMac (.setMapCtrl h _ _ _) _))

theorem Keeps.dnSent (h : Keeps s t) (tag) : Keeps s (t.dnSent tag) :=
  .ite (.modMac h _) (.ite (.modMac h _) h)

theorem Keeps.dnHeard (h : Keeps s t) (tag) : Keeps s (t.dnHeard tag) :=
  .modMac h _

theorem Keeps.mapNoted (h : Keeps s t) (tag dn) : Keeps s (t.mapNoted tag dn) :=
  .modMac h _

theorem execMapCompute_keeps (h : Keeps s t) (n addr q) : KeepsOut s (execMapCompute n addr q t) := by
  dsimp only [execMapCompute]
  split
  · exact .next h
  · refine .ite (.next h) ?_
    split
    · exact .next (.computeUp (.mapNoted h _ _) _ _ _)
    · exact .next (.computeDown (.mapNoted h _ _) _ _ _ _ _)

/-! ## Machine/Frame -/

theorem Keeps.fpStatus (h : Keeps s t) (n f) : Keeps s (t.fpStatus n f) :=
  .setO h _ _

theorem Keeps.fpRefuse (h : Keeps s t) (n f) : Keeps s (t.fpRefuse n f) :=
  .raise (.inc (.fpStatus h _ _) _) _ _ _

theorem Keeps.fpPipe (h : Keeps s t) (n) : Keeps s (t.fpPipe n) :=
  .setO h _ _

theorem KeepsOpt.fpCommit (h : Keeps s t) (n a) : KeepsOpt s (t.fpCommit n a) :=
  .ite .none (.ite (.some (.fpRefuse (.modSlice h _ _) _ _)) (.some (.fpPipe (.modSlice h _ _) _)))

theorem execFpCommit_keeps (h : Keeps s t) (who n addr) : KeepsOut s (execFpCommit who n addr t) :=
  .next (.getD (.fpCommit h _ _) (.dropped h _ _ _ _))

theorem Keeps.fpChecked (h : Keeps s t) (n) : Keeps s (t.fpChecked n) := by
  dsimp only [State.fpChecked]
  split
  · exact h
  · exact .fpPipe (.ite (.fpStatus (.modSlice h _ _) _ _) (.fpRefuse (.modSlice h _ _) _ _)) _

theorem execFpCheckDone_keeps (h : Keeps s t) (n) : KeepsOut s (execFpCheckDone n t) :=
  .next (.fpChecked h _)

theorem execCommitDeadline_keeps (h : Keeps s t) (n) : KeepsOut s (execCommitDeadline n t) := by
  dsimp only [execCommitDeadline]
  refine .ite (.next h) ?_
  split
  · exact .next (.fpChecked (.upTo h _) _)
  · split
    · exact .next (.fpPipe (.fpRefuse (.modSlice (.fpChecked (.upTo h _) _) _ _) _ _) _)
    · exact .next (.fpPipe (.modSlice (.modSlice (.fpChecked (.upTo h _) _) _ _) _ _) _)

theorem Keeps.fpEmpty (h : Keeps s t) (n) : Keeps s (t.fpEmpty n) :=
  .fpPipe (.modSlice h _ _) _

theorem KeepsOpt.withdraw (h : Keeps s t) (n) : KeepsOpt s (t.withdraw n) :=
  .ite .none (.ite (.some (.fpStatus (.fpEmpty h _) _ _)) (.some h))

theorem Keeps.dropEntries (h : Keeps s t) (n cause) : Keeps s (t.dropEntries n cause) :=
  .modSlice (.fold (fun _ _ h => .entryEnd h _ _ _ _ _) h) _ _

theorem Keeps.txCutAll (h : Keeps s t) (n cause) : Keeps s (t.txCutAll n cause) :=
  .fold (fun _ _ h => .ite (.paOff (.drawn h) _ _ _) (.txAbandon h _ _ _ _)) h

theorem Keeps.cutAir (h : Keeps s t) (cause) : Keeps s (t.cutAir cause) :=
  .fold (fun _ _ h => .txCutAll h _ _) h

theorem Keeps.airStop (h : Keeps s t) (cause) : Keeps s (t.airStop cause) :=
  .fold (fun _ _ h => .dropEntries h _ _) (.cutAir h _)

theorem KeepsOpt.lcStop (h : Keeps s t) (n) : KeepsOpt s (t.lcStop n) :=
  .ite .none (.ite (.some (.dropEntries h _ _)) (.some h))

theorem KeepsOpt.lcPark (h : Keeps s t) (n) : KeepsOpt s (t.lcPark n) :=
  .ite .none (.ite (.some (.fpEmpty h _)) (.some (.modSlice (.fpEmpty h _) _ _)))

theorem KeepsOpt.fpCmd (h : Keeps s t) (n v) : KeepsOpt s (t.fpCmd n v) :=
  .ite (.withdraw h _) (.ite (.lcStop h _) (.ite (.lcPark h _) .none))

theorem Keeps.fpCmdBy (h : Keeps s t) (who n v) : Keeps s (t.fpCmdBy who n v) :=
  .getD (.fpCmd h _ _) (.dropped h _ _ _ _)

theorem execWithdraw_keeps (h : Keeps s t) (who n) : KeepsOut s (execWithdraw who n t) :=
  .next (.fpCmdBy h _ _ _)

theorem execStop_keeps (h : Keeps s t) (who n) : KeepsOut s (execStop who n t) :=
  .next (.fpCmdBy h _ _ _)

theorem execPark_keeps (h : Keeps s t) (who n) : KeepsOut s (execPark who n t) :=
  .next (.fpCmdBy h _ _ _)

theorem Keeps.chanDur (h : Keeps s t) (n dmax q) : Keeps s (t.chanDur n dmax q).2 := by
  dsimp only [State.chanDur]
  refine .iteSnd (.iteSnd (.iteSnd h h) ?_) (.iteSnd h h)
  split
  · exact .ofSnd (.downMap h _) ‹_›
  · exact .iteSnd (.ofSnd (.downMap h _) ‹_›) (.ofSnd (.downMap h _) ‹_›)

theorem Keeps.chanDurs (h : Keeps s t) (n dmax l) : Keeps s (State.chanDurs t n dmax l).2.2 := by
  induction l generalizing t with
  | nil => exact h
  | cons q r ih =>
    dsimp only [State.chanDurs]
    split <;> exact ih (.chanDur h _ _ _)

theorem Keeps.counters (h : Keeps s t) (l) : Keeps s (State.counters t l).2 := by
  induction l generalizing t with
  | nil => exact h
  | cons q r ih =>
    dsimp only [State.counters]
    refine .iteSnd ?_ ?_
    · have hr := ih h
      split <;> exact .ofSnd hr ‹_›
    · split
      · exact h
      · next c u hassign =>
        have hu : Keeps s u := .ofOptSnd (.ite (.assignCtr h _ _) .none) hassign
        have hr := ih hu
        split <;> exact .ofSnd hr ‹_›

theorem Keeps.entryGo (h : Keeps s t) (n r led) : Keeps s (t.entryGo n r led) := by
  dsimp only [State.entryGo]
  split
  · exact .entryEnd (.chanDurs h _ _ _) _ _ _ _ _
  · split
    · exact .entryEnd (.ofSnd (.airReserve (.wn (.chanDurs h _ _ _) _ _ _) _ _ _ _) ‹_›) _ _ _ _ _
    · split
      · exact .entryEnd (.airSettle (.ofSnd (.counters (.ofSnd (.airReserve (.wn (.chanDurs h _ _ _) _ _ _) _ _ _ _) ‹_›) _) ‹_›)
          _ _ _ _) _ _ _ _ _
      · exact .recordState (.modTxs (.clamp (.ofSnd (.counters (.ofSnd (.airReserve (.wn (.chanDurs h _ _ _) _ _ _) _ _ _ _) ‹_›)
          _) ‹_›) _ _) _ _) _ _

theorem execEntryPrepare_keeps (h : Keeps s t) (n) : KeepsOut s (execEntryPrepare n t) := by
  dsimp only [execEntryPrepare]
  split
  · exact .next h
  · split
    · exact .next (.entryEnd (.modSlice (.upTo h _) _ _) _ _ _ _ _)
    · exact .next (.entryGo (.modSlice (.upTo h _) _ _) _ _ _)

theorem execUplinkWindowClose_keeps (h : Keeps s t) (n) : KeepsOut s (execUplinkWindowClose n t) := by
  dsimp only [execUplinkWindowClose]
  split
  · exact .next h
  · exact .next (.modSlice (.upTo h _) _ _)

theorem Keeps.ackMake (h : Keeps s t) (n w ws) : Keeps s (t.ackMake n w ws) := by
  dsimp only [State.ackMake]
  refine .ite (.sledEnd (.wn h _ _ _) _ _ _ _ _) (.ite (.ackLost (.wn h _ _ _) _ _ _ _) (.ite (.ackLost (.wn h _ _ _) _ _ _ _)
    (.ite (.ackLost (.wn h _ _ _) _ _ _ _) ?_)))
  split
  · exact .ackLost (.ofSnd (.airReserve (.wn h _ _ _) _ _ _ _) ‹_›) _ _ _ _
  · exact .modSlice (.recordState (.modTxs (.clamp (.ofSnd (.airReserve (.wn h _ _ _) _ _ _ _) ‹_›) _ _) _ _) _ _) _ _

theorem execAckVerdictCutoff_keeps (h : Keeps s t) (n) : KeepsOut s (execAckVerdictCutoff n t) := by
  dsimp only [execAckVerdictCutoff]
  split
  · exact .next h
  · exact .next (.ackMake (.addO (.addO (.modSlice (.upTo h _) _ _) _ _ _) _ _ _) _ _ _)

theorem execCcaAssess_keeps (h : Keeps s t) (n pw) : KeepsOut s (execCcaAssess n pw t) := by
  dsimp only [execCcaAssess]
  split
  · exact .next h
  · exact .ite (.next (.upTo h _)) (.ite (.next (.rampUp (.upTo h _) _ _)) (.ite (.next (.txAbandon (.drawnReq (.when (.inc
      (.upTo h _) _) (fun h => .inc h _))) _ _ _ _)) (.next (.putTx (.drawnReq (.when (.inc (.upTo h _) _) (fun h => .inc h _)))
      _ _))))

/-! ## Machine/Flood -/

theorem Keeps.modFab (h : Keeps s t) (f) : Keeps s (t.modFab f) :=
  .withFab h

theorem Keeps.modWire (h : Keeps s t) (p f) : Keeps s (t.modWire p f) :=
  .modFab h _

theorem Keeps.syncCredit (h : Keeps s t) (p) : Keeps s (t.syncCredit p) :=
  .setO (.setO h _ _) _ _

theorem Keeps.portStart (h : Keeps s t) (p w) : Keeps s (t.portStart p w) :=
  .inc (.withCom h) _

theorem Keeps.portSend (h : Keeps s t) (p w) : Keeps s (t.portSend p w) :=
  .ite (.withCom h) (.portStart h _ _)

theorem Keeps.portFlush (h : Keeps s t) (p) : Keeps s (t.portFlush p) :=
  .fold (fun _ _ h => .portStart h _ _) (.withCom h)

theorem KeepsOpt.wireSend (h : Keeps s t) (p msg spend) : KeepsOpt s (t.wireSend p msg spend) := by
  dsimp only [State.wireSend]
  split
  · exact .none
  · exact .some (.syncCredit (.portSend (.when (.ofOptSnd (.assignCtr h _ _) ‹_›) (fun h => .modWire h _ _)) _ _) _)

theorem Keeps.huskPut (h : Keeps s t) (origin fseq stamp) : Keeps s (t.huskPut origin fseq stamp).2 := by
  dsimp only [State.huskPut]
  split
  · exact .wbs (.ite h (.inc h _))
  · exact .wbs (.inc h _)

theorem Keeps.huskEmpty (h : Keeps s t) : Keeps s t.huskEmpty :=
  .setO (.setO (.clearMem h _ _) _ _) _ _

theorem Keeps.takeMsg (h : Keeps s t) (f) : Keeps s (t.takeMsg f).2 := by
  dsimp only [State.takeMsg]
  split
  · exact h
  · exact .modFab h _

theorem Keeps.dropMsg (h : Keeps s t) (m) : Keeps s (t.dropMsg m) :=
  .ite h (.returnCells h _ _)

theorem Keeps.keepMsg (h : Keeps s t) (m) : Keeps s (t.keepMsg m) :=
  .ite h (.holdCells h _ _)

theorem Keeps.floodDeliver (h : Keeps s t) (e) : Keeps s (t.floodDeliver e) :=
  .unless (.setO (.wbs h) _ _) (fun h => .raise (.modSteps h _) _ _ _)

theorem Keeps.beginSteps (h : Keeps s t) (t' c sel owner copy at_) : Keeps s (t.beginSteps t' c sel owner copy at_) :=
  .when (.wn (.modSteps (.drawnReq h) _) _ _ _) (fun h => .stepsOver h _)

theorem Keeps.relay (h : Keeps s t) (m) : Keeps s (t.relay m) := by
  refine .ite h ?_
  split
  · exact .ofSnd (.newRecord h _ _ _ _ _ _) ‹_›
  · exact .beginSteps (.unless (.ofSnd (.newRecord h _ _ _ _ _ _) ‹_›) (fun h => .recordState h _ _)) _ _ _ _ _ _

theorem Keeps.floodDrop (h : Keeps s t) (m code) : Keeps s (t.floodDrop m code) :=
  .dropMsg (.inc (.setO h _ _) _) _

theorem Keeps.floodDup (h : Keeps s t) (m) : Keeps s (t.floodDup m) :=
  .dropMsg (.when (.inc h _) (fun h => .modSteps h _)) _

theorem Keeps.floodNew (h : Keeps s t) (m) : Keeps s (t.floodNew m) :=
  .relay (.keepMsg (.inc (.floodDeliver (.huskPut h _ _ _) _) _) _) _

theorem execFloodTake_keeps (h : Keeps s t) : KeepsOut s (execFloodTake t) := by
  dsimp only [execFloodTake]
  refine .ite (.next h) ?_
  split
  · exact .next (.ofSnd (.takeMsg h _) ‹_›)
  · split
    · exact .next (.floodDrop (.ofSnd (.takeMsg h _) ‹_›) _ _)
    · exact .ite (.next (.floodDup (.ofSnd (.takeMsg h _) ‹_›) _)) (.ite (.next (.inc (.floodDrop (.ofSnd (.takeMsg h _) ‹_›) _
        _) _)) (.next (.floodNew (.ofSnd (.takeMsg h _) ‹_›) _)))

theorem Keeps.wireStep (h : Keeps s t) (p j k) : Keeps s (t.wireStep p j k) := by
  dsimp only [State.wireStep]
  refine .ite (.stepEnd h _ _ _) (.ite h ?_)
  split
  · exact .stepEnd h _ _ _
  · exact .stepEnd (.ofOpt (.wireSend h _ _ _) ‹_›) _ _ _

theorem execFloodWiredSend_keeps (h : Keeps s t) (p) : KeepsOut s (execFloodWiredSend p t) := by
  dsimp only [execFloodWiredSend]
  split
  · exact .next h
  · exact .next (.ite (.stepEnd h _ _ _) (.wireStep h _ _ _))

theorem Keeps.wireLate (h : Keeps s t) (t' p) : Keeps s (t.wireLate t' p) := by
  dsimp only [State.wireLate]
  split
  · exact h
  · exact .ite (.stepEnd (.upTo h _) _ _ _) (.ite (.stepEnd (.upTo h _) _ _ _) h)

theorem execFloodWiredDeadline_keeps (h : Keeps s t) (t' p) : KeepsOut s (execFloodWiredDeadline t' p t) :=
  .next (.wireLate h _ _)

theorem Keeps.fillDesc (h : Keeps s t) (fabric n i cls job dst e x msg) : Keeps s (t.fillDesc fabric n i cls job dst e x msg) :=
  .setDesc (.wbs (.wbs (.wbs (.wbs h)))) _ _ _ _

theorem Keeps.radioStep (h : Keeps s t) (j n k cls dst) : Keeps s (t.radioStep j n k cls dst) := by
  dsimp only [State.radioStep]
  refine .ite (.stepEnd h _ _ _) ?_
  split
  · exact .stepEnd h _ _ _
  · exact .when (.fillDesc h _ _ _ _ _ _ _ _ _) (fun h => .wn h _ _ _)

theorem execFloodJitterEnd_keeps (h : Keeps s t) (t') : KeepsOut s (execFloodJitterEnd t' t) := by
  dsimp only [execFloodJitterEnd]
  split
  · exact .next h
  · exact .ite (.next (.fold (fun _ _ h => .stepEnd h _ _ _) (.unless (.when (.modJob (.upTo h _) _ _) (fun h => .recordState h _
      _)) (fun h => .inc h _)))) (.next (.fold (fun _ _ h => .radioStep h _ _ _ _ _) (.when (.modJob (.upTo h _) _ _) (fun h =>
      .recordState h _ _))))

theorem KeepsOpt.bind (h : Keeps s t) (fabric n i) : KeepsOpt s (t.bind fabric n i) := by
  dsimp only [State.bind]
  refine .ite .none ?_
  split
  · exact .some (.inc h _)
  · exact .ite (.some (.modSteps (.setDesc h _ _ _ _) _)) (.some (.inc h _))

theorem execRelayBind_keeps (h : Keeps s t) (who n i) : KeepsOut s (execRelayBind who n i t) :=
  .next (.getD (.bind h _ _ _) (.dropped h _ _ _ _))

theorem Keeps.descLate (h : Keeps s t) (fabric n i) : Keeps s (t.descLate fabric n i) := by
  dsimp only [State.descLate]
  refine .ite ?_ h
  split
  · exact h
  · exact .stepEnd (.unless (.setDesc (.upTo h _) _ _ _ _) (fun h => .miss h _ _ _)) _ _ _

theorem execRelayDeadline_keeps (h : Keeps s t) (n i) : KeepsOut s (execRelayDeadline n i t) :=
  .next (.descLate h _ _ _)

theorem Keeps.unbind (h : Keeps s t) (b) : Keeps s (t.unbind b) :=
  .setDesc (.modSteps h _) _ _ _ _

theorem Keeps.boundSettle (h : Keeps s t) (fabric n i) : Keeps s (t.boundSettle fabric n i) := by
  dsimp only [State.boundSettle]
  split
  · exact h
  · split
    · exact .stepEnd (.unless (.unbind (.upTo h _) _) (fun h => .miss h _ _ _)) _ _ _
    · exact .ite (.modSteps (.upTo h _) _) (.ite (.stepEnd (.unless (.unbind (.upTo h _) _) (fun h => .miss h _ _ _)) _ _ _)
        (.stepEnd (.unbind (.upTo h _) _) _ _ _))

theorem execRelayBoundSettle_keeps (h : Keeps s t) (n i) : KeepsOut s (execRelayBoundSettle n i t) :=
  .next (.boundSettle h _ _ _)

theorem KeepsOpt.dqCons (h : Keeps s t) (v) : KeepsOpt s (t.dqCons v) :=
  .ite (.some (.setO h _ _)) .none

theorem execFldDqConsWrite_keeps (h : Keeps s t) (who v) : KeepsOut s (execFldDqConsWrite who v t) :=
  .next (.getD (.dqCons h _) (.dropped h _ _ _ _))

theorem Keeps.originate (h : Keeps s t) (t' c ttl payload owner) : Keeps s (t.originate t' c ttl payload owner) :=
  .beginSteps (.recordState (.huskPut (.modSteps (.setO h _ _) _) _ _ _) _ _) _ _ _ _ _ _

theorem Keeps.payloadOver (h : Keeps s t) (x) : Keeps s (t.payloadOver x) :=
  .jobOver (.ite (.dropped h _ _ _ _) h) _ _ _ _ _ _ _

theorem Keeps.floodAccept (h : Keeps s t) (x) : Keeps s (t.floodAccept x) :=
  .ite (.jobMissed h _) (.ite (.payloadOver h _) (.ite (.jobOver (.inc h _) _ _ _ _ _ _ _) (.originate (.modJobs h _) _ _ _ _ _)))

/-- The body stands here for the function's name by `delta`: to unfold it by an equation would make the kernel evaluate
the ledger's room, a sum with 2^32. -/
theorem Keeps.firmFlood (h : Keeps s t) (core cls ttl payload) : Keeps s (t.firmFlood core cls ttl payload) := by
  generalize hF : @State.firmFlood = F
  delta State.firmFlood at hF
  subst hF
  dsimp -zeta -iota -proj only
  split
  · exact .ofSnd (.newRecord h _ _ _ _ _ _) ‹_›
  · next hr =>
    have hu := Keeps.ofSnd (.newRecord h _ _ _ _ _ _) hr
    exact .ite (.recordEnd (.inc hu _) _ _ _ _ _) (.originate hu _ _ _ _ _)

theorem execJobFlood_keeps (h : Keeps s t) (who a) : KeepsOut s (execJobFlood who a t) := by
  dsimp only [execJobFlood]
  split
  · exact .next (.submitKind h _ _ _)
  · exact .ite (.next (.floodAccept (.submitKind h _ _ _) _)) (.next (.submitKind h _ _ _))

/-! ## Machine/Fabric -/

theorem Keeps.wireBooks (h : Keeps s t) (p spend lseq grant) : Keeps s (t.wireBooks p spend lseq grant) :=
  .syncCredit (.modWire h _ _) _

theorem Keeps.wireTake (h : Keeps s t) (p b msg c) : Keeps s (t.wireTake p b msg c) :=
  .ite (.modFab (.when (.fillCells (.when (.modWire h _ _) (fun h => .wireBooks h _ _ _ _)) _ _ _) (fun h => .syncHeld (.modPool
    h _ _))) _) (.returnCells (.inc (.when (.modWire h _ _) (fun h => .wireBooks h _ _ _ _)) _) _ _)

theorem Keeps.fabricRx (h : Keeps s t) (p hop sumOk b) : Keeps s (t.fabricRx p hop sumOk b) := by
  dsimp only [State.fabricRx]
  refine .ite (.inc h _) ?_
  split
  · exact .ofSnd (.takeCells h _ _ _) ‹_›
  · split
    · exact .returnCells (.inc (.ofSnd (.takeCells h _ _ _) ‹_›) _) _ _
    · exact .wireTake (.ofSnd (.takeCells h _ _ _) ‹_›) _ _ _ _

theorem execFabricDatagramRx_keeps (h : Keeps s t) (p hop sumOk payload) : KeepsOut s (execFabricDatagramRx p hop sumOk payload
    t) :=
  .ite (.next (.fabricRx h _ _ _ _)) (.next h)

theorem Keeps.timeMiss (h : Keeps s t) : Keeps s t.timeMiss :=
  .modFab (.setO h _ _) _

theorem Keeps.clearBooks (h : Keeps s t) (p) : Keeps s (t.clearBooks p) :=
  .syncCredit (.syncHeld (.modWire (.modPool h _ _) _ _)) _

theorem Keeps.peerGone (h : Keeps s t) (p) : Keeps s (t.peerGone p) :=
  .ite (.when (.portFlush (.clearBooks (.modWire (.setO (.setO (.setO h _ _) _ _) _ _) _ _) _) _) (fun h => .timeMiss h)) h

theorem execPeerLost_keeps (h : Keeps s t) (p) : KeepsOut s (execPeerLost p t) :=
  .ite (.next (.peerGone h _)) (.next h)

theorem Keeps.lsdbDrop (h : Keeps s t) (a) : Keeps s (t.lsdbDrop a) :=
  .ite (.inc (.hwWrite h _ _) _) h

theorem execHelloSend_keeps (h : Keeps s t) (p) : KeepsOut s (execHelloSend p t) :=
  .ite (.next (.getD (.wireSend h _ _ _) h)) (.next h)

theorem Keeps.conflictEvent (h : Keeps s t) (c) : Keeps s (t.conflictEvent c) :=
  .ite h (.raiseE (.inc (.modFab h _) _) _)

theorem Keeps.parkAll (h : Keeps s t) : Keeps s t.parkAll :=
  .fold (fun _ _ h => .getD (.lcPark h _) h) h

theorem Keeps.unparkAll (h : Keeps s t) : Keeps s t.unparkAll :=
  .fold (fun _ _ h => .modSlice h _ _) h

theorem Keeps.addrState (h : Keeps s t) (st) : Keeps s (t.addrState st) :=
  .modFab (.setO h _ _) _

theorem Keeps.putAddr (h : Keeps s t) (a) : Keeps s (t.putAddr a) :=
  .when (.setO h _ _) (fun h => .setO h _ _)

theorem Keeps.addrLose (h : Keeps s t) : Keeps s t.addrLose :=
  .modFab (.addrState (.putAddr (.parkAll h) _) _) _

theorem Keeps.conflictSettle (h : Keeps s t) (c) : Keeps s (t.conflictSettle c) :=
  .ite (.ite (.when (.conflictEvent h _) (fun h => .unparkAll (.addrState h _))) (.addrLose (.conflictEvent h _))) h

theorem Keeps.radioConflict (h : Keeps s t) : Keeps s t.radioConflict :=
  .ite (.addrLose (.conflictEvent (.drawn h) _)) (.ite (.addrState (.parkAll h) _) h)

theorem execConflictWaitEnd_keeps (h : Keeps s t) : KeepsOut s (execConflictWaitEnd t) :=
  .ite (.next (.addrLose (.conflictEvent (.drawn h) _))) (.next h)

theorem Keeps.detect (h : Keeps s t) (c) : Keeps s (t.detect c) :=
  .ite h (.modFab (.drawnReq h) _)

theorem Keeps.detectLsdb (h : Keeps s t) (a u since held) : Keeps s (t.detectLsdb a u since held) :=
  .ite (.detect h _) h

theorem Keeps.claimTake (h : Keeps s t) (c) : Keeps s (t.claimTake c) := by
  dsimp only [State.claimTake]
  refine .modFab ?_ _
  split
  · exact .detect (.detectLsdb h _ _ _ _) _
  · exact .detectLsdb h _ _ _ _

theorem Keeps.conflictTake (h : Keeps s t) (c) : Keeps s (t.conflictTake c) :=
  .conflictSettle (.when (.modFab h _) (fun h => .lsdbDrop h _)) _

theorem execClaimRx_keeps (h : Keeps s t) (i) : KeepsOut s (execClaimRx i t) :=
  .ite (.next h) (.ite (.next (.claimTake h _)) (.ite (.next (.conflictTake h _)) (.next h)))

theorem execConflictOriginate_keeps (h : Keeps s t) : KeepsOut s (execConflictOriginate t) := by
  dsimp only [execConflictOriginate]
  split
  · exact .next h
  · exact .next (.conflictTake (.firmFlood (.modFab (.upTo h _) _) _ _ _ _) _)

theorem Keeps.helloConflict (h : Keeps s t) (m) : Keeps s (t.helloConflict m) :=
  .ite (.conflictSettle h _) h

theorem Keeps.peerFound (h : Keeps s t) (p m fcnt) : Keeps s (t.peerFound p m fcnt) :=
  .syncCredit (.modWire (.clearBooks (.modWire (.setO (.setO (.setO h _ _) _ _) _ _) _ _) _) _ _) _

theorem Keeps.helloTake (h : Keeps s t) (p m) : Keeps s (t.helloTake p m) :=
  .ite (.ite (.modWire (.setO (.helloConflict h _) _ _) _ _) (.ite (.inc (.drawn (.helloConflict h _)) _) (.peerFound (.peerGone
    (.drawn (.helloConflict h _)) _) _ _ _))) (.when (.helloConflict h _) (fun h => .peerFound h _ _ _))

theorem execHelloRx_keeps (h : Keeps s t) (p) : KeepsOut s (execHelloRx p t) := by
  dsimp only [execHelloRx]
  split
  · exact .next (.ofSnd (.takeMsg h _) ‹_›)
  · exact .ite (.next (.helloTake (.dropMsg (.ofSnd (.takeMsg h _) ‹_›) _) _ _)) (.next (.dropMsg (.ofSnd (.takeMsg h _) ‹_›) _))

theorem execAddrListenEnd_keeps (h : Keeps s t) : KeepsOut s (execAddrListenEnd t) := by
  dsimp only [execAddrListenEnd]
  refine .ite ?_ (.next h)
  split
  · exact .next h
  · exact .next (.firmFlood (.modFab (.addrState (.setO (.putAddr h _) _ _) _) _) _ _ _ _)

theorem execAddrClaimWaitEnd_keeps (h : Keeps s t) : KeepsOut s (execAddrClaimWaitEnd t) :=
  .ite (.next (.unparkAll (.addrState h _))) (.next h)

theorem KeepsOpt.trailCommit (h : Keeps s t) (v) : KeepsOpt s (t.trailCommit v) :=
  .ite .none (.ite (.some h) (.some (.modFab h _)))

theorem execFabTrailCommit_keeps (h : Keeps s t) (who v) : KeepsOut s (execFabTrailCommit who v t) :=
  .next (.getD (.trailCommit h _) (.dropped h _ _ _ _))

theorem Keeps.dueMiss (h : Keeps s t) (due t') : Keeps s (t.dueMiss due t').2 :=
  .iteSnd (.miss h _ _ _) h

theorem KeepsOpt.uniDeliver (h : Keeps s t) (src m addr) : KeepsOpt s (t.uniDeliver src m addr) :=
  .ite .none (.some (.setO (.wbs (.ite (.inc h _) h)) _ _))

theorem Keeps.uniStep (h : Keeps s t) (t' r owner copy due at_) : Keeps s (t.uniStep t' r owner copy due at_) := by
  dsimp only [State.uniStep]
  split
  · exact .modSteps (.recordState h _ _) _
  · exact .radioStep (.modSteps (.recordState h _ _) _) _ _ _ _ _

theorem Keeps.uniForward (h : Keeps s t) (m due) : Keeps s (t.uniForward m due) := by
  generalize hF : @State.uniForward = F
  delta State.uniForward at hF
  subst hF
  dsimp -zeta -iota -proj only
  have hn := Keeps.newRecord h 1 0x15 13 1 0 0
  generalize t.newRecord 1 0x15 13 1 0 0 = p at *
  obtain ⟨o, u⟩ := p
  extract_lets b ttl
  refine .ite (.dropMsg (.inc h _) _) ?_
  split
  · exact .dropMsg (.inc h _) _
  · cases o with
    | none => exact .dropMsg hn _
    | some a => exact .dropMsg (.uniStep hn _ _ _ _ _ _) _

theorem execUnicastTake_keeps (h : Keeps s t) : KeepsOut s (execUnicastTake t) := by
  dsimp only [execUnicastTake]
  split
  · exact .next (.ofSnd (.takeMsg h _) ‹_›)
  · refine .ite (.next (.dropMsg (.inc (.ofSnd (.takeMsg h _) ‹_›) _) _)) (.ite ?_ (.next (.uniForward (.dueMiss (.ofSnd
      (.takeMsg h _) ‹_›) _ _) _ _)))
    split
    · exact .next (.keepMsg (.ofOpt (.uniDeliver (.dueMiss (.ofSnd (.takeMsg h _) ‹_›) _ _) _ _ _) ‹_›) _)
    · exact .next (.dropMsg (.inc (.dueMiss (.ofSnd (.takeMsg h _) ‹_›) _ _) _) _)

theorem execUnicastWiredSend_keeps (h : Keeps s t) (p) : KeepsOut s (execUnicastWiredSend p t) := by
  dsimp only [execUnicastWiredSend]
  split
  · exact .next h
  · exact .ite (.next (.stepEnd h _ _ _)) (.next (.ite (.wireStep (.dueMiss h _ _) _ _ _) (.wireStep h _ _ _)))

theorem execForwardBind_keeps (h : Keeps s t) (who n i) : KeepsOut s (execForwardBind who n i t) :=
  .next (.getD (.bind h _ _ _) (.dropped h _ _ _ _))

theorem execForwardDeadline_keeps (h : Keeps s t) (n i) : KeepsOut s (execForwardDeadline n i t) :=
  .next (.descLate h _ _ _)

theorem execForwardBoundSettle_keeps (h : Keeps s t) (n i) : KeepsOut s (execForwardBoundSettle n i t) :=
  .next (.boundSettle h _ _ _)

theorem KeepsOpt.uqCons (h : Keeps s t) (v) : KeepsOpt s (t.uqCons v) :=
  .ite (.some (.setO h _ _)) .none

theorem execFabUqConsWrite_keeps (h : Keeps s t) (who v) : KeepsOut s (execFabUqConsWrite who v t) :=
  .next (.getD (.uqCons h _) (.dropped h _ _ _ _))

theorem Keeps.sendRun (h : Keeps s t) (n owner final m addr) {past : State → Nat → Nat → Nat → State}
    (hpast : ∀ u a b c, Keeps s u → Keeps s (past u a b c)) : Keeps s (t.sendRun n owner final m addr past) := by
  refine .ite ?_ ?_
  · split
    · exact hpast _ _ _ _ (.ofOpt (.uniDeliver h _ _ _) ‹_›)
    · exact hpast _ _ _ _ (.inc (.drawn h) _)
  · split
    · exact hpast _ _ _ _ (.inc (.drawn h) _)
    · exact .uniStep h _ _ _ _ _ _

theorem Keeps.sendAccept (h : Keeps s t) (x) : Keeps s (t.sendAccept x) :=
  .ite (.jobMissed h _) (.ite (.payloadOver h _) (.ite (.jobOver h _ _ _ _ _ _ _) (.sendRun (.modJobs h _) _ _ _ _ _ (fun _ _ _ _
    h => .jobOver h _ _ _ _ _ _ _))))

theorem Keeps.firmSend (h : Keeps s t) (core ttl final svc due payload addr) :
    Keeps s (t.firmSend core ttl final svc due payload addr) := by
  generalize hF : @State.firmSend = F
  delta State.firmSend at hF
  subst hF
  dsimp -zeta -iota -proj only
  split
  · exact .ofSnd (.newRecord h _ _ _ _ _ _) ‹_›
  · next hr =>
    have hu := Keeps.ofSnd (.newRecord h _ _ _ _ _ _) hr
    exact .ite (.recordEnd hu _ _ _ _ _) (.sendRun hu _ _ _ _ _ (fun _ _ _ _ h => .recordEnd h _ _ _ _ _))

theorem execJobSend_keeps (h : Keeps s t) (who a) : KeepsOut s (execJobSend who a t) := by
  dsimp only [execJobSend]
  split
  · exact .next (.submitKind h _ _ _)
  · exact .ite (.next (.sendAccept (.submitKind h _ _ _) _)) (.next (.submitKind h _ _ _))

theorem execJobStart_keeps (h : Keeps s t) : KeepsOut s (execJobStart t) := by
  dsimp only [execJobStart]
  split
  · exact .next (.ite (.floodAccept h _) (.sendAccept h _))
  · exact .next (.jobStart h)

/-! ## Machine/Mac -/

theorem Keeps.setSeen (h : Keeps s t) (up endAt) : Keeps s (t.setSeen up endAt) := by
  dsimp only [State.setSeen]
  split
  · exact h
  · exact .ite h (.hwWrite (.hwWrite h _ _) _ _)

theorem Keeps.ackOutside (h : Keeps s t) (n x) : Keeps s (t.ackOutside n x) :=
  .ite (.unless (.modSlice h _ _) (fun h => .inc h _)) h

theorem Keeps.rxTake (h : Keeps s t) (n k p m sc) : Keeps s (t.rxTake n k p m sc) :=
  .ite (.giveUp (.inc (.fillCells (.setSeen h _ _) _ _ _) _) _ _) (.toSearch (.ackOutside (.when (.setI (.inc (.inc (.modSlice
    (.fillCells (.setSeen h _ _) _ _ _) _ _) _) _) _ _ _) (fun h => .inc h _)) _ _) _ _)

theorem execDrainDone_keeps (h : Keeps s t) (n k raw m sc) : KeepsOut s (execDrainDone n k raw m sc t) :=
  .ite (.ite (.next (.rxTake h _ _ _ _ _)) (.next (.giveUp (.inc (.fillCells h _ _ _) _) _ _))) (.next h)

theorem Keeps.modRx (h : Keeps s t) (n slot f) : Keeps s (t.modRx n slot f) :=
  .modSlice h _ _

theorem execMicVerifyDone_keeps (h : Keeps s t) (n slot) : KeepsOut s (execMicVerifyDone n slot t) := by
  dsimp only [execMicVerifyDone]
  split
  · exact .next h
  · exact .ite (.next h) (.next (.modRx (.fillCells h _ _ _) _ _ _))

theorem Keeps.verdict (h : Keeps s t) (n slot v cause f) : Keeps s (t.verdict n slot v cause f) :=
  .modRx (.when (.inc h _) (fun h => .setO h _ _)) _ _ _

theorem Keeps.rollSeen (h : Keeps s t) (k) : Keeps s (t.rollSeen k) := by
  dsimp only [State.rollSeen]
  split
  · exact .ite (.modMac h _) h
  · exact h

theorem Keeps.judgeHot (h : Keeps s t) (n e h' promoted) : Keeps s (t.judgeHot n e h' promoted) :=
  .verdict (.when (.ite (.rollSeen (.setHotWin h _ _) _) h) (fun h => .wn (.setHotFlag h _ _ _) _ _ _)) _ _ _ _ _

theorem Keeps.judgeFresh (h : Keeps s t) (n e h') : Keeps s (t.judgeFresh n e h') :=
  .verdict (.inc (.wn (.setHotFlag (.rollSeen (.setHotWin h _ _) _) _ _ _) _ _ _) _) _ _ _ _ _

theorem Keeps.judgeScratch (h : Keeps s t) (n e a) : Keeps s (t.judgeScratch n e a) := by
  generalize hF : @State.judgeScratch = F
  delta State.judgeScratch at hF
  subst hF
  dsimp -zeta -iota -proj only
  extract_lets +onlyGivenNames k c u
  have hu : Keeps s u := .coldLook h a
  clear_value u
  split
  · extract_lets +onlyGivenNames w v
    have hv : Keeps s v := by
      refine .rollSeen (.inc ?_ _) _
      exact .coldWrite hu _ _ _ _
    exact .verdict hv _ _ _ _ _
  · next x _ =>
    generalize (u.coldWin a x).judge u.roll k c = p
    obtain ⟨v, roll, w⟩ := p
    exact .verdict (.when (.when hu fun h => .coldWrite h _ _ _ _) fun h => .rollSeen h _) _ _ _ _ _

theorem Keeps.judgeGood (h : Keeps s t) (n e) : Keeps s (t.judgeGood n e) := by
  dsimp only [State.judgeGood]
  refine .ite (.verdict h _ _ _ _ _) (.ite (.ite (.verdict h _ _ _ _ _) (.verdict h _ _ _ _ _)) (.ite (.modRx h _ _ _) ?_))
  split
  · exact .judgeHot h _ _ _ _
  · exact .ite (.verdict h _ _ _ _ _) (.modRx h _ _ _)

theorem Keeps.judge (h : Keeps s t) (n e) : Keeps s (t.judge n e) := by
  dsimp only [State.judge]
  refine .ite (.verdict h _ _ _ _ _) ?_
  split
  · exact .verdict (.ite (.radioConflict h) h) _ _ _ _ _
  · exact .ite (.verdict (.modRx h _ _ _) _ _ _ _ _) (.ite (.verdict (.modRx h _ _ _) _ _ _ _ _) (.ite (.verdict (.modRx h _ _ _)
      _ _ _ _ _) (.judgeGood (.modRx h _ _ _) _ _)))

theorem execSeqJudge_keeps (h : Keeps s t) : KeepsOut s (execSeqJudge t) := by
  dsimp only [execSeqJudge]
  split
  · exact .next h
  · exact .next (.judge h _ _)

theorem execColdLookupDone_keeps (h : Keeps s t) (n slot) : KeepsOut s (execColdLookupDone n slot t) := by
  dsimp only [execColdLookupDone]
  split
  · exact .next h
  · next e _ =>
    refine .ite (.next h) ?_
    split
    · exact .next (.judgeHot h _ _ _ _)
    · refine .ite (.next (.verdict h _ _ _ _ _)) (.ite (.next (.judgeScratch h _ _ _)) ?_)
      have hp := KeepsTriple.promote h (fSender e.psdu)
      split
      · next he =>
        rw [he] at hp
        cases hp with | mk hu => exact .next (.judgeHot hu _ _ _ _)
      · next he =>
        rw [he] at hp
        cases hp with | mk hu => exact .next (.judgeFresh hu _ _ _)

theorem Keeps.fabricFrame (h : Keeps s t) (n e) : Keeps s (t.fabricFrame n e) :=
  .ite h (.ite (.modFab h _) (.ite h (.inc h _)))

theorem Keeps.mapSeen (h : Keeps s t) (e) : Keeps s (t.mapSeen e) := by
  dsimp only [State.mapSeen]
  split
  · exact h
  · exact .ite (.modMac (.setMapCtrl h _ _ _) _) h

theorem Keeps.mapRemind (h : Keeps s t) (e) : Keeps s (t.mapRemind e) := by
  dsimp only [State.mapRemind]
  split
  · exact h
  · refine .ite h ?_
    split
    · exact h
    · exact .sendMapSet h _ _

theorem Keeps.noteReport (h : Keeps s t) (e) : Keeps s (t.noteReport e) :=
  .ite (.modMac h _) h

theorem Keeps.firmRead (h : Keeps s t) (e) : Keeps s (t.firmRead e) :=
  .ite h (.when (.noteReport (.mapRemind (.mapSeen (.ite (.modMac h _) h) _) _) _) (fun h => .fold (fun _ _ h => .ite (.mapAck h
    _ _) h) h))

theorem Keeps.publish (h : Keeps s t) (n e v) : Keeps s (t.publish n e v) :=
  .when (.when (.ite (.returnCells (.modSlice (.setO (.wbs h) _ _) _ _) _ _) (.holdCells (.modSlice (.setO (.wbs h) _ _) _ _) _
    _)) (fun h => .fabricFrame h _ _)) (fun h => .firmRead h _)

theorem execRxqPublish_keeps (h : Keeps s t) (n) : KeepsOut s (execRxqPublish n t) := by
  dsimp only [execRxqPublish]
  split
  · exact .next h
  · split
    · exact .next h
    · exact .ite (.next (.publish h _ _ _)) (.next h)

theorem KeepsOpt.rxqCons (h : Keeps s t) (n v) : KeepsOpt s (t.rxqCons n v) :=
  .ite (.some (.setO h _ _)) .none

theorem execRxqConsWrite_keeps (h : Keeps s t) (who n v) : KeepsOut s (execRxqConsWrite who n v t) :=
  .next (.getD (.rxqCons h _ _) (.dropped h _ _ _ _))

theorem execCipherSchedBlock_keeps (h : Keeps s t) (tag sf drift tsync) : KeepsOut s (execCipherSchedBlock tag sf drift tsync t)
    := by
  dsimp only [execCipherSchedBlock]
  split <;> exact .next (.withRbytes h)

/-! ## Machine/Alarm -/

theorem Keeps.modShell (h : Keeps s t) (f) : Keeps s (t.modShell f) :=
  .withShell h

theorem execAlarmSourceDetect_keeps (h : Keeps s t) (src stopped) : KeepsOut s (execAlarmSourceDetect src stopped t) :=
  .ite (.next (.modShell h _)) (.next h)

theorem Keeps.unlockEnd (h : Keeps s t) : Keeps s t.unlockEnd :=
  .ite (.setO (.setO h _ _) _ _) h

theorem Keeps.alarmLatch (h : Keeps s t) (src act) : Keeps s (t.alarmLatch src act) :=
  .ite (.raise (.inc (.setO (.setO h _ _) _ _) _) _ _ _) (.modShell (.unlockEnd (.inc (.setO (.setO h _ _) _ _) _)) _)

theorem execAlarmLatch_keeps (h : Keeps s t) (src) : KeepsOut s (execAlarmLatch src t) := by
  dsimp only [execAlarmLatch]
  split
  · exact .next h
  · exact .ite (.next (.modShell (.upTo h _) _)) (.next (.alarmLatch (.when (.modShell (.upTo h _) _) (fun h => .airStop h _)) _
      _))

theorem Keeps.jobKeyEnd (h : Keeps s t) (x units begun) : Keeps s (t.jobKeyEnd x units begun) :=
  .jobOver (.when (.jobWrites (.readSrc h _ _) _ _ _) (fun h => .scramble h _ _)) _ _ _ _ _ _ _

theorem Keeps.keyAbort (h : Keeps s t) (cuts) : Keeps s (t.keyAbort cuts) := by
  dsimp only [State.keyAbort]
  refine .fold (fun _ _ h => ?_) (.fold (fun _ _ h => .modSlice h _ _) h)
  split <;> exact .jobKeyEnd h _ _ _

theorem execKeyBusClose_keeps (h : Keeps s t) (cuts) : KeepsOut s (execKeyBusClose cuts t) := by
  dsimp only [execKeyBusClose]
  split
  · exact .next h
  · exact .next (.modShell (.keyAbort (.upTo h _) _) _)

theorem Keeps.zeroise (h : Keeps s t) : Keeps s t.zeroise :=
  .countSlots (.fold (fun _ _ h => .emptySlot h _) h)

theorem execSlotZeroise_keeps (h : Keeps s t) : KeepsOut s (execSlotZeroise t) := by
  dsimp only [execSlotZeroise]
  split
  · exact .next h
  · exact .next (.raise (.modShell (.setO (.zeroise (.upTo h _)) _ _) _) _ _ _)

theorem Keeps.unlock (h : Keeps s t) (level dur) : Keeps s (t.unlock level dur) :=
  .setO (.setO h _ _) _ _

theorem execFusePurge_keeps (h : Keeps s t) : KeepsOut s (execFusePurge t) := by
  dsimp only [execFusePurge]
  split
  · exact .next h
  · split
    · exact .next (.modShell (.setO (.upTo h _) _ _) _)
    · exact .next (.unlock (.modShell (.setO (.upTo h _) _ _) _) _ _)

theorem KeepsOptSnd.challenge (h : Keeps s t) : KeepsOptSnd s t.challenge :=
  .ite .none (.some (.modShell (.drbg h _) _))

theorem execDebugChallenge_keeps (h : Keeps s t) : KeepsOut s (execDebugChallenge t) := by
  dsimp only [execDebugChallenge]
  split
  · exact .next (.withRbytes h)
  · exact .next (.withRbytes (.ofOptSnd (.challenge h) ‹_›))

theorem Keeps.debugResponse (h : Keeps s t) (b) : Keeps s (t.debugResponse b) :=
  .ite (.ite (.unlock (.modShell h _) _ _) (.modShell (.modShell h _) _)) (.raise (.when (.setO (.modShell h _) _ _) (fun h =>
    .setO (.setO h _ _) _ _)) _ _ _)

theorem execDebugResponse_keeps (h : Keeps s t) (b) : KeepsOut s (execDebugResponse b t) :=
  .next (.debugResponse h _)

theorem execDebugUnlockEnd_keeps (h : Keeps s t) : KeepsOut s (execDebugUnlockEnd t) :=
  .ite (.next (.unlockEnd (.upTo h _))) (.next h)

/-! ## Machine/Dram -/

theorem Keeps.victimRefresh (h : Keeps s t) (v) : Keeps s (t.victimRefresh v) :=
  .modDram (.addO h _ _ _) _

theorem Keeps.throttle (h : Keeps s t) (b req) : Keeps s (t.throttle b req) :=
  .ite h (.unless (.modDram (.setO (.inc h _) _ _) _) (fun h => .raise (.modDram h _) _ _ _))

theorem Keeps.activate (h : Keeps s t) (b r req) : Keeps s (t.activate b r req) :=
  .when (.modDram (.fold (fun _ _ h => .victimRefresh h _) h) _) (fun h => .throttle (.modDram h _) _ _)

theorem Keeps.openRowAt (h : Keeps s t) (b r req) : Keeps s (t.openRowAt b r req) :=
  .ite (.modDram h _) (.activate h _ _ _)

theorem Keeps.touchRow (h : Keeps s t) (a req) : Keeps s (t.touchRow a req) :=
  .openRowAt h _ _ _

theorem execRhVictimRefresh_keeps (h : Keeps s t) : KeepsOut s (execRhVictimRefresh t) := by
  dsimp only [execRhVictimRefresh]
  split
  · exact .next h
  · exact .next (.victimRefresh h _)

theorem execRhWindowStart_keeps (h : Keeps s t) : KeepsOut s (execRhWindowStart t) :=
  .next (.modDram h _)

theorem Keeps.dramRead (h : Keeps s t) (c q) : Keeps s (t.dramRead c q) :=
  .ite (.withRbytes h) (.ite (.withRbytes h) (.withRbytes (.dramCheck (.touchRow h _ _) _ _ _)))

theorem Keeps.dramWrite (h : Keeps s t) (q b) : Keeps s (t.dramWrite q b) :=
  .dramHeal (.wbs (.ite h (.dramCheck h _ _ _))) _ _

theorem Keeps.dramAccept (h : Keeps s t) (q) : Keeps s (t.dramAccept q) := by
  dsimp only [State.dramAccept]
  refine .ite h ?_
  split
  · exact .modDram h _
  · exact .modDram (.dramWrite h _ _) _

theorem Keeps.dramServe (h : Keeps s t) (c q) : Keeps s (t.dramServe c q) := by
  dsimp only [State.dramServe]
  split
  · exact .dramRead (.modDram (.withRdata h) _) _ _
  · exact .touchRow (.modDram (.withRdata h) _) _ _

theorem Keeps.dramFlush (h : Keeps s t) : Keeps s t.dramFlush := by
  dsimp only [State.dramFlush]
  split
  · exact .modDram h _
  · exact .same h rfl rfl rfl

theorem execDramRequest_keeps (h : Keeps s t) (c arrived) : KeepsOut s (execDramRequest c arrived t) := by
  dsimp only [execDramRequest]
  refine .ite (.next h) (.ite (.next (.dramFlush h)) ?_)
  split
  · exact .next (.fold (fun _ _ h => .dramAccept h _) h)
  · exact .next (.dramServe (.modDram (.fold (fun _ _ h => .dramAccept h _) h) _) _ _)

theorem Keeps.dramDrain (h : Keeps s t) : Keeps s t.dramDrain :=
  .fold (fun _ _ h => .dramServe h _ _) (.fold (fun _ _ h => .dramServe h _ _) h)

theorem execScrubRead_keeps (h : Keeps s t) (fill err) : KeepsOut s (execScrubRead fill err t) :=
  .ite (.next h) (.ite (.ite (.next (.modDram (.openRowAt h _ _ _) _)) (.next h)) (.ite (.next (.modDram h _)) (.next (.dramCheck
    (.touchRow (.modDram h _) _ _) _ _ _))))

theorem Keeps.dramBlank (h : Keeps s t) : Keeps s t.dramBlank := .setO (.modDram (.memFilter h _) _) _ _

theorem execDramInit_keeps (h : Keeps s t) : KeepsOut s (execDramInit t) :=
  .ite (.next (.setO (.setO (.setO (.setO (.setO h _ _) _ _) _ _) _ _) _ _)) (.next h)

theorem execDramReady_keeps (h : Keeps s t) : KeepsOut s (execDramReady t) :=
  .ite (.next (.modDram (.setO (.dramBlank h) _ _) _)) (.next h)

theorem execDramPanic_keeps (h : Keeps s t) (n level waited) : KeepsOut s (execDramPanic n level waited t) :=
  .ite (.next (.when (.setO (.setO h _ _) _ _) (fun h => .modDram h _))) (.ite (.next (.inc (.modDram (.setO (.setO h _ _) _ _)
    _) _)) (.next (.setO (.setO h _ _) _ _)))

theorem KeepsOpt.maxlevelWrite (h : Keeps s t) (n v) : KeepsOpt s (t.maxlevelWrite n v) :=
  .ite (.some (.setO h _ _)) .none

theorem execDrmRtnMaxlevelReset_keeps (h : Keeps s t) (who n v) : KeepsOut s (execDrmRtnMaxlevelReset who n v t) :=
  .next (.getD (.maxlevelWrite h _ _) (.dropped h _ _ _ _))

theorem Keeps.refInt (h : Keeps s t) (c) : Keeps s (t.refInt c) :=
  .setO h _ _

theorem execDramRefresh_keeps (h : Keeps s t) (c bank base) : KeepsOut s (execDramRefresh c bank base t) :=
  .ite (.next (.refInt (.modDram h _) _)) (.next h)

theorem Keeps.retrainStep (h : Keeps s t) (c step eye) : Keeps s (t.retrainStep c step eye) := by
  dsimp only [State.retrainStep]
  split
  · exact .withPower (.setO h _ _)
  · exact .when (.when (.modDram (.inc h _) _) (fun h => .setO h _ _)) (fun h => .raise (.setO h _ _) _ _ _)

theorem Keeps.roundEnd (h : Keeps s t) (c) : Keeps s (t.roundEnd c) :=
  .modDram (.when (.setO h _ _) (fun h => .setO h _ _)) _

theorem Keeps.tempFirst (h : Keeps s t) (c t') : Keeps s (t.tempFirst c t') :=
  .ite h (.modDram h _)

theorem execDramRetrainPause_keeps (h : Keeps s t) (eye temp0 temp1) : KeepsOut s (execDramRetrainPause eye temp0 temp1 t) := by
  dsimp only [execDramRetrainPause]
  refine .ite (.next h) ?_
  split
  · exact .next (.tempFirst (.tempFirst (.modDram (.upTo h _) _) _ _) _ _)
  · exact .ite (.next (.inc (.miss (.unless (.tempFirst (.tempFirst (.modDram (.upTo h _) _) _ _) _ _) (fun h => .modDram h _)) _
      _ _) _)) (.ite (.next (.roundEnd (.retrainStep (.inc (.unless (.tempFirst (.tempFirst (.modDram (.upTo h _) _) _ _) _ _)
      (fun h => .modDram h _)) _) _ _ _) _)) (.next (.modDram (.retrainStep (.inc (.unless (.tempFirst (.tempFirst (.modDram
      (.upTo h _) _) _ _) _ _) (fun h => .modDram h _)) _) _ _ _) _)))

theorem execDramFenceCheck_keeps (h : Keeps s t) : KeepsOut s (execDramFenceCheck t) :=
  .ite (.next (.modDram h _)) (.next h)

theorem Keeps.fence (h : Keeps s t) (c) : Keeps s (t.fence c) :=
  .raise (.modDram (.ite (.setO (.setO (.dramBlank (.setO (.jobsKeepSrc (.fold (fun _ _ h => .ite (.capStop h _) h) h) _ _) _ _))
    _ _) _ _) (.setO (.setO (.dramBlank (.setO (.jobsKeepSrc (.fold (fun _ _ h => .ite (.capStop h _) h) h) _ _) _ _)) _ _) _ _))
    _) _ _ _

theorem execDramFenced_keeps (h : Keeps s t) (c) : KeepsOut s (execDramFenced c t) := by
  dsimp only [execDramFenced]
  split
  · exact .next h
  · exact .next (.fence (.modDram (.upTo h _) _) _)

/-! ## Machine/Operands -/

theorem Keeps.stackPut (h : Keeps s t) (x a n v) : Keeps s (t.stackPut x a n v) :=
  .ite (.wn h _ _ _) h

theorem Keeps.stackPush (h : Keeps s t) (x p e l) : Keeps s (State.stackPush t x p e l) := by
  induction l generalizing t p with
  | nil => exact h
  | cons v r ih => exact ih (.stackPut h _ _ _ _) _

theorem Keeps.dSwap (h : Keeps s t) (c n outs) : Keeps s (t.dSwap c n outs) :=
  .modCore (.stackPush h _ _ _ _) _ _

theorem Keeps.rSwap (h : Keeps s t) (c n outs) : Keeps s (t.rSwap c n outs) :=
  .modCore (.stackPush h _ _ _ _) _ _

theorem Keeps.setMode (h : Keeps s t) (c m) : Keeps s (t.setMode c m) :=
  .modCore h _ _

theorem Keeps.meet (h : Keeps s t) (a n) : Keeps s (t.meet a n).2 :=
  .iteSnd (.dramLook h _ _) (.readOver h _ _)

theorem Keeps.askReset (h : Keeps s t) (cause) : Keeps s (t.askReset cause) :=
  .withPower h

/-! ## Machine/Flash -/

theorem Keeps.flashJob (h : Keeps s t) (j) : Keeps s (t.flashJob j).2 := by
  have hn := Keeps.newRecord h 1 6 14 (if j.op = 0 then j.len else 1) 0 (flashTag j.op j.area j.sector)
  rcases hr : t.newRecord 1 6 14 (if j.op = 0 then j.len else 1) 0 (flashTag j.op j.area j.sector) with ⟨o, u⟩
  rw [hr] at hn
  cases o with
  | none =>
    have e : t.flashJob j = ([0, 9], u) := by
      unfold State.flashJob
      dsimp only
      rw [hr]
      rfl
    rw [e]
    exact hn
  | some a =>
    rw [State.flashJob_some hr]
    exact .modFlash hn _

theorem Keeps.flProgram (h : Keeps s t) (c src a len) : Keeps s (t.flProgram c src a len).2 :=
  .iteSnd h (.iteSnd h (.iteSnd h (.iteSnd h (.iteSnd h (.iteSnd h (.iteSnd h (.flashJob h _)))))))

theorem Keeps.flErase (h : Keeps s t) (c l area) : Keeps s (t.flErase c l area).2 :=
  .iteSnd h (.iteSnd h (.iteSnd h (.iteSnd h (.flashJob h _))))

theorem Keeps.flRelocate (h : Keeps s t) (c l area skip len) : Keeps s (t.flRelocate c l area skip len).2 :=
  .iteSnd h (.iteSnd h (.iteSnd h (.iteSnd h (.iteSnd h (.flashJob h _)))))

theorem Keeps.putWord (h : Keeps s t) (a v) : Keeps s (t.putWord a v) :=
  .unitsNew (.wn (.modFlash h _) _ _ _) _ _

theorem Keeps.flCtrword (h : Keeps s t) (v a) : Keeps s (t.flCtrword v a).2 :=
  .iteSnd h (.iteSnd h (.iteSnd h (.iteSnd h (.iteSnd h (.iteSnd h (.inc (.putWord h _ _) _))))))

theorem Keeps.readLines (h : Keeps s t) (a e cb k cbs) : Keeps s (State.readLines t a e cb k cbs).2.2 := by
  induction k generalizing t a cb cbs with
  | zero => exact h
  | succ k ih =>
    dsimp only [State.readLines]
    split
    · exact h
    · split
      · exact .ofSnd (.flashRead h _ _) ‹_›
      · exact ih (.ofSnd (.flashRead h _ _) ‹_›) _ _ _

theorem Keeps.flReadchk (h : Keeps s t) (src dst len cbs) : Keeps s (t.flReadchk src dst len cbs).2 :=
  .iteSnd h (.iteSnd h (.iteSnd h (.when (.readLines h _ _ _ _ _) (fun h => .dramHeal (.wbs (.dramEdges h _ _)) _ _))))

theorem Keeps.dirtyDone (h : Keeps s t) (b) : Keeps s (t.dirtyDone b) := by
  dsimp only [State.dirtyDone]
  split
  · exact h
  · exact .modBank (.wearOne h _ _) _ _

theorem Keeps.takeClean (h : Keeps s t) (b) : Keeps s (t.takeClean b).2 := by
  dsimp only [State.takeClean]
  split
  · exact .ite (.dirtyDone h _) h
  · exact .modBank (.ite (.dirtyDone h _) h) _ _

theorem Keeps.remap (h : Keeps s t) (area l p old) : Keeps s (t.remap area l p old) :=
  .inc (.modBank h _ _) _

theorem Keeps.modFj (h : Keeps s t) (t' f) : Keeps s (t.modFj t' f) :=
  .modFlash h _

theorem Keeps.openIntent (h : Keeps s t) (i) : Keeps s (t.openIntent i) :=
  .inc (.modFlash h _) _

theorem Keeps.closeIntent (h : Keeps s t) (t') : Keeps s (t.closeIntent t') :=
  .modFlash h _

theorem Keeps.flashEnd (h : Keeps s t) (j st cause done flags) : Keeps s (t.flashEnd j st cause done flags) :=
  .flashShow (.toCore (.modFlash (.recordEnd h _ _ _ _ _) _) _ _)

theorem Keeps.flashFail (h : Keeps s t) (t' code addr) : Keeps s (t.flashFail t' code addr) :=
  .setO (.setO (.setO h _ _) _ _) _ _

theorem Keeps.pageOpen (h : Keeps s t) (j) : Keeps s (t.pageOpen j) :=
  .unless (.ite h (.modFj (.recordState h _ _) _ _)) (fun h => .openIntent h _)

theorem Keeps.copyUnits (h : Keeps s t) (t' a e) : Keeps s (t.copyUnits t' a e) :=
  .fold (fun _ _ h => .flashFail (.readNoted h _) _ _ _) (.fold (fun _ _ h => .readNoted h _) h)

theorem Keeps.copySector (h : Keeps s t) (t' area l lo hi) : Keeps s (t.copySector t' area l lo hi) :=
  .modFlash (.copyUnits (.copyUnits h _ _ _) _ _ _) _

theorem KeepsOpt.retire (h : Keeps s t) (area l) : KeepsOpt s (t.retire area l) := by
  dsimp only [State.retire]
  split
  · exact .none
  · exact .some (.when (.raise (.addO (.inc (.remap (.ofSnd (.takeClean h _) ‹_›) _ _ _ _) _) _ _ _) _ _ _) (fun h => .raise h _
      _ _))

theorem KeepsOpt.programLine (h : Keeps s t) (j a pulses) : KeepsOpt s (t.programLine j a pulses) := by
  dsimp only [State.programLine]
  refine .ite ?_ (.ite (.some (.flashWarn (.modBank (.unitsNew (.wbs (.sawBytes h _ _ _)) _ _) _ _) _ _)) (.some (.unitsNew (.wbs
    (.sawBytes h _ _ _)) _ _)))
  split
  · exact .none
  · exact .some (.unitsNew (.wbs (.ofOpt (.retire (.copySector (.sawBytes h _ _ _) _ _ _ _ _) _ _) ‹_›)) _ _)

theorem Keeps.programLines (h : Keeps s t) (j stop d l) : Keeps s (State.programLines t j stop d l).2.2 := by
  induction l generalizing t d with
  | nil => exact h
  | cons p r ih =>
    dsimp only [State.programLines]
    split
    · exact h
    · split
      · exact h
      · exact ih (.ofOpt (.programLine h _ _ _) ‹_›) _

theorem execFlashPageProgram_keeps (h : Keeps s t) (t' pulses) : KeepsOut s (execFlashPageProgram t' pulses t) := by
  dsimp only [execFlashPageProgram]
  split
  · exact .next h
  · exact .ite (.next h) (.ite (.next (.flashEnd (.flashFail (.scramble (.wn (.modFj (.programLines (.flashShow (.pageOpen h _))
      _ _ _ _) _ _) _ _ _) _ _) _ _ _) _ _ _ _ _)) (.ite (.next (.flashEnd (.when (.wn (.modFj (.programLines (.flashShow
      (.pageOpen h _)) _ _ _ _) _ _) _ _ _) (fun h => .closeIntent h _)) _ _ _ _ _)) (.next (.flashShow (.when (.wn (.modFj
      (.programLines (.flashShow (.pageOpen h _)) _ _ _ _) _ _) _ _ _) (fun h => .closeIntent h _))))))

theorem Keeps.eraseInPlace (h : Keeps s t) (area l) : Keeps s (t.eraseInPlace area l) :=
  .unless (.inc (.wearOne h _ _) _) (fun h => .raise (.modBank h _ _) _ _ _)

theorem Keeps.eraseSector (h : Keeps s t) (area l) : Keeps s (t.eraseSector area l) := by
  dsimp only [State.eraseSector]
  refine .blankSector ?_ _ _
  split
  · exact .remap (.ofSnd (.takeClean h _) ‹_›) _ _ _ _
  · exact .eraseInPlace (.ofSnd (.takeClean h _) ‹_›) _ _

theorem Keeps.eraseRecord (h : Keeps s t) (j) : Keeps s (t.eraseRecord j) :=
  .flashEnd (.closeIntent (.eraseSector h _ _) _) _ _ _ _ _

theorem Keeps.blankSkip (h : Keeps s t) (j) : Keeps s (t.blankSkip j) := .unitsNew (.memFilter h _) _ _

theorem Keeps.dropPermit (h : Keeps s t) (j) : Keeps s (t.dropPermit j) :=
  .ite (.withShell h) h

theorem Keeps.relocateRecord (h : Keeps s t) (j) : Keeps s (t.relocateRecord j) := by
  dsimp only [State.relocateRecord]
  split
  · exact .flashEnd (.flashFail (.closeIntent (.ofSnd (.takeClean h _) ‹_›) _) _ _ _) _ _ _ _ _
  · exact .dropPermit (.flashEnd (.closeIntent (.blankSkip (.remap (.copySector (.ofSnd (.takeClean h _) ‹_›) _ _ _ _ _) _ _ _ _)
      _) _) _ _ _ _ _) _

theorem Keeps.meetAll (h : Keeps s t) (j met) : Keeps s (t.meetAll j met) :=
  .fold (fun _ _ h => .meetUnit h _ _) h

theorem execFlashMappingRecord_keeps (h : Keeps s t) (t' q) : KeepsOut s (execFlashMappingRecord t' q t) := by
  dsimp only [execFlashMappingRecord]
  split
  · exact .next h
  · exact .ite (.next h) (.ite (.next (.flashShow (.ite h (.openIntent (.modFj (.recordState h _ _) _ _) _)))) (.next (.flashShow
      (.ite (.dropPermit (.eraseRecord (.ite h (.openIntent (.modFj (.recordState h _ _) _ _) _)) _) _) (.relocateRecord
      (.meetAll (.ite h (.openIntent (.modFj (.recordState h _ _) _ _) _)) _ _) _)))))

theorem execBackgroundErase_keeps (h : Keeps s t) (b) : KeepsOut s (execBackgroundErase b t) :=
  .ite (.next h) (.next (.flashShow (.inc (.modBank h _ _) _)))

theorem execBackgroundEraseDone_keeps (h : Keeps s t) (b) : KeepsOut s (execBackgroundEraseDone b t) :=
  .ite (.next (.flashShow (.dirtyDone h _))) (.next h)

theorem execFlashReadSuspend_keeps (h : Keeps s t) (b) : KeepsOut s (execFlashReadSuspend b t) :=
  .ite (.next (.inc (.modBank h _ _) _)) (.next h)

theorem execFlashResume_keeps (h : Keeps s t) (b) : KeepsOut s (execFlashResume b t) :=
  .ite (.next (.modBank h _ _)) (.next h)

theorem KeepsOpt.lockWrite (h : Keeps s t) (v rom) : KeepsOpt s (t.lockWrite v rom) :=
  .ite (.some (.modFlash (.setO h _ _) _)) .none

theorem execFlsLockWrite_keeps (h : Keeps s t) (who v rom) : KeepsOut s (execFlsLockWrite who v rom t) :=
  .next (.getD (.lockWrite h _ _) (.dropped h _ _ _ _))

theorem KeepsOpt.indetAck (h : Keeps s t) (v) : KeepsOpt s (t.indetAck v) :=
  .ite (.some (.setO (.setBlob (.modFlash h _) _ _) _ _)) .none

theorem execFlsIndetAck_keeps (h : Keeps s t) (who v) : KeepsOut s (execFlsIndetAck who v t) :=
  .next (.getD (.indetAck h _) (.dropped h _ _ _ _))

theorem Keeps.wordCut (h : Keeps s t) : Keeps s t.wordCut := by
  dsimp only [State.wordCut]
  split
  · exact h
  · exact .unless (.modFlash h _) (fun h => .modFlash (.wn (.drawn h) _ _ _) _)

theorem Keeps.flashCut (h : Keeps s t) : Keeps s t.flashCut :=
  .modFlash (.fold (fun _ _ h => .scramble h _ _) (.fold (fun _ _ h => .scramble h _ _) (.wordCut h))) _

theorem Keeps.journalScan (h : Keeps s t) : Keeps s t.journalScan :=
  .flashShow (.modFlash (.fold (fun _ _ h => .raise (.setO (.ite (.setBlob h _ _) h) _ _) _ _ _) h) _)

/-! ## Machine/Route -/

theorem Keeps.rnbWrite (h : Keeps s t) (i x snr) : Keeps s (t.rnbWrite i x snr) :=
  .wbs h

theorem Keeps.pinNb (h : Keeps s t) (a pin) : Keeps s (t.pinNb a pin) := by
  dsimp only [State.pinNb]
  split
  · exact h
  · exact .getD (.ite (.hotPin h _) (.hotUnpin h _)) h

theorem Keeps.rnbPut (h : Keeps s t) (x) : Keeps s (t.rnbPut x) := by
  dsimp only [State.rnbPut]
  split
  · exact .pinNb (.rnbWrite (.drawn h) _ _ _) _ _
  · refine .when (.drawn h) (fun h => ?_)
    split
    · exact .pinNb (.rnbWrite h _ _ _) _ _
    · exact .ite (.pinNb (.rnbWrite (.pinNb h _ _) _ _ _) _ _) h

theorem execRadioNeighbourUpdate_keeps (h : Keeps s t) (n i) : KeepsOut s (execRadioNeighbourUpdate n i t) := by
  dsimp only [execRadioNeighbourUpdate]
  split
  · exact .next h
  · exact .next (.rnbPut (.modFab h _) _)

theorem Keeps.nbBoundary (h : Keeps s t) : Keeps s t.nbBoundary := by
  dsimp only [State.nbBoundary]
  refine .fold (fun _ _ h => ?_) (.modFab (.fold (fun _ _ h => .when ?_ (fun h => .timeMiss h)) h) _)
  · split
    · exact .wn (.wn h _ _ _) _ _ _
    · exact h
  · split
    · exact .pinNb (.wn h _ _ _) _ _
    · exact h

theorem Keeps.lsdbWrite (h : Keeps s t) (a stamp b) : Keeps s (t.lsdbWrite a stamp b) :=
  .ite (.inc (.hwWrite h _ _) _) h

theorem execLsaOriginate_keeps (h : Keeps s t) : KeepsOut s (execLsaOriginate t) :=
  .ite (.next (.modFab (.lsdbWrite (.firmFlood h _ _ _ _) _ _ _) _)) (.next h)

theorem execLsdbUpdate_keeps (h : Keeps s t) (i) : KeepsOut s (execLsdbUpdate i t) :=
  .ite (.next h) (.ite (.next (.lsdbWrite (.detectLsdb h _ _ _ _) _ _ _)) (.next (.detectLsdb h _ _ _ _)))

theorem execLsdbRecordExpire_keeps (h : Keeps s t) (a) : KeepsOut s (execLsdbRecordExpire a t) :=
  .ite (.next (.lsdbDrop h _)) (.next h)

theorem Keeps.spfShare (h : Keeps s t) (l) : Keeps s (t.spfShare l) := by
  dsimp only [State.spfShare]
  split <;> exact .modFab (.fold (fun _ _ h => .wbs h) h) _

theorem execSpfRun_keeps (h : Keeps s t) : KeepsOut s (execSpfRun t) := by
  dsimp only [execSpfRun]
  refine .ite (.next h) ?_
  split
  · exact .next (.spfShare (.modFab h _) _)
  · exact .ite (.next (.modFab h _)) (.next (.spfShare (.modFab (.withDraws (.modFab h _)) _) _))

/-! ## Machine/Timing -/

theorem Keeps.stepTime (h : Keeps s t) (t') : Keeps s (t.stepTime t') := by
  dsimp only [State.stepTime]
  refine .huskEmpty (.modFab (.modAir (.fold (fun _ _ h => .modSlice h _ _) ?_) _) _)
  exact .same h rfl rfl rfl

theorem Keeps.slewSlot (h : Keeps s t) : Keeps s t.slewSlot :=
  .withTime h

theorem Keeps.syncState (h : Keeps s t) (st) : Keeps s (t.syncState st) :=
  .setO h _ _

theorem Keeps.noParent (h : Keeps s t) : Keeps s t.noParent :=
  .setO (.setO h _ _) _ _

theorem Keeps.takeParent (h : Keeps s t) (c) : Keeps s (t.takeParent c) :=
  .when (.when (.modFab (.setO (.setO (.setO (.setO (.setO h _ _) _ _) _ _) _ _) _ _) _) (fun h => .drawn (.setO h _ _))) (fun h
    => .raise (.inc h _) _ _ _)

theorem Keeps.enterHold (h : Keeps s t) : Keeps s t.enterHold :=
  .raise (.modFab (.setO (.syncState h _) _ _) _) _ _ _

theorem Keeps.timeSplit (h : Keeps s t) (a) : Keeps s (t.timeSplit a) :=
  .ite h (.raise (.modFab (.inc h _) _) _ _ _)

theorem Keeps.chosenState (h : Keeps s t) : Keeps s t.chosenState :=
  .ite (.syncState h _) (.ite (.syncState (.drawn h) _) h)

theorem execParentSwitch_keeps (h : Keeps s t) : KeepsOut s (execParentSwitch t) := by
  dsimp only [execParentSwitch]
  split
  · refine .next ?_
    split
    · exact .timeSplit h _
    · exact h
  · refine .ite (.ite (.next (.chosenState (.takeParent ?_ _))) (.next ?_)) (.ite (.next (.chosenState (.takeParent ?_ _))) ?_)
    · split
      · exact .timeSplit h _
      · exact h
    · split
      · exact .timeSplit h _
      · exact h
    · split
      · exact .timeSplit h _
      · exact h
    · split
      · refine .ite (.next (.takeParent (.when ?_ (fun h => .syncState h _)) _)) (.next (.when ?_ (fun h => .syncState h _)))
        · split
          · exact .timeSplit h _
          · exact h
        · split
          · exact .timeSplit h _
          · exact h
      · refine .next (.when ?_ (fun h => .syncState h _))
        split
        · exact .timeSplit h _
        · exact h

theorem execReferenceTake_keeps (h : Keeps s t) : KeepsOut s (execReferenceTake t) :=
  .ite (.next (.setO (.setO (.setO (.syncState (.noParent h) _) _ _) _ _) _ _)) (.next h)

theorem Keeps.steerBy (h : Keeps s t) (t2) : Keeps s (t.steerBy t2) :=
  .modFab (.setI h _ _ _) _

theorem Keeps.timeJudge (h : Keeps s t) (c t2) : Keeps s (t.timeJudge c t2) :=
  .modFab (.drawn (.ite (.setO (.ite (.enterHold (.modFab h _)) (.when (.modFab h _) (fun h => .syncState h _))) _ _) (.when
    (.ite (.enterHold (.modFab h _)) (.when (.modFab h _) (fun h => .syncState h _))) (fun h => .setO h _ _)))) _

theorem Keeps.timeMeasure (h : Keeps s t) (c t2) : Keeps s (t.timeMeasure c t2) :=
  .ite (.stepTime (.setO (.setO (.modFab (.when (.setI (.drawn h) _ _ _) (fun h => .setO h _ _)) _) _ _) _ _) _) (.timeJudge
    (.steerBy (.modFab (.setO (.setO (.modFab (.when (.setI (.drawn h) _ _ _) (fun h => .setO h _ _)) _) _ _) _ _) _) _) _ _)

theorem execTimeReqSend_keeps (h : Keeps s t) (p) : KeepsOut s (execTimeReqSend p t) := by
  dsimp only [execTimeReqSend]
  refine .ite ?_ (.next h)
  split
  · exact .next h
  · exact .next (.modWire (.ofOpt (.wireSend h _ _ _) ‹_›) _ _)

theorem execTimeReqRx_keeps (h : Keeps s t) (p) : KeepsOut s (execTimeReqRx p t) := by
  dsimp only [execTimeReqRx]
  split
  · exact .next (.ofSnd (.takeMsg h _) ‹_›)
  · exact .ite (.next (.modWire (.dropMsg (.ofSnd (.takeMsg h _) ‹_›) _) _ _)) (.next (.dropMsg (.ofSnd (.takeMsg h _) ‹_›) _))

theorem Keeps.portFree (h : Keeps s t) (p) : Keeps s (t.portFree p) :=
  .modWire (.portFlush h _) _ _

theorem execTimeRspSend_keeps (h : Keeps s t) (p) : KeepsOut s (execTimeRspSend p t) := by
  dsimp only [execTimeRspSend]
  split
  · exact .next h
  · exact .next (.portFree (.getD (.wireSend (.upTo (.modWire h _ _) _) _ _ _) (.upTo (.modWire h _ _) _)) _)

theorem Keeps.putDelay (h : Keeps s t) (p d2) : Keeps s (t.putDelay p d2) :=
  .setO (.modWire (.setI (.drawn h) _ _ _) _ _) _ _

theorem Keeps.timeRsp (h : Keeps s t) (p t1 t2 t3 t4) : Keeps s (t.timeRsp p t1 t2 t3 t4) := by
  dsimp only [State.timeRsp]
  split
  · exact .putDelay h _ _
  · exact .unless (.modWire (.putDelay h _ _) _ _) (fun h => .timeMeasure h _ _)

theorem execTimeRspRx_keeps (h : Keeps s t) (p) : KeepsOut s (execTimeRspRx p t) := by
  dsimp only [execTimeRspRx]
  split
  · exact .next (.ofSnd (.takeMsg h _) ‹_›)
  · split
    · exact .next (.dropMsg (.ofSnd (.takeMsg h _) ‹_›) _)
    · exact .ite (.next (.timeRsp (.modWire (.dropMsg (.ofSnd (.takeMsg h _) ‹_›) _) _ _) _ _ _ _ _)) (.next (.dropMsg (.ofSnd
        (.takeMsg h _) ‹_›) _))

theorem execTimeExchangeMiss_keeps (h : Keeps s t) (p) : KeepsOut s (execTimeExchangeMiss p t) := by
  dsimp only [execTimeExchangeMiss]
  split
  · exact .next h
  · exact .ite (.next (.timeMiss (.modWire (.upTo h _) _ _))) (.next (.modWire (.upTo h _) _ _))

theorem execBeaconTimeMeasure_keeps (h : Keeps s t) (n i) : KeepsOut s (execBeaconTimeMeasure n i t) := by
  dsimp only [execBeaconTimeMeasure]
  split
  · exact .next h
  · refine .ite (.next h) ?_
    split
    · exact .next h
    · exact .ite (.next (.timeMeasure (.modFab h _) _ _)) (.next (.modFab h _))

theorem Keeps.countMisses (h : Keeps s t) : Keeps s t.countMisses := by
  dsimp only [State.countMisses]
  refine .ite h (.ite (.timeMiss h) ?_)
  split
  · exact .timeMiss h
  · exact .ite h (.timeMiss h)

theorem Keeps.thirdMiss (h : Keeps s t) : Keeps s t.thirdMiss := by
  dsimp only [State.thirdMiss]
  split
  · exact .modFab (.takeParent h _) _
  · exact .unless (.setO (.noParent h) _ _) (fun h => .enterHold h)

theorem execTimingSuperframeCheck_keeps (h : Keeps s t) : KeepsOut s (execTimingSuperframeCheck t) :=
  .next (.modFab (.when (.countMisses h) (fun h => .thirdMiss h)) _)

theorem Keeps.enterFreeRun (h : Keeps s t) : Keeps s t.enterFreeRun :=
  .raise (.syncState h _) _ _ _

theorem Keeps.rankLost (h : Keeps s t) : Keeps s t.rankLost :=
  .ite (.ite (.enterHold (.drawn h)) (.modFab (.syncState (.drawn h) _) _)) h

theorem Keeps.holdSlot (h : Keeps s t) : Keeps s t.holdSlot :=
  .ite (.when (.when (.modFab h _) (fun h => .modFab (.setO h _ _) _)) (fun h => .enterFreeRun h)) h

theorem KeepsExc.timeSet (h : Keeps s t) (v) : KeepsExc s (t.timeSet v) :=
  .ite .error (.ite (.ok (.stepTime h _)) .error)

theorem execFabTimeSet_keeps (h : Keeps s t) (who v) : KeepsOut s (execFabTimeSet who v t) := by
  dsimp only [execFabTimeSet]
  split
  · exact .next (.ofExc (.timeSet h _) ‹_›)
  · exact .next (.dropped h _ _ _ _)

/-! ## Machine/Services -/

theorem Keeps.modSvc (h : Keeps s t) (f) : Keeps s (t.modSvc f) :=
  .withSvc h

theorem Keeps.refuse (h : Keeps s t) (who k v) : Keeps s (t.refuse who k v) :=
  .dropped h _ _ _ _

theorem Keeps.buildShards (h : Keeps s t) (copy l) : Keeps s (t.buildShards copy l) :=
  .fold (fun _ _ h => .wn h _ _ _) h

theorem Keeps.takeRoster (h : Keeps s t) (r) : Keeps s (t.takeRoster r) :=
  .ite (.buildShards (.setO (.modSvc h _) _ _) _ _) h

theorem Keeps.publishRoster (h : Keeps s t) (l) : Keeps s (t.publishRoster l) :=
  .takeRoster (.modSvc (.firmFlood h _ _ _ _) _) _

theorem execRosterCheck_keeps (h : Keeps s t) : KeepsOut s (execRosterCheck t) := by
  dsimp only [execRosterCheck]
  refine .ite (.ite (.ite (.next (.publishRoster ?_ _)) (.ite (.next (.modSvc ?_ _)) (.ite (.next (.publishRoster (.modSvc ?_ _)
    _)) (.next (.modSvc ?_ _))))) (.next (.modSvc h _))) (.next h)
  · split
    · exact .ite (.firmFlood h _ _ _ _) h
    · exact h
  · split
    · exact .ite (.firmFlood h _ _ _ _) h
    · exact h
  · split
    · exact .ite (.firmFlood h _ _ _ _) h
    · exact h
  · split
    · exact .ite (.firmFlood h _ _ _ _) h
    · exact h

theorem Keeps.modQ (h : Keeps s t) (q f) : Keeps s (t.modQ q f) :=
  .modSvc h _

theorem Keeps.qHold (h : Keeps s t) (q round nopt openAt closeAt lo span st) : Keeps s (t.qHold q round nopt openAt closeAt lo
    span st) :=
  .fold (fun _ _ h => .setO h _ _) (.modSvc (.modQ (.setO (.setO h _ _) _ _) _ _) _)

theorem KeepsOpt.qOpen (h : Keeps s t) (q) : KeepsOpt s (t.qOpen q) :=
  .ite .none (.some (.firmFlood (.qHold h _ _ _ _ _ _ _ _) _ _ _ _))

theorem KeepsOpt.qCancel (h : Keeps s t) (q) : KeepsOpt s (t.qCancel q) :=
  .ite .none (.some (.setO (.firmFlood h _ _ _ _) _ _))

theorem KeepsOpt.qCmd (h : Keeps s t) (q v) : KeepsOpt s (t.qCmd q v) :=
  .ite (.qOpen h _) (.ite (.qCancel h _) .none)

theorem execQOpen_keeps (h : Keeps s t) (who q) : KeepsOut s (execQOpen who q t) :=
  .next (.getD (.qOpen h _) (.refuse h _ _ _))

theorem execQCancel_keeps (h : Keeps s t) (who q) : KeepsOut s (execQCancel who q t) :=
  .next (.getD (.qCancel h _) (.refuse h _ _ _))

theorem Keeps.qReflood (h : Keeps s t) : Keeps s t.qReflood :=
  .fold (fun _ _ h => .ite (.firmFlood h _ _ _ _) h) h

theorem execQuestionReflood_keeps (h : Keeps s t) : KeepsOut s (execQuestionReflood t) :=
  .ite (.next (.qReflood h)) (.next h)

theorem execQuestionRx_keeps (h : Keeps s t) (i) : KeepsOut s (execQuestionRx i t) :=
  .ite (.next h) (.ite (.next (.qHold h _ _ _ _ _ _ _ _)) (.ite (.next (.setO h _ _)) (.next h)))

theorem execQuestionOpenAt_keeps (h : Keeps s t) (q) : KeepsOut s (execQuestionOpenAt q t) :=
  .ite (.next (.setO (.upTo h _) _ _)) (.next h)

theorem execQuestionCloseAt_keeps (h : Keeps s t) (q) : KeepsOut s (execQuestionCloseAt q t) :=
  .ite (.next (.setO (.upTo h _) _ _)) (.next h)

theorem execQuestionFinal_keeps (h : Keeps s t) (q) : KeepsOut s (execQuestionFinal q t) :=
  .ite (.next (.setO (.upTo h _) _ _)) (.next h)

theorem Keeps.countPress (h : Keeps s t) (t') : Keeps s (t.countPress t') :=
  .ite h (.ite (.inc h _) (.inc (.modQ h _ _) _))

theorem Keeps.countDue (h : Keeps s t) : Keeps s t.countDue :=
  .fold (fun _ _ h => .countPress h _) (.modSvc h _)

theorem execPressCount_keeps (h : Keeps s t) : KeepsOut s (execPressCount t) :=
  .next (.countDue h)

theorem Keeps.send (h : Keeps s t) (core final svc due payload) : Keeps s (t.send core final svc due payload) :=
  .firmSend (.ite (.wbs h) h) _ _ _ _ _ _ _

theorem Keeps.offer (h : Keeps s t) (t' hearer) : Keeps s (t.offer t' hearer) :=
  .ite (.modSvc h _) h

theorem Keeps.basketUp (h : Keeps s t) (t' hearer) : Keeps s (t.basketUp t' hearer) :=
  .ite (.modSvc h _) (.fold (fun _ _ h => .send h _ _ _ _ _) (.modSvc h _))

theorem Keeps.takePress (h : Keeps s t) (t') : Keeps s (t.takePress t') :=
  .ite (.modSvc h _) (.inc h _)

theorem Keeps.applyTag (h : Keeps s t) (t' sender) : Keeps s (t.applyTag t' sender) := by
  dsimp only [State.applyTag]
  split
  · exact .when (.ite (.offer h _ _) h) (fun h => .takePress h _)
  · exact .ite (.offer h _ _) h
  · exact .ite (.basketUp (.offer h _ _) _ _) h
  · exact h

theorem Keeps.takeTag (h : Keeps s t) (t' sender) : Keeps s (t.takeTag t' sender) :=
  .ite (.modSvc (.inc h _) _) (.applyTag h _ _)

theorem Keeps.waitOver (h : Keeps s t) (h' qs) : Keeps s (t.waitOver h' qs) :=
  .unless (.modSvc h _) (fun h => .fold (fun _ _ h => .applyTag h _ _) h)

theorem Keeps.emptyShard (h : Keeps s t) (h' q) : Keeps s (t.emptyShard h' q) :=
  .modQ h _ _

theorem Keeps.startEmpty (h : Keeps s t) (h' qs) : Keeps s (t.startEmpty h' qs) :=
  .waitOver (.modSvc (.inc (.fold (fun _ _ h => .emptyShard h _ _) h) _) _) _ _

theorem Keeps.handoverParts (h : Keeps s t) (dest q n f part offs) : Keeps s (State.handoverParts t dest q n f part offs) := by
  induction f generalizing t part offs with
  | zero => exact h
  | succ f ih => exact .ite (.send h _ _ _ _ _) (ih (.send h _ _ _ _ _) _ _)

theorem Keeps.dropShard (h : Keeps s t) (h') : Keeps s (t.dropShard h') :=
  .fold (fun _ _ h => .emptyShard h _ _) (.modSvc h _)

theorem Keeps.rehold (h : Keeps s t) (was new h' l) : Keeps s (t.rehold was new h' l) :=
  .ite h (.ite (.ite (.unless (.ite (.fold (fun _ _ h => .fold (fun _ _ h => .handoverParts h _ _ _ _ _ _) h) h) h) (fun h =>
    .startEmpty h _ _)) (.fold (fun _ _ h => .modSvc h _) (.ite (.fold (fun _ _ h => .fold (fun _ _ h => .handoverParts h _ _ _ _
    _ _) h) h) h))) (.when (.ite (.fold (fun _ _ h => .fold (fun _ _ h => .handoverParts h _ _ _ _ _ _) h) h) h) (fun h =>
    .dropShard h _)))

theorem Keeps.newRun (h : Keeps s t) : Keeps s t.newRun :=
  .ite (.modSvc h _) (.modSvc (.setO (.setO (.setO (.drawnReq h) _ _) _ _) _ _) _)

theorem Keeps.runBoundary (h : Keeps s t) : Keeps s t.runBoundary :=
  .ite (.newRun h) h

theorem Keeps.adoptRoster (h : Keeps s t) (r l) : Keeps s (t.adoptRoster r l) :=
  .when (.when (.fold (fun _ _ h => .rehold h _ _ _ _) (.modSvc (.setO (.setO (.setO (.setO (.setO (.setO (.setO (.buildShards h
    _ _) _ _) _ _) _ _) _ _) _ _) _ _) _ _) _)) (fun h => .newRun h)) (fun h => .qReflood h)

theorem execRosterAdopt_keeps (h : Keeps s t) : KeepsOut s (execRosterAdopt t) := by
  dsimp only [execRosterAdopt]
  split
  · exact .next h
  · exact .ite (.next h) (.ite (.next (.adoptRoster (.upTo h _) _ _)) (.next (.setO (.upTo h _) _ _)))

theorem execHandoverRx_keeps (h : Keeps s t) (i) : KeepsOut s (execHandoverRx i t) :=
  .ite (.next h) (.ite (.next (.waitOver (.modQ h _ _) _ _)) (.next (.modQ h _ _)))

theorem execHandoverTimeout_keeps (h : Keeps s t) (shard q) : KeepsOut s (execHandoverTimeout shard q t) :=
  .ite (.next (.startEmpty h _ _)) (.next h)

theorem Keeps.sendTag (h : Keeps s t) (dest t') : Keeps s (t.sendTag dest t') :=
  .ite h (.send (.ite (.inc h _) h) _ _ _ _ _)

theorem execTagfwdSend_keeps (h : Keeps s t) (n i) : KeepsOut s (execTagfwdSend n i t) := by
  dsimp only [execTagfwdSend]
  refine .ite (.next h) ?_
  split
  · exact .ite (.next h) (.ite (.next (.sendTag (.sendTag h _ _) _ _)) (.next (.inc h _)))
  · exact .ite (.next (.sendTag h _ _)) (.next h)
  · exact .ite (.next h) (.ite (.next (.inc h _)) (.next (.sendTag h _ _)))
  · exact .next h

theorem execTagfwdRx_keeps (h : Keeps s t) (i) : KeepsOut s (execTagfwdRx i t) :=
  .ite (.next h) (.ite (.next (.takeTag h _ _)) (.ite (.next (.inc h _)) (.ite (.next (.ite (.unless (.inc h _) (fun h => .send h
    _ _ _ _ _)) (.send (.unless (.inc h _) (fun h => .send h _ _ _ _ _)) _ _ _ _ _))) (.next (.unless (.inc h _) (fun h => .send
    h _ _ _ _ _))))))

theorem Keeps.putTotals (h : Keeps s t) (q l nodes) : Keeps s (t.putTotals q l nodes) :=
  .setO (.fold (fun _ _ h => .setO h _ _) h) _ _

theorem execRollupSend_keeps (h : Keeps s t) : KeepsOut s (execRollupSend t) :=
  .ite (.next h) (.ite (.next (.fold (fun _ _ h => .putTotals h _ _ _) h)) (.next (.send (.modSvc (.fold (fun _ _ h => .putTotals
    h _ _ _) h) _) _ _ _ _ _)))

theorem execRollupRx_keeps (h : Keeps s t) (i) : KeepsOut s (execRollupRx i t) :=
  .ite (.next h) (.ite (.next (.inc h _)) (.next (.modSvc (.ite (.miss h _ _ _) h) _)))

theorem Keeps.reportMissed (h : Keeps s t) (r) : Keeps s (t.reportMissed r) :=
  .modSvc (.miss h _ _ _) _

theorem Keeps.reportBoundary (h : Keeps s t) : Keeps s t.reportBoundary := by
  dsimp only [State.reportBoundary]
  refine .when ?_ (fun h => .modSvc h _)
  split
  · exact .reportMissed h _
  · exact h

theorem Keeps.reportSend (h : Keeps s t) (r) : Keeps s (t.reportSend r) :=
  .modSvc (.fold (fun _ _ h => .modQ h _ _) (.inc (.raiseFw (.fold (fun _ _ h => .putTotals h _ _ _) h) _ _ _ _) _)) _

theorem execHcReport_keeps (h : Keeps s t) : KeepsOut s (execHcReport t) := by
  dsimp only [execHcReport]
  split
  · exact .next h
  · exact .ite (.next (.reportSend h _)) (.next (.reportMissed h _))

theorem Keeps.setCues (h : Keeps s t) (l) : Keeps s (t.setCues l) :=
  .setO (.modSvc h _) _ _

theorem Keeps.cueTake (h : Keeps s t) (b) : Keeps s (t.cueTake b) :=
  .ite (.setCues h _) (.ite h (.ite (.inc (.miss h _ _ _) _) (.ite (.inc h _) (.setCues h _))))

theorem KeepsOpt.ltnSend (h : Keeps s t) : KeepsOpt s t.ltnSend :=
  .ite .none (.some (.cueTake (.firmFlood h _ _ _ _) _))

theorem execLtnSend_keeps (h : Keeps s t) (who) : KeepsOut s (execLtnSend who t) :=
  .next (.getD (.ltnSend h) (.refuse h _ _ _))

theorem execCueRx_keeps (h : Keeps s t) (i) : KeepsOut s (execCueRx i t) :=
  .ite (.next (.cueTake h _)) (.next h)

theorem Keeps.latch (h : Keeps s t) (p v) : Keeps s (t.latch p v) :=
  .setO h _ _

theorem execCueFire_keeps (h : Keeps s t) : KeepsOut s (execCueFire t) := by
  dsimp only [execCueFire]
  split
  · exact .next h
  · exact .ite (.next (.setCues (.upTo h _) _)) (.ite (.next (.miss (.setCues (.upTo h _) _) _ _ _)) (.ite (.next (.inc (.latch
      (.setCues (.upTo h _) _) _ _) _)) (.next (.setCues (.upTo h _) _))))

theorem execHomeDecide_keeps (h : Keeps s t) (tag fcnt) : KeepsOut s (execHomeDecide tag fcnt t) := by
  dsimp only [execHomeDecide]
  split
  · exact .next h
  · split
    · exact .next h
    · exact .ite (.next (.modSvc (.upTo h _) _)) (.ite (.next (.send (.modSvc (.upTo h _) _) _ _ _ _ _)) (.next (.send (.send
        (.modSvc (.upTo h _) _) _ _ _ _ _) _ _ _ _ _)))

theorem execHomeRx_keeps (h : Keeps s t) (i) : KeepsOut s (execHomeRx i t) :=
  .ite (.next (.modSvc h _)) (.next h)

theorem execHomeLapse_keeps (h : Keeps s t) (tag) : KeepsOut s (execHomeLapse tag t) := by
  dsimp only [execHomeLapse]
  split
  · exact .next h
  · exact .next (.modSvc (.upTo h _) _)

theorem Keeps.putRecord (h : Keeps s t) (c) : Keeps s (t.putRecord c) :=
  .setO (.modSvc h _) _ _

theorem Keeps.addRecord (h : Keeps s t) (c) : Keeps s (t.addRecord c) :=
  .ite (.unless (.inc h _) (fun h => .raiseFw (.modSvc h _) _ _ _ _)) (.putRecord h _)

theorem execBskUpRx_keeps (h : Keeps s t) (i) : KeepsOut s (execBskUpRx i t) :=
  .ite (.next (.addRecord h _)) (.next h)

theorem Keeps.sendRecord (h : Keeps s t) (r) : Keeps s (t.sendRecord r) :=
  .ite (.modSvc (.raiseFw h _ _ _ _) _) h

theorem execBskRecordSend_keeps (h : Keeps s t) : KeepsOut s (execBskRecordSend t) :=
  .next (.elim h (fun _ => .sendRecord h _))

theorem KeepsOpt.bskAcked (h : Keeps s t) (v) : KeepsOpt s (t.bskAcked v) :=
  .ite (.some (.modSvc (.setO h _ _) _)) .none

theorem execBskAckedWrite_keeps (h : Keeps s t) (who v) : KeepsOut s (execBskAckedWrite who v t) :=
  .next (.getD (.bskAcked h _) (.dropped h _ _ _ _))

theorem Keeps.bskSession (h : Keeps s t) : Keeps s t.bskSession :=
  .modSvc h _

theorem execBskStatusSend_keeps (h : Keeps s t) : KeepsOut s (execBskStatusSend t) :=
  .ite (.next h) (.ite (.next (.raiseFw h _ _ _ _)) (.next (.miss h _ _ _)))

theorem Keeps.setOpens (h : Keeps s t) (l) : Keeps s (t.setOpens l) :=
  .setO (.modSvc h _) _ _

theorem KeepsOpt.dnSend (h : Keeps s t) : KeepsOpt s t.dnSend :=
  .ite .none (.some (.unless (.setOpens h _) (fun h => .send h _ _ _ _ _)))

theorem execBskDnSend_keeps (h : Keeps s t) (who) : KeepsOut s (execBskDnSend who t) :=
  .next (.getD (.dnSend h) (.refuse h _ _ _))

theorem Keeps.serve (h : Keeps s t) (r) : Keeps s (t.serve r) :=
  .ite h (.modSvc h _)

theorem Keeps.dnOver (h : Keeps s t) (r home value) : Keeps s (t.dnOver r home value) :=
  .putRecord (.setOpens h _) _

theorem Keeps.downTake (h : Keeps s t) (r) : Keeps s (t.downTake r) := by
  dsimp only [State.downTake]
  refine .ite (.serve h _) ?_
  split
  · exact .ite (.serve h _) (.send h _ _ _ _ _)
  · exact .firmFlood h _ _ _ _

theorem execBskDownRx_keeps (h : Keeps s t) (page i) : KeepsOut s (execBskDownRx page i t) := by
  dsimp only [execBskDownRx]
  refine .ite (.next h) (.ite (.ite (.next (.serve h _)) (.next h)) (.ite (.next (.downTake h _)) (.ite ?_ (.next h))))
  split
  · exact .next h
  · exact .next (.dnOver h _ _ _)

theorem Keeps.downSend (h : Keeps s t) (tag r b) : Keeps s (t.downSend tag r b) :=
  .withRbytes (.dnSent h _)

theorem Keeps.downMaps (h : Keeps s t) (tag r) : Keeps s (t.downMaps tag r) :=
  .ite (.withRbytes h) (.downSend h _ _ _)

theorem execBskDownTx_keeps (h : Keeps s t) (req fcnt) : KeepsOut s (execBskDownTx req fcnt t) := by
  dsimp only [execBskDownTx]
  split
  · exact .next (.withRbytes h)
  · split
    · exact .next (.withRbytes h)
    · exact .ite (.next (.modSvc (.downSend h _ _ _) _)) (.next (.downMaps h _ _))

theorem Keeps.dnAck (h : Keeps s t) (tag v) : Keeps s (t.dnAck tag v) := by
  dsimp only [State.dnAck]
  split
  · exact h
  · exact .ite (.send (.modSvc (.dnHeard h _) _) _ _ _ _ _) h

theorem execDnAckRx_keeps (h : Keeps s t) (n i) : KeepsOut s (execDnAckRx n i t) :=
  .ite (.next (.fold (fun _ _ h => .ite (.dnAck h _ _) h) h)) (.next h)

theorem execBskDnExpire_keeps (h : Keeps s t) (req) : KeepsOut s (execBskDnExpire req t) := by
  dsimp only [execBskDnExpire]
  split
  · exact .next h
  · exact .next (.dnOver (.upTo h _) _ _ _)

theorem Keeps.beaconTick (h : Keeps s t) : Keeps s t.beaconTick :=
  .modMac h _

theorem Keeps.svcDiscard (h : Keeps s t) : Keeps s t.svcDiscard :=
  .modSvc (.when (.setOpens (.setCues h _) _) (fun h => .setO h _ _)) _

/-! ## Machine/Timebase -/

theorem Keeps.tcFlag (h : Keeps s t) (n b x) : Keeps s (t.tcFlag n b x) :=
  .setO h _ _

theorem Keeps.tcStep (h : Keeps s t) (n) : Keeps s (t.tcStep n).1 :=
  .when (.when (.when (.when (.modTc (.setO h _ _) _ _) (fun h => .tcFlag h _ _ _)) (fun h => .tcFlag h _ _ _)) (fun h => .raise
    h _ _ _)) (fun h => .raise h _ _ _)

theorem Keeps.tcEvent (h : Keeps s t) (f n) : Keeps s (State.tcEvent f n t) := by
  induction f generalizing n t with
  | zero => exact h
  | succ f ih =>
    dsimp only [State.tcEvent]
    refine .ite ?_ h
    split
    · exact ih (.tcStep h _) _
    · exact .tcStep h _

theorem execCounterSourceEvent_keeps (h : Keeps s t) (n) : KeepsOut s (execCounterSourceEvent n t) :=
  .ite (.next h) (.next (.tcEvent h _ _))

theorem Keeps.tcCapture1 (h : Keeps s t) (n) : Keeps s (t.tcCapture1 n) :=
  .tcFlag (.setO (.ite (.tcFlag h _ _ _) h) _ _) _ _ _

theorem Keeps.tcCapture (h : Keeps s t) (f n) : Keeps s (State.tcCapture f n t) := by
  induction f generalizing n t with
  | zero => exact h
  | succ f ih => exact .dite (fun _ => .ite (ih (.tcCapture1 h _) _) (.tcCapture1 h _)) (fun _ => .tcCapture1 h _)

theorem Keeps.tcSourceAll (h : Keeps s t) (src hit) : Keeps s (t.tcSourceAll src hit) :=
  .fold (fun _ _ h => .ite (.tcEvent h _ _) h) h

theorem Keeps.tcCaptureAll (h : Keeps s t) (src hit) : Keeps s (t.tcCaptureAll src hit) :=
  .fold (fun _ _ h => .ite (.tcCapture h _ _) h) h

theorem Keeps.tcTick (h : Keeps s t) (sf) : Keeps s (t.tcTick sf) := by
  dsimp only [State.tcTick]
  exact .tcCaptureAll (.when (.tcSourceAll h _ _) (fun h => .tcSourceAll h _ _)) _ _

theorem Keeps.tcSlot (h : Keeps s t) : Keeps s t.tcSlot :=
  .tcCaptureAll (.tcSourceAll h _ _) _ _

theorem Keeps.tcGpio (h : Keeps s t) (p rise) : Keeps s (t.tcGpio p rise) :=
  .ite (.tcCaptureAll (.tcSourceAll h _ _) _ _) h

theorem Keeps.tcPanel (h : Keeps s t) (k rise) : Keeps s (t.tcPanel k rise) :=
  .tcCaptureAll (.tcSourceAll h _ _) _ _

theorem execCounterCapture_keeps (h : Keeps s t) (n) : KeepsOut s (execCounterCapture n t) :=
  .ite (.next h) (.next (.tcCapture h _ _))

theorem Keeps.tcGuard (h : Keeps s t) (who n k v) {f : State → State} (hf : ∀ u, Keeps s u → Keeps s (f u)) :
    Keeps s (t.tcGuard who n k v f) :=
  .ite (.dropped h _ _ _ _) (hf _ h)

theorem execTcRun_keeps (h : Keeps s t) (who n run) : KeepsOut s (execTcRun who n run t) :=
  .next (.tcGuard h _ _ _ _ (fun _ h => .setO h _ _))

theorem execTcClear_keeps (h : Keeps s t) (who n) : KeepsOut s (execTcClear who n t) :=
  .next (.tcGuard h _ _ _ _ (fun _ h => .setO h _ _))

theorem execTcSwcap_keeps (h : Keeps s t) (who n) : KeepsOut s (execTcSwcap who n t) :=
  .next (.tcGuard h _ _ _ _ (fun _ h => .tcCapture h _ _))

theorem Keeps.tcPutCount (h : Keeps s t) (n v) : Keeps s (t.tcPutCount n v) :=
  .tcFlag (.modTc (.setO h _ _) _ _) _ _ _

theorem Keeps.tcCtrl (h : Keeps s t) (n v) : Keeps s (t.tcCtrl n v) :=
  .when (.when (.setO h _ _) (fun h => .setO h _ _)) (fun h => .tcCapture h _ _)

theorem execTcCountWrite_keeps (h : Keeps s t) (who n v) : KeepsOut s (execTcCountWrite who n v t) :=
  .next (.tcGuard h _ _ _ _ (fun _ h => .tcPutCount h _ _))

theorem Keeps.tcReadCount (h : Keeps s t) (n) : Keeps s (t.tcReadCount n).1 := by
  dsimp only [State.tcReadCount]
  refine .iteFst ?_ (.fold (fun _ _ h => .tcFlag (.modTc h _ _) _ _ _) h)
  split
  · exact .tcFlag (.modTc h _ _) _ _ _
  · exact h

theorem execTcCountRead_keeps (h : Keeps s t) (n) : KeepsOut s (execTcCountRead n t) :=
  .next (.withRdata (.tcReadCount h _))

theorem Keeps.tcReadCap (h : Keeps s t) (n) : Keeps s (t.tcReadCap n).1 := by
  dsimp only [State.tcReadCap]
  refine .tcFlag (.iteFst ?_ (.fold (fun _ _ h => .tcFlag (.modTc h _ _) _ _ _) h)) _ _ _
  split
  · exact .tcFlag (.modTc h _ _) _ _ _
  · exact h

theorem execTcCapRead_keeps (h : Keeps s t) (n capture) : KeepsOut s (execTcCapRead n capture t) :=
  .next (.withRdata (.when (.tcReadCap h _) (fun h => .tcCapture h _ _)))

theorem Keeps.tcFlagsClear (h : Keeps s t) (n v) : Keeps s (t.tcFlagsClear n v) :=
  .fold (fun _ _ h => .ite (.setO h _ _) h) h

theorem execTcFlagsClear_keeps (h : Keeps s t) (n v) : KeepsOut s (execTcFlagsClear n v t) :=
  .next (.tcFlagsClear h _ _)

theorem Keeps.missClear (h : Keeps s t) (who k v) : Keeps s (t.missClear who k v) :=
  .ite (.setO h _ _) (.dropped h _ _ _ _)

theorem execMissCounterClear_keeps (h : Keeps s t) (who slice cls v) : KeepsOut s (execMissCounterClear who slice cls v t) := by
  dsimp only [execMissCounterClear]
  split <;> exact .ite (.next (.missClear h _ _ _)) (.next h)

theorem Keeps.panelEvent (h : Keeps s t) (k code) : Keeps s (t.panelEvent k code) :=
  .raise h _ _ _

theorem Keeps.panelBit (h : Keeps s t) (k b x) : Keeps s (t.panelBit k b x) :=
  .setO h _ _

theorem Keeps.panelPress (h : Keeps s t) (k) : Keeps s (t.panelPress k) :=
  .wakeBy (.tcPanel (.panelEvent (.modPanel (.panelBit h _ _ _) _ _) _ _) _ _) _

theorem Keeps.panelRelease (h : Keeps s t) (k) : Keeps s (t.panelRelease k) :=
  .when (.tcPanel (.panelEvent (.modPanel (.panelBit (.panelBit h _ _ _) _ _ _) _ _) _ _) _ _) (fun h => .wakeBy h _)

theorem Keeps.slpTo (h : Keeps s t) (t') : Keeps s (t.slpTo t') :=
  .ite h (.upTo h _)

theorem execPanelDebounceExpiry_keeps (h : Keeps s t) (k) : KeepsOut s (execPanelDebounceExpiry k t) :=
  .ite (.next (.ite (.panelPress (.slpTo h _) _) (.panelRelease (.slpTo h _) _))) (.next h)

theorem execPanelHoldExpiry_keeps (h : Keeps s t) (k) : KeepsOut s (execPanelHoldExpiry k t) :=
  .ite (.next (.panelEvent (.panelBit (.slpTo h _) _ _ _) _ _)) (.next h)

theorem execTouchScanStart_keeps (h : Keeps s t) (k) : KeepsOut s (execTouchScanStart k t) :=
  .ite (.next (.modPanel (.setO (.ite (.upTo h _) h) _ _) _ _)) (.next h)

theorem execTouchMeasurementDone_keeps (h : Keeps s t) (k cap) : KeepsOut s (execTouchMeasurementDone k cap t) :=
  .ite (.ite (.next (.modPanel (.setO (.panelBit (.setO (.tcCapture (.setO (.upTo h _) _ _) _ _) _ _) _ _ _) _ _) _ _)) (.next
    (.unless (.when (.modPanel (.panelBit (.setO (.tcCapture (.setO (.upTo h _) _ _) _ _) _ _) _ _ _) _ _) (fun h => .ite
    (.panelPress h _) (.panelRelease h _))) (fun h => .setO h _ _)))) (.next h)

theorem execTouchFault_keeps (h : Keeps s t) (k) : KeepsOut s (execTouchFault k t) :=
  .ite (.next (.panelEvent (.panelBit (.when (.modPanel (.upTo h _) _ _) (fun h => .panelRelease h _)) _ _ _) _ _)) (.next h)

/-! ## Machine/Ports -/

theorem Keeps.modCom (h : Keeps s t) (f) : Keeps s (t.modCom f) :=
  .withCom h

theorem Keeps.modPort (h : Keeps s t) (p f) : Keeps s (t.modPort p f) :=
  .modCom h _

theorem Keeps.sessFree (h : Keeps s t) (x) : Keeps s (t.sessFree x) :=
  .setBlob (.setO (.setO (.setO (.modCom (.modSess (.countSlots (.emptySlot h _)) _ _) _) _ _) _ _) _ _) _ _

theorem Keeps.freeHandlers (h : Keeps s t) (x) : Keeps s (t.freeHandlers x) :=
  .fold (fun _ _ h => .wb h _ _) h

theorem Keeps.sessClose (h : Keeps s t) (x reason) : Keeps s (t.sessClose x reason) :=
  .ite h (.when (.sessFree (.freeHandlers h _) _) (fun h => .raise (.setO h _ _) _ _ _))

theorem Keeps.ndSend (h : Keeps s t) (p src dst ty rest) : Keeps s (t.ndSend p src dst ty rest) :=
  .inc (.portSend h _ _) _

theorem Keeps.udpSend (h : Keeps s t) (p dst port payload) : Keeps s (t.udpSend p dst port payload) := by
  dsimp only [State.udpSend]
  split
  · exact .inc h _
  · exact .ite (.portSend h _ _) (.inc (.ndSend h _ _ _ _ _) _)

theorem Keeps.learn (h : Keeps s t) (p ip m) : Keeps s (t.learn p ip m) :=
  .ite h (.modPort h _ _)

theorem Keeps.dadFail (h : Keeps s t) (p i) : Keeps s (t.dadFail p i) :=
  .ite h (.raise (.setO h _ _) _ _ _)

theorem Keeps.portDrop (h : Keeps s t) (p) : Keeps s (t.portDrop p) :=
  .inc h _

theorem Keeps.udpTake (h : Keeps s t) (p hop src body sumOk) : Keeps s (t.udpTake p hop src body sumOk) :=
  .ite (.modCom h _) (.ite (.fabricRx h _ _ _ _) (.ite (.inc h _) (.portDrop h _)))

theorem Keeps.icmpTake (h : Keeps s t) (p pkt) : Keeps s (t.icmpTake p pkt) := by
  dsimp only [State.icmpTake]
  split
  · split
    · exact .when (.inc h _) (fun h => .dadFail h _ _)
    · exact .when (.inc h _) (fun h => .learn h _ _ _)
  · exact .modPort h _ _
  · exact .modPort h _ _
  · exact .portDrop h _

theorem Keeps.ipTake (h : Keeps s t) (p ether pkt) : Keeps s (t.ipTake p ether pkt) :=
  .ite (.portDrop h _) (.ite (.udpTake (.ite (.learn h _ _ _) h) _ _ _ _ _) (.ite (.icmpTake (.ite (.learn h _ _ _) h) _ _)
    (.portDrop (.ite (.learn h _ _ _) h) _)))

theorem Keeps.frameRead (h : Keeps s t) (p f) : Keeps s (t.frameRead p f) :=
  .ite (.portDrop h _) (.ipTake h _ _ _)

theorem Keeps.cellOf (h : Keeps s t) (old cs) : Keeps s (t.cellOf old cs) := .ite (.modCom h _) (.returnCells h _ _)

theorem Keeps.frameTake (h : Keeps s t) (p f) : Keeps s (t.frameTake p f) := by
  dsimp only [State.frameTake]
  refine .ite (.frameRead h _ _) ?_
  split
  · exact .ofSnd (.takeCells h _ _ _) ‹_›
  · exact .cellOf (.frameRead (.ofSnd (.takeCells h _ _ _) ‹_›) _ _) _ _

theorem execEthFrameRx_keeps (h : Keeps s t) (p frame fcsOk) : KeepsOut s (execEthFrameRx p frame fcsOk t) :=
  .ite (.next h) (.ite (.next (.inc h _)) (.ite (.ite (.next (.modPort (.inc h _) _ _)) (.next (.portDrop (.inc h _) _))) (.next
    (.frameTake (.inc h _) _ _))))

theorem Keeps.portsWake (h : Keeps s t) : Keeps s t.portsWake :=
  .fold (fun _ _ h => .fold (fun _ _ h => .frameTake h _ _) (.modPort h _ _)) h

theorem Keeps.icmpNext (h : Keeps s t) (p ty) : Keeps s (t.icmpNext p ty).2 := by
  dsimp only [State.icmpNext]
  split
  · exact h
  · exact .iteSnd (.modPort h _ _) h

theorem execNeighborSolicitationRx_keeps (h : Keeps s t) (p) : KeepsOut s (execNeighborSolicitationRx p t) := by
  dsimp only [execNeighborSolicitationRx]
  split
  · exact .next (.ofSnd (.icmpNext h _ _) ‹_›)
  · refine .ite (.next (.inc (.ofSnd (.icmpNext h _ _) ‹_›) _)) (.ite (.next (.ndSend (.when (.inc (.ofSnd (.icmpNext h _ _) ‹_›)
      _) (fun h => .learn h _ _ _)) _ _ _ _ _)) ?_)
    split
    · exact .ite (.next (.dadFail (.when (.inc (.ofSnd (.icmpNext h _ _) ‹_›) _) (fun h => .learn h _ _ _)) _ _)) (.next (.when
        (.inc (.ofSnd (.icmpNext h _ _) ‹_›) _) (fun h => .learn h _ _ _)))
    · exact .next (.when (.inc (.ofSnd (.icmpNext h _ _) ‹_›) _) (fun h => .learn h _ _ _))

theorem execEchoRequestRx_keeps (h : Keeps s t) (p) : KeepsOut s (execEchoRequestRx p t) := by
  dsimp only [execEchoRequestRx]
  split
  · exact .next (.ofSnd (.icmpNext h _ _) ‹_›)
  · refine .ite (.next (.ofSnd (.icmpNext h _ _) ‹_›)) ?_
    split
    · exact .next (.inc (.ofSnd (.icmpNext h _ _) ‹_›) _)
    · exact .next (.portSend (.ofSnd (.icmpNext h _ _) ‹_›) _ _)

theorem execLinkUp_keeps (h : Keeps s t) (p level sqi reversed) : KeepsOut s (execLinkUp p level sqi reversed t) :=
  .ite (.next h) (.next (.raise (.when (.fold (fun _ _ h => .ndSend h _ _ _ _ _) (.modPort (.setO (.setO (.inc (.setO (.setO
    (.setO h _ _) _ _) _ _) _) _ _) _ _) _ _)) (fun h => .setO h _ _)) _ _ _))

theorem Keeps.wireStepsDown (h : Keeps s t) (p) : Keeps s (t.wireStepsDown p) :=
  .fold (fun _ _ h => .ite (.stepEnd h _ _ _) (.ite (.stepEnd h _ _ _) h)) h

theorem Keeps.linkDown (h : Keeps s t) (p) : Keeps s (t.linkDown p) :=
  .ite h (.raise (.setO (.peerGone (.wireStepsDown (.modPort (.modCom (.fold (fun _ _ h => .returnCells h _ _) (.fold (fun _ _ h
    => .ite (.sessClose h _ _) h) (.inc (.setO h _ _) _))) _) _ _) _) _) _ _) _ _ _)

theorem execLinkDown_keeps (h : Keeps s t) (p) : KeepsOut s (execLinkDown p t) :=
  .next (.linkDown h _)

theorem Keeps.hspiShow (h : Keeps s t) : Keeps s t.hspiShow :=
  .setO h _ _

theorem execHspiStatus_keeps (h : Keeps s t) (ready) : KeepsOut s (execHspiStatus ready t) :=
  .ite (.next h) (.ite (.next (.withRdata h)) (.next (.withRdata (.hspiShow h))))

theorem Keeps.hspiTake (h : Keeps s t) (data crc cut ready) {take : State → State} (hf : ∀ u, Keeps s u → Keeps s (take u)) :
    Keeps s (t.hspiTake data crc cut ready take) :=
  .ite (.inc h _) (.ite (.inc h _) (.ite (.inc h _) (hf _ h)))

theorem execHspiWrite_keeps (h : Keeps s t) (data crc cut ready) : KeepsOut s (execHspiWrite data crc cut ready t) :=
  .ite (.next h) (.next (.hspiTake h _ _ _ _ (fun _ h => .modCom (.inc h _) _)))

theorem execHspiRead_keeps (h : Keeps s t) (cut) : KeepsOut s (execHspiRead cut t) :=
  .ite (.next h) (.ite (.next (.withRbytes h)) (.next (.hspiShow (.inc (.modCom (.withRbytes h) _) _))))

theorem execHspiDbgWrite_keeps (h : Keeps s t) (data crc cut ready) : KeepsOut s (execHspiDbgWrite data crc cut ready t) :=
  .ite (.next h) (.next (.hspiTake h _ _ _ _ (fun _ h => .modCom (.inc h _) _)))

theorem execHspiDbgRead_keeps (h : Keeps s t) (cut) : KeepsOut s (execHspiDbgRead cut t) :=
  .ite (.next h) (.ite (.next (.withRbytes h)) (.next (.modCom (.withRbytes h) _)))

theorem execGpioEdge_keeps (h : Keeps s t) (p level) : KeepsOut s (execGpioEdge p level t) :=
  .ite (.next h) (.ite (.next (.raise (.inc (.tcGpio (.setO h _ _) _ _) _) _ _ _)) (.next (.tcGpio (.setO h _ _) _ _)))

theorem KeepsOpt.gioWrite (h : Keeps s t) (f v) : KeepsOpt s (t.gioWrite f v) :=
  .ite (.some (.setO h _ _)) .none

theorem execGioSet_keeps (h : Keeps s t) (who v) : KeepsOut s (execGioSet who v t) :=
  .next (.getD (.gioWrite h _ _) (.dropped h _ _ _ _))

theorem execGioClr_keeps (h : Keeps s t) (who v) : KeepsOut s (execGioClr who v t) :=
  .next (.getD (.gioWrite h _ _) (.dropped h _ _ _ _))

theorem execGioToggle_keeps (h : Keeps s t) (who v) : KeepsOut s (execGioToggle who v t) :=
  .next (.getD (.gioWrite h _ _) (.dropped h _ _ _ _))

theorem KeepsOpt.gioAt (h : Keeps s t) (p v) : KeepsOpt s (t.gioAt p v) :=
  .ite (.some (.setO h _ _)) (.ite (.some (.setO h _ _)) .none)

theorem execGioAtWrite_keeps (h : Keeps s t) (who p v) : KeepsOut s (execGioAtWrite who p v t) :=
  .next (.getD (.gioAt h _ _) (.dropped h _ _ _ _))

theorem execGpioTimedDrive_keeps (h : Keeps s t) (p) : KeepsOut s (execGpioTimedDrive p t) :=
  .ite (.next h) (.ite (.next (.inc (.latch (.setO (.upTo h _) _ _) _ _) _)) (.next (.inc (.setO (.upTo h _) _ _) _)))

/-! ## Machine/Reset -/

theorem Keeps.modPower (h : Keeps s t) (f) : Keeps s (t.modPower f) :=
  .withPower h

theorem Keeps.spoilBanks (h : Keeps s t) (keep) : Keeps s (t.spoilBanks keep) :=
  .fold (fun _ _ h => .ite h (.spoil h _ _)) h

theorem Keeps.freeQueues (h : Keeps s t) (n) : Keeps s (t.freeQueues n) :=
  .fold (fun _ _ h => .fold (fun _ _ h => .setDesc h _ _ _ _) h) h

theorem Keeps.spoilSlice (h : Keeps s t) (n) : Keeps s (t.spoilSlice n) :=
  .freeQueues (.spoil h _ _) _

/-- A reset filters the stores. -/
theorem Keeps.fresh (h : Keeps s t) (cause) : Keeps s (t.fresh cause) := by
  intro x
  obtain ⟨hmem, hobjs, hblobs⟩ := (canonical_iff t).mp (h x)
  exact (canonical_iff _).mpr ⟨hmem, Sparse.wf_filter _ hobjs, Sparse.wf_filter _ hblobs⟩

theorem Keeps.sessionKeysGone (h : Keeps s t) : Keeps s t.sessionKeysGone :=
  .fold (fun _ _ h => .ite h (.countSlots (.emptySlot h _))) h

theorem Keeps.mainReset (h : Keeps s t) (cause) : Keeps s (t.mainReset cause) := by
  unfold State.mainReset
  extract_lets cut burns hot report sccp fresh wrap banks slices ways husk cause' reported
  have hcut : Keeps s cut := .sessionKeysGone (.flashCut (.cutAir h _))
  have hwrap : Keeps s wrap := .setO (.fresh hcut _) _ _
  have hbanks : Keeps s banks := .when hwrap fun h => .spoilBanks h _
  have hways : Keeps s ways := .unless (.fold (fun _ _ h => .spoilSlice h _) hbanks) fun h => .hotEmpty h
  have hcause : Keeps s cause' := .setO (.huskEmpty hways) _ _
  have hreported : Keeps s reported := .when hcause fun h => .raise (.modPower h _) _ _ _
  exact .when hreported fun h => .raise (.modPower h _) _ _ _

/-! ## Machine/Power -/

theorem Keeps.buckStart (h : Keeps s t) (vin) : Keeps s (t.buckStart vin) :=
  .modPower (.unless (.modPower h _) (fun h => .setO h _ _)) _

theorem execBuckStart_keeps (h : Keeps s t) (vin) : KeepsOut s (execBuckStart vin t) :=
  .ite (.next (.buckStart h _)) (.next h)

theorem execBuckRestart_keeps (h : Keeps s t) (vin) : KeepsOut s (execBuckRestart vin t) :=
  .ite (.next (.buckStart h _)) (.next h)

theorem execPowerUpSequence_keeps (h : Keeps s t) : KeepsOut s (execPowerUpSequence t) :=
  .ite (.next (.when (.modPower (.upTo h _) _) (fun h => .setO (.setO h _ _) _ _))) (.next h)

theorem execPgGood_keeps (h : Keeps s t) (resetN) : KeepsOut s (execPgGood resetN t) :=
  .ite (.next (.when (.modPower (.upTo h _) _) (fun h => .mainReset h _))) (.next h)

theorem Keeps.powerFail (h : Keeps s t) : Keeps s t.powerFail :=
  .airStop (.unless (.modPower h _) (fun h => .alarmLatch h _ _)) _

theorem execPowerFail_keeps (h : Keeps s t) (cause vin) : KeepsOut s (execPowerFail cause vin t) :=
  .ite (.next (.powerFail (.modPower h _))) (.next h)

theorem execBuckStop_keeps (h : Keeps s t) : KeepsOut s (execBuckStop t) := by
  dsimp only [execBuckStop]
  split
  · exact .next h
  · exact .ite (.next (.modPower (.setO (.withCores (.setO (.modPower (.upTo h _) _) _ _)) _ _) _)) (.next (.withCores (.setO
      (.modPower (.upTo h _) _) _ _)))

theorem execRailFault_keeps (h : Keeps s t) (rail) : KeepsOut s (execRailFault rail t) :=
  .ite (.next (.powerFail (.modPower (.setO h _ _) _))) (.next h)

theorem execRailFaultRestart_keeps (h : Keeps s t) : KeepsOut s (execRailFaultRestart t) := by
  dsimp only [execRailFaultRestart]
  split
  · exact .next h
  · exact .ite (.next (.buckStart (.upTo h _) _)) (.next h)

theorem execThermalShutdown_keeps (h : Keeps s t) : KeepsOut s (execThermalShutdown t) :=
  .ite (.next (.modPower (.setO (.powerFail h) _ _) _)) (.next h)

theorem execThermalRestart_keeps (h : Keeps s t) : KeepsOut s (execThermalRestart t) := by
  dsimp only [execThermalRestart]
  split
  · exact .next h
  · exact .ite (.next (.buckStart (.upTo h _) _)) (.next h)

theorem execSccp_keeps (h : Keeps s t) (vin ok) : KeepsOut s (execSccp vin ok t) :=
  .ite (.next (.modPower (.withRdata (.setO h _ _)) _)) (.next h)

theorem KeepsOpt.sccpClass (h : Keeps s t) (v) : KeepsOpt s (t.sccpClass v) :=
  .ite (.some (.setO (.setO h _ _) _ _)) .none

theorem execSccpClassWrite_keeps (h : Keeps s t) (who v) : KeepsOut s (execSccpClassWrite who v t) :=
  .next (.getD (.sccpClass h _) (.dropped h _ _ _ _))

theorem KeepsOpt.tableWrite (h : Keeps s t) (b) : KeepsOpt s (t.tableWrite b) :=
  .ite (.some (.setBlob h _ _)) .none

theorem execPwrTableWrite_keeps (h : Keeps s t) (who b) : KeepsOut s (execPwrTableWrite who b t) :=
  .next (.getD (.tableWrite h _) (.dropped h _ _ _ _))

theorem Keeps.queuesEnd (h : Keeps s t) (n) : Keeps s (t.queuesEnd n) := by
  dsimp only [State.queuesEnd]
  refine .fold (fun _ _ h => .fold (fun _ _ h => .ite ?_ h) h) h
  split
  · exact .modSteps (.setDesc h _ _ _ _) _
  · exact .stepEnd (.modSteps (.setDesc h _ _ _ _) _) _ _ _

theorem Keeps.gateSlice (h : Keeps s t) (n) : Keeps s (t.gateSlice n) :=
  .ite h (.spoilSlice (.modPool (.fpPipe (.modSlice (.queuesEnd (.fold (fun _ _ h => .ite h (.setLsn h _ _ _)) (.setSyn (.setO
    (.setO (.txCutAll (.dropEntries (.jobsKeepSrc h _ _) _ _) _ _) _ _) _ _) _ _)) _) _ _) _) _ _) _)

theorem Keeps.ungateSlice (h : Keeps s t) (n) : Keeps s (t.ungateSlice n) :=
  .ite h (.centreApply (.setO (.setO (.modSlice h _ _) _ _) _ _) _ _ _)

theorem Keeps.gateMask (h : Keeps s t) (mask) : Keeps s (t.gateMask mask) :=
  .fold (fun _ _ h => .ite (.gateSlice h _) (.ungateSlice h _)) h

theorem Keeps.rampTo (h : Keeps s t) (v b) : Keeps s (t.rampTo v b) :=
  .ite h (.modPower h _)

theorem execVcoreRampDone_keeps (h : Keeps s t) : KeepsOut s (execVcoreRampDone t) := by
  dsimp only [execVcoreRampDone]
  split
  · exact .next h
  · exact .next (.modPower (.setI (.setO (.upTo h _) _ _) _ _ _) _)

theorem Keeps.planApply (h : Keeps s t) : Keeps s t.planApply :=
  .unless (.setO h _ _) (fun h => .modPower (.setO (.rampTo h _ _) _ _) _)

theorem execVcoreLowerStep_keeps (h : Keeps s t) : KeepsOut s (execVcoreLowerStep t) :=
  .ite (.ite (.next (.modPower (.ite (.upTo h _) h) _)) (.next (.setO (.setO (.modPower (.ite (.upTo h _) h) _) _ _) _ _)))
    (.next h)

theorem Keeps.jobsPowerEnd (h : Keeps s t) : Keeps s t.jobsPowerEnd :=
  .fold (fun _ _ h => .fold (fun _ _ h => .stepEnd h _ _ _) h) (.fold (fun _ _ h => .flashEnd h _ _ _ _ _) (.fold (fun _ _ h =>
    .ite (.jobOver h _ _ _ _ _ _ _) (.ite h (.jobOver (.jobWrites (.readSrc (.drawn h) _ _) _ _ _) _ _ _ _ _ _ _))) h))

theorem Keeps.entryBegin (h : Keeps s t) (target) : Keeps s (t.entryBegin target) :=
  .ite (.when (.fold (fun _ _ h => .ite (.modBank h _ _) h) (.modFlash h _)) (fun h => .setO (.dramDrain h) _ _)) (.jobsPowerEnd
    h)

theorem Keeps.enterPower (h : Keeps s t) : Keeps s t.enterPower :=
  .ite (.raise (.toCore (.setO (.setO (.setO h _ _) _ _) _ _) _ _) _ _ _) (.unless (.modPower (.setO (.inc (.setO h _ _) _) _ _)
    _) (fun h => .entryBegin h _))

theorem Keeps.pstateTake (h : Keeps s t) (target) : Keeps s (t.pstateTake target) :=
  .ite h (.setO (.rampTo (.gateMask (.setO h _ _) _) _ _) _ _)

theorem execPstate_keeps (h : Keeps s t) : KeepsOut s (execPstate t) := by
  dsimp only [execPstate]
  split
  · exact .next h
  · exact .ite (.next (.toCore (.pstateTake (.modPower (.upTo h _) _) _) _ _)) (.next h)

theorem Keeps.watchSlice (h : Keeps s t) : Keeps s t.watchSlice :=
  .fpPipe (.modSlice (.setO (.fold (fun _ _ h => .assign h _ _ _) (.txCutAll (.dropEntries h _ _) _ _)) _ _) _ _) _

theorem Keeps.syncCores (h : Keeps s t) : Keeps s t.syncCores :=
  .withCores h

theorem Keeps.dozeStop (h : Keeps s t) (tn) : Keeps s (t.dozeStop tn) :=
  .upTo (.modPower (.syncCores (.upTo (.inc (.setO (.spoilBanks (.fold (fun _ _ h => .ite (.watchSlice (.ite (.ungateSlice h _)
    h)) (.gateSlice h _)) (.upTo h _)) _) _ _) _) _)) _) _

theorem execDozeEntry_keeps (h : Keeps s t) : KeepsOut s (execDozeEntry t) := by
  dsimp only [execDozeEntry]
  split
  · exact .next h
  · exact .ite (.next (.setI (.setO (.setO (.dozeStop h _) _ _) _ _) _ _ _)) (.next h)

theorem Keeps.hibStop (h : Keeps s t) (tn) : Keeps s (t.hibStop tn) :=
  .upTo (.modPower (.spoilBanks (.syncCores (.upTo (.fold (fun _ _ h => .linkDown h _) (.setO (.fold (fun _ _ h => .gateSlice h
    _) (.upTo h _)) _ _)) _)) _) _) _

theorem execHibernateEntry_keeps (h : Keeps s t) : KeepsOut s (execHibernateEntry t) := by
  dsimp only [execHibernateEntry]
  split
  · exact .next h
  · exact .ite (.next (.inc (.setO (.setO (.setO (.hibStop h _) _ _) _ _) _ _) _)) (.next h)

theorem execWakeSource_keeps (h : Keeps s t) (c) : KeepsOut s (execWakeSource c t) :=
  .ite (.next h) (.next (.wakeBy h _))

theorem Keeps.unkept (h : Keeps s t) : Keeps s t.unkept :=
  .unless (.unless (.ite h (.hotEmpty h)) (fun h => .huskEmpty h)) (fun h => .modJobs (.setO (.setO (.setO (.modSteps (.fold (fun
    _ _ h => .ite (.crcOwn h _ _) h) h) _) _ _) _ _) _ _) _)

theorem Keeps.dramWake (h : Keeps s t) : Keeps s t.dramWake :=
  .ite (.modDram (.setO h _ _) _) h

theorem Keeps.dozeResume (h : Keeps s t) (w ws) : Keeps s (t.dozeResume w ws) :=
  .withCores (.modFlash (.modPower (.setI (.setO (.setO (.syncCores (.upTo (.dramWake (.unkept (.setO (.setO (.upTo h _) _ _) _
    _))) _)) _ _) _ _) _ _ _) _) _)

theorem execDozeWake_keeps (h : Keeps s t) : KeepsOut s (execDozeWake t) :=
  .ite (.next (.raise (.toCore (.portsWake (.dozeResume h _ _)) _ _) _ _ _)) (.next h)

theorem Keeps.ungateDue (h : Keeps s t) : Keeps s t.ungateDue := by
  dsimp only [State.ungateDue]
  split
  · exact h
  · exact .ite (.modPower (.gateMask h _) _) h

theorem Keeps.hibAdvance (h : Keeps s t) (n) : Keeps s (t.hibAdvance n) :=
  .when (.when (.withNow (.turnAccounts (.turnAccounts h _ _) _ _)) (fun h => .modFab h _)) (fun h => .setO h _ _)

theorem execHibernateWake_keeps (h : Keeps s t) (cycles) : KeepsOut s (execHibernateWake cycles t) :=
  .ite (.next (.raise (.setO (.setO (.mainReset (.hibAdvance h _) _) _ _) _ _) _ _ _)) (.next h)

theorem execXo32kStart_keeps (h : Keeps s t) : KeepsOut s (execXo32kStart t) :=
  .ite (.next (.modPower h _)) (.next h)

theorem execMarginGuard_keeps (h : Keeps s t) : KeepsOut s (execMarginGuard t) :=
  .ite (.ite (.next (.unless (.inc (.addO (.setO (.modPower h _) _ _) _ _ _) _) (fun h => .raise (.modPower h _) _ _ _))) (.next
    (.unless (.modPower h _) (fun h => .raise (.modPower h _) _ _ _)))) (.next h)

theorem Keeps.slotMonitors (h : Keeps s t) (vin v5 tj slack) : Keeps s (t.slotMonitors vin v5 tj slack) :=
  .when (.when (.modPower (.setO (.setI (.modPower (.setO (.setO h _ _) _ _) _) _ _ _) _ _) _) (fun h => .raise (.modPower h _) _
    _ _)) (fun h => .raise (.modPower h _) _ _ _)

theorem Keeps.superMonitors (h : Keeps s t) (age) : Keeps s (t.superMonitors age) :=
  .modPower (.setO h _ _) _

theorem KeepsOpt.surveyCmd (h : Keeps s t) (v) : KeepsOpt s (t.surveyCmd v) :=
  .ite (.some (.modPower h _)) .none

theorem execPwrCpsSurveyCmd_keeps (h : Keeps s t) (who v) : KeepsOut s (execPwrCpsSurveyCmd who v t) :=
  .next (.getD (.surveyCmd h _) (.dropped h _ _ _ _))

theorem Keeps.putResult (h : Keeps s t) (w k f) : Keeps s (t.putResult w k f) := .drawn (.setI h _ _ _)

theorem Keeps.surveyTake (h : Keeps s t) : Keeps s t.surveyTake :=
  .modPower (.inc (.setO (.fold (fun _ _ h => .putResult h _ _ _) (.putResult (.putResult (.putResult (.setO (.setO h _ _) _ _) _
    _ _) _ _ _) _ _ _)) _ _) _) _

theorem execCompassSurvey_keeps (h : Keeps s t) : KeepsOut s (execCompassSurvey t) := by
  dsimp only [execCompassSurvey]
  refine .ite (.next (.raise (.surveyTake ?_) _ _ _)) (.next h)
  split
  · exact .upTo h _
  · exact h

/-! ## Machine/Boot -/

theorem Keeps.modBoot (h : Keeps s t) (f) : Keeps s (t.modBoot f) :=
  .withBoot h

theorem execPinReset_keeps (h : Keeps s t) (width) : KeepsOut s (execPinReset width t) :=
  .ite (.next h) (.ite (.next (.mainReset (.modPower (.ite (.drawn h) h) _) _)) (.next (.drawn h)))

theorem KeepsOpt.resetCmd (h : Keeps s t) (v) : KeepsOpt s (t.resetCmd v) :=
  .ite (.some (.askReset h _)) .none

theorem execCorResetCmd_keeps (h : Keeps s t) (who v) : KeepsOut s (execCorResetCmd who v t) :=
  .next (.getD (.resetCmd h _) (.dropped h _ _ _ _))

theorem Keeps.resetsRun (h : Keeps s t) : Keeps s t.resetsRun := by
  dsimp only [State.resetsRun]
  split
  · exact h
  · exact .mainReset h _

theorem Keeps.coreHold (h : Keeps s t) (c) : Keeps s (t.coreHold c) :=
  .ite h (.setMode h _ _)

theorem Keeps.coreStart (h : Keeps s t) (c) : Keeps s (t.coreStart c) :=
  .modCore h _ _

theorem Keeps.bundleRead (h : Keeps s t) (r) : Keeps s (t.bundleRead r) :=
  .unless (.readOver h _ _) (fun h => .readOver h _ _)

theorem Keeps.checkSlot (h : Keeps s t) (r) : Keeps s (t.checkSlot r).2 :=
  .unless (.setO (.bundleRead h _) _ _) (fun h => .raise h _ _ _)

theorem Keeps.recShow (h : Keeps s t) : Keeps s t.recShow := by
  dsimp only [State.recShow]
  split
  · exact h
  · exact .setO (.setO (.setO h _ _) _ _) _ _

theorem Keeps.eraseNow (h : Keeps s t) (area l) : Keeps s (t.eraseNow area l) :=
  .flashShow (.eraseSector h _ _)

theorem Keeps.appendRecord (h : Keeps s t) (run st tries ver) : Keeps s (t.appendRecord run st tries ver) := by
  dsimp only [State.appendRecord]
  refine .recShow (.wbs ?_)
  split
  · exact h
  · exact .eraseNow h _ _

theorem Keeps.appendFallback (h : Keeps s t) (run cause) : Keeps s (t.appendFallback run cause) :=
  .raise (.appendRecord h _ _ _ _) _ _ _

theorem Keeps.powerPart (h : Keeps s t) (r) : Keeps s (t.powerPart r) := by
  dsimp only [State.powerPart]
  split
  · exact h
  · exact .getD (.tableWrite h _) h

theorem Keeps.runSlot (h : Keeps s t) (r) : Keeps s (t.runSlot r) :=
  .setO (.setO (.setO (.setO (.setO h _ _) _ _) _ _) _ _) _ _

theorem Keeps.bootInto (h : Keeps s t) (r time) : Keeps s (t.bootInto r time) :=
  .raise (.modBoot (.modCore (.when (.upTo (.setO (.setO (.recShow (.setO (.runSlot (.measExtend (.measExtend (.powerPart
    (.modFlash (.setO h _ _) _) _) _ _) _ _) _) _ _)) _ _) _ _) _) (fun h => .setO h _ _)) _ _) _) _ _ _

theorem Keeps.enterRecovery (h : Keeps s t) : Keeps s t.enterRecovery :=
  .modBoot h _

theorem Keeps.chooseSlot (h : Keeps s t) (cause) : Keeps s (t.chooseSlot cause).2 := by
  dsimp only [State.chooseSlot]
  split
  · exact .iteSnd h h
  · refine .iteSnd h ?_
    refine .iteSnd ?_ ?_
    · exact .appendFallback h _ _
    · refine .iteSnd ?_ ?_
      · dsimp only
        exact .appendRecord h _ _ _ _
      · refine .iteSnd ?_ h
        exact .appendFallback h _ _

theorem Keeps.bootChosen (h : Keeps s t) (r time cause first) : Keeps s (t.bootChosen r time cause first) :=
  .ite (.bootInto (.ite (.appendRecord (.checkSlot h _) _ _ _ _) (.checkSlot h _)) _ _) (.ite (.bootInto (.appendFallback
    (.checkSlot (.checkSlot h _) _) _ _) _ _) (.enterRecovery (.checkSlot (.checkSlot h _) _)))

theorem execRomBoot_keeps (h : Keeps s t) (mode time) : KeepsOut s (execRomBoot mode time t) :=
  .ite (.ite (.next (.enterRecovery (.journalScan (.modPower h _)))) (.next (.bootChosen (.chooseSlot (.journalScan (.modPower h
    _)) _) _ _ _ _))) (.next h)

theorem execRecStatus_keeps (h : Keeps s t) : KeepsOut s (execRecStatus t) :=
  .ite (.next (.withRbytes h)) (.next h)

theorem Keeps.eraseSlot (h : Keeps s t) (r) : Keeps s (t.eraseSlot r) :=
  .fold (fun _ _ h => .eraseNow h _ _) h

theorem execRecWrite_keeps (h : Keeps s t) (off data crc) : KeepsOut s (execRecWrite off data crc t) :=
  .ite (.ite (.next (.modBoot h _)) (.next (.modBoot (.wbs (.when (.modBoot h _) (fun h => .modBoot (.eraseSlot h _) _))) _)))
    (.next h)

theorem execRecDone_keeps (h : Keeps s t) (total time) : KeepsOut s (execRecDone total time t) :=
  .ite (.ite (.next (.bootInto (.appendRecord (.checkSlot h _) _ _ _ _) _ _)) (.next (.checkSlot h _))) (.next h)

theorem Keeps.imCheck (h : Keeps s t) (slot) : Keeps s (t.imCheck slot).2 :=
  .iteSnd h (.checkSlot h _)

theorem Keeps.switchRoll (h : Keeps s t) (slot) : Keeps s (t.switchRoll slot) :=
  .raise (.modBoot (.setO (.runSlot (.powerPart (.measExtend (.appendRecord h _ _ _ _) _ _) _) _) _ _) _) _ _ _

theorem Keeps.switchReset (h : Keeps s t) (slot) : Keeps s (t.switchReset slot) :=
  .raise (.askReset (.appendRecord h _ _ _ _) _) _ _ _

theorem Keeps.imSwitch (h : Keeps s t) (slot mode) : Keeps s (t.imSwitch slot mode).2 :=
  .iteSnd h (.iteSnd h (.iteSnd h (.iteSnd (.ite (.switchRoll (.checkSlot h _) _) (.switchReset (.checkSlot h _) _)) (.checkSlot
    h _))))

theorem Keeps.raiseFloor (h : Keeps s t) (v) : Keeps s (t.raiseFloor v) :=
  .fold (fun _ _ h => .ite (.wb h _ _) h) h

theorem Keeps.confirmRun (h : Keeps s t) (b) : Keeps s (t.confirmRun b) := by
  dsimp only [State.confirmRun]
  refine .raise (.when (.setO (.when (.setO (.appendRecord h _ _ _ _) _ _) (fun h => .raiseFloor h _)) _ _) (fun h => ?_)) _ _ _
  split
  · exact h
  · exact .setO h _ _

theorem Keeps.imConfirm (h : Keeps s t) : Keeps s t.imConfirm.2 :=
  .iteSnd h (.elimSnd h (fun _ => .confirmRun h _))

theorem Keeps.imAbandon (h : Keeps s t) : Keeps s t.imAbandon.2 :=
  .iteSnd (.askReset h _) h

theorem Keeps.updState (h : Keeps s t) (st) : Keeps s (t.updState st) :=
  .ite h (.raiseFw (.setO h _ _) _ _ _ _)

theorem Keeps.newImage (h : Keeps s t) (image count size) : Keeps s (t.newImage image count size) :=
  .updState (.modBoot (.setO (.setO (.setO (.eraseSlot h _) _ _) _ _) _ _) _) _

theorem Keeps.updReject (h : Keeps s t) (image) : Keeps s (t.updReject image) :=
  .updState (.modBoot h _) _

theorem Keeps.updFailed (h : Keeps s t) (e) : Keeps s (t.updFailed e) :=
  .updReject (.setO h _ _) _

theorem Keeps.updPiece (h : Keeps s t) (image index count size p) : Keeps s (t.updPiece image index count size p) := by
  dsimp only [State.updPiece]
  split
  · exact .updState h _
  · exact .unless (.ite (.newImage h _ _ _) h) (fun h => .ite h (.ite (.updReject h _) (.setO (.wbs (.wbs h)) _ _)))

theorem KeepsOpt.updPieceWrite (h : Keeps s t) (b) : KeepsOpt s (t.updPieceWrite b) :=
  .ite (.some (.updPiece h _ _ _ _ _)) .none

theorem Keeps.serveHost (h : Keeps s t) (x) {r : Except Nat State} (hr : KeepsExc s r) : Keeps s (t.serveHost x r) := by
  refine .ite ?_ (.withRdata h)
  cases hr with
  | error => exact .withRdata h
  | ok hu => exact .withRdata hu

theorem execUpdPieceWrite_keeps (h : Keeps s t) (x b) : KeepsOut s (execUpdPieceWrite x b t) :=
  .next (.serveHost h _ (.orAbort (.updPieceWrite h _)))

theorem Keeps.actFromCatalog (h : Keeps s t) : Keeps s t.actFromCatalog :=
  .ite (.ite (.setO h _ _) (.ite (.setO h _ _) h)) h

theorem execBundleComplete_keeps (h : Keeps s t) : KeepsOut s (execBundleComplete t) :=
  .ite (.ite (.ite (.next (.updState (.checkSlot (.setO h _ _) _) _)) (.next (.actFromCatalog (.updState (.checkSlot (.setO h _
    _) _) _)))) (.next (.updFailed (.checkSlot (.setO h _ _) _) _))) (.next h)

theorem KeepsExc.actAtWrite (h : Keeps s t) (v) : KeepsExc s (t.actAtWrite v) :=
  .ite .error (.ite (.ok (.setO h _ _)) .error)

theorem execUpdActAtWrite_keeps (h : Keeps s t) (x v) : KeepsOut s (execUpdActAtWrite x v t) :=
  .next (.serveHost h _ (.actAtWrite h _))

theorem Keeps.noteFail {x : Nat × State} (h : Keeps s x.2) : Keeps s (Machine.noteFail x) := .ite h (.setO h _ _)

theorem KeepsOpt.updCmd (h : Keeps s t) (v) : KeepsOpt s (t.updCmd v) :=
  .ite (.some (.noteFail (.checkSlot h _))) (.ite (.some (.setO h _ _)) (.ite (.some (.noteFail (.imAbandon h))) (.ite (.ite
    .none (.some (.updState (.modBoot (.setO (.setO (.setO (.eraseSlot h _) _ _) _ _) _ _) _) _))) .none)))

theorem execUpdCheck_keeps (h : Keeps s t) (x) : KeepsOut s (execUpdCheck x t) :=
  .next (.serveHost h _ (.orAbort (.updCmd h _)))

theorem execUpdCancel_keeps (h : Keeps s t) (x) : KeepsOut s (execUpdCancel x t) :=
  .next (.serveHost h _ (.orAbort (.updCmd h _)))

theorem execUpdAbandon_keeps (h : Keeps s t) (x) : KeepsOut s (execUpdAbandon x t) :=
  .next (.serveHost h _ (.orAbort (.updCmd h _)))

theorem execUpdClear_keeps (h : Keeps s t) (x) : KeepsOut s (execUpdClear x t) :=
  .next (.serveHost h _ (.orAbort (.updCmd h _)))

theorem execUpdateActivate_keeps (h : Keeps s t) : KeepsOut s (execUpdateActivate t) :=
  .ite (.next h) (.ite (.next (.raiseFw (.setO (.upTo h _) _ _) _ _ _ _)) (.ite (.ite (.next (.updState (.modBoot (.imSwitch
    (.setO (.setO (.upTo h _) _ _) _ _) _ _) _) _)) (.next (.imSwitch (.setO (.setO (.upTo h _) _ _) _ _) _ _))) (.next
    (.updFailed (.imSwitch (.setO (.setO (.upTo h _) _ _) _ _) _ _) _))))

theorem Keeps.rollCore (h : Keeps s t) (c) : Keeps s (t.rollCore c) :=
  .coreStart (.setO (.coreHold h _) _ _) _

theorem Keeps.setRoll (h : Keeps s t) (r) : Keeps s (t.setRoll r) :=
  .modBoot h _

theorem execRollStep_keeps (h : Keeps s t) (soft) : KeepsOut s (execRollStep soft t) := by
  dsimp only [execRollStep]
  split
  · exact .next h
  · refine .ite (.next (.updState (.setRoll (.modCore h _ _) _) _)) (.ite ?_ ?_)
    · split
      · exact .ite (.next (.setRoll h _)) (.next (.setRoll (.coreStart (.setO (.getD (.lcPark (.coreHold h _) _) (.coreHold h _))
          _ _) _) _))
      · exact .ite (.next (.setRoll h _)) (.ite (.next (.imAbandon (.setRoll h _))) (.next h))
    · split
      · exact .next (.setRoll (.rollCore h _) _)
      · exact .ite (.next (.setRoll h _)) (.next h)

theorem execHealthCheck_keeps (h : Keeps s t) : KeepsOut s (execHealthCheck t) :=
  .ite (.ite (.next (.imAbandon (.setO h _ _))) (.ite (.next (.updState (.imConfirm (.modBoot (.setO h _ _) _)) _)) (.next
    (.modBoot (.setO h _ _) _)))) (.next h)

theorem execHealthDeadline_keeps (h : Keeps s t) : KeepsOut s (execHealthDeadline t) :=
  .ite (.next h) (.ite (.next (.mainReset (.logEvent (.miss (.upTo h _) _ _ _) _) _)) (.next (.askReset (.setO (.logEvent (.miss
    (.upTo h _) _ _ _) _) _ _) _)))

/-! ## Machine/Hamper -/

theorem Keeps.modCamp (h : Keeps s t) (f) : Keeps s (t.modCamp f) :=
  .modSvc h _

theorem Keeps.hmpShow (h : Keeps s t) : Keeps s t.hmpShow := by
  dsimp only [State.hmpShow]
  split
  · exact h
  · exact .setO (.setO h _ _) _ _

theorem Keeps.updCatalog (h : Keeps s t) (d) : Keeps s (t.updCatalog d) :=
  .unless (.modBoot h _) (fun h => .actFromCatalog h)

theorem Keeps.takeCatalog (h : Keeps s t) (d) : Keeps s (t.takeCatalog d) :=
  .hmpShow (.when (.setO (.setO (.modSvc h _) _ _) _ _) (fun h => .updCatalog h _))

theorem KeepsOpt.hmpStart (h : Keeps s t) : KeepsOpt s t.hmpStart :=
  .ite .none (.some (.takeCatalog (.modSvc (.firmFlood h _ _ _ _) _) _))

theorem KeepsOpt.hmpStop (h : Keeps s t) : KeepsOpt s t.hmpStop := by
  dsimp only [State.hmpStop]
  split
  · exact .none
  · exact .ite .none (.some (.takeCatalog (.firmFlood h _ _ _ _) _))

theorem KeepsOpt.hmpCmd (h : Keeps s t) (v) : KeepsOpt s (t.hmpCmd v) :=
  .ite (.hmpStart h) (.ite (.hmpStop h) .none)

theorem execHmpStart_keeps (h : Keeps s t) (who) : KeepsOut s (execHmpStart who t) :=
  .next (.getD (.hmpStart h) (.refuse h _ _ _))

theorem execHmpStop_keeps (h : Keeps s t) (who) : KeepsOut s (execHmpStop who t) :=
  .next (.getD (.hmpStop h) (.refuse h _ _ _))

theorem execCatalogReflood_keeps (h : Keeps s t) : KeepsOut s (execCatalogReflood t) := by
  dsimp only [execCatalogReflood]
  split
  · exact .next h
  · exact .ite (.next (.firmFlood h _ _ _ _)) (.next h)

theorem execPieceSeed_keeps (h : Keeps s t) : KeepsOut s (execPieceSeed t) := by
  dsimp only [execPieceSeed]
  split
  · exact .next h
  · refine .ite (.next (.hmpShow (.modCamp (.fold (fun _ _ h => ?_) h) _))) (.next h)
    split
    · exact .firmFlood h _ _ _ _
    · exact h

theorem Keeps.takePiece (h : Keeps s t) (b) : Keeps s (t.takePiece b) := by
  dsimp only [State.takePiece]
  split
  · exact h
  · exact .ite h (.when (.hmpShow (.modCamp h _)) (fun h => .updPiece h _ _ _ _ _))

theorem execPieceRx_keeps (h : Keeps s t) (flood i) : KeepsOut s (execPieceRx flood i t) :=
  .ite (.next (.takePiece h _)) (.next h)

theorem execPieceReqSend_keeps (h : Keeps s t) : KeepsOut s (execPieceReqSend t) := by
  dsimp only [execPieceReqSend]
  split
  · exact .next h
  · refine .ite ?_ (.next h)
    split
    · exact .next h
    · exact .next (.send (.inc (.modCamp h _) _) _ _ _ _ _)

theorem Keeps.answerPiece (h : Keeps s t) (dest i) : Keeps s (t.answerPiece dest i) := by
  dsimp only [State.answerPiece]
  split
  · exact h
  · split
    · exact h
    · exact .ite (.send (.modCamp h _) _ _ _ _ _) h

theorem execPieceReqRx_keeps (h : Keeps s t) (i) : KeepsOut s (execPieceReqRx i t) := by
  dsimp only [execPieceReqRx]
  split
  · exact .next h
  · exact .ite (.next (.fold (fun _ _ h => .answerPiece h _ _) h)) (.next h)

theorem execTagPieceSend_keeps (h : Keeps s t) (tag k) : KeepsOut s (execTagPieceSend tag k t) := by
  dsimp only [execTagPieceSend]
  split
  · exact .next (.withRbytes h)
  · split
    · exact .next (.downMaps h _ _)
    · split
      · exact .next (.downMaps (.inc h _) _ _)
      · exact .next (.downSend (.inc h _) _ _ _)

theorem execRosterRx_keeps (h : Keeps s t) (i) : KeepsOut s (execRosterRx i t) :=
  .ite (.next h) (.ite (.next (.takeRoster h _)) (.ite (.next (.takeCatalog h _)) (.next h)))

/-! ## Machine/Rules -/

theorem Keeps.putVal (h : Keeps s t) (e) : Keeps s (t.putVal e) := by
  dsimp only [State.putVal]
  split
  · exact .setBlob h _ _
  · exact .ite h (.airTestCeil (.setO h _ _) _)

theorem Keeps.putSet (h : Keeps s t) (region l) : Keeps s (t.putSet region l) :=
  .fold (fun _ _ h => .putVal h _) (.ite (.regionChange h _) h)

theorem Keeps.putSets (h : Keeps s t) (l) : Keeps s (t.putSets l) :=
  .fold (fun _ _ h => .putSet h _ _) h

theorem KeepsExc.judgeSet (h : Keeps s t) (l) : KeepsExc s (t.judgeSet l) := by
  dsimp only [State.judgeSet]
  split
  · exact .error
  · exact .ok (.withCom h)

theorem Keeps.setStage (h : Keeps s t) (w l) : Keeps s (t.setStage w l) := by
  dsimp only [State.setStage]
  split
  · exact .modCore h _ _
  · exact .modSess h _ _
  · exact .withCom h

theorem Keeps.clampEvents (h : Keeps s t) (l) : Keeps s (t.clampEvents l) := by
  dsimp only [State.clampEvents]
  refine .fold (fun _ _ h => ?_) h
  split
  · exact .ite h (.raise (.inc h _) _ _ _)
  · exact h

theorem Keeps.capChanged (h : Keeps s t) (old n) : Keeps s (t.capChanged old n) :=
  .ite (.fold (fun _ _ h => .setO h _ _) (.capStop (.fold (fun _ _ h => .setO h _ _) h) _)) h

theorem Keeps.panelMode (h : Keeps s t) (k) : Keeps s (t.panelMode k) :=
  .modPanel (.setO h _ _) _ _

theorem Keeps.staticApply (h : Keeps s t) (p) : Keeps s (t.staticApply p) :=
  .unless (.setO h _ _) (fun h => .ndSend (.modPort h _ _) _ _ _ _ _)

theorem Keeps.sliceApply (h : Keeps s t) (old n off b) : Keeps s (t.sliceApply old n off b) :=
  .ite (.centreApply h _ _ _) (.ite (.aerialApply h _) (.ite (.ite h (.gainSet h _ _))
    (.ite (.gridApply h _ _ _) (.ite (.capChanged h _ _) h))))

theorem Keeps.applied (h : Keeps s t) (old k) : Keeps s (t.applied old k) := by
  dsimp only [State.applied]
  split
  · exact .sliceApply h _ _ _ _
  · exact .ite (.ite (.panelMode h _) h) (.ite (.coldEmpty h) (.ite (.huskEmpty h) (.ite (.svcDiscard h)
      (.ite (.ite (.ite h (.linkDown h _)) (.ite (.staticApply h _) h)) (.ite (.bktSum h _) (.ite (.rankLost h)
        (.ite (.modMac h _) (.ite (.refInt (.refInt h _) _) h))))))))

theorem Keeps.applyCommits (h : Keeps s t) (t') : Keeps s (t.applyCommits t') :=
  .unless (.withCom h) (fun h => .when (.fold (fun _ _ h => .applied h _ _) (.fold (fun _ _ h => .clampEvents h _) (.unless
    (.putSets (.fold (fun _ _ h => .capAdvance h _) h) _) (fun h => .regionHold h _)))) (fun h => .planApply h))

/-! ## Machine/Session -/

theorem Keeps.irqPulse (h : Keeps s t) : Keeps s t.irqPulse :=
  .ite (.modCom h _) h

theorem Keeps.sopOut (h : Keeps s t) (x d) : Keeps s (t.sopOut x d) :=
  .ite (.hspiShow (.irqPulse (.modCom h _))) (.udpSend h _ _ _ _)

theorem Keeps.sopSend (h : Keeps s t) (x m) : Keeps s (t.sopSend x m) := by
  dsimp only [State.sopSend]
  split
  · exact h
  · exact .inc (.inc (.sopOut (.ofOptSnd (.assignCtr h _ _) ‹_›) _ _) _) _

theorem Keeps.drainN (h : Keeps s t) (x n) : Keeps s (State.drainN t x n) := by
  induction n generalizing t with
  | zero => exact h
  | succ n ih =>
    dsimp only [State.drainN]
    split
    · exact h
    · exact .ite (ih (.sopSend (.modSess h _ _) _ _)) h

theorem Keeps.drain (h : Keeps s t) (x) : Keeps s (t.drain x) :=
  .drainN h _ _

theorem Keeps.drainAll (h : Keeps s t) : Keeps s t.drainAll :=
  .fold (fun _ _ h => .ite (.drain h _) h) h

theorem Keeps.answer (h : Keeps s t) (x m) : Keeps s (t.answer x m) :=
  .ite (.sopSend (.drain h _) _ _) (.toSession (.drain h _) _ _)

theorem Keeps.reply (h : Keeps s t) (w m) : Keeps s (t.reply w m) := by
  dsimp only [State.reply]
  split
  · exact h
  · exact .answer h _ _
  · exact .ite (.irqPulse (.modCom h _)) h

theorem Keeps.abortTo (h : Keeps s t) (w tag k code) : Keeps s (t.abortTo w tag k code) :=
  .reply (.ite (.inc h _) h) _ _

theorem Keeps.respond (h : Keeps s t) (w ty tag p) : Keeps s (t.respond w ty tag p) :=
  .reply h _ _

theorem KeepsOpt.tryAsk (h : Keeps s t) (w tag a) : KeepsOpt s (t.tryAsk w tag a) :=
  .map (fun _ => .raise (.modCom (.wbs h) _) _ _ _)

theorem Keeps.ask (h : Keeps s t) (w tag a) : Keeps s (t.ask w tag a) := by
  dsimp only [State.ask]
  split
  · exact .ofOpt (.tryAsk h _ _ _) ‹_›
  · exact .abortTo h _ _ _ _

theorem Keeps.keepConfig (h : Keeps s t) (l) : Keeps s (t.keepConfig l) :=
  .modBoot h _

theorem Keeps.judgeSop (h : Keeps s t) (w tag) : Keeps s (t.judgeSop w tag) := by
  dsimp only [State.judgeSop]
  split
  · exact .respond (.keepConfig (.setStage (.ofExc (.judgeSet h _) ‹_›) _ _) _) _ _ _ _
  · exact .when (.abortTo (.setStage h _ _) _ _ _ _) (fun h => .getD (.tryAsk h _ _ _) h)

theorem KeepsExc.firmRun (h : Keeps s t) (k b) : KeepsExc s (t.firmRun k b) :=
  .ite (.orAbort (.qCmd h _ _)) (.ite (.orAbort (.ite (.ltnSend h) .none)) (.ite (.orAbort (.hmpCmd h _)) (.ite (.ok (.setBlob h
    _ _)) (.ite (.orAbort (.bskAcked h _)) (.ite (.orAbort (.ite (.dnSend h) .none)) (.ite (.orAbort (.updPieceWrite h _)) (.ite
    (.actAtWrite h _) (.ite (.orAbort (.updCmd h _)) (.ok h)))))))))

theorem KeepsExc.firmWrite (h : Keeps s t) (k b) : KeepsExc s (t.firmWrite k b) := by
  dsimp only [State.firmWrite]
  split
  · refine .ite ?_ (.firmRun h _ _)
    split
    · exact .ite (.ok (.keepConfig (.setO h _ _) _)) .error
    · exact .ok (.keepConfig (.setBlob h _ _) _)
  · exact .ok h

theorem KeepsExc.firmStage (h : Keeps s t) (w k b) : KeepsExc s (t.firmStage w k b) := by
  dsimp only [State.firmStage]
  split
  · exact .ok (.setStage h _ _)
  · exact .error

theorem Keeps.blockOver (h : Keeps s t) (w tag b) : Keeps s (t.blockOver w tag b) :=
  .ite (.abortTo h _ _ _ _) (.ite (.respond h _ _ _ _) (.respond h _ _ _ _))

theorem Keeps.blockGo (h : Keeps s t) (w tag n b) : Keeps s (State.blockGo t w tag n b) := by
  induction n generalizing b with
  | zero => exact .blockOver h _ _ _
  | succ n ih =>
    dsimp only [State.blockGo]
    split
    · split
      · exact .abortTo h _ _ _ _
      · exact .ite (.abortTo h _ _ _ _) (.ask h _ _ _)
    · refine .ite ?_ (.blockOver h _ _ _)
      split
      · exact ih _
      · exact .ask h _ _ _

theorem Keeps.blockNext (h : Keeps s t) (w tag b) : Keeps s (t.blockNext w tag b) :=
  .blockGo h _ _ _ _

theorem Keeps.handled (h : Keeps s t) (h' code) : Keeps s (t.handled h' code) := by
  dsimp only [State.handled]
  split
  · split
    · exact .blockNext h _ _ _
    · exact .ite (.abortTo h _ _ _ _) (.ite (.abortTo h _ _ _ _) (.respond h _ _ _ _))
  · split
    · exact .abortTo h _ _ _ _
    · split
      · refine .blockNext (.ofExc (.ite .error ?_) ‹_›) _ _ _
        split
        · exact .ok h
        · exact .ite (.firmWrite h _ _) (.firmStage h _ _ _)
      · refine .respond (.ofExc (.ite .error ?_) ‹_›) _ _ _ _
        split
        · exact .ok h
        · exact .ite (.firmWrite h _ _) (.firmStage h _ _ _)
  · split
    · exact .abortTo h _ _ _ _
    · split
      · refine .blockNext (.ofExc (.ite .error ?_) ‹_›) _ _ _
        split
        · exact .ok h
        · exact .ite (.firmWrite h _ _) (.firmStage h _ _ _)
      · refine .respond (.ofExc (.ite .error ?_) ‹_›) _ _ _ _
        split
        · exact .ok h
        · exact .ite (.firmWrite h _ _) (.firmStage h _ _ _)
  · exact .ite (.abortTo (.setStage h _ _) _ _ _ _) (.judgeSop h _ _)
  · exact h

theorem Keeps.freeSlot (h : Keeps s t) (h') : Keeps s (t.freeSlot h') :=
  .wb (.modCom h _) _ _

theorem KeepsOpt.handlerDone (h : Keeps s t) (slot) : KeepsOpt s (t.handlerDone slot) := by
  dsimp only [State.handlerDone]
  split
  · exact .none
  · exact .some (.handled (.freeSlot h _) _ _)

theorem execComHndDone_keeps (h : Keeps s t) (who slot) : KeepsOut s (execComHndDone who slot t) :=
  .next (.getD (.handlerDone h _) (.dropped h _ _ _ _))

theorem execHandlerTimeout_keeps (h : Keeps s t) : KeepsOut s (execHandlerTimeout t) := by
  dsimp only [execHandlerTimeout]
  split
  · exact .next h
  · exact .next (.handled (.freeSlot (.upTo h _) _) _ _)

theorem execComSsClose_keeps (h : Keeps s t) (x) : KeepsOut s (execComSsClose x t) :=
  .next (.sessClose h _ _)

theorem execSessionIdleTimeout_keeps (h : Keeps s t) (x) : KeepsOut s (execSessionIdleTimeout x t) :=
  .ite (.next h) (.next (.sessClose (.upTo h _) _ _))

theorem execSessionOpenTimeout_keeps (h : Keeps s t) (x) : KeepsOut s (execSessionOpenTimeout x t) :=
  .ite (.next h) (.next (.inc (.sessFree (.freeHandlers (.upTo h _) _) _) _))

/-! ## Machine/Dict -/

theorem Keeps.wrOk (h : Keeps s t) : Keeps s (wrOk t).1 :=
  h

theorem Keeps.wrNo (h : Keeps s t) (r) : Keeps s (wrNo t r).1 :=
  h

theorem Keeps.wrOr (h : Keeps s t) (r) {o : Option State} (ho : KeepsOpt s o) : Keeps s (Machine.wrOr t r o).1 := by
  cases ho with
  | none => exact h
  | some hu => exact hu

theorem Keeps.readOwn (h : Keeps s t) (w k) : Keeps s (t.readOwn w k).1 :=
  .iteFst (.tcReadCount h _) (.iteFst (.tcReadCap h _) (.iteFst h (.iteFst h h)))

theorem Keeps.readNum (h : Keeps s t) (w k) : Keeps s (t.readNum w k).1 :=
  .iteFst h (.iteFst (.readOwn h _ _) (.iteFst h (.iteFst h (.iteFst h (.iteFst h (.iteFst h (.iteFst h (.iteFst h h))))))))

theorem KeepsOptFst.readBlob (h : Keeps s t) (w k) : KeepsOptFst s (t.readBlob w k) := by
  refine .ite (.some h) (.ite (.some h) (.ite (.some h) (.ite (.ite ?_ .none) (.some h))))
  have hchal := KeepsOptSnd.challenge h
  generalize t.challenge = o at hchal
  cases hchal with
  | none => exact .none
  | some hu => exact .some hu

theorem Keeps.evtPost (h : Keeps s t) (b) : Keeps s (t.evtPost b).1 :=
  .iteFst (.wrNo (.inc h _) _) (.iteFst (.wrOk (.miss h _ _ _)) (.iteFst (.wrOk (.raiseE h _)) (.iteFst (.wrOk (.raiseFw h _ _ _
    _)) (.wrNo (.inc h _) _))))

theorem Keeps.logClear (h : Keeps s t) : Keeps s t.logClear :=
  .setO (.modCom h _) _ _

theorem Keeps.routeReset (h : Keeps s t) : Keeps s t.routeReset :=
  .fold (fun _ _ h => .setO h _ _) h

theorem Keeps.dropClear (h : Keeps s t) : Keeps s t.dropClear :=
  .setO (.setO h _ _) _ _

theorem Keeps.writeCom (h : Keeps s t) (k v) : Keeps s (t.writeCom k v).1 :=
  .iteFst (.wrOr h _ (.handlerDone h _)) (.iteFst (.wrOk (.sessClose h _ _)) (.iteFst (.wrOk (.logClear h)) (.iteFst (.wrOk
    (.routeReset h)) (.iteFst (.wrOk (.dropClear h)) (.wrOk (.setO h _ _))))))

theorem Keeps.writeTime (h : Keeps s t) (k v) : Keeps s (t.writeTime k v).1 :=
  .iteFst (.iteFst (.wrOk (.setO h _ _)) (.wrNo h _)) (.iteFst (.iteFst (.wrOk (.tcFlagsClear h _ _)) (.iteFst (.wrNo h _)
    (.iteFst (.wrOk (.tcCtrl h _ _)) (.wrOk (.tcPutCount h _ _))))) (.wrOk (.setO h _ _)))

theorem Keeps.writePower (h : Keeps s t) (k v) : Keeps s (t.writePower k v).1 :=
  .iteFst (.wrOr h _ (.sccpClass h _)) (.iteFst (.wrOr h _ (.surveyCmd h _)) (.wrOk (.setO h _ _)))

theorem Keeps.capCmd (h : Keeps s t) (n v) : Keeps s (t.capCmd n v).1 :=
  .iteFst (.wrOr h _ (.capArm h _)) (.iteFst (.wrOk (.capTrigger h _)) (.wrOk (.capStop h _)))

theorem Keeps.writeSlice (h : Keeps s t) (n off b k v) : Keeps s (t.writeSlice n off b k v).1 :=
  .iteFst (.wrOk (.calRequest h _ _)) (.iteFst (.capCmd h _ _) (.iteFst (.wrOr h _ (.fpCommit h _ _)) (.iteFst (.wrOr h _ (.fpCmd
    h _ _)) (.iteFst (.iteFst (.wrOk (.setO h _ _)) (.wrNo h _)) (.wrOk (.setO h _ _))))))

theorem Keeps.timeWrite (h : Keeps s t) (v) : Keeps s (t.timeWrite v).1 := by
  dsimp only [State.timeWrite]
  split
  · exact .wrOk (.ofExc (.timeSet h _) ‹_›)
  · exact .wrNo h _

theorem Keeps.writeAir (h : Keeps s t) (k v) : Keeps s (t.writeAir k v).1 :=
  .iteFst (.iteFst (.wrOk (.setO h _ _)) (.wrNo h _)) (.iteFst (.wrOr h _ (.rxqCons h _ _)) (.iteFst (.wrOr h _ (.hotPinWrite h
    _)) (.iteFst (.wrOr h _ (.dqCons h _)) (.iteFst (.wrOr h _ (.bind h _ _ _)) (.iteFst (.wrOr h _ (.bind h _ _ _)) (.iteFst
    (.wrOr h _ (.trailCommit h _)) (.iteFst (.wrOr h _ (.uqCons h _)) (.iteFst (.timeWrite h _) (.wrOk (.setO h _ _))))))))))

theorem Keeps.submitWrite (h : Keeps s t) (w v) : Keeps s (t.submitWrite w v).1 := by
  dsimp only [State.submitWrite]
  split
  · exact .wrOk (.jobSubmit h _ _)
  · exact .wrNo h _

theorem Keeps.crcWrite (h : Keeps s t) (w u width v) : Keeps s (t.crcWrite w u width v).1 := by
  dsimp only [State.crcWrite]
  split
  · exact .wrOk (.crcData h _ _ _ _)
  · exact .wrNo h _

theorem Keeps.writeJobs (h : Keeps s t) (w width k v) : Keeps s (t.writeJobs w width k v).1 :=
  .iteFst (.iteFst (.wrOk (.shlCommand h _ _)) (.wrNo h _)) (.iteFst (.submitWrite h _ _) (.iteFst (.wrOr h _ (.ledCons h _))
    (.iteFst (.wrOr (.inc h _) _ (.poolRelease h _ _)) (.iteFst (.crcWrite h _ _ _ _) (.iteFst (.wrOr h _ (.crcCmd h _)) (.iteFst
    (.wrOk (.crcClear h _ _)) (.iteFst (.wrOk (.crcShow (.setO h _ _) _)) (.wrOk (.setO h _ _)))))))))

theorem Keeps.writeStore (h : Keeps s t) (rom k v) : Keeps s (t.writeStore rom k v).1 :=
  .iteFst (.wrOr h _ (.maxlevelWrite h _ _)) (.iteFst (.wrOr h _ (.lockWrite h _ _)) (.iteFst (.wrOr h _ (.indetAck h _)) (.wrOk
    (.setO h _ _))))

theorem Keeps.coreCtrl (h : Keeps s t) (w c v) : Keeps s (t.coreCtrl w c v).1 :=
  .iteFst (.wrNo h _) (.wrOk (.ite (.coreStart h _) (.coreHold h _)))

theorem Keeps.release8 (h : Keeps s t) (v) : Keeps s (t.release8 v) :=
  .fold (fun _ _ h => .ite (.coreStart h _) h) h

theorem Keeps.writeCore (h : Keeps s t) (w k v) : Keeps s (t.writeCore w k v).1 :=
  .iteFst (.wrOk (.release8 h _)) (.iteFst (.coreCtrl h _ _ _) (.iteFst (.wrOr h _ (.resetCmd h _)) (.iteFst (.wrOr h _
    (.gioWrite h _ _)) (.iteFst (.wrOr h _ (.gioWrite h _ _)) (.iteFst (.wrOr h _ (.gioWrite h _ _)) (.iteFst (.wrOk (.setO h _
    _)) (.iteFst (.wrOr h _ (.gioAt h _ _)) (.wrOk (.setO h _ _)))))))))

theorem Keeps.writeNum (h : Keeps s t) (w rom width k v) : Keeps s (t.writeNum w rom width k v).1 := by
  dsimp only [State.writeNum]
  split
  · exact .wrNo h _
  · refine .iteFst (.wrNo h _) ?_
    split
    · exact .writeSlice h _ _ _ _ _
    · exact .iteFst (.wrNo h _) (.iteFst (.writeCom h _ _) (.iteFst (.writeTime h _ _) (.iteFst (.writePower h _ _) (.iteFst
        (.writeAir h _ _) (.iteFst (.writeJobs h _ _ _ _) (.iteFst (.writeStore h _ _ _) (.writeCore h _ _ _)))))))

theorem Keeps.measWrite (h : Keeps s t) (w i b) : Keeps s (t.measWrite w i b).1 := by
  dsimp only [State.measWrite]
  split
  · exact .wrNo h _
  · exact .iteFst (.wrOk (.measExtend h _ _)) (.wrNo h _)

theorem Keeps.writeBlob (h : Keeps s t) (w k b) : Keeps s (t.writeBlob w k b).1 :=
  .iteFst (.evtPost h _) (.iteFst (.wrNo h _) (.iteFst (.iteFst (.wrOk (.setBlob h _ _)) (.wrNo h _)) (.iteFst (.wrOr h _
    (.tableWrite h _)) (.iteFst (.measWrite h _ _ _) (.iteFst (.iteFst (.wrOk (.setBlob h _ _)) (.wrNo h _)) (.iteFst (.wrOk
    (.debugResponse h _)) (.wrOk (.setBlob h _ _))))))))

theorem Keeps.stage (h : Keeps s t) (w k v) : Keeps s (t.stage w k v).1 := by
  dsimp only [State.stage]
  refine .iteFst (.wrNo h _) (.iteFst (.wrNo h _) ?_)
  split
  · exact .wrOk (.setStage h _ _)
  · exact .wrNo h _

theorem Keeps.putObject (h : Keeps s t) (w rom width k v) : Keeps s (t.putObject w rom width k v).1 := by
  dsimp only [State.putObject]
  split
  · exact .wrNo h _
  · refine .iteFst (.stage h _ _ _) ?_
    split
    · exact .writeNum h _ _ _ _ _
    · exact .writeBlob h _ _ _

/-! ## Machine/Window -/

theorem Keeps.hostPut (h : Keeps s t) (w k v) : Keeps s (t.hostPut w k v).1 := by
  dsimp only [State.hostPut]
  split
  · exact h
  · refine .iteFst h ?_
    split
    · exact .ofFst (.putObject h _ _ _ _ _) ‹_›
    · split
      · exact .iteFst (.keepConfig (.ofFst (.putObject h _ _ _ _ _) ‹_›) _) (.ofFst (.putObject h _ _ _ _ _) ‹_›)
      · exact .ofFst (.putObject h _ _ _ _ _) ‹_›

theorem Keeps.corePut (h : Keeps s t) (c rom width k v) : Keeps s (t.corePut c rom width k v) := by
  dsimp only [State.corePut]
  split
  · exact h
  · refine .ite (.dropped h _ _ _ _) (.ite (.dropped h _ _ _ _) ?_)
    split
    · exact .ofFst (.putObject h _ _ _ _ _) ‹_›
    · exact .dropped (.ofFst (.putObject h _ _ _ _ _) ‹_›) _ _ _ _

theorem Keeps.domSelect (h : Keeps s t) (c v) : Keeps s (t.domSelect c v) :=
  .ite (.dropped h _ _ _ _) (.ite (.dropped h _ _ _ _) (.modCore h _ _))

theorem Keeps.domStart (h : Keeps s t) (c n) : Keeps s (t.domStart c n) :=
  .ite (.corePut (.modCore h _ _) _ _ _ _ _) (.withDraws (.modCore h _ _))

theorem Keeps.domLen (h : Keeps s t) (c v) : Keeps s (t.domLen c v) :=
  .ite (.dropped h _ _ _ _) (.domStart h _ _)

theorem Keeps.domStore (h : Keeps s t) (c v) : Keeps s (t.domStore c v) := by
  dsimp only [State.domStore]
  split
  · exact h
  · exact .ite (.corePut (.modCore h _ _) _ _ _ _ _) (.modCore h _ _)

theorem Keeps.domWrite (h : Keeps s t) (c v) : Keeps s (t.domWrite c v) :=
  .ite (.dropped h _ _ _ _) (.ite (.domStore h _ _) (.domStore (.domStart h _ _) _ _))

theorem Keeps.domRead (h : Keeps s t) (c) : Keeps s (t.domRead c).1 :=
  .modCore h _ _

theorem Keeps.coreCommit (h : Keeps s t) (c) : Keeps s (t.coreCommit c) := by
  dsimp only [State.coreCommit]
  refine .ite (.modCore h _ _) ?_
  split
  · exact .modCore (.ofExc (.judgeSet h _) ‹_›) _ _
  · exact .when (.modCore h _ _) (fun h => .dropped h _ _ _ _)

theorem Keeps.fwSelect (h : Keeps s t) (c v) : Keeps s (t.fwSelect c v) :=
  .ite (.modCore h _ _) (.dropped h _ _ _ _)

theorem Keeps.fwValue (h : Keeps s t) (c v) : Keeps s (t.fwValue c v) := by
  dsimp only [State.fwValue]
  refine .ite (.modCore h _ _) (.ite (.setO h _ _) ?_)
  split
  · exact .dropped h _ _ _ _
  · exact .ite (.dropped h _ _ _ _) (.ite (.addrState h _) (.setO h _ _))

theorem Keeps.engineWrite (h : Keeps s t) (c b v) : Keeps s (t.engineWrite c b v) :=
  .ite (.ite (.coreCommit h _) (.dropped h _ _ _ _)) (.ite (.domSelect h _ _) (.ite (.domLen h _ _) (.ite (.domWrite h _ _) (.ite
    (.fwSelect h _ _) (.ite (.fwValue h _ _) (.dropped h _ _ _ _))))))

theorem Keeps.engineRead (h : Keeps s t) (c b) : Keeps s (t.engineRead c b).1 :=
  .iteFst h (.iteFst (.domRead h _) h)

theorem Keeps.rLatch (h : Keeps s t) (k v) : Keeps s (t.rLatch k v) :=
  .withTime h

theorem Keeps.wLatch (h : Keeps s t) (k v) : Keeps s (t.wLatch k v) :=
  .withTime h

theorem Keeps.wordOf (h : Keeps s t) (w k x) : Keeps s (t.wordOf w k x).1 := by
  dsimp only [State.wordOf]
  refine .iteFst h (.iteFst ?_ (.iteFst h (.iteFst (.rLatch (.readNum h _ _) _ _) (.iteFst (.readNum h _ _) (.readNum h _ _)))))
  split
  · exact .engineRead h _ _
  · exact h

theorem KeepsExcFst.winRead (h : Keeps s t) (w a n) : KeepsExcFst s (t.winRead w a n) := by
  refine .ite .error ?_
  split
  · exact .error
  · exact .ite .error (.ok (.wordOf h _ _ _))
  · refine .ite .error (.ite .error (.ite (.ok h) ?_))
    split
    · exact .ok (.rLatch h _ _)
    · exact .ok (.readNum h _ _)

theorem KeepsExc.winWrite (h : Keeps s t) (c rom a n v) : KeepsExc s (t.winWrite c rom a n v) := by
  dsimp only [State.winWrite]
  refine .ite .error ?_
  split
  · exact .error
  · refine .ite (.ok (.dropped h _ _ _ _)) (.ite (.ok (.dropped h _ _ _ _)) (.ite (.ok (.dropped h _ _ _ _)) (.ite (.ok (.ite
      (.corePut h _ _ _ _ _) (.wLatch h _ _))) (.ite (.ok (.engineWrite h _ _ _)) ?_))))
    split
    · exact .ok (.dropped h _ _ _ _)
    · exact .ok (.corePut h _ _ _ _ _)
  · refine .ite .error (.ite (.ok (.dropped h _ _ _ _)) (.ite (.ok (.dropped h _ _ _ _)) ?_))
    split
    · exact .ok (.dropped h _ _ _ _)
    · exact .ok (.corePut (.wLatch h _ _) _ _ _ _ _)

theorem execWideReadLowLatch_keeps (h : Keeps s t) (who k) : KeepsOut s (execWideReadLowLatch who k t) := by
  dsimp only [execWideReadLowLatch]
  split
  · exact .ite (.next (.withRdata (.ofExcFst (.winRead h _ _ _) ‹_›))) (.next h)
  · exact .next h

theorem execWideWriteLow_keeps (h : Keeps s t) (who k v) : KeepsOut s (execWideWriteLow who k v t) := by
  dsimp only [execWideWriteLow]
  split
  · exact .ite (.next (.ofExc (.winWrite h _ _ _ _ _) ‹_›)) (.next h)
  · exact .next h

theorem execWideWriteHigh_keeps (h : Keeps s t) (who k v) : KeepsOut s (execWideWriteHigh who k v t) := by
  dsimp only [execWideWriteHigh]
  split
  · exact .next (.ofExc (.winWrite h _ _ _ _ _) ‹_›)
  · exact .next h

theorem Keeps.rowPut (h : Keeps s t) (w k v) : Keeps s (t.rowPut w k v) := by
  dsimp only [State.rowPut]
  split
  · exact .corePut h _ _ _ _ _
  · exact .ite (.withRdata (.hostPut h _ _ _)) (.withRdata (.inc (.hostPut h _ _ _) _))

theorem execStageWrite_keeps (h : Keeps s t) (who k v b) : KeepsOut s (execStageWrite who k v b t) := by
  dsimp only [execStageWrite]
  split
  · exact .ite (.next (.rowPut h _ _ _)) (.next h)
  · exact .next h

theorem execRegisterWrite_keeps (h : Keeps s t) (who k v b) : KeepsOut s (execRegisterWrite who k v b t) := by
  dsimp only [execRegisterWrite]
  split
  · exact .next h
  · exact .ite (.next h) (.ite (.next (.engineWrite h _ _ _)) (.next (.rowPut h _ _ _)))
  · exact .ite (.next h) (.next (.rowPut h _ _ _))

theorem execComCommit_keeps (h : Keeps s t) (who v) : KeepsOut s (execComCommit who v t) :=
  .next (.engineWrite h _ _ _)

theorem execComDomSel_keeps (h : Keeps s t) (who v) : KeepsOut s (execComDomSel who v t) :=
  .next (.domSelect h _ _)

theorem execComDomLen_keeps (h : Keeps s t) (who v) : KeepsOut s (execComDomLen who v t) :=
  .next (.domLen h _ _)

theorem execComDomDataWrite_keeps (h : Keeps s t) (who v) : KeepsOut s (execComDomDataWrite who v t) :=
  .next (.domWrite h _ _)

theorem execComDomDataRead_keeps (h : Keeps s t) (who) : KeepsOut s (execComDomDataRead who t) :=
  .next (.withRdata (.domRead h _))

theorem execComFwVal_keeps (h : Keeps s t) (who v) : KeepsOut s (execComFwVal who v t) :=
  .next (.fwValue h _ _)

theorem execEvtPost_keeps (h : Keeps s t) (who b) : KeepsOut s (execEvtPost who b t) :=
  .next (.rowPut h _ _ _)

theorem execEvtLogClear_keeps (h : Keeps s t) (who v) : KeepsOut s (execEvtLogClear who v t) :=
  .next (.rowPut h _ _ _)

theorem execEvtRouteReset_keeps (h : Keeps s t) (who v) : KeepsOut s (execEvtRouteReset who v t) :=
  .next (.rowPut h _ _ _)

theorem execEvtDropClear_keeps (h : Keeps s t) (who v) : KeepsOut s (execEvtDropClear who v t) :=
  .next (.rowPut h _ _ _)

theorem execCorRestart_keeps (h : Keeps s t) (who c) : KeepsOut s (execCorRestart who c t) :=
  .next (.rowPut h _ _ _)

theorem execCorHold_keeps (h : Keeps s t) (who c) : KeepsOut s (execCorHold who c t) :=
  .next (.rowPut h _ _ _)

theorem execCorRelease_keeps (h : Keeps s t) (who v) : KeepsOut s (execCorRelease who v t) :=
  .next (.rowPut h _ _ _)

/-! ## Machine/Exec -/

theorem KeepsEither.load (h : Keeps s t) (c a n cb) : KeepsEither s (t.load c a n cb) := by
  unfold State.load
  split
  · exact .error h
  · refine .ite ?_ (.ite (.ok (.drawn h)) ?_)
    · have hread := KeepsExcFst.winRead h (.core c) a n
      generalize t.winRead (.core c) a n = r at hread
      cases hread with
      | error => exact .error h
      | ok hu => exact .ok hu
    · have hmeet : Keeps s ((if inFlash a n then t.meetUnit a cb else t).meet a n).2 :=
        .meet (.ite (.meetUnit h _ _) h) _ _
      split
      · exact .error (.ofSnd hmeet ‹_›)
      · exact .ok (.sawBytes (.ofSnd hmeet ‹_›) _ _ _)

theorem Keeps.doubleFault (h : Keeps s t) (c cause) : Keeps s (t.doubleFault c cause) :=
  .ite (.mainReset (.inc (.setMode h _ _) _) _) (.toCore (.inc (.setMode h _ _) _) _ _)

theorem Keeps.handle (h : Keeps s t) (c h') : Keeps s (t.handle c h') :=
  .inc (.modCore h _ _) _

theorem Keeps.trap (h : Keeps s t) (c cause taddr tpc) : Keeps s (t.trap c cause taddr tpc) := by
  refine .ite (.doubleFault (.modCore h _ _) _ _) (.ite (.handle (.modCore h _ _) _ _) ?_)
  split
  · exact .doubleFault (.ofError (.load (.modCore h _ _) _ _ _ _) ‹_›) _ _
  · exact .handle (.ofOk (.load (.modCore h _ _) _ _ _ _) ‹_›) _ _

theorem KeepsEff.access {e : Eff} (h : KeepsEff s e) (u : State) (a n) : KeepsEff s (u.access a n e) := .ite .wait h

theorem Keeps.gexec (h : Keeps s t) (c len din dout rin rout) {f : List Nat → List Nat → State → Eff}
    (hf : ∀ i r u, Keeps s u → KeepsEff s (f i r u)) : Keeps s (t.gexec c len din dout rin rout f) := by
  dsimp only [State.gexec]
  split
  · exact .trap h _ _ _ _
  · refine .ite h ?_
    have hmeet : Keeps s (if t.cores[c].sprout then (false, t) else t.meet t.cores[c].pc.toNat len).2 := .iteSnd h (.meet h _ _)
    split
    · exact .trap (.ofSnd hmeet ‹_›) _ _ _ _
    · next u hu =>
      have hmet : Keeps s u := .ofSnd hmeet hu
      split
      · exact .trap hmet _ _ _ _
      · have heff := hf (u.dTop c din) (u.rTop c rin) u hmet
        generalize f (u.dTop c din) (u.rTop c rin) u = e at heff
        cases heff with
        | trap he => exact .trap he _ _ _ _
        | wait => exact hmet
        | done he => exact .modCore (.rSwap (.dSwap he _ _ _) _ _ _) _ _

theorem Keeps.gins (h : Keeps s t) (c len din dout rin rout) {f : List Nat → List Nat → State → Eff}
    (hf : ∀ i r u, Keeps s u → KeepsEff s (f i r u)) : Keeps s (t.gins c len din dout rin rout f) :=
  .ite (.gexec h _ _ _ _ _ _ hf) h

/-! ## Machine/Core1 -/

theorem Keeps.pureOp (h : Keeps s t) (c len din dout f) : Keeps s (t.pureOp c len din dout f) :=
  .gins h _ _ _ _ _ _ (fun _ _ _ h => .done h)

theorem Keeps.arithOp (h : Keeps s t) (c din dout f) : Keeps s (t.arithOp c din dout f) := by
  dsimp only [State.arithOp]
  refine .gins h _ _ _ _ _ _ (fun _ _ _ h => ?_)
  split
  · exact .trap h
  · exact .done (.modCore h _ _)

theorem Keeps.binOp (h : Keeps s t) (c f) : Keeps s (t.binOp c f) :=
  .pureOp h _ _ _ _ _

theorem Keeps.illegal (h : Keeps s t) (c) : Keeps s (t.illegal c) :=
  .gins h _ _ _ _ _ _ (fun _ _ _ h => .trap h)

theorem Keeps.only32 (h : Keeps s t) (c) {f : State → State} (hf : ∀ u, Keeps s u → Keeps s (f u)) :
    Keeps s (t.only32 c f) :=
  .ite (.illegal h _) (hf _ h)

theorem Keeps.onlySprout (h : Keeps s t) (c) {f : State → State} (hf : ∀ u, Keeps s u → Keeps s (f u)) :
    Keeps s (t.onlySprout c f) :=
  .ite (hf _ h) (.illegal h _)

theorem KeepsExc.store (h : Keeps s t) (c a n v) : KeepsExc s (t.store c a n v) := by
  dsimp only [State.store]
  split
  · exact .error
  · exact .ite (.winWrite h _ _ _ _ _) (.ite (.ok h) (.ite (.ok (.dropped h _ _ _ _)) (.ok (.putBytes h))))

theorem KeepsEff.loadEff {r : Except (State × Nat) (State × Nat)} (h : KeepsEither s r) (a f) :
    KeepsEff s (Machine.loadEff r a f) := by
  cases h with
  | error h => exact .trap h
  | ok h => exact .done h

theorem KeepsEff.storeEff (h : Keeps s t) {r : Except Nat State} (hr : KeepsExc s r) (a) :
    KeepsEff s (Machine.storeEff t r a) := by
  cases hr with
  | error => exact .trap h
  | ok hr => exact .done hr

theorem Keeps.loadOp (h : Keeps s t) (c n cb f) : Keeps s (t.loadOp c n cb f) :=
  .gins h _ _ _ _ _ _ (fun _ _ _ h => .access (.loadEff (.load h _ _ _ _) _ _) _ _ _)

theorem Keeps.storeOp (h : Keeps s t) (c n) : Keeps s (t.storeOp c n) :=
  .gins h _ _ _ _ _ _ (fun _ _ _ h => .access (.storeEff h (.store h _ _ _ _) _) _ _ _)

theorem execNop_keeps (h : Keeps s t) (c) : KeepsOut s (execNop c t) :=
  .next (.pureOp h _ _ _ _ _)

theorem execDup_keeps (h : Keeps s t) (c) : KeepsOut s (execDup c t) :=
  .next (.pureOp h _ _ _ _ _)

theorem execDrop_keeps (h : Keeps s t) (c) : KeepsOut s (execDrop c t) :=
  .next (.pureOp h _ _ _ _ _)

theorem execSwap_keeps (h : Keeps s t) (c) : KeepsOut s (execSwap c t) :=
  .next (.pureOp h _ _ _ _ _)

theorem execOverElem_keeps (h : Keeps s t) (c) : KeepsOut s (execOverElem c t) :=
  .next (.pureOp h _ _ _ _ _)

theorem execRot_keeps (h : Keeps s t) (c) : KeepsOut s (execRot c t) :=
  .next (.pureOp h _ _ _ _ _)

theorem execNip_keeps (h : Keeps s t) (c) : KeepsOut s (execNip c t) :=
  .next (.pureOp h _ _ _ _ _)

theorem execPick_keeps (h : Keeps s t) (c) : KeepsOut s (execPick c t) :=
  .next (.gins h _ _ _ _ _ _ (fun _ _ _ h => .ite (.trap h) (.done h)))

theorem execDepth_keeps (h : Keeps s t) (c) : KeepsOut s (execDepth c t) :=
  .next (.pureOp h _ _ _ _ _)

theorem execTor_keeps (h : Keeps s t) (c) : KeepsOut s (execTor c t) :=
  .next (.gins h _ _ _ _ _ _ (fun _ _ _ h => .done h))

theorem execFromr_keeps (h : Keeps s t) (c) : KeepsOut s (execFromr c t) :=
  .next (.gins h _ _ _ _ _ _ (fun _ _ _ h => .done (.drawn h)))

theorem execRfetch_keeps (h : Keeps s t) (c) : KeepsOut s (execRfetch c t) :=
  .next (.gins h _ _ _ _ _ _ (fun _ _ _ h => .done (.drawn h)))

theorem execLit8_keeps (h : Keeps s t) (c i) : KeepsOut s (execLit8 c i t) :=
  .next (.pureOp h _ _ _ _ _)

theorem execLit16_keeps (h : Keeps s t) (c i) : KeepsOut s (execLit16 c i t) :=
  .ite (.next (.pureOp h _ _ _ _ _)) (.next (.pureOp h _ _ _ _ _))

theorem execLit32_keeps (h : Keeps s t) (c i) : KeepsOut s (execLit32 c i t) :=
  .next (.only32 h _ (fun _ h => .pureOp h _ _ _ _ _))

theorem execLitn_keeps (h : Keeps s t) (c n) : KeepsOut s (execLitn c n t) :=
  .next (.pureOp h _ _ _ _ _)

theorem execAdd_keeps (h : Keeps s t) (c) : KeepsOut s (execAdd c t) :=
  .next (.arithOp h _ _ _ _)

theorem execSub_keeps (h : Keeps s t) (c) : KeepsOut s (execSub c t) :=
  .next (.arithOp h _ _ _ _)

theorem execNeg_keeps (h : Keeps s t) (c) : KeepsOut s (execNeg c t) :=
  .next (.arithOp h _ _ _ _)

theorem execMul_keeps (h : Keeps s t) (c) : KeepsOut s (execMul c t) :=
  .next (.arithOp h _ _ _ _)

theorem execMull_keeps (h : Keeps s t) (c) : KeepsOut s (execMull c t) :=
  .next (.arithOp h _ _ _ _)

theorem execMullu_keeps (h : Keeps s t) (c) : KeepsOut s (execMullu c t) :=
  .next (.arithOp h _ _ _ _)

theorem execDivs_keeps (h : Keeps s t) (c) : KeepsOut s (execDivs c t) :=
  .next (.arithOp h _ _ _ _)

theorem execDivu_keeps (h : Keeps s t) (c) : KeepsOut s (execDivu c t) :=
  .next (.arithOp h _ _ _ _)

theorem execAnd_keeps (h : Keeps s t) (c) : KeepsOut s (execAnd c t) :=
  .next (.binOp h _ _)

theorem execOr_keeps (h : Keeps s t) (c) : KeepsOut s (execOr c t) :=
  .next (.binOp h _ _)

theorem execXor_keeps (h : Keeps s t) (c) : KeepsOut s (execXor c t) :=
  .next (.binOp h _ _)

theorem execNot_keeps (h : Keeps s t) (c) : KeepsOut s (execNot c t) :=
  .next (.pureOp h _ _ _ _ _)

theorem execShl_keeps (h : Keeps s t) (c) : KeepsOut s (execShl c t) :=
  .next (.binOp h _ _)

theorem execShr_keeps (h : Keeps s t) (c) : KeepsOut s (execShr c t) :=
  .next (.binOp h _ _)

theorem execSar_keeps (h : Keeps s t) (c) : KeepsOut s (execSar c t) :=
  .next (.binOp h _ _)

theorem execRol_keeps (h : Keeps s t) (c) : KeepsOut s (execRol c t) :=
  .next (.binOp h _ _)

theorem execRor_keeps (h : Keeps s t) (c) : KeepsOut s (execRor c t) :=
  .next (.binOp h _ _)

theorem execEq_keeps (h : Keeps s t) (c) : KeepsOut s (execEq c t) :=
  .next (.binOp h _ _)

theorem execNe_keeps (h : Keeps s t) (c) : KeepsOut s (execNe c t) :=
  .next (.binOp h _ _)

theorem execLt_keeps (h : Keeps s t) (c) : KeepsOut s (execLt c t) :=
  .next (.binOp h _ _)

theorem execLtu_keeps (h : Keeps s t) (c) : KeepsOut s (execLtu c t) :=
  .next (.binOp h _ _)

theorem execGt_keeps (h : Keeps s t) (c) : KeepsOut s (execGt c t) :=
  .next (.binOp h _ _)

theorem execGtu_keeps (h : Keeps s t) (c) : KeepsOut s (execGtu c t) :=
  .next (.binOp h _ _)

theorem execEqz_keeps (h : Keeps s t) (c) : KeepsOut s (execEqz c t) :=
  .next (.pureOp h _ _ _ _ _)

theorem execLdw_keeps (h : Keeps s t) (c cb) : KeepsOut s (execLdw c cb t) :=
  .next (.only32 h _ (fun _ h => .loadOp h _ _ _ _))

theorem execLdh_keeps (h : Keeps s t) (c cb) : KeepsOut s (execLdh c cb t) :=
  .next (.only32 h _ (fun _ h => .loadOp h _ _ _ _))

theorem execLdhs_keeps (h : Keeps s t) (c cb) : KeepsOut s (execLdhs c cb t) :=
  .next (.only32 h _ (fun _ h => .loadOp h _ _ _ _))

theorem execLdb_keeps (h : Keeps s t) (c cb) : KeepsOut s (execLdb c cb t) :=
  .next (.loadOp h _ _ _ _)

theorem execLdbs_keeps (h : Keeps s t) (c cb) : KeepsOut s (execLdbs c cb t) :=
  .next (.loadOp h _ _ _ _)

theorem execStw_keeps (h : Keeps s t) (c) : KeepsOut s (execStw c t) :=
  .next (.only32 h _ (fun _ h => .storeOp h _ _))

theorem execSth_keeps (h : Keeps s t) (c) : KeepsOut s (execSth c t) :=
  .next (.only32 h _ (fun _ h => .storeOp h _ _))

theorem execStb_keeps (h : Keeps s t) (c) : KeepsOut s (execStb c t) :=
  .next (.storeOp h _ _)

theorem KeepsEff.ldd (h : Keeps s t) (c a cb0 cb1) : KeepsEff s (t.ldd c a cb0 cb1) := by
  unfold State.ldd
  split
  · exact .trap h
  · exact .trap h
  · split
    · exact .trap (.ofError (.load h _ _ _ _) ‹_›)
    · exact .loadEff (.load (.ofOk (.load h _ _ _ _) ‹_›) _ _ _ _) _ _

theorem execLdd_keeps (h : Keeps s t) (c cb0 cb1) : KeepsOut s (execLdd c cb0 cb1 t) :=
  .next (.only32 h _ (fun _ h => .gins h _ _ _ _ _ _ (fun _ _ _ h => .access (.ldd h _ _ _ _) _ _ _)))

theorem KeepsEff.std (h : Keeps s t) (c a lo hi) : KeepsEff s (t.std c a lo hi) := by
  dsimp only [State.std]
  split
  · exact .trap h
  · exact .trap h
  · refine .ite (.done (.dropped (.dropped h _ _ _ _) _ _ _ _)) ?_
    split
    · exact .trap h
    · exact .storeEff h (.store (.ofExc (.store h _ _ _ _) ‹_›) _ _ _ _) _

theorem execStd_keeps (h : Keeps s t) (c) : KeepsOut s (execStd c t) :=
  .next (.only32 h _ (fun _ h => .gins h _ _ _ _ _ _ (fun _ _ _ h => .access (.std h _ _ _ _) _ _ _)))

theorem KeepsEff.atom (h : Keeps s t) (c a new ok) : KeepsEff s (t.atom c a new ok) := by
  unfold State.atom
  split
  · exact .trap h
  · split
    · exact .trap (.ofError (.load h _ _ _ _) ‹_›)
    · have hload := Keeps.ofOk (.load h _ _ _ _) ‹_›
      exact .done (.ite (.putBytes hload) hload)

theorem execSwp_keeps (h : Keeps s t) (c) : KeepsOut s (execSwp c t) :=
  .next (.only32 h _ (fun _ h => .gins h _ _ _ _ _ _ (fun _ _ _ h => .access (.atom h _ _ _ _) _ _ _)))

theorem execCas_keeps (h : Keeps s t) (c) : KeepsOut s (execCas c t) :=
  .next (.only32 h _ (fun _ h => .gins h _ _ _ _ _ _ (fun _ _ _ h => .access (.atom h _ _ _ _) _ _ _)))

theorem Keeps.jump (h : Keeps s t) (c len w off) : Keeps s (t.jump c len w off) :=
  .gins h _ _ _ _ _ _ (fun _ _ _ h => .done h)

theorem Keeps.branch (h : Keeps s t) (c len w off ok) : Keeps s (t.branch c len w off ok) :=
  .gins h _ _ _ _ _ _ (fun _ _ _ h => .done h)

theorem execJmp_keeps (h : Keeps s t) (c off) : KeepsOut s (execJmp c off t) :=
  .next (.jump h _ _ _ _)

theorem execJz_keeps (h : Keeps s t) (c off) : KeepsOut s (execJz c off t) :=
  .next (.branch h _ _ _ _ _)

theorem execJnz_keeps (h : Keeps s t) (c off) : KeepsOut s (execJnz c off t) :=
  .next (.branch h _ _ _ _ _)

theorem execJmp8_keeps (h : Keeps s t) (c off) : KeepsOut s (execJmp8 c off t) :=
  .next (.jump h _ _ _ _)

theorem execJz8_keeps (h : Keeps s t) (c off) : KeepsOut s (execJz8 c off t) :=
  .next (.branch h _ _ _ _ _)

theorem execJnz8_keeps (h : Keeps s t) (c off) : KeepsOut s (execJnz8 c off t) :=
  .next (.branch h _ _ _ _ _)

theorem execCall_keeps (h : Keeps s t) (c off) : KeepsOut s (execCall c off t) :=
  .next (.gins h _ _ _ _ _ _ (fun _ _ _ h => .done h))

theorem execRet_keeps (h : Keeps s t) (c) : KeepsOut s (execRet c t) :=
  .next (.gins h _ _ _ _ _ _ (fun _ _ _ h => .done h))

theorem execJmpi_keeps (h : Keeps s t) (c) : KeepsOut s (execJmpi c t) :=
  .next (.gins h _ _ _ _ _ _ (fun _ _ _ h => .done h))

theorem execCalli_keeps (h : Keeps s t) (c) : KeepsOut s (execCalli c t) :=
  .next (.gins h _ _ _ _ _ _ (fun _ _ _ h => .done h))

theorem KeepsEff.trapNext (h : Keeps s t) (c cause taddr len) : KeepsEff s (t.trapNext c cause taddr len) :=
  .done (.trap h _ _ _ _)

theorem execTrap_keeps (h : Keeps s t) (c n) : KeepsOut s (execTrap c n t) :=
  .next (.gins h _ _ _ _ _ _ (fun _ _ _ h => .trapNext h _ _ _ _))

theorem execRett_keeps (h : Keeps s t) (c) : KeepsOut s (execRett c t) :=
  .next (.gins h _ _ _ _ _ _ (fun _ _ _ h => .ite (.done (.modCore h _ _)) (.trap h)))

theorem Keeps.wardenWait (h : Keeps s t) : Keeps s t.wardenWait :=
  .ite (.setMode h _ _) (.ite (.setMode (.inc (.setO (.setO h _ _) _ _) _) _ _) (.enterPower (.setMode h _ _)))

theorem execWait_keeps (h : Keeps s t) (c) : KeepsOut s (execWait c t) :=
  .next (.gins h _ _ _ _ _ _ (fun _ _ _ h => .ite (.done (.ite (.wardenWait h) (.setMode h _ _))) (.done (.ite (.setO h _ _) h))))

theorem execEvget_keeps (h : Keeps s t) (c) : KeepsOut s (execEvget c t) :=
  .next (.only32 h _ (fun _ h => .gins h _ _ _ _ _ _ (fun _ _ _ h => .done (.modCore h _ _))))

theorem execEvpost_keeps (h : Keeps s t) (c) : KeepsOut s (execEvpost c t) :=
  .next (.only32 h _ (fun _ h => .gins h _ _ _ _ _ _ (fun _ _ _ h => .ite (.done h) (.done (.toCore h _ _)))))

theorem execRdsr_keeps (h : Keeps s t) (c n) : KeepsOut s (execRdsr c n t) := by
  dsimp only [execRdsr]
  refine .next (.gins h _ _ _ _ _ _ (fun _ _ _ h => .ite (.trap h) ?_))
  split
  · exact .trap h
  · exact .done (.ite (.modCore h _ _) (.ite (.modCore h _ _) h))

theorem execWrsr_keeps (h : Keeps s t) (c n) : KeepsOut s (execWrsr c n t) := by
  dsimp only [execWrsr]
  refine .next (.gins h _ _ _ _ _ _ (fun _ _ _ h => .ite (.trap h) ?_))
  split
  · exact .trap h
  · exact .done (.modCore h _ _)

theorem execBrk_keeps (h : Keeps s t) (c) : KeepsOut s (execBrk c t) :=
  .next (.gins h _ _ _ _ _ _ (fun _ _ _ h => .ite (.done (.setMode h _ _)) (.trapNext h _ _ _ _)))

theorem execXldw_keeps (h : Keeps s t) (c cb) : KeepsOut s (execXldw c cb t) :=
  .next (.onlySprout h _ (fun _ h => .gins h _ _ _ _ _ _ (fun _ _ _ h => .access (.loadEff (.load h _ _ _ _) _ _) _ _ _)))

theorem execXstw_keeps (h : Keeps s t) (c) : KeepsOut s (execXstw c t) :=
  .next (.onlySprout h _ (fun _ h => .gins h _ _ _ _ _ _ (fun _ _ _ h => .access (.storeEff h (.store h _ _ _ _) _) _ _ _)))

theorem execGrow_keeps (h : Keeps s t) (c) : KeepsOut s (execGrow c t) :=
  .next (.onlySprout h _ (fun _ h => .ite (.gins h _ _ _ _ _ _ (fun _ _ _ h => .done (.modCore h _ _))) (.illegal h _)))

theorem execReservedOpcode_keeps (h : Keeps s t) (c) : KeepsOut s (execReservedOpcode c t) :=
  .next (.illegal h _)

theorem execEventArrive_keeps (h : Keeps s t) (c code src arg) : KeepsOut s (execEventArrive c code src arg t) :=
  .next (.toCore h _ _)

theorem runOne_keeps (h : Keeps s t) (c) : KeepsOut s (t.runOne c) := by
  dsimp only [State.runOne]
  refine .ite (execLitn_keeps h _ _) ?_
  split
  · exact execNop_keeps h _
  · exact execDup_keeps h _
  · exact execDrop_keeps h _
  · exact execSwap_keeps h _
  · exact execOverElem_keeps h _
  · exact execRot_keeps h _
  · exact execNip_keeps h _
  · exact execPick_keeps h _
  · exact execDepth_keeps h _
  · exact execTor_keeps h _
  · exact execFromr_keeps h _
  · exact execRfetch_keeps h _
  · exact execLit8_keeps h _ _
  · exact execLit16_keeps h _ _
  · exact execLit32_keeps h _ _
  · exact execAdd_keeps h _
  · exact execSub_keeps h _
  · exact execNeg_keeps h _
  · exact execMul_keeps h _
  · exact execMull_keeps h _
  · exact execMullu_keeps h _
  · exact execDivs_keeps h _
  · exact execDivu_keeps h _
  · exact execAnd_keeps h _
  · exact execOr_keeps h _
  · exact execXor_keeps h _
  · exact execNot_keeps h _
  · exact execShl_keeps h _
  · exact execShr_keeps h _
  · exact execSar_keeps h _
  · exact execRol_keeps h _
  · exact execRor_keeps h _
  · exact execEq_keeps h _
  · exact execNe_keeps h _
  · exact execLt_keeps h _
  · exact execLtu_keeps h _
  · exact execGt_keeps h _
  · exact execGtu_keeps h _
  · exact execEqz_keeps h _
  · exact execLdw_keeps h _ _
  · exact execLdh_keeps h _ _
  · exact execLdhs_keeps h _ _
  · exact execLdb_keeps h _ _
  · exact execLdbs_keeps h _ _
  · exact execStw_keeps h _
  · exact execSth_keeps h _
  · exact execStb_keeps h _
  · exact execLdd_keeps h _ _ _
  · exact execStd_keeps h _
  · exact execSwp_keeps h _
  · exact execCas_keeps h _
  · exact execJmp_keeps h _ _
  · exact execJz_keeps h _ _
  · exact execJnz_keeps h _ _
  · exact execCall_keeps h _ _
  · exact execJmp8_keeps h _ _
  · exact execJz8_keeps h _ _
  · exact execJnz8_keeps h _ _
  · exact execRet_keeps h _
  · exact execJmpi_keeps h _
  · exact execCalli_keeps h _
  · exact execTrap_keeps h _ _
  · exact execRett_keeps h _
  · exact execWait_keeps h _
  · exact execEvget_keeps h _
  · exact execEvpost_keeps h _
  · exact execRdsr_keeps h _ _
  · exact execWrsr_keeps h _ _
  · exact execBrk_keeps h _
  · exact execXldw_keeps h _ _
  · exact execXstw_keeps h _
  · exact execGrow_keeps h _
  · exact execReservedOpcode_keeps h _

/-! ## Machine/Plan -/

theorem Keeps.scanSectors (h : Keeps s t) (lines) : Keeps s (t.scanSectors lines) := by
  dsimp only [State.scanSectors]
  refine .modPower (.fold (fun _ _ h => .readOver h _ _) (.fold (fun _ _ h => .meetUnit h _ _) h)) _

theorem Keeps.refreshFlash (h : Keeps s t) : Keeps s t.refreshFlash :=
  .fold (fun _ _ h => .flRelocate h _ _ _ _ _) h

theorem Keeps.planned (h : Keeps s t) (up) {r : Option State} (hr : KeepsOpt s r) : Keeps s (t.planned up r) := by
  cases hr with
  | none => exact h
  | some hu => exact .ite (.modPower hu _) hu

theorem execCompassPlan_keeps (h : Keeps s t) (lines) : KeepsOut s (execCompassPlan lines t) :=
  .next (.refreshFlash (.scanSectors (.planned h _ (.toOption (.judgeSet h _))) _))

/-! ## Machine/Routine -/

theorem Keeps.clobber (h : Keeps s t) (p n) : Keeps s (t.clobber p n) :=
  .ite (.scramble h _ _) h

theorem Keeps.scratch (h : Keeps s t) (c) : Keeps s (t.scratch c) :=
  .clobber (.clobber h _ _) _ _

theorem Keeps.routine (h : Keeps s t) (c n din dout) {f : List Nat → State → List Nat × State}
    (hf : ∀ i u, Keeps s u → Keeps s (f i u).2) : Keeps s (t.routine c n din dout f) :=
  .ite (.gins h _ _ _ _ _ _ (fun _ _ _ h => .ite (.ite (.trap (.drawn h)) (.trap (.drawn h)))
    (.done (hf _ _ (.scratch (.ite h (.drawn h)) _))))) h

theorem execFlProgram_keeps (h : Keeps s t) (c) : KeepsOut s (execFlProgram c t) :=
  .next (.routine h _ _ _ _ (fun _ _ h => .flProgram h _ _ _ _))

theorem execFlErase_keeps (h : Keeps s t) (c) : KeepsOut s (execFlErase c t) :=
  .next (.routine h _ _ _ _ (fun _ _ h => .flErase h _ _ _))

theorem execFlRelocate_keeps (h : Keeps s t) (c) : KeepsOut s (execFlRelocate c t) :=
  .next (.routine h _ _ _ _ (fun _ _ h => .flRelocate h _ _ _ _ _))

theorem execFlCtrword_keeps (h : Keeps s t) (c) : KeepsOut s (execFlCtrword c t) :=
  .next (.routine h _ _ _ _ (fun _ _ h => .flCtrword h _ _))

theorem execFlBlank_keeps (h : Keeps s t) (c) : KeepsOut s (execFlBlank c t) :=
  .next (.routine h _ _ _ _ (fun _ _ h => h))

theorem execFlReadchk_keeps (h : Keeps s t) (c cbs) : KeepsOut s (execFlReadchk c cbs t) :=
  .next (.routine h _ _ _ _ (fun _ _ h => .flReadchk h _ _ _ _))

theorem execFlSector_keeps (h : Keeps s t) (c) : KeepsOut s (execFlSector c t) :=
  .next (.routine h _ _ _ _ (fun _ _ h => h))

theorem execImCheck_keeps (h : Keeps s t) (c) : KeepsOut s (execImCheck c t) :=
  .next (.routine h _ _ _ _ (fun _ _ h => .imCheck h _))

theorem Keeps.imSwitchRun (h : Keeps s t) (c mode) : Keeps s (t.imSwitchRun c mode) :=
  .ite (.routine h _ _ _ _ (fun _ _ h => .imSwitch h _ _)) h

theorem execImSwitchRoll_keeps (h : Keeps s t) (c) : KeepsOut s (execImSwitchRoll c t) :=
  .next (.imSwitchRun h _ _)

theorem execImSwitchReset_keeps (h : Keeps s t) (c) : KeepsOut s (execImSwitchReset c t) :=
  .next (.imSwitchRun h _ _)

theorem execImConfirm_keeps (h : Keeps s t) (c) : KeepsOut s (execImConfirm c t) :=
  .next (.routine h _ _ _ _ (fun _ _ h => .imConfirm h))

theorem execImAbandon_keeps (h : Keeps s t) (c) : KeepsOut s (execImAbandon c t) := by
  refine .next (.routine h _ _ _ _ (fun _ _ h => ?_))
  dsimp only [oneStatus]
  exact .imAbandon h

/-! ## Machine/Sop -/

theorem Keeps.skipIn (h : Keeps s t) (n) : Keeps s (State.skipIn t n) := by
  induction n generalizing t with
  | zero => exact h
  | succ n ih =>
    dsimp only [State.skipIn]
    split
    · exact h
    · exact .ite h (ih (.inc (.returnCells (.modCom h _) _ _) _))

theorem Keeps.takeIn (h : Keeps s t) (kind) {f : State → SopIn → State} (hf : ∀ u m, Keeps s u → Keeps s (f u m)) :
    Keeps s (t.takeIn kind f) := by
  dsimp only [State.takeIn]
  split
  · exact .skipIn h _
  · exact .ite (.skipIn h _) (hf _ _ (.returnCells (.modCom (.skipIn h _) _) _ _))

theorem Keeps.openAnswer (h : Keeps s t) (m sess body) : Keeps s (t.openAnswer m sess body) :=
  .ite (.hspiShow (.irqPulse (.modCom h _))) (.udpSend h _ _ _ _)

theorem Keeps.openRefuse (h : Keeps s t) (m status) : Keeps s (t.openRefuse m status) :=
  .openAnswer (.withDraws h) _ _ _

theorem Keeps.openKey (h : Keeps s t) {x b dn pub} {u : State} (e : t.openKey x b = some (dn, pub, u)) : Keeps s u := by
  unfold State.openKey at e
  dsimp only at e
  split at e
  · cases e
  · split at e
    · cases e
    · split at e
      · cases e
      · cases e
        exact .loadSlot (.drbg (.drbg h _) _) _ _ _ _ _ _

theorem Keeps.openSession (h : Keeps s t) (m x dn deph) : Keeps s (t.openSession m x dn deph) :=
  .openAnswer (.setBlob (.setO (.setO (.modSess (.setBlob (.setBlob h _ _) _ _) _ _) _ _) _ _) _ _) _ _ _

theorem execOpenReq_keeps (h : Keeps s t) : KeepsOut s (execOpenReq t) := by
  refine .next (.takeIn h _ (fun u m h => .ite (.openRefuse h _ _) ?_))
  split
  · exact .openRefuse h _ _
  · split
    · exact .openRefuse h _ _
    · exact .openSession (.openKey h ‹_›) _ _ _ _

theorem Keeps.openDone (h : Keeps s t) (x) : Keeps s (t.openDone x) :=
  .bskSession (.answer (.raise (.modSess (.setO (.setO (.setO (.setO (.setO h _ _) _ _) _ _) _ _) _ _) _ _) _ _ _) _ _)

theorem execOpenFin_keeps (h : Keeps s t) : KeepsOut s (execOpenFin t) := by
  dsimp only [execOpenFin]
  refine .next (.takeIn h _ (fun _ _ h => .ite (.inc h _) ?_))
  split
  · exact .inc h _
  · exact .ite (.openDone h _) (.inc (.sessFree (.freeHandlers h _) _) _)

theorem Keeps.sopArrived (h : Keeps s t) (x b) : Keeps s (t.sopArrived x b) :=
  .ite (.abortTo h _ _ _ _) (.modCom h _)

theorem execSecuredRx_keeps (h : Keeps s t) : KeepsOut s (execSecuredRx t) := by
  dsimp only [execSecuredRx]
  refine .next (.takeIn h _ (fun _ _ h => ?_))
  split
  · exact .inc h _
  · split
    · exact .inc h _
    · exact .sopArrived (.inc (.inc (.modSess h _ _) _) _) _ _

theorem Keeps.skipReq (h : Keeps s t) (n) : Keeps s (State.skipReq t n) := by
  induction n generalizing t with
  | zero => exact h
  | succ n ih =>
    dsimp only [State.skipReq]
    split
    · exact h
    · refine .ite h ?_
      split
      · exact h
      · exact ih (.abortTo (.modCom h _) _ _ _ _)

theorem Keeps.sopServe (h : Keeps s t) (ty) {f : State → Writer → Nat → Bytes → State}
    (hf : ∀ u w tag p, Keeps s u → Keeps s (f u w tag p)) : Keeps s (t.sopServe ty f) := by
  dsimp only [State.sopServe]
  split
  · exact .skipReq h _
  · exact .ite (.skipReq h _) (hf _ _ _ _ (.modCom (.skipReq h _) _))

theorem KeepsOptFst.valueNow (h : Keeps s t) (w k) : KeepsOptFst s (t.valueNow w k) := by
  dsimp only [State.valueNow]
  split
  · exact .none
  · exact .ite (.readBlob h _ _) (.some (.readNum h _ _))

theorem KeepsOptFst.valueFor (h : Keeps s t) (w k staged) : KeepsOptFst s (t.valueFor w k staged) := by
  dsimp only [State.valueFor]
  split
  · exact .some h
  · exact .valueNow h _ _

theorem Keeps.readHere (h : Keeps s t) (w tag k staged off cap) : Keeps s (t.readHere w tag k staged off cap) := by
  dsimp only [State.readHere]
  split
  · exact .abortTo h _ _ _ _
  · exact .ite (.abortTo (.ofOptFst (.valueFor h _ _ _) ‹_›) _ _ _ _) (.ite (.abortTo (.ofOptFst (.valueFor h _ _ _) ‹_›) _ _ _
      _) (.respond (.ofOptFst (.valueFor h _ _ _) ‹_›) _ _ _ _))

theorem execRead_keeps (h : Keeps s t) : KeepsOut s (execRead t) := by
  dsimp only [execRead]
  refine .next (.sopServe h _ (fun _ _ _ _ h => .ite (.abortTo h _ _ _ _) ?_))
  split
  · exact .abortTo h _ _ _ _
  · exact .ite (.ask h _ _ _) (.readHere h _ _ _ _ _ _)

theorem Keeps.putDom (h : Keeps s t) (w d) : Keeps s (t.putDom w d) := by
  dsimp only [State.putDom]
  split
  · exact .modSess h _ _
  · exact .modCom h _
  · exact h

theorem Keeps.shellAnswer (h : Keeps s t) (w tag) : Keeps s (t.shellAnswer w tag) :=
  .respond h _ _ _ _

theorem execShellCmd_keeps (h : Keeps s t) : KeepsOut s (execShellCmd t) := by
  dsimp only [execShellCmd]
  split
  · exact .next (.shellAnswer (.shellEnd (.withShell h)) _ _)
  · exact .next (.shellEnd h)

theorem Keeps.shellAsked (h : Keeps s t) (w tag busy) : Keeps s (t.shellAsked w tag busy) :=
  .ite (.shellAnswer h _ _) (.withShell h)

theorem Keeps.writeHere (h : Keeps s t) (w tag k b) : Keeps s (t.writeHere w tag k b) := by
  dsimp only [State.writeHere]
  split
  · exact .ite (.shellAsked (.ofFst (.hostPut h _ _ _) ‹_›) _ _ _) (.respond (.ofFst (.hostPut h _ _ _) ‹_›) _ _ _ _)
  · exact .abortTo (.ofFst (.hostPut h _ _ _) ‹_›) _ _ _ _

theorem Keeps.writePiece (h : Keeps s t) (w tag k total off b) : Keeps s (t.writePiece w tag k total off b) := by
  dsimp only [State.writePiece]
  refine .ite (.abortTo h _ _ _ _) ?_
  split
  · exact .abortTo h _ _ _ _
  · refine .ite ?_ (.ite (.writeHere (.putDom h _ _) _ _ _ _) (.respond (.putDom h _ _) _ _ _ _))
    split
    · exact .abortTo h _ _ _ _
    · exact .putDom (.ofOpt (.tryAsk h _ _ _) ‹_›) _ _

theorem execWrite_keeps (h : Keeps s t) : KeepsOut s (execWrite t) := by
  dsimp only [execWrite]
  refine .next (.sopServe h _ (fun _ _ _ _ h => .ite (.abortTo h _ _ _ _) ?_))
  split
  · exact .abortTo h _ _ _ _
  · exact .ite (.writePiece h _ _ _ _ _ _) (.ite (.abortTo h _ _ _ _) (.ite (.ask h _ _ _) (.writeHere h _ _ _ _)))

theorem Keeps.readEntry (h : Keeps s t) (w k) : Keeps s (t.readEntry w k).1 := by
  dsimp only [State.readEntry]
  split
  · exact h
  · split
    · exact h
    · exact .ofOptFst (.valueNow h _ _) ‹_›

theorem Keeps.readEntries (h : Keeps s t) (w i first n) : Keeps s (t.readEntries w i first n).1 := by
  refine .foldFst (fun u x h => ?_) h
  exact .readEntry h _ _

theorem execBlockRead_keeps (h : Keeps s t) : KeepsOut s (execBlockRead t) :=
  .next (.sopServe h _ (fun _ _ _ _ h => .ite (.abortTo h _ _ _ _) (.ite (.blockNext h _ _ _) (.ite (.abortTo (.readEntries h _ _
    _ _) _ _ _ _) (.respond (.readEntries h _ _ _ _) _ _ _ _)))))

theorem Keeps.writeEntry (h : Keeps s t) (w k b) : Keeps s (t.writeEntry w k b).1 := by
  dsimp only [State.writeEntry]
  split
  · exact h
  · exact .iteFst (.hostPut h _ _ _) h

theorem Keeps.writeEntries (h : Keeps s t) (w tag i first done l) : Keeps s (State.writeEntries t w tag i first done l) := by
  induction l generalizing t done with
  | nil => exact .respond h _ _ _ _
  | cons e r ih =>
    unfold State.writeEntries
    have hentry := Keeps.writeEntry h w (okey i e.1) e.2
    split
    · exact ih (.ofFst hentry ‹_›) _
    · exact .abortTo (.ofFst hentry ‹_›) _ _ _ _

theorem execBlockWrite_keeps (h : Keeps s t) : KeepsOut s (execBlockWrite t) := by
  dsimp only [execBlockWrite]
  refine .next (.sopServe h _ (fun _ _ _ _ h => ?_))
  split
  · exact .abortTo h _ _ _ _
  · exact .ite (.abortTo h _ _ _ _) (.ite (.blockNext h _ _ _) (.writeEntries h _ _ _ _ _ _))

theorem execCommit_keeps (h : Keeps s t) : KeepsOut s (execCommit t) :=
  .next (.sopServe h _ (fun _ _ _ _ h => .ite (.abortTo h _ _ _ _) (.ite (.respond h _ _ _ _) (.ite (.ask h _ _ _) (.judgeSop h _
    _)))))

theorem execSubscribe_keeps (h : Keeps s t) : KeepsOut s (execSubscribe t) := by
  dsimp only [execSubscribe]
  refine .next (.sopServe h _ (fun _ _ _ _ h => ?_))
  split
  · split
    · exact .abortTo h _ _ _ _
    · exact .ite (.abortTo h _ _ _ _) (.respond (.modSess h _ _) _ _ _ _)
  · exact h

theorem execUnsubscribe_keeps (h : Keeps s t) : KeepsOut s (execUnsubscribe t) := by
  dsimp only [execUnsubscribe]
  refine .next (.sopServe h _ (fun _ _ _ _ h => ?_))
  split
  · exact .ite (.abortTo h _ _ _ _) (.ite (.respond (.modSess h _ _) _ _ _ _) (.abortTo h _ _ _ _))
  · exact h

theorem execClose_keeps (h : Keeps s t) : KeepsOut s (execClose t) := by
  dsimp only [execClose]
  refine .next (.sopServe h _ (fun _ _ _ _ h => ?_))
  split
  · exact .sessClose h _ _
  · exact h

theorem execPing_keeps (h : Keeps s t) : KeepsOut s (execPing t) :=
  .next (.sopServe h _ (fun _ _ _ _ h => .ite (.respond h _ _ _ _) (.abortTo h _ _ _ _)))

theorem Keeps.notifyOne (h : Keeps s t) (x id u) : Keeps s (t.notifyOne x id u) :=
  .unless (.modSess h _ _) (fun h => .when (.toSession h _ _) (fun h => .inc h _))

theorem execNotify_keeps (h : Keeps s t) : KeepsOut s (execNotify t) :=
  .ite (.next h) (.next (.fold (fun _ _ h => .ite (.fold (fun _ _ h => .notifyOne h _ _ _) h) h) (.modCom h _)))

theorem KeepsExcFst.debugWords (h : Keeps s t) (a n) : KeepsExcFst s (State.debugWords t a n) := by
  induction n generalizing t a with
  | zero => exact .ok h
  | succ n ih =>
    dsimp only [State.debugWords]
    split
    · exact .error
    · have hrest := ih (.ofExcFst (.winRead h _ _ _) ‹_›) (a + 4)
      split
      · exact .error
      · exact .ok (.ofExcFst hrest ‹_›)

theorem KeepsEither.debugRead (h : Keeps s t) (a n) : KeepsEither s (t.debugRead a n) := by
  refine .ite (.error h) (.ite (.error h) (.ite (.ite (.error h) ?_) (.ite (.error h) (.ite (.error h) ?_))))
  · have hwords := KeepsExcFst.debugWords h a (n / 4)
    generalize t.debugWords a (n / 4) = r at hwords
    cases hwords with
    | error => exact .error h
    | ok hu => exact .ok hu
  · split
    · exact .error (.ofSnd (.meet h _ _) ‹_›)
    · exact .ok (.sawBytes (.ofSnd (.meet h _ _) ‹_›) _ _ _)

theorem execMemRead_keeps (h : Keeps s t) : KeepsOut s (execMemRead t) := by
  refine .next (.sopServe h _ (fun u w tag p h => .ite (.abortTo h _ _ _ _) ?_))
  split
  · exact .abortTo (.ofError (.debugRead h _ _) ‹_›) _ _ _ _
  · exact .respond (.ofOk (.debugRead h _ _) ‹_›) _ _ _ _

theorem Keeps.debugWord (h : Keeps s t) (a v) : Keeps s (t.debugWord a v).1 := by
  dsimp only [State.debugWord]
  split
  · exact h
  · refine .iteFst h (.iteFst h (.iteFst h (.iteFst (.wLatch h _ _) ?_)))
    split
    · exact h
    · exact .hostPut h _ _ _
  · refine .iteFst h (.iteFst h (.iteFst h ?_))
    split
    · exact h
    · exact .hostPut (.wLatch h _ _) _ _ _

theorem Keeps.debugPut (h : Keeps s t) (a l) : Keeps s (State.debugPut t a l).1 := by
  induction l generalizing t a with
  | nil => exact h
  | cons v r ih =>
    dsimp only [State.debugPut]
    have hword := Keeps.debugWord h a v
    split
    · exact ih (.ofFst hword ‹_›) _
    · exact hword

theorem Keeps.debugWrite (h : Keeps s t) (a b) : Keeps s (t.debugWrite a b).1 :=
  .iteFst h (.iteFst (.iteFst h (.debugPut h _ _)) (.iteFst h (.iteFst h (.iteFst h (.putBytes h)))))

theorem execMemWrite_keeps (h : Keeps s t) : KeepsOut s (execMemWrite t) := by
  dsimp only [execMemWrite]
  refine .next (.sopServe h _ (fun _ _ _ _ h => .ite (.abortTo h _ _ _ _) ?_))
  split
  · exact .respond (.ofFst (.debugWrite h _ _) ‹_›) _ _ _ _
  · exact .abortTo (.ofFst (.debugWrite h _ _) ‹_›) _ _ _ _

theorem Keeps.stepCore (h : Keeps s t) (c) : Keeps s (t.stepCore c) := by
  dsimp only [State.stepCore]
  split
  · exact .unless (.ofOut (runOne_keeps (.setMode h _ _) _) ‹_›) (fun h => .setMode h _ _)
  · exact h

theorem execStep_keeps (h : Keeps s t) : KeepsOut s (execStep t) :=
  .next (.sopServe h _ (fun _ _ _ _ h => .ite (.abortTo h _ _ _ _) (.ite (.abortTo h _ _ _ _) (.ite (.abortTo h _ _ _ _)
    (.respond (.stepCore h _) _ _ _ _)))))

/-! ## Machine/Start -/

theorem Keeps.firmShell (h : Keeps s t) (slot) {f : State → Writer → State} (hf : ∀ u w, Keeps s u → Keeps s (f u w)) :
    Keeps s (t.firmShell slot f) :=
  .shellEnd (hf _ _ (.setO h _ _))

theorem Keeps.startMeasure (h : Keeps s t) : Keeps s t.startMeasure := by
  dsimp only [State.startMeasure]
  refine .withDraws (.measExtend ?_ _ _)
  split
  · exact .measExtend h _ _
  · exact h

theorem Keeps.startKeys (h : Keeps s t) : Keeps s t.startKeys :=
  .fold (fun _ _ h => .ite (.firmShell h _ (fun _ _ h => .shlCtrSync h _)) h) (.ite h (.fold (fun _ _ h => .firmShell (.setBlob h
    _ _) _ (fun _ _ h => .shlImport h _)) h))

theorem Keeps.replayOne (h : Keeps s t) (e) : Keeps s (t.replayOne e) := by
  dsimp only [State.replayOne]
  refine .ite ?_ (.putObject h _ _ _ _ _)
  split
  · exact .setO h _ _
  · exact .setBlob h _ _

theorem Keeps.replaySets (h : Keeps s t) (l n) : Keeps s (State.replaySets t l n) := by
  induction n generalizing t l with
  | zero => exact h
  | succ n ih =>
    refine .ite h (ih ?_ _)
    split
    · exact .ofExc (.judgeSet h _) ‹_›
    · exact h

theorem Keeps.replay (h : Keeps s t) : Keeps s t.replay :=
  .replaySets (.fold (fun _ _ h => .replayOne h _) h) _ _

theorem Keeps.mendPages (h : Keeps s t) (n) : Keeps s (State.mendPages t n) := by
  induction n generalizing t with
  | zero => exact h
  | succ n ih => exact ih (.ite (.getD (.indetAck (.flRelocate h _ _ _ _ _) _) (.flRelocate h _ _ _ _ _)) h)

theorem Keeps.startUpdate (h : Keeps s t) : Keeps s t.startUpdate := by
  dsimp only [State.startUpdate]
  refine .ite (.updState (.unless (.mendPages h _) (fun h => .setO (.modBoot (.setO (.setO h _ _) _ _) _) _ _)) _) (.ite ?_
    (.when (.unless (.mendPages h _) (fun h => .setO (.modBoot (.setO (.setO h _ _) _ _) _) _ _)) (fun h => .updState h _)))
  split
  · exact .updReject (.unless (.mendPages h _) (fun h => .setO (.modBoot (.setO (.setO h _ _) _ _) _) _ _)) _
  · exact .updState (.unless (.mendPages h _) (fun h => .setO (.modBoot (.setO (.setO h _ _) _ _) _) _ _)) _

theorem Keeps.startTrial (h : Keeps s t) : Keeps s t.startTrial :=
  .modBoot h _

theorem Keeps.startParked (h : Keeps s t) : Keeps s t.startParked :=
  .fold (fun _ _ h => .getD (.lcPark h _) (.modSlice h _ _)) h

theorem execBaseFirmwareStart_keeps (h : Keeps s t) : KeepsOut s (execBaseFirmwareStart t) :=
  .ite (.next h) (.next (.addrState (.startParked (.replay (.startTrial (.startUpdate (.startKeys (.startMeasure (.release8 h
    _))))))) _))

/-! ## Machine/Tick -/

theorem Keeps.deadlines (h : Keeps s t) (from_) : Keeps s (t.deadlines from_) :=
  .fold (fun _ _ h => .raise h _ _ _) (.withTime h)

theorem Keeps.sledFree (h : Keeps s t) (n i) : Keeps s (t.sledFree n i) :=
  .wn h _ _ _

theorem Keeps.sledQueue (h : Keeps s t) (n i kind ref) : Keeps s (t.sledQueue n i kind ref) :=
  .writeRecord h _ _ _ _ _ _ _ _ _ _ _

theorem Keeps.sledStart (h : Keeps s t) (n p) : Keeps s (t.sledStart n p) := by
  dsimp only [State.sledStart]
  split
  · exact .fold (fun _ _ h => .sledFree h _ _) h
  · exact .fold (fun _ _ h => .sledQueue h _ _ _ _) (.fold (fun _ _ h => .when (.sledQueue h _ _ _ _) (fun h => .entryEnd h _ _ _
      _ _)) (.fold (fun _ _ h => .sledFree h _ _) h))

theorem Keeps.frameBegin (h : Keeps s t) (n st) : Keeps s (t.frameBegin n st) :=
  .inc (.inc (.fpPipe (.when (.sledStart (.setO (.modSlice h _ _) _ _) _ _) (fun h => .fpStatus (.setO h _ _) _ _)) _) _) _

theorem Keeps.lcTick (h : Keeps s t) (n) : Keeps s (t.lcTick n) :=
  .ite (.modSlice h _ _) (.frameBegin (.ite (.missSlice h _ _ _) h) _ _)

theorem Keeps.wireBoundary (h : Keeps s t) (p) : Keeps s (t.wireBoundary p) :=
  .ite (.modWire h _ _) h

theorem Keeps.idleBoundary (h : Keeps s t) (n) : Keeps s (t.idleBoundary n) :=
  .modSlice h _ _

theorem Keeps.ceBoundary (h : Keeps s t) (c) : Keeps s (t.ceBoundary c) :=
  .modDram (.setO h _ _) _

theorem Keeps.rollBoundary (h : Keeps s t) : Keeps s t.rollBoundary := by
  dsimp only [State.rollBoundary]
  split
  · refine .ite ?_ h
    split
    · exact .ofExc (.judgeSet h _) ‹_›
    · exact h
  · exact h

theorem Keeps.superBoundary (h : Keeps s t) (age) : Keeps s (t.superBoundary age) :=
  .runBoundary (.rollBoundary (.superMonitors (.modSteps (.fold (fun _ _ h => .ceBoundary h _) (.nbBoundary (.fold (fun _ _ h =>
    .wireBoundary h _) (.fold (fun _ _ h => .idleBoundary (.mapNew h _) _) h)))) _) _))

theorem Keeps.tickFlags (h : Keeps s t) : Keeps s t.tickFlags := by
  dsimp only [State.tickFlags]
  refine .modSteps (.fold (fun _ _ h => .modPool h _ _) ?_) _
  exact .same h rfl rfl rfl

theorem Keeps.tickDue (h : Keeps s t) : Keeps s t.tickDue := by
  dsimp only [State.tickDue]
  refine .ungateDue (.mapTick ?_)
  split
  · exact h
  · exact .modFab (.setO h _ _) _

theorem Keeps.tickRun (h : Keeps s t) (f age) : Keeps s (t.tickRun f age) :=
  .beaconTick (.drainAll (.hmpShow (.dwlMax (.dwlMax (.when (.fold (fun _ _ h => .lcTick h _) (.tickDue (.applyCommits (.airTurn
    (.snapLatch (.when (.countDue (.when (.tickFlags (.modBoot h _)) (fun h => .fold (fun _ _ h => .mapPublish h _) h))) (fun h
    => .reportBoundary h)))) _))) (fun h => .superBoundary h _)) _) _)))

theorem execTickBoundary_keeps (h : Keeps s t) (age) : KeepsOut s (execTickBoundary age t) :=
  .ite (.next h) (.ite (.next (.resetsRun (.tcTick (.deadlines (.withTime (.upTo h _)) _) _))) (.next (.tickRun (.tcTick
    (.deadlines (.withTime (.upTo h _)) _) _) _ _)))

theorem Keeps.lsnApply (h : Keeps s t) (n ws) : Keeps s (t.lsnApply n ws) :=
  .fold (fun _ _ h => .assign h _ _ _) h

theorem Keeps.putSurvey (h : Keeps s t) (n k v) : Keeps s (t.putSurvey n k v) :=
  .ite h (.modLsn h _ _ _)

theorem Keeps.surveys (h : Keeps s t) (n ws) : Keeps s (t.surveys n ws) :=
  .fold (fun _ _ h => .putSurvey h _ _ _) (.fold (fun _ _ h => .ite h (.putSurvey h _ _ _)) h)

theorem Keeps.calStart (h : Keeps s t) (n) : Keeps s (t.calStart n) :=
  .ite (.ite (.beginCal h _) h) (.ite (.beginCal h _) h)

theorem Keeps.slotTemp (h : Keeps s t) (n t') : Keeps s (t.slotTemp n t') :=
  .when (.setI (.setI h _ _ _) _ _ _) (fun h => .calRequest h _ _)

theorem Keeps.slotSlice (h : Keeps s t) (n t') : Keeps s (t.slotSlice n t') :=
  .ite h (.unless (.slotTemp h _ _) (fun h => .surveys (.lsnApply (.tunerTake (.calStart (.capAdvance h _) _) _) _ _) _ _))

theorem execSlotBoundary_keeps (h : Keeps s t) (vin v5 tj slack temps) : KeepsOut s (execSlotBoundary vin v5 tj slack temps t) :=
  .ite (.next h) (.next (.holdSlot (.slotMonitors (.fold (fun _ _ h => .slotSlice h _ _) (.slewSlot (.tcSlot (.withTime (.upTo h
    _))))) _ _ _ _)))

theorem execFallbackStall_keeps (h : Keeps s t) (n) : KeepsOut s (execFallbackStall n t) :=
  .ite (.next (.raise (.modSlice h _ _) _ _ _)) (.next h)

/-! ## Machine/Dispatch and Machine/Step -/

/-- Each command keeps the form, by the lemma of its meaning. -/
theorem exec_keeps (hst : Keeps s t) (c : Instr) : KeepsOut s (exec c t) := by
  cases c with
  | tickBoundary age => exact execTickBoundary_keeps hst age
  | slotBoundary vin v5 tj slack temps => exact execSlotBoundary_keeps hst vin v5 tj slack temps
  | missCounterClear who slice cls v => exact execMissCounterClear_keeps hst who slice cls v
  | wideReadLowLatch who k => exact execWideReadLowLatch_keeps hst who k
  | wideWriteLow who k v => exact execWideWriteLow_keeps hst who k v
  | wideWriteHigh who k v => exact execWideWriteHigh_keeps hst who k v
  | fallbackStall n => exact execFallbackStall_keeps hst n
  | counterSourceEvent n => exact execCounterSourceEvent_keeps hst n
  | counterCapture n => exact execCounterCapture_keeps hst n
  | tcRun who n run => exact execTcRun_keeps hst who n run
  | tcClear who n => exact execTcClear_keeps hst who n
  | tcSwcap who n => exact execTcSwcap_keeps hst who n
  | tcCountWrite who n v => exact execTcCountWrite_keeps hst who n v
  | tcCountRead n => exact execTcCountRead_keeps hst n
  | tcCapRead n capture => exact execTcCapRead_keeps hst n capture
  | tcFlagsClear n v => exact execTcFlagsClear_keeps hst n v
  | panelDebounceExpiry k => exact execPanelDebounceExpiry_keeps hst k
  | panelHoldExpiry k => exact execPanelHoldExpiry_keeps hst k
  | touchScanStart k => exact execTouchScanStart_keeps hst k
  | touchMeasurementDone k cap => exact execTouchMeasurementDone_keeps hst k cap
  | touchFault k => exact execTouchFault_keeps hst k
  | synCmdCalibrate n => exact execSynCmdCalibrate_keeps hst n
  | calForced n => exact execCalForced_keeps hst n
  | synthCalDone n lock => exact execSynthCalDone_keeps hst n lock
  | synthSettleDone n => exact execSynthSettleDone_keeps hst n
  | synthSettleTimeout n => exact execSynthSettleTimeout_keeps hst n
  | unlock n => exact execUnlock_keeps hst n
  | entryPrepare n => exact execEntryPrepare_keeps hst n
  | txRampStart n => exact execTxRampStart_keeps hst n
  | txStartDeadline n => exact execTxStartDeadline_keeps hst n
  | txEnd n => exact execTxEnd_keeps hst n
  | txPaOff n rl fwd => exact execTxPaOff_keeps hst n rl fwd
  | blankingEnd n => exact execBlankingEnd_keeps hst n
  | aerialSwitchSettled n => exact execAerialSwitchSettled_keeps hst n
  | probe n p rl => exact execProbe_keeps hst n p rl
  | tunerSearch n rls => exact execTunerSearch_keeps hst n rls
  | gainStepDown n => exact execGainStepDown_keeps hst n
  | gainWindowEnd n rms => exact execGainWindowEnd_keeps hst n rms
  | gainForcedUp n => exact execGainForcedUp_keeps hst n
  | preambleDetected n k first => exact execPreambleDetected_keeps hst n k first
  | aerialDecision n k ea eb => exact execAerialDecision_keeps hst n k ea eb
  | qualifier n k h => exact execQualifier_keeps hst n k h
  | syncTimeout n k => exact execSyncTimeout_keeps hst n k
  | mapResolve n k addr check => exact execMapResolve_keeps hst n k addr check
  | frameLastSample n k endAt => exact execFrameLastSample_keeps hst n k endAt
  | drainDone n k raw m sc => exact execDrainDone_keeps hst n k raw m sc
  | gridOutputsValid n bank => exact execGridOutputsValid_keeps hst n bank
  | mapperBlockAdmit n chan start p => exact execMapperBlockAdmit_keeps hst n chan start p
  | captureArm who n => exact execCaptureArm_keeps hst who n
  | captureTriggerNow n => exact execCaptureTriggerNow_keeps hst n
  | captureStop n data => exact execCaptureStop_keeps hst n data
  | captureAtExpiry n => exact execCaptureAtExpiry_keeps hst n
  | captureDone n data => exact execCaptureDone_keeps hst n data
  | captureOverrun n data => exact execCaptureOverrun_keeps hst n data
  | fpCommit who n addr => exact execFpCommit_keeps hst who n addr
  | fpCheckDone n => exact execFpCheckDone_keeps hst n
  | commitDeadline n => exact execCommitDeadline_keeps hst n
  | withdraw who n => exact execWithdraw_keeps hst who n
  | stop who n => exact execStop_keeps hst who n
  | park who n => exact execPark_keeps hst who n
  | uplinkWindowClose n => exact execUplinkWindowClose_keeps hst n
  | ackVerdictCutoff n => exact execAckVerdictCutoff_keeps hst n
  | ccaAssess n pw => exact execCcaAssess_keeps hst n pw
  | airtimeBinTurnover => exact execAirtimeBinTurnover_keeps hst
  | micVerifyDone n slot => exact execMicVerifyDone_keeps hst n slot
  | seqJudge => exact execSeqJudge_keeps hst
  | coldLookupDone n slot => exact execColdLookupDone_keeps hst n slot
  | rxqPublish n => exact execRxqPublish_keeps hst n
  | rxqConsWrite who n v => exact execRxqConsWrite_keeps hst who n v
  | hotPin who h => exact execHotPin_keeps hst who h
  | hotUnpin who h => exact execHotUnpin_keeps hst who h
  | cipherSchedBlock tag sf drift tsync => exact execCipherSchedBlock_keeps hst tag sf drift tsync
  | reportMapInstall addr map => exact execReportMapInstall_keeps hst addr map
  | mapCompute n addr q => exact execMapCompute_keeps hst n addr q
  | floodTake => exact execFloodTake_keeps hst
  | floodWiredSend p => exact execFloodWiredSend_keeps hst p
  | floodWiredDeadline t p => exact execFloodWiredDeadline_keeps hst t p
  | floodJitterEnd t => exact execFloodJitterEnd_keeps hst t
  | relayBind who n ix => exact execRelayBind_keeps hst who n ix
  | relayDeadline n ix => exact execRelayDeadline_keeps hst n ix
  | relayBoundSettle n ix => exact execRelayBoundSettle_keeps hst n ix
  | fldDqConsWrite who v => exact execFldDqConsWrite_keeps hst who v
  | helloSend p => exact execHelloSend_keeps hst p
  | fabricDatagramRx p hop sumOk payload => exact execFabricDatagramRx_keeps hst p hop sumOk payload
  | helloRx p => exact execHelloRx_keeps hst p
  | peerLost p => exact execPeerLost_keeps hst p
  | radioNeighbourUpdate n ix => exact execRadioNeighbourUpdate_keeps hst n ix
  | addrListenEnd => exact execAddrListenEnd_keeps hst
  | addrClaimWaitEnd => exact execAddrClaimWaitEnd_keeps hst
  | claimRx ix => exact execClaimRx_keeps hst ix
  | conflictOriginate => exact execConflictOriginate_keeps hst
  | conflictWaitEnd => exact execConflictWaitEnd_keeps hst
  | lsaOriginate => exact execLsaOriginate_keeps hst
  | lsdbUpdate ix => exact execLsdbUpdate_keeps hst ix
  | lsdbRecordExpire a => exact execLsdbRecordExpire_keeps hst a
  | spfRun => exact execSpfRun_keeps hst
  | fabTrailCommit who v => exact execFabTrailCommit_keeps hst who v
  | unicastTake => exact execUnicastTake_keeps hst
  | unicastWiredSend p => exact execUnicastWiredSend_keeps hst p
  | forwardBind who n ix => exact execForwardBind_keeps hst who n ix
  | forwardDeadline n ix => exact execForwardDeadline_keeps hst n ix
  | forwardBoundSettle n ix => exact execForwardBoundSettle_keeps hst n ix
  | fabUqConsWrite who v => exact execFabUqConsWrite_keeps hst who v
  | timeReqSend p => exact execTimeReqSend_keeps hst p
  | timeReqRx p => exact execTimeReqRx_keeps hst p
  | timeRspSend p => exact execTimeRspSend_keeps hst p
  | timeRspRx p => exact execTimeRspRx_keeps hst p
  | timeExchangeMiss p => exact execTimeExchangeMiss_keeps hst p
  | beaconTimeMeasure n ix => exact execBeaconTimeMeasure_keeps hst n ix
  | timingSuperframeCheck => exact execTimingSuperframeCheck_keeps hst
  | parentSwitch => exact execParentSwitch_keeps hst
  | referenceTake => exact execReferenceTake_keeps hst
  | fabTimeSet who v => exact execFabTimeSet_keeps hst who v
  | rosterCheck => exact execRosterCheck_keeps hst
  | rosterRx ix => exact execRosterRx_keeps hst ix
  | rosterAdopt => exact execRosterAdopt_keeps hst
  | handoverRx ix => exact execHandoverRx_keeps hst ix
  | handoverTimeout shard q => exact execHandoverTimeout_keeps hst shard q
  | tagfwdSend n ix => exact execTagfwdSend_keeps hst n ix
  | tagfwdRx ix => exact execTagfwdRx_keeps hst ix
  | pressCount => exact execPressCount_keeps hst
  | rollupSend => exact execRollupSend_keeps hst
  | rollupRx ix => exact execRollupRx_keeps hst ix
  | hcReport => exact execHcReport_keeps hst
  | qOpen who q => exact execQOpen_keeps hst who q
  | qCancel who q => exact execQCancel_keeps hst who q
  | questionReflood => exact execQuestionReflood_keeps hst
  | questionRx ix => exact execQuestionRx_keeps hst ix
  | questionOpenAt q => exact execQuestionOpenAt_keeps hst q
  | questionCloseAt q => exact execQuestionCloseAt_keeps hst q
  | questionFinal q => exact execQuestionFinal_keeps hst q
  | ltnSend who => exact execLtnSend_keeps hst who
  | cueRx ix => exact execCueRx_keeps hst ix
  | cueFire => exact execCueFire_keeps hst
  | hmpStart who => exact execHmpStart_keeps hst who
  | hmpStop who => exact execHmpStop_keeps hst who
  | catalogReflood => exact execCatalogReflood_keeps hst
  | pieceSeed => exact execPieceSeed_keeps hst
  | pieceRx flood ix => exact execPieceRx_keeps hst flood ix
  | pieceReqSend => exact execPieceReqSend_keeps hst
  | pieceReqRx ix => exact execPieceReqRx_keeps hst ix
  | tagPieceSend tag k => exact execTagPieceSend_keeps hst tag k
  | homeDecide tag fcnt => exact execHomeDecide_keeps hst tag fcnt
  | homeRx ix => exact execHomeRx_keeps hst ix
  | homeLapse tag => exact execHomeLapse_keeps hst tag
  | bskUpRx ix => exact execBskUpRx_keeps hst ix
  | bskRecordSend => exact execBskRecordSend_keeps hst
  | bskAckedWrite who v => exact execBskAckedWrite_keeps hst who v
  | bskStatusSend => exact execBskStatusSend_keeps hst
  | bskDnSend who => exact execBskDnSend_keeps hst who
  | bskDownRx page ix => exact execBskDownRx_keeps hst page ix
  | bskDownTx req fcnt => exact execBskDownTx_keeps hst req fcnt
  | dnAckRx n ix => exact execDnAckRx_keeps hst n ix
  | bskDnExpire req => exact execBskDnExpire_keeps hst req
  | shlGenerate who => exact execShlGenerate_keeps hst who
  | shlImport who => exact execShlImport_keeps hst who
  | shlExport who => exact execShlExport_keeps hst who
  | shlAgree who => exact execShlAgree_keeps hst who
  | shlDerive who => exact execShlDerive_keeps hst who
  | shlErase who => exact execShlErase_keeps hst who
  | shlRestrict who => exact execShlRestrict_keeps hst who
  | shlCtrSync who => exact execShlCtrSync_keeps hst who
  | shlPermit who => exact execShlPermit_keeps hst who
  | shlAttest who => exact execShlAttest_keeps hst who
  | shlPubkey who => exact execShlPubkey_keeps hst who
  | shlSign who => exact execShlSign_keeps hst who
  | shlVerify who => exact execShlVerify_keeps hst who
  | shlSetOwner who => exact execShlSetOwner_keeps hst who
  | shellCmd => exact execShellCmd_keeps hst
  | shellReady => exact execShellReady_keeps hst
  | drbgReseed => exact execDrbgReseed_keeps hst
  | rngFail => exact execRngFail_keeps hst
  | rngRecover windows => exact execRngRecover_keeps hst windows
  | alarmSourceDetect src stopped => exact execAlarmSourceDetect_keeps hst src stopped
  | alarmLatch src => exact execAlarmLatch_keeps hst src
  | keyBusClose cuts => exact execKeyBusClose_keeps hst cuts
  | slotZeroise => exact execSlotZeroise_keeps hst
  | fusePurge => exact execFusePurge_keeps hst
  | measExtend who ix v => exact execMeasExtend_keeps hst who ix v
  | debugChallenge => exact execDebugChallenge_keeps hst
  | debugResponse b => exact execDebugResponse_keeps hst b
  | debugUnlockEnd => exact execDebugUnlockEnd_keeps hst
  | jobCopy who a => exact execJobCopy_keeps hst who a
  | jobFill who a => exact execJobFill_keeps hst who a
  | jobCipher who a => exact execJobCipher_keeps hst who a
  | jobHash who a => exact execJobHash_keeps hst who a
  | jobCrcFeed who a => exact execJobCrcFeed_keeps hst who a
  | jobCrcAppend who a => exact execJobCrcAppend_keeps hst who a
  | jobCrcStrip who a => exact execJobCrcStrip_keeps hst who a
  | jobFlood who a => exact execJobFlood_keeps hst who a
  | jobSend who a => exact execJobSend_keeps hst who a
  | jobStart => exact execJobStart_keeps hst
  | jobEnd t units begun lines => exact execJobEnd_keeps hst t units begun lines
  | jobDeadline t => exact execJobDeadline_keeps hst t
  | jobRecovery => exact execJobRecovery_keeps hst
  | jobLedConsWrite who v => exact execJobLedConsWrite_keeps hst who v
  | snapshotPublish => exact execSnapshotPublish_keeps hst
  | poolFree who p c => exact execPoolFree_keeps hst who p c
  | crcDataFeed who u width v => exact execCrcDataFeed_keeps hst who u width v
  | crcStart who u => exact execCrcStart_keeps hst who u
  | crcFlagsClear u v => exact execCrcFlagsClear_keeps hst u v
  | nop c => exact execNop_keeps hst c
  | dup c => exact execDup_keeps hst c
  | drop c => exact execDrop_keeps hst c
  | swap c => exact execSwap_keeps hst c
  | overElem c => exact execOverElem_keeps hst c
  | rot c => exact execRot_keeps hst c
  | nip c => exact execNip_keeps hst c
  | pick c => exact execPick_keeps hst c
  | depth c => exact execDepth_keeps hst c
  | tor c => exact execTor_keeps hst c
  | fromr c => exact execFromr_keeps hst c
  | rfetch c => exact execRfetch_keeps hst c
  | lit8 c ix => exact execLit8_keeps hst c ix
  | lit16 c ix => exact execLit16_keeps hst c ix
  | lit32 c ix => exact execLit32_keeps hst c ix
  | litn c n => exact execLitn_keeps hst c n
  | add c => exact execAdd_keeps hst c
  | sub c => exact execSub_keeps hst c
  | neg c => exact execNeg_keeps hst c
  | mul c => exact execMul_keeps hst c
  | mull c => exact execMull_keeps hst c
  | mullu c => exact execMullu_keeps hst c
  | divs c => exact execDivs_keeps hst c
  | divu c => exact execDivu_keeps hst c
  | and c => exact execAnd_keeps hst c
  | or c => exact execOr_keeps hst c
  | xor c => exact execXor_keeps hst c
  | not c => exact execNot_keeps hst c
  | shl c => exact execShl_keeps hst c
  | shr c => exact execShr_keeps hst c
  | sar c => exact execSar_keeps hst c
  | rol c => exact execRol_keeps hst c
  | ror c => exact execRor_keeps hst c
  | eq c => exact execEq_keeps hst c
  | ne c => exact execNe_keeps hst c
  | lt c => exact execLt_keeps hst c
  | ltu c => exact execLtu_keeps hst c
  | gt c => exact execGt_keeps hst c
  | gtu c => exact execGtu_keeps hst c
  | eqz c => exact execEqz_keeps hst c
  | ldw c cb => exact execLdw_keeps hst c cb
  | ldh c cb => exact execLdh_keeps hst c cb
  | ldhs c cb => exact execLdhs_keeps hst c cb
  | ldb c cb => exact execLdb_keeps hst c cb
  | ldbs c cb => exact execLdbs_keeps hst c cb
  | stw c => exact execStw_keeps hst c
  | sth c => exact execSth_keeps hst c
  | stb c => exact execStb_keeps hst c
  | ldd c cb0 cb1 => exact execLdd_keeps hst c cb0 cb1
  | std c => exact execStd_keeps hst c
  | swp c => exact execSwp_keeps hst c
  | cas c => exact execCas_keeps hst c
  | jmp c off => exact execJmp_keeps hst c off
  | jz c off => exact execJz_keeps hst c off
  | jnz c off => exact execJnz_keeps hst c off
  | call c off => exact execCall_keeps hst c off
  | jmp8 c off => exact execJmp8_keeps hst c off
  | jz8 c off => exact execJz8_keeps hst c off
  | jnz8 c off => exact execJnz8_keeps hst c off
  | ret c => exact execRet_keeps hst c
  | jmpi c => exact execJmpi_keeps hst c
  | calli c => exact execCalli_keeps hst c
  | trap c n => exact execTrap_keeps hst c n
  | rett c => exact execRett_keeps hst c
  | wait c => exact execWait_keeps hst c
  | evget c => exact execEvget_keeps hst c
  | evpost c => exact execEvpost_keeps hst c
  | rdsr c n => exact execRdsr_keeps hst c n
  | wrsr c n => exact execWrsr_keeps hst c n
  | brk c => exact execBrk_keeps hst c
  | xldw c cb => exact execXldw_keeps hst c cb
  | xstw c => exact execXstw_keeps hst c
  | grow c => exact execGrow_keeps hst c
  | eventArrive c code src arg => exact execEventArrive_keeps hst c code src arg
  | corRestart who c => exact execCorRestart_keeps hst who c
  | corHold who c => exact execCorHold_keeps hst who c
  | corRelease who v => exact execCorRelease_keeps hst who v
  | dramRequest c arrived => exact execDramRequest_keeps hst c arrived
  | scrubRead fill err => exact execScrubRead_keeps hst fill err
  | dramInit => exact execDramInit_keeps hst
  | dramReady => exact execDramReady_keeps hst
  | dramPanic n level waited => exact execDramPanic_keeps hst n level waited
  | rhVictimRefresh => exact execRhVictimRefresh_keeps hst
  | rhWindowStart => exact execRhWindowStart_keeps hst
  | dramRefresh c bank base => exact execDramRefresh_keeps hst c bank base
  | dramRetrainPause eye temp0 temp1 => exact execDramRetrainPause_keeps hst eye temp0 temp1
  | dramFenceCheck => exact execDramFenceCheck_keeps hst
  | dramFenced c => exact execDramFenced_keeps hst c
  | drmRtnMaxlevelReset who n v => exact execDrmRtnMaxlevelReset_keeps hst who n v
  | flProgram c => exact execFlProgram_keeps hst c
  | flErase c => exact execFlErase_keeps hst c
  | flRelocate c => exact execFlRelocate_keeps hst c
  | flCtrword c => exact execFlCtrword_keeps hst c
  | flBlank c => exact execFlBlank_keeps hst c
  | flReadchk c cbs => exact execFlReadchk_keeps hst c cbs
  | flSector c => exact execFlSector_keeps hst c
  | flashPageProgram t pulses => exact execFlashPageProgram_keeps hst t pulses
  | flashMappingRecord t q => exact execFlashMappingRecord_keeps hst t q
  | backgroundErase b => exact execBackgroundErase_keeps hst b
  | backgroundEraseDone b => exact execBackgroundEraseDone_keeps hst b
  | flashReadSuspend b => exact execFlashReadSuspend_keeps hst b
  | flashResume b => exact execFlashResume_keeps hst b
  | flsLockWrite who v rom => exact execFlsLockWrite_keeps hst who v rom
  | flsIndetAck who v => exact execFlsIndetAck_keeps hst who v
  | ethFrameRx p frame fcsOk => exact execEthFrameRx_keeps hst p frame fcsOk
  | neighborSolicitationRx p => exact execNeighborSolicitationRx_keeps hst p
  | echoRequestRx p => exact execEchoRequestRx_keeps hst p
  | linkUp p level sqi reversed => exact execLinkUp_keeps hst p level sqi reversed
  | linkDown p => exact execLinkDown_keeps hst p
  | hspiStatus ready => exact execHspiStatus_keeps hst ready
  | hspiWrite data crc cut ready => exact execHspiWrite_keeps hst data crc cut ready
  | hspiRead cut => exact execHspiRead_keeps hst cut
  | hspiDbgWrite data crc cut ready => exact execHspiDbgWrite_keeps hst data crc cut ready
  | hspiDbgRead cut => exact execHspiDbgRead_keeps hst cut
  | memRead => exact execMemRead_keeps hst
  | memWrite => exact execMemWrite_keeps hst
  | step => exact execStep_keeps hst
  | openReq => exact execOpenReq_keeps hst
  | openFin => exact execOpenFin_keeps hst
  | sessionOpenTimeout x => exact execSessionOpenTimeout_keeps hst x
  | securedRx => exact execSecuredRx_keeps hst
  | read => exact execRead_keeps hst
  | write => exact execWrite_keeps hst
  | blockRead => exact execBlockRead_keeps hst
  | blockWrite => exact execBlockWrite_keeps hst
  | commit => exact execCommit_keeps hst
  | subscribe => exact execSubscribe_keeps hst
  | unsubscribe => exact execUnsubscribe_keeps hst
  | close => exact execClose_keeps hst
  | ping => exact execPing_keeps hst
  | notify => exact execNotify_keeps hst
  | sessionIdleTimeout x => exact execSessionIdleTimeout_keeps hst x
  | comSsClose x => exact execComSsClose_keeps hst x
  | comHndDone who slot => exact execComHndDone_keeps hst who slot
  | handlerTimeout => exact execHandlerTimeout_keeps hst
  | stageWrite who k v b => exact execStageWrite_keeps hst who k v b
  | comCommit who v => exact execComCommit_keeps hst who v
  | comDomSel who v => exact execComDomSel_keeps hst who v
  | comDomLen who v => exact execComDomLen_keeps hst who v
  | comDomDataWrite who v => exact execComDomDataWrite_keeps hst who v
  | comDomDataRead who => exact execComDomDataRead_keeps hst who
  | comFwVal who v => exact execComFwVal_keeps hst who v
  | registerWrite who k v b => exact execRegisterWrite_keeps hst who k v b
  | evtPost who b => exact execEvtPost_keeps hst who b
  | evtLogClear who v => exact execEvtLogClear_keeps hst who v
  | evtRouteReset who v => exact execEvtRouteReset_keeps hst who v
  | evtDropClear who v => exact execEvtDropClear_keeps hst who v
  | gpioEdge p level => exact execGpioEdge_keeps hst p level
  | gioSet who v => exact execGioSet_keeps hst who v
  | gioClr who v => exact execGioClr_keeps hst who v
  | gioToggle who v => exact execGioToggle_keeps hst who v
  | gioAtWrite who p v => exact execGioAtWrite_keeps hst who p v
  | gpioTimedDrive p => exact execGpioTimedDrive_keeps hst p
  | buckStart vin => exact execBuckStart_keeps hst vin
  | powerUpSequence => exact execPowerUpSequence_keeps hst
  | pgGood resetN => exact execPgGood_keeps hst resetN
  | powerFail cause vin => exact execPowerFail_keeps hst cause vin
  | buckStop => exact execBuckStop_keeps hst
  | railFault rail => exact execRailFault_keeps hst rail
  | railFaultRestart => exact execRailFaultRestart_keeps hst
  | thermalShutdown => exact execThermalShutdown_keeps hst
  | thermalRestart => exact execThermalRestart_keeps hst
  | sccp vin ok => exact execSccp_keeps hst vin ok
  | sccpClassWrite who v => exact execSccpClassWrite_keeps hst who v
  | pstate => exact execPstate_keeps hst
  | dozeEntry => exact execDozeEntry_keeps hst
  | hibernateEntry => exact execHibernateEntry_keeps hst
  | wakeSource c => exact execWakeSource_keeps hst c
  | dozeWake => exact execDozeWake_keeps hst
  | hibernateWake cycles => exact execHibernateWake_keeps hst cycles
  | pwrTableWrite who b => exact execPwrTableWrite_keeps hst who b
  | marginGuard => exact execMarginGuard_keeps hst
  | pwrCpsSurveyCmd who v => exact execPwrCpsSurveyCmd_keeps hst who v
  | compassSurvey => exact execCompassSurvey_keeps hst
  | compassPlan lines => exact execCompassPlan_keeps hst lines
  | vcoreLowerStep => exact execVcoreLowerStep_keeps hst
  | pinReset width => exact execPinReset_keeps hst width
  | corResetCmd who v => exact execCorResetCmd_keeps hst who v
  | romBoot mode time => exact execRomBoot_keeps hst mode time
  | baseFirmwareStart => exact execBaseFirmwareStart_keeps hst
  | recStatus => exact execRecStatus_keeps hst
  | recWrite off data crc => exact execRecWrite_keeps hst off data crc
  | recDone total time => exact execRecDone_keeps hst total time
  | imCheck c => exact execImCheck_keeps hst c
  | imSwitchRoll c => exact execImSwitchRoll_keeps hst c
  | imSwitchReset c => exact execImSwitchReset_keeps hst c
  | imConfirm c => exact execImConfirm_keeps hst c
  | imAbandon c => exact execImAbandon_keeps hst c
  | updPieceWrite x b => exact execUpdPieceWrite_keeps hst x b
  | bundleComplete => exact execBundleComplete_keeps hst
  | updActAtWrite x v => exact execUpdActAtWrite_keeps hst x v
  | updCheck x => exact execUpdCheck_keeps hst x
  | updCancel x => exact execUpdCancel_keeps hst x
  | updAbandon x => exact execUpdAbandon_keeps hst x
  | updClear x => exact execUpdClear_keeps hst x
  | updateActivate => exact execUpdateActivate_keeps hst
  | rollStep soft => exact execRollStep_keeps hst soft
  | healthCheck => exact execHealthCheck_keeps hst
  | healthDeadline => exact execHealthDeadline_keeps hst
  | sampleClockLockLost n => exact execSampleClockLockLost_keeps hst n
  | sampleClockLockReturn n => exact execSampleClockLockReturn_keeps hst n
  | xo32kStart => exact execXo32kStart_keeps hst
  | buckRestart vin => exact execBuckRestart_keeps hst vin
  | reservedOpcode c => exact execReservedOpcode_keeps hst c
  | vcoreRampDone => exact execVcoreRampDone_keeps hst

theorem step_keeps (s : State) : KeepsOut s (step s) := by
  unfold step
  split
  · exact .next id
  · exact exec_keeps (.withPending id) _

/-- Settles O59: a step is a command's meaning or an idle step, and each of them keeps the form (`exec_keeps`). -/
theorem stepKeepsCanonicalForm : Obligations.StepKeepsCanonicalForm := by
  unfold Obligations.StepKeepsCanonicalForm
  intro s t hs ht
  exact Keeps.ofOut (step_keeps s) ht hs

end

end Sys2Proof.Machine
